-- ==== Sys2Proof/Word.lean ====
section
/-! DEFINITION. The word types of the model and nothing else: a register word, a double word and a byte of memory. -/
namespace Sys2Proof

/-- One byte of memory (R105, R34). -/
abbrev Byte := BitVec 8

/-- One 32-bit word: a page register, an SV-32 or Swell general register (R43, R302). -/
abbrev Word := BitVec 32

/-- One 64-bit value of two registers: an instant or a coordinate as a register pair carries it (R12, R13). -/
abbrev DWord := BitVec 64

end Sys2Proof
end

