-- ==== Sys2Proof/Syntax.lean ====
section
/-! DEFINITION. The commands of the block: one constructor of `Instr` per row of spec/opcode_table.json, with the row's
operands, and the small types those operands are made of. -/
namespace Sys2Proof

/-- The masters of the register fabric (R17). -/
inductive Master where
  | host | headland
  | swell (engine : Nat)
  | tracker | dma | rollWriter | breakwater | tidemark | debug
deriving DecidableEq, Repr

/-- The register pages of R42, one constructor per row of the page index, with the row's instance number. -/
inductive Page where
  | sys | clk | pwr | lee | tml
  | bwCtl | bwFc | bwMap | bwMon | slk | lks
  | tb | tqf | ebb | tqs
  | tio (k : Nat) | tioc
  | t1sc | t1s (q : Nat) | tsn (n : Nat)
  | trk | rmap
  | surfG (g : Nat) | surfL (g : Nat)
  | ghIn (q : Nat) | ghOut (p : Nat) | ghInL (i : Nat) | ghOutL
  | swell (e : Nat)
  | tmr (k : Nat) | tmx
  | wdt (w : Nat) | swdt
  | cv (c : Nat)
  | guard (i : Nat) | guardS (k : Nat)
  | bistC | bistR | rep
  | lc | fuse | sboot
  | hrp
  | dmac | dma (k : Nat)
  | icc | icl | icp
deriving DecidableEq, Repr

/-- One access on the register fabric (R49, R58): its master, byte address, width in bytes, value (0 for a read), and
whether the end-to-end code it arrives with is valid (R72). -/
structure Access where
  m : Master
  addr : Nat
  size : Nat
  val : Nat
  e2e : Bool
deriving DecidableEq, Repr

/-- What became of an entry crossing the compute–field link (R22, R97). -/
inductive LinkOutcome where
  | ok | crcFail | lost
deriving DecidableEq, Repr

/-- What became of a received network frame's checks outside the model's words: the FCS (R139). -/
structure RxFrame where
  fcsOk : Bool
  ackReq : Bool
  retry : Bool
  version : Nat
  type : Nat
  reserved : Nat
  seq : Nat
  asTime : Nat
  /-- The records: object (24 bits) and value. -/
  records : List (Nat × Word)
  wdSeq : Nat
  safeCrc : Word
deriving DecidableEq, Repr

/-- A memory that the scrub of R413 visits, with the unit that owns it where a reaction can fence it (R420). -/
inductive MemKind where
  | tcm (core : Nat) | sram | swell (engine : Nat) | surf (group : Nat) | tracker | tqf | dma
deriving DecidableEq, Repr

/-- What the scrub found at a word: nothing, a correctable error, or an uncorrectable one (R413). -/
inductive ScrubResult where
  | clean | corrected | uncorrectable
deriving DecidableEq, Repr

/-- What a monitor of R416 measured for its whole filter time: a rail in mV (numbered in the table's order: 0 VCORE,
1 VSRAM, 2 VSERDES 0.9 V, 3 VSERDES 1.2 V, 4 VIO_TIO of a bank, 5 VIO_TIO of bank 0, 6 VIO_T1S, 7 VANA, 8 VSUP, 9 VHOLD)
and, for a bank, whether it is a 3.3 V bank; a clock of sources 0x27 to 0x2D, its SerDes quad page for 0x29 (0–6), and its
deviation in millionths (none: stopped); a temperature sensor in °C. -/
inductive Monitor where
  | rail (k : Nat) (bank : Nat) (v33 : Bool) (mV : Int)
  | clock (source : Nat) (quad : Nat) (ppm : Option Int)
  | temp (sensor : Nat) (degC : Int)
deriving DecidableEq, Repr

/-- What a start-up meets of the environment and of the part (R475, R476, R484, R488, R497): whether the self-test of step 5
passes and every rail's SEQ_PG comes in time; the domains that BIST found in need of repair, with the repairs made (none:
unrepairable); BIST's time in 0.1 ms, the spare rows and columns left, and the ticks from the start of the timebase (or from
the reset, where it runs on) to the hand-over.
Marked DESIGN CHOICE and unsafe (notes/assumptions/101.md). -/
structure StartFacts where
  selfTest : Bool
  rails : Bool
  bist : List (Nat × Option Nat)
  bistTime : Nat
  spares : Nat
  took : Nat
deriving DecidableEq, Repr

/-! ### SV-32 operands (R301): the fields of the instruction word that its row leaves free -/

/-- R format: condition, rd, rs1, rs2. -/
structure OpR where
  cond : BitVec 4
  rd : BitVec 5
  rs1 : BitVec 5
  rs2 : BitVec 5
deriving DecidableEq, Repr

/-- I format. -/
structure OpI where
  cond : BitVec 4
  rd : BitVec 5
  rs1 : BitVec 5
  imm : BitVec 12
deriving DecidableEq, Repr

/-- U format, with its reserved bit 16. -/
structure OpU where
  cond : BitVec 4
  rd : BitVec 5
  b16 : Bool
  imm : BitVec 16
deriving DecidableEq, Repr

/-- J format. -/
structure OpJ where
  cond : BitVec 4
  off : BitVec 22
deriving DecidableEq, Repr

/-- What the fetch at pcc met when no instruction of the table came of it (R306, R377): an error response, or a word whose
condition, major opcode or function is reserved.
Marked DESIGN CHOICE and unsafe (notes/assumptions/68.md). -/
inductive Fetched where
  | error (reason : Nat)
  | word (w : Word)
deriving DecidableEq, Repr

/-- One command of the block: a row of spec/opcode_table.json with its operands; each constructor's rule and summary are the
row's. `m` is the master that sends a register access, the numbers after it its page's instance; `o` holds the fields of an
SV-32 instruction word.
Marked DESIGN CHOICE and unsafe (notes/assumptions/115.md). -/
inductive Instr where
  /-- A write to a register that has no row of its own is checked in order and applied whole or rejected whole with one
  reason code (R58). -/
  | registerWrite (a : Access)
  /-- A write of PAGE_CTRL sets ENABLE and the clock request of a page (R46). -/
  | pageCtrlWrite (m : Master) (p : Page) (v : Nat)
  /-- Writing SOFT_RESET returns the page's block registers to reset, clears IRQ_RAW and sets BUSY (R47). -/
  | softReset (m : Master) (p : Page) (clkReq : Nat)
  /-- BUSY of a soft reset clears within 1 µs and the page accepts writes again (R47). -/
  | softResetDone (p : Page)
  /-- A PAGE_LOCK write with KEY = 0 sets CFG_LOCK or OWNER_LOCK, which stay set until the domain resets (R66). -/
  | lockWrite (m : Master) (p : Page) (cfg owner : Bool)
  /-- A PAGE_LOCK write with a non-zero KEY advances, opens or breaks the keyed sequence of the page (R69). -/
  | keyWrite (m : Master) (p : Page) (key low : Nat)
  /-- An open keyed sequence closes 2 µs after key write 2 when no RWK write has come (R69). -/
  | keySequenceTimeout (p : Page)
  /-- Writing OVF = 1 clears PAGE_ERR; a rejection recorded in the same cycle is recorded after the clear (R57). -/
  | pageErrClear (m : Master) (p : Page)
  /-- Writing IRQ_SET sets the matching IRQ_RAW bits of the page (R65). -/
  | irqSet (m : Master) (p : Page) (bits : Nat)
  /-- Writing E2E_STAT.CLR sets the E2E and parity counters of the page to 0 (R43). -/
  | e2eStatClr (m : Master) (p : Page)
  /-- A read of TB_NOW_LO returns the present instant and latches TB_NOW_HI for the reading master (R80). -/
  | tbNowRead (m : Master) (wide : Bool)
  /-- A TB_MODE write selects FREE, SLAVE or MASTER timebase mode and the slave port (R76). -/
  | tbModeWrite (m : Master) (v : Nat)
  /-- A received 802.1AS Sync in SLAVE mode updates TB_PHASE, the servo and the lock state (R78). -/
  | syncReceive (port gm : Nat)
  /-- Sync receipt times out or the port link fails, and the timebase enters HOLDOVER keeping its last rate (R78). -/
  | syncTimeout
  /-- Breakwater compares the field-die timebase copy with the compute-die counter, raising SKEW_WARN or TB_SKEW (R79).
  -/
  | skewMeasurement (ps : Int)
  /-- Writing TB_CLR.SKEW_CLR sets SKEW_MAX to 0 (R80). -/
  | skewClr (m : Master)
  /-- At every whole-µs instant the field die strobes Tidemark, which latches its legal count (R26). -/
  | tidemarkStrobe
  /-- No compute–field frame arrives for 2 µs, a fault source at Breakwater (R22). -/
  | linkTimeout
  /-- A register transfer on the compute–field link that fails its CRC or sequence check is sent again once (R414). -/
  | registerTransferRetry (seqGap repeatOk : Bool)
  /-- A write to an OWN or LIMIT word of the queue table is checked and applied to later submissions and ebbs (R82). -/
  | queueTableWrite (m : Master) (q : Nat) (limit : Bool) (v : Nat)
  /-- A write to a BIND word binds, rebinds or unbinds a queue to a port and channel with its class and group (R83). -/
  | queueBindWrite (m : Master) (q : Nat) (wide : Bool) (v : Nat)
  /-- A write of bytes 0–11 of an entry into a submission slot replaces part of the master's staging (R90). -/
  | submitStage (m : Master) (slot part : Nat) (wide : Bool) (v : Nat)
  /-- The write of bytes 12–15 submits an ACT entry, which is admitted or refused with the result in SUB_RES (R92). -/
  | submitAct (m : Master) (slot : Nat) (wide : Bool) (pay metaCrc : Word)
  /-- A submission of KIND RELEASE arms the queue's release with a delay (R98). -/
  | releaseArm (m : Master) (slot : Nat) (wide : Bool) (pay metaCrc : Word)
  /-- A read of SUB_RES returns the master's last admission result, clears VALID and latches the upper word (R91). -/
  | subResRead (m : Master) (wide : Bool)
  /-- A write of EBB_CUT stages the cut instant, or one half of it, for the master (R99). -/
  | ebbCutStage (m : Master) (hi wide : Bool) (v : Nat)
  /-- A 32-bit write of the low word of EBB_CMD stages it for the master (R99). -/
  | ebbCmdLowStage (m : Master) (v : Nat)
  /-- An ebb command of SCOPE 0 withdraws one entry named by its handle (R101). -/
  | ebbHandle (m : Master) (wide : Bool) (target high : Nat)
  /-- An ebb command of SCOPE 1 withdraws matching uncommitted entries of one queue (R101). -/
  | ebbQueue (m : Master) (wide : Bool) (target high : Nat)
  /-- An ebb command of SCOPE 2 withdraws matching uncommitted entries of a queue group (R101). -/
  | ebbGroup (m : Master) (wide : Bool) (target high : Nat)
  /-- The ebb result block completes with REMOVED, LEAKED and EARLIEST_LEAK and sets DONE (R102). -/
  | ebbResultDone (m : Master)
  /-- An entry reaches its commit point and becomes committed (R95). -/
  | entryCommit (h : Nat)
  /-- At I − H the TQF hands an entry to its port across the link or to the TSN scheduler (R96). -/
  | entryHandoff (h : Nat) (crcOk : Bool)
  /-- The field die receives a handed-off entry and checks its CRC (R97). -/
  | linkEntryReceive (h : Nat) (o : LinkOutcome)
  /-- At its instant an entry is delivered and its pool entry, count, slot and link place are freed (R96). -/
  | entryDelivery (h : Nat) (crcOk : Bool)
  /-- A trigger-matrix route fires an armed release, forming and checking an ACT entry at T + D (R98). -/
  | releaseFire (q : Nat)
  /-- At P Breakwater takes the hold-up ports and every later hold-up-port entry is pre-empted (R104). -/
  | preemption
  /-- Writing QT_ERR_CLR sets QT_ERR to 0 (R108). -/
  | qtErrClr (m : Master)
  /-- A write of a log base or size starts the log anew at the resulting base (R110). -/
  | logConfigWrite (m : Master) (which : Nat) (size : Bool) (v : Nat)
  /-- Writing STAT_CLR sets the TQF rejection counters, delivery count and LINK_PEAK to 0 (R110). -/
  | tqfStatClr (m : Master)
  /-- A read of DELIV_LO returns the delivered count and latches DELIV_HI (R110). -/
  | delivRead (m : Master) (wide : Bool)
  /-- A PIN_CFG write selects a pin function, occupying further pins as PAIRED, and sets its initial levels (R112). -/
  | pinCfgWrite (m : Master) (port v : Nat)
  /-- A 64-bit write sets OFFSET of a QUAD or SSI source (R124). -/
  | offsetWrite (m : Master) (port v : Nat)
  /-- A LEVEL entry drives, toggles or idles a pin at its instant (R116). -/
  | levelAction (port : Nat)
  /-- A PULSE entry starts or extends a pulse at its instant (R117). -/
  | pulseStart (port : Nat)
  /-- A running pulse reaches its end and the pin returns to its prior level (R117). -/
  | pulseEnd (port : Nat)
  /-- A channel 0 entry writes the PWM duty preload (R118). -/
  | pwmDutyEntry (port : Nat)
  /-- A channel 1 entry writes the PWM period preload (R118). -/
  | pwmPeriodEntry (port : Nat)
  /-- A channel 2 entry starts or stops the PWM output (R118). -/
  | pwmRunEntry (port : Nat)
  /-- A PWM period begins, copying the preloads into the live values (R118). -/
  | pwmPeriodStart (port : Nat)
  /-- A STEPDIR entry starts a rate segment, changing direction if needed (R119). -/
  | stepdirSegment (port : Nat)
  /-- A step pulse falls due on the step grid and changes CNT by one (R119). -/
  | stepEdge (port : Nat)
  /-- An accepted input edge on a CAPTURE pin is stamped and stored in the bank capture buffer (R121). -/
  | captureEdge (port : Nat) (level : Bool) (i : Nat)
  /-- A read of CAP_LO pops the oldest capture record and latches its other words (R121). -/
  | capturePop (m : Master) (k : Nat) (wide : Bool)
  /-- An A or B edge on a QUAD pair updates the count or raises QUAD_ERR (R122). -/
  | quadEdge (port : Nat) (isB level : Bool) (i : Nat)
  /-- At every whole-µs instant a QUAD source yields a sample of count and coordinate (R122). -/
  | quadSample (port i : Nat)
  /-- At a multiple of PERIOD an SSI triple starts a read of its absolute encoder (R123). -/
  | ssiRead (port i : Nat)
  /-- An SSI read completes, yielding a sample or raising SSI_ERR (R123). -/
  | ssiReadDone (port raw : Nat) (parityBit parityOk : Bool)
  /-- A read of CNT_LO returns a pin's counter and latches CNT_HI (R129). -/
  | pinCountRead (m : Master) (port : Nat) (wide : Bool)
  /-- A read of COORD_LO latches the coordinate and instant of the latest sample (R129). -/
  | coordRead (m : Master) (port : Nat) (wide : Bool)
  /-- Writing BANK_CLR.CNT_CLR sets LOST and BAD_PAY to 0 (R129). -/
  | bankCntClr (m : Master) (k : Nat)
  /-- Writing BANK_CLR.FLUSH empties the capture buffer (R129). -/
  | captureFlush (m : Master) (k : Nat)
  /-- Setting RUN starts a line-trigger generator, clearing its log and setting its first target (R125). -/
  | generatorStart (m : Master) (g : Nat) (cfg : Word)
  /-- Clearing RUN stops a generator and cancels its edges not yet begun (R127). -/
  | generatorStop (m : Master) (g : Nat) (cfg : Word)
  /-- A sample of the source reaches a generator, which recomputes and fixes its pending edge (R126). -/
  | generatorSample (g : Nat)
  /-- A fixed trigger edge falls due, making a camera line that is recorded in the trigger log (R127). -/
  | triggerEdge (g : Nat)
  /-- No sample arrives within 4 intervals and the generator sets STALL (R126). -/
  | generatorStall (g : Nat)
  /-- A write of TLOG_Q_HI runs a trigger-log query for the master's staged line (R131). -/
  | tlogQuery (m : Master) (wide : Bool) (v : Nat)
  /-- At each slot a T1S segment sends a cyclic SET frame with the records of that slot instant (R143). -/
  | cyclicFrame (seg i start : Nat)
  /-- Records off slot instants, GET and SAFE records go out in an acyclic frame at the first transmit opportunity
  (R145). -/
  | acyclicFrame (seg start : Nat)
  /-- A Tideline frame on a TSN port is sent when its gate is open and it can end before its deadline (R146). -/
  | tsnFrame (n start : Nat)
  /-- An ACK frame from a node ends retries and logs its status or value (R147). -/
  | ackReceive (port : Nat) (f : RxFrame)
  /-- No ACK arrives within ACK_TMO, and the records are resent or reported NOACK (R147). -/
  | ackTimeout (port start : Nat)
  /-- An EVENT frame from a node is logged in the network receive log (R141). -/
  | eventFrameReceive (port : Nat) (f : RxFrame)
  /-- A received frame with a bad version, type, reserved bit or foreign EtherType is discarded and counted (R139). -/
  | rxFrameDiscard (port : Nat) (foreign : Bool) (f : RxFrame)
  /-- A SAFE frame is accepted or discarded on its CRC and WD_SEQ (R142). -/
  | safeFrameReceive (port chan : Nat) (f : RxFrame)
  /-- SAFE_TMO / 2 passes without a SAFE frame and the device sends a keep-alive (R142). -/
  | safeKeepalive (port chan : Nat)
  /-- SAFE_TMO passes without an accepted frame and the SAFE connection is lost (R142). -/
  | safeConnectionLost (port chan : Nat)
  /-- The conditions for a SAFE connection first hold together and it opens with WD_SEQ 1 (R142). -/
  | safeConnectionOpen (port chan : Nat)
  /-- A T1S segment with SYNC_EN sends Sync and Follow_Up every 2^LOG_SYNC s (R136). -/
  | syncSend (seg : Nat)
  /-- A TSN port's link goes up or down (R152). -/
  | tsnLinkChange (n : Nat) (up : Bool)
  /-- Writing a segment's CNT_CLR sets its counters to 0 (R151). -/
  | t1sCntClr (m : Master) (seg : Nat)
  /-- Writing a TSN port's CNT_CLR sets its counters to 0 (R152). -/
  | tsnCntClr (m : Master) (n : Nat)
  /-- A write of a tracker source slot sets its source and span (R153). -/
  | sourceSlotWrite (m : Master) (i v : Nat)
  /-- A sample of a slot's source updates the speed estimate and starts a sweep of its visits (R154). -/
  | trackerSourceSample (slot : Nat)
  /-- No sample arrives within 4 intervals; the slot stalls and its provisional visits are withdrawn (R155). -/
  | sourceStall (slot : Nat)
  /-- A 64-bit write of FW_INST stages a firmware source sample instant (R156). -/
  | fwInstStage (m : Master) (f v : Nat)
  /-- A 64-bit write of FW_COORD commits a firmware coordinate sample (R156). -/
  | fwSampleCommit (m : Master) (f v : Nat)
  /-- A station write sets or clears VALID; clearing withdraws waiting and provisional visits (R161). -/
  | stationWrite (m : Master) (t word v : Nat)
  /-- A write to an action template, refused while open contexts use it (R180). -/
  | templateWrite (m : Master) (t word v : Nat)
  /-- A write of OPEN_CMD opens a tracker context from firmware (R162). -/
  | openCmd (m : Master) (v : Nat)
  /-- An open held back by the rate of 8 per µs is performed in the following µs (R163). -/
  | contextOpenDeferred
  /-- The tracker evaluates one visit with the sweep's sample, predicting and submitting or re-predicting (R167). -/
  | visitEvaluate
  /-- The tracker's ebb result arrives and the visit is resubmitted, LEAKED or LOST (R171). -/
  | repredictionResult
  /-- A provisional visit reaches its freeze point without evaluation and becomes FROZEN (R169). -/
  | visitFreeze (ctx visit : Nat)
  /-- A frozen visit's instant passes and it becomes DONE (R169). -/
  | visitDone (ctx visit : Nat)
  /-- A write of CANCEL closes a context at once (R175). -/
  | contextCancel (m : Master) (v : Nat)
  /-- Writing TR_ERR_CLR sets TR_ERR to 0 (R182). -/
  | trErrClr (m : Master)
  /-- Writing the tracker STAT_CLR sets its counters to 0 (R182). -/
  | trackerStatClr (m : Master)
  /-- The roll-map writer takes a classified blob, writes its record and opens its context (R215). -/
  | rollmapRecordWrite
  /-- A write of words 0–6 of the append window stages an appended record (R186). -/
  | appendWord (m : Master) (w v : Nat)
  /-- A write of word 7 commits a firmware record into the roll map (R186). -/
  | appendCommit (m : Master) (v : Nat)
  /-- A write of RM_RD consumes roll-map records in MEMORY mode (R185). -/
  | rmRdWrite (m : Master) (v : Nat)
  /-- A ROLLREC packet with up to 7 records starts on egress and consumes them (R245). -/
  | rollrecSend (link : Nat)
  /-- Writing RM_CLR sets the roll-map loss counters to 0 (R188). -/
  | rollmapClr (m : Master)
  /-- Setting CAM_CFG.EN starts a camera after its checks (R193). -/
  | cameraEnable (m : Master) (c : Nat) (cfg : Word)
  /-- Clearing CAM_CFG.EN starts the camera's drain (R217). -/
  | cameraDisable (m : Master) (c : Nat) (cfg : Word)
  /-- A draining camera completes its lines, blobs and trailers and DRAINING clears (R217). -/
  | cameraDrainDone (cam : Nat)
  /-- A LINE packet is accepted by the camera's lanes or discarded (R196). -/
  | lineIntake (cam : Nat)
  /-- A lane completes one centre line through its pixel pipeline (R198). -/
  | laneLineComplete (lane : Nat)
  /-- A patch row is sent on the group's egress link or dropped (R211). -/
  | patchRowSend (group : Nat)
  /-- A window's trailer with the feature block is sent once its rows and blob are done (R212). -/
  | patchTrailerSend (win : Nat)
  /-- An access to FF_DATA reads or writes one pixel's flat-field coefficients and may advance PIXEL (R200). -/
  | ffDataAccess (m : Master) (g : Nat) (write : Bool) (v : Nat)
  /-- Writing KCOMMIT on an active lane sets COMMIT_PEND (R202). -/
  | kcommit (m : Master) (l : Nat)
  /-- At the start of the next line the lane copies its shadow kernel and thresholds live (R202). -/
  | kernelShadowCopy (lane : Nat)
  /-- Writing GRP_CLR sets the group counters to 0 (R218). -/
  | surfGroupClr (m : Master) (g : Nat)
  /-- Writing CAM_CLR sets the camera counters to 0 (R219). -/
  | cameraClr (m : Master) (c : Nat)
  /-- Writing LANE_CLR sets RUN_DROP and STREAK_CUT to 0 (R221). -/
  | surfLaneClr (m : Master) (l : Nat)
  /-- A LINE packet arrives on an ingress link and is checked (R243). -/
  | linePacketReceive (link : Nat) (ws : List DWord) (framed : Bool)
  /-- An EVENT packet from a camera is recorded (R246). -/
  | gheryEventReceive (link : Nat) (ws : List DWord) (framed : Bool)
  /-- A CREDIT on the sideband raises the credit limits of the egress link (R249). -/
  | creditReceive (link : Nat) (ws : List DWord)
  /-- A TRAIN packet is received on a data lane or sideband and advances training (R234). -/
  | trainReceive (sideband : Bool) (lane : Nat) (ws : List DWord)
  /-- An alignment marker arrives and AM lock, skew and BIP are checked (R231). -/
  | amReceive (lane : Nat) (am : Option DWord) (bipOk : Bool) (skew : Nat)
  /-- Every 16,384th block a transmitter sends an alignment marker on each lane (R229). -/
  | amSend (link : Nat) (bips : List Nat)
  /-- A transmitter in TRAIN sends TRAIN packets on each lane (R234). -/
  | trainSend (link lane : Nat)
  /-- A receiver in TRAIN sends TRAIN SEEK on the sideband (R235). -/
  | trainSeekSend (link : Nat)
  /-- A receiver sends TRAIN READY and CREDIT on the sideband every 500 ns (R237). -/
  | creditSend (link : Nat)
  /-- Every lane meets the training conditions and the receiver enters READY (R235). -/
  | receiverReady (link : Nat)
  /-- After an AM lane 0 carries a non-TRAIN block and the receiver enters UP (R235). -/
  | receiverUp (link : Nat)
  /-- At the next AM after TRAIN READY the transmitter starts striped operation (R234). -/
  | transmitterUp (link : Nat)
  /-- A link loses lock, alignment or receives TRAIN SEEK and returns to TRAIN (R236). -/
  | linkRetrain (out : Bool) (link : Nat) (inPacket : Bool)
  /-- No valid sideband packet for 8 µs sends the transmitter to TRAIN with CRED_LOST (R237). -/
  | sidebandTimeout (link : Nat)
  /-- Writing EVT_SEND makes a firmware event pending (R261). -/
  | evtSend (m : Master) (k : Nat)
  /-- A pending event is sent once the link is UP with credit, and PENDING clears (R261). -/
  | eventPacketSend (link : Nat)
  /-- Setting LINK_CFG.EN enables a Ghery link after its checks (R257). -/
  | linkEnable (m : Master) (out : Bool) (l width : Nat)
  /-- Clearing LINK_CFG.EN takes a Ghery link DOWN (R257). -/
  | linkDisable (m : Master) (out : Bool) (l width : Nat)
  /-- Writing an ingress LANE_CLR sets the lane error counters to 0 (R258). -/
  | gheryLaneClr (m : Master) (l : Nat)
  /-- Writing TXL_CLR sets SB_ERR to 0 (R259). -/
  | txlClr (m : Master) (k : Nat)
  /-- Writing an ingress LINK_CLR sets its counters to 0 (R260). -/
  | ingressLinkClr (m : Master) (l : Nat)
  /-- Writing an egress LINK_CLR sets TX_PKTS and RETRAIN_CNT to 0 (R261). -/
  | egressLinkClr (m : Master) (k : Nat)
  /-- A read of EVT_ARR_LO latches the rest of the last EVENT record (R260). -/
  | evtArrRead (m : Master) (l : Nat) (wide : Bool)
  /-- A SAMPLE transfer reaches the field die, which offers it as source 0x1000 and mirrors it (R274). -/
  | tidemarkSample (ok : Bool)
  /-- A STATUS transfer from Tidemark updates the mirror (R262). -/
  | statusTransfer (ok : Bool)
  /-- A ROLL_EVENT reaches the field die and may open a context and write a roll-map record (R289). -/
  | rollEvent (ok : Bool)
  /-- Tidemark issues the signed ticket of a closed roll (R292). -/
  | ticketIssue
  /-- A TICKET transfer is placed in the mirror (R262). -/
  | ticketTransfer (ok : Bool)
  /-- An AUDIT transfer places an audit record in the mirror (R283). -/
  | auditTransfer (ok : Bool)
  /-- A GONE answer marks a mirror item that Tidemark no longer holds (R264). -/
  | goneTransfer (ok : Bool)
  /-- The field die requests missing tickets and audit records from Tidemark (R264). -/
  | readReq (tickets : Bool) (first last : Nat)
  /-- The field–Tidemark link comes up and the mirror refill starts (R264). -/
  | tmLinkUp
  /-- The field–Tidemark link goes down; a busy proposal ends with INTERNAL (R297). -/
  | tmLinkDown
  /-- An edge on a legal encoder input updates COUNTw or raises a sequence error (R266). -/
  | legalEncoderEdge (w : Nat) (a b : Bool) (periods : Nat) (f : StartFacts)
  /-- A rising Z edge checks the count change per revolution (R267). -/
  | zEdge (w : Nat)
  /-- Writing PROP_SUBMIT sends the staged proposal to Tidemark and sets BUSY (R297). -/
  | propSubmit (m : Master)
  /-- Tidemark evaluates and may apply a PARAM proposal, counting EVENTS and writing a CHANGE record (R279). -/
  | proposalParam
  /-- Tidemark evaluates and may apply a SEAL proposal, making the tile SEALED for life (R280). -/
  | proposalSeal
  /-- Tidemark evaluates a ROLL proposal that sets or cancels a roll boundary (R287). -/
  | proposalRoll
  /-- Tidemark checks a ticket MAC or one link of the audit chain (R291). -/
  | proposalVerify
  /-- A proposal result arrives, clearing BUSY and setting DONE and REASON (R297). -/
  | propDone (ok : Bool)
  /-- The debounced TM_SEAL_N level changes and a BYPASS audit record is written (R281). -/
  | bypassChange (on : Bool)
  /-- The Lee power-fail signal puts Tidemark into HOLDUP (R293). -/
  | holdupEntry
  /-- 100 ms without counting makes Tidemark take a rest commit (R293). -/
  | restCommit
  /-- Tidemark's supply falls to the commit threshold and it stops counting and commits (R293). -/
  | finalCommit
  /-- Every 60 s Tidemark commits its counting state to a checkpoint slot (R293). -/
  | checkpoint
  /-- Tidemark boots, checks its firmware, restores a checkpoint and writes RESTORE (R294). -/
  | tidemarkBoot (bad : Nat) (fwOk : Bool)
  /-- Tidemark's watchdog expires and resets Tidemark with cause RESTART (R457). -/
  | tidemarkWatchdogExpiry
  /-- Tidemark's clock monitor finds its clocks out of tolerance (R272). -/
  | tidemarkClockFault (bad : Bool)
  /-- Writing REFILL clears MIRROR_OK and refills the mirror (R298). -/
  | mirrorRefill (m : Master)
  /-- Writing TM_CLR.CNT_CLR clears the Tidemark link counters (R298). -/
  | tmCntClr (m : Master)
  /-- Writing TM_CLR.ERR_CLR clears PROP_ERR (R298). -/
  | tmErrClr (m : Master)
  /-- A read of POS_LO latches one whole broadcast sample for the master (R275). -/
  | posSnapshotRead (m : Master) (wide : Bool)
  /-- A read of TOTAL_LO latches TOTAL_HI (R296). -/
  | totalRead (m : Master) (wide : Bool)
  /-- A read of EVENTS_LO latches EVENTS_HI (R296). -/
  | eventsRead (m : Master) (wide : Bool)
  /-- Integer addition, optionally setting flags (R309). -/
  | add (o : OpR) (sf : Bool)
  /-- Integer addition with carry (R309). -/
  | adc (o : OpR) (sf : Bool)
  /-- Integer subtraction with borrow flag (R309). -/
  | sub (o : OpR) (sf : Bool)
  /-- Integer subtraction with incoming borrow (R309). -/
  | sbc (o : OpR) (sf : Bool)
  /-- Bitwise AND (R309). -/
  | and (o : OpR) (sf : Bool)
  /-- Bitwise OR (R309). -/
  | or (o : OpR) (sf : Bool)
  /-- Bitwise XOR (R309). -/
  | xor (o : OpR) (sf : Bool)
  /-- Bit clear: rs1 AND NOT rs2 (R309). -/
  | bic (o : OpR) (sf : Bool)
  /-- Shift left by a register amount (R310). -/
  | shl (o : OpR) (sf : Bool)
  /-- Logical shift right by a register amount (R310). -/
  | shr (o : OpR) (sf : Bool)
  /-- Arithmetic shift right by a register amount (R310). -/
  | sar (o : OpR) (sf : Bool)
  /-- Rotate right by a register amount (R310). -/
  | ror (o : OpR) (sf : Bool)
  /-- Shift left by an immediate amount (R310). -/
  | shli (o : OpR) (sf : Bool)
  /-- Logical shift right by an immediate amount (R310). -/
  | shri (o : OpR) (sf : Bool)
  /-- Arithmetic shift right by an immediate amount (R310). -/
  | sari (o : OpR) (sf : Bool)
  /-- Rotate right by an immediate amount (R310). -/
  | rori (o : OpR) (sf : Bool)
  /-- Sets flags from rs1 − rs2 (R309). -/
  | cmp (o : OpR) (sf : Bool)
  /-- Sets Z and N from rs1 AND rs2 (R309). -/
  | tst (o : OpR) (sf : Bool)
  /-- Low 32 bits of a product (R309). -/
  | mul (o : OpR) (sf : Bool)
  /-- High 32 bits of the signed product (R309). -/
  | mulh (o : OpR) (sf : Bool)
  /-- High 32 bits of the unsigned product (R309). -/
  | mulhu (o : OpR) (sf : Bool)
  /-- Signed division; division by zero raises ARITH (R311). -/
  | div (o : OpR) (sf : Bool)
  /-- Unsigned division (R311). -/
  | divu (o : OpR) (sf : Bool)
  /-- Signed remainder (R311). -/
  | rem (o : OpR) (sf : Bool)
  /-- Unsigned remainder (R311). -/
  | remu (o : OpR) (sf : Bool)
  /-- Signed minimum (R309). -/
  | min (o : OpR) (sf : Bool)
  /-- Signed maximum (R309). -/
  | max (o : OpR) (sf : Bool)
  /-- Unsigned minimum (R309). -/
  | minu (o : OpR) (sf : Bool)
  /-- Unsigned maximum (R309). -/
  | maxu (o : OpR) (sf : Bool)
  /-- Count of leading zeros (R309). -/
  | clz (o : OpR) (sf : Bool)
  /-- Byte reversal (R309). -/
  | rev (o : OpR) (sf : Bool)
  /-- Sign-extend a byte (R309). -/
  | sxtb (o : OpR) (sf : Bool)
  /-- Sign-extend a halfword (R309). -/
  | sxth (o : OpR) (sf : Bool)
  /-- Zero-extend a byte (R309). -/
  | zxtb (o : OpR) (sf : Bool)
  /-- Zero-extend a halfword (R309). -/
  | zxth (o : OpR) (sf : Bool)
  /-- Add a sign-extended immediate (R305). -/
  | addi (o : OpI)
  /-- Add an immediate, setting flags (R305). -/
  | addis (o : OpI)
  /-- AND with a zero-extended immediate (R305). -/
  | andi (o : OpI)
  /-- OR with a zero-extended immediate (R305). -/
  | ori (o : OpI)
  /-- XOR with a zero-extended immediate (R305). -/
  | xori (o : OpI)
  /-- Compare with a sign-extended immediate (R305). -/
  | cmpi (o : OpI)
  /-- Test against a zero-extended immediate (R305). -/
  | tsti (o : OpI)
  /-- Load a zero-extended 16-bit immediate (R305). -/
  | movl (o : OpU)
  /-- Load the high half of a register (R305). -/
  | movh (o : OpU)
  /-- Load a word through ddc with the visible load delay (R321). -/
  | ldw (o : OpI)
  /-- Load a sign-extended halfword through ddc (R321). -/
  | ldh (o : OpI)
  /-- Load a zero-extended halfword through ddc (R321). -/
  | ldhu (o : OpI)
  /-- Load a sign-extended byte through ddc (R321). -/
  | ldb (o : OpI)
  /-- Load a zero-extended byte through ddc (R321). -/
  | ldbu (o : OpI)
  /-- Store a word through ddc (R321). -/
  | stw (o : OpI)
  /-- Store a halfword through ddc (R321). -/
  | sth (o : OpI)
  /-- Store a byte through ddc (R321). -/
  | stb (o : OpI)
  /-- Load a word through a capability register (R321). -/
  | cldw (o : OpI)
  /-- Store a word through a capability register (R321). -/
  | cstw (o : OpI)
  /-- Load a capability and, with LDC, its tag (R370). -/
  | cldc (o : OpI)
  /-- Store a capability and its tag (R370). -/
  | cstc (o : OpI)
  /-- Read one field of a capability into a general register (R371). -/
  | capq (o : OpR)
  /-- Difference of two capability cursors (R371). -/
  | capdist (o : OpR)
  /-- Set a capability's cursor (R371). -/
  | capptr (o : OpR)
  /-- Advance a capability's cursor (R371). -/
  | capadv (o : OpR)
  /-- Narrow a capability's bounds from its cursor (R372). -/
  | capnarrow (o : OpR)
  /-- Clear capability permissions (R371). -/
  | capmask (o : OpR)
  /-- Copy a capability register (R371). -/
  | capmov (o : OpR)
  /-- Copy a capability without its tag (R371). -/
  | capdrop (o : OpR)
  /-- Seal a capability with an object type (R372). -/
  | caplock (o : OpR)
  /-- Unseal a capability with matching authority (R372). -/
  | capopen (o : OpR)
  /-- Test whether one capability lies within another (R371). -/
  | capwithin (o : OpR)
  /-- Branch to a PC-relative target checked against pcc (R323). -/
  | b (o : OpJ)
  /-- Push a return capability through csp and branch (R324). -/
  | call (o : OpJ)
  /-- Jump to a capability target (R326). -/
  | jr (o : OpR)
  /-- Push a return capability and jump to a capability target (R326). -/
  | callr (o : OpR)
  /-- Pop a return capability from csp into pcc (R325). -/
  | ret (o : OpR)
  /-- Return from an exception, restoring pcc and CSTAT and refilling a spilled bank (R391). -/
  | eret (o : OpR)
  /-- Swap ddc, csp and Headland's guard set as one step (R401). -/
  | ctxsw (o : OpR)
  /-- Wait for every earlier access of the core to complete (R326). -/
  | fence (o : OpR)
  /-- Wait until an interrupt source of level 1–7 is pending (R326). -/
  | wfi (o : OpR)
  /-- Enter a handler through the gate table entry n (R386). -/
  | trap (cond : BitVec 4) (rest : BitVec 14) (n : BitVec 8)
  /-- Set up a zero-overhead loop set (R327). -/
  | loop (o : OpI)
  /-- Saturating Q1.31 addition (R313). -/
  | qadd (o : OpR) (rsel : BitVec 3)
  /-- Saturating Q1.31 subtraction (R313). -/
  | qsub (o : OpR) (rsel : BitVec 3)
  /-- Saturating negation (R313). -/
  | qneg (o : OpR) (rsel : BitVec 3)
  /-- Saturating absolute value (R313). -/
  | qabs (o : OpR) (rsel : BitVec 3)
  /-- Rounded saturating Q1.31 product (R313). -/
  | qmul (o : OpR) (rsel : BitVec 3)
  /-- Saturating packed Q1.15 addition (R313). -/
  | qadd2 (o : OpR) (rsel : BitVec 3)
  /-- Saturating packed Q1.15 subtraction (R313). -/
  | qsub2 (o : OpR) (rsel : BitVec 3)
  /-- Rounded packed Q1.15 products (R313). -/
  | qmul2 (o : OpR) (rsel : BitVec 3)
  /-- Saturating left shift (R313). -/
  | qshl (o : OpR) (rsel : BitVec 3)
  /-- Rounded right shift (R313). -/
  | qshr (o : OpR) (rsel : BitVec 3)
  /-- Pack two rounded Q1.31 values into Q1.15 halves (R313). -/
  | qpack (o : OpR) (rsel : BitVec 3)
  /-- Accumulate a product (R316). -/
  | mac (o : OpR) (rsel : BitVec 3)
  /-- Subtract a product from an accumulator (R316). -/
  | msu (o : OpR) (rsel : BitVec 3)
  /-- Write a product to an accumulator (R316). -/
  | mula (o : OpR) (rsel : BitVec 3)
  /-- Accumulate a dual Q1.15 product (R316). -/
  | mac2 (o : OpR) (rsel : BitVec 3)
  /-- Subtract a dual Q1.15 product (R316). -/
  | msu2 (o : OpR) (rsel : BitVec 3)
  /-- Write a dual Q1.15 product (R316). -/
  | mula2 (o : OpR) (rsel : BitVec 3)
  /-- Clear an accumulator (R316). -/
  | clra (o : OpR) (rsel : BitVec 3)
  /-- Move a register into an accumulator (R316). -/
  | mta (o : OpR) (rsel : BitVec 3)
  /-- Read a rounded saturated Q1.31 value from an accumulator (R316). -/
  | rda (o : OpR) (rsel : BitVec 3)
  /-- Read a rounded saturated Q1.15 value from an accumulator (R316). -/
  | rda16 (o : OpR) (rsel : BitVec 3)
  /-- Read accumulator bits [31:0] (R316). -/
  | rdal (o : OpR) (rsel : BitVec 3)
  /-- Read accumulator bits [63:32] (R316). -/
  | rdah (o : OpR) (rsel : BitVec 3)
  /-- Read accumulator guard bits (R316). -/
  | rdag (o : OpR) (rsel : BitVec 3)
  /-- Write accumulator bits [31:0] (R316). -/
  | wral (o : OpR) (rsel : BitVec 3)
  /-- Write accumulator bits [63:32] (R316). -/
  | wrah (o : OpR) (rsel : BitVec 3)
  /-- Write accumulator guard bits (R316). -/
  | wrag (o : OpR) (rsel : BitVec 3)
  /-- Packed BCD addition (R318). -/
  | dadd (o : OpR)
  /-- Packed BCD addition with decimal carry (R318). -/
  | daddc (o : OpR)
  /-- Packed BCD subtraction (R318). -/
  | dsub (o : OpR)
  /-- Packed BCD subtraction with decimal borrow (R318). -/
  | dsubc (o : OpR)
  /-- Packed BCD comparison (R318). -/
  | dcmp (o : OpR)
  /-- Decimal adjust of a binary sum (R319). -/
  | dadj (o : OpR)
  /-- Convert packed BCD to binary (R318). -/
  | bcd2bin (o : OpR)
  /-- Convert binary to packed BCD (R318). -/
  | bin2bcd (o : OpR)
  /-- Read an integer system register (R333). -/
  | mfs (o : OpI)
  /-- Write an integer system register (R334). -/
  | mts (o : OpI)
  /-- Read a capability system register (R376). -/
  | cmfs (o : OpI)
  /-- Write a capability system register after its checks (R376). -/
  | cmts (o : OpI)
  /-- Run the microcode of a loaded decode-table slot (R337). -/
  | customInstruction (o : OpR) (slot : BitVec 4) (k : BitVec 3)
  /-- A synchronous fault is taken through FVEC into the next bank (R387). -/
  | faultEntry (f : Fetched)
  /-- A pending interrupt above ML is accepted through its IVEC (R380). -/
  | interruptAccept
  /-- A pending imprecise ARITH is taken after up to 8 later instructions (R395). -/
  | arithImprecise
  /-- Writing IC_SWSET sets a software interrupt source (R384). -/
  | icSwset (m : Master) (v : Nat)
  /-- Writing IC_SWCLR clears a software interrupt source (R384). -/
  | icSwclr (m : Master) (v : Nat)
  /-- A GSEL write swaps the active set of a non-Headland guard (R401). -/
  | gselWrite (m of : Master) (v : Nat)
  /-- Writing GCLR clears the guard's denial record and count (R403). -/
  | gclr (m of : Master)
  /-- A Swell engine issues one bundle of up to five syllables (R347). -/
  | bundleExecute (e : Nat) (mismatch : Bool)
  /-- A fabric response to an engine access arrives, delivering a load or recording an error (R359). -/
  | swellFabricResponse (e : Nat)
  /-- A wake sets the engine's wake flag, completing a WAIT (R360). -/
  | waitWake (e : Nat)
  /-- Writing SW_CTRL.RUN starts the engine at START_PC (R365). -/
  | swellRun (m : Master) (e : Nat)
  /-- Writing SW_CTRL.STOP stops the engine at the next bundle boundary (R365). -/
  | swellStop (m : Master) (e : Nat)
  /-- Writing SW_CTRL.STEP executes one bundle from PC (R365). -/
  | swellStep (m : Master) (e : Nat)
  /-- Writing SW_CTRL.WAKE sets the wake flag (R365). -/
  | swellWakeCmd (m : Master) (e : Nat)
  /-- Writing SW_CTRL.RESUME continues the engine at PC (R365). -/
  | swellResume (m : Master) (e : Nat)
  /-- Setting SW_CFG.PAIR starts copying the even engine into the odd one (R363). -/
  | pairSet (m : Master) (e : Nat) (cfg : Word)
  /-- The pair copy completes and the pair runs checked (R363). -/
  | pairCopyDone (k : Nat)
  /-- Clearing PAIR separates the engines (R363). -/
  | pairClear (m : Master) (e : Nat) (cfg : Word)
  /-- Writing SW_CLR.ERR_CLR sets SW_ERR to 0 (R365). -/
  | swellErrClr (m : Master) (e : Nat)
  /-- Writing SW_CLR.CNT_CLR sets the engine counters to 0 (R365). -/
  | swellCntClr (m : Master) (e : Nat)
  /-- A read of BUNDLES_LO latches BUNDLES_HI (R365). -/
  | bundlesRead (m : Master) (e : Nat) (wide : Bool)
  /-- An access to an engine's program or data memory through its aperture (R366). -/
  | apertureAccess (m : Master) (e off size : Nat) (write : Bool) (v : Nat)
  /-- Breakwater's collector latches fault sources at a cycle start and carries out the most severe class (R415). -/
  | faultLatch (outside : List (Nat × Nat))
  /-- The lockstep comparator finds a difference and masks a core or stops the cluster (R407). -/
  | lockstepMismatch (point : Nat) (odd : Option Nat)
  /-- The TCM copy of a masked core completes and the join begins (R408). -/
  | resyncCopyDone
  /-- The join completes its CRC check and triple voting resumes, or the core is retired (R408). -/
  | resyncJoinDone (crcOk : Bool)
  /-- Time as a pair reaches DEG_TMO and DEGRADED is raised (R411). -/
  | degradedTimeout
  /-- INTERVAL elapses and a core is taken out for logic BIST and resync (R412). -/
  | rotationStart
  /-- Writing ROT_REQ starts a rotation now (R437). -/
  | rotReq (m : Master)
  /-- A voltage, clock or temperature monitor stays out of its window for its filter time (R416). -/
  | monitorExcursion (m : Monitor)
  /-- Breakwater hands a Slack-profile entry to its hold-up port at I − H (R429). -/
  | slackEntryDelivery (i : Nat)
  /-- The last profile entry's instant passes and DONE is set (R429). -/
  | slackDone
  /-- The application reset of the compute die begins at X (R491). -/
  | applicationReset (f : StartFacts)
  /-- A DEVICE or HOLD reaction resets the compute and field dies (R417). -/
  | deviceReset (f : StartFacts)
  /-- Writes of PLAN_KEY open the plan-memory sequence for the inactive copy (R423). -/
  | planKey (m : Master) (v : Nat)
  /-- A write to plan memory of the inactive copy (R423). -/
  | planMemoryWrite (m : Master) (off size v : Nat)
  /-- A write of a profile header of the inactive copy (R423). -/
  | planHeaderWrite (m : Master) (c p word v : Nat)
  /-- PLAN_COMMIT with GO starts validation of the inactive copy (R424). -/
  | planCommitGo (m : Master) (prof : Nat)
  /-- PLAN_COMMIT with ABORT closes the sequence without change (R423). -/
  | planCommitAbort (m : Master)
  /-- Validation ends and the copies swap or the failure is reported (R424). -/
  | planValidationDone
  /-- 100 ms without a commit closes the plan sequence with TIMEOUT (R423). -/
  | planSequenceTimeout
  /-- Writing PLAN_REFRESH extends VALID_UNTIL (R425). -/
  | planRefresh (m : Master)
  /-- The active copy passes VALID_UNTIL and PLAN_STALE is raised (R425). -/
  | planStale
  /-- Every 10 ms Breakwater scrubs the active copy and marks failing profiles BAD (R425). -/
  | planScrub (errs : List Nat)
  /-- A keyed write of SLACK_REQ raises FW_SLACK (R432). -/
  | slackReq (m : Master) (v : Nat)
  /-- Writing SLACK_REL returns the hold-up ports to the TQF (R430). -/
  | slackRel (m : Master)
  /-- Writing REC_CLR clears the Breakwater record (R432). -/
  | recClr (m : Master)
  /-- Writing ISO_REL releases every unit isolated under a source (R432). -/
  | isoRel (m : Master) (src : Nat)
  /-- Writing FC_CLR clears FC_FIRST and the fault counts (R433). -/
  | fcClr (m : Master)
  /-- Writing FC_INJECT raises a fault source as if from its unit (R433). -/
  | fcInject (m : Master) (src : Nat)
  /-- A read of FC_FIRST_LO latches FC_FIRST_HI (R433). -/
  | fcFirstRead (m : Master) (wide : Bool)
  /-- A read of VALID_UNTIL_LO latches VALID_UNTIL_HI (R436). -/
  | validUntilRead (m : Master) (wide : Bool)
  /-- A sample of the Slack speed source reaches Breakwater, committing SPD_NOW every 100 samples (R426). -/
  | speedSourceSample
  /-- No speed-source sample for 4 µs raises SPEED_LOST (R427). -/
  | speedLost
  /-- The background scrub visits memory words and corrects or reports errors (R413). -/
  | memoryScrub (k : MemKind) (r : ScrubResult)
  /-- Every 1 ms every register's parity is checked (R413). -/
  | registerScrub (bad : List Page)
  /-- Breakwater's periodic self-test of its collector and comparators runs (R420). -/
  | breakwaterSelfTest (pass : Bool)
  /-- The periodic check of the fuse shadow runs (R420). -/
  | fuseShadowCheck (pass : Bool)
  /-- A timer count takes CMP0 or CMP1 and raises MATCH (R441). -/
  | timerMatch (timer cmp : Nat)
  /-- A WRAP-mode timer goes from PERIOD to 0 (R441). -/
  | timerWrap (timer : Nat)
  /-- A STOP-mode timer reaches PERIOD and holds (R441). -/
  | timerTop (timer : Nat)
  /-- A TCFG write of EN = 1 enables and, unless armed, starts a timer (R447). -/
  | timerEnable (m : Master) (t : Nat) (cfg : Word)
  /-- A write of CNT_LO loads the count at the next tick (R444). -/
  | timerCountLoad (m : Master) (t : Nat) (wide : Bool) (v : Nat)
  /-- A read of CNT_LO latches CNT_HI for the reading master (R446). -/
  | timerCountRead (m : Master) (t : Nat) (wide : Bool)
  /-- Writing TCTRL.START resumes counting (R448). -/
  | timerStartCmd (m : Master) (t : Nat)
  /-- Writing TCTRL.STOP halts counting (R448). -/
  | timerStopCmd (m : Master) (t : Nat)
  /-- Writing TCTRL.LOAD copies the preloads at the next tick (R448). -/
  | timerLoadCmd (m : Master) (t : Nat)
  /-- Writing TCTRL.LATE_CLR clears LATE (R448). -/
  | timerLateClr (m : Master) (t : Nat)
  /-- A route's START trigger resumes a timer 16 ticks after its event (R447). -/
  | routeTimerStart (timer : Nat)
  /-- A route's STOP trigger halts a timer 16 ticks after its event (R447). -/
  | routeTimerStop (timer : Nat)
  /-- A route's COUNT trigger advances a CSRC timer (R447). -/
  | routeTimerCount (timer : Nat)
  /-- A route sets an engine's wake flag 16 ticks after its event (R449). -/
  | routeSwellWake (e : Nat)
  /-- A route starts a triggered conversion 200 ns after its event (R465). -/
  | converterStart (c : Nat)
  /-- Writing TM_CLR sets TM_FIRED to 0 (R451). -/
  | tmFiredClr (m : Master)
  /-- Writing DCTRL.START starts or arms a DMA channel (R453). -/
  | dmaStart (m : Master) (c : Nat)
  /-- Writing DCTRL.ABORT stops a DMA channel after its current transaction (R454). -/
  | dmaAbort (m : Master) (c : Nat)
  /-- A request reaches a paced DMA channel and moves one burst, or is held or dropped (R453). -/
  | dmaRequest (c : Nat)
  /-- A DMA channel performs one transaction of up to 64 bytes (R452). -/
  | dmaTransaction
  /-- An accepted WDT_CFG write starts a watchdog at count 0 (R458). -/
  | watchdogStart (m : Master) (w period : Nat)
  /-- A write of KEY1 begins a watchdog service or is a violation (R459). -/
  | wdtKey1 (m : Master) (w : Nat)
  /-- A write of KEY2 completes a service, resetting the count, or is a violation (R459). -/
  | wdtKey2 (m : Master) (w : Nat)
  /-- A task checks in with its task watchdog (R460). -/
  | wdtCheckin (m : Master) (w task : Nat)
  /-- The count reaches OPEN_THR and the service window opens (R458). -/
  | watchdogWindowOpen (w : Nat)
  /-- The count reaches PERIOD and the watchdog expires (R458). -/
  | watchdogExpiry (w : Nat)
  /-- A conversion result becomes available and goes to the FIFO, bank 2 and DMA (R465). -/
  | conversionResult (c : Nat) (vin : Int) (vexc : Nat) (inRange : Bool)
  /-- A read of CV_DATA pops the oldest sample and latches its SEQ and instant (R466). -/
  | cvDataPop (m : Master) (c : Nat) (wide : Bool)
  /-- Writing CV_CLR.CLR sets the converter counters to 0 (R468). -/
  | cvCntClr (m : Master) (c : Nat)
  /-- Writing CV_CLR.FLUSH empties the converter FIFO (R468). -/
  | cvFlush (m : Master) (c : Nat)
  /-- An excitation, open-bridge or VANA fault raises CONV_FAULT (R467). -/
  | converterFault (c : Nat) (exc : Bool)
  /-- VSUP becomes valid after OFF and the start-up sequence runs to port release (R476). -/
  | powerOn (f : StartFacts)
  /-- A SEQ_PG fails to rise or falls, and the rails are dropped (R475). -/
  | railFailure
  /-- 100 ms after a rail failure the rail sequence is tried once more (R475). -/
  | railRetry (f : StartFacts)
  /-- A domain completes its start and its pages read NEAP or SPRING (R469). -/
  | domainStarted (d : Nat)
  /-- A stopping domain completes its power-down and loses its contents (R470). -/
  | domainPoweredDown (d : Nat)
  /-- The change between NEAP and SPRING completes (R471). -/
  | powerStateChangeDone
  /-- A PWR_CTRL write powers System SRAM banks on or off (R494). -/
  | sramEnableWrite (m : Master) (v : Nat)
  /-- A keyed write of PWR_DORMANT.GO requests entry to DORMANT (R472). -/
  | dormantGo (m : Master)
  /-- The module retains hold-up levels, stores time and powers down into DORMANT (R473). -/
  | dormantEntered
  /-- The Lee wake timer expires and wakes the module (R474). -/
  | wakeTimerExpiry (f : StartFacts)
  /-- WAKE_N held low for 1 ms wakes the module (R474). -/
  | wakePin (periods : Nat) (f : StartFacts)
  /-- HRP_CS_N falls and wakes the module (R474). -/
  | hostWake (periods : Nat) (f : StartFacts)
  /-- An HRP frame performs one 32-bit read (R482). -/
  | hrpRead32 (tag a : Nat) (crcOk : Bool)
  /-- An HRP frame performs one 32-bit write (R482). -/
  | hrpWrite32 (tag a v : Nat) (crcOk : Bool)
  /-- An HRP frame performs one 64-bit read (R482). -/
  | hrpRead64 (tag a : Nat) (crcOk : Bool)
  /-- An HRP frame performs one 64-bit write (R482). -/
  | hrpWrite64 (tag a v : Nat) (crcOk : Bool)
  /-- An HRP frame performs a masked read-modify-write as one write (R482). -/
  | hrpRmw32 (tag a mask v : Nat) (crcOk : Bool)
  /-- An HRP frame reads a burst as one access (R482). -/
  | hrpBurstRead (tag a len : Nat) (crcOk : Bool)
  /-- An HRP frame writes a burst as one access (R482). -/
  | hrpBurstWrite (tag a : Nat) (bs : List Nat) (crcOk : Bool)
  /-- An HRP frame returns HRP_STAT without a fabric access (R482). -/
  | hrpStatus (tag : Nat) (crcOk : Bool)
  /-- HRP_CS_N rises before the response ends and the frame is counted aborted (R482). -/
  | hrpFrameAbort
  /-- Writing BOOT_GO ends the HRP boot stream and the boot ROM completes its checks (R483). -/
  | bootGo (m : Master) (len : Nat)
  /-- Writing HRP_CLR sets the HRP error counters to 0 (R499). -/
  | hrpClr (m : Master)
  /-- Runtime March test of one System SRAM bank, slice by slice (R485). -/
  | bistSramMarch (m : Master) (bank : Nat)
  /-- Runtime March test of tracker RAM (R485). -/
  | bistTrackerMarch (m : Master)
  /-- Runtime March test of the TQF pool and queue table (R485). -/
  | bistTqfMarch (m : Master)
  /-- Runtime memory and logic BIST of one stopped Swell engine (R485). -/
  | bistSwellEngine (m : Master) (e : Nat)
  /-- Runtime memory and logic BIST of one idle Surf group (R485). -/
  | bistSurfGroup (m : Master) (g : Nat)
  /-- Runtime logic BIST of one unused Ghery quad (R485). -/
  | bistGheryQuad (m : Master) (q : Nat)
  /-- Start-up BIST of one domain outside FIELD (R486). -/
  | bistDomainStartup (m : Master) (d : Nat)
  /-- A runtime BIST sequence completes with pass or fail, raising BIST_RT on failure (R488). -/
  | bistSequenceDone (pass : Bool)
  /-- A keyed write of LC_REQ burns the next life-cycle state (R489). -/
  | lcReq (m : Master) (target : Nat)
  /-- A keyed write of RB_ADVANCE raises the rollback counter (R481). -/
  | rbAdvance (m : Master) (v : Nat)
  /-- A keyed write of KEY_REVOKE_SET revokes key slots (R481). -/
  | keyRevokeSet (m : Master) (v : Nat)
  /-- RESET_N held low for 10 µs causes a DEVICE reset (R491). -/
  | resetPin (f : StartFacts)
  /-- A debug reset request resets the compute die (R491). -/
  | debugReset (f : StartFacts)
  /-- VSUP falls below 4.3 V for 1 µs and the module runs on VHOLD into a Slack stop (R510). -/
  | supplyLoss
  /-- VSUP becomes valid again and the device resumes according to how far VHOLD fell (R512). -/
  | supplyReturn (f : StartFacts)
  /-- VHOLD falls through the Breakwater brown-out and the hold-up ports go to their defaults (R513). -/
  | breakwaterBrownout
  /-- VHOLD falls through the Lee brown-out and the module goes OFF (R508). -/
  | leeBrownout
  /-- Within a running PWM period the live duty elapses and the output goes to its inactive level (R118). -/
  | pwmDutyEnd (port : Nat)
  /-- A step pulse of STEP_WIDTH ticks ends and the step pin returns to logical 0, releasing any delayed first step of a
  new segment (R119). -/
  | stepPulseEnd (port : Nat)
  /-- A line-trigger pulse reaches the end of its WIDTH and the LTRIG pin returns to its idle level (R127). -/
  | triggerPulseEnd (port : Nat)
  /-- A T1S segment's PHY link comes up or goes down, changing SEG_STAT.LINK and opening or closing its SAFE connections
  (R151). -/
  | segmentLinkChange (seg : Nat) (up : Bool)
  /-- A TSN master port with AS_EN = 1 sends 802.1AS Sync and Follow_Up carrying device time plus AS_OFFSET (R137). -/
  | tsnMasterSyncSend (n : Nat)
  /-- An 802.1AS peer-delay message exchange on a TSN port completes and updates PEER_DELAY (R137). -/
  | peerDelayExchange (n : Nat) (ns : Word)
  /-- A receiving Ghery lane gains or loses block lock, or enters HI_BER, by the clause 49 lock state machine on
  received sync headers (R226). -/
  | blockLockChange (lane quad : Nat) (signal cdr lock hiBer : Bool) (bad : Nat)
  /-- A lane in HI_BER sees 125 µs without an invalid sync header and leaves HI_BER (R226). -/
  | hiBerExit (lane : Nat)
  /-- A sideband receiver aligns on K28.5 or loses that alignment, setting or clearing SB_LOCK (R233). -/
  | sidebandAlignment (lane quad : Nat) (signal lock : Bool)
  /-- The logic BIST and TCM March test of a rotated core completes, raising ROT_FAIL on failure or starting its resync
  (R487). -/
  | rotationTestDone (pass : Bool)
deriving DecidableEq, Repr

end Sys2Proof
end

