-- ==== Sys2Proof/Decode.lean ====
section
/-! DEFINITION. The commands that a word of the opcode table's bits spells: none, since the table gives no row any bits. -/
namespace Sys2Proof

/-- The command that a word of `nbits` bits spells by spec/opcode_table.json: its 430 rows have no fields and no bits, so
there is none.
Marked DEDUCED and safe (notes/assumptions/13.md). -/
def decodeTableWord (_nbits _w : Nat) : Option Instr := none

end Sys2Proof
end

