-- ==== Sys2Proof/Machine/Bits.lean ====
section
/-! DEFINITION. Bit fields of words, signed readings, byte orders, saturation, and the codes the spec names: CRC-16 (R87),
CRC-32 (R239), the SAFE CRC (R142), SHA-256 and HMAC (R290). -/
namespace Sys2Proof.Machine

/-- Bits [lo+n-1:lo] of a number. -/
def bitsN (v lo n : Nat) : Nat := v / 2 ^ lo % 2 ^ n

/-- Bits [lo+n-1:lo] of a word. -/
def fld (w : Word) (lo n : Nat) : Nat := bitsN w.toNat lo n

/-- Bit k of a word. -/
def bit (w : Word) (k : Nat) : Bool := w.getLsbD k

/-- The word with bits [lo+n-1:lo] replaced by the low n bits of a number. -/
def setFld (w : Word) (lo n v : Nat) : Word :=
  let m : Word := BitVec.ofNat 32 ((2 ^ n - 1) * 2 ^ lo)
  (w &&& ~~~m) ||| (BitVec.ofNat 32 (v * 2 ^ lo) &&& m)

/-- The word with bit k set or cleared. -/
def setBit (w : Word) (k : Nat) (b : Bool) : Word := setFld w k 1 (if b then 1 else 0)

/-- A number as a word, its higher bits dropped. -/
def wordOf (n : Nat) : Word := BitVec.ofNat 32 n

/-- The signed reading of the low n bits of a number. -/
def sgn (n v : Nat) : Int :=
  let x := v % 2 ^ n
  if 2 * x < 2 ^ n then x else (x : Int) - 2 ^ n

/-- A signed number in n bits, two's complement. -/
def uns (n : Nat) (v : Int) : Nat := (v % (2 ^ n : Int)).toNat

/-- A count that stops at 0xFFFF_FFFF. -/
def sat32 (n : Nat) : Word := wordOf (min n (2 ^ 32 - 1))

/-- A signed number held between two bounds. -/
def clampI (lo hi v : Int) : Int := if v < lo then lo else if hi < v then hi else v

/-- The n low bytes of a number, lowest first. -/
def bytesLE (n v : Nat) : List Nat := (List.range n).map fun i => v / 256 ^ i % 256

/-- The n low bytes of a number, highest first (network byte order, R139). -/
def bytesBE (n v : Nat) : List Nat := (bytesLE n v).reverse

/-- The number that bytes spell, lowest first. -/
def ofBytesLE : List Nat → Nat
  | [] => 0
  | b :: bs => b % 256 + 256 * ofBytesLE bs

/-- One byte into an n-bit CRC, most significant bit first. -/
def crcByte (n poly : Nat) (crc b : Nat) : Nat :=
  (List.range 8).foldl (fun c _ =>
      let c2 := c * 2 % 2 ^ n
      if c / 2 ^ (n - 1) % 2 = 1 then c2 ^^^ poly else c2)
    (crc ^^^ (b % 256 * 2 ^ (n - 8)))

/-- CRC-16 of R87: polynomial 0x1021, initial 0xFFFF, no reflection, no final XOR. -/
def crc16 (bs : List Nat) : BitVec 16 := BitVec.ofNat 16 (bs.foldl (crcByte 16 0x1021) 0xFFFF)

/-- The SAFE CRC of R142: polynomial 0xF4AC_FB13, the given initial value, no reflection, no final XOR. -/
def safeCrc (init : Nat) (bs : List Nat) : Word := wordOf (bs.foldl (crcByte 32 0xF4ACFB13) init)

/-- One byte into the reflected CRC-32. -/
def crc32Byte (crc b : Nat) : Nat :=
  (List.range 8).foldl (fun c _ => if c % 2 = 1 then c / 2 ^^^ 0xEDB88320 else c / 2) (crc ^^^ (b % 256))

/-- CRC-32 of IEEE 802.3 (R239). -/
def crc32 (bs : List Nat) : Word := wordOf (bs.foldl crc32Byte 0xFFFFFFFF ^^^ 0xFFFFFFFF)

/-- The smallest of a list of numbers, if any. -/
def minList : List Nat → Option Nat
  | [] => none
  | x :: xs => match minList xs with
    | none => some x
    | some y => some (min x y)

end Sys2Proof.Machine
end

