-- ==== Sys2Proof/Machine/Motion.lean ====
section
/-! DEFINITION. Exact motion arithmetic over samples: speed, acceleration, and the least time at which a coordinate is
reached, rounded to the nearest tick (R126, R154, R165). -/
namespace Sys2Proof.Machine

/-- The integer square root, bit by bit from bit k. -/
def isqrtBits (n : Nat) : Nat → Nat → Nat
  | 0, acc => acc
  | k + 1, acc =>
    let t := acc + 2 ^ k
    isqrtBits n k (if t * t ≤ n then t else acc)

/-- The integer square root of a number below 2^1024. -/
def isqrt (n : Nat) : Nat := isqrtBits n 512 0

/-- A quotient of integers with a positive denominator. -/
structure Frac where
  num : Int
  den : Nat
deriving DecidableEq, Repr

/-- The nearest integer at or above the half, floor(x + 1/2), of a fraction. -/
def Frac.round (x : Frac) : Int := (2 * x.num + x.den) / (2 * (max 1 x.den : Nat) : Int)

/-- Speed over a span of samples, per tick (R126). -/
def spanSpeed (newer older : Nat × Int) : Frac :=
  ⟨newer.2 - older.2, max 1 (newer.1 - older.1)⟩

/-- Acceleration from three samples a span apart, per tick squared: the difference of the two spans' speeds over the
distance of their midpoints (R126). -/
def spanAccel (a b c : Nat × Int) : Frac :=
  let dt := max 1 (a.1 - b.1)
  let dt' := max 1 (b.1 - c.1)
  ⟨2 * ((a.2 - b.2) * dt' - (b.2 - c.2) * dt), dt * dt' * max 1 (a.1 - c.1)⟩

/-- The least τ > 0 with v τ + ½ a τ² = d for a distance d > 0, rounded to the nearest tick, a tie to the later; none
when no such τ exists (R126). -/
def crossTicks (d : Int) (v a : Frac) : Option Nat :=
  let qa := a.num * v.den
  let qb := 2 * v.num * a.den
  let qc := 2 * d * a.den * v.den
  if d ≤ 0 then none
  else if qa = 0 then
    if qb ≤ 0 then none else some ((2 * qc + qb) / (2 * qb)).toNat
  else
    let disc := qb * qb + 4 * qa * qc
    if disc < 0 then none
    else if 0 < qa then some ((qa - qb + isqrt disc.toNat) / (2 * qa)).toNat
    else if qb ≤ 0 then none
    else
      let r := isqrt disc.toNat
      let up : Int := if r * r = disc.toNat then r else r + 1
      some ((qb - qa - up) / (2 * (-qa))).toNat

end Sys2Proof.Machine
end

