-- ==== Sys2Proof/Config.lean ====
section
/-! DEFINITION. What the spec leaves open: free values, opaque constants applied to the counter `State.free` (or to the
operands named beside each); nothing in Lean evaluates them, so a statement holds for every choice. Each is named in
notes/assumptions. -/
namespace Sys2Proof

/-- Which free pool entry the TQF takes at an admission (R88 gives the handle's form, not the choice).
Marked DESIGN CHOICE and safe (notes/assumptions/36.md). -/
opaque Config.poolPick : Nat → Nat

/-- Whether an entry whose commit point lies inside the ebb notice is removed (R101: "removed or leaked").
Marked DESIGN CHOICE and safe (notes/assumptions/37.md). -/
opaque Config.ebbNotice : Nat → Bool

/-- The rate correction that the 802.1AS servo applies at a Sync (R78 gives the servo, not its law).
Marked DESIGN CHOICE and safe (notes/assumptions/33.md). -/
opaque Config.servoRate : Nat → Int

/-- Which free tracker context an open takes (R163).
Marked DESIGN CHOICE and safe (notes/assumptions/53.md). -/
opaque Config.contextPick : Nat → Nat

/-- A truth value the spec leaves to the device.
Marked DESIGN CHOICE and safe (notes/assumptions/87.md), DESIGN CHOICE and safe (notes/assumptions/99.md). -/
opaque Config.freeBool : Nat → Bool

/-- A number the spec leaves to the device (clipped by its user to the range the spec gives).
Marked DESIGN CHOICE and safe (notes/assumptions/45.md), DESIGN CHOICE and safe (notes/assumptions/74.md), DESIGN
CHOICE and safe (notes/assumptions/75.md), DESIGN CHOICE and safe (notes/assumptions/86.md). -/
opaque Config.freeNat : Nat → Nat

/-- A pixel of a line that a camera never sent, which a kernel reaches past the last line of a run (R191, R197), by draw,
line and column.
Marked DESIGN CHOICE and safe (notes/assumptions/57.md). -/
opaque Config.linePixel : Nat → Nat → Nat → Nat

/-- The distance of a legal wheel's count while its counts per revolution have not been set (R268 divides by them).
Marked DESIGN CHOICE and safe (notes/assumptions/63.md). -/
opaque Config.unsetDistance : Int → Int

/-- One word of the ticket key that Tidemark draws from its entropy source (R290), by draw and word index.
Marked DESIGN CHOICE and safe (notes/assumptions/64.md). -/
opaque Config.entropy : Nat → Nat → BitVec 32

/-- Where the boot ROM places the Breach region and what it leaves in the Breach registers (R373 and R393 name the region,
not its place nor what the capabilities hold beside it): 0 its base, 1 its length, 2 the cursor of BREACH_VEC, 3 the cursor of
BREACH_CSP, 4 and 5 the permissions and the cursor of BREACH_DDC, 6 the permissions that BREACH_CSP holds beside those that a
stack needs.
Marked DESIGN CHOICE and safe (notes/assumptions/107.md). -/
opaque Config.breachPlace : Nat → Nat

/-- The public key (64 bytes) and the signature (64 bytes) that the RETURN token at an address holds, by the bytes of memory
(R489 names the token and where it lies, not its layout).
Marked DESIGN CHOICE and safe (notes/assumptions/110.md). -/
opaque Config.tokenOf : List (Nat × BitVec 8) → Nat → List Nat × List Nat

end Sys2Proof
end

