-- ==== Sys2Proof/Machine/Regs.lean ====
section
/-! DEFINITION. The register tables of the spec's pages: for each register its offset, how often it repeats, which of its
bits are read-only, writable, write-one-to-clear and write-only (every other bit is reserved, R60), its reset value, and
whether it is keyed (RWK), write-once (RWO), lockable, or takes only 64-bit writes. -/
namespace Sys2Proof.Machine

/-- One row of a register table (R15): register (i, j) lies at off + i × s + j × s2 for i < n and j < n2. -/
structure RegDef where
  off : Nat
  n : Nat
  s : Nat
  n2 : Nat
  s2 : Nat
  ro : Nat
  rw : Nat
  w1c : Nat
  wo : Nat
  rs : Nat
  key : Bool
  once : Bool
  lock : Bool
  w64 : Bool
deriving DecidableEq, Repr

/-- A row of a register table, with everything it does not say at its usual value. -/
def rg (off : Nat) (ro rw w1c wo rs : Nat := 0) (n : Nat := 1) (s : Nat := 4) (n2 : Nat := 1) (s2 : Nat := 4)
    (key once lock w64 : Bool := false) : RegDef :=
  ⟨off, n, s, n2, s2, ro, rw, w1c, wo, rs, key, once, lock, w64⟩

/-- The row covers the register at an offset. -/
def RegDef.covers (d : RegDef) (off : Nat) : Bool :=
  d.off ≤ off &&
    (let x := off - d.off
     if d.n2 = 1 then x % d.s = 0 && x / d.s < d.n
     else x / d.s < d.n && x % d.s % d.s2 = 0 && x % d.s / d.s2 < d.n2)

/-- Every bit that a row defines. -/
def RegDef.defined (d : RegDef) : Nat := d.ro ||| d.rw ||| d.w1c ||| d.wo

/-- A register with no writable bit (R59). -/
def RegDef.readOnly (d : RegDef) : Bool := d.rw = 0 && d.w1c = 0 && d.wo = 0

/-- The first row that covers an offset. -/
def regFind : List RegDef → Nat → Option RegDef
  | [], _ => none
  | d :: t, off => if d.covers off then some d else regFind t off

/-- One fault source of R420: its default class on the DX-9512T and on the D members, and the permitted classes of
each as a bitmap. Where R420 gives no default (a source that the part never raises) it is the lowest permitted class. -/
structure SourceDef where
  clsT : Nat
  clsD : Nat
  permitT : Nat
  permitD : Nat
deriving DecidableEq, Repr, Inhabited

/-- The 64 sources of R420, by ID. -/
def sources : List SourceDef := [
  ⟨4, 4, 0x10, 0x10⟩,  -- 0x00 LS_SINGLE
  ⟨5, 5, 0xe0, 0xe0⟩,  -- 0x01 LS_PAIR
  ⟨0, 0, 0x61, 0x61⟩,  -- 0x02 RESYNC_FAIL
  ⟨5, 5, 0x60, 0x60⟩,  -- 0x03 DEGRADED
  ⟨0, 0, 0x61, 0x61⟩,  -- 0x04 BREACH
  ⟨5, 5, 0xe0, 0xe0⟩,  -- 0x05 CORE_HOLD
  ⟨5, 5, 0xe0, 0xe0⟩,  -- 0x06 TASK_WDT
  ⟨6, 6, 0xc0, 0xc0⟩,  -- 0x07 SAFETY_WDT
  ⟨1, 1, 0x2, 0x2⟩,  -- 0x08 TCM_CE
  ⟨4, 5, 0x70, 0x60⟩,  -- 0x09 TCM_UE
  ⟨1, 1, 0x2, 0x2⟩,  -- 0x0A SRAM_CE
  ⟨5, 5, 0x60, 0x60⟩,  -- 0x0B SRAM_UE
  ⟨0, 0, 0x29, 0x29⟩,  -- 0x0C CE_RATE
  ⟨3, 3, 0x28, 0x28⟩,  -- 0x0D SWELL_MEM_UE
  ⟨0, 0, 0x29, 0x29⟩,  -- 0x0E SWELL_HALT
  ⟨5, 5, 0x68, 0x68⟩,  -- 0x0F SWELL_PAIR
  ⟨3, 3, 0x29, 0x29⟩,  -- 0x10 SURF_MEM
  ⟨5, 5, 0x28, 0x28⟩,  -- 0x11 TRACKER_UE
  ⟨5, 5, 0x61, 0x61⟩,  -- 0x12 TQF_CRC
  ⟨5, 5, 0x60, 0x60⟩,  -- 0x13 TQF_POOL_UE
  ⟨5, 5, 0x61, 0x61⟩,  -- 0x14 FAB_E2E
  ⟨5, 5, 0x61, 0x61⟩,  -- 0x15 REG_PARITY
  ⟨5, 5, 0x60, 0x60⟩,  -- 0x16 INTERNAL
  ⟨5, 5, 0x60, 0x60⟩,  -- 0x17 CFG_PARITY
  ⟨2, 2, 0x4, 0x4⟩,  -- 0x18 CF_CRC
  ⟨2, 2, 0x4, 0x4⟩,  -- 0x19 CF_SEQ
  ⟨5, 5, 0x60, 0x60⟩,  -- 0x1A CF_TMO
  ⟨5, 5, 0x61, 0x61⟩,  -- 0x1B ENTRY_LOST
  ⟨0, 0, 0x21, 0x21⟩,  -- 0x1C TM_LINK
  ⟨5, 5, 0x60, 0x60⟩,  -- 0x1D TB_SKEW
  ⟨5, 5, 0x60, 0x60⟩,  -- 0x1E DL_CAL
  ⟨5, 5, 0x61, 0x61⟩,  -- 0x1F HOLDUP_IO
  ⟨5, 5, 0x21, 0x21⟩,  -- 0x20 SAFE_LOST
  ⟨0, 0, 0x21, 0x21⟩,  -- 0x21 SPEED_LOST
  ⟨0, 0, 0x21, 0x21⟩,  -- 0x22 PLAN_CRC
  ⟨0, 0, 0x21, 0x21⟩,  -- 0x23 PLAN_STALE
  ⟨6, 6, 0xc0, 0xc0⟩,  -- 0x24 BW_SELF
  ⟨6, 6, 0xc0, 0xc0⟩,  -- 0x25 BW_CFG
  ⟨5, 5, 0x20, 0x20⟩,  -- 0x26 FW_SLACK
  ⟨5, 5, 0x60, 0x60⟩,  -- 0x27 CLK_CORE
  ⟨3, 3, 0x28, 0x28⟩,  -- 0x28 CLK_SWELL
  ⟨3, 3, 0x29, 0x29⟩,  -- 0x29 CLK_SERDES
  ⟨5, 5, 0x60, 0x60⟩,  -- 0x2A CLK_FABRIC
  ⟨6, 6, 0xc0, 0xc0⟩,  -- 0x2B CLK_FIELD
  ⟨6, 6, 0xc0, 0xc0⟩,  -- 0x2C CLK_BW
  ⟨5, 5, 0x60, 0x60⟩,  -- 0x2D CLK_REF
  ⟨5, 5, 0x60, 0x60⟩,  -- 0x2E V_CORE
  ⟨5, 5, 0x60, 0x60⟩,  -- 0x2F V_SRAM
  ⟨3, 3, 0x28, 0x28⟩,  -- 0x30 V_SERDES
  ⟨0, 0, 0x29, 0x29⟩,  -- 0x31 V_TIO
  ⟨5, 5, 0x60, 0x60⟩,  -- 0x32 V_TIO0
  ⟨5, 5, 0x60, 0x60⟩,  -- 0x33 V_T1S
  ⟨3, 3, 0x29, 0x29⟩,  -- 0x34 V_ANA
  ⟨5, 5, 0x20, 0x20⟩,  -- 0x35 VSUP_FAIL
  ⟨0, 0, 0x21, 0x21⟩,  -- 0x36 VSUP_OV
  ⟨0, 0, 0x21, 0x21⟩,  -- 0x37 VHOLD_LOW
  ⟨0, 0, 0x21, 0x21⟩,  -- 0x38 TEMP_HI
  ⟨5, 5, 0x60, 0x60⟩,  -- 0x39 TEMP_CRIT
  ⟨7, 5, 0x80, 0xe0⟩,  -- 0x3A BIST_RT
  ⟨7, 7, 0x80, 0x80⟩,  -- 0x3B ROT_FAIL
  ⟨0, 0, 0x29, 0x29⟩,  -- 0x3C CONV_FAULT
  ⟨5, 5, 0x61, 0x61⟩,  -- 0x3D T1S_HOLDUP
  ⟨6, 6, 0xc0, 0xc0⟩,  -- 0x3E FUSE_CRC
  ⟨3, 3, 0x28, 0x28⟩]  -- 0x3F DMA_UE

/-- The lowest class of a bitmap of classes. -/
def minPermit (m : Nat) : Nat := ((List.range 8).find? fun k => m / 2 ^ k % 2 = 1).getD 7

/-- The common header of every present page (R43). -/
def regsHeader : List RegDef := [
  rg 0 (ro := 0xffffffff) (rs := 1),  -- PAGE_ID
  rg 4 (ro := 0xffff),  -- PAGE_VER
  rg 8 (ro := 0xffffffff),  -- PAGE_FEAT
  rg 0xc (rw := 0xd) (wo := 2),  -- PAGE_CTRL
  rg 0x10 (ro := 0xff),  -- PAGE_STAT
  rg 0x14 (ro := 0xfffffff) (w1c := 0x80000000),  -- PAGE_ERR
  rg 0x18 (rw := 3) (wo := 0xffff0000),  -- PAGE_LOCK
  rg 0x1c (rw := 0xff) (rs := 0xff),  -- PAGE_OWNER
  rg 0x20 (w1c := 0xffffffff),  -- IRQ_RAW
  rg 0x24 (rw := 0xffffffff),  -- IRQ_EN
  rg 0x28 (ro := 0xffffffff),  -- IRQ_STAT
  rg 0x2c (wo := 0xffffffff),  -- IRQ_SET
  rg 0x30 (ro := 0xffff) (wo := 0x80000000)]  -- E2E_STAT

/-- The system page (R4, R342, R492). -/
def regsSys : List RegDef := [
  rg 0x40 (ro := 0x1fffffff),  -- FEAT0
  rg 0x44 (ro := 0x1ffffff) (rs := 0x1000000),  -- FEAT1
  rg 0x48 (ro := 0x3ffff),  -- FEAT_WDT
  rg 0x50 (ro := 0xffffffff) (n := 8) (s := 4),  -- WDT_HASH[i]
  rg 0x70 (ro := 0x3ff),  -- RST_CAUSE
  rg 0x74 (ro := 0xffffffff)]  -- RST_CNT

/-- The clocks page (R493). -/
def regsClk : List RegDef := [
  rg 0x40 (ro := 0x1fff)]  -- CLK_STAT

/-- The power manager page (R494). -/
def regsPwr : List RegDef := [
  rg 0x40 (rw := 0xf) (rs := 0xf),  -- PWR_CTRL
  rg 0x44 (rw := 1) (key := true),  -- PWR_DORMANT
  rg 0x48 (ro := 0x37) (rs := 3),  -- PWR_STAT
  rg 0x4c (ro := 0xffffffff),  -- DOM_ON_LO
  rg 0x50 (ro := 0xf),  -- DOM_ON_HI
  rg 0x54 (ro := 0xffffffff),  -- DOM_FAULT_LO
  rg 0x58 (ro := 0xf)]  -- DOM_FAULT_HI

/-- The Lee page (R495). -/
def regsLee : List RegDef := [
  rg 0x40 (rw := 0xf),  -- WAKE_EN
  rg 0x44 (rw := 0xffffffff),  -- WAKE_TIME
  rg 0x48 (ro := 0xf),  -- WAKE_SRC
  rg 0x4c (ro := 0xffffffff),  -- DORM_TIME
  rg 0x50 (ro := 1),  -- LEE_STAT
  rg 0x800 (rw := 0xffffffff) (n := 64) (s := 4)]  -- SCRATCH[i]

/-- The Tidemark link and status page (R298). -/
def regsTml : List RegDef := [
  rg 0x40 (ro := 7),  -- TM_LINK
  rg 0x44 (ro := 0xffffffff),  -- LINK_CRC_ERR
  rg 0x48 (ro := 0xffffffff),  -- SAMPLE_GAP
  rg 0x4c (ro := 0x8fffffff),  -- PROP_ERR
  rg 0x50 (wo := 3),  -- TM_CLR
  rg 0x54 (wo := 1),  -- REFILL
  rg 0x58 (ro := 0xffffffff)]  -- MIRROR_GONE

/-- The Breakwater control and status page (R432). -/
def regsBwCtl : List RegDef := [
  rg 0x40 (ro := 7),  -- BW_STAT
  rg 0x44 (rw := 0x1f) (rs := 0x10) (key := true),  -- SLACK_REQ
  rg 0x48 (wo := 1),  -- SLACK_REL
  rg 0x4c (ro := 0xffffffff),  -- SLACK_P_LO
  rg 0x50 (ro := 0xffffffff),  -- SLACK_P_HI
  rg 0x58 (ro := 0x3fff),  -- REC_INFO
  rg 0x5c (ro := 0xffffffff),  -- REC_INST_LO
  rg 0x60 (ro := 0xffffffff),  -- REC_INST_HI
  rg 0x64 (ro := 0xffffffff),  -- REC_TASKS
  rg 0x68 (wo := 1),  -- REC_CLR
  rg 0x6c (ro := 0xffffffff),  -- RESET_CNT
  rg 0x70 (ro := 0xffffffff),  -- ISO_STAT0
  rg 0x74 (ro := 0xffffffff),  -- ISO_STAT1
  rg 0x78 (wo := 0x3f)]  -- ISO_REL

/-- The fault collector page (R433). -/
def regsBwFc : List RegDef := [
  rg 0x40 (w1c := 0xffffffff),  -- FC_LATCH0
  rg 0x44 (w1c := 0xffffffff),  -- FC_LATCH1
  rg 0x48 (ro := 0x7f),  -- FC_FIRST
  rg 0x4c (ro := 0xffffffff),  -- FC_FIRST_LO
  rg 0x50 (ro := 0xffffffff),  -- FC_FIRST_HI
  rg 0x54 (wo := 1),  -- FC_CLR
  rg 0x58 (wo := 0x3f),  -- FC_INJECT
  rg 0x800 (ro := 0xffff) (n := 64) (s := 4)]  -- FC_COUNT[s]

/-- The reaction map page (R434). -/
def regsBwMap : List RegDef := [
  rg 0x800 (ro := 0x7ff0000) (rw := 0x3ff) (rs := 0x228) (n := 64) (s := 4) (lock := true)]  -- MAP[s]

/-- The Breakwater monitors page (R435). -/
def regsBwMon : List RegDef := [
  rg 0x40 (rw := 0xffff) (rs := 0x3e8),  -- CE_THR
  rg 0x44 (rw := 0xffff) (rs := 0x7869),  -- TEMP_LIM
  rg 0x48 (rw := 0xffff),  -- VHOLD_MIN
  rg 0x4c (ro := 0xfff),  -- V_STAT
  rg 0x50 (ro := 0xff),  -- CLK_STAT
  rg 0x800 (ro := 0xff) (n := 10) (s := 4)]  -- TEMP[i]

/-- The Slack plan control page (R436). -/
def regsSlk : List RegDef := [
  rg 0x40 (wo := 0xffff),  -- PLAN_KEY
  rg 0x44 (wo := 0x1f),  -- PLAN_COMMIT
  rg 0x48 (wo := 1),  -- PLAN_REFRESH
  rg 0x4c (ro := 0xfffff),  -- PLAN_STAT
  rg 0x50 (ro := 0x7fff),  -- PLAN_ERRPOS
  rg 0x54 (ro := 0xffffffff),  -- VALID_UNTIL_LO
  rg 0x58 (ro := 0xffffffff),  -- VALID_UNTIL_HI
  rg 0x5c (rw := 0x3fff) (rs := 0x3e8),  -- PLAN_TTL
  rg 0x60 (rw := 7) (rs := 7),  -- FALLBACK
  rg 0x64 (rw := 0xffff),  -- SPD_SRC
  rg 0x68 (rw := 0xffffffff) (rs := 0xa0000),  -- V_FLOOR
  rg 0x6c (rw := 0xffffffff) (rs := 0x1900000),  -- V_MAX
  rg 0x70 (rw := 0xffff) (rs := 0xa),  -- SPD_AGE_MAX
  rg 0x74 (ro := 0xffffffff),  -- SPD_NOW
  rg 0x78 (ro := 0xffffffff) (rs := 0xffffffff),  -- SPD_AGE
  rg 0x7c (ro := 0xfffff),  -- PLAY_STAT
  rg 0x80 (ro := 0xffffffff),  -- PLAY_SCALE
  rg 0x800 (rw := 0xffff1fff) (n := 2) (s := 0x80) (n2 := 8) (s2 := 0x10) (key := true),  -- HDR_CNT
  rg 0x804 (rw := 0xffffffff) (n := 2) (s := 0x80) (n2 := 8) (s2 := 0x10) (key := true),  -- HDR_VREF
  rg 0x808 (rw := 0xffffffff) (n := 2) (s := 0x80) (n2 := 8) (s2 := 0x10) (key := true)]  -- HDR_ZLEAD

/-- The lockstep and resync page (R437). -/
def regsLks : List RegDef := [
  rg 0x40 (ro := 0x1f),  -- LS_STAT
  rg 0x44 (ro := 0xffffffff),  -- LS_CNT
  rg 0x48 (ro := 0x1f),  -- LS_LAST
  rg 0x4c (rw := 0x7ffffff) (rs := 0x36ee80),  -- DEG_TMO
  rg 0x50 (rw := 0xffff01) (rs := 0x25800),  -- ROT_CFG
  rg 0x54 (wo := 1),  -- ROT_REQ
  rg 0x58 (ro := 0xffff)]  -- RESYNC_TIME

/-- The timebase page (R80). -/
def regsTb : List RegDef := [
  rg 0x40 (ro := 0xffffffff),  -- TB_NOW_LO
  rg 0x44 (ro := 0xffffffff),  -- TB_NOW_HI
  rg 0x48 (rw := 0xf03) (lock := true),  -- TB_MODE
  rg 0x4c (ro := 7),  -- TB_STAT
  rg 0x50 (rw := 0xffffffff),  -- TB_RATE
  rg 0x54 (ro := 0xffffffff),  -- TB_PHASE
  rg 0x58 (rw := 0xffffffff),  -- AS_OFFSET_LO
  rg 0x5c (rw := 0xffffffff),  -- AS_OFFSET_HI
  rg 0x60 (ro := 0xffffffff),  -- FIELD_SKEW
  rg 0x64 (rw := 0xffffffff) (rs := 0xa80064) (lock := true),  -- LOCK_CFG
  rg 0x68 (wo := 1)]  -- TB_CLR

/-- The TQF control page (R108). -/
def regsTqf : List RegDef := [
  rg 0x40 (ro := 0x7ffff) (rs := 0x40000),  -- POOL_FREE
  rg 0x44 (rw := 0x7ffff) (rs := 0x1000),  -- POOL_LOW
  rg 0x48 (rw := 0xffff) (lock := true),  -- CLASS1_LEAD
  rg 0x4c (rw := 0xffff) (lock := true),  -- CLASS2_LEAD
  rg 0x50 (rw := 0xffff) (lock := true),  -- CLASS3_LEAD
  rg 0x54 (ro := 0xbfffffff),  -- QT_ERR
  rg 0x58 (wo := 1)]  -- QT_ERR_CLR

/-- The TQF ebb page (R109). -/
def regsEbb : List RegDef := [
  rg 0x40 (ro := 0xffffffff),  -- EBB_TOTAL
  rg 0x44 (ro := 0xffffffff),  -- LEAK_TOTAL
  rg 0x800 (rw := 0xff) (rs := 0xff) (n := 64) (s := 4) (lock := true),  -- GROUP_OWNER[g]
  rg 0x900 (ro := 0x1fff) (n := 64) (s := 4)]  -- GROUP_MEMBERS[g]

/-- The TQF pre-emption and statistics page (R110). -/
def regsTqs : List RegDef := [
  rg 0x40 (rw := 0xffffffff) (lock := true),  -- LOG_BASE
  rg 0x44 (rw := 0x1f) (lock := true),  -- LOG_SIZE
  rg 0x48 (ro := 1),  -- PRE_STAT
  rg 0x4c (ro := 0xffffffff),  -- PRE_P_LO
  rg 0x50 (ro := 0xffffffff),  -- PRE_P_HI
  rg 0x54 (ro := 0xffffffff),  -- PRE_COUNT
  rg 0x80 (ro := 0xffffffff),  -- REJ_Q_FULL
  rg 0x84 (ro := 0xffffffff),  -- REJ_TOO_LATE
  rg 0x88 (ro := 0xffffffff),  -- REJ_HORIZON
  rg 0x8c (ro := 0xffffffff),  -- REJ_COLLIDE
  rg 0x90 (ro := 0xffffffff),  -- REJ_NO_SLOT
  rg 0x94 (ro := 0xffffffff),  -- REJ_EPOCH
  rg 0x98 (ro := 0xffffffff),  -- REJ_UNBOUND
  rg 0x9c (ro := 0xffffffff),  -- CRC_DROP
  rg 0xa0 (ro := 0xffffffff),  -- DELIV_LO
  rg 0xa4 (ro := 0xffffffff),  -- DELIV_HI
  rg 0xa8 (wo := 1),  -- STAT_CLR
  rg 0xac (ro := 0x1ff),  -- LINK_PEAK
  rg 0xb0 (ro := 0xffffff)]  -- REL_ERR

/-- A timed I/O bank page (R129); BANK_DRIVE and the pin records are lockable on bank 0 only. -/
def regsTio : List RegDef := [
  rg 0x40 (ro := 0x1f),  -- BANK_STAT
  rg 0x44 (rw := 0xf) (rs := 1) (lock := true),  -- BANK_DRIVE
  rg 0x48 (ro := 0xffffffff),  -- CAP_LO
  rg 0x4c (ro := 0xffffffff),  -- CAP_HI
  rg 0x50 (ro := 0xffff00ff),  -- CAP_INFO
  rg 0x54 (ro := 0xffff01ff),  -- CAP_FILL
  rg 0x58 (ro := 0xffffffff),  -- BAD_PAY
  rg 0x5c (wo := 3),  -- BANK_CLR
  rg 0x800 (rw := 0x3fff) (n := 32) (s := 0x40) (lock := true),  -- PIN_CFG
  rg 0x804 (rw := 0xffffffff) (n := 32) (s := 0x40) (n2 := 5) (s2 := 4) (lock := true),  -- PARAM0–PARAM4
  rg 0x818 (rw := 0xffffffff) (n := 32) (s := 0x40) (lock := true) (w64 := true),  -- OFFSET_LO
  rg 0x81c (rw := 0xffffffff) (n := 32) (s := 0x40) (lock := true) (w64 := true),  -- OFFSET_HI
  rg 0x820 (ro := 0xf) (n := 32) (s := 0x40) (lock := true),  -- PIN_STAT
  rg 0x824 (w1c := 7) (n := 32) (s := 0x40) (lock := true),  -- PIN_EVT
  rg 0x828 (ro := 0xffffffff) (n := 32) (s := 0x40) (lock := true),  -- CNT_LO
  rg 0x82c (ro := 0xffffffff) (n := 32) (s := 0x40) (lock := true),  -- CNT_HI
  rg 0x830 (ro := 0xffffffff) (n := 32) (s := 0x40) (lock := true),  -- COORD_LO
  rg 0x834 (ro := 0xffffffff) (n := 32) (s := 0x40) (lock := true),  -- COORD_HI
  rg 0x838 (ro := 0xffffffff) (n := 32) (s := 0x40) (lock := true),  -- SAMP_LO
  rg 0x83c (ro := 0xffffffff) (n := 32) (s := 0x40) (lock := true)]  -- SAMP_HI

/-- The timed I/O common page (R131, R132). -/
def regsTioc : List RegDef := [
  rg 0x40 (ro := 1),  -- DL_STAT
  rg 0x48 (wo := 0xffffffff),  -- TLOG_Q_LO
  rg 0x4c (wo := 0xf),  -- TLOG_Q_HI
  rg 0x50 (ro := 3),  -- TLOG_R_STAT
  rg 0x58 (ro := 0xffffffff),  -- TLOG_R_INST_LO
  rg 0x5c (ro := 0xffffffff),  -- TLOG_R_INST_HI
  rg 0x60 (ro := 0xffffffff),  -- TLOG_R_COORD_LO
  rg 0x64 (ro := 0xffffffff),  -- TLOG_R_COORD_HI
  rg 0x800 (rw := 0xffffffff) (rs := 0x14000000) (n := 16) (s := 0x40),  -- GEN_CFG
  rg 0x804 (rw := 0xffffffff) (rs := 1) (n := 16) (s := 0x40),  -- PITCH
  rg 0x808 (rw := 0xffffffff) (n := 16) (s := 0x40),  -- START_LO
  rg 0x80c (rw := 0xffffffff) (n := 16) (s := 0x40),  -- START_HI
  rg 0x810 (rw := 0xffffffff) (n := 16) (s := 0x40),  -- LINE_START
  rg 0x814 (rw := 0xffffffff) (rs := 0x320) (n := 16) (s := 0x40),  -- WIDTH
  rg 0x818 (ro := 7) (n := 16) (s := 0x40),  -- GEN_STAT
  rg 0x81c (ro := 0xffffffff) (n := 16) (s := 0x40),  -- LINE_NEXT
  rg 0x820 (ro := 0xffffffff) (n := 16) (s := 0x40)]  -- SKIP_CNT

/-- The T1S common page (R150). -/
def regsT1sc : List RegDef := [
  rg 0x40 (rw := 0xffff) (rs := 0x88b5) (lock := true),  -- TL_ETYPE
  rg 0x44 (rw := 0xffffffff) (lock := true),  -- DEV_MAC_LO
  rg 0x48 (rw := 0xffff) (lock := true),  -- DEV_MAC_HI
  rg 0x4c (rw := 0xffffffff) (rs := 0x56000000),  -- TL_MCAST_LO
  rg 0x50 (rw := 0xffff) (rs := 0x35a),  -- TL_MCAST_HI
  rg 0x54 (rw := 0xf) (rs := 0xd),  -- SYNC_CFG
  rg 0x58 (rw := 0xffffffff) (lock := true),  -- SAFE_SEED
  rg 0x5c (rw := 0xffffffff),  -- RX_LOG_BASE
  rg 0x60 (rw := 0x1f)]  -- RX_LOG_SIZE

/-- A T1S quad page (R151); every register is lockable on quad page 0 only. -/
def regsT1s : List RegDef := [
  rg 0x40 (rw := 0x7fff) (rs := 0x802) (n := 4) (s := 0x40) (lock := true),  -- SEG_CFG
  rg 0x44 (rw := 0xffff) (rs := 0x190) (n := 4) (s := 0x40) (lock := true),  -- SEG_HL
  rg 0x48 (rw := 0xffffffff) (n := 4) (s := 0x40) (lock := true),  -- FRAME_CYCLE
  rg 0x4c (rw := 0xffffffff) (n := 4) (s := 0x40) (lock := true),  -- FRAME_PHASE
  rg 0x50 (rw := 0xffff) (n := 4) (s := 0x40) (lock := true),  -- SEG_PROP
  rg 0x54 (rw := 0x7ff) (rs := 0x5f2) (n := 4) (s := 0x40) (lock := true),  -- NODE_TX_MAX
  rg 0x58 (rw := 0x3ffff) (rs := 0x64) (n := 4) (s := 0x40) (lock := true),  -- ACK_CFG
  rg 0x5c (rw := 0xffff) (rs := 0x3e8) (n := 4) (s := 0x40) (lock := true),  -- SAFE_TMO
  rg 0x60 (ro := 3) (n := 4) (s := 0x40) (lock := true),  -- SEG_STAT
  rg 0x64 (ro := 0xffffffff) (n := 4) (s := 0x40) (lock := true),  -- LATE_CNT
  rg 0x68 (ro := 0xffffffff) (n := 4) (s := 0x40) (lock := true),  -- NOACK_CNT
  rg 0x6c (ro := 0xffffffff) (n := 4) (s := 0x40) (lock := true),  -- RX_ERR
  rg 0x70 (ro := 0xffffffff) (n := 4) (s := 0x40) (lock := true),  -- TX_FRAMES
  rg 0x74 (wo := 1) (n := 4) (s := 0x40) (lock := true),  -- CNT_CLR
  rg 0x400 (rw := 0xffffffff) (n := 4) (s := 0x80) (n2 := 16) (s2 := 8) (lock := true),  -- NODE_MAC_LO
  rg 0x404 (rw := 0xffffffff) (n := 4) (s := 0x80) (n2 := 16) (s2 := 8) (lock := true),  -- NODE_CFG
  rg 0x800 (rw := 0x8fffffff) (n := 4) (s := 0x200) (n2 := 32) (s2 := 0x10) (lock := true),  -- DESC_OBJ
  rg 0x804 (rw := 0x7fffffff) (rs := 0x1f40) (n := 4) (s := 0x200) (n2 := 32) (s2 := 0x10) (lock := true),  -- DESC_CYCLE
  rg 0x808 (rw := 0x7fffffff) (n := 4) (s := 0x200) (n2 := 32) (s2 := 0x10) (lock := true)]  -- DESC_BASE

/-- A TSN port page (R152). -/
def regsTsn : List RegDef := [
  rg 0x40 (rw := 0xff) (rs := 0x38),  -- TSN_CFG
  rg 0x44 (ro := 7),  -- TSN_STAT
  rg 0x48 (rw := 0x7f) (rs := 1),  -- GCL_LEN
  rg 0x4c (rw := 0xffffffff) (rs := 0x1f40),  -- GCL_CYCLE
  rg 0x50 (rw := 0xffffffff),  -- GCL_BASE_LO
  rg 0x54 (rw := 0xffffffff),  -- GCL_BASE_HI
  rg 0x58 (rw := 0x3ffff) (rs := 0x64),  -- ACK_CFG
  rg 0x5c (rw := 0xffff) (rs := 0x3e8),  -- SAFE_TMO
  rg 0x60 (ro := 0xffffffff),  -- LATE_CNT
  rg 0x64 (ro := 0xffffffff),  -- NOACK_CNT
  rg 0x68 (ro := 0xffffffff),  -- RX_ERR
  rg 0x6c (ro := 0xffffffff),  -- TX_FRAMES
  rg 0x70 (wo := 1),  -- CNT_CLR
  rg 0x74 (ro := 0xffffffff),  -- PEER_DELAY
  rg 0x400 (rw := 0xffffffff) (n := 32) (s := 8),  -- DEST_MAC_LO
  rg 0x404 (rw := 0xffffffff) (n := 32) (s := 8),  -- DEST_CFG
  rg 0x600 (rw := 0xff) (rs := 0xff) (n := 64) (s := 8),  -- GCL_GATES
  rg 0x604 (rw := 0xffffffff) (rs := 0x1f40) (n := 64) (s := 8),  -- GCL_TIME
  rg 0x800 (rw := 0x8fffffff) (n := 128) (s := 0x10),  -- DESC_OBJ
  rg 0x804 (rw := 0x7fffffff) (rs := 0x1f40) (n := 128) (s := 0x10),  -- DESC_CYCLE
  rg 0x808 (rw := 0x7fffffff) (n := 128) (s := 0x10),  -- DESC_BASE
  rg 0x80c (rw := 0xffffffff) (n := 128) (s := 0x10)]  -- DESC_NET

/-- The Mark Tracker page (R182). -/
def regsTrk : List RegDef := [
  rg 0x40 (rw := 0xff),  -- TR_CTRL
  rg 0x44 (ro := 0x7fff),  -- TR_STAT
  rg 0x48 (rw := 0xffffffff) (lock := true),  -- TR_LOG_BASE
  rg 0x4c (rw := 0x1f) (lock := true),  -- TR_LOG_SIZE
  rg 0x50 (ro := 0x83ffffff),  -- TR_ERR
  rg 0x54 (wo := 1),  -- TR_ERR_CLR
  rg 0x58 (rw := 0xffffffff),  -- OPEN_ORIGIN_LO
  rg 0x5c (rw := 0xffffffff),  -- OPEN_ORIGIN_HI
  rg 0x60 (rw := 0xffffffff),  -- OPEN_CROSS
  rg 0x64 (rw := 0xffffffff),  -- OPEN_WIDTH
  rg 0x68 (wo := 0xffffff),  -- OPEN_CMD
  rg 0x6c (ro := 0x3fff0003),  -- OPEN_RES
  rg 0x70 (wo := 0x3fff),  -- CANCEL
  rg 0x74 (rw := 0xffffff01),  -- ROLL_CFG
  rg 0x78 (ro := 0xffffffff),  -- MISSED_CNT
  rg 0x7c (ro := 0xffffffff),  -- FAILED_CNT
  rg 0x80 (ro := 0xffffffff),  -- CTX_FULL_CNT
  rg 0x84 (ro := 0xffffffff),  -- REPRED_CNT
  rg 0x88 (ro := 0xffffffff),  -- EVAL_SHORT
  rg 0x8c (wo := 1),  -- STAT_CLR
  rg 0x800 (rw := 0x8fffffff) (rs := 0x3e80000) (n := 16) (s := 0x10),  -- SRC_CFG
  rg 0x804 (ro := 0xffffffff) (n := 16) (s := 0x10),  -- SRC_SPEED
  rg 0x808 (ro := 0xffffffff) (n := 16) (s := 0x10),  -- SRC_ACCEL
  rg 0x80c (ro := 7) (n := 16) (s := 0x10),  -- SRC_STAT
  rg 0xc00 (rw := 0xffffffff) (n := 64) (s := 0x10) (n2 := 2) (s2 := 4) (w64 := true),  -- FW_INST_LO, FW_INST_HI
  rg 0xc08 (rw := 0xffffffff) (n := 64) (s := 0x10) (n2 := 2) (s2 := 4) (w64 := true)]  -- FW_COORD_LO, FW_COORD_HI

/-- The roll-map page (R188). -/
def regsRmap : List RegDef := [
  rg 0x40 (rw := 0x3f),  -- RM_CTRL
  rg 0x44 (ro := 0xffffffff),  -- RM_WR
  rg 0x48 (rw := 0xffffffff),  -- RM_RD
  rg 0x4c (ro := 0x1ffff),  -- RM_FILL
  rg 0x50 (rw := 0x1ffff) (rs := 0xc000),  -- RM_THR
  rg 0x54 (ro := 0xffffffff),  -- DROP_CNT
  rg 0x58 (ro := 0xffffffff),  -- OVWR_CNT
  rg 0x5c (ro := 0xffff0003),  -- APPEND_RES
  rg 0x60 (wo := 1),  -- RM_CLR
  rg 0x800 (rw := 0xffffffff) (n := 8) (s := 4),  -- CLASS_POL[k]
  rg 0x900 (wo := 0xffffffff) (n := 8) (s := 4),  -- APPEND[w]
  rg 0xc00 (ro := 0xffffffff) (n := 256) (s := 4)]  -- CLASS_LOSS[c]

/-- A Surf group page (R218–R220); offsets 0x060 and 0xC00 upward exist on group 0 only. -/
def regsSurfG : List RegDef := [
  rg 0x40 (rw := 0x1f) (rs := 0x10),  -- GRP_CFG
  rg 0x44 (ro := 0x3ffffff),  -- GRP_STAT
  rg 0x48 (ro := 0x7ffff),  -- BUF_USED
  rg 0x4c (ro := 0xffffffff),  -- BLOB_DROP
  rg 0x50 (ro := 0xffffffff),  -- SEAM_OVF
  rg 0x54 (ro := 0xffffffff),  -- PATCH_NOSLOT
  rg 0x58 (ro := 0xffffffff),  -- PATCH_ROWDROP
  rg 0x5c (wo := 1),  -- GRP_CLR
  rg 0x60 (rw := 0x3ff) (rs := 0xff),  -- RULE_DEFAULT
  rg 0x800 (rw := 0x7ffffff) (rs := 0x4001000) (n := 2) (s := 0x40),  -- CAM_CFG
  rg 0x804 (rw := 0xfffffff) (rs := 0x8000000) (n := 2) (s := 0x40),  -- CAM_GEOM
  rg 0x808 (rw := 0xffffffff) (n := 2) (s := 0x40),  -- LINE_OFS
  rg 0x80c (rw := 0xffffffff) (n := 2) (s := 0x40),  -- CROSS_ORG
  rg 0x810 (rw := 0xffffffff) (rs := 0x10000) (n := 2) (s := 0x40),  -- PITCH
  rg 0x814 (rw := 0xff) (n := 2) (s := 0x40),  -- CAM_TRACK
  rg 0x818 (rw := 0x80077f7f) (rs := 0x33f3f) (n := 2) (s := 0x40),  -- CAM_PATCH
  rg 0x81c (rw := 0xffff) (rs := 0x1000) (n := 2) (s := 0x40),  -- CAM_LIMIT
  rg 0x820 (ro := 7) (n := 2) (s := 0x40),  -- CAM_STAT
  rg 0x824 (ro := 0xffffffff) (n := 2) (s := 0x40),  -- LINE_LAST
  rg 0x828 (ro := 0xffffffff) (n := 2) (s := 0x40),  -- LINES_OK
  rg 0x82c (ro := 0xffffffff) (n := 2) (s := 0x40),  -- GAP_CNT
  rg 0x830 (ro := 0xffffffff) (n := 2) (s := 0x40),  -- LINES_LOST
  rg 0x834 (ro := 0xffffffff) (n := 2) (s := 0x40),  -- BADLINE_CNT
  rg 0x838 (wo := 1) (n := 2) (s := 0x40),  -- CAM_CLR
  rg 0xc00 (rw := 0x8fffffff) (n := 64) (s := 0x10),  -- RULE_CFG
  rg 0xc04 (rw := 0xffffffff) (rs := 0xffff0000) (n := 64) (s := 0x10),  -- RULE_AREA
  rg 0xc08 (rw := 0xffffffff) (rs := 0xffffffff) (n := 64) (s := 0x10),  -- RULE_EXT
  rg 0xc0c (rw := 0xffffffff) (rs := 0xffff0000) (n := 64) (s := 0x10)]  -- RULE_PEAK

/-- A Surf lane page (R221). -/
def regsSurfL : List RegDef := [
  rg 0x40 (rw := 0x80003fff),  -- FF_ADDR
  rg 0x44 (rw := 0xffffffff),  -- FF_DATA
  rg 0x800 (rw := 0xff) (rs := 5) (n := 8) (s := 0x100),  -- LANE_CFG
  rg 0x804 (rw := 0x7fff7fff) (rs := 0x2000100) (n := 8) (s := 0x100),  -- THRESH
  rg 0x808 (wo := 1) (n := 8) (s := 0x100),  -- LANE_CTRL
  rg 0x80c (ro := 0x3fff03) (n := 8) (s := 0x100),  -- LANE_STAT
  rg 0x810 (ro := 0xffffffff) (n := 8) (s := 0x100),  -- RUN_DROP
  rg 0x814 (ro := 0xffffffff) (n := 8) (s := 0x100),  -- STREAK_CUT
  rg 0x818 (ro := 0xffff) (n := 8) (s := 0x100),  -- LINE_CYC
  rg 0x81c (wo := 1) (n := 8) (s := 0x100),  -- LANE_CLR
  rg 0x880 (rw := 0xffffffff) (n := 8) (s := 0x100) (n2 := 32) (s2 := 4)]  -- KCOEF[i]

/-- A Ghery ingress lane page (R258). -/
def regsGhIn : List RegDef := [
  rg 0x40 (ro := 3),  -- QUAD_STAT
  rg 0x800 (rw := 0x3f) (n := 4) (s := 0x40),  -- LANE_CFG
  rg 0x804 (ro := 0xf7f1f) (n := 4) (s := 0x40),  -- LANE_STAT
  rg 0x808 (ro := 0xffffffff) (n := 4) (s := 0x40),  -- BLOCK_ERR
  rg 0x80c (ro := 0xffffffff) (n := 4) (s := 0x40),  -- BIP_ERR
  rg 0x810 (ro := 0xffffffff) (n := 4) (s := 0x40),  -- AM_ERR
  rg 0x814 (ro := 0xffffffff) (n := 4) (s := 0x40),  -- PRBS_ERR
  rg 0x818 (wo := 1) (n := 4) (s := 0x40)]  -- LANE_CLR

/-- A Ghery egress lane page (R259). -/
def regsGhOut : List RegDef := [
  rg 0x40 (ro := 3),  -- QUAD_STAT
  rg 0x800 (rw := 0x7fff) (rs := 0x1020) (n := 2) (s := 0x40),  -- TXL_CFG
  rg 0x804 (ro := 0x3f) (n := 2) (s := 0x40),  -- TXL_STAT
  rg 0x808 (ro := 0xffffffff) (n := 2) (s := 0x40),  -- SB_ERR
  rg 0x80c (wo := 1) (n := 2) (s := 0x40)]  -- TXL_CLR

/-- A Ghery ingress link page (R260). -/
def regsGhInL : List RegDef := [
  rg 0x800 (rw := 7) (n := 8) (s := 0x80),  -- LINK_CFG
  rg 0x804 (ro := 0x1f) (n := 8) (s := 0x80),  -- LINK_STAT
  rg 0x808 (ro := 0xffffffff) (n := 8) (s := 0x80),  -- PEER_ID
  rg 0x80c (ro := 0xffffffff) (n := 8) (s := 0x80),  -- PKT_OK
  rg 0x810 (ro := 0xffffffff) (n := 8) (s := 0x80),  -- CRC_ERR
  rg 0x814 (ro := 0xffffffff) (n := 8) (s := 0x80),  -- SEQ_GAP
  rg 0x818 (ro := 0xffffffff) (n := 8) (s := 0x80),  -- FRAME_ERR
  rg 0x81c (ro := 0xffffffff) (n := 8) (s := 0x80),  -- PROTO_ERR
  rg 0x820 (ro := 0xffffffff) (n := 8) (s := 0x80),  -- RETRAIN_CNT
  rg 0x824 (ro := 0x1ff) (n := 8) (s := 0x80),  -- CRED_FREE
  rg 0x828 (ro := 0xffffffff) (n := 8) (s := 0x80),  -- EVT_CNT
  rg 0x82c (ro := 0xffffffff) (n := 8) (s := 0x80),  -- EVT_ARR_LO
  rg 0x830 (ro := 0xffffffff) (n := 8) (s := 0x80),  -- EVT_ARR_HI
  rg 0x834 (ro := 0xffffffff) (n := 8) (s := 0x80),  -- EVT_SRC_LO
  rg 0x838 (ro := 0xffffffff) (n := 8) (s := 0x80),  -- EVT_SRC_HI
  rg 0x83c (ro := 0xffffffff) (n := 8) (s := 0x80),  -- EVT_VAL_LO
  rg 0x840 (ro := 0xffffffff) (n := 8) (s := 0x80),  -- EVT_VAL_HI
  rg 0x844 (wo := 1) (n := 8) (s := 0x80)]  -- LINK_CLR

/-- The Ghery egress links page (R261). -/
def regsGhOutL : List RegDef := [
  rg 0x40 (rw := 0xffffffff) (lock := true),  -- GH_DEVID
  rg 0x800 (rw := 7) (n := 4) (s := 0x80),  -- LINK_CFG
  rg 0x804 (ro := 7) (n := 4) (s := 0x80),  -- LINK_STAT
  rg 0x808 (ro := 0xffffffff) (n := 4) (s := 0x80),  -- PEER_ID
  rg 0x80c (ro := 0xffffffff) (n := 4) (s := 0x80) (n2 := 4) (s2 := 4),  -- CL[v]
  rg 0x81c (ro := 0xffffffff) (n := 4) (s := 0x80) (n2 := 4) (s2 := 4),  -- CONS[v]
  rg 0x82c (ro := 0xffffffff) (n := 4) (s := 0x80),  -- TX_PKTS
  rg 0x830 (ro := 0xffffffff) (n := 4) (s := 0x80),  -- RETRAIN_CNT
  rg 0x834 (rw := 0x3ffff) (n := 4) (s := 0x80),  -- EVT_CFG
  rg 0x838 (rw := 0xffffffff) (n := 4) (s := 0x80),  -- EVT_VAL_LO
  rg 0x83c (rw := 0xffffffff) (n := 4) (s := 0x80),  -- EVT_VAL_HI
  rg 0x840 (wo := 1) (n := 4) (s := 0x80),  -- EVT_SEND
  rg 0x844 (ro := 1) (n := 4) (s := 0x80),  -- EVT_STAT
  rg 0x848 (wo := 1) (n := 4) (s := 0x80)]  -- LINK_CLR

/-- A Swell engine page (R365). -/
def regsSwell : List RegDef := [
  rg 0x40 (wo := 0x1f),  -- SW_CTRL
  rg 0x44 (rw := 0x33fff) (lock := true),  -- SW_CFG
  rg 0x48 (ro := 0x3fffff07),  -- SW_STAT
  rg 0x4c (ro := 0xffffffff),  -- SW_FSYL
  rg 0x50 (ro := 0x8fffffff),  -- SW_ERR
  rg 0x54 (ro := 0xffffffff),  -- BUNDLES_LO
  rg 0x58 (ro := 0xffffffff),  -- BUNDLES_HI
  rg 0x5c (ro := 0xffffffff),  -- STALLS
  rg 0x60 (ro := 0xffffffff),  -- WAKE_OVR
  rg 0x64 (ro := 0xff),  -- SW_EVT
  rg 0x68 (wo := 3),  -- SW_CLR
  rg 0x6c (ro := 7),  -- PAIR_STAT
  rg 0x8c (rw := 0xfffc0001) (n := 13) (s := 4) (lock := true)]  -- BANKMAP[b], b = 3–15

/-- A timer page (R448). -/
def regsTmr : List RegDef := [
  rg 0x800 (rw := 0xffffffff) (n := 8) (s := 0x20),  -- CNT_LO
  rg 0x804 (rw := 0xffffffff) (n := 8) (s := 0x20),  -- CNT_HI
  rg 0x808 (rw := 0xffffffff) (rs := 0xffffffff) (n := 8) (s := 0x20),  -- PERIOD
  rg 0x80c (rw := 0xffffffff) (rs := 0xffffffff) (n := 8) (s := 0x20),  -- CMP0
  rg 0x810 (rw := 0xffffffff) (rs := 0xffffffff) (n := 8) (s := 0x20),  -- CMP1
  rg 0x814 (rw := 0xffff003f) (n := 8) (s := 0x20),  -- TCFG
  rg 0x818 (ro := 0xf) (n := 8) (s := 0x20),  -- TSTAT
  rg 0x81c (wo := 0xf) (n := 8) (s := 0x20)]  -- TCTRL

/-- The trigger matrix page (R451). -/
def regsTmx : List RegDef := [
  rg 0x40 (ro := 0xffffffff),  -- TM_FIRED
  rg 0x44 (wo := 1),  -- TM_CLR
  rg 0x800 (rw := 0x87ffff7f) (n := 64) (s := 4)]  -- ROUTE[r]

/-- A task watchdog page (R463). -/
def regsWdt : List RegDef := [
  rg 0x40 (rw := 0xffffff) (once := true),  -- WDT_CFG
  rg 0x44 (rw := 0xffffffff),  -- WDT_MASK
  rg 0x48 (wo := 0xffff),  -- WDT_KEY
  rg 0x4c (wo := 0x1f),  -- WDT_CHECKIN
  rg 0x50 (ro := 0xffffff3f),  -- WDT_STAT
  rg 0x54 (ro := 0xffffffff),  -- WDT_DONE
  rg 0x58 (ro := 0xffffffff)]  -- WDT_DUP

/-- The safety watchdog page (R463): WDT_CFG, WDT_KEY and WDT_STAT only. -/
def regsSwdt : List RegDef := [
  rg 0x40 (rw := 0xffffff) (once := true),  -- WDT_CFG
  rg 0x48 (wo := 0xffff),  -- WDT_KEY
  rg 0x50 (ro := 0xffffff3f)]  -- WDT_STAT

/-- A load-cell converter page (R468). -/
def regsCv : List RegDef := [
  rg 0x40 (rw := 0xffff),  -- CV_CFG
  rg 0x44 (ro := 0x1f0f),  -- CV_STAT
  rg 0x48 (ro := 0xffffffff),  -- CV_DATA
  rg 0x4c (ro := 0xffffffff),  -- CV_SEQ
  rg 0x50 (ro := 0xffffffff),  -- CV_INST_LO
  rg 0x54 (ro := 0xffffffff),  -- CV_INST_HI
  rg 0x58 (ro := 0xffffffff),  -- CV_CNT
  rg 0x5c (wo := 3)]  -- CV_CLR

/-- An access guard page of kind 0x0D01 (R403). -/
def regsGuard : List RegDef := [
  rg 0x40 (rw := 1),  -- GSEL
  rg 0x44 (ro := 0xffffffff),  -- GDENY_ADDR
  rg 0x48 (ro := 0x8000000f),  -- GDENY_INFO
  rg 0x4c (ro := 0xffffffff),  -- GDENY_CNT
  rg 0x50 (wo := 1),  -- GCLR
  rg 0x800 (rw := 0xffffffe0) (n := 2) (s := 0x200) (n2 := 32) (s2 := 0x10),  -- RBASE
  rg 0x804 (rw := 0xffffffe0) (n := 2) (s := 0x200) (n2 := 32) (s2 := 0x10),  -- RLIMIT
  rg 0x808 (rw := 0xff) (n := 2) (s := 0x200) (n2 := 32) (s2 := 0x10)]  -- RATTR

/-- An access guard page of kind 0x0D02: two Swell engines (R404). -/
def regsGuardS : List RegDef := [
  rg 0x40 (rw := 1) (n := 2) (s := 0x20),  -- GSEL
  rg 0x44 (ro := 0xffffffff) (n := 2) (s := 0x20),  -- GDENY_ADDR
  rg 0x48 (ro := 0x8000000f) (n := 2) (s := 0x20),  -- GDENY_INFO
  rg 0x4c (ro := 0xffffffff) (n := 2) (s := 0x20),  -- GDENY_CNT
  rg 0x50 (wo := 1) (n := 2) (s := 0x20),  -- GCLR
  rg 0x800 (rw := 0xffffffe0) (n := 4) (s := 0x200) (n2 := 32) (s2 := 0x10),  -- RBASE
  rg 0x804 (rw := 0xffffffe0) (n := 4) (s := 0x200) (n2 := 32) (s2 := 0x10),  -- RLIMIT
  rg 0x808 (rw := 0xff) (n := 4) (s := 0x200) (n2 := 32) (s2 := 0x10)]  -- RATTR

/-- The BIST control page (R496). -/
def regsBistC : List RegDef := [
  rg 0x40 (rw := 0xf),  -- BIST_BUDGET
  rg 0x44 (wo := 0xffff),  -- BIST_RUN
  rg 0x48 (ro := 0xffff07)]  -- BIST_STAT

/-- The BIST results page (R497). -/
def regsBistR : List RegDef := [
  rg 0x40 (ro := 0xffff),  -- BIST_TIME
  rg 0x804 (ro := 0xffff000f) (n := 36) (s := 4)]  -- BIST_RES[d], d = 1–36

/-- The memory repair page (R497). -/
def regsRep : List RegDef := [
  rg 0x40 (ro := 0xffffffff),  -- REP_STAT
  rg 0x44 (ro := 0xffff)]  -- REP_SPARE

/-- The life-cycle page (R498). -/
def regsLc : List RegDef := [
  rg 0x40 (ro := 7),  -- LC_STATE
  rg 0x44 (rw := 3) (key := true),  -- LC_REQ
  rg 0x48 (rw := 0xffffffff)]  -- LC_TOKEN

/-- The fuse readout page (R498). -/
def regsFuse : List RegDef := [
  rg 0x40 (ro := 0xffffffff),  -- UID_LO
  rg 0x44 (ro := 0xffffffff),  -- UID_HI
  rg 0x48 (ro := 0x1f)]  -- FUSE_STAT

/-- The secure boot page (R498). -/
def regsSboot : List RegDef := [
  rg 0x40 (ro := 0x37f),  -- BOOT_STAT
  rg 0x44 (ro := 0xffffffff),  -- BOOT_VER
  rg 0x48 (ro := 0x7f),  -- RB_CNT
  rg 0x4c (rw := 0x7f) (key := true),  -- RB_ADVANCE
  rg 0x50 (ro := 0xf),  -- KEY_REVOKE
  rg 0x54 (rw := 0xf) (key := true),  -- KEY_REVOKE_SET
  rg 0x58 (ro := 3),  -- BOOT_CFG
  rg 0x60 (ro := 0xffffffff) (n := 8) (s := 4),  -- IMG_HASH[i]
  rg 0x800 (ro := 0xffffffff) (n := 4) (s := 0x20) (n2 := 8) (s2 := 4)]  -- KEY_HASH[k][i]

/-- The HRP page (R499). -/
def regsHrp : List RegDef := [
  rg 0x40 (ro := 0xffff03),  -- HRP_STAT
  rg 0x44 (ro := 0xffffffff),  -- HRP_FRAMES
  rg 0x48 (ro := 0xffffffff),  -- HRP_CRC_ERR
  rg 0x4c (ro := 0xffffffff),  -- HRP_ABORT
  rg 0x50 (wo := 0xffffff),  -- BOOT_GO
  rg 0x54 (wo := 1)]  -- HRP_CLR

/-- A DMA channel page (R455). -/
def regsDma : List RegDef := [
  rg 0x800 (rw := 0xffffffff) (n := 8) (s := 0x40),  -- DSRC
  rg 0x804 (rw := 0xffffffff) (n := 8) (s := 0x40),  -- DDST
  rg 0x808 (rw := 0xffffff) (rs := 4) (n := 8) (s := 0x40),  -- DLEN
  rg 0x80c (rw := 0x1f1f) (rs := 0x103) (n := 8) (s := 0x40),  -- DCFG
  rg 0x810 (wo := 3) (n := 8) (s := 0x40),  -- DCTRL
  rg 0x814 (ro := 0xff01ff03) (n := 8) (s := 0x40),  -- DSTAT
  rg 0x818 (ro := 0xffffff) (n := 8) (s := 0x40),  -- DDONE
  rg 0x81c (ro := 0xffffffff) (n := 8) (s := 0x40)]  -- DFAULT

/-- The interrupt controller control page (R384). -/
def regsIcc : List RegDef := [
  rg 0x40 (ro := 0x8fff),  -- IC_TOP
  rg 0x44 (wo := 0x7f),  -- IC_SWSET
  rg 0x48 (wo := 0x7f)]  -- IC_SWCLR

/-- The interrupt level page (R385). -/
def regsIcl : List RegDef := [
  rg 0x800 (rw := 0x77777777) (n := 64) (s := 4)]  -- IC_LEVEL[k]

/-- The interrupt pending page (R385). -/
def regsIcp : List RegDef := [
  rg 0x800 (ro := 0xffffffff) (n := 12) (s := 4),  -- IC_PEND[0..11]
  rg 0x830 (w1c := 0xffffffff) (n := 4) (s := 4)]  -- IC_PEND[12..15]

/-- The DMA common page: DMA_ACTIVE (R455). -/
def regsDmac : List RegDef := [
  rg 0x40 (ro := 0xffffffff)]  -- DMA_ACTIVE

/-- The block registers of a page (offset 0x040 and above). -/
def blockRegs : Page → List RegDef
  | .sys => regsSys | .clk => regsClk | .pwr => regsPwr | .lee => regsLee | .tml => regsTml
  | .bwCtl => regsBwCtl | .bwFc => regsBwFc | .bwMap => regsBwMap | .bwMon => regsBwMon | .slk => regsSlk
  | .lks => regsLks
  | .tb => regsTb | .tqf => regsTqf | .ebb => regsEbb | .tqs => regsTqs
  | .tio _ => regsTio | .tioc => regsTioc | .t1sc => regsT1sc | .t1s _ => regsT1s | .tsn _ => regsTsn
  | .trk => regsTrk | .rmap => regsRmap
  | .surfG _ => regsSurfG | .surfL _ => regsSurfL
  | .ghIn _ => regsGhIn | .ghOut _ => regsGhOut | .ghInL _ => regsGhInL | .ghOutL => regsGhOutL
  | .swell _ => regsSwell | .tmr _ => regsTmr | .tmx => regsTmx
  | .wdt _ => regsWdt | .swdt => regsSwdt | .cv _ => regsCv | .guard _ => regsGuard | .guardS _ => regsGuardS
  | .bistC => regsBistC | .bistR => regsBistR | .rep => regsRep
  | .lc => regsLc | .fuse => regsFuse | .sboot => regsSboot | .hrp => regsHrp
  | .dmac => regsDmac | .dma _ => regsDma | .icc => regsIcc | .icl => regsIcl | .icp => regsIcp

/-- The register at an offset of a page: the header below 0x040, the block registers above; on Surf group pages other
than group 0 the offsets 0x060 and 0xC00 upward are reserved (R218). -/
def regAt (p : Page) (off : Nat) : Option RegDef :=
  if off < 0x40 then regFind regsHeader off
  else match p with
    | .surfG g => if g ≠ 0 && (off == 0x60 || 0xC00 ≤ off) then none else regFind regsSurfG off
    | p => regFind (blockRegs p) off

/-- The IRQ_RAW bits that a page's chapter assigns (R44). -/
def irqMask : Page → Nat
  | .tml => 0xFF | .bwCtl => 0x3F | .bwFc => 1 | .bwMon => 3 | .slk => 7 | .lks => 0xF
  | .tb => 0xF | .tqf => 3 | .ebb => 3 | .tqs => 0xF
  | .tio _ => 0x1F | .tioc => 0xFFFFFFFF | .t1sc => 1 | .t1s _ => 0xFFF | .tsn _ => 0xF
  | .trk => 0x7F | .rmap => 3 | .surfG _ => 0x3FF | .surfL _ => 0xFFFF
  | .ghIn _ => 0xFF | .ghOut _ => 3 | .ghInL _ => 0xFFFFFF | .ghOutL => 0xFFF
  | .swell _ => 0x1F | .tmr _ => 0xFFFFFFFF | .wdt _ => 3 | .swdt => 1 | .cv _ => 0xF
  | .guard _ => 1 | .guardS _ => 3 | .bistC => 3 | .hrp => 3 | .dma _ => 0xFFFFFF | .pwr => 3
  | .sys | .clk | .lee | .bwMap | .tmx | .bistR | .rep | .lc | .fuse | .sboot | .dmac | .icc | .icl | .icp => 0

/-- A page whose clock is fixed: CLK_REQ reads 2 (R45). -/
def fixedClock : Page → Bool
  | .bwCtl | .bwFc | .bwMap | .bwMon | .slk | .lks | .swdt | .lee | .tioc => true
  | _ => false

/-- A page that rejects CLK_REQ = 1 (R470). -/
def noNeapClock : Page → Bool
  | .surfG _ | .surfL _ | .ghIn _ | .ghOut _ | .ghInL _ | .ghOutL | .swell _ | .tsn _ | .bistC => true
  | _ => false

/-- A Breakwater page (R66, R436). -/
def bwPage : Page → Bool
  | .bwCtl | .bwFc | .bwMap | .bwMon | .slk | .lks => true
  | _ => false

/-- The registers of the Breakwater pages that stay writable by Headland after the lock (R432): every other writable block
register of these pages is lockable. -/
def bwOpen : Page → Nat → Bool
  | .bwCtl, off => off == 0x44 || off == 0x48 || off == 0x68 || off == 0x78
  | .bwFc, off => off == 0x54 || off == 0x58
  | .slk, off => off == 0x40 || off == 0x44 || off == 0x48 || 0x800 ≤ off
  | .lks, off => off == 0x54
  | _, _ => false

/-- The lockable registers of a page: on timed I/O and T1S pages only those of bank 0 and quad page 0 (R129, R151). -/
def lockable (p : Page) (d : RegDef) : Bool :=
  (d.lock && (match p with | .tio k => k == 0 | .t1s q => q == 0 | _ => true))
    || (bwPage p && 0x40 ≤ d.off && !d.readOnly && !bwOpen p d.off)

end Sys2Proof.Machine
end

