-- ==== Sys2Proof/Machine/State.lean ====
section
/-! DEFINITION. The state of the block: every register, memory, queue, counter, mode and pin that the spec names, as
plain data; the reasons a step can stop; and the state right after reset. -/
namespace Sys2Proof.Machine

/-- A sparse table: values by number, numbers strictly rising. What an unlisted number holds is said by its reader. -/
abbrev Tab (α : Type) := List (Nat × α)

/-- Why a step faults. -/
inductive Fault where
  /-- Raised by the supply and monitor commands when VSUP lies beyond the absolute maximum of R519: the spec promises
  nothing of the part after that. Safe: the model stops where the part may be damaged. -/
  | absoluteMaximum
deriving DecidableEq, Repr

/-- Why a command is refused. -/
inductive Refusal where
  /-- Answered by `exec` for a command that has no meaning yet. Safe. -/
  | notModelled (mnemonic : String)
deriving DecidableEq, Repr

/-- The reason codes of R16. -/
inductive Reason where
  | none | rsvdBits | range | locked | absent | notOwner | badState | align | width | readOnly | sequence | lifecycle
  | qFull | tooLate | beyondHorizon | collide | noSlot | epoch | qUnbound
  | capTag | capBounds | capPerm | capSealed | guardDeny
  | sealed | proposalInvalid | e2e | internal
deriving DecidableEq, Repr

/-- The four members of the family (R2). -/
inductive PartKind where
  | t9512 | d9512 | d9256 | d9128
deriving DecidableEq, Repr

/-- The four life-cycle states of R489. -/
inductive LifeCycle where
  | test | develop | field | return_
deriving DecidableEq, Repr

/-- What the fuses hold (R2, R3, R4, R43, R433–R435, R479–R481, R489, R497, R498): fixed for a part but for the three
that a command burns (`lifeCycle`, `rbCnt`, `keyRevoke`). -/
structure Fuses where
  kind : PartKind
  tidemark : Bool
  stepping : Nat
  uid : BitVec 64
  lifeCycle : LifeCycle
  /-- WIN of the watchdogs, in quarters of the period, 1–3 (R458, R463). -/
  win : Nat
  /-- 1: start-up BIST runs on a wake (R474). -/
  wakeBist : Bool
  bootCfg : Word
  rbCnt : Nat
  keyRevoke : Word
  /-- SHA-256 of each key slot's public key, eight words a slot (R498). -/
  keyHash : List (List Word)
  /-- FUSE_MIN of each fault source that is not 0 (R434). -/
  fuseMin : Tab Nat
  bistBudget : Word
  /-- Idle bit of each timed I/O pin that is not 0 (R129). -/
  idle : Tab Nat
  /-- Factory repairs (R497). -/
  factoryRepairs : Nat
  /-- Words 0–7 of Tidemark's OTP facts: firmware version, firmware CRC. -/
  tmFwVer : Nat
  tmFwCrc : Word
deriving DecidableEq, Repr

/-- What a master's last access was answered with (R50, R52). -/
structure Resp where
  reason : Reason
  data : Nat
deriving DecidableEq, Repr

/-- A latch of R53: the window it covers and the partners' latched values. -/
structure Latch where
  master : Nat
  window : Nat
  vals : Tab Word
deriving DecidableEq, Repr

/-- A keyed sequence of R69 on one page: after key 1, or open since an instant. -/
inductive KeySeq where
  | key1 (master : Nat)
  | opened (master : Nat) (at_ : Nat)
deriving DecidableEq, Repr

/-- The fabric's own state: the last response of each master, the read latches, the keyed sequences by page, the pages
whose soft reset runs (R47), the write-once words written; and of the fabric cycle that `cycle` numbers: the words written with the master that
won them (R63), the IRQ_RAW bits that blocks raised by page (R65), and the rejections recorded by page (R57). -/
structure Fab where
  resp : Tab Resp
  latches : List Latch
  keys : Tab KeySeq
  softBusy : List Nat
  /-- Words of write-once registers that have taken their write (R70). -/
  once : List Nat
  cycle : Nat
  written : List (Nat × Nat)
  flags : List (Nat × Nat)
  rejects : List (Nat × Word)
deriving DecidableEq, Repr

/-- A domain of R469: off, starting, on, or powering down (and whether a request came meanwhile, R470). -/
inductive DomState where
  | off | starting | on | stopping (again : Bool) | keptOff
deriving DecidableEq, Repr

/-- The module power state that PWR_STAT reports (R471, R494). -/
inductive PowerState where
  | neap | spring | changing (to_ : Bool)
deriving DecidableEq, Repr

/-- The timebase's own state (R75, R77, R78): whether AS_OFFSET was set since ACQUIRING, Syncs in a row within the
threshold, and the share of cycles owed to the rate correction, in units of 2^-32 tick. -/
structure Timebase where
  asSet : Bool
  syncRun : Nat
  rateAcc : Int
deriving DecidableEq, Repr

/-- The KIND of an entry (R86). -/
inductive EntryKind where
  | act | release
deriving DecidableEq, Repr

/-- An entry held in the TQF pool (R86, R88): its words, its queue, and what the TQF knows of it. For a release `inst`
is the delay D. -/
structure Entry where
  queue : Nat
  kind : EntryKind
  inst : Nat
  payload : Word
  metaW : BitVec 16
  crc : BitVec 16
  admitted : Nat
  /-- Committed at admission or by its commit point (R95). -/
  committed : Bool
  /-- Handed off to its port (R96). -/
  handed : Bool
  /-- Pre-empted, or lost to its CRC or on the link: not delivered at its instant (R97, R104). -/
  lost : Bool
deriving DecidableEq, Repr

/-- One master's staging of R90: the slot and value of each staged word. -/
structure SubStage where
  lo : Option (Nat × Word)
  hi : Option (Nat × Word)
  pay : Option (Nat × Word)
deriving DecidableEq, Repr

/-- One master's SUB_RES of R91. -/
structure SubRes where
  reason : Reason
  valid : Bool
  committed : Bool
  handle : Nat
deriving DecidableEq, Repr

/-- One master's ebb staging and result block (R99, R102): `busy` from acceptance until the result completes. -/
structure EbbState where
  cutLo : Option Word
  cutHi : Option Word
  cmdLo : Option Word
  busy : Bool
  done : Bool
  stale : Bool
  removed : Nat
  leaked : Nat
  earliest : Nat
  accepted : Nat
deriving DecidableEq, Repr

/-- An entry on its way to or held at a port after handoff (R96, R104, R107): from its pool handle to its instant. -/
structure PortEntry where
  handle : Nat
  queue : Nat
  port : Nat
  chan : Nat
  inst : Nat
  payload : Word
  /-- The field die has received it and its CRC held (R97). -/
  received : Bool
  committed : Bool
  /-- Sent by Breakwater from a Slack profile (R429), not by the TQF. -/
  slack : Bool
  /-- A network port has sent or dropped the entry's record (R134). -/
  sent : Bool
deriving DecidableEq, Repr

/-- The Timed Queue Fabric: pool, generation counts, stagings, results, the 64-bit delivery count, and the hold-up
entries still to be logged of a pre-emption (R106). -/
structure Tqf where
  pool : Tab Entry
  gen : Tab Nat
  staging : Tab SubStage
  subRes : Tab SubRes
  ebb : Tab EbbState
  delivered : Nat
deriving DecidableEq, Repr

/-- What the ports hold of the TQF's entries: handed off and waiting (`waiting`), and delivered at their instant but not
yet acted on by the port function (`due`). -/
structure PortBox where
  waiting : List PortEntry
  due : List PortEntry
deriving DecidableEq, Repr


/-- A sample of a coordinate source: an instant and a signed coordinate (R29). -/
structure Sample where
  inst : Nat
  coord : Int
deriving DecidableEq, Repr

/-- The logical level an output pin drives: 0, 1, or high impedance (R116). -/
inductive Drive where
  | low | high | hiZ
deriving DecidableEq, Repr

/-- A running pulse (R117): its level, its end, and the level the pin returns to. -/
structure Pulse where
  level : Bool
  ends : Nat
  back : Drive
deriving DecidableEq, Repr

/-- A PWM output (R118): whether it runs, the live and preload values, the present period's start, and whether the
present period is still in its active part. -/
structure Pwm where
  run : Bool
  period : Nat
  duty : Nat
  prePeriod : Nat
  preDuty : Nat
  start : Nat
  active : Bool
deriving DecidableEq, Repr

/-- A STEPDIR rate segment (R119): direction, interval in 1/16 tick, the instant its first step is made or planned for,
and how many of its steps have been made. -/
structure StepSeg where
  dir : Bool
  interval : Nat
  first : Nat
  made : Nat
deriving DecidableEq, Repr

/-- What a timed I/O pin holds beside its registers (R116–R123): the level driven, the physical input level, a running
pulse, the PWM and STEPDIR engines, the counter, and the encoder decoders. -/
structure Pin where
  drive : Drive
  input : Bool
  pulse : Option Pulse
  pwm : Pwm
  dir : Bool
  seg : Option StepSeg
  /-- End of the step pulse now high (R119). -/
  stepEnd : Option Nat
  /-- STEPDIR position, QUAD or SSI count, LTRIG edges made or CAPTURE edges accepted (R129). -/
  cnt : Int
  /-- QUAD: the last valid A and B levels, and the instant of the last edge of each. -/
  quadA : Bool
  quadB : Bool
  lastA : Option Nat
  lastB : Option Nat
  /-- SSI: the instant that the running read latched, and the previous raw value. -/
  ssiLatch : Option Nat
  ssiRaw : Option Nat
  /-- The latest sample of a QUAD or SSI source and whether it is valid (SRC_OK). -/
  sample : Sample
  srcOk : Bool
  /-- An entry or an edge of the selected function has acted: the IDLE level no longer governs (R534). -/
  acted : Bool
deriving DecidableEq, Repr

/-- A capture record (R121, R129). -/
structure Capture where
  inst : Nat
  pin : Nat
  level : Bool
  ovf : Bool
  seq : Nat
deriving DecidableEq, Repr

/-- A bank's capture buffer: records oldest first, the edge sequence, and whether edges were dropped since the last
stored record. -/
structure Bank where
  buf : List Capture
  seq : Nat
  dropped : Bool
deriving DecidableEq, Repr

/-- A line-trigger generator (R125–R127): samples since RUN or the last stall, newest first; the pending target and the
instant planned for it; the fixed edges not yet made, each with its target; the last edge fixed; the trigger log, newest
first. -/
structure Gen where
  hist : List Sample
  target : Option Int
  plan : Option Nat
  fixed : List (Nat × Int)
  lastEdge : Option Nat
  log : List (Word × Nat × Int)
  /-- When the last sample arrived, or the generator began; and the instant of the last sample taken (R126). -/
  last : Nat
  taken : Option Nat
deriving DecidableEq, Repr

/-- A master's trigger-log query staging and result (R131): the staged line, and RESULT, instant and coordinate. -/
structure TlogQ where
  line : Word
  result : Nat
  inst : Nat
  coord : Int
deriving DecidableEq, Repr

/-- The TYPE of a Tideline frame (R139). -/
inductive FrameType where
  | set | get | event | ack | safe
deriving DecidableEq, Repr

/-- A record of a Tideline frame (R140): the node and object, and the value. -/
structure NetRecord where
  object : Nat
  value : Word
deriving DecidableEq, Repr

/-- A Tideline frame that a port sent (R139–R142); `safe` holds WD_SEQ and SAFE_CRC of a SAFE frame. -/
structure Frame where
  type : FrameType
  ackReq : Bool
  retry : Bool
  seq : Nat
  /-- 802.1AS time (R77). -/
  asTime : Nat
  records : List NetRecord
  safe : Option (Nat × Word)
deriving DecidableEq, Repr

/-- The Ethernet header of a Tideline frame (R138): its EtherType, its destination and source addresses with octet 1 most
significant, and the PCP and VID of an 802.1Q tag. -/
structure EthHead where
  etype : Nat
  dst : Nat
  src : Nat
  tag : Option (Nat × Nat)
deriving DecidableEq, Repr

/-- A record awaiting its ACK (R147): the frame's sequence and type, the entry's channel, object, value, instant and
deadline, the end of the last transmission, and the retries made. -/
structure PendingAck where
  seq : Nat
  type : FrameType
  chan : Nat
  object : Nat
  value : Word
  inst : Nat
  sentAt : Nat
  retries : Nat
deriving DecidableEq, Repr

/-- One SAFE connection (R142): WD_SEQ of the next frame sent, the last accepted WD_SEQ (none: any is accepted), the
instants of the last frame sent and accepted, and the last value sent. -/
structure SafeConn where
  txSeq : Nat
  rxSeq : Option Nat
  lastTx : Nat
  lastRx : Nat
  value : Word
deriving DecidableEq, Repr

/-- A network port: its link, its frame sequence, the frame last sent with its Ethernet header, the slot of the last cyclic frame, records
awaiting ACK, open SAFE connections by channel, and the end of the medium's present use. -/
structure NetPort where
  seq : Nat
  lastFrame : Option Frame
  /-- The Ethernet header of the frame last sent (R138). -/
  lastHead : Option EthHead
  lastSlot : Option Nat
  acks : List PendingAck
  safe : Tab SafeConn
  busyUntil : Nat
  /-- 802.1AS Sync messages sent (R136, R137), and the 802.1AS time of the last. -/
  syncs : Nat
  lastSync : Nat
deriving DecidableEq, Repr


/-- What the tracker knows of a visit beside its context's words (R158–R173): its target coordinate and queue, the instant
of its last submitted entry, the reason kept of a refused submission, whether it was evaluated since its entry was
submitted, and the instant of the sample that its latest evaluation used. -/
structure Visit where
  target : Int
  queue : Nat
  sub : Nat
  reason : Reason
  seen : Bool
  sampled : Nat
  /-- max(L, H) + 4,000 of the queue as it stood at the submission: a lock raised later moves no freeze point (R169, R171). -/
  lead : Nat
deriving DecidableEq, Repr

/-- An open that the tracker takes up (R162): by Surf (0), firmware (1) or Tidemark (2), with the context a Surf record
reserved and the roll-map slot of its record, or the master that wrote OPEN_CMD. -/
structure OpenReq where
  opener : Nat
  origin : Nat
  source : Nat
  station : Nat
  cls : Nat
  template : Nat
  cross : Word
  width : Word
  ctx : Option Nat
  record : Option Nat
  master : Nat
deriving DecidableEq, Repr

/-- A tracker source slot (R154, R173): its samples, newest first, and the visits its sweep has not reached. -/
structure SrcSlot where
  hist : List Sample
  sweep : List (Nat × Nat)
  /-- When the last sample arrived, or the slot began; and the instant of the last sample taken (R155). -/
  last : Nat
  taken : Option Nat
deriving DecidableEq, Repr

/-- A re-prediction's ebb in progress (R170): its context and visit, the new prediction (none: the mark has passed), and
what follows the removal: 0 resubmit, 1 WAIT, 2 CANCELLED. -/
structure Repred where
  ctx : Nat
  visit : Nat
  pred : Option Nat
  next : Nat
deriving DecidableEq, Repr

/-- One master's OPEN staging and result (R162, R182). -/
structure OpenStage where
  lo : Option Word
  hi : Option Word
  cross : Word
  width : Word
  res : Word
deriving DecidableEq, Repr

/-- The Mark Tracker (R153–R182): source slots, visits by context × 8 + visit, contexts ending by TIMEOUT, opens held back,
the µs and count of the open rate, stagings by master, firmware sample stagings by master × 64 + source, and the
re-prediction in progress. -/
structure Tracker where
  slots : Tab SrcSlot
  visits : Tab Visit
  timeouts : List Nat
  waiting : List OpenReq
  openWin : Nat
  openCnt : Nat
  stage : Tab OpenStage
  fw : Tab Nat
  repred : Option Repred
deriving DecidableEq, Repr

/-- One master's append window (R186): the staged words 0–6, and APPEND_RES. -/
structure Append where
  words : Tab Word
  res : Word
deriving DecidableEq, Repr

/-- The roll map beside its registers and its memory (R184, R186): OVF_BEFORE owed to the next record, and the append
windows by master. -/
structure RollMap where
  ovf : Bool
  append : Tab Append
deriving DecidableEq, Repr

/-- A LINE packet that passed its checks and waits in its link's buffer (R243, R250): the camera line number, its depth
code and pixels, and the credits it holds. -/
structure GhLine where
  num : Word
  depth : Nat
  pixels : List Nat
  credits : Nat
deriving DecidableEq, Repr

/-- A receiving data lane (R226, R231, R235): the last AMCNT, AM errors in a row, and valid TRAIN packets in a row. -/
structure RxLane where
  amCnt : Option Nat
  amBad : Nat
  trains : Nat
deriving DecidableEq, Repr

/-- An ingress link beside its registers (R235, R240, R250): expected sequence numbers, lines waiting for Surf, credits
used by received packets, credits returned and limits last sent, by VC 0 and 1, and its sideband: the next TRAIN
sequence number and the TRAIN last sent, and the same of CREDIT. -/
structure InLink where
  expect : List Nat
  lines : List GhLine
  used : List Nat
  freed : List Nat
  limit : List Nat
  sbSeq : Nat
  sbLast : List DWord
  crSeq : Nat
  crLast : List DWord
deriving DecidableEq, Repr

/-- An egress link beside its registers (R234, R240, R246, R249, R251): TRAIN READY received, the instant Z of the last
valid sideband packet, the next sequence number of each VC, LINK_UP owed, AM periods, the AMs and the packet last sent,
the VC last served, the end of the packet in progress, the last accepted CREDIT sequence, and the next TRAIN sequence of
each lane with the TRAIN packet last sent. -/
structure TxLink where
  ready : Bool
  z : Nat
  seq : List Nat
  upDue : Bool
  amCnt : Nat
  ams : List DWord
  last : List DWord
  lastVc : Nat
  busyUntil : Nat
  creditSeq : Option Nat
  trainSeq : List Nat
  trainLast : List DWord
deriving DecidableEq, Repr

/-- Ghery (R222–R261): receiving lanes, ingress links by first lane, egress links by first lane. -/
structure Ghery where
  rx : Tab RxLane
  inl : Tab InLink
  tx : Tab TxLink
deriving DecidableEq, Repr

/-- A camera line in Surf's line buffers (R196, R199): its line number counted without wrapping, its pixels as packed, and
the corrected strips, by lane within the camera. -/
structure CamLine where
  num : Nat
  raw : List Nat
  cor : Tab (List Nat)
deriving DecidableEq, Repr

/-- A camera's intake (R191, R196): lines held, newest first; the first line since the start or the last gap; the last line
accepted; whether a line was accepted since EN was set; draining. -/
structure SurfCam where
  lines : List CamLine
  first : Nat
  last : Nat
  started : Bool
  draining : Bool
deriving DecidableEq, Repr

/-- The features of R207 in the making; sumL is Σ (l − FIRST_LINE). -/
structure Feat where
  area : Nat
  firstPx : Nat
  lastPx : Nat
  firstLine : Nat
  nlines : Nat
  sum : Int
  min : Int
  max : Int
  sumX : Nat
  sumL : Nat
deriving DecidableEq, Repr

/-- A component or fragment (R204, R205): its camera and lane, polarity, whether it holds a strong pixel, its features, the
runs of its last line, the lines on which it touches the seam at its strip's left and right end, the coordinate looked
up for its first line (R213), and its patch window. -/
structure Comp where
  cam : Nat
  lane : Nat
  dark : Bool
  strong : Bool
  feat : Feat
  runs : List (Nat × Nat)
  lastLine : Nat
  left : List Nat
  right : List Nat
  coord : Option Int
  win : Option Nat
deriving DecidableEq, Repr

/-- A Surf lane (R202, R204): the next centre line to complete, its open components, its live copies of LANE_CFG, THRESH and
KCOEF, and COMMIT_PEND. -/
structure SurfLane where
  next : Nat
  comps : List Comp
  live : List Word
  pend : Bool
deriving DecidableEq, Repr

/-- A classified blob (R207, R208): what its record and its trailer need. -/
structure Blob where
  cam : Nat
  dark : Bool
  seam : Bool
  feat : Feat
  cls : Nat
  discard : Bool
  coord : Option Int
  win : Option Nat
deriving DecidableEq, Repr

/-- A patch window (R210–R212): its number, group and camera, first column, width, rows and first row's line, how many rows
have been made or missed, whether every row has been kept, and what its trailer says once its blob is done. -/
structure PatchWin where
  id : Nat
  group : Nat
  cam : Nat
  x0 : Nat
  width : Nat
  rows : Nat
  row0 : Nat
  next : Nat
  complete : Bool
  done : Option Blob
deriving DecidableEq, Repr

/-- A patch row waiting for egress credit (R211, R244). -/
structure PatchRow where
  win : Nat
  row : Nat
  line : Nat
  p16 : Bool
  x0 : Nat
  width : Nat
  bytes : List Nat
  made : Nat
deriving DecidableEq, Repr

/-- Surf (R189–R221): cameras, lanes, flat-field words by lane × 2048 + pixel, fragments held in the seam units by group,
blob FIFOs and waiting rows by group, patch windows, the next patch identifier, a count of rows made, and the group
whose blob the roll-map writer took last. -/
structure Surf where
  cams : Tab SurfCam
  lanes : Tab SurfLane
  ff : Tab Word
  frags : List (Nat × Comp)
  blobs : Tab (List Blob)
  wins : List PatchWin
  rows : Tab (List PatchRow)
  nextPatch : Nat
  made : Nat
  lastGroup : Nat
deriving DecidableEq, Repr

/-- A legal encoder channel (R266, R267): its count, the last valid levels, the instants of the last A and B edge, the count
at the last rising Z edge while the revolution since has no reversal, and the direction of the last count. -/
structure TmWheel where
  count : Int
  a : Bool
  b : Bool
  lastA : Option Nat
  lastB : Option Nat
  zRef : Option Int
  zRev : Bool
  dir : Int
deriving DecidableEq, Repr

/-- The open roll (R287, R292): its identifier, START, and what its ticket's flags will say. -/
structure TmRoll where
  id : Word
  start : Int
  powerLoss : Bool
  changed : Bool
  reverse : Bool
  bypass : Bool
deriving DecidableEq, Repr

/-- A pending roll boundary (R287): MODE, B, ID. -/
structure TmBound where
  mode : Nat
  b : Int
  id : Word
deriving DecidableEq, Repr

/-- A closed roll whose ticket is to be issued (R289, R292): the roll, END, and instant, TOTAL, EVENTS and seal at the close. -/
structure TmClosed where
  roll : TmRoll
  end_ : Int
  inst : Nat
  total : Nat
  events : Nat
  unsealed : Bool
deriving DecidableEq, Repr

/-- A checkpoint (R293); `moving` says that a count had changed within the 100 ms before a final commit. -/
structure TmCkpt where
  count0 : Int
  count1 : Int
  base : Int
  hw : Int
  total : Nat
  roll : Option TmRoll
  bound : Option TmBound
  closed : List TmClosed
  final : Bool
  moving : Bool
deriving DecidableEq, Repr

/-- Tidemark's non-volatile memory (R264, R277–R286, R290, R292, R293): parameters applied, the seal, EVENTS, the ticket key
(empty before the first boot), the latest audit records and tickets by number, the next numbers, the last record's MAC, a
rollover and a legal error owed to the next ticket, and checkpoints, newest first. -/
structure TmNv where
  params : Tab Word
  sealed : Bool
  events : Nat
  key : List Nat
  audits : List (Nat × List Nat)
  tickets : List (Nat × List Nat)
  nextRec : Nat
  nextTicket : Nat
  prevMac : List Nat
  rollover : Bool
  errOwed : Bool
  ckpts : List TmCkpt
deriving DecidableEq, Repr

/-- A SAMPLE transfer (R274), and whether the legal-error state was entered since the one before. -/
structure TmSample where
  seq : Nat
  inst : Nat
  pos : Int
  speed : Int
  status : Nat
  entered : Bool
deriving DecidableEq, Repr

/-- A proposal as submitted (R262, R297): PROP_KIND, value, AUX and data words, and whether the field die still awaits its
answer. -/
structure TmProp where
  kind : Word
  val : Nat
  aux : Word
  data : List Word
  awaited : Bool
deriving DecidableEq, Repr

/-- A transfer from Tidemark other than SAMPLE and STATUS (R262).
Marked DEDUCED and unsafe (notes/assumptions/65.md). -/
inductive TmXfer where
  | rollEvent (b : Int) (id : Word) (mode inst : Nat)
  | ticket (n : Nat)
  | audit (n : Nat)
  | gone (isTicket : Bool) (n : Nat)
  | propDone (reason : Reason) (value : Word)
deriving DecidableEq, Repr

/-- Tidemark (R262–R298): whether its firmware runs, whether a final commit stopped it, HOLDUP, the debounced BYPASS, its
non-volatile memory, the parameters counting uses, the wheels, BASE, HW and TOTAL, the roll, the pending boundary, closed
rolls, samples for SPEED, the last strobe, SEQ, the slip window (D0 and D1 at its start, and whether it was slow), whether
the latest window was a slip, strobes since the last encoder error, the legal-error state with its cause and the causes
still active, the instant of the last count and whether a rest commit followed it, a watchdog restart, whether the legal-error state was entered
since the last sample, samples and
transfers on their way, proposals waiting, and the field die's side: the last strobe sent,
and the tickets and records that the mirror holds or knows gone.
Marked DESIGN CHOICE and unsafe (notes/assumptions/117.md). -/
structure Tidemark where
  run : Bool
  stopped : Bool
  holdup : Bool
  bypass : Bool
  nv : TmNv
  live : Tab Word
  w0 : TmWheel
  w1 : TmWheel
  base : Int
  hw : Int
  total : Nat
  roll : Option TmRoll
  bound : Option TmBound
  closed : List TmClosed
  hist : List Sample
  last : Option Nat
  seq : Nat
  win : Option (Int × Int × Bool)
  slip : Bool
  errAgo : Nat
  err : Bool
  cause : Nat
  clockBad : Bool
  fwBad : Bool
  lastCount : Nat
  rested : Bool
  wdRestart : Bool
  entered : Bool
  samples : List TmSample
  out : List TmXfer
  props : List TmProp
  strobe : Option Nat
  mirT : List Nat
  mirA : List Nat
  goneT : List Nat
  goneA : List Nat
deriving DecidableEq, Repr

/-- A Slack stop (R428–R431): P; whether P has passed; the copy and profile played; Z; the scale speed; the entries
handed to their ports; whether the application reset at X is still to come. -/
structure Play where
  p : Nat
  begun : Bool
  copy : Nat
  prof : Nat
  fallback : Bool
  z : Nat
  scale : Nat
  handed : List Nat
  resetDue : Bool
deriving DecidableEq, Repr

/-- Where a core that is out of the lockstep stands (R408, R412): its TCMs being copied, joining, or under rotating
self-test. -/
inductive OutPhase where
  | copy | join | test
deriving DecidableEq, Repr

/-- The lockstep controller (R407–R412): the core that is out and its phase, the instant it went out, whether by rotation;
the core resynced last and the instant J; since when the cluster is a pair; the last rotation's start, the core to be
rotated next. -/
structure Lockstep where
  out : Option (Nat × OutPhase)
  since : Nat
  rotated : Bool
  joined : Option (Nat × Nat)
  pairSince : Option Nat
  rotLast : Nat
  rotNext : Nat
deriving DecidableEq, Repr

/-- The Slack speed estimator (R426, R427): samples without a gap, newest first (at most 101), samples since the last
commit's count, the instant of the last commit, the instant of the last sample, and whether SPEED_LOST was raised. -/
structure SpeedEst where
  hist : List Sample
  count : Nat
  commit : Option Nat
  last : Nat
  lost : Bool
deriving DecidableEq, Repr

/-- Breakwater beside its registers (R415–R437): sources whose condition holds now; the fenced pages with the source of each; the Slack stop; a DEVICE or HOLD reaction whose reset is due (t_f,
class, source); the plan sequence (key 1 seen, the instant it opened, the profile staged by GO); the estimator; the
lockstep; corrections of each memory in the present second (R420); whether VSUP_FAIL was latched in the present supply loss
(R511); whether the hold-up ports are held at their fuse-set default levels, segments 0–3 silent (R417, R473, R513); and
whether its brown-out stopped it (R513). -/
structure Breakwater where
  present : List Nat
  iso : List (Nat × Nat)
  play : Option Play
  dev : Option (Nat × Nat × Nat)
  key1 : Bool
  openAt : Option Nat
  staged : Nat
  spd : SpeedEst
  ls : Lockstep
  ce : Tab (Nat × Nat)
  lossLatched : Bool
  defaults : Bool
  stopped : Bool
deriving DecidableEq, Repr

/-- A timer beside its registers (R440–R447): whether it counts; the count at the instant `at_`, the latest tick taken in or
the start E; whether that count was taken at a tick (a count that is held, loaded or started from raises no event); the
live PERIOD, CMP0 and CMP1; a load waiting for the next tick; a preload copy waiting for the next tick; the instants of
the last MATCH0 and MATCH1; and the masters for which TSTAT.STALE reads 1 (R446). -/
structure Tmr where
  run : Bool
  count : Nat
  at_ : Nat
  taken : Bool
  period : Nat
  cmp0 : Nat
  cmp1 : Nat
  load : Option Nat
  copy : Bool
  match0 : Option Nat
  match1 : Option Nat
  stale : List Nat
deriving DecidableEq, Repr

/-- A route action under way (R449): KIND, INDEX, the event's instant T and the instant at which the action takes place. -/
structure RouteDue where
  kind : Nat
  index : Nat
  event : Nat
  at_ : Nat
deriving DecidableEq, Repr

/-- The DMA controller beside its registers (R453): bytes left of the burst that runs, by channel, and the channels served
last of each priority. -/
structure DmaCtl where
  burst : Tab Nat
  lastHi : Nat
  lastLo : Nat
deriving DecidableEq, Repr

/-- A watchdog beside its registers (R458): the instant at which its count was 0, whether its window was seen to open,
whether it has tripped, and what the trip tells Breakwater's record (R462): a violation, and the violating tasks. -/
structure Wdt where
  zero : Nat
  opened : Bool
  tripped : Bool
  viol : Bool
  tasks : Word
deriving DecidableEq, Repr

/-- A converter result: code, SEQ, INST (R465, R466). -/
structure CvSample where
  code : Int
  seq : Nat
  inst : Nat
deriving DecidableEq, Repr

/-- A converter channel beside its registers (R465–R467): the start of the triggered conversion that runs, the next window
of continuous mode, the next SEQ, the FIFO oldest first, the bank-2 record, and samples in a row outside the
common-mode range. -/
structure Conv where
  start : Option Nat
  window : Nat
  seq : Nat
  fifo : List CvSample
  bank2 : CvSample
  open_ : Nat
deriving DecidableEq, Repr

/-- What happens to a domain's or a rail's supply (R469, R475, R506–R513): VSUP valid; a supply loss since an instant; VHOLD
below the Breakwater brown-out; the module OFF; the main rails up; rail failures so far, the instant of the last, and
whether the second failure stopped the device for good. -/
structure Supply where
  valid : Bool
  loss : Option Nat
  brown : Bool
  off : Bool
  rails : Bool
  railFails : Nat
  railAt : Nat
  railDead : Bool
deriving DecidableEq, Repr

/-- DORMANT (R472–R474): awake; its entry under way since A; or asleep since D, with the watchdogs' counts held. `c0` and `c1`:
the legal counts that the motion wake starts from (R271). -/
inductive Dormant where
  | awake
  | entering (a : Nat) (c0 c1 : Int)
  | asleep (d : Nat) (held : List (Nat × Nat)) (c0 c1 : Int)
deriving DecidableEq, Repr

/-- The boot ROM and the release of the ports (R133, R474, R477–R483). `stream`: the HRP boot stream taken so far; `wait`:
BOOT_WAIT; `running`: Headland has left reset; `firmware`: an image passed and its firmware runs; `released`: the ports are
released; `held`: watchdogs and counts that wait for the hand-over after a DORMANT wake; `lcNext`: a life-cycle state burned
by LC_REQ, in force from the next power-on or DEVICE-class reset; `portsAt`, `banksDue` and `segs`: X of an application
reset, and whether timed I/O banks 1–13, and which T1S segments, have still to return to reset; `retained`: the levels that the hold-up pins
keep through DORMANT. -/
structure Boot where
  stream : List Nat
  wait : Bool
  running : Bool
  firmware : Bool
  released : Bool
  held : List (Nat × Nat)
  lcNext : Option LifeCycle
  portsAt : Option Nat
  banksDue : Bool
  segs : List Nat
  retained : List Drive
deriving DecidableEq, Repr

/-- A capability register or a capability in memory (R367): 128 bits and a tag. -/
structure Cap where
  tag : Bool
  bits : BitVec 128
deriving DecidableEq, Repr

/-- A nesting bank or the Breach bank (R387): g1–g31, c1–c15 (0 and null where not listed), EPCC and ESTAT. -/
structure SvBank where
  g : Tab Word
  c : Tab Cap
  epcc : Cap
  estat : Word
deriving DecidableEq, Repr

/-- A loop set (R299): LSk, LEk, LCk. -/
structure LoopSet where
  s : Word
  e : Word
  c : Word
deriving DecidableEq, Repr

/-- A load of a Swell engine whose value is not written yet (R355): its register and value, how many bundles still read the
old value, and the number of its fabric access while no response has come. -/
structure SwLoad where
  reg : Nat
  val : Word
  left : Nat
  acc : Option Nat
deriving DecidableEq, Repr

/-- A fabric access of a Swell engine under way (R355, R359): its number, the reason it will be answered with, its bank and
word address. -/
structure SwOut where
  id : Nat
  reason : Reason
  bank : Nat
  waddr : Nat
deriving DecidableEq, Repr

/-- A Swell engine (R345): registers, predicates (bit 0 is p0), the accumulators of M0 and M1, loop sets with those active,
the return stack (top first), engine registers, the wake flag; loads and fabric accesses under way with the next access's
number; the bank-2 latch: its record's first word and the words latched (R354); whether a STEP runs, and whether an error
response halts the engine at the next bundle boundary (R359); the instant of the latest fabric access, from which the port
issues the next one four cycles later (R361). PC, STATE and CAUSE stand in SW_STAT. -/
structure Swell where
  g : Tab Word
  p : BitVec 8
  m0a0 : BitVec 72
  m0a1 : BitVec 72
  m1a0 : BitVec 72
  m1a1 : BitVec 72
  loops : Tab LoopSet
  active : List Nat
  stack : List Nat
  dbank : Word
  ectl : Word
  tqbase : Word
  wake : Bool
  loads : List SwLoad
  outs : List SwOut
  next : Nat
  latch : Option (Nat × Tab Word)
  step : Bool
  haltOwed : Bool
  port : Option Nat
deriving DecidableEq, Repr

/-- A load whose destination the next instruction still reads as it was (R322): a general or a capability register. -/
inductive LoadSlot where
  | word (r : Nat) (v : Word)
  | cap (r : Nat) (v : Cap)
deriving DecidableEq, Repr

/-- The Headland cluster as software sees it (R299–R343, R367–R396): the one core that its lockstep cores agree on. Bank
DEPTH mod 4 is the one in use outside Breach. `load` is the load delay, `arith` an imprecise ARITH pending with the
instructions completed since, `once` which of BREACH_VEC, BREACH_DDC, BREACH_CSP were written; `cycles` and `cycleAt` are
the core cycles (in eightieths) at an instant; then the writable decode table: words, slots (START, VALID, words).
Marked DESIGN CHOICE and unsafe (notes/assumptions/67.md). -/
structure SvCore where
  banks : List SvBank
  breachBank : SvBank
  breach : Bool
  depth : Nat
  pcc : Cap
  cstat : Word
  a0 : BitVec 72
  a1 : BitVec 72
  l0 : LoopSet
  l1 : LoopSet
  l2 : LoopSet
  load : Option LoadSlot
  arith : Option Nat
  ecause : Word
  eaddr : Word
  flvl : Word
  gateBase : Word
  bcause : Word
  baddr : Word
  fvec : Cap
  ivec : Tab Cap
  nddc : Cap
  ncsp : Cap
  breachVec : Cap
  breachDdc : Cap
  breachCsp : Cap
  onceVec : Bool
  onceDdc : Bool
  onceCsp : Bool
  wfi : Bool
  /-- Core-hold (R394) or a stop by the comparator (R407): the cluster issues nothing. -/
  hold : Bool
  cycles : Nat
  cycleAt : Nat
  cycleHi : Option Nat
  wdtAddr : Word
  wdtDhi : Word
  wdtSlot : Nat
  wdtStat : Word
  ucode : Tab (BitVec 64)
  slots : Tab (Nat × Bool × Nat)
deriving DecidableEq, Repr

/-- The whole state of the block.
Marked DESIGN CHOICE and unsafe (notes/assumptions/4.md). -/
structure State where
  /-- The device timebase counter of the compute die (R12, R23): the present instant. -/
  now : Nat
  /-- The field-die copy (R24). -/
  fieldNow : Nat
  /-- The model's own counter behind free values: not the spec's. -/
  free : Nat
  fuses : Fuses
  /-- Every register of every page, and the words of the queue table, the tracker's tables and the mailbox: by address,
  those that hold other than their reset value. -/
  regs : Tab Word
  /-- The bytes of every addressed memory: System SRAM, TCMs, Swell memories, flash, roll map, plan memory. -/
  mem : List Host.Cell
  /-- The 16-byte granules that hold a capability tag (R36, R369), rising. -/
  tags : List Nat
  fab : Fab
  tbs : Timebase
  tqf : Tqf
  box : PortBox
  /-- The latest sample of each coordinate source, by its identifier (R27, R29). -/
  src : Tab Sample
  pins : Tab Pin
  banks : Tab Bank
  gens : Tab Gen
  tlog : Tab TlogQ
  net : Tab NetPort
  trk : Tracker
  roll : RollMap
  gh : Ghery
  surf : Surf
  tm : Tidemark
  domains : Tab DomState
  power : PowerState
  /-- Fault sources present at Breakwater's collector, not yet latched, each with the page of its unit. -/
  raised : List (Nat × Nat)
  sv : SvCore
  /-- The Swell engines that hold other than their reset state, by number. -/
  swell : Tab Swell
  bw : Breakwater
  tmr : Tab Tmr
  /-- Route actions under way, in the order their events fell (R449). -/
  routes : List RouteDue
  dma : DmaCtl
  /-- Task watchdogs 0–7 and the safety watchdog, number 8. -/
  wdt : Tab Wdt
  conv : Tab Conv
  supply : Supply
  dormant : Dormant
  boot : Boot
  /-- Commands waiting, first in, first out. -/
  pending : List Instr
deriving DecidableEq, Repr

/-- The fuses of the part that `State.reset` stands for: a DX-9512T-M in life cycle TEST with nothing burned but its
identifier, the watchdog window of one half, and a BIST budget of 6 domains. DESIGN CHOICE: the spec gives fuses no values.
Marked DESIGN CHOICE and unsafe (notes/assumptions/9.md). -/
def Fuses.reset : Fuses :=
  { kind := .t9512, tidemark := true, stepping := 0, uid := 1, lifeCycle := .test, win := 2, wakeBist := false, bootCfg := 0
    rbCnt := 0, keyRevoke := 0, keyHash := [], fuseMin := [], bistBudget := 6, idle := [], factoryRepairs := 0, tmFwVer := 0
    tmFwCrc := 0 }

/-- The core right after the reset of its domain (R300, R373, R376): pcc the root code capability, ddc the root data
capability, every other register 0 or null, ML 7, FLVL with each level 6. -/
def SvCore.reset : SvCore :=
  { banks := [⟨[], [(14, ⟨true, 0x07DEFFFFFFFF0000000000000000⟩)], ⟨false, 0⟩, 0⟩, ⟨[], [], ⟨false, 0⟩, 0⟩,
      ⟨[], [], ⟨false, 0⟩, 0⟩, ⟨[], [], ⟨false, 0⟩, 0⟩]
    breachBank := ⟨[], [], ⟨false, 0⟩, 0⟩, breach := false, depth := 0
    pcc := ⟨true, 0x07FFFFFFFFFF0000000000000000⟩, cstat := 0xE000
    a0 := 0, a1 := 0, l0 := ⟨0, 0, 0⟩, l1 := ⟨0, 0, 0⟩, l2 := ⟨0, 0, 0⟩, load := none, arith := none
    ecause := 0, eaddr := 0, flvl := 0x36DB6DB6, gateBase := 0, bcause := 0, baddr := 0
    fvec := ⟨false, 0⟩, ivec := [], nddc := ⟨false, 0⟩, ncsp := ⟨false, 0⟩, breachVec := ⟨false, 0⟩
    breachDdc := ⟨false, 0⟩, breachCsp := ⟨false, 0⟩, onceVec := false, onceDdc := false, onceCsp := false
    wfi := false, hold := false, cycles := 0, cycleAt := 0, cycleHi := none, wdtAddr := 0, wdtDhi := 0, wdtSlot := 0
    wdtStat := 0, ucode := [], slots := [] }

/-- Tidemark before its first boot (R264, R290): nothing counted, nothing stored, its firmware not yet started.
Marked DESIGN CHOICE and unsafe (notes/assumptions/11.md). -/
def Tidemark.reset : Tidemark :=
  { run := false, stopped := false, holdup := false, bypass := false
    nv := ⟨[], false, 0, [], [], [], 0, 0, [0, 0, 0, 0], false, false, []⟩, live := []
    w0 := ⟨0, false, false, none, none, none, false, 0⟩, w1 := ⟨0, false, false, none, none, none, false, 0⟩
    base := 0, hw := 0, total := 0, roll := none, bound := none, closed := [], hist := [], last := none, seq := 0
    win := none, slip := false, errAgo := 0, err := false, cause := 0, clockBad := false, fwBad := false, lastCount := 0
    rested := false, wdRestart := false, entered := false, samples := [], out := [], props := [], strobe := none
    mirT := [], mirA := [], goneT := [], goneA := [] }

/-- The block right after a power-on reset (R475, R476, R491): the timebase at 0, every register at its reset value but
RST_CAUSE, which reads POWER_ON, no memory written, the ports not yet released, the boot ROM not yet run (POWER_ON starts
it).
Marked DESIGN CHOICE and unsafe (notes/assumptions/9.md), DEDUCED and unsafe (notes/assumptions/10.md), DESIGN
CHOICE and unsafe (notes/assumptions/11.md). -/
def State.reset : State :=
  { now := 0, fieldNow := 0, free := 0, fuses := Fuses.reset, regs := [(0x40000070, 1)], mem := [], tags := []
    fab := ⟨[], [], [], [], [], 0, [], [], []⟩, tbs := ⟨false, 0, 0⟩, tqf := ⟨[], [], [], [], [], 0⟩, box := ⟨[], []⟩
    src := [], pins := [], banks := [], gens := [], tlog := [], net := []
    trk := ⟨[], [], [], [], 0, 0, [], [], none⟩, roll := ⟨false, []⟩, gh := ⟨[], [], []⟩
    surf := ⟨[], [], [], [], [], [], [], 0, 0, 0⟩, tm := Tidemark.reset, domains := [], power := .spring, raised := []
    sv := SvCore.reset, swell := []
    bw := ⟨[], [], none, none, false, none, 0, ⟨[], 0, none, 0, false⟩, ⟨none, 0, false, none, none, 0, 0⟩, [], false, false,
      false⟩
    tmr := [], routes := [], dma := ⟨[], 0, 0⟩, wdt := [], conv := [], supply := ⟨true, none, false, false, true, 0, 0, false⟩
    dormant := .awake, boot := ⟨[], false, false, false, false, [], none, none, false, [], []⟩, pending := [] }

end Sys2Proof.Machine
end

