-- ==== Sys2Proof/Machine/Ops.lean ====
section
/-! DEFINITION. The named operations every family of commands is written over: sparse tables, the part's facts, page
addresses, register access, interrupt flags, fault sources, memory, free values and time. -/
namespace Sys2Proof.Machine

/-- What a sparse table lists at a number. -/
def tabGet? {α : Type} : Tab α → Nat → Option α
  | [], _ => none
  | (a, v) :: t, k => if k = a then some v else tabGet? t k

/-- What a sparse table holds at a number, `d` where it lists none. -/
def tabGet {α : Type} (d : α) (t : Tab α) (k : Nat) : α := (tabGet? t k).getD d

/-- List a value at a number, replacing what stood there. -/
def tabPut {α : Type} : Tab α → Nat → α → Tab α
  | [], k, v => [(k, v)]
  | (a, w) :: t, k, v =>
    if k < a then (k, v) :: (a, w) :: t else if k = a then (k, v) :: t else (a, w) :: tabPut t k v

/-- List nothing at a number. -/
def tabDel {α : Type} (t : Tab α) (k : Nat) : Tab α := t.filter fun e => e.1 ≠ k

/-- Store a value in canonical form: a value equal to what an unlisted number reads as is not listed. -/
def tabSet {α : Type} [DecidableEq α] (d : α) (t : Tab α) (k : Nat) (v : α) : Tab α :=
  if v = d then tabDel t k else tabPut t k v

/-- Drop every listing of a sparse table whose number lies in [lo, hi). -/
def tabClear {α : Type} (t : Tab α) (lo hi : Nat) : Tab α := t.filter fun e => e.1 < lo || hi ≤ e.1

/-- Replace the element of a list at an index, if there is one. -/
def listSet {α : Type} : List α → Nat → α → List α
  | [], _, _ => []
  | _ :: xs, 0, v => v :: xs
  | x :: xs, n + 1, v => x :: listSet xs n v

/-! ### The masters and the reason codes (R16, R17) -/

end Sys2Proof.Machine

namespace Sys2Proof

/-- The master ID of R17. -/
def Master.id : Master → Nat
  | .host => 0x00 | .headland => 0x01 | .swell e => 0x08 + e | .tracker => 0x20 | .dma => 0x21
  | .rollWriter => 0x22 | .breakwater => 0x30 | .tidemark => 0x31 | .debug => 0x3F

end Sys2Proof

namespace Sys2Proof.Machine

/-- A master ID that R17 lists. -/
def masterIdListed (i : Nat) : Bool :=
  i == 0 || i == 1 || (8 ≤ i && i ≤ 0x17) || i == 0x20 || i == 0x21 || i == 0x22 || i == 0x30 || i == 0x31 || i == 0x3F

/-- The reason code of R16. -/
def Reason.code : Reason → Nat
  | .none => 0x00 | .rsvdBits => 0x01 | .range => 0x02 | .locked => 0x03 | .absent => 0x04 | .notOwner => 0x05
  | .badState => 0x06 | .align => 0x07 | .width => 0x08 | .readOnly => 0x09 | .sequence => 0x0A | .lifecycle => 0x0B
  | .qFull => 0x10 | .tooLate => 0x11 | .beyondHorizon => 0x12 | .collide => 0x13 | .noSlot => 0x14 | .epoch => 0x15
  | .qUnbound => 0x16 | .capTag => 0x20 | .capBounds => 0x21 | .capPerm => 0x22 | .capSealed => 0x23
  | .guardDeny => 0x24 | .sealed => 0x30 | .proposalInvalid => 0x31 | .e2e => 0x40 | .internal => 0xFF

/-- The reason of the first check that fails, in order (R58). -/
def firstReason : List (Bool × Reason) → Reason
  | [] => .none
  | (b, r) :: t => if b then r else firstReason t

/-! ### The part (R2, R4, R9) -/

/-- Headland cores in lockstep. -/
def Fuses.cores (f : Fuses) : Nat := if f.kind = .t9512 then 3 else 2
/-- Swell engines fitted. -/
def Fuses.swells (f : Fuses) : Nat := match f.kind with | .t9512 | .d9512 => 16 | _ => 8
/-- Surf lanes fitted. -/
def Fuses.surfs (f : Fuses) : Nat := match f.kind with | .t9512 | .d9512 => 64 | .d9256 => 32 | .d9128 => 0
/-- Ghery ingress lanes fitted. -/
def Fuses.gheryIn (f : Fuses) : Nat := match f.kind with | .t9512 | .d9512 => 24 | .d9256 => 12 | .d9128 => 0
/-- Ghery egress lanes fitted. -/
def Fuses.gheryOut (f : Fuses) : Nat := match f.kind with | .t9512 | .d9512 => 4 | _ => 2
/-- Timed I/O banks fitted. -/
def Fuses.banks (f : Fuses) : Nat := match f.kind with | .t9512 | .d9512 => 14 | .d9256 => 7 | .d9128 => 3
/-- T1S segments fitted. -/
def Fuses.t1s (f : Fuses) : Nat := match f.kind with | .t9512 | .d9512 => 48 | _ => 24
/-- TSN ports fitted. -/
def Fuses.tsn (f : Fuses) : Nat := match f.kind with | .t9512 | .d9512 => 16 | _ => 8
/-- Load-cell channels fitted. -/
def Fuses.cells (f : Fuses) : Nat := match f.kind with | .t9512 | .d9512 => 16 | _ => 8
/-- The part code of FEAT1.PART. -/
def Fuses.partCode (f : Fuses) : Nat := match f.kind with | .t9512 => 1 | .d9512 => 2 | .d9256 => 3 | .d9128 => 4

/-- The code of a life-cycle state (R498). -/
def LifeCycle.code : LifeCycle → Nat
  | .test => 0 | .develop => 1 | .field => 2 | .return_ => 3

/-- FEAT0 of R4. -/
def Fuses.feat0 (f : Fuses) : Word :=
  wordOf (f.cores + f.swells * 2 ^ 4 + f.surfs * 2 ^ 9 + f.gheryIn * 2 ^ 16 + f.gheryOut * 2 ^ 21
    + f.banks * 2 ^ 24 + (if f.tidemark then 2 ^ 28 else 0))

/-- FEAT1 of R4. -/
def Fuses.feat1 (f : Fuses) : Word :=
  wordOf (f.t1s + f.tsn * 2 ^ 6 + f.cells * 2 ^ 11 + f.partCode * 2 ^ 16 + f.stepping * 2 ^ 20 + 2 ^ 24)

/-- A field port that is fitted (R8, R9). -/
def Fuses.portFitted (f : Fuses) (port : Nat) : Bool :=
  if port < 448 then port / 32 < f.banks
  else if port < 496 then port - 448 < f.t1s
  else port < 512 && port - 496 < f.tsn

/-- A hold-up port (R10). -/
def holdUpPort (port : Nat) : Bool := port < 32 || (448 ≤ port && port < 452)

/-- A listed master that is fitted (R7, R39). -/
def Fuses.masterFitted (f : Fuses) (i : Nat) : Bool :=
  if 8 ≤ i && i ≤ 0x17 then i - 8 < f.swells
  else if i == 0x22 then 0 < f.surfs
  else if i == 0x31 then f.tidemark
  else true

/-! ### Pages (R40–R42) -/

end Sys2Proof.Machine

namespace Sys2Proof

/-- The page's block number and slot: R42's index. -/
def Page.slot : Page → Nat × Nat
  | .sys => (0x00, 0) | .clk => (0x00, 1) | .pwr => (0x00, 2) | .lee => (0x00, 3) | .tml => (0x00, 8)
  | .bwCtl => (0x01, 0) | .bwFc => (0x01, 1) | .bwMap => (0x01, 2) | .bwMon => (0x01, 3) | .slk => (0x01, 4)
  | .lks => (0x01, 5)
  | .tb => (0x02, 0) | .tqf => (0x02, 1) | .ebb => (0x02, 2) | .tqs => (0x02, 3)
  | .tio k => (0x03, k) | .tioc => (0x03, 14)
  | .t1sc => (0x04, 0) | .t1s q => (0x04, 1 + q) | .tsn n => (0x05, n)
  | .trk => (0x06, 0) | .rmap => (0x06, 1)
  | .surfG g => (0x07, 2 * g) | .surfL g => (0x07, 2 * g + 1)
  | .ghIn q => (0x08, q) | .ghOut p => (0x08, 6 + p) | .ghInL i => (0x08, 8 + i) | .ghOutL => (0x08, 11)
  | .swell e => (0x09, e)
  | .tmr k => (0x0A, k) | .tmx => (0x0A, 4)
  | .wdt w => (0x0B, w) | .swdt => (0x0B, 8)
  | .cv c => (0x0C, c)
  | .guard i => (0x0D, i) | .guardS k => (0x0D, 6 + k)
  | .bistC => (0x0E, 0) | .bistR => (0x0E, 1) | .rep => (0x0E, 2)
  | .lc => (0x0F, 0) | .fuse => (0x0F, 1) | .sboot => (0x0F, 2)
  | .hrp => (0x10, 0)
  | .dmac => (0x11, 0) | .dma k => (0x11, 1 + k)
  | .icc => (0x12, 0) | .icl => (0x12, 1) | .icp => (0x12, 2)

/-- The page's base address (R40). -/
def Page.base (p : Page) : Nat := 0x40000000 + p.slot.1 * 0x10000 + p.slot.2 * 0x1000

/-- The page whose block and slot these are, if R42 lists one. -/
def Page.ofSlot (b s : Nat) : Option Page :=
  match b with
  | 0x00 => match s with | 0 => some .sys | 1 => some .clk | 2 => some .pwr | 3 => some .lee | 8 => some .tml | _ => none
  | 0x01 => match s with
    | 0 => some .bwCtl | 1 => some .bwFc | 2 => some .bwMap | 3 => some .bwMon | 4 => some .slk | 5 => some .lks
    | _ => none
  | 0x02 => match s with | 0 => some .tb | 1 => some .tqf | 2 => some .ebb | 3 => some .tqs | _ => none
  | 0x03 => if s < 14 then some (.tio s) else if s = 14 then some .tioc else none
  | 0x04 => if s = 0 then some .t1sc else if s ≤ 12 then some (.t1s (s - 1)) else none
  | 0x05 => if s < 16 then some (.tsn s) else none
  | 0x06 => match s with | 0 => some .trk | 1 => some .rmap | _ => none
  | 0x07 => if s < 16 then (if s % 2 = 0 then some (.surfG (s / 2)) else some (.surfL (s / 2))) else none
  | 0x08 => if s < 6 then some (.ghIn s) else if s < 8 then some (.ghOut (s - 6)) else if s < 11 then some (.ghInL (s - 8))
    else if s = 11 then some .ghOutL else none
  | 0x09 => if s < 16 then some (.swell s) else none
  | 0x0A => if s < 4 then some (.tmr s) else if s = 4 then some .tmx else none
  | 0x0B => if s < 8 then some (.wdt s) else if s = 8 then some .swdt else none
  | 0x0C => if s < 16 then some (.cv s) else none
  | 0x0D => if s < 6 then some (.guard s) else if s < 14 then some (.guardS (s - 6)) else none
  | 0x0E => match s with | 0 => some .bistC | 1 => some .bistR | 2 => some .rep | _ => none
  | 0x0F => match s with | 0 => some .lc | 1 => some .fuse | 2 => some .sboot | _ => none
  | 0x10 => if s = 0 then some .hrp else none
  | 0x11 => if s = 0 then some .dmac else if s ≤ 4 then some (.dma (s - 1)) else none
  | 0x12 => match s with | 0 => some .icc | 1 => some .icl | 2 => some .icp | _ => none
  | _ => none

/-- The page that an address lies in (R40, R42), if any. -/
def Page.ofAddr (a : Nat) : Option Page :=
  if 0x40000000 ≤ a && a < 0x41000000 then
    Page.ofSlot ((a - 0x40000000) / 0x10000) ((a - 0x40000000) / 0x1000 % 16)
  else none

/-- A page whose instance number R42 lists. -/
def Page.valid : Page → Bool
  | .tio k => k < 14 | .t1s q => q < 12 | .tsn n => n < 16 | .surfG g => g < 8 | .surfL g => g < 8
  | .ghIn q => q < 6 | .ghOut p => p < 2 | .ghInL i => i < 3 | .swell e => e < 16 | .tmr k => k < 4
  | .wdt w => w < 8 | .cv c => c < 16 | .guard i => i < 6 | .guardS k => k < 8 | .dma k => k < 4
  | _ => true

/-- A page present on the part (R42). -/
def Page.present (f : Machine.Fuses) : Page → Bool
  | .tml => f.tidemark
  | .tio k => k < f.banks
  | .t1s q => 4 * q < f.t1s
  | .tsn n => n < f.tsn
  | .surfG g => 8 * g < f.surfs
  | .surfL g => 8 * g < f.surfs
  | .ghIn q => 4 * q < f.gheryIn
  | .ghOut p => 2 * p < f.gheryOut
  | .ghInL i => 8 * i < f.gheryIn
  | .swell e => e < f.swells
  | .cv c => c < f.cells
  | .guard i => i != 3 || 0 < f.surfs
  | .guardS k => 2 * k < f.swells
  | _ => true

/-- The page kind, bits [23:16] of the block type (R41, R42). -/
def Page.kindCode : Page → Nat
  | .sys => 1 | .clk => 2 | .pwr => 3 | .lee => 4 | .tml => 5
  | .bwCtl => 1 | .bwFc => 2 | .bwMap => 3 | .bwMon => 4 | .slk => 5 | .lks => 6
  | .tb => 1 | .tqf => 2 | .ebb => 3 | .tqs => 4
  | .tio _ => 1 | .tioc => 2 | .t1sc => 1 | .t1s _ => 2 | .tsn _ => 1 | .trk => 1 | .rmap => 2
  | .surfG _ => 1 | .surfL _ => 2 | .ghIn _ => 1 | .ghOut _ => 2 | .ghInL _ => 3 | .ghOutL => 4
  | .swell _ => 1 | .tmr _ => 1 | .tmx => 2 | .wdt _ => 1 | .swdt => 2 | .cv _ => 1 | .guard _ => 1 | .guardS _ => 2
  | .bistC => 1 | .bistR => 2 | .rep => 3 | .lc => 1 | .fuse => 2 | .sboot => 3 | .hrp => 1
  | .dmac => 1 | .dma _ => 2 | .icc => 1 | .icl => 2 | .icp => 3

/-- The page's instance number (R42). -/
def Page.inst : Page → Nat
  | .tio k => k | .t1s q => q | .tsn n => n | .surfG g => g | .surfL g => g | .ghIn q => q | .ghOut p => p
  | .ghInL i => i | .swell e => e | .tmr k => k | .wdt w => w | .cv c => c
  | .guard i => [0x01, 0x20, 0x21, 0x22, 0x00, 0x3F].getD i 0
  | .guardS k => k | .dma k => k | _ => 0

/-- PAGE_ID of a page: block type, instance, header version 1 (R41; 0 on an absent page, R6). -/
def Page.pageId (f : Machine.Fuses) (p : Page) : Word :=
  if p.present f then Machine.wordOf (p.slot.1 * 2 ^ 24 + p.kindCode * 2 ^ 16 + p.inst * 2 ^ 8 + 1) else 0

end Sys2Proof

namespace Sys2Proof.Machine

/-! ### Power domains of pages (R469) -/

/-- The power domains that a page's clock request counts toward. A TSN port's own lane and clock is numbered 100 + n.
Marked DEDUCED and unsafe (notes/assumptions/15.md). -/
def pageDomains : Page → List Nat
  | .lee => [1]
  | .bwCtl | .bwFc | .bwMap | .bwMon | .slk | .lks | .swdt | .tml | .tioc => [2]
  | .tio k => if k = 0 then [3] else if k ≤ 4 then [4] else if k ≤ 8 then [5] else if k ≤ 11 then [6] else [7]
  | .t1sc => [3]
  | .t1s q => if q = 0 then [3] else if q < 6 then [8] else if q = 6 then [8, 9] else [9]
  | .cv _ => [10]
  | .swell e => [20 + e / 4]
  | .surfG g | .surfL g => [24 + g]
  | .ghIn q => if q < 3 then [32] else [33]
  | .ghInL i => if i = 0 then [32] else if i = 1 then [32, 33] else [33]
  | .ghOut _ | .ghOutL => [34]
  | .tb | .tqf | .ebb | .tqs | .trk | .rmap => [35]
  | .tsn n => [100 + n]
  | .hrp => [36]
  | .sys | .clk | .pwr | .tmr _ | .tmx | .wdt _ | .guard _ | .guardS _ | .bistC | .bistR | .rep | .lc | .fuse | .sboot
  | .dmac | .dma _ | .icc | .icl | .icp => [15]

/-- Every page that R42 lists. -/
def allPages : List Page :=
  List.flatten
    [[Page.sys, Page.clk, Page.pwr, Page.lee, Page.tml, Page.bwCtl, Page.bwFc, Page.bwMap, Page.bwMon, Page.slk, Page.lks,
      Page.tb, Page.tqf, Page.ebb, Page.tqs],
     (List.range 14).map Page.tio, [Page.tioc, Page.t1sc], (List.range 12).map Page.t1s, (List.range 16).map Page.tsn,
     [Page.trk, Page.rmap], (List.range 8).map Page.surfG, (List.range 8).map Page.surfL, (List.range 6).map Page.ghIn,
     (List.range 2).map Page.ghOut, (List.range 3).map Page.ghInL, [Page.ghOutL], (List.range 16).map Page.swell,
     (List.range 4).map Page.tmr, [Page.tmx], (List.range 8).map Page.wdt, [Page.swdt], (List.range 16).map Page.cv,
     (List.range 6).map Page.guard, (List.range 8).map Page.guardS,
     [Page.bistC, Page.bistR, Page.rep, Page.lc, Page.fuse, Page.sboot, Page.hrp, Page.dmac],
     (List.range 4).map Page.dma, [Page.icc, Page.icl, Page.icp]]

/-- An on-demand domain: on while one of its pages requests a clock (R469, R470). -/
def onDemand (d : Nat) : Bool := (4 ≤ d && d ≤ 10) || (20 ≤ d && d ≤ 34) || 100 ≤ d

/-- The state of a domain that the state does not list: the always-on domains are on, the others off. -/
def domDefault (d : Nat) : DomState := if onDemand d then .off else .on

/-- The state of a power domain. -/
def State.domain (s : State) (d : Nat) : DomState := tabGet (domDefault d) s.domains d

/-- Set the state of a power domain. -/
def State.setDomain (s : State) (d : Nat) (v : DomState) : State :=
  { s with domains := tabPut s.domains d v }

/-- How far a domain is started, lower being less (R469). -/
def DomState.rank : DomState → Nat
  | .off | .keptOff => 0 | .stopping _ => 1 | .starting => 2 | .on => 3

/-- The state a page reads: that of the less far started of its domains (R469). -/
def State.pageDomain (s : State) (p : Page) : DomState :=
  (pageDomains p).foldl (fun a d => if (s.domain d).rank < a.rank then s.domain d else a) .on

/-- The module runs on the Spring clock (R471). -/
def State.inSpring (s : State) : Bool := match s.power with
  | .spring => true | .neap => false | .changing up => !up

/-- PSTATE of a page (R43): 0 OFF, 1 STARTING, 2 NEAP, 3 SPRING, 4 STOPPING. A fixed-clock page reads SPRING; a page whose
request for the Spring clock the module has still to follow reads STARTING (R471).
Marked DEDUCED and unsafe (notes/assumptions/15.md). -/
def State.pstate (s : State) (p : Page) : Nat := match s.pageDomain p with
  | .off | .keptOff => 0
  | .starting => 1
  | .stopping _ => 4
  | .on =>
    if fixedClock p then 3
    else if s.power = .changing true && tabGet 0 s.regs (p.base + 0x0C) / 4#32 == 2#32 then 1
    else if s.inSpring then 3 else 2

/-- The page's block registers can be read and written (R48).
Marked DEDUCED and unsafe (notes/assumptions/47.md). -/
def State.pageRuns (s : State) (p : Page) : Bool := 2 ≤ s.pstate p && s.pstate p ≤ 3

/-- One fabric cycle in ticks (R51, R471). -/
def State.fabricCycle (s : State) : Nat := if s.inSpring then 16 else 160

/-! ### Registers -/

/-- The queue table's first address (R89). -/
def qtabBase : Nat := 0x38200000

/-- The reset value of an entry of the reaction map on this part: default class, permitted classes and FUSE_MIN
(R420, R434).
Marked DESIGN CHOICE and unsafe (notes/assumptions/12.md). -/
def mapReset (f : Fuses) (s : Nat) : Word :=
  let e := (sources.getD s default)
  let cls := if f.kind = .t9512 then e.clsT else e.clsD
  let permit := if f.kind = .t9512 then e.permitT else e.permitD
  wordOf (cls + 5 * 2 ^ 3 + 8 * 2 ^ 6 + max (minPermit permit) (tabGet 0 f.fuseMin s) * 2 ^ 16 + permit * 2 ^ 19)

/-- What a register or table word holds while the state does not list it: the reset value that the spec gives.
Marked DESIGN CHOICE and unsafe (notes/assumptions/11.md). -/
def resetWord (f : Fuses) (a : Nat) : Word :=
  match Page.ofAddr a with
  | some p =>
    let off := a - p.base
    if !p.present f then 0
    else if off = 0 then p.pageId f
    else if off = 4 then 0x00000100
    else if off = 0x0C && fixedClock p then 0x8
    else if off < 0x40 then wordOf (((regAt p off).map RegDef.rs).getD 0)
    else match p, off with
      | .sys, 0x40 => f.feat0
      | .sys, 0x44 => f.feat1
      | .tio k, off =>
        if 0x800 ≤ off && (off - 0x800) % 0x40 = 0 then wordOf (tabGet 0 f.idle (32 * k + (off - 0x800) / 0x40) * 16)
        else if off = 0x40 then (if k = 0 then 0xA else 0x2)
        else wordOf (((regAt p off).map RegDef.rs).getD 0)
      | .bwMap, off => if 0x800 ≤ off then mapReset f ((off - 0x800) / 4) else 0
      | .swdt, 0x50 => wordOf (f.win * 16)
      | .wdt _, 0x50 => wordOf (f.win * 16)
      | .guard _, 0x804 => 0xFFFFFFE0
      | .guard i, 0x808 => if i = 0 then 0xF else 0x7
      | .guardS _, off =>
        if off = 0x804 || off = 0xC04 then 0xFFFFFFE0 else if off = 0x808 || off = 0xC08 then 0x7 else 0
      | .lks, 0x40 => if f.cores = 3 then 0 else 1
      | .bistC, 0x40 => f.bistBudget
      | .rep, 0x40 => wordOf (f.factoryRepairs * 2 ^ 16)
      | .lc, 0x40 => wordOf f.lifeCycle.code
      | .fuse, 0x40 => f.uid.setWidth 32
      | .fuse, 0x44 => (f.uid >>> 32).setWidth 32
      | .fuse, 0x48 => wordOf (1 + f.win * 2 + (if f.wakeBist then 16 else 0))
      | .sboot, off =>
        if off = 0x48 then wordOf f.rbCnt
        else if off = 0x50 then f.keyRevoke
        else if off = 0x58 then f.bootCfg
        else if 0x800 ≤ off then (f.keyHash.getD ((off - 0x800) / 0x20) []).getD ((off - 0x800) / 4 % 8) 0
        else 0
      | p, off => wordOf (((regAt p off).map RegDef.rs).getD 0)
  | none =>
    if 0x38200000 ≤ a && a < 0x38300000 then (if a % 16 = 4 then 0x019000FF else 0)
    else if 0x3C100000 ≤ a && a < 0x3C200000 then (if a % 64 = 0x10 then 0x10000 else if a % 64 = 0x1C then 8 else 0)
    else 0

/-- The word at a register or table address. -/
def State.rd (s : State) (a : Nat) : Word := tabGet (resetWord s.fuses a) s.regs a

/-- The state with the word at a register or table address replaced. -/
def State.wr (s : State) (a : Nat) (w : Word) : State :=
  { s with regs := tabSet (resetWord s.fuses a) s.regs a w }

/-- The register at an offset of a page, as stored. -/
def State.reg (s : State) (p : Page) (off : Nat) : Word := s.rd (p.base + off)

/-- The state with the register at an offset of a page replaced. -/
def State.setReg (s : State) (p : Page) (off : Nat) (w : Word) : State := s.wr (p.base + off) w

/-- A field of a register, as a number. -/
def State.regF (s : State) (p : Page) (off lo n : Nat) : Nat := fld (s.reg p off) lo n

/-- The state with one field of a register replaced. -/
def State.setRegF (s : State) (p : Page) (off lo n v : Nat) : State :=
  s.setReg p off (setFld (s.reg p off) lo n v)

/-- A 64-bit value in a register pair, low word first. -/
def State.reg64 (s : State) (p : Page) (off : Nat) : Nat :=
  (s.reg p off).toNat + 2 ^ 32 * (s.reg p (off + 4)).toNat

/-- Store a 64-bit value in a register pair. -/
def State.setReg64 (s : State) (p : Page) (off v : Nat) : State :=
  (s.setReg p off (wordOf v)).setReg p (off + 4) (wordOf (v / 2 ^ 32))

/-- Count one more in a 32-bit register that saturates. -/
def State.satInc (s : State) (p : Page) (off : Nat) (by_ : Nat := 1) : State :=
  s.setReg p off (sat32 ((s.reg p off).toNat + by_))

/-- Count one more in a 32-bit register that wraps. -/
def State.wrapInc (s : State) (p : Page) (off : Nat) (by_ : Nat := 1) : State :=
  s.setReg p off (s.reg p off + wordOf by_)

/-- Count one more in a field that saturates. -/
def State.satIncF (s : State) (p : Page) (off lo n : Nat) (by_ : Nat := 1) : State :=
  s.setRegF p off lo n (min (s.regF p off lo n + by_) (2 ^ n - 1))

/-- Return every register and table word in [lo, hi) to its reset value. -/
def State.clearRegs (s : State) (lo hi : Nat) : State := { s with regs := tabClear s.regs lo hi }

/-- The number of the fabric cycle that holds the present instant (R51).
Marked DESIGN CHOICE and unsafe (notes/assumptions/3.md). -/
def State.cycleNow (s : State) : Nat := s.now / s.fabricCycle

/-- What the fabric holds of the present cycle: nothing of an earlier one.
Marked DESIGN CHOICE and unsafe (notes/assumptions/3.md). -/
def State.fabNow (s : State) : Fab :=
  if s.fab.cycle = s.cycleNow then s.fab else { s.fab with cycle := s.cycleNow, written := [], flags := [], rejects := [] }

/-- Raise event bits of a page (R43): IRQ_RAW takes them. -/
def State.irq (s : State) (p : Page) (bits : Nat) : State :=
  let f := s.fabNow
  { s.setReg p 0x20 (s.reg p 0x20 ||| wordOf bits) with fab := { f with flags := (p.base, bits) :: f.flags } }

/-- Raise one event bit of a page. -/
def State.irqBit (s : State) (p : Page) (k : Nat) : State := s.irq p (2 ^ k)

/-- ENABLE of a page (R43). -/
def State.enabled (s : State) (p : Page) : Bool := bit (s.reg p 0x0C) 0

/-- Report a fault source to Breakwater's collector with the page of the unit it names (R415, R417); 0 where it names
none. The collector latches it at FAULT_LATCH. -/
def State.raiseFault (s : State) (src : Nat) (unit : Nat := 0) : State :=
  if s.raised.contains (src, unit) then s else { s with raised := s.raised ++ [(src, unit)] }

/-- The page's unit is stopped and fenced by an ISOLATE reaction (R417).
Marked DEDUCED and unsafe (notes/assumptions/20.md). -/
def State.isFenced (s : State) (p : Page) : Bool := s.bw.iso.any fun x => x.2 == p.base

/-! ### Memory -/

/-- The byte at an address: 0 where the memory lists none.
Marked DESIGN CHOICE and unsafe (notes/assumptions/8.md). -/
def readByte (m : List Host.Cell) (a : Nat) : Byte := tabGet 0 m a

/-- Memory with the byte at an address replaced. -/
def writeByte (m : List Host.Cell) (a : Nat) (b : Byte) : List Host.Cell := tabSet 0 m a b

/-- Bytes written from an address upward. -/
def writeBytes (m : List Host.Cell) (a : Nat) : List Nat → List Host.Cell
  | [] => m
  | b :: bs => writeBytes (writeByte m a (BitVec.ofNat 8 b)) (a + 1) bs

/-- The bytes from an address upward. -/
def readBytes (m : List Host.Cell) (a n : Nat) : List Nat :=
  (List.range n).map fun i => (readByte m (a + i)).toNat

/-- A little-endian value of n bytes in memory.
Marked DESIGN CHOICE and unsafe (notes/assumptions/8.md). -/
def State.memN (s : State) (a n : Nat) : Nat := ofBytesLE (readBytes s.mem a n)

/-- A write of bytes to memory clears the tag of every granule that it touches (R369). -/
def State.writeMem (s : State) (a : Nat) (bs : List Nat) : State :=
  if bs.isEmpty then s
  else
    let lo := a / 16
    let hi := (a + bs.length - 1) / 16
    { s with mem := writeBytes s.mem a bs, tags := s.tags.filter fun g => g < lo || hi < g }

/-- Store a little-endian value of n bytes. -/
def State.setMem (s : State) (a n v : Nat) : State := s.writeMem a (bytesLE n v)

/-- Store bytes. -/
def State.putBytes (s : State) (a : Nat) (bs : List Nat) : State := s.writeMem a bs

/-- Every byte of [lo, hi) reads 0 again, and its granules lose their tags. -/
def State.clearMem (s : State) (lo hi : Nat) : State :=
  { s with mem := tabClear s.mem lo hi, tags := s.tags.filter fun g => 16 * g + 16 ≤ lo || hi ≤ 16 * g }

/-- A sparse table's canonical form: numbers strictly rising, none listed at what an unlisted number reads as. -/
def tabWf {α : Type} [DecidableEq α] (d : Nat → α) : Tab α → Bool
  | [] => true
  | [(a, v)] => v ≠ d a
  | (a, v) :: (b, w) :: t => v ≠ d a && a < b && tabWf d ((b, w) :: t)

/-- Memory's canonical form: addresses strictly rising and no byte listed that is 0. -/
abbrev Memory.wf (m : List Host.Cell) : Bool := tabWf (fun _ => (0 : Byte)) m

/-! ### Free values, samples, logs -/

/-- Draw the next free value's number.
Marked DESIGN CHOICE and safe (notes/assumptions/33.md), DESIGN CHOICE and unsafe (notes/assumptions/121.md). -/
def State.draw (s : State) : State := { s with free := s.free + 1 }

/-- A device time at the start of its TQF or fabric cycle (R92): whole multiples of 16 ticks. -/
def floor16 (t : Nat) : Nat := t / 16 * 16

/-- Instants and coordinates of 64 bits (R12, R13).
Marked DEDUCED and unsafe (notes/assumptions/124.md). -/
def inst64 (n : Nat) : Nat := n % 2 ^ 64

/-- One record into a ring log in System SRAM (R105, R106): `lim` is LOG_SIZE's exponent, 0 when the log is off. The
answer says whether the record was written; a record that cannot be written counts in LOST. -/
def State.ringLog (s : State) (base lim width : Nat) (rec : Nat) : State × Bool :=
  if lim = 0 then
    if 0x20000000 ≤ base && base + 16 ≤ 0x20800000 then
      (s.setMem (base + 4) 4 (min (s.memN (base + 4) 4 + 1) (2 ^ 32 - 1)), false)
    else (s, false)
  else
    let w := s.memN base 4
    ((s.setMem (base + 0x10 + (w % 2 ^ lim) * width) width rec).setMem base 4 ((w + 1) % 2 ^ 32), true)

end Sys2Proof.Machine
end

