-- ==== Sys2Proof/Machine/Access.lean ====
section
/-! DEFINITION. What every block's pages share: a write as its page sees it, the outcome of the checks that belong to a
block (steps 12 to 17 of R58), and the default storing of a write. -/
namespace Sys2Proof.Machine

/-- A write to a page that has passed decode: its master, page, offset, whether it is 64 bits wide, and its value. -/
structure Wr where
  m : Master
  p : Page
  off : Nat
  wide : Bool
  v : Nat
deriving DecidableEq, Repr

/-- The write carries the word at an offset. -/
def Wr.hits (w : Wr) (off : Nat) : Bool := w.off == off || (w.wide && w.off + 4 == off)

/-- The word that the write carries for an offset. -/
def Wr.word (w : Wr) (off : Nat) : Word :=
  if w.off = off then wordOf w.v else wordOf (w.v / 2 ^ 32)

/-- A field of the word that the write carries for an offset. -/
def Wr.fld (w : Wr) (off lo n : Nat) : Nat := Machine.fld (w.word off) lo n

/-- The offsets that the write carries. -/
def Wr.offs (w : Wr) : List Nat := if w.wide then [w.off, w.off + 4] else [w.off]

/-- What a register would hold after a write of a word: writable bits taken, write-one bits cleared. -/
def RegDef.merge (d : RegDef) (old new : Word) : Word :=
  (((old &&& ~~~(wordOf d.rw)) ||| (new &&& wordOf d.rw)) &&& ~~~(new &&& wordOf d.w1c))

/-- The word a page register would hold after the write. -/
def State.after (s : State) (w : Wr) (off : Nat) : Word :=
  if w.hits off then
    match regAt w.p off with
    | some d => d.merge (s.reg w.p off) (w.word off)
    | none => s.reg w.p off
  else s.reg w.p off

/-- A 64-bit value as two registers would hold it after the write. -/
def State.after64 (s : State) (w : Wr) (off : Nat) : Nat :=
  (s.after w off).toNat + 2 ^ 32 * (s.after w (off + 4)).toNat

/-- The write changes a field. -/
def State.changes (s : State) (w : Wr) (off lo n : Nat) : Bool :=
  fld (s.after w off) lo n != s.regF w.p off lo n

/-- Which of a block's own checks fail: a staged or keyed sequence (step 12), a field's range (14), an absent unit (15),
the block's state (16), and the block-specific checks in their order (17). -/
structure Chk where
  seq : Bool := false
  range : Bool := false
  absent : Bool := false
  state : Bool := false
  block : Reason := .none
deriving DecidableEq, Repr

/-- Store the words of a write in their registers, with nothing else. -/
def State.store (s : State) (w : Wr) : State :=
  w.offs.foldl (fun s off => s.setReg w.p off (s.after w off)) s

/-- A source identifier of R27 in range (R28): kind 0 to 4, index in the kind's range, pins wholly in one bank. -/
def srcRangeOk (id : Nat) : Bool :=
  let k := id / 4096 % 16
  let i := id % 4096
  if k = 0 then i = 0
  else if k = 1 then i = 0
  else if k = 2 then i < 448 && i % 2 = 0
  else if k = 3 then i < 448 && i % 32 ≤ 29
  else k = 4 && i < 64

/-- A source identifier that names an absent port, or the legal coordinate on a part without -M (R28). -/
def srcAbsent (f : Fuses) (id : Nat) : Bool :=
  let k := id / 4096 % 16
  let i := id % 4096
  (k = 1 && !f.tidemark) || ((k = 2 || k = 3) && !f.portFitted i)

/-- FUNC of a timed I/O pin (R111). -/
def State.pinFunc (s : State) (port : Nat) : Nat := s.regF (.tio (port / 32)) (0x800 + port % 32 * 0x40) 0 4

/-- A source identifier that names pins not configured for that decoder (R28). -/
def State.srcBadState (s : State) (id : Nat) : Bool :=
  let k := id / 4096 % 16
  (k = 2 && s.pinFunc (id % 4096) != 6) || (k = 3 && s.pinFunc (id % 4096) != 7)

/-- The signed reading of a 64-bit count. -/
def sgn64 (n : Nat) : Int := sgn 64 n

/-- A log base and size after a write leave the log inside System SRAM and 16-byte aligned (R110). -/
def logSpanOk (base lim width : Nat) : Bool :=
  let span := if lim = 0 then 16 else 0x10 + width * 2 ^ lim
  base % 16 = 0 && 0x20000000 ≤ base && base + span ≤ 0x20800000

/-- A log size's range (R110): off, or 2^4 to 2^16 records. -/
def logSizeOk (lim : Nat) : Bool := lim = 0 || (4 ≤ lim && lim ≤ 16)

end Sys2Proof.Machine
end

