-- ==== Sys2Proof/Machine/PortInfo.lean ====
section
/-! DEFINITION. What the TQF asks of a port (R84, R93, R114): channel ranges, channel cycles, leads; and the default of a
pin, a generator and a network port that the state does not list. -/
namespace Sys2Proof.Machine

/-- The page and block offset of a T1S segment (R151). -/
def segPage (seg : Nat) : Page := .t1s (seg / 4)
/-- A segment register's offset in its quad page. -/
def segOff (seg r : Nat) : Nat := 0x40 + seg % 4 * 0x40 + r
/-- A segment's node entry (n from 1). -/
def nodeOff (seg n : Nat) : Nat := 0x400 + seg % 4 * 0x80 + (n - 1) * 8

/-- The page of a network port (448 to 511). -/
def netPage (port : Nat) : Page := if port < 496 then segPage (port - 448) else .tsn (port - 496)

/-- A channel's descriptor in its network port's page (R151, R152). -/
def descOff (port chan : Nat) : Nat :=
  if port < 496 then 0x800 + (port - 448) % 4 * 0x200 + chan * 0x10 else 0x800 + chan * 0x10

/-- A register of a network port that T1S and TSN pages hold at their own offsets (R151, R152). -/
def netOff (port t1sOff tsnOff : Nat) : Nat := if port < 496 then segOff (port - 448) t1sOff else tsnOff

/-- HL of a segment in ticks (R84, R151). -/
def State.segHL (s : State) (seg : Nat) : Nat := s.regF (segPage seg) (segOff seg 4) 0 16 * 1000

/-- The handoff lead H of a port (R84). -/
def State.handoffLead (s : State) (port : Nat) : Nat :=
  if port < 448 then 2400 else if port < 496 then s.segHL (port - 448) else 80000

/-- The base admission lead of a port (R84). -/
def State.baseLead (s : State) (port : Nat) : Nat :=
  if port < 448 then 3200 else if port < 496 then s.segHL (port - 448) + 160000 else 80000

/-- A channel that the port's present function or descriptors accept (R114). -/
def State.chanOk (s : State) (port chan : Nat) : Bool :=
  if port < 448 then
    let f := s.pinFunc port
    if f = 1 || f = 2 || f = 4 then chan = 0 else f = 3 && chan < 3
  else chan < (if port < 496 then 32 else 128) && bit (s.reg (netPage port) (descOff port chan)) 31

/-- A network channel's cycle number at an instant (R93): floor((I − base) / length). -/
def State.chanCycle (s : State) (port chan i : Nat) : Int :=
  ((i : Int) - s.regF (netPage port) (descOff port chan + 8) 0 31)
    / max 1 (s.regF (netPage port) (descOff port chan + 4) 0 31 : Int)

/-- Two entries of a port share a delivery slot (R93). -/
def State.sameSlot (s : State) (port chan i chan' i' : Nat) : Bool :=
  if port < 448 then ((i : Int) - i').natAbs < 80
  else chan = chan' && s.chanCycle port chan i = s.chanCycle port chan' i'

/-- The window of the compute–field link that a handoff falls in (R94). -/
def linkWindow (handoff : Nat) : Nat := handoff / 8000

/-- A stopped PWM output with empty preloads (R118). -/
def pwmIdle : Pwm := ⟨false, 0, 0, 0, 0, 0, false⟩

/-- The level that IDLE selects (R129).
Marked DEDUCED and unsafe (notes/assumptions/29.md). -/
def idleDrive (n : Nat) : Drive := if n = 0 then .low else if n = 1 then .high else .hiZ

/-- A pin whose function has just been selected: the level its function drives, and everything else empty (R534). The
physical input level is the environment's and stays. -/
def pinFresh (d : Drive) (input : Bool) : Pin :=
  ⟨d, input, none, pwmIdle, false, none, none, 0, false, false, none, none, none, none, ⟨0, 0⟩, false, false⟩

/-- PIN_CFG of a pin. -/
def State.pinCfg (s : State) (port : Nat) : Word := s.reg (.tio (port / 32)) (0x800 + port % 32 * 0x40)

/-- The IDLE drive of a pin. -/
def State.pinIdle (s : State) (port : Nat) : Drive := idleDrive (fld (s.pinCfg port) 4 2)

/-- A pin: where the state lists none, it drives its IDLE level and nothing runs. -/
def State.pin (s : State) (port : Nat) : Pin := tabGet (pinFresh (s.pinIdle port) false) s.pins port

/-- The state with a pin replaced. -/
def State.setPin (s : State) (port : Nat) (p : Pin) : State := { s with pins := tabPut s.pins port p }

/-- A port is released (R133, R476): a hold-up port until a reset of the field die; another from the boot ROM's hand-over to
firmware.
Marked DEDUCED and unsafe (notes/assumptions/103.md). -/
def State.portReleased (s : State) (port : Nat) : Bool := s.boot.released && (holdUpPort port || s.boot.firmware)

/-- Pins that a PIN_CFG value occupies beside its own (R111, R112). -/
def furtherPins (port : Nat) (cfg : Word) : List Nat :=
  let f := fld cfg 0 4
  if f = 4 || f = 6 then [port + 1]
  else if f = 7 then [port + 1, port + 2]
  else if f ≠ 15 && bit cfg 7 then [port + 1]
  else []

/-- The pin whose PIN_CFG governs a port: for a PAIRED pin the first pin of its function (R112). -/
def State.pinOwner (s : State) (port : Nat) : Nat :=
  if fld (s.pinCfg port) 0 4 ≠ 15 then port
  else if (furtherPins (port - 1) (s.pinCfg (port - 1))).contains port then port - 1 else port - 2

/-- The pin is the second of a differential pair (R112). -/
def State.pairLeg (s : State) (port : Nat) : Bool :=
  s.pinOwner port + 1 = port && bit (s.pinCfg (port - 1)) 7

/-- The other level; high impedance stays. -/
def flipDrive : Drive → Drive
  | .low => .high
  | .high => .low
  | .hiZ => .hiZ

/-- The logical level that a pin drives; the second pin of a differential pair carries the complement (R112).
Marked DEDUCED and unsafe (notes/assumptions/42.md). -/
def State.outLevel (s : State) (port : Nat) : Drive :=
  if s.pairLeg port then flipDrive (s.pin (port - 1)).drive else (s.pin port).drive

/-- The physical level of a released pin: INVERT of the first pin of the function applies to all its pins (R116, R534).
Marked DEDUCED and unsafe (notes/assumptions/42.md). -/
def State.padLevel (s : State) (port : Nat) : Drive :=
  if bit (s.pinCfg (s.pinOwner port)) 6 then flipDrive (s.outLevel port) else s.outLevel port

/-- The physical level at a timed I/O ball: high impedance in OFF (R508); what its function drives once its port is released;
before, its retained level on a hold-up pin after DORMANT, else its fuse-set idle level (R474, R476). -/
def State.ball (s : State) (port : Nat) : Drive :=
  if s.supply.off then .hiZ
  else if s.portReleased port then s.padLevel port
  else (s.boot.retained[port]?).getD (idleDrive (tabGet 0 s.fuses.idle port))

/-- A capture bank: empty where the state lists none. -/
def State.bank (s : State) (k : Nat) : Bank := tabGet ⟨[], 0, false⟩ s.banks k

/-- The state with a capture bank replaced. -/
def State.setBank (s : State) (k : Nat) (b : Bank) : State := { s with banks := tabPut s.banks k b }

/-- A generator: stopped and empty where the state lists none. -/
def State.gen (s : State) (g : Nat) : Gen := tabGet ⟨[], none, none, [], none, [], 0, none⟩ s.gens g

/-- The state with a generator replaced. -/
def State.setGen (s : State) (g : Nat) (v : Gen) : State := { s with gens := tabPut s.gens g v }

/-- A network port's state (448 to 511). -/
def State.netPort (s : State) (port : Nat) : NetPort :=
  tabGet ⟨0, none, none, none, [], [], 0, 0, 0⟩ s.net port

/-- The state with a network port replaced. -/
def State.setNet (s : State) (port : Nat) (v : NetPort) : State := { s with net := tabPut s.net port v }

/-- A tracker station's first address (R177). -/
def stationAddr (st off : Nat) : Nat := 0x3C100000 + st * 64 + off

/-- A coordinate source is named by a valid tracker station or by the Slack speed source (R113). -/
def State.srcNamed (s : State) (id : Nat) : Bool :=
  (s.regs.any fun e => 0x3C100000 ≤ e.1 && e.1 < 0x3C104000 && e.1 % 64 = 8 && bit e.2 31 && fld e.2 0 16 = id)
    || s.regF .slk 0x64 0 16 = id

/-- The latest sample of a source is this one. -/
def State.setSrc (s : State) (id : Nat) (x : Sample) : State := { s with src := tabPut s.src id x }

end Sys2Proof.Machine
end

