-- ==== Sys2Proof/Machine/Tqf.lean ====
section
/-! DEFINITION. The Timed Queue Fabric: queue table, submission, commitment, handoff and delivery, releases, ebb,
pre-emption and its pages (R81–R110). -/
namespace Sys2Proof.Machine

/-- Pool entries of the TQF (R88). -/
def poolSize : Nat := 262144

/-- The address of a word of a queue's descriptor (R81). -/
def qtabAddr (q off : Nat) : Nat := qtabBase + q * 16 + off

/-- A field of a queue's descriptor. -/
def State.qF (s : State) (q off lo n : Nat) : Nat := fld (s.rd (qtabAddr q off)) lo n

/-- PORT of a queue. -/
def State.qPort (s : State) (q : Nat) : Nat := s.qF q 0 0 9
/-- CHAN of a queue. -/
def State.qChan (s : State) (q : Nat) : Nat := s.qF q 0 9 7
/-- BOUND of a queue. -/
def State.qBound (s : State) (q : Nat) : Bool := s.qF q 0 31 1 = 1
/-- Queues that the state lists a BIND word for: only these can be bound or grouped. -/
def State.qListed (s : State) : List Nat :=
  (s.regs.filter fun e => qtabBase ≤ e.1 && e.1 < qtabBase + 0x100000 && e.1 % 16 = 0).map
    fun e => (e.1 - qtabBase) / 16
/-- Queues bound to a port. -/
def State.qBoundTo (s : State) (port : Nat) : List Nat := s.qListed.filter fun q => s.qBound q && s.qPort q = port
/-- Queues of a group (R81). -/
def State.qGroup (s : State) (g : Nat) : List Nat :=
  s.qListed.filter fun q => s.qF q 0 26 1 = 1 && s.qF q 0 20 6 = g

/-- The pool entries of a queue, with their indices. -/
def State.qEntries (s : State) (q : Nat) : Tab Entry := s.tqf.pool.filter fun e => e.2.queue = q
/-- COUNT of a queue (R81). -/
def State.qCount (s : State) (q : Nat) : Nat := (s.qEntries q).length
/-- A port has entries in the pool. -/
def State.portHolds (s : State) (port : Nat) : Bool := s.tqf.pool.any fun e => s.qPort e.2.queue = port
/-- Free pool entries (R108). -/
def State.poolFree (s : State) : Nat := poolSize - s.tqf.pool.length

/-- A queue's admission lead (R84). -/
def State.qLead (s : State) (q : Nat) : Nat :=
  let c := s.qF q 0 16 2
  s.baseLead (s.qPort q) + (if c = 0 then 0 else s.regF .tqf (0x44 + 4 * c) 0 16 * 1000)

/-- A queue's commit lock in ticks (R95). -/
def State.qLock (s : State) (q : Nat) : Nat := s.qF q 4 16 16 * 1000

/-- The commit point of an instant in a queue, I − max(L, H), as a signed instant (R95). -/
def State.commitPoint (s : State) (q i : Nat) : Int :=
  (i : Int) - max (s.qLock q) (s.handoffLead (s.qPort q))

/-- Epoch e is at or before epoch e' (R85). -/
def epochLE (e e' : Nat) : Bool := (e' + 256 - e % 256) % 256 < 128

/-- PRE_STAT.ACTIVE (R104). -/
def State.preempted (s : State) : Bool := bit (s.reg .tqs 0x48) 0

/-- The handle of a pool index (R88). -/
def State.handleOf (s : State) (i : Nat) : Nat := tabGet 0 s.tqf.gen i * 2 ^ 18 + i

/-- The pool index that a handle names, unless it is stale (R88). -/
def State.ofHandle (s : State) (h : Nat) : Option Nat :=
  let i := h % 2 ^ 18
  if (tabGet? s.tqf.pool i).isSome && tabGet 0 s.tqf.gen i = h / 2 ^ 18 then some i else none

/-- Free a pool entry: its generation counts on (R88). -/
def State.freeEntry (s : State) (i : Nat) : State :=
  { s with tqf := { s.tqf with pool := tabDel s.tqf.pool i,
                               gen := tabPut s.tqf.gen i ((tabGet 0 s.tqf.gen i + 1) % 16384) } }

/-- The first free pool index at or after a number, among n candidates, wrapping.
Marked DESIGN CHOICE and safe (notes/assumptions/36.md). -/
def freeFrom (pool : Tab Entry) (start : Nat) : Nat → Nat
  | 0 => start % poolSize
  | n + 1 => if (tabGet? pool (start % poolSize)).isNone then start % poolSize else freeFrom pool (start + 1) n

/-- The pool index an admission takes: a free one, of the device's choice.
Marked DESIGN CHOICE and safe (notes/assumptions/36.md). -/
def State.pickIndex (s : State) : Nat := freeFrom s.tqf.pool (Config.poolPick s.free) (s.tqf.pool.length + 1)

/-- The places taken in a link window (R94). -/
def State.linkPlaces (s : State) (win : Nat) : Nat :=
  (s.tqf.pool.filter fun e =>
    e.2.kind = .act && s.qPort e.2.queue < 496
      && linkWindow (e.2.inst - s.handoffLead (s.qPort e.2.queue)) = win).length

/-- The CRC of an entry (R87): over its bytes 0 to 13. -/
def entryCrc (inst : Nat) (payload : Word) (metaW : Nat) : BitVec 16 :=
  crc16 (bytesLE 8 inst ++ bytesLE 4 payload.toNat ++ bytesLE 2 metaW)

/-! ### Submission -/

/-- What a completed staging spells: instant or delay, payload and word 3. -/
structure Submission where
  inst : Nat
  payload : Word
  w3 : Word
deriving DecidableEq, Repr

/-- META of a submission. -/
def Submission.metaW (x : Submission) : Nat := fld x.w3 0 16
/-- KIND of a submission: 0 ACT, 2 RELEASE, others reserved (R86). -/
def Submission.kind (x : Submission) : Nat := fld x.w3 12 3

/-- A master's staging (R90).
Marked DEDUCED and unsafe (notes/assumptions/41.md). -/
def State.stage (s : State) (m : Master) : SubStage := tabGet ⟨none, none, none⟩ s.tqf.staging m.id

/-- A staged word if it was written to the slot.
Marked DEDUCED and unsafe (notes/assumptions/41.md). -/
def stagedFor (q : Nat) : Option (Nat × Word) → Option Word
  | some (q', w) => if q' = q then some w else none
  | none => none

/-- The submission that a master's staging and last word make for a slot, if its staging is complete (R90). -/
def SubStage.submission (st : SubStage) (q : Nat) (w3 : Word) : Option Submission :=
  match stagedFor q st.lo, stagedFor q st.hi, stagedFor q st.pay with
  | some lo, some hi, some pay => some ⟨lo.toNat + 2 ^ 32 * hi.toNat, pay, w3⟩
  | _, _, _ => none

/-- The instant at the start of the present TQF cycle (R92). -/
def State.tqfNow (s : State) : Nat := floor16 s.now

/-- Steps 12 and 13 of R92 for an instant. -/
def State.slotReason (s : State) (q i : Nat) : Reason :=
  let port := s.qPort q
  firstReason [
    (s.tqf.pool.any fun e =>
      e.2.kind = .act && s.qPort e.2.queue = port && s.sameSlot port (s.qChan q) i (s.qChan e.2.queue) e.2.inst,
     .collide),
    (port < 496 && 400 ≤ s.linkPlaces (linkWindow (i - s.handoffLead port)), .noSlot)]

/-- The outcome of the checks of R92, and of R98 for a release, on a completed staging. -/
def State.admitReason (s : State) (m : Master) (q : Nat) (x : Submission) : Reason :=
  let rel := x.kind = 2
  let now := s.tqfNow
  let lead := s.qLead q
  let own := s.qF q 4 0 8
  let limit := s.qF q 8 0 19
  let first := firstReason [
    (fld x.w3 8 3 ≠ 0 || (bit x.w3 11 && !rel), .rsvdBits),
    (x.kind ≠ 0 && !rel, .range),
    (!s.qBound q, .qUnbound),
    (own ≠ 0xFF && own ≠ m.id, .notOwner),
    (s.preempted && holdUpPort (s.qPort q), .badState),
    (s.qF q 0 18 1 = 1 && entryCrc x.inst x.payload x.metaW ≠ BitVec.ofNat 16 (fld x.w3 16 16), .e2e),
    (s.qF q 0 19 1 = 1 && !epochLE (s.qF q 4 8 8) (fld x.w3 0 8), .epoch),
    (if rel then x.inst < lead else x.inst < now + lead, .tooLate),
    (if rel then 2 ^ 33 < x.inst else now + 2 ^ 33 < x.inst, .beyondHorizon),
    ((limit ≠ 0 && limit ≤ s.qCount q) || s.poolFree = 0, .qFull)]
  if first ≠ .none then first
  else if rel then (if (s.qEntries q).any (fun e => e.2.kind = .release) then .collide else .none)
  else s.slotReason q x.inst

/-- The rejection counter of a reason (R110), if it has one. -/
def rejOff : Reason → Option Nat
  | .qFull => some 0x80 | .tooLate => some 0x84 | .beyondHorizon => some 0x88 | .collide => some 0x8C
  | .noSlot => some 0x90 | .epoch => some 0x94 | .qUnbound => some 0x98 | _ => none

/-- Count a rejection of a submission (R91, R110). -/
def State.countRej (s : State) (r : Reason) : State :=
  match rejOff r with
  | some off => s.satInc .tqs off
  | none => s

/-- Raise POOL_LOW when the free entries have fallen below THR (R108). -/
def State.poolLow (s : State) (before : Nat) : State :=
  let thr := s.regF .tqf 0x44 0 19
  if thr ≤ before && s.poolFree < thr then s.irqBit .tqf 0 else s

/-- Put an entry into the pool at an index, with LINK_PEAK and POOL_LOW following (R94, R108). -/
def State.putEntry (s : State) (i : Nat) (e : Entry) : State :=
  let s1 := { s with tqf := { s.tqf with pool := tabPut s.tqf.pool i e } }
  let port := s.qPort e.queue
  let s2 := if e.kind = .act && port < 496 then
      let n := s1.linkPlaces (linkWindow (e.inst - s.handoffLead port))
      if s1.regF .tqs 0xAC 0 9 < n then s1.setRegF .tqs 0xAC 0 9 n else s1
    else s1
  s2.poolLow s.poolFree

/-- The entry that a submission makes (R86, R87, R95). -/
def State.entryOf (s : State) (q : Nat) (x : Submission) : Entry :=
  let rel := x.kind = 2
  ⟨q, if rel then .release else .act, x.inst, x.payload, BitVec.ofNat 16 x.metaW,
    entryCrc x.inst x.payload x.metaW, s.tqfNow,
    !rel && (!bit x.w3 15 || s.commitPoint q x.inst ≤ s.tqfNow), false, false⟩

/-- A master's SUB_RES replaced. -/
def State.setSubRes (s : State) (m : Master) (r : SubRes) : State :=
  { s with tqf := { s.tqf with subRes := tabPut s.tqf.subRes m.id r } }

/-- A master's staging replaced. -/
def State.setStage (s : State) (m : Master) (st : SubStage) : State :=
  { s with tqf := { s.tqf with staging := tabPut s.tqf.staging m.id st } }

/-- The TQF's answer to a submission (R92, R95): the reason, whether the entry was committed at admission, its handle, and
the state with the entry in the pool or the rejection counted. -/
def State.admitTo (s : State) (m : Master) (q : Nat) (x : Submission) : Reason × Bool × Nat × State :=
  let r := s.admitReason m q x
  if r = .none then
    let i := s.pickIndex
    let e := s.entryOf q x
    (.none, e.committed, s.handleOf i, s.draw.putEntry i e)
  else (r, false, 0, s.countRej r)

/-- The submission that carries word 3 into slot q (R90–R92, R98): the staging empties, the outcome is in SUB_RES, and an
admitted entry is in the pool. -/
def State.submit (s : State) (m : Master) (q : Nat) (w3 : Word) : State :=
  let st := s.stage m
  let s1 := s.setStage m ⟨none, none, none⟩
  match st.submission q w3 with
  | none => s1.setSubRes m ⟨.sequence, true, false, 0⟩
  | some x =>
    let (r, c, h, s2) := s1.admitTo m q x
    s2.setSubRes m ⟨r, true, c, h⟩

/-- A write of 32 or 64 bits into a submission slot at a byte offset below 16 (R90).
Marked DEDUCED and unsafe (notes/assumptions/41.md). -/
def State.slotWrite (s : State) (m : Master) (q off : Nat) (wide : Bool) (v : Nat) : State :=
  let st := s.stage m
  let lo := wordOf v
  let hi := wordOf (v / 2 ^ 32)
  if off = 0 then s.setStage m { st with lo := some (q, lo), hi := if wide then some (q, hi) else st.hi }
  else if off = 4 then s.setStage m { st with hi := some (q, lo) }
  else if off = 8 then
    let s1 := s.setStage m { st with pay := some (q, lo) }
    if wide then s1.submit m q hi else s1
  else s.submit m q lo

/-- The value of a master's SUB_RES (R91). -/
def SubRes.value (r : SubRes) : Nat :=
  r.reason.code + (if r.valid then 2 ^ 8 else 0) + (if r.committed then 2 ^ 9 else 0) + r.handle * 2 ^ 32

/-- A master's SUB_RES. -/
def State.subRes (s : State) (m : Master) : SubRes := tabGet ⟨.none, false, false, 0⟩ s.tqf.subRes m.id

/-! ### Commitment, handoff, delivery -/

/-- Replace an entry of the pool. -/
def State.setEntry (s : State) (i : Nat) (e : Entry) : State :=
  { s with tqf := { s.tqf with pool := tabPut s.tqf.pool i e } }

/-- The entry is committed now (R95). -/
def State.entryCommitted (s : State) (e : Entry) : Bool :=
  e.committed || (e.kind = .act && s.commitPoint e.queue e.inst ≤ s.now)

/-- One record into the undelivered-entry log (R105, R106): cause 1 PREEMPT, 2 CRC, 3 LINK. -/
def State.logUndelivered (s : State) (cause queue handle inst : Nat) (handed committed : Bool) : State :=
  let rec_ := inst64 inst + handle * 2 ^ 64 + queue * 2 ^ 96 + cause * 2 ^ 112
    + (if committed then 2 ^ 116 else 0) + (if handed then 2 ^ 117 else 0)
  let (s1, ok) := s.ringLog (s.reg .tqs 0x40).toNat (s.regF .tqs 0x44 0 5) 16 rec_
  if ok then s1 else s1.irqBit .tqs 1

/-- An entry lost to its CRC or on the link (R97, R414): logged, counted, reported, and no longer at its port. -/
def State.loseEntry (s : State) (i : Nat) (e : Entry) (cause : Nat) : State :=
  let h := s.handleOf i
  let s1 := s.setEntry i { e with lost := true }
  let s2 := { s1 with box := { s1.box with waiting := s1.box.waiting.filter fun p => p.handle ≠ h || p.slack } }
  let s3 := ((s2.logUndelivered cause e.queue h e.inst e.handed (s.entryCommitted e)).satInc .tqs 0x9C).irqBit .tqs 2
  s3.raiseFault (if cause = 2 then 0x12 else 0x1B)

/-- The pool index and entry that a handle names, unless it is stale (R88). -/
def State.liveEntry (s : State) (h : Nat) : Option (Nat × Entry) :=
  match s.ofHandle h with
  | some i => (tabGet? s.tqf.pool i).map (fun e => (i, e))
  | none => none

/-- ENTRY_COMMIT: an entry whose commit point has come is committed (R95). -/
def State.entryCommit (s : State) (h : Nat) : State :=
  match s.liveEntry h with
  | some (i, e) =>
    if e.kind = .act && s.commitPoint e.queue e.inst ≤ s.now then s.setEntry i { e with committed := true } else s
  | none => s

/-- The entry as its port holds it (R96). -/
def State.portEntry (s : State) (i : Nat) (e : Entry) : PortEntry :=
  ⟨s.handleOf i, e.queue, s.qPort e.queue, s.qChan e.queue, e.inst, e.payload, 496 ≤ s.qPort e.queue, true, false, false⟩

/-- ENTRY_HANDOFF: at I − H the TQF hands a live entry to its port (R96), unless its CRC fails at the pool read (R97).
Handing off commits it, for its commit point is at or before I − H. -/
def State.entryHandoff (s : State) (h : Nat) (crcOk : Bool) : State :=
  match s.liveEntry h with
  | some (i, e) =>
    if e.kind = .act && !e.lost && !e.handed && e.inst ≤ s.now + s.handoffLead (s.qPort e.queue) then
      if crcOk then
        let s1 := s.setEntry i { e with handed := true, committed := true }
        { s1 with box := { s1.box with waiting := s1.box.waiting ++ [s.portEntry i e] } }
      else s.loseEntry i e 2
    else s
  | none => s

/-- LINK_ENTRY_RECEIVE: the field die receives a handed-off entry (R97), or it is lost on the link (R22, R414). -/
def State.linkReceive (s : State) (h : Nat) (o : LinkOutcome) : State :=
  if s.box.waiting.any fun p => p.handle = h && !p.slack && p.port < 496 && !p.received then
    match o with
    | .ok =>
      let got := s.box.waiting.map fun p =>
        if p.handle = h && !p.slack && p.port < 496 then { p with received := true } else p
      { s with box := { s.box with waiting := got } }
    | _ =>
      match s.liveEntry h with
      | some (i, e) => s.loseEntry i e (if o = .crcFail then 2 else 3)
      | none =>
        { (s.raiseFault (if o = .crcFail then 0x12 else 0x1B)) with
          box := { s.box with waiting := s.box.waiting.filter fun p => p.handle ≠ h || p.slack } }
  else s

/-- The port box after an entry's instant. -/
def PortBox.arrive (b : PortBox) (p : PortEntry) : PortBox :=
  ⟨b.waiting.filter (· ≠ p), if p.port < 448 then b.due ++ [p] else b.due⟩

/-- ENTRY_DELIVERY: at I an entry is delivered, and its pool entry, count, slot and place are freed (R96). An entry that
was lost or pre-empted, or that fails its CRC at this read, is freed without delivery (R97, R104); a handed-off entry
whose pool entry an application reset discarded is delivered by its port (R107). A network port's part ends with its
frame (R134), so only a timed I/O entry then waits for its pin's action.
Marked DESIGN CHOICE and unsafe (notes/assumptions/4.md). -/
def State.entryDelivery (s : State) (h : Nat) (crcOk : Bool) : State :=
  match s.box.waiting.find? (fun p => p.handle = h && !p.slack && p.received), s.liveEntry h with
  | some p, some (i, e) =>
    if e.inst ≤ s.now then
      if !crcOk && !e.lost then (s.loseEntry i e 2).freeEntry i
      else if e.lost then s.freeEntry i
      else
        let s1 := s.freeEntry i
        { s1 with tqf := { s1.tqf with delivered := (s1.tqf.delivered + 1) % 2 ^ 64 },
                  box := s.box.arrive p }
    else s
  | some p, none =>
    if p.inst ≤ s.now then { s with box := s.box.arrive p } else s
  | none, some (i, e) => if e.kind = .act && e.inst ≤ s.now && e.lost then s.freeEntry i else s
  | none, none => s

/-! ### Releases -/

/-- A failed firing is reported (R98).
Marked DEDUCED and unsafe (notes/assumptions/39.md). -/
def State.relErr (s : State) (q : Nat) (r : Reason) : State :=
  (s.setReg .tqs 0xB0 (wordOf (r.code + q * 2 ^ 8))).irqBit .tqs 3

/-- RELEASE_FIRE: a route fires an armed release on an event at T (R98); with none armed the firing fails with BAD_STATE
(R450).
Marked DEDUCED and unsafe (notes/assumptions/39.md). -/
def State.releaseFire (s : State) (q t : Nat) : State :=
  match (s.qEntries q).find? (fun e => e.2.kind = .release) with
  | none => s.relErr q .badState
  | some (i, e) =>
    let port := s.qPort q
    let inst := t + e.inst
    let rep := bit (wordOf e.metaW.toNat) 11
    let limit := s.qF q 8 0 19
    let now := s.tqfNow
    let r0 := firstReason [
      (s.preempted && holdUpPort port, .badState),
      (inst < now + s.qLead q, .tooLate),
      (now + 2 ^ 33 < inst, .beyondHorizon),
      (rep && ((limit ≠ 0 && limit ≤ s.qCount q) || s.poolFree = 0), .qFull)]
    let r := if r0 = .none then s.slotReason q inst else r0
    let epoch := e.metaW.toNat % 256
    let fired : Entry := ⟨q, .act, inst64 inst, e.payload, BitVec.ofNat 16 epoch, entryCrc (inst64 inst) e.payload epoch, now,
      true, false, false⟩
    if r = .none then
      if rep then s.draw.putEntry s.pickIndex fired else s.putEntry i fired
    else
      let s1 := if rep then s else s.freeEntry i
      s1.relErr q r

/-! ### Ebb -/

/-- A master's ebb staging and result. -/
def State.ebbOf (s : State) (m : Master) : EbbState :=
  tabGet ⟨none, none, none, false, false, false, 0, 0, 0, 0⟩ s.tqf.ebb m.id

/-- The state with a master's ebb staging and result replaced. -/
def State.setEbb (s : State) (m : Master) (e : EbbState) : State :=
  { s with tqf := { s.tqf with ebb := tabPut s.tqf.ebb m.id e } }

/-- The queues in an ebb's scope; for a handle, the queue of the entry it names (R100, R101). -/
def State.ebbQueues (s : State) (scope target : Nat) : List Nat :=
  if scope = 0 then
    match s.liveEntry target with
    | some (_, e) => [e.queue]
    | none => []
  else if scope = 1 then [target]
  else s.qGroup target

/-- The outcome of the checks of R100 on a command whose low word is staged when it is written in two halves. -/
def State.ebbReason (s : State) (m : Master) (staged : Bool) (cmd : Nat) : Reason :=
  let e := s.ebbOf m
  let scope := bitsN cmd 40 2
  let target := bitsN cmd 0 32
  let own := if scope = 2 then s.regF .ebb (0x800 + 4 * target) 0 8
    else match s.ebbQueues scope target with
      | q :: _ => s.qF q 4 0 8
      | [] => 0xFF
  firstReason [
    (e.cutLo.isNone || e.cutHi.isNone || !staged, .sequence),
    (bitsN cmd 43 21 ≠ 0, .rsvdBits),
    (scope = 3 || (scope = 1 && 65535 < target) || (scope = 2 && 63 < target) || (scope = 0 && bitsN cmd 42 1 = 1), .range),
    (scope = 1 && !s.qBound target, .qUnbound),
    (own ≠ 0xFF && own ≠ m.id, .notOwner),
    (e.busy, .badState)]

/-- An ebb accepted at A matches a pool entry (R101). -/
def State.ebbMatch (s : State) (scope target epoch cut a : Nat) (i : Nat) (e : Entry) : Bool :=
  let inScope := if scope = 0 then s.ofHandle target = some i else (s.ebbQueues scope target).contains e.queue
  let ep := epochLE (e.metaW.toNat % 256) epoch
  inScope && e.admitted < a &&
    (if e.kind = .release then scope = 0 || ep else a ≤ e.inst && ep && cut ≤ e.inst)

/-- A matched entry is removed (R101); inside the notice the device decides.
Marked DESIGN CHOICE and safe (notes/assumptions/37.md). -/
def State.ebbRemoves (s : State) (a : Nat) (i : Nat) (e : Entry) : Bool :=
  if e.kind = .release then true
  else
    let c := s.commitPoint e.queue e.inst
    if e.committed || c < a then false
    else if (a : Int) + 1600 ≤ c then true
    else Config.ebbNotice (s.free + i)

/-- RAISE of an ebb in one queue (R99): EPOCH_MIN to E + 1, EPOCH_CHK to 1. -/
def State.raiseEpoch (s : State) (epoch q : Nat) : State :=
  let s1 := s.wr (qtabAddr q 4) (setFld (s.rd (qtabAddr q 4)) 8 8 (epoch + 1))
  s1.wr (qtabAddr q 0) (setBit (s1.rd (qtabAddr q 0)) 19 true)

/-- An accepted ebb (R99–R101): removal is atomic at A, then RAISE, and the counts wait for the result.
Marked DEDUCED and unsafe (notes/assumptions/38.md). -/
def State.ebbApply (s : State) (m : Master) (cmd : Nat) : State :=
  let st := s.ebbOf m
  let a := s.tqfNow
  let scope := bitsN cmd 40 2
  let target := bitsN cmd 0 32
  let epoch := bitsN cmd 32 8
  let cut := (st.cutLo.getD 0).toNat + 2 ^ 32 * (st.cutHi.getD 0).toNat
  let matched := s.tqf.pool.filter fun x => s.ebbMatch scope target epoch cut a x.1 x.2
  let gone := matched.filter fun x => s.ebbRemoves a x.1 x.2
  let kept := matched.filter fun x => !s.ebbRemoves a x.1 x.2
  let queues := s.ebbQueues scope target
  let stale := scope = 0 && (s.ofHandle target).isNone
  let s1 := { (gone.foldl (fun t x => t.freeEntry x.1) s) with free := s.free + poolSize }
  let s2 := if bitsN cmd 42 1 = 1 then queues.foldl (fun t q => t.raiseEpoch epoch q) s1 else s1
  (s2.setEbb m ⟨none, none, none, true, false, stale, gone.length, kept.length,
      (minList (kept.map fun x => x.2.inst)).getD (2 ^ 64 - 1), a⟩).wrapInc .ebb 0x40

/-- EBB_RESULT_DONE: the result block of a master completes (R102).
Marked DEDUCED and unsafe (notes/assumptions/38.md). -/
def State.ebbDone (s : State) (m : Master) : State :=
  let e := s.ebbOf m
  if e.busy then
    let s1 := (s.setEbb m { e with busy := false, done := true }).irqBit .ebb 1
    if e.leaked = 0 then s1 else (s1.irqBit .ebb 0).satInc .ebb 0x44 e.leaked
  else s

/-- A word of a master's EBB_RES (R102): the block reads 0 but for DONE until it is complete. -/
def State.ebbRes (s : State) (m : Master) (off : Nat) : Word :=
  let e := s.ebbOf m
  if !e.done then 0
  else if off = 0x20 then wordOf (2 ^ 8 + if e.stale then 2 ^ 9 else 0)
  else if off = 0x24 then wordOf e.removed
  else if off = 0x28 then wordOf e.leaked
  else if off = 0x30 then wordOf e.earliest
  else if off = 0x34 then wordOf (e.earliest / 2 ^ 32)
  else if off = 0x38 then wordOf e.accepted
  else if off = 0x3C then wordOf (e.accepted / 2 ^ 32)
  else 0

/-- A write to EBB_CUT or EBB_CMD (R99, R100): its reason, and the state when it is accepted. -/
def State.ebbWrite (s : State) (m : Master) (off : Nat) (wide : Bool) (v : Nat) : Reason × State :=
  let e := s.ebbOf m
  let lo := wordOf v
  let hi := wordOf (v / 2 ^ 32)
  if off = 0x10 then (.none, s.setEbb m { e with cutLo := some lo, cutHi := if wide then some hi else e.cutHi })
  else if off = 0x14 then (.none, s.setEbb m { e with cutHi := some lo })
  else if off = 0x18 && !wide then (.none, s.setEbb m { e with cmdLo := some lo })
  else
    let staged := wide || e.cmdLo.isSome
    let cmd := if wide then v else (e.cmdLo.getD 0).toNat + 2 ^ 32 * lo.toNat
    let r := s.ebbReason m staged cmd
    (r, if r = .none then s.ebbApply m cmd else s)

/-! ### Pre-emption -/

/-- Entries sorted by instant. -/
def insertByInst (x : Nat × Entry) : Tab Entry → Tab Entry
  | [] => [x]
  | y :: ys => if x.2.inst ≤ y.2.inst then x :: y :: ys else y :: insertByInst x ys

/-- PREEMPTION: at P Breakwater takes the hold-up ports (R104–R106). -/
def State.preempt (s : State) (p : Nat) : State :=
  if s.preempted then s
  else
    let hit := (s.tqf.pool.filter fun x =>
      x.2.kind = .act && !x.2.lost && p ≤ x.2.inst && holdUpPort (s.qPort x.2.queue)).foldr insertByInst []
    let base := (s.reg .tqs 0x40).toNat
    let s1 := (((s.setReg .tqs 0x48 1).setReg .tqs 0x4C (wordOf p)).setReg .tqs 0x50 (wordOf (p / 2 ^ 32))).irqBit .tqs 0
    let s2 := if 0x20000000 ≤ base && base + 16 ≤ 0x20800000 then s1.setMem (base + 8) 8 p else s1
    let s3 := hit.foldl (fun t x =>
        let e := x.2
        let t1 := t.logUndelivered 1 e.queue (s.handleOf x.1) e.inst e.handed
          (e.committed || s.commitPoint e.queue e.inst ≤ p)
        let t2 := t1.setEntry x.1 { e with lost := true }
        t2.wr (qtabAddr e.queue 12) (setFld (t2.rd (qtabAddr e.queue 12)) 19 13
          (min (t2.qF e.queue 12 19 13 + 1) 8191)))
      s2
    let s4 := s3.satInc .tqs 0x54 hit.length
    let left := s4.box.waiting.filter fun x => x.slack || x.inst < p || !holdUpPort x.port
    { s4 with box := { s4.box with waiting := left } }

/-! ### Pages and the queue table -/

/-- The queue table's checks of a BIND word from step 13 on (R83). -/
def chkBind (s : State) (q : Nat) (v : Word) : List (Bool × Reason) :=
  let port := fld v 0 9
  let chan := fld v 9 7
  let bound := bit v 31
  let old := s.rd (qtabAddr q 0)
  [ (fld v 27 4 ≠ 0, .rsvdBits),
    (bound && s.fuses.portFitted port && !s.chanOk port chan, .range),
    (!s.fuses.portFitted port, .absent),
    (s.qCount q ≠ 0 && (fld v 0 18 ≠ fld old 0 18 || bound ≠ bit old 31), .badState),
    (bound && (s.qBoundTo port).any (fun q' => q' ≠ q && s.qChan q' = chan), .badState),
    (bound && 128 ≤ ((s.qBoundTo port).filter (· ≠ q)).length, .badState),
    (bit v 26 && 4096 ≤ ((s.qGroup (fld v 20 6)).filter (· ≠ q)).length, .badState)]

/-- An owner field's range and fitting (R61, R83). -/
def chkOwner (f : Fuses) (o : Nat) : List (Bool × Reason) :=
  [(o ≠ 0xFF && !masterIdListed o, .range), (o ≠ 0xFF && !f.masterFitted o, .absent)]

/-- The checks of a write to one word of the queue table (R82, R83), from the owner check on. -/
def chkQtab (s : State) (m : Master) (q off : Nat) (v : Word) : List (Bool × Reason) :=
  [(m ≠ .headland && m ≠ .host && m ≠ .debug, .notOwner), (off = 12, .readOnly)]
    ++ (if off = 0 then chkBind s q v
        else if off = 4 then chkOwner s.fuses (fld v 0 8)
        else [(fld v 19 13 ≠ 0, .rsvdBits)])

/-- Apply a write to one word of the queue table (R81): binding starts PRE_CNT anew.
Marked DEDUCED and unsafe (notes/assumptions/40.md). -/
def State.qtabStore (s : State) (q off : Nat) (v : Word) : State :=
  let s1 := s.wr (qtabAddr q off) v
  if off = 0 && bit v 31 && !s.qBound q then s1.wr (qtabAddr q 12) 0 else s1

/-- Record a rejected queue-table write in QT_ERR (R82, R108). -/
def State.qtErr (s : State) (m : Master) (q : Nat) (r : Reason) : State :=
  let e := s.reg .tqf 0x54
  let s1 := if fld e 0 8 = 0 then s.setReg .tqf 0x54 (wordOf (r.code + q * 2 ^ 8 + m.id * 2 ^ 24))
    else s.setReg .tqf 0x54 (setBit e 31 true)
  s1.irqBit .tqf 1

/-- A live word of the queue table: COUNT is counted from the pool. -/
def State.qtabRead (s : State) (a : Nat) : Word :=
  if a % 16 = 12 then setFld (s.rd a) 0 19 (s.qCount ((a - qtabBase) / 16)) else s.rd a

/-- A word of the pool view (R89): a free entry reads 0. -/
def State.poolView (s : State) (i off : Nat) : Word :=
  match tabGet? s.tqf.pool i with
  | none => 0
  | some e =>
    if off = 0 then wordOf e.inst else if off = 4 then wordOf (e.inst / 2 ^ 32) else if off = 8 then e.payload
    else wordOf (e.metaW.toNat + e.crc.toNat * 2 ^ 16)

/-- The checks of the TQF control page (R108). -/
def chkTqf (_ : State) (w : Wr) : Chk := { range := w.hits 0x44 && poolSize < w.fld 0x44 0 19 }

/-- The effects of a TQF control page write: QT_ERR_CLR. -/
def effTqf (s : State) (w : Wr) : State :=
  if w.hits 0x58 && bit (w.word 0x58) 0 then s.setReg .tqf 0x54 0 else s

/-- The checks of the ebb page: GROUP_OWNER as a queue's OWNER (R109). -/
def chkEbb (s : State) (w : Wr) : Chk :=
  let bad (k : Nat) := w.offs.any fun off => 0x800 ≤ off && off < 0x900 && ((chkOwner s.fuses (w.fld off 0 8)).getD k (false, .none)).1
  { range := bad 0, absent := bad 1 }

/-- The checks of the pre-emption and statistics page (R110). -/
def chkTqs (s : State) (w : Wr) : Chk :=
  { range := (w.hits 0x40 || w.hits 0x44) &&
      (!logSizeOk (fld (s.after w 0x44) 0 5) || !logSpanOk (s.after w 0x40).toNat (fld (s.after w 0x44) 0 5) 16),
    state := (w.hits 0x40 || w.hits 0x44) && s.preempted }

/-- Start a ring log anew at a base: WR and LOST read 0 (R110). -/
def State.logAnew (s : State) (base : Nat) : State := (s.setMem base 4 0).setMem (base + 4) 4 0

/-- The effects of a statistics page write: the log starts anew, STAT_CLR (R110). -/
def effTqs (s : State) (w : Wr) : State :=
  let s1 := if w.hits 0x40 || w.hits 0x44 then s.logAnew (s.reg .tqs 0x40).toNat else s
  if w.hits 0xA8 && bit (w.word 0xA8) 0 then
    { ((s1.clearRegs (Page.base .tqs + 0x80) (Page.base .tqs + 0xA8)).setReg .tqs 0xAC 0) with
      tqf := { s1.tqf with delivered := 0 } }
  else s1

/-! ### The commands -/

/-- EBB_RESULT_DONE. -/
def execEbbResultDone (m : Master) (s : State) : Host.Outcome State Fault Refusal := .next (s.ebbDone m)

/-- ENTRY_COMMIT. -/
def execEntryCommit (h : Nat) (s : State) : Host.Outcome State Fault Refusal := .next (s.entryCommit h)

/-- ENTRY_HANDOFF. -/
def execEntryHandoff (h : Nat) (crcOk : Bool) (s : State) : Host.Outcome State Fault Refusal :=
  .next (s.entryHandoff h crcOk)

/-- LINK_ENTRY_RECEIVE. -/
def execLinkEntryReceive (h : Nat) (o : LinkOutcome) (s : State) : Host.Outcome State Fault Refusal :=
  .next (s.linkReceive h o)

/-- ENTRY_DELIVERY. -/
def execEntryDelivery (h : Nat) (crcOk : Bool) (s : State) : Host.Outcome State Fault Refusal :=
  .next (s.entryDelivery h crcOk)

end Sys2Proof.Machine
end

