-- ==== Sys2Proof/Machine/Tio.lean ====
section
/-! DEFINITION. Timed I/O: pin functions and their entries, capture, encoders, the line-trigger generators with their
logs, and the timed I/O pages (R111–R132, R534). -/
namespace Sys2Proof.Machine

/-- The page of a timed I/O pin. -/
def pinPage (port : Nat) : Page := .tio (port / 32)
/-- A word's offset in a pin record (R129). -/
def pinOff (port r : Nat) : Nat := 0x800 + port % 32 * 0x40 + r
/-- A word of a pin record. -/
def State.pinWord (s : State) (port r : Nat) : Word := s.reg (pinPage port) (pinOff port r)

/-- A queue is bound to a port. -/
def State.portBound (s : State) (port : Nat) : Bool := !(s.qBoundTo port).isEmpty

/-- GEN_CFG of a generator. -/
def State.genCfg (s : State) (g : Nat) : Word := s.reg .tioc (0x800 + g * 0x40)
/-- RUN of a generator. -/
def State.genRun (s : State) (g : Nat) : Bool := bit (s.genCfg g) 31

/-- A pin is the PORT of a running generator (R113). -/
def State.genUses (s : State) (port : Nat) : Bool :=
  (List.range 16).any fun g => s.genRun g && fld (s.genCfg g) 16 9 = port

/-- A pin, or one its function occupies, is in use, so that its words are refused (R113).
Marked DEDUCED and unsafe (notes/assumptions/43.md). -/
def State.pinInUse (s : State) (port : Nat) : Bool :=
  (port :: furtherPins port (s.pinCfg port)).any (fun p => s.portBound p || s.genUses p)
    || (s.pinFunc port = 6 && s.srcNamed (0x2000 + port)) || (s.pinFunc port = 7 && s.srcNamed (0x3000 + port))

/-- The word of a pin record is PIN_CFG, a PARAM or an OFFSET word of a pin that reads PAIRED (R112). -/
def State.pairedWord (s : State) (k off : Nat) : Bool :=
  0x800 ≤ off && (off - 0x800) % 0x40 ≤ 0x1C && s.pinFunc (32 * k + (off - 0x800) / 0x40) = 15

/-- The defined bits of PARAM i under a function (R130); 0 where the word is reserved. -/
def paramMask (f i : Nat) : Nat :=
  if f = 4 then (if i = 0 then 0xFFFF else if i = 1 then 0xFFFFFF else 0)
  else if f = 6 then (if i = 0 then 0xFFFFFFFF else 0)
  else if f = 7 then
    (if i = 0 then 0xFF else if i = 1 then 0xFF1FFF else if i = 2 || i = 3 then 0xFFFFFFFF else 0)
  else 0

/-- Reserved bits of a timed I/O page write that the register table cannot tell: PARAM words by function (R130). -/
def rsvdTio (s : State) (k : Nat) (w : Wr) : Bool :=
  w.offs.any fun off =>
    let r := (off - 0x800) % 0x40
    0x800 ≤ off && !s.pairedWord k off && 4 ≤ r && r ≤ 0x14 &&
      (let mask := paramMask (s.pinFunc (32 * k + (off - 0x800) / 0x40)) ((r - 4) / 4)
       mask = 0 || (w.word off &&& ~~~(wordOf mask)) ≠ 0)

/-- PIN_CFG's range checks (R111, R112, R121, R129). -/
def pinCfgRange (port : Nat) (v : Word) : Bool :=
  let f := fld v 0 4
  8 < f || fld v 4 2 = 3
    || ((f = 4 || f = 6) && port % 2 = 1) || (f = 7 && 30 ≤ port % 32)
    || ((f = 5) != (fld v 8 2 ≠ 0))
    || (bit v 7 && (port % 2 = 1 || f = 4 || f = 6 || f = 7))

/-- PARAM range checks (R123, R130): under SSI, each word is judged on the three words as they would stand. -/
def State.paramRange (s : State) (w : Wr) (port i : Nat) : Bool :=
  let f := s.pinFunc port
  let v := (w.word (pinOff port (4 + 4 * i))).toNat
  if f = 4 then i = 0 && (v < 40 || 65535 < v)
  else if f = 6 then v = 0
  else if f = 7 then
    let p0 := s.after w (pinOff port 4)
    let p1 := s.after w (pinOff port 8)
    let per := (s.after w (pinOff port 12)).toNat
    let bits := fld p0 0 6
    let half := fld p1 0 13
    (i = 0 && (bits < 8 || 32 < bits)) || (i = 1 && (half < 50 || 5000 < half)) || (i = 3 && v = 0)
      || (i ≤ 2 && per ≠ 0 && (per < 8000 || per < 8 * (bits + 1) * 2 * half + 8000 * fld p1 16 8))
  else false

/-- A non-zero SSI PERIOD is refused while BITS or HALF lies outside its range (R123). -/
def State.periodState (s : State) (w : Wr) (port : Nat) : Bool :=
  let bits := fld (s.after w (pinOff port 4)) 0 6
  let half := fld (s.after w (pinOff port 8)) 0 13
  s.pinFunc port = 7 && (s.after w (pinOff port 12)).toNat ≠ 0 && (bits < 8 || 32 < bits || half < 50 || 5000 < half)

/-- The checks of a timed I/O bank page (R112, R113, R123, R129, R133).
Marked DEDUCED and unsafe (notes/assumptions/43.md). -/
def chkTio (s : State) (k : Nat) (w : Wr) : Chk :=
  let one (off : Nat) : Chk :=
    if off = 0x44 then { range := w.fld off 0 2 = 3 || w.fld off 2 2 = 3 }
    else if off < 0x800 then {}
    else
      let port := 32 * k + (off - 0x800) / 0x40
      let r := (off - 0x800) % 0x40
      if s.pairedWord k off then { state := true }
      else if r = 0 then
        let v := s.after w off
        { range := pinCfgRange port v,
          state := s.pinInUse port || (furtherPins port v).any fun p =>
            s.pinFunc p ≠ 0 || bit (s.pinCfg p) 7 || s.portBound p }
      else if r ≤ 0x14 then
        let i := (r - 4) / 4
        { range := s.paramRange w port i, state := s.pinInUse port || (i = 2 && s.periodState w port) }
      else if r ≤ 0x1C then { state := s.pinInUse port }
      else {}
  { range := w.offs.any fun o => (one o).range,
    state := (w.offs.any fun o => (one o).state) || (k = 0 && s.preempted) }

/-- The physical drive of a pin after a write selects a function (R534): step and direction pins at logical 0, inputs in
high impedance, an SSI triple's clock high and strobe low, the others at IDLE. -/
def State.selectDrive (s : State) (f j port : Nat) : Drive :=
  if f = 4 then .low
  else if f = 5 || f = 6 then .hiZ
  else if f = 7 then (if j = 0 then .high else if j = 1 then .hiZ else .low)
  else s.pinIdle port

/-- A pin starts anew with a drive; its physical input level is the environment's and stays. A QUAD decoder starts from the
levels of its two inputs.
Marked DEDUCED and unsafe (notes/assumptions/44.md). -/
def State.freshPin (s : State) (port : Nat) (d : Drive) : State :=
  let p := pinFresh d (s.pin port).input
  s.setPin port (if s.pinFunc port = 6 then { p with quadA := p.input, quadB := (s.pin (port + 1)).input } else p)

/-- The effect of an accepted PIN_CFG write (R112, R534): pins that the old function held go back to OFF, pins the new
one holds read PAIRED, and every pin concerned takes the levels of R534. -/
def State.pinConfigured (s : State) (port : Nat) (old : Word) : State :=
  let new := s.pinCfg port
  let f := fld new 0 4
  let freed := (furtherPins port old).filter fun p => !(furtherPins port new).contains p
  let s1 := freed.foldl (fun t p =>
      let t1 := t.setRegF (pinPage p) (pinOff p 0) 0 4 0
      t1.freshPin p (t1.pinIdle p)) s
  let further := furtherPins port new
  let s2 := further.foldl (fun t p => t.setRegF (pinPage p) (pinOff p 0) 0 4 15) s1
  let pins := port :: further
  let drive (j p : Nat) := if j = 1 && bit new 7 then s2.selectDrive f 0 port else s2.selectDrive f j p
  if f ≠ fld old 0 4 then
    (pins.zip (List.range pins.length)).foldl (fun t jp => t.freshPin jp.1 (drive jp.2 jp.1)) s2
  else if f = 0 then s2.freshPin port (s2.pinIdle port)
  else if (f ≤ 3 || f = 8) && !(s2.pin port).acted then s2.setPin port { s2.pin port with drive := s2.pinIdle port }
  else s2

/-- The effects of a bank page write beyond storing: PIN_CFG selects functions, BANK_CLR clears (R129). `s0` is the state
before the write. -/
def effTio (s0 : State) (k : Nat) (w : Wr) (s : State) : State :=
  let s1 := w.offs.foldl (fun t off =>
      if 0x800 ≤ off && (off - 0x800) % 0x40 = 0 then
        t.pinConfigured (32 * k + (off - 0x800) / 0x40) (s0.reg w.p off)
      else t) s
  if w.hits 0x5C then
    let s2 := if bit (w.word 0x5C) 0 then (s1.setRegF w.p 0x54 16 16 0).setReg w.p 0x58 0 else s1
    if bit (w.word 0x5C) 1 then s2.setBank k { s2.bank k with buf := [] } else s2
  else s1

/-! ### Entries at their instant -/

/-- Take the first delivered entry of a port and channel from the port's box. -/
def State.takeDue (s : State) (port : Nat) (chan : Nat) : Option (PortEntry × State) :=
  match s.box.due.find? fun e => e.port = port && e.chan = chan && e.inst ≤ s.now with
  | some e => some (e, { s with box := { s.box with due := s.box.due.erase e } })
  | none => none

/-- An entry whose payload is undefined for the pin's function: no action, counted and reported (R115). -/
def State.badPayload (s : State) (port : Nat) : State :=
  ((s.satInc (pinPage port) 0x58).setReg (pinPage port) (pinOff port 0x24) (setBit (s.pinWord port 0x24) 0 true)).irqBit
    (pinPage port) 2

/-- Drive a pin. -/
def State.drivePin (s : State) (port : Nat) (d : Drive) : State := s.setPin port { s.pin port with drive := d, acted := true }

/-- The drive of a logical level.
Marked DEDUCED and unsafe (notes/assumptions/42.md). -/
def levelDrive (b : Bool) : Drive := if b then .high else .low

/-- A LEVEL entry (R116); toggling a pin in high impedance, whose OUT reads 0, drives 1. -/
def State.levelAction (s : State) (port : Nat) (payload : Word) : State :=
  let a := payload.toNat
  if a = 0 then s.drivePin port .low
  else if a = 1 then s.drivePin port .high
  else if a = 2 then s.drivePin port (if (s.pin port).drive = .high then .low else .high)
  else if a = 3 then s.drivePin port (s.pinIdle port)
  else s.badPayload port

/-- A pulse of a level and width at an instant (R117): one of the running level is extended, one of the other level
switches, and the level to return to stays that before the first pulse. -/
def State.pulseAt (s : State) (port : Nat) (level : Bool) (i width : Nat) : State :=
  let p := s.pin port
  match p.pulse with
  | some q => s.setPin port { p with drive := levelDrive level, acted := true, pulse := some ⟨level, i + width, q.back⟩ }
  | none => s.setPin port { p with drive := levelDrive level, acted := true, pulse := some ⟨level, i + width, p.drive⟩ }

/-- A PULSE entry (R117). -/
def State.pulseStart (s : State) (port i : Nat) (payload : Word) : State :=
  let width := fld payload 0 31
  if width < 16 then s.badPayload port else s.pulseAt port (bit payload 31) i width

/-- The end of a running pulse, once its end instant has come (R117).
Marked DESIGN CHOICE and unsafe (notes/assumptions/4.md). -/
def State.pulseEnd (s : State) (port : Nat) : State :=
  let p := s.pin port
  match p.pulse with
  | some q => if q.ends ≤ s.now then s.setPin port { p with drive := q.back, pulse := none } else s
  | none => s

/-- The first moments of a PWM period at an instant: preloads copied, the active level driven unless duty is 0 (R118). -/
def State.pwmPeriod (s : State) (port i : Nat) : State :=
  let p := s.pin port
  let on := p.pwm.preDuty ≠ 0
  s.setPin port { p with drive := levelDrive on, acted := true,
                         pwm := { p.pwm with run := true, period := p.pwm.prePeriod, duty := p.pwm.preDuty, start := i, active := on } }

/-- A PWM entry on channel 0 (duty), 1 (period) or 2 (run) (R118). -/
def State.pwmEntry (s : State) (port chan i : Nat) (payload : Word) : State :=
  let p := s.pin port
  let v := fld payload 0 28
  if chan = 0 then
    if fld payload 28 4 ≠ 0 then s.badPayload port else s.setPin port { p with pwm := { p.pwm with preDuty := v } }
  else if chan = 1 then
    if fld payload 28 4 ≠ 0 || v < 160 then s.badPayload port
    else s.setPin port { p with pwm := { p.pwm with prePeriod := v } }
  else if 1 < payload.toNat then s.badPayload port
  else if payload.toNat = 1 then
    if p.pwm.run then s
    else if p.pwm.prePeriod < 160 then s.badPayload port
    else s.pwmPeriod port i
  else s.setPin port { p with drive := s.pinIdle port, pwm := { p.pwm with run := false, active := false } }

/-- The next period of a running PWM output begins (R118). -/
def State.pwmPeriodStart (s : State) (port : Nat) : State :=
  let p := s.pin port
  if p.pwm.run && p.pwm.start + p.pwm.period ≤ s.now then s.pwmPeriod port (p.pwm.start + p.pwm.period) else s

/-- The live duty of a running PWM period elapses (R118). -/
def State.pwmDutyEnd (s : State) (port : Nat) : State :=
  let p := s.pin port
  if p.pwm.run && p.pwm.active && p.pwm.duty < p.pwm.period && p.pwm.start + p.pwm.duty ≤ s.now then
    s.setPin port { p with drive := .low, pwm := { p.pwm with active := false } }
  else s

/-- A STEPDIR entry (R119): the old segment ends, the direction pin changes if it must, and the new segment's first step
follows the direction's set-up time and any running step. -/
def State.stepSegment (s : State) (port i : Nat) (payload : Word) : State :=
  let p := s.pin port
  let interval := fld payload 0 31
  let dir := bit payload 31
  let width := fld (s.pinWord port 4) 0 16
  if interval ≠ 0 && (width < 40 || interval < 32 * width) then s.badPayload port
  else
    let first0 := if dir ≠ p.dir then i + fld (s.pinWord port 8) 0 24 else i
    let first := match p.stepEnd with | some e => max first0 e | none => first0
    let s1 := s.setPin port { p with dir := dir, seg := if interval = 0 then none else some ⟨dir, interval, first, 0⟩ }
    if dir ≠ p.dir then s1.drivePin (port + 1) (levelDrive dir) else s1

/-- The instant of a segment's next step: the floor tick of its exact time (R119). -/
def StepSeg.nextStep (g : StepSeg) : Nat := g.first + g.made * g.interval / 16

/-- A step pulse falls due (R119). -/
def State.stepEdge (s : State) (port : Nat) : State :=
  let p := s.pin port
  match p.seg with
  | some g =>
    if g.nextStep ≤ s.now then
      s.setPin port { p with drive := .high, seg := some { g with made := g.made + 1 },
                             stepEnd := some (g.nextStep + fld (s.pinWord port 4) 0 16),
                             cnt := p.cnt + (if g.dir then -1 else 1) }
    else s
  | none => s

/-- A step pulse ends (R119). -/
def State.stepPulseEnd (s : State) (port : Nat) : State :=
  let p := s.pin port
  match p.stepEnd with
  | some e => if e ≤ s.now then s.setPin port { p with drive := .low, stepEnd := none } else s
  | none => s

/-! ### Inputs -/

/-- An edge accepted on a CAPTURE pin (R121): `level` is the logical level after it and `i` its stamp. An edge that
EDGE does not select is not captured. -/
def State.captureEdge (s : State) (port : Nat) (level : Bool) (i : Nat) : State :=
  let k := port / 32
  let s0 := s.setPin port { s.pin port with input := level != bit (s.pinCfg port) 6 }
  if s.pinFunc port = 5 && bit (s.pinCfg port) (if level then 8 else 9) then
    let b := s0.bank k
    let s1 := s0.setPin port { s0.pin port with cnt := (s0.pin port).cnt + 1 }
    if 256 ≤ b.buf.length then
      ((s1.setBank k { b with seq := (b.seq + 1) % 65536, dropped := true }).satIncF (.tio k) 0x54 16 16).irqBit (.tio k) 1
    else
      (s1.setBank k ⟨b.buf ++ [⟨i, port % 32, level, b.dropped, b.seq⟩], (b.seq + 1) % 65536, false⟩).irqBit (.tio k) 0
  else s0

/-- CAP_INFO of a record (R129). -/
def Capture.info (c : Capture) : Word :=
  wordOf (c.pin + (if c.level then 2 ^ 5 else 0) + 2 ^ 6 + (if c.ovf then 2 ^ 7 else 0) + c.seq * 2 ^ 16)

/-- The coordinate of an encoder count (R122, R123): OFFSET + floor(COUNT × SCALE / 65,536). -/
def State.encCoord (s : State) (port : Nat) (scale : Nat) (count : Int) : Int :=
  sgn 64 (uns 64 (sgn64 (s.reg64 (pinPage port) (pinOff port 0x18)) + count * scale / 65536))

/-- The phase number of A and B in the order of a rising count, A leading B.
Marked DEDUCED and unsafe (notes/assumptions/44.md). -/
def quadPhase (a b : Bool) : Int := if !a && !b then 0 else if a && !b then 1 else if a && b then 2 else 3

/-- An A (`isB` false) or B edge on the QUAD pair of an even pin, to a level, at an instant (R122).
Marked DEDUCED and unsafe (notes/assumptions/44.md). -/
def State.quadEdge (s : State) (port : Nat) (isB level : Bool) (i : Nat) : State :=
  if s.pinFunc port = 6 then
    let s1 := if isB then s.setPin (port + 1) { s.pin (port + 1) with input := level }
      else s.setPin port { s.pin port with input := level }
    let p := s1.pin port
    let other := if isB then p.lastA else p.lastB
    let p1 := if isB then { p with lastB := some i } else { p with lastA := some i }
    if other.any fun t => i - t < 80 then
      ((s1.setPin port p1).setReg (pinPage port) (pinOff port 0x24) (setBit (s.pinWord port 0x24) 1 true)).irqBit
        (pinPage port) 3
    else
      let a := p.input
      let b := (s1.pin (port + 1)).input
      let d := (quadPhase a b - quadPhase p.quadA p.quadB) % 4
      let step : Int := if d = 1 then 1 else if d = 3 then -1 else 0
      let step := if bit (s.pinCfg port) 6 then -step else step
      if d = 2 then s1.setPin port p1
      else s1.setPin port { p1 with cnt := sgn 64 (uns 64 (p.cnt + step)), quadA := a, quadB := b }
  else s

/-- Record a source sample of a pin (R29): in the pin, and as the source's latest. -/
def State.pinSample (s : State) (port id : Nat) (x : Sample) : State :=
  (s.setPin port { s.pin port with sample := x, srcOk := true }).setSrc (id + port) x

/-- At a whole-µs instant a QUAD source yields a sample (R29, R122). -/
def State.quadSample (s : State) (port i : Nat) : State :=
  if s.pinFunc port = 6 && i % 8000 = 0 && i ≤ s.now then
    s.pinSample port 0x2000 ⟨i, s.encCoord port (s.pinWord port 4).toNat (s.pin port).cnt⟩
  else s

/-- An SSI read starts at a multiple of PERIOD (R123). The latch falls within its first clock period, at an instant that
the spec does not give.
Marked DESIGN CHOICE and safe (notes/assumptions/45.md). -/
def State.ssiRead (s : State) (port i : Nat) : State :=
  let per := (s.pinWord port 12).toNat
  if s.pinFunc port = 7 && per ≠ 0 && i % per = 0 && i ≤ s.now && (s.pin port).ssiLatch.isNone then
    let latch := i + Config.freeNat s.free % (16 * fld (s.pinWord port 8) 0 13 + 1)
    (s.draw.setPin port { s.pin port with ssiLatch := some latch }).drivePin (port + 2) .high
  else s

/-- Gray code of `n` bits decoded: bit k is the parity of the bits at and above k. -/
def grayDecode (n v : Nat) : Nat :=
  (List.range n).foldl (fun a k => a ^^^ (v / 2 ^ k)) 0 % 2 ^ n

/-- An SSI read completes with a raw value (R123); `parityOk` says what the encoder's parity bit said and `parityBit` its
level.
Marked DEDUCED and unsafe (notes/assumptions/44.md). -/
def State.ssiReadDone (s : State) (port raw : Nat) (parityBit parityOk : Bool) : State :=
  let p := s.pin port
  match p.ssiLatch with
  | some i =>
    let cfg := s.pinWord port 4
    let bits := fld cfg 0 6
    let v := raw % 2 ^ bits
    let s1 := (s.setPin port { p with ssiLatch := none }).drivePin (port + 2) .low
    if (bit cfg 7 && !parityOk) || (v = 2 ^ bits - 1 && (!bit cfg 7 || parityBit)) then
      let s2 := s1.setPin port { s1.pin port with srcOk := false }
      (s2.setReg (pinPage port) (pinOff port 0x24) (setBit (s.pinWord port 0x24) 2 true)).irqBit (pinPage port) 4
    else
      let x := if bit cfg 6 then grayDecode bits v else v
      let d := (x + 2 ^ bits - p.ssiRaw.getD 0) % 2 ^ bits
      let step : Int := if d ≤ 2 ^ (bits - 1) then d else (d : Int) - 2 ^ bits
      let cnt := sgn 64 (uns 64 (p.cnt + step))
      let s2 := s1.setPin port { s1.pin port with cnt := cnt, ssiRaw := some x }
      s2.pinSample port 0x3000 ⟨i, s.encCoord port (s.pinWord port 16).toNat cnt⟩
  | none => s

/-! ### Line-trigger generators -/

/-- A generator register. -/
def State.genWord (s : State) (g r : Nat) : Word := s.reg .tioc (0x800 + g * 0x40 + r)
/-- SOURCE of a generator. -/
def State.genSrc (s : State) (g : Nat) : Nat := fld (s.genCfg g) 0 16
/-- SPAN of a generator. -/
def State.genSpan (s : State) (g : Nat) : Nat := fld (s.genCfg g) 25 6
/-- PORT of a generator. -/
def State.genPort (s : State) (g : Nat) : Nat := fld (s.genCfg g) 16 9
/-- PITCH of a generator. -/
def State.genPitch (s : State) (g : Nat) : Nat := max 1 (s.genWord g 4).toNat
/-- START of a generator. -/
def State.genStart (s : State) (g : Nat) : Int := sgn64 (s.reg64 .tioc (0x808 + g * 0x40))

/-- The least START + n × PITCH above a coordinate (R125). -/
def firstTarget (start : Int) (pitch : Nat) (c : Int) : Int :=
  if c < start then start else start + ((c - start) / pitch + 1) * pitch

/-- The checks of the timed I/O common page (R125, R127, R132). -/
def chkTioc (s : State) (w : Wr) : Chk :=
  let one (off : Nat) : Chk :=
    if off < 0x800 then {}
    else
      let g := (off - 0x800) / 0x40
      let r := (off - 0x800) % 0x40
      let old := s.genCfg g
      let run := bit old 31
      if r = 0 then
        let v := w.word off
        let src := fld v 0 16
        let port := fld v 16 9
        let starts := bit v 31
        let judged := src ≠ fld old 0 16 || (starts && !run)
        { range := 447 < port || fld v 25 6 = 0 || (judged && !srcRangeOk src),
          absent := (judged && srcAbsent s.fuses src) || (starts && !s.fuses.portFitted port),
          state := (judged && src ≠ 0 && s.srcBadState src)
            || (starts && (src = 0 || s.pinFunc port ≠ 8
                || (List.range 16).any (fun h => h ≠ g && s.genRun h && s.genPort h = port)))
            || (run && starts && (fld v 0 16 ≠ fld old 0 16 || port ≠ fld old 16 9 || fld v 25 6 ≠ fld old 25 6)) }
      else if r = 4 then { range := w.word off = 0, state := run }
      else if r = 8 || r = 12 || r = 16 then { state := run }
      else if r = 0x14 then { range := w.fld off 0 16 < 16 }
      else {}
  { range := w.offs.any fun o => (one o).range,
    absent := w.offs.any fun o => (one o).absent,
    state := w.offs.any fun o => (one o).state }

/-- Setting RUN starts a generator (R125, R127): its log clears, its line numbers start anew, and its first target is set
from the source's latest sample, if it has one. -/
def State.genBegin (s : State) (g : Nat) : State :=
  let t := (tabGet? s.src (s.genSrc g)).map fun x => firstTarget (s.genStart g) (s.genPitch g) x.coord
  let s1 := s.setGen g ⟨[], t, none, [], none, [], s.now, (tabGet? s.src (s.genSrc g)).map Sample.inst⟩
  ((s1.setReg .tioc (0x81C + g * 0x40) (s.genWord g 0x10)).setReg .tioc (0x820 + g * 0x40) 0).setReg .tioc
    (0x818 + g * 0x40) (if t.isSome then 1 else 0)

/-- Clearing RUN stops a generator: every edge not yet begun is cancelled, the log stays (R127). -/
def State.genEnd (s : State) (g : Nat) : State :=
  (s.setGen g ⟨[], none, none, [], none, (s.gen g).log, 0, none⟩).setReg .tioc (0x818 + g * 0x40) 0

/-- Skip n targets (R126). -/
def State.genSkip (s : State) (g n : Nat) : State :=
  if n = 0 then s else (s.satInc .tioc (0x820 + g * 0x40) n).irqBit .tioc (16 + g)

/-- Fix or plan the edges that the latest sample gives, target by target (R126): an edge less than 24,000 ticks after
the sample is fixed, or skipped when it would fall less than MIN_PERIOD after the one before.
Marked DEDUCED and unsafe (notes/assumptions/46.md). -/
def State.genPlan (s : State) (g : Nat) (x : Sample) (v a : Frac) : Nat → State
  | 0 => s
  | n + 1 =>
    let gn := s.gen g
    match gn.target with
    | none => s
    | some c =>
      match crossTicks (c - x.coord) v a with
      | none => s.setGen g { gn with plan := none }
      | some tau =>
        let i := x.inst + tau
        if 24000 ≤ tau then s.setGen g { gn with plan := some i }
        else
          let min := fld (s.genWord g 0x14) 16 16 * 8
          let next := some (c + s.genPitch g)
          if gn.lastEdge.any fun e => i < e + min then
            ((s.setGen g { gn with target := next, plan := none }).genSkip g 1).genPlan g x v a n
          else
            (s.setGen g { gn with target := next, plan := none, fixed := gn.fixed ++ [(i, c)], lastEdge := some i }).genPlan
              g x v a n

/-- A target already passed by a sample (R126): its edge is placed at once, unless MIN_PERIOD forbids it, and every
further target that the sample reaches is skipped. -/
def State.genPassed (s : State) (g : Nat) (x : Sample) (c : Int) : State :=
  let gn := s.gen g
  let next := firstTarget c (s.genPitch g) x.coord
  let skipped := ((next - c) / s.genPitch g - 1).toNat
  let min := fld (s.genWord g 0x14) 16 16 * 8
  if gn.lastEdge.any fun e => s.now < e + min then
    (s.setGen g { gn with target := some next, plan := none }).genSkip g (skipped + 1)
  else
    (s.setGen g { gn with target := some next, plan := none, fixed := gn.fixed ++ [(s.now, c)],
                          lastEdge := some s.now }).genSkip g skipped

/-- GEN_STAT from what the generator does (R132). -/
def State.genStat (s : State) (g : Nat) (stall reverse : Bool) : State :=
  s.setReg .tioc (0x818 + g * 0x40)
    (wordOf ((if s.genRun g && (s.gen g).target.isSome && !stall then 1 else 0) + (if stall then 2 else 0)
      + (if reverse then 4 else 0)))

/-- The latest sample of its source reaches a running generator (R125, R126).
Marked DEDUCED and unsafe (notes/assumptions/46.md). -/
def State.generatorSample (s : State) (g : Nat) : State :=
  if s.genRun g then
    match tabGet? s.src (s.genSrc g) with
    | none => s
    | some x =>
      let gn := s.gen g
      if gn.taken.any fun i => x.inst ≤ i then s
      else
        let span := s.genSpan g
        let reverse := match gn.hist with | h :: _ => x.coord < h.coord | [] => false
        let hist := (x :: gn.hist).take (2 * span + 1)
        let target := match gn.target with
          | some c => c
          | none => firstTarget (s.genStart g) (s.genPitch g) x.coord
        let s1 := s.setGen g { gn with hist := hist, target := some target, plan := none, last := s.now, taken := some x.inst }
        let s2 := s1.genStat g false reverse
        match hist[span]? with
        | none => s2
        | some o =>
          if reverse then s2
          else
            let v := spanSpeed (x.inst, x.coord) (o.inst, o.coord)
            let a := match hist[2 * span]? with
              | some p => spanAccel (x.inst, x.coord) (o.inst, o.coord) (p.inst, p.coord)
              | none => ⟨0, 1⟩
            let s3 := if target ≤ x.coord then s2.genPassed g x target else s2
            s3.genPlan g x v a 4096
  else s

/-- The interval of a source's samples, for the stall of R126 and R155, in ticks: 4 of them make a stall. -/
def State.srcInterval (s : State) (id : Nat) : Nat :=
  let k := id / 4096 % 16
  if k = 3 then (s.pinWord (id % 4096) 12).toNat else if k = 4 then 2000000 else 8000

/-- No sample has arrived within 4 intervals of the last one's arrival, or of the generator's start (R126).
Marked DEDUCED and unsafe (notes/assumptions/46.md). -/
def State.generatorStall (s : State) (g : Nat) : State :=
  let gn := s.gen g
  let late := gn.last + 4 * s.srcInterval (s.genSrc g) ≤ s.now
  if s.genRun g && late && !bit (s.genWord g 0x18) 1 then
    ((s.setGen g { gn with hist := [], plan := none }).genStat g true false).irqBit .tioc g
  else s

/-- The first fixed edge falls due and is made (R127): a camera line. -/
def State.triggerEdge (s : State) (g : Nat) : State :=
  let gn := s.gen g
  match gn.fixed with
  | (i, c) :: rest =>
    if i ≤ s.now then
      let port := s.genPort g
      let line := s.genWord g 0x1C
      let s1 := s.setGen g { gn with fixed := rest, log := ((line, i, c) :: gn.log).take 4096 }
      let s2 := s1.setReg .tioc (0x81C + g * 0x40) (line + 1)
      let s3 := s2.pulseAt port true i (fld (s.genWord g 0x14) 0 16)
      s3.setPin port { s3.pin port with cnt := (s3.pin port).cnt + 1 }
    else s
  | [] => s

/-- What the trigger log answers for a line (R127): RESULT (1 FOUND, 2 OLD, 3 AHEAD), instant, coordinate. -/
def State.tlogLookup (s : State) (g : Nat) (line : Word) : Nat × Nat × Int :=
  match (s.gen g).log.find? fun e => e.1 = line with
  | some (_, i, c) => (1, i, c)
  | none => if (line - s.genWord g 0x1C).toNat < 2 ^ 31 then (3, 0, 0) else (2, 0, 0)

/-- A master's trigger-log query state (R131). -/
def State.tlogOf (s : State) (m : Master) : TlogQ := tabGet ⟨0, 0, 0, 0⟩ s.tlog m.id

/-- A write to the query registers: TLOG_Q_LO stages, TLOG_Q_HI runs (R131). -/
def State.tlogWrite (s : State) (w : Wr) : State :=
  let q := s.tlogOf w.m
  let line := if w.hits 0x48 then w.word 0x48 else q.line
  if w.hits 0x4C then
    let (r, i, c) := s.tlogLookup (w.fld 0x4C 0 4) line
    { s with tlog := tabPut s.tlog w.m.id ⟨line, r, i, c⟩ }
  else { s with tlog := tabPut s.tlog w.m.id { q with line := line } }

/-- The effects of a common page write: generators start and stop, queries run. `s0` is the state before. -/
def effTioc (s0 : State) (w : Wr) (s : State) : State :=
  let s1 := w.offs.foldl (fun t off =>
      if 0x800 ≤ off && (off - 0x800) % 0x40 = 0 then
        let g := (off - 0x800) / 0x40
        if t.genRun g && !s0.genRun g then t.genBegin g else if !t.genRun g && s0.genRun g then t.genEnd g else t
      else t) s
  if w.hits 0x48 || w.hits 0x4C then s1.tlogWrite w else s1

/-! ### The commands -/

/-- The function acts on entries of the channel (R111). -/
def actsOn (func chan : Nat) : Bool := (chan = 0 && 1 ≤ func && func ≤ 4) || (chan ≤ 2 && func = 3)

/-- Carry out the delivered entry of a port and channel, if the pin runs the function; a pin whose function takes no entry of
the channel any more drops it. -/
def State.actOn (s : State) (port chan func : Nat) (f : State → PortEntry → State) : State :=
  match s.takeDue port chan with
  | some (e, t) =>
    if s.bw.defaults && holdUpPort port then t
    else if s.pinFunc port = func then f t e
    else if actsOn (s.pinFunc port) chan then s else t
  | none => s

/-- LEVEL_ACTION. -/
def execLevelAction (port : Nat) (s : State) : Host.Outcome State Fault Refusal :=
  .next (s.actOn port 0 1 fun t e => t.levelAction port e.payload)
/-- PULSE_START. -/
def execPulseStart (port : Nat) (s : State) : Host.Outcome State Fault Refusal :=
  .next (s.actOn port 0 2 fun t e => t.pulseStart port e.inst e.payload)
/-- PULSE_END. -/
def execPulseEnd (port : Nat) (s : State) : Host.Outcome State Fault Refusal :=
  .next (if s.pinFunc port = 2 then s.pulseEnd port else s)
/-- PWM_DUTY_ENTRY. -/
def execPwmDutyEntry (port : Nat) (s : State) : Host.Outcome State Fault Refusal :=
  .next (s.actOn port 0 3 fun t e => t.pwmEntry port 0 e.inst e.payload)
/-- PWM_PERIOD_ENTRY. -/
def execPwmPeriodEntry (port : Nat) (s : State) : Host.Outcome State Fault Refusal :=
  .next (s.actOn port 1 3 fun t e => t.pwmEntry port 1 e.inst e.payload)
/-- PWM_RUN_ENTRY. -/
def execPwmRunEntry (port : Nat) (s : State) : Host.Outcome State Fault Refusal :=
  .next (s.actOn port 2 3 fun t e => t.pwmEntry port 2 e.inst e.payload)
/-- PWM_PERIOD_START. -/
def execPwmPeriodStart (port : Nat) (s : State) : Host.Outcome State Fault Refusal := .next (s.pwmPeriodStart port)
/-- PWM_DUTY_END. -/
def execPwmDutyEnd (port : Nat) (s : State) : Host.Outcome State Fault Refusal := .next (s.pwmDutyEnd port)
/-- STEPDIR_SEGMENT. -/
def execStepdirSegment (port : Nat) (s : State) : Host.Outcome State Fault Refusal :=
  .next (s.actOn port 0 4 fun t e => t.stepSegment port e.inst e.payload)
/-- STEP_EDGE. -/
def execStepEdge (port : Nat) (s : State) : Host.Outcome State Fault Refusal := .next (s.stepEdge port)
/-- STEP_PULSE_END. -/
def execStepPulseEnd (port : Nat) (s : State) : Host.Outcome State Fault Refusal := .next (s.stepPulseEnd port)
/-- CAPTURE_EDGE. -/
def execCaptureEdge (port : Nat) (level : Bool) (i : Nat) (s : State) : Host.Outcome State Fault Refusal :=
  .next (s.captureEdge port level i)
/-- QUAD_EDGE. -/
def execQuadEdge (port : Nat) (isB level : Bool) (i : Nat) (s : State) : Host.Outcome State Fault Refusal :=
  .next (s.quadEdge port isB level i)
/-- QUAD_SAMPLE. -/
def execQuadSample (port i : Nat) (s : State) : Host.Outcome State Fault Refusal := .next (s.quadSample port i)
/-- SSI_READ. -/
def execSsiRead (port i : Nat) (s : State) : Host.Outcome State Fault Refusal := .next (s.ssiRead port i)
/-- SSI_READ_DONE. -/
def execSsiReadDone (port raw : Nat) (parityBit parityOk : Bool) (s : State) : Host.Outcome State Fault Refusal :=
  .next (s.ssiReadDone port raw parityBit parityOk)
/-- GENERATOR_SAMPLE. -/
def execGeneratorSample (g : Nat) (s : State) : Host.Outcome State Fault Refusal := .next (s.generatorSample g)
/-- GENERATOR_STALL. -/
def execGeneratorStall (g : Nat) (s : State) : Host.Outcome State Fault Refusal := .next (s.generatorStall g)
/-- TRIGGER_EDGE. -/
def execTriggerEdge (g : Nat) (s : State) : Host.Outcome State Fault Refusal := .next (s.triggerEdge g)
/-- TRIGGER_PULSE_END. -/
def execTriggerPulseEnd (port : Nat) (s : State) : Host.Outcome State Fault Refusal :=
  .next (if s.pinFunc port = 8 then s.pulseEnd port else s)

end Sys2Proof.Machine
end

