-- ==== Sys2Proof/Machine/Tracker.lean ====
section
/-! DEFINITION. The Mark Tracker (R153–R182): source slots and the speed estimate, contexts, predictions, submissions,
re-prediction, freezing, closing, its event log, region and page. -/
namespace Sys2Proof.Machine

/-! ### The region's words -/

/-- A context's word (R178). -/
def ctxAddr (c off : Nat) : Nat := 0x3C000000 + c * 64 + off
/-- A template's word (R180). -/
def tplAddr (t off : Nat) : Nat := 0x3C200000 + t * 0x100 + off
/-- A visit's word in its template (R180). -/
def visAddr (t v off : Nat) : Nat := tplAddr t (0x10 + v * 0x10 + off)
/-- A class map entry (R181). -/
def classAddr (k : Nat) : Nat := 0x3C300000 + k * 4

/-- A station is valid (R161). -/
def State.stnValid (s : State) (st : Nat) : Bool := bit (s.rd (stationAddr st 8)) 31
/-- SOURCE of a station. -/
def State.stnSource (s : State) (st : Nat) : Nat := fld (s.rd (stationAddr st 8)) 0 16
/-- OFFSET of a station, signed. -/
def State.stnOffset (s : State) (st : Nat) : Int :=
  sgn 64 ((s.rd (stationAddr st 0)).toNat + 2 ^ 32 * (s.rd (stationAddr st 4)).toNat)
/-- A station's effective position P_stn (R157). -/
def State.stnPos (s : State) (st : Nat) : Int :=
  s.stnOffset st + s.stnOffset st * sgn 32 (s.rd (stationAddr st 12)).toNat / 2 ^ 31
/-- ADVANCE of a station, signed (R160). -/
def State.stnAdvance (s : State) (st : Nat) : Int := sgn 32 (s.rd (stationAddr st 0x20)).toNat
/-- TOL of a station in ticks (R170, R179). -/
def State.stnTol (s : State) (st : Nat) : Nat := fld (s.rd (stationAddr st 0x1C)) 0 16 * 1000

/-- A context is open (R178). -/
def State.ctxOpen (s : State) (c : Nat) : Bool := bit (s.rd (ctxAddr c 0x1C)) 31
/-- SOURCE of a context. -/
def State.ctxSource (s : State) (c : Nat) : Nat := fld (s.rd (ctxAddr c 8)) 0 16
/-- TEMPLATE of a context. -/
def State.ctxTemplate (s : State) (c : Nat) : Nat := fld (s.rd (ctxAddr c 8)) 24 8
/-- C0 of a context, signed. -/
def State.ctxOrigin (s : State) (c : Nat) : Int :=
  sgn 64 ((s.rd (ctxAddr c 0)).toNat + 2 ^ 32 * (s.rd (ctxAddr c 4)).toNat)
/-- The station of a context's visit. -/
def State.visStation (s : State) (c v : Nat) : Nat := fld (s.rd (visAddr (s.ctxTemplate c) v 0)) 0 8

/-- The state of a visit (R165). -/
def State.vstate (s : State) (c v : Nat) : Nat := fld (s.rd (ctxAddr c 0x18)) (4 * v) 4
/-- The state with a visit's state replaced. -/
def State.setVstate (s : State) (c v x : Nat) : State :=
  s.wr (ctxAddr c 0x18) (setFld (s.rd (ctxAddr c 0x18)) (4 * v) 4 x)
/-- A visit's own data. -/
def State.visit (s : State) (c v : Nat) : Visit := tabGet ⟨0, 0, 0, .none, false, 0, 0⟩ s.trk.visits (c * 8 + v)
/-- The state with a visit's own data replaced. -/
def State.setVisit (s : State) (c v : Nat) (x : Visit) : State :=
  { s with trk := { s.trk with visits := tabPut s.trk.visits (c * 8 + v) x } }

/-- The open contexts, by number. -/
def State.openCtxs (s : State) : List Nat :=
  (s.regs.filter fun e => 0x3C000000 ≤ e.1 && e.1 < 0x3C100000 && e.1 % 64 = 0x1C && bit e.2 31).map
    fun e => (e.1 - 0x3C000000) / 64

/-- The tracker is stopped by an ISOLATE reaction (R417). -/
def State.trkHalted (s : State) : Bool := s.isFenced .trk

/-! ### Source slots -/

/-- SRC_CFG of a slot (R153). -/
def State.slotCfg (s : State) (i : Nat) : Word := s.reg .trk (0x800 + i * 0x10)
/-- A source slot's samples and sweep. -/
def State.slot (s : State) (i : Nat) : SrcSlot := tabGet ⟨[], [], 0, none⟩ s.trk.slots i
/-- The state with a source slot's samples and sweep replaced. -/
def State.setSlot (s : State) (i : Nat) (x : SrcSlot) : State :=
  { s with trk := { s.trk with slots := tabPut s.trk.slots i x } }
/-- The valid slot that holds a source. -/
def State.slotOf (s : State) (id : Nat) : Option Nat :=
  (List.range 16).find? fun i => bit (s.slotCfg i) 31 && fld (s.slotCfg i) 0 16 = id

/-- SRC_STAT of a slot: OK, STALL, REVERSE. -/
def State.slotStat (s : State) (i k : Nat) : Bool := bit (s.reg .trk (0x80C + i * 0x10)) k

/-- The estimate of R154: v at the latest sample, and a, in 0.1 µm per tick and per tick². None until 2N + 1 samples.
Marked DEDUCED and unsafe (notes/assumptions/55.md). -/
def estimate (n : Nat) (h : List Sample) : Option (Frac × Frac) :=
  match h[0]?, h[n]?, h[2 * n]? with
  | some x, some y, some z =>
    let a := spanAccel (x.inst, x.coord) (y.inst, y.coord) (z.inst, z.coord)
    let dt := max 1 (x.inst - y.inst)
    some (⟨2 * (x.coord - y.coord) * a.den + a.num * (dt * dt : Nat), 2 * dt * a.den⟩, a)
  | _, _, _ => none

/-- A slot's estimate. -/
def State.slotEst (s : State) (i : Nat) : Option (Frac × Frac) := estimate (fld (s.slotCfg i) 16 12) (s.slot i).hist

/-- A signed quantity in 32 bits, saturating, its fraction dropped toward zero.
Marked DEDUCED and unsafe (notes/assumptions/55.md). -/
def satTrunc (num : Int) (den : Nat) : Word :=
  wordOf (uns 32 (clampI (-2 ^ 31) (2 ^ 31 - 1) (Int.tdiv num (max 1 den : Nat))))

/-- SRC_SPEED, SRC_ACCEL and SRC_STAT from the slot's samples (R154, R182). -/
def State.slotReport (s : State) (i : Nat) (stall : Bool) : State :=
  let b := 0x800 + i * 0x10
  match s.slotEst i with
  | none => s.setReg .trk (b + 12) (if stall then 2 else 0)
  | some (v, a) =>
    ((s.setReg .trk (b + 4) (satTrunc (v.num * 8000 * 65536) v.den)).setReg .trk (b + 8)
      (satTrunc (a.num * 6400000000000000) a.den)).setReg .trk (b + 12)
        (wordOf (1 + (if stall then 2 else 0) + (if v.num ≤ 0 then 4 else 0)))

/-! ### The event log (R176) -/

/-- Write a tracker event: its record, its counter and its interrupt bit. -/
def State.trkEvent (s : State) (kind visit : Nat) (reason : Reason) (ctx : Nat) (data : Int) (inst : Nat) : State :=
  let d := uns 32 (clampI (-2 ^ 31) (2 ^ 32 - 1) data)
  let rec_ := inst64 inst + d * 2 ^ 64 + ctx * 2 ^ 96 + reason.code * 2 ^ 112 + visit * 2 ^ 120 + kind * 2 ^ 124
  let (s1, ok) := s.ringLog (s.reg .trk 0x48).toNat (s.regF .trk 0x4C 0 5) 16 rec_
  let s2 := if ok then s1 else s1.irqBit .trk 3
  if kind = 2 then (s2.satInc .trk 0x78).irqBit .trk 0
  else if kind = 3 || kind = 4 || kind = 5 then (s2.satInc .trk 0x7C).irqBit .trk 1
  else if kind = 6 then s2.irqBit .trk 6
  else s2

/-- A signed drift, saturating in 32 bits (R176).
Marked DEDUCED and unsafe (notes/assumptions/51.md). -/
def driftOf (p q : Nat) : Int := clampI (-2 ^ 31) (2 ^ 31 - 1) ((p : Int) - q)

/-! ### Closing -/

/-- Close a context when every visit is terminal (R175): a TIMEOUT event if it ends by timeout, otherwise CLOSE. -/
def State.trkSettle (s : State) (c : Nat) : State :=
  if s.ctxOpen c && (List.range 8).all fun v => s.vstate c v = 0 || 4 ≤ s.vstate c v then
    let t := s.ctxTemplate c
    let byTimeout := s.trk.timeouts.contains c
    let s1 := s.wr (ctxAddr c 0x1C) (setBit (s.rd (ctxAddr c 0x1C)) 31 false)
    let s2 := s1.wr (tplAddr t 8) (s1.rd (tplAddr t 8) - 1)
    let s3 := s2.setReg .trk 0x44 (s2.reg .trk 0x44 - 1)
    let s4 := { s3 with trk := { s3.trk with timeouts := s3.trk.timeouts.filter fun x => x ≠ c } }
    s4.trkEvent (if byTimeout then 8 else 1) 15 .none c (s4.rd (ctxAddr c 0x18)).toNat s.now
  else s

/-- A visit ends in a terminal state: HANDLE no longer stands. -/
def State.visEnd (s : State) (c v st : Nat) : State := (s.setVstate c v st).wr (ctxAddr c (0x20 + 4 * v)) 0

/-- A visit ends in a terminal state with an event.
Marked DEDUCED and unsafe (notes/assumptions/52.md). -/
def State.visEndEvent (s : State) (c v st kind : Nat) (r : Reason) (data : Int) (inst : Nat) : State :=
  (s.visEnd c v st).trkEvent kind v r c data inst

/-! ### Prediction (R166) -/

/-- What an evaluation finds: the mark has passed, no arrival can be predicted, or the entry instant P. -/
inductive Prediction where
  | passed
  | none
  | at_ (p : Int)
deriving DecidableEq, Repr

/-- The prediction of a target from a sample and an estimate (R160, R166).
Marked DEDUCED and unsafe (notes/assumptions/55.md). -/
def predict (x : Sample) (est : Frac × Frac) (target advance : Int) : Prediction :=
  if target ≤ x.coord then .passed
  else match crossTicks (target - x.coord) est.1 est.2 with
    | none => .none
    | some tau => .at_ ((x.inst : Int) + tau - advance)

/-- A slot's prediction for a visit. -/
def State.visPredict (s : State) (i c v : Nat) : Prediction :=
  match (s.slot i).hist, s.slotEst i with
  | x :: _, some est => predict x est (s.visit c v).target (s.stnAdvance (s.visStation c v))
  | _, _ => .none

/-- max(L, H) + 4,000 of a queue: how far the freeze point lies before the entry instant (R169). -/
def State.freezeLead (s : State) (q : Nat) : Nat := max (s.qLock q) (s.handoffLead (s.qPort q)) + 4000

/-- The freeze point of a provisional visit (R169), with the lead that its queue had at the submission (R171).
Marked DEDUCED and unsafe (notes/assumptions/51.md). -/
def State.freezePoint (s : State) (c v : Nat) : Int := ((s.visit c v).sub : Int) - (s.visit c v).lead

/-! ### Submission (R167, R168) -/

/-- The words of a tracker submission (R167): PROV, kind ACT, the present epoch, with its CRC. -/
def State.trkSubmission (s : State) (p : Nat) (payload : Word) : Submission :=
  let m := 0x8000 + s.regF .trk 0x40 0 8
  ⟨p, payload, wordOf (m + (entryCrc p payload m).toNat * 2 ^ 16)⟩

/-- A WAIT visit is evaluated (R167, R168). -/
def State.waitEval (s : State) (c v : Nat) (pr : Prediction) : State :=
  let x := s.visit c v
  let q := x.queue
  let kept := match x.reason with | .qFull | .collide | .noSlot => x.reason | _ => .tooLate
  match pr with
  | .none => s
  | .passed => s.visEndEvent c v 5 2 kept 0 x.sub
  | .at_ p =>
    if p - s.now < s.qLead q then s.visEndEvent c v 5 2 kept 0 (uns 64 p)
    else if 2 ^ 33 - 8000 < p - s.now then s
    else
      let pn := p.toNat
      let e := s.wr (ctxAddr c 0x1C) (setFld (s.rd (ctxAddr c 0x1C)) 0 8 (s.regF .trk 0x40 0 8))
      let (r, committed, h, s1) := e.admitTo .tracker q (s.trkSubmission pn (s.rd (visAddr (s.ctxTemplate c) v 4)))
      match r with
      | .none =>
        ((s1.setVstate c v (if committed then 3 else 2)).wr (ctxAddr c (0x20 + 4 * v)) (wordOf h)).setVisit c v
          { x with sub := pn, reason := .none, seen := false, lead := s.freezeLead q }
      | .tooLate => s1.visEndEvent c v 5 2 .tooLate 0 pn
      | .qFull | .collide | .noSlot => s1.setVisit c v { x with reason := r }
      | .beyondHorizon => s1
      | _ => s1.visEndEvent c v 8 3 r 0 pn

/-! ### Withdrawal -/

/-- The tracker's handle ebb of a visit's entry (R170): SCOPE 0, cut 0, E = TR_CTRL.EPOCH; its refusal, or the state with
the ebb accepted and its result in the tracker's ebb state. -/
def State.trkEbb (s : State) (c v : Nat) : Reason × State :=
  let cmd := (s.rd (ctxAddr c (0x20 + 4 * v))).toNat + s.regF .trk 0x40 0 8 * 2 ^ 32
  let s1 := s.setEbb .tracker { s.ebbOf .tracker with cutLo := some 0, cutHi := some 0, busy := false }
  let r := s1.ebbReason .tracker true cmd
  (r, if r = .none then s1.ebbApply .tracker cmd else s)

/-- What a completed ebb makes of a visit (R171): the removal's successor state, LEAKED, or LOST. `p` is the visit's
predicted instant. -/
def State.ebbOutcome (s : State) (e : EbbState) (c v p : Nat) (removed : State → State) : State :=
  let sub := (s.visit c v).sub
  if e.leaked ≠ 0 then s.visEndEvent c v 9 4 .none (driftOf p sub) p
  else if e.stale || e.removed = 0 then s.visEndEvent c v 10 5 .none 0 p
  else removed s

/-- A visit becomes FROZEN (R169), counted in EVAL_SHORT when its latest evaluation used a sample more than 2 µs older
than F (R173).
Marked DEDUCED and unsafe (notes/assumptions/51.md). -/
def State.visFreeze (s : State) (c v : Nat) : State :=
  let s1 := s.setVstate c v 3
  if 16000 < s.freezePoint c v - ((s.visit c v).sampled : Int) then (s1.satInc .trk 0x88).irqBit .trk 4 else s1

/-- A WAIT or PROV visit is withdrawn and takes a state: WAIT (R155, R166) or CANCELLED (R161, R175). A provisional visit
at or after its freeze point is FROZEN instead; one whose re-prediction is in progress is settled at its result. -/
def State.visWithdraw (s : State) (c v to_ : Nat) : State :=
  if s.vstate c v = 1 then (if to_ = 1 then s else s.visEnd c v to_)
  else if s.vstate c v = 2 then
    match s.trk.repred with
    | some r =>
      if r.ctx = c && r.visit = v then
        { s with trk := { s.trk with repred := some { r with next := max r.next (if to_ = 1 then 1 else 2) } } }
      else if s.freezePoint c v ≤ s.now then s.visFreeze c v
      else
        let held := s.ebbOf .tracker
        let (why, s1) := s.trkEbb c v
        if why ≠ .none then s.visEndEvent c v 8 3 why 0 (s.visit c v).sub
        else
          let e := s1.ebbOf .tracker
          ((s1.ebbDone .tracker).setEbb .tracker held).ebbOutcome e c v (s.visit c v).sub fun t => t.visEnd c v to_
    | none =>
      if s.freezePoint c v ≤ s.now then s.visFreeze c v
      else
        let (why, s1) := s.trkEbb c v
        if why ≠ .none then s.visEndEvent c v 8 3 why 0 (s.visit c v).sub
        else
          let e := s1.ebbOf .tracker
          (s1.ebbDone .tracker).ebbOutcome e c v (s.visit c v).sub fun t => t.visEnd c v to_
  else s

/-- Withdraw every WAIT and PROV visit of a context that satisfies a test, and close it if that ends it.
Marked DEDUCED and unsafe (notes/assumptions/52.md). -/
def State.ctxWithdraw (s : State) (c to_ : Nat) (p : Nat → Bool) : State :=
  ((List.range 8).foldl (fun t v => if p v then t.visWithdraw c v to_ else t) s).trkSettle c

/-- The provisional visits of a source return to WAIT (R155). -/
def State.srcWithdraw (s : State) (id : Nat) : State :=
  (s.openCtxs.filter fun c => s.ctxSource c = id).foldl (fun t c => t.ctxWithdraw c 1 fun v => t.vstate c v = 2) s

/-! ### Opening (R162–R164) -/

/-- Floor of half a width. -/
def halfOf (w : Word) : Nat := w.toNat / 2

/-- The cross-web test of R164. -/
def xtestOk (test : Nat) (lo hi cross : Int) (width : Word) : Bool :=
  if test = 0 then true
  else if hi < lo then false
  else if test = 1 then cross ≤ hi && lo ≤ cross + width.toNat
  else if test = 2 then lo ≤ cross + halfOf width && cross + halfOf width ≤ hi
  else lo ≤ cross && cross + width.toNat ≤ hi

/-- One visit of a context at its opening (R164, with R158, R159, R161). -/
def State.openVisit (s : State) (c : Nat) (r : OpenReq) (v : Nat) : State :=
  let cfg := s.rd (visAddr r.template v 0)
  let st := fld cfg 0 8
  let cross := sgn 32 r.cross.toNat
  let sword (a : Nat) : Int := sgn 32 (s.rd a).toNat
  if !xtestOk (fld cfg 8 2) (sword (visAddr r.template v 8)) (sword (visAddr r.template v 12)) cross r.width then
    s.setVstate c v 6
  else if !s.stnValid st then s.visEndEvent c v 8 3 .badState 0 0
  else if s.stnSource st ≠ r.source then s.setVstate c v 7
  else
    let w := s.rd (stationAddr st 0x10)
    let lanes := fld w 16 7
    let lane : Int := if lanes = 1 then 0
      else (cross + halfOf r.width - sword (stationAddr st 0x18)) / ((s.rd (stationAddr st 0x14)).toNat : Int)
    if lane < 0 || lanes ≤ lane then s.setVstate c v 6
    else
      (s.setVstate c v 1).setVisit c v
        ⟨sgn 64 r.origin + s.stnPos st - s.stnPos r.station, fld w 0 16 + lane.toNat, 0, .none, false, 0, 0⟩

/-- A context number that is open or reserved. -/
def State.ctxTaken (s : State) (c : Nat) : Bool := s.ctxOpen c || s.trk.waiting.any fun r => r.ctx = some c

/-- The table is full (R163): every context is open or reserved. -/
def State.ctxFull (s : State) : Bool :=
  16384 ≤ (s.reg .trk 0x44).toNat + (s.trk.waiting.filter fun r => r.ctx.isSome).length

/-- The first free context from a number upward, round the table. -/
def State.ctxFrom (s : State) (start : Nat) : Nat → Nat
  | 0 => start % 16384
  | n + 1 => if s.ctxTaken (start % 16384) then s.ctxFrom (start % 16384 + 1) n else start % 16384

/-- The free context that an open takes (R163).
Marked DESIGN CHOICE and safe (notes/assumptions/53.md). -/
def State.ctxPick (s : State) : Nat := s.ctxFrom (Config.contextPick s.free) 16384

/-- One master's OPEN staging. -/
def State.openStage (s : State) (m : Nat) : OpenStage := tabGet ⟨none, none, 0, 0, 0⟩ s.trk.stage m
/-- The state with one master's OPEN staging replaced. -/
def State.setOpenStage (s : State) (m : Nat) (x : OpenStage) : State :=
  { s with trk := { s.trk with stage := tabPut s.trk.stage m x } }

/-- An open is performed in a context (R164): its words are written, its visits decided, and those that WAIT join their
source's sweep, to be submitted within 2 µs (R163).
Marked DEDUCED and unsafe (notes/assumptions/51.md). -/
def State.ctxBegin (s : State) (c : Nat) (r : OpenReq) : State :=
  let a := ctxAddr c
  let s1 := (((((s.clearRegs (a 0) (a 0x40)).wr (a 0) (wordOf r.origin)).wr (a 4) (wordOf (r.origin / 2 ^ 32))).wr (a 8)
    (wordOf (r.source + r.cls * 2 ^ 16 + r.template * 2 ^ 24))).wr (a 12)
      (wordOf (r.station + r.opener * 2 ^ 8 + (match r.record with | some n => 2 ^ 10 + n * 2 ^ 16 | none => 0)))).wr (a 16)
        r.cross
  let s2 := (s1.wr (a 20) r.width).wr (a 0x1C) (wordOf (2 ^ 31 + s.regF .trk 0x40 0 8))
  let s3 := (s2.wr (tplAddr r.template 8) (s2.rd (tplAddr r.template 8) + 1)).setReg .trk 0x44 (s2.reg .trk 0x44 + 1)
  let s4 := (List.range (fld (s.rd (tplAddr r.template 0)) 0 4)).foldl (fun t v => t.openVisit c r v) s3
  let s5 := match s4.slotOf r.source with
    | some i =>
      let x := s4.slot i
      s4.setSlot i { x with sweep := x.sweep ++ ((List.range 8).filter fun v => s4.vstate c v = 1).map fun v => (c, v) }
    | none => s4
  s5.trkSettle c

/-- An open is decided (R163): in its reserved context, in any free one, or refused for a full table. -/
def State.openDecide (s : State) (r : OpenReq) : State :=
  match r.ctx with
  | some c => s.ctxBegin c r
  | none =>
    if s.ctxFull then
      let s1 := (s.satInc .trk 0x80).irqBit .trk 2
      if r.opener = 1 then s1.setOpenStage r.master { s1.openStage r.master with res := 2 }
      else s1.trkEvent 7 15 .none 0xFFFF 0 s.now
    else
      let c := s.ctxPick
      let s1 := s.draw.ctxBegin c r
      if r.opener = 1 then s1.setOpenStage r.master { s1.openStage r.master with res := wordOf (1 + c * 2 ^ 16) } else s1

/-- The open-rate count of the present µs (R163).
Marked DESIGN CHOICE and unsafe (notes/assumptions/54.md). -/
def State.opensNow (s : State) : Nat := if s.trk.openWin = s.now / 8000 then s.trk.openCnt else 0

/-- An open arrives: performed at once within the rate of 8 per µs, else it waits in order of arrival (R163). -/
def State.openArrive (s : State) (r : OpenReq) : State :=
  if s.trk.waiting.isEmpty && s.opensNow < 8 then
    { s with trk := { s.trk with openWin := s.now / 8000, openCnt := s.opensNow + 1 } }.openDecide r
  else { s with trk := { s.trk with waiting := s.trk.waiting ++ [r] } }

/-- The oldest waiting open is performed in a following µs (R163).
Marked DESIGN CHOICE and unsafe (notes/assumptions/54.md). -/
def State.openDeferred (s : State) : State :=
  match s.trk.waiting with
  | r :: rest =>
    if s.opensNow < 8 then
      { s with trk := { s.trk with waiting := rest, openWin := s.now / 8000, openCnt := s.opensNow + 1 } }.openDecide r
    else s
  | [] => s

/-- An open by Surf or a roll event (R162): not performed when the origin station is not valid or has another source, or
when the table is full; the context that a performed open takes is reserved at once for a Surf record. `record` is the
roll-map slot that an OPEN_FAIL names. -/
def State.openFor (s : State) (r : OpenReq) (record : Option Nat) : Option Nat × State :=
  let slot : Int := match record with | some n => 2 ^ 31 + n | none => 0
  if !s.stnValid r.station || s.stnSource r.station ≠ r.source then
    (none, s.trkEvent 7 15 .badState 0xFFFF slot s.now)
  else if s.ctxFull then
    (none, ((s.satInc .trk 0x80).irqBit .trk 2).trkEvent 7 15 .none 0xFFFF slot s.now)
  else
    let c := s.ctxPick
    (some c, s.draw.openArrive { r with ctx := some c })

/-! ### Samples and sweeps (R154, R155, R173) -/

/-- The source's coordinate passes a context's TIMEOUT (R175): its open visits are cancelled. -/
def State.ctxTimeout (s : State) (x : Sample) (c : Nat) : State :=
  let t := (s.rd (tplAddr (s.ctxTemplate c) 4)).toNat
  if t ≠ 0 && s.ctxOrigin c + t * 10000 < x.coord && !s.trk.timeouts.contains c then
    { s with trk := { s.trk with timeouts := s.trk.timeouts ++ [c] } }.ctxWithdraw c 11 fun _ => true
  else s

/-- A sample of a slot's source (R154, R155, R173, R175): the estimate, REVERSE, timeouts, and a new sweep. -/
def State.slotSample (s : State) (i : Nat) : State :=
  let id := fld (s.slotCfg i) 0 16
  match tabGet? s.src id with
  | none => s
  | some x =>
    let sl := s.slot i
    if !bit (s.slotCfg i) 31 || (sl.taken.any fun t => x.inst ≤ t) || s.trkHalted then s
    else
      let s1 := (s.setSlot i ⟨(x :: sl.hist).take (2 * fld (s.slotCfg i) 16 12 + 1), [], s.now, some x.inst⟩).slotReport i false
      let ctxs := s1.openCtxs.filter fun c => s1.ctxSource c = id
      let s2 := ctxs.foldl (fun t c => t.ctxTimeout x c) s1
      if s2.slotStat i 2 then s2.srcWithdraw id
      else if !s2.slotStat i 0 then s2
      else
        let sweep := ctxs.flatMap fun c =>
          ((List.range 8).filter fun v => s2.ctxOpen c && (s2.vstate c v = 1 || s2.vstate c v = 2)).map fun v => (c, v)
        s2.setSlot i { s2.slot i with sweep := sweep }

/-- A slot stalls (R155): no sample arrives within 4 intervals of the last one's arrival, or of the slot's beginning. -/
def State.slotStall (s : State) (i : Nat) : State :=
  let id := fld (s.slotCfg i) 0 16
  let late := (s.slot i).last + 4 * s.srcInterval id ≤ s.now
  if bit (s.slotCfg i) 31 && late && !s.slotStat i 1 && !s.trkHalted then
    ((s.setSlot i { s.slot i with sweep := [] }).slotReport i true).srcWithdraw id
  else s

/-- The order of an evaluation in the sweeps: by freeze point (R173); passed first, unpredictable last. -/
def State.sweepKey (s : State) (i c v : Nat) : Int :=
  if s.vstate c v = 2 then s.freezePoint c v
  else match s.visPredict i c v with
    | .passed => -2 ^ 80
    | .none => 2 ^ 80
    | .at_ p => p - s.freezeLead (s.visit c v).queue

/-- The least of a list by a key, the first among equals. -/
def leastBy {α : Type} (k : α → Int) : List α → Option α
  | [] => none
  | x :: xs => match leastBy k xs with
    | none => some x
    | some y => if k y < k x then some y else some x

/-- The next visit that the sweeps reach: slot, context, visit. -/
def State.sweepNext (s : State) : Option (Nat × Nat × Nat) :=
  leastBy (fun x => s.sweepKey x.1 x.2.1 x.2.2)
    ((List.range 16).flatMap fun i => (s.slot i).sweep.map fun x => (i, x.1, x.2))

/-- Re-predict a provisional visit (R170): the handle ebb is issued and its result awaited. -/
def State.visRepredict (s : State) (c v : Nat) (p : Option Nat) : State :=
  let (why, s1) := s.trkEbb c v
  if why ≠ .none then (s.visEndEvent c v 8 3 why 0 (p.getD (s.visit c v).sub)).trkSettle c
  else { (s1.wrapInc .trk 0x84) with trk := { s1.trk with repred := some ⟨c, v, p, 0⟩ } }

/-- A provisional visit is evaluated (R166, R169, R170, R172).
Marked DEDUCED and unsafe (notes/assumptions/51.md). -/
def State.provEval (s : State) (c v : Nat) (pr : Prediction) : State :=
  let sub := (s.visit c v).sub
  let tol := s.stnTol (s.visStation c v)
  let far (p : Int) : Bool := tol < (p - sub).natAbs
  if s.freezePoint c v ≤ s.now then
    let s1 := s.visFreeze c v
    match pr with
    | .at_ p => if far p then s1.trkEvent 6 v .none c (driftOf (uns 64 p) sub) (uns 64 p) else s1
    | _ => s1
  else match pr with
    | .none => s.visWithdraw c v 1
    | .passed => s.visRepredict c v none
    | .at_ p => if far p then s.visRepredict c v (some (uns 64 p)) else s

/-- The tracker evaluates the next visit of its sweeps with the sweep's sample (R167, R170, R173). An evaluation that must
ebb waits while another re-prediction is in progress (R170).
Marked DEDUCED and unsafe (notes/assumptions/51.md). -/
def State.visitEvaluate (s : State) : State :=
  match s.sweepNext with
  | none => s
  | some (i, c, v) =>
    let sl := s.slot i
    let s1 := s.setSlot i { sl with sweep := sl.sweep.erase (c, v) }
    let pr := s.visPredict i c v
    let busy := s.trk.repred.any fun r => r.ctx = c && r.visit = v
    let t := match sl.hist with | x :: _ => x.inst | [] => 0
    let mark (u : State) : State := u.setVisit c v { u.visit c v with seen := true, sampled := t }
    if s.trkHalted then s
    else if !s.ctxOpen c || busy then s1
    else if s.vstate c v = 1 then ((s1.setVisit c v { s1.visit c v with sampled := t }).waitEval c v pr).trkSettle c
    else if s.vstate c v = 2 then
      if s.trk.repred.isSome && s.now < s.freezePoint c v then s
      else if s.now < s.freezePoint c v then ((mark s1).provEval c v pr).trkSettle c
      else (s1.provEval c v pr).trkSettle c
    else s1

/-- The result of the re-prediction's ebb reaches the tracker (R171). -/
def State.repredResult (s : State) : State :=
  match s.trk.repred with
  | none => s
  | some r =>
    let e := s.ebbOf .tracker
    let s1 := { (s.ebbDone .tracker) with trk := { s.trk with repred := none } }
    let p := r.pred.getD (s.visit r.ctx r.visit).sub
    let s2 := s1.ebbOutcome e r.ctx r.visit p fun t =>
      let w := t.visEnd r.ctx r.visit 1
      if r.next = 2 then t.visEnd r.ctx r.visit 11
      else if r.next = 1 then w
      else w.waitEval r.ctx r.visit (match r.pred with | some q => .at_ q | none => .passed)
    s2.trkSettle r.ctx

/-- A provisional visit reaches F without any evaluation since its submission (R169). -/
def State.freezeDue (s : State) (c v : Nat) : State :=
  let busy := s.trk.repred.any fun r => r.ctx = c && r.visit = v
  if s.vstate c v = 2 && !(s.visit c v).seen && !busy && s.freezePoint c v ≤ s.now then s.visFreeze c v else s

/-- A frozen visit's instant passes (R169); so it ends for a visit that was evaluated before F and never again. -/
def State.visitDone (s : State) (c v : Nat) : State :=
  let busy := s.trk.repred.any fun r => r.ctx = c && r.visit = v
  if (s.vstate c v = 3 || (s.vstate c v = 2 && !busy)) && (s.visit c v).sub ≤ s.now then (s.visEnd c v 4).trkSettle c else s

/-- CANCEL of an open context (R175). -/
def State.ctxCancel (s : State) (c : Nat) : State :=
  { s with trk := { s.trk with timeouts := s.trk.timeouts.filter fun x => x ≠ c } }.ctxWithdraw c 11 fun _ => true

/-! ### The region (R161, R177–R181) -/

/-- The part of the tracker region that an address lies in: 0 station, 1 template, 2 class map, 3 context, and the entry. -/
def trkLocate (a : Nat) : Option (Nat × Nat) :=
  if 0x3C000000 ≤ a && a < 0x3C100000 then some (3, (a - 0x3C000000) / 64)
  else if 0x3C100000 ≤ a && a < 0x3C104000 then some (0, (a - 0x3C100000) / 64)
  else if 0x3C200000 ≤ a && a < 0x3C210000 then some (1, (a - 0x3C200000) / 256)
  else if 0x3C300000 ≤ a && a < 0x3C300400 then some (2, (a - 0x3C300000) / 4)
  else none

/-- The writable bits of a word of the tracker region; none for a reserved word. -/
def trkMask (a : Nat) : Option Nat :=
  match trkLocate a with
  | some (0, _) =>
    match a % 64 with
    | 0x08 => some 0x8000FFFF | 0x10 => some 0x7FFFFF | 0x1C => some 0xFFFF
    | 0x00 | 0x04 | 0x0C | 0x14 | 0x18 | 0x20 => some 0xFFFFFFFF
    | _ => none
  | some (1, _) =>
    let o := a % 256
    if o = 0 then some 0xF else if o = 4 then some 0xFFFFFFFF
    else if 0x10 ≤ o && o < 0x90 then some (if o % 16 = 0 then 0x3FF else 0xFFFFFFFF) else none
  | some (2, _) => some 0x800000FF
  | _ => none

/-- The checks of a station as it would stand after a write (R161). -/
def chkStation (s : State) (st : Nat) (new : Nat → Word) (offs : List Nat) : List (Bool × Reason) :=
  let was := s.stnValid st
  let now_ := bit (new 8) 31
  let sets := now_ && !was
  let src := fld (new 8) 0 16
  let q := fld (new 0x10) 0 16
  let lanes := fld (new 0x10) 16 7
  let queues := (List.range lanes).map fun k => q + k
  [(fld (new 0x1C) 0 16 = 0 || lanes = 0 || 64 < lanes
      || (sets && (!srcRangeOk src || 65536 < q + lanes || (1 < lanes && new 0x14 = 0))), .range),
   (sets && srcAbsent s.fuses src, .absent),
   ((was && now_ && offs.any fun o => o ≠ 0x1C)
      || (sets && (s.srcBadState src || (s.slotOf src).isNone
          || queues.any fun k => s.qF k 4 0 8 ≠ 0x20 && s.qF k 4 0 8 ≠ 0xFF)), .badState),
   (sets && queues.any fun k => !s.qBound k, .qUnbound)]

/-- The checks of a write to the tracker region, from the owner check on (R177–R181): the words it carries by address. -/
def chkTrkRegion (s : State) (m : Master) (ws : List (Nat × Word)) : List (Bool × Reason) :=
  let a := (ws.getD 0 (0, 0)).1
  let new (x : Nat) : Word := ((ws.find? fun e => e.1 = x).map fun e => e.2).getD (s.rd x)
  let pre : List (Bool × Reason) :=
    [(m ≠ .headland && m ≠ .host && m ≠ .debug, .notOwner),
     (ws.any fun e => e.1 < 0x3C100000 || (0x3C200000 ≤ e.1 && e.1 < 0x3C300000 && e.1 % 256 = 8), .readOnly),
     (ws.any fun e => match trkMask e.1 with | some k => e.2 &&& ~~~(wordOf k) ≠ 0 | none => true, .rsvdBits)]
  match trkLocate a with
  | some (0, st) => pre ++ chkStation s st (fun o => new (stationAddr st o)) (ws.map fun e => e.1 % 64)
  | some (1, t) => pre ++ [(decide (8 < fld (new (tplAddr t 0)) 0 4), Reason.range), (decide (s.rd (tplAddr t 8) ≠ 0), Reason.badState)]
  | _ => pre

/-- Apply a write to the tracker region: clearing VALID cancels the station's WAIT and PROV visits (R161). -/
def State.trkRegionStore (s : State) (ws : List (Nat × Word)) : State :=
  let s1 := ws.foldl (fun t e => t.wr e.1 e.2) s
  match trkLocate (ws.getD 0 (0, 0)).1 with
  | some (0, st) =>
    if s.stnValid st && !s1.stnValid st then
      s1.openCtxs.foldl (fun t c => t.ctxWithdraw c 11 fun v => t.visStation c v = st) s1
    else s1
  | _ => s1

/-- Record a rejected region write in TR_ERR (R177, R182). -/
def State.trkErr (s : State) (m : Master) (a : Nat) (r : Reason) : State :=
  match trkLocate a with
  | some (t, i) =>
    let e := s.reg .trk 0x50
    (if fld e 0 8 = 0 then s.setReg .trk 0x50 (wordOf (r.code + i % 1024 * 2 ^ 8 + t * 2 ^ 18 + m.id * 2 ^ 20))
      else s.setReg .trk 0x50 (setBit e 31 true)).irqBit .trk 5
  | none => s

/-! ### The page (R153, R156, R162, R182) -/

/-- A source is named by a valid station or an open context (R153). -/
def State.srcHeld (s : State) (id : Nat) : Bool :=
  (s.regs.any fun e => 0x3C100000 ≤ e.1 && e.1 < 0x3C104000 && e.1 % 64 = 8 && bit e.2 31 && fld e.2 0 16 = id)
    || s.openCtxs.any fun c => s.ctxSource c = id

/-- The checks of the Mark Tracker page. -/
def chkTrk (s : State) (w : Wr) : Chk :=
  let st := s.openStage w.m.id
  let slotOff (off : Nat) : Bool := 0x800 ≤ off && off < 0x900 && off % 16 = 0
  let slotBad (f : Nat → Word → Bool) : Bool := w.offs.any fun off => slotOff off && f ((off - 0x800) / 16) (s.after w off)
  let fw := 0xC00 ≤ w.off
  let f := (w.off - 0xC00) / 16
  let staged := tabGet? s.trk.fw (w.m.id * 64 + f)
  let commit := fw && w.off % 16 = 8
  { seq := (w.hits 0x68 && (st.lo.isNone || st.hi.isNone)) || (commit && staged.isNone),
    range :=
      (w.hits 0x40 && !epochLE (s.regF .trk 0x40 0 8) (w.fld 0x40 0 8))
      || ((w.hits 0x48 || w.hits 0x4C) &&
        (!logSizeOk (fld (s.after w 0x4C) 0 5) || !logSpanOk (s.after w 0x48).toNat (fld (s.after w 0x4C) 0 5) 16))
      || slotBad (fun _ v => fld v 16 12 < 2 || (bit v 31 && !srcRangeOk (fld v 0 16)))
      || (commit && staged.any fun t =>
          s.now < t || ((tabGet? s.src (0x4000 + f)).any fun x => t ≤ x.inst)),
    absent := (w.hits 0x74 && bit (w.word 0x74) 0 && !s.fuses.tidemark)
      || slotBad (fun _ v => bit v 31 && srcAbsent s.fuses (fld v 0 16)),
    state :=
      (w.hits 0x68 && !s.stnValid (w.fld 0x68 0 8))
      || (w.hits 0x70 && !s.ctxOpen (w.fld 0x70 0 14))
      || slotBad (fun i v =>
          (bit v 31 && (s.srcBadState (fld v 0 16)
            || (List.range 16).any fun j => j ≠ i && bit (s.slotCfg j) 31 && fld (s.slotCfg j) 0 16 = fld v 0 16))
          || (bit (s.slotCfg i) 31 && s.srcHeld (fld (s.slotCfg i) 0 16))) }

/-- An OPEN_CMD that passed its checks (R162): it consumes the staged origin, and the open arrives. -/
def State.openCmd (s : State) (m : Nat) (v : Word) : State :=
  let st := s.openStage m
  let stn := fld v 0 8
  (s.setOpenStage m { st with lo := none, hi := none }).openArrive
    ⟨1, (st.lo.getD 0).toNat + 2 ^ 32 * (st.hi.getD 0).toNat, s.stnSource stn, stn, fld v 8 8, fld v 16 8, st.cross,
      st.width, none, none, m⟩

/-- Stage one of the words held per master: OPEN_ORIGIN, OPEN_CROSS, OPEN_WIDTH (R162, R182). -/
def State.openStageWord (s : State) (m off : Nat) (v : Word) : State :=
  let st := s.openStage m
  if off = 0x58 then s.setOpenStage m { st with lo := some v }
  else if off = 0x5C then s.setOpenStage m { st with hi := some v }
  else if off = 0x60 then s.setOpenStage m { st with cross := v }
  else if off = 0x64 then s.setOpenStage m { st with width := v }
  else s

/-- A firmware sample's instant is staged, or its commit makes the sample (R156). -/
def State.fwWrite (s : State) (m : Master) (f : Nat) (commit : Bool) (v : Nat) : State :=
  let key := m.id * 64 + f
  if commit then
    match tabGet? s.trk.fw key with
    | some t =>
      { (s.setSrc (0x4000 + f) ⟨t, sgn 64 v⟩) with trk := { s.trk with fw := tabDel s.trk.fw key } }.setReg64 .trk
        (0xC08 + f * 16) v
    | none => s
  else { s with trk := { s.trk with fw := tabPut s.trk.fw key v } }

/-- The effects of a Mark Tracker page write beyond storing it. `s0` is the state before. -/
def effTrk (s0 : State) (w : Wr) (s : State) : State :=
  if 0xC00 ≤ w.off then s0.fwWrite w.m ((w.off - 0xC00) / 16) (w.off % 16 = 8) w.v
  else
    let s1 := if w.hits 0x48 || w.hits 0x4C then s.logAnew (s.reg .trk 0x48).toNat else s
    let s2 := if w.hits 0x54 && bit (w.word 0x54) 0 then s1.setReg .trk 0x50 0 else s1
    let s3 := w.offs.foldl (fun t off =>
        if 0x58 ≤ off && off ≤ 0x64 then (t.setReg .trk off (s0.reg .trk off)).openStageWord w.m.id off (w.word off) else t) s2
    let s4 := if w.hits 0x68 then s3.openCmd w.m.id (w.word 0x68) else s3
    let s5 := if w.hits 0x70 then s4.ctxCancel (w.fld 0x70 0 14) else s4
    let s6 := if w.hits 0x8C && bit (w.word 0x8C) 0 then s5.clearRegs (Page.base .trk + 0x78) (Page.base .trk + 0x8C) else s5
    w.offs.foldl (fun t off =>
      if 0x800 ≤ off && off < 0x900 && off % 16 = 0 then
        (t.setSlot ((off - 0x800) / 16) ⟨[], [], t.now, (tabGet? t.src (w.fld off 0 16)).map Sample.inst⟩).clearRegs (Page.base .trk + off + 4) (Page.base .trk + off + 16)
      else t) s6

/-! ### The commands -/

/-- TRACKER_SOURCE_SAMPLE. -/
def execTrackerSourceSample (slot : Nat) (s : State) : Host.Outcome State Fault Refusal := .next (s.slotSample slot)
/-- SOURCE_STALL. -/
def execSourceStall (slot : Nat) (s : State) : Host.Outcome State Fault Refusal := .next (s.slotStall slot)
/-- CONTEXT_OPEN_DEFERRED. -/
def execContextOpenDeferred (s : State) : Host.Outcome State Fault Refusal := .next s.openDeferred
/-- VISIT_EVALUATE. -/
def execVisitEvaluate (s : State) : Host.Outcome State Fault Refusal := .next s.visitEvaluate
/-- REPREDICTION_RESULT. -/
def execRepredictionResult (s : State) : Host.Outcome State Fault Refusal := .next s.repredResult
/-- VISIT_FREEZE. -/
def execVisitFreeze (ctx visit : Nat) (s : State) : Host.Outcome State Fault Refusal := .next (s.freezeDue ctx visit)
/-- VISIT_DONE. -/
def execVisitDone (ctx visit : Nat) (s : State) : Host.Outcome State Fault Refusal := .next (s.visitDone ctx visit)

end Sys2Proof.Machine
end

