-- ==== Sys2Proof/Machine/RollMap.lean ====
section
/-! DEFINITION. The roll map (R183–R188): its records, drop and overwrite policy, the append window, and its page. -/
namespace Sys2Proof.Machine

/-- A roll-map record without its CRC (R183). -/
structure RmRecord where
  coord : Nat
  cross : Word
  area : Word
  bwidth : Nat
  length : Nat
  cls : Nat
  size : Nat
  flags : Nat
  patch : Nat
  context : Nat
deriving DecidableEq, Repr

/-- The bytes of a record, its CRC last (R183). -/
def RmRecord.bytes (r : RmRecord) : List Nat :=
  let body := bytesLE 8 r.coord ++ bytesLE 4 r.cross.toNat ++ bytesLE 4 r.area.toNat ++ bytesLE 3 r.bwidth
    ++ bytesLE 3 r.length ++ [r.cls % 256, r.size % 256] ++ bytesLE 2 r.flags ++ bytesLE 2 r.patch ++ bytesLE 2 r.context
  body ++ bytesLE 2 (crc16 body).toNat

/-- RM_FILL (R184). -/
def State.rmFill (s : State) : Nat := (s.reg .rmap 0x44 - s.reg .rmap 0x48).toNat

/-- The address of a slot of the ring. -/
def rmAddr (n : Nat) : Nat := 0x3D000000 + n % 65536 * 32

/-- CLASS_POL of a class: 1 overwrites (R184). -/
def State.rmOverwrites (s : State) (c : Nat) : Bool := bit (s.reg .rmap (0x800 + c / 32 * 4)) (c % 32)

/-- Make room for a record of a class (R184): the slot it will take, or none when it is dropped. -/
def State.rmRoom (s : State) (c : Nat) : Option Nat × State :=
  let slot := (s.reg .rmap 0x44).toNat % 65536
  if s.rmFill < 65536 then (some slot, s)
  else if s.rmOverwrites c then
    let old := (readByte s.mem (rmAddr (s.reg .rmap 0x48).toNat + 22)).toNat
    (some slot, (((s.wrapInc .rmap 0x48).satInc .rmap 0x58).satIncF .rmap (0xC00 + old * 4) 16 16).irqBit .rmap 1)
  else
    let s1 := ((s.satInc .rmap 0x54).satIncF .rmap (0xC00 + c * 4) 0 16).irqBit .rmap 1
    (none, { s1 with roll := { s1.roll with ovf := true } })

/-- Write a record in the next slot, for which room has been made (R184): OVF_BEFORE as owed, FILL when it is reached. -/
def State.rmPut (s : State) (r : RmRecord) : State :=
  let r1 := if s.roll.ovf then { r with flags := r.flags ||| 0x80 } else r
  let s1 := (s.putBytes (rmAddr (s.reg .rmap 0x44).toNat) r1.bytes).wrapInc .rmap 0x44
  let s2 := { s1 with roll := { s1.roll with ovf := false } }
  let thr := s.regF .rmap 0x50 0 17
  if thr ≠ 0 && s.rmFill < thr && s2.rmFill = thr then s2.irqBit .rmap 0 else s2

/-- One master's append window. -/
def State.append (s : State) (m : Nat) : Append := tabGet ⟨[], 0⟩ s.roll.append m
/-- The state with one master's append window replaced. -/
def State.setAppend (s : State) (m : Nat) (x : Append) : State :=
  { s with roll := { s.roll with append := tabPut s.roll.append m x } }

/-- A staged word of a master's append window, a write's own words first. -/
def State.appendWord (s : State) (w : Wr) (k : Nat) : Option Word :=
  if w.hits (0x900 + 4 * k) then some (w.word (0x900 + 4 * k)) else tabGet? (s.append w.m.id).words k

/-- The record that a commit of the append window makes (R186). -/
def State.appendRecord (s : State) (w : Wr) : RmRecord :=
  let g (k : Nat) : Nat := ((s.appendWord w k).getD 0).toNat
  ⟨g 0 + 2 ^ 32 * g 1, wordOf (g 2), wordOf (g 3), g 4 % 2 ^ 24, (g 4 + 2 ^ 32 * g 5) / 2 ^ 24 % 2 ^ 24, g 5 / 2 ^ 16 % 256,
    g 5 / 2 ^ 24, g 6 % 2 ^ 16, g 6 / 2 ^ 16, g 7 % 2 ^ 16⟩

/-- The egress links of R228: a part's lanes of two links each. -/
def State.egressLinkFitted (s : State) (l : Nat) : Bool := l < s.fuses.gheryOut

/-- The checks of the roll-map page (R185, R186, R188). -/
def chkRmap (s : State) (w : Wr) : Chk :=
  let commit := w.hits 0x91C
  let r := s.appendRecord w
  { seq := commit && (List.range 7).any fun k => (s.appendWord w k).isNone,
    range := (w.hits 0x40 && 1 < w.fld 0x40 0 2)
      || (w.hits 0x48 && s.rmFill < (w.word 0x48 - s.reg .rmap 0x48).toNat)
      || (w.hits 0x50 && 65536 < w.fld 0x50 0 17)
      || (commit && (w.fld 0x91C 16 16 ≠ 0 || r.flags &&& 0x8EF ≠ 0)),
    absent := w.hits 0x40 && !s.egressLinkFitted (w.fld 0x40 2 2),
    state := (w.hits 0x40 && s.rmFill ≠ 0 && s.changes w 0x40 0 2)
      || (w.hits 0x48 && s.regF .rmap 0x40 0 2 = 1)
      || (commit && r.context ≠ 0xFFFF && !(r.context < 16384 && s.ctxOpen r.context)) }

/-- A commit of the append window (R186): FW set, the CRC computed, the record written under R184.
Marked DEDUCED and unsafe (notes/assumptions/56.md). -/
def State.appendCommit (s : State) (w : Wr) : State :=
  let r := s.appendRecord w
  let (slot, s1) := s.rmRoom r.cls
  match slot with
  | some n => (s1.rmPut { r with flags := r.flags ||| 0x40 }).setAppend w.m.id ⟨[], wordOf (1 + n * 2 ^ 16)⟩
  | none => s1.setAppend w.m.id ⟨[], 2⟩

/-- The effects of a roll-map page write beyond storing it.
Marked DEDUCED and unsafe (notes/assumptions/56.md). -/
def effRmap (w : Wr) (s : State) : State :=
  let s1 := w.offs.foldl (fun t off =>
      if 0x900 ≤ off && off < 0x91C then
        let x := t.append w.m.id
        t.setAppend w.m.id { x with words := tabPut x.words ((off - 0x900) / 4) (w.word off) }
      else t) s
  let s2 := if w.hits 0x91C then s1.appendCommit w else s1
  if w.hits 0x60 && bit (w.word 0x60) 0 then
    (s2.clearRegs (Page.base .rmap + 0x54) (Page.base .rmap + 0x5C)).clearRegs (Page.base .rmap + 0xC00)
      (Page.base .rmap + 0x1000)
  else s2

end Sys2Proof.Machine
end

