-- ==== Sys2Proof/Machine/Ghery.lean ====
section
/-! DEFINITION. Ghery stream links (R222–R261): lanes, alignment markers, training and link states, packets and their
checks, credits, and the lane and link pages. -/
namespace Sys2Proof.Machine

/-! ### Pages and registers -/

/-- The page of an ingress link by its first lane, and a register of its block (R260). -/
def inPage (l : Nat) : Page := .ghInL (l / 8)
/-- The offset of an ingress link's register. -/
def inOff (l r : Nat) : Nat := 0x800 + l % 8 * 0x80 + r
/-- An ingress link's register. -/
def State.inReg (s : State) (l r : Nat) : Word := s.reg (inPage l) (inOff l r)
/-- The offset of an egress link's register (R261). -/
def outOff (k r : Nat) : Nat := 0x800 + k * 0x80 + r
/-- An egress link's register. -/
def State.outReg (s : State) (k r : Nat) : Word := s.reg .ghOutL (outOff k r)
/-- The page of an ingress lane (R258). -/
def rxPage (l : Nat) : Page := .ghIn (l / 4)
/-- The offset of an ingress lane's register. -/
def rxOff (l r : Nat) : Nat := 0x800 + l % 4 * 0x40 + r
/-- The page of an egress lane (R259). -/
def txPage (k : Nat) : Page := .ghOut (k / 2)
/-- The offset of an egress lane's register. -/
def txOff (k r : Nat) : Nat := 0x800 + k % 2 * 0x40 + r

/-- The lanes of a width code (R228, R229). -/
def laneCount (code : Nat) : Nat := 2 ^ code
/-- LINK_CFG.EN of an ingress link. -/
def State.inEn (s : State) (l : Nat) : Bool := bit (s.inReg l 0) 0
/-- Lanes of an ingress link. -/
def State.inW (s : State) (l : Nat) : Nat := laneCount (fld (s.inReg l 0) 1 2)
/-- STATE of an ingress link: 0 DOWN, 1 TRAIN, 2 READY, 3 UP. -/
def State.inState (s : State) (l : Nat) : Nat := fld (s.inReg l 4) 0 2
/-- LINK_CFG.EN of an egress link. -/
def State.outEn (s : State) (k : Nat) : Bool := bit (s.outReg k 0) 0
/-- Lanes of an egress link. -/
def State.outW (s : State) (k : Nat) : Nat := laneCount (fld (s.outReg k 0) 1 2)
/-- STATE of an egress link. -/
def State.outState (s : State) (k : Nat) : Nat := fld (s.outReg k 4) 0 2

/-- The enabled ingress link that a lane belongs to. -/
def State.inLinkOf (s : State) (lane : Nat) : Option Nat :=
  (List.range 24).find? fun l => s.inEn l && l ≤ lane && lane < l + s.inW l
/-- The enabled egress link that a lane belongs to. -/
def State.outLinkOf (s : State) (lane : Nat) : Option Nat :=
  (List.range 4).find? fun k => s.outEn k && k ≤ lane && lane < k + s.outW k

/-- An ingress link's own state. -/
def State.inLink (s : State) (l : Nat) : InLink :=
  tabGet ⟨[0, 0], [], [0, 0], [0, 0], [0, 0], 0, [], 0, []⟩ s.gh.inl l
/-- The state with an ingress link's own state replaced. -/
def State.setIn (s : State) (l : Nat) (x : InLink) : State := { s with gh := { s.gh with inl := tabPut s.gh.inl l x } }
/-- An egress link's own state. -/
def State.txLink (s : State) (k : Nat) : TxLink :=
  tabGet ⟨false, 0, [0, 0, 0, 0], false, 0, [], [], 0, 0, none, [0, 0, 0, 0], []⟩ s.gh.tx k
/-- The state with an egress link's own state replaced. -/
def State.setTx (s : State) (k : Nat) (x : TxLink) : State := { s with gh := { s.gh with tx := tabPut s.gh.tx k x } }
/-- A receiving lane's own state. -/
def State.rxLane (s : State) (l : Nat) : RxLane := tabGet ⟨none, 0, 0⟩ s.gh.rx l
/-- The state with a receiving lane's own state replaced. -/
def State.setRx (s : State) (l : Nat) (x : RxLane) : State := { s with gh := { s.gh with rx := tabPut s.gh.rx l x } }

/-- A camera with EN = 1 names an ingress link: CAM_CFG of camera 2g + k (R189, R219). -/
def State.camCfg (s : State) (c : Nat) : Word := s.reg (.surfG (c / 2)) (0x800 + c % 2 * 0x40)
/-- EN of a camera. -/
def State.camEn (s : State) (c : Nat) : Bool := bit (s.camCfg c) 0
/-- The camera with EN = 1 that names an ingress link. -/
def State.linkCamera (s : State) (l : Nat) : Option Nat :=
  (List.range 16).find? fun c => s.camEn c && fld (s.camCfg c) 1 5 = l

/-! ### Link states (R234–R237) -/

/-- An ingress link takes a state and raises its event (R260); a TRAIN or DOWN link starts anew: limits and counts 0, its
waiting lines stay with Surf's side only while UP. -/
def State.inEnter (s : State) (l st : Nat) : State :=
  let was := s.inState l
  let s1 := s.setRegF (inPage l) (inOff l 4) 0 2 st
  let s2 := if was = st then s1 else s1.irqBit (inPage l) (l % 8)
  let s3 := if was = 3 && st ≠ 3 then s2.satInc (inPage l) (inOff l 0x20) else s2
  if st ≤ 1 then
    let x := s3.inLink l
    s3.setIn l { x with used := [0, 0], freed := [0, 0], limit := [0, 0], lines := if st = 0 then [] else x.lines.map fun g => { g with credits := 0 } }
  else s3

/-- An egress link takes a state and raises its event (R261); entering TRAIN sets limits and counts to 0 (R234, R249). -/
def State.outEnter (s : State) (k st : Nat) : State :=
  let was := s.outState k
  let s1 := s.setRegF .ghOutL (outOff k 4) 0 2 st
  let s2 := if was = st then s1 else s1.irqBit .ghOutL k
  let s3 := if was = 3 && st ≠ 3 then s2.satInc .ghOutL (outOff k 0x30) else s2
  if st ≤ 1 then
    let s4 := s3.clearRegs (Page.base .ghOutL + outOff k 0x0C) (Page.base .ghOutL + outOff k 0x2C)
    s4.setTx k { s4.txLink k with ready := false, z := s.now, upDue := false, amCnt := 0, creditSeq := none,
                                  trainSeq := [0, 0, 0, 0], seq := [0, 0, 0, 0] }
  else s3

/-- Credits of VC 0 that an ingress link's buffer holds (R250). -/
def State.inBuffer (s : State) (l v : Nat) : Nat := if v = 0 then 32 * s.inW l else if v = 1 then 4 else 0

/-- The cumulative limit that an ingress link grants on a VC (R249, R250). -/
def State.inGrant (s : State) (l v : Nat) : Nat :=
  if s.inState l < 2 then 0 else ((s.inLink l).freed.getD v 0 + s.inBuffer l v) % 2 ^ 32

/-! ### Words and packets (R229, R238–R246) -/

/-- The bytes of words, byte 0 first. -/
def wordBytes (ws : List DWord) : List Nat := ws.flatMap fun w => bytesLE 8 w.toNat

/-- The words of bytes, zero-filled. -/
def bytesWords : Nat → List Nat → List DWord
  | 0, _ => []
  | n + 1, bs => BitVec.ofNat 64 (ofBytesLE (bs.take 8)) :: bytesWords n (bs.drop 8)

/-- A head word (R238). -/
def headWord (type vc tspec pad len seq : Nat) : DWord :=
  BitVec.ofNat 64 (type + vc * 2 ^ 10 + tspec * 2 ^ 12 + pad * 2 ^ 31 + len * 2 ^ 34 + seq * 2 ^ 48)

/-- A whole packet: head, parameter, payload, and the tail word with its CRC (R238, R239).
Marked DESIGN CHOICE and unsafe (notes/assumptions/59.md). -/
def packet (head param : DWord) (payload : List DWord) : List DWord :=
  head :: param :: payload ++ [BitVec.ofNat 64 (crc32 (wordBytes (head :: param :: payload))).toNat]

/-- A field of a packet's word. -/
def dfld (w : DWord) (lo n : Nat) : Nat := bitsN w.toNat lo n

/-- The CRC check of a packet's words (R239, R252). -/
def packetCrcOk (ws : List DWord) : Bool :=
  match ws.reverse with
  | tail :: body => 2 ≤ body.length && dfld tail 0 32 == (crc32 (wordBytes body.reverse)).toNat
  | [] => false

/-- Credits of a packet of LEN payload words (R248). -/
def credits (len : Nat) : Nat := (8 * (len + 3) + 255) / 256

/-- The pixel depth of a DEPTH code (R243). -/
def depthBits (d : Nat) : Nat := if d = 0 then 8 else if d = 1 then 10 else 12

/-- Pixels packed least significant bit first (R243). -/
def unpack (n b v : Nat) : List Nat := (List.range n).map fun i => v / 2 ^ (b * i) % 2 ^ b

/-- The protocol checks of an ingress packet on a VC whose CRC is valid (R241, R243, R246, R248, R252). -/
def State.inProtoBad (s : State) (l : Nat) (ws : List DWord) : Bool :=
  let h := ws.getD 0 0
  let p := ws.getD 1 0
  let type := dfld h 0 8
  let vc := dfld h 10 2
  let pad := dfld h 31 3
  let len := dfld h 34 14
  let tail := ws.getD (ws.length - 1) 0
  let x := s.inLink l
  let ahead := (x.limit.getD vc 0 + 2 ^ 32 - (x.used.getD vc 0 + credits len) % 2 ^ 32) % 2 ^ 32
  let common := dfld h 8 2 ≠ 0 || dfld tail 32 32 ≠ 0 || ws.length ≠ len + 3 || 2 ^ 31 ≤ ahead
  if type = 0x33 then
    let pixels := dfld p 16 16
    let bytes := (pixels * depthBits (dfld p 14 2) + 7) / 8
    common || vc ≠ 0 || dfld h 12 19 ≠ 0 || dfld p 0 14 ≠ 0 || dfld p 14 2 = 3 || pixels = 0 || 12288 < len
      || len ≠ (bytes + 7) / 8 || pad ≠ 8 * len - bytes
  else if type = 0x66 then
    common || vc ≠ 1 || dfld h 12 3 ≠ 0 || len ≠ 1 || pad ≠ 0
  else true

/-- Count an error of an ingress link, by its counter's offset (R260). -/
def State.inErr (s : State) (l off : Nat) (by_ : Nat := 1) : State :=
  (s.satInc (inPage l) (inOff l off) by_).irqBit (inPage l) (16 + l % 8)

/-- Return credits on a VC of an ingress link (R250). -/
def State.inReturn (s : State) (l v n : Nat) : State :=
  let x := s.inLink l
  s.setIn l { x with freed := listSet x.freed v (x.freed.getD v 0 + n) }

/-- Take up an accepted LINE packet (R243, R250): into the link's buffer, or discarded where no camera names the link. -/
def State.takeLine (s : State) (l : Nat) (ws : List DWord) : State :=
  let h := ws.getD 0 0
  let p := ws.getD 1 0
  let n := credits (dfld h 34 14)
  match s.linkCamera l with
  | none => s.inReturn l 0 n
  | some _ =>
    let b := depthBits (dfld p 14 2)
    let bits := ofBytesLE (wordBytes ((ws.drop 2).dropLast))
    let x := s.inLink l
    s.setIn l { x with lines := x.lines ++ [⟨wordOf (dfld p 32 32), dfld p 14 2, unpack (dfld p 16 16) b bits, n⟩] }

/-- Record an accepted EVENT packet (R246, R260): its credit is returned once it is recorded. -/
def State.takeEvent (s : State) (l : Nat) (ws : List DWord) : State :=
  let h := ws.getD 0 0
  let p := ws.getD 1 0
  let v := ws.getD 2 0
  let pg := inPage l
  let s1 := ((s.setRegF pg (inOff l 0x28) 0 16 (dfld h 15 16)).satIncF pg (inOff l 0x28) 16 16).setReg64 pg (inOff l 0x2C) s.now
  let s2 := (s1.setReg64 pg (inOff l 0x34) p.toNat).setReg64 pg (inOff l 0x3C) v.toNat
  (s2.irqBit pg (8 + l % 8)).inReturn l 1 1

/-- A packet of LINE or EVENT type arrives on an ingress link (R238–R252): `framed` says that its LEN + 3 words arrived with
no invalid sync header and no other head block among them.
Marked DESIGN CHOICE and unsafe (notes/assumptions/59.md). -/
def State.packetReceive (s : State) (l : Nat) (ws : List DWord) (framed : Bool) : State :=
  if s.inState l ≠ 3 then s
  else if !framed then s.inErr l 0x18
  else
    let h := ws.getD 0 0
    let vc := dfld h 10 2
    let n := credits (dfld h 34 14)
    let x := s.inLink l
    let held (t : State) : State :=
      let y := t.inLink l
      if vc < 2 then t.setIn l { y with used := listSet y.used vc (y.used.getD vc 0 + n) } else t
    if !packetCrcOk ws then ((held s).inReturn l vc n).inErr l 0x10
    else if s.inProtoBad l ws then ((held s).inReturn l vc n).inErr l 0x1C
    else
      let d := (dfld h 48 16 + 2 ^ 16 - x.expect.getD vc 0) % 2 ^ 16
      if 32768 ≤ d then ((held s).inReturn l vc n).inErr l 0x1C
      else
        let s1 := (held s).setIn l { (held s).inLink l with expect := listSet x.expect vc ((dfld h 48 16 + 1) % 2 ^ 16) }
        let s2 := if d = 0 then s1 else s1.inErr l 0x14 d
        let s3 := s2.wrapInc (inPage l) (inOff l 0x0C)
        if dfld h 0 8 = 0x33 then s3.takeLine l ws else s3.takeEvent l ws

/-! ### Training -/

/-- A TRAIN packet's parameter word (R242). -/
def trainParam (devid role state width lane : Nat) : DWord :=
  BitVec.ofNat 64 (lane + width * 2 ^ 4 + state * 2 ^ 8 + role * 2 ^ 16 + devid * 2 ^ 32)

/-- A TRAIN packet's fields are as R238 and R242 allow. -/
def trainOk (ws : List DWord) (role : Nat) : Bool :=
  let h := ws.getD 0 0
  let p := ws.getD 1 0
  packetCrcOk ws && ws.length == 3 && dfld h 0 8 == 0x1E && dfld h 8 40 == 0 && dfld p 16 4 == role && dfld p 12 4 == 0
    && dfld p 20 12 == 0

/-- An ingress link leaves UP or READY for TRAIN (R236): a packet in progress is discarded with FRAME_ERR. -/
def State.inRetrain (s : State) (l : Nat) (inPacket : Bool) : State :=
  if 2 ≤ s.inState l then
    let s1 := if inPacket && s.inState l = 3 then s.inErr l 0x18 else s
    let s2 := s1.inEnter l 1
    (List.range (s.inW l)).foldl (fun t j => t.setRx (l + j) { t.rxLane (l + j) with trains := 0 }) s2
  else s

/-- An egress link returns to TRAIN (R236). -/
def State.outRetrain (s : State) (k : Nat) : State :=
  if s.outState k = 3 then (s.setRegF .ghOutL (outOff k 4) 2 1 0).outEnter k 1 else s

/-- The sideband of an egress link has been silent for 8 µs (R237). -/
def State.sbExpired (s : State) (k : Nat) : Bool := (s.txLink k).z + 64000 ≤ s.now

/-- SIDEBAND_TIMEOUT: UP falls to TRAIN with CRED_LOST (R236, R237). -/
def State.sidebandTimeout (s : State) (k : Nat) : State :=
  if s.outState k = 3 && s.sbExpired k then
    ((s.outEnter k 1).setRegF .ghOutL (outOff k 4) 2 1 1).irqBit .ghOutL (4 + k)
  else s

/-- A sideband frame on an egress link is discarded (R233): SB_ERR of its lane. -/
def State.sbErr (s : State) (k : Nat) : State := s.satInc (txPage k) (txOff k 8)

/-- A TRAIN packet arrives on an ingress data lane (R234–R236). -/
def State.trainIn (s : State) (lane : Nat) (ws : List DWord) : State :=
  match s.inLinkOf lane with
  | none => s
  | some l =>
    let p := ws.getD 1 0
    let good := trainOk ws 0 && dfld p 0 4 = lane - l && dfld p 4 4 = fld (s.inReg l 0) 1 2
    if s.inState l = 3 then s.inRetrain l false
    else
      let x := s.rxLane lane
      let s1 := s.setRx lane { x with trains := if good then min 8 (x.trains + 1) else 0 }
      if good then s1.setReg (inPage l) (inOff l 8) (wordOf (dfld p 32 32)) else s1

/-- A TRAIN packet arrives on an egress link's sideband (R234, R236). -/
def State.trainSb (s : State) (k : Nat) (ws : List DWord) : State :=
  if !s.outEn k then s
  else if !trainOk ws 1 then s.sbErr k
  else if s.outState k = 3 && s.sbExpired k then s
  else
    let p := ws.getD 1 0
    let s1 := (s.setTx k { s.txLink k with z := s.now }).setReg .ghOutL (outOff k 8) (wordOf (dfld p 32 32))
    if dfld p 8 4 = 1 then (if s.outState k = 1 then s1.setTx k { s1.txLink k with ready := true } else s1)
    else s1.outRetrain k

/-- A CREDIT packet arrives on an egress link's sideband (R233, R237, R240, R249).
Marked DESIGN CHOICE and unsafe (notes/assumptions/59.md). -/
def State.creditReceive (s : State) (k : Nat) (ws : List DWord) : State :=
  let h := ws.getD 0 0
  if !s.outEn k then s
  else if !(packetCrcOk ws && ws.length = 4 && dfld h 0 8 = 0x78 && dfld h 34 14 = 1 && dfld h 8 26 = 0) then s.sbErr k
  else if s.outState k ≠ 3 || s.sbExpired k then s
  else
    let x := s.txLink k
    let seq := dfld h 48 16
    let old := x.creditSeq.any fun q => (seq + 2 ^ 16 - q) % 2 ^ 16 = 0 || 2 ^ 15 ≤ (seq + 2 ^ 16 - q) % 2 ^ 16
    let s1 := s.setTx k { x with z := s.now }
    if old then s1
    else
      let s2 := s1.setTx k { s1.txLink k with creditSeq := some seq }
      let p := (ws.getD 1 0).toNat + 2 ^ 64 * (ws.getD 2 0).toNat
      (List.range 4).foldl (fun t v =>
        let new := wordOf (p / 2 ^ (32 * v))
        if (new - t.outReg k (0x0C + 4 * v)).toNat < 2 ^ 31 then t.setReg .ghOutL (outOff k (0x0C + 4 * v)) new else t) s2

/-- Every lane of an ingress link meets the conditions of R235. -/
def State.inLanesGood (s : State) (l : Nat) : Bool :=
  (List.range (s.inW l)).all fun j =>
    let st := s.reg (rxPage (l + j)) (rxOff (l + j) 4)
    bit st 2 && !bit st 3 && bit st 4 && fld st 8 7 ≤ 64 && (s.rxLane (l + j)).trains = 8

/-- RECEIVER_READY (R235). -/
def State.receiverReady (s : State) (l : Nat) : State :=
  if s.inState l = 1 && s.inLanesGood l then s.inEnter l 2 else s

/-- RECEIVER_UP (R235, R240): at the first AM after which lane 0's next block is no TRAIN head. -/
def State.receiverUp (s : State) (l : Nat) : State :=
  if s.inState l = 2 then (s.inEnter l 3).setIn l { s.inLink l with expect := [0, 0] } else s

/-- TRANSMITTER_UP (R234, R246): striped operation starts at the AM after TRAIN READY, and LINK_UP is owed. -/
def State.transmitterUp (s : State) (k : Nat) : State :=
  if s.outState k = 1 && (s.txLink k).ready then
    let s1 := s.outEnter k 3
    s1.setTx k { s1.txLink k with seq := [0, 0, 0, 0], upDue := true }
  else s

/-- An alignment marker is due on a lane of an ingress link (R229, R231, R232): what stood at its position, whether its BIP
matched, and the lane's skew in UI. -/
def State.amReceive (s : State) (lane : Nat) (am : Option DWord) (bipOk : Bool) (skew : Nat) : State :=
  match s.inLinkOf lane with
  | none => s
  | some l =>
    let x := s.rxLane lane
    let pg := rxPage lane
    let w := am.getD 0
    let isAm := am.isSome && dfld w 0 8 = 0x87
    let cnt := dfld w 32 32
    let mis := isAm && dfld w 8 8 ≠ lane - l
    let follows := x.amCnt.any fun c => (c + 1) % 2 ^ 32 = cnt
    let locked := bit (s.reg pg (rxOff lane 4)) 4
    let bad := !isAm || mis || dfld w 16 4 ≠ fld (s.inReg l 0) 1 2 || (x.amCnt.isSome && !follows)
    let n := if bad then x.amBad + 1 else 0
    let lock := if locked then decide (n < 4) else !bad && follows
    let s1 := s.setRx lane { x with amCnt := if isAm then some cnt else x.amCnt.map fun c => (c + 1) % 2 ^ 32, amBad := n }
    let s2 := if bad && x.amCnt.isSome then s1.satInc pg (rxOff lane 0x10) else s1
    let s3 := if isAm && !bipOk && cnt ≠ 0 then s2.satInc pg (rxOff lane 0x0C) else s2
    let s4 := (s3.setRegF pg (rxOff lane 4) 4 1 (if lock then 1 else 0)).setRegF pg (rxOff lane 4) 8 7 (min skew 127)
    let s5 := if mis then s4.setRegF (inPage l) (inOff l 4) 3 1 1 else s4
    let s6 := if 64 < skew then s5.setRegF (inPage l) (inOff l 4) 2 1 1 else s5
    if (locked && !lock) || 64 < skew then s6.inRetrain l false else s6

/-- Every 16,384th block each lane of a transmitting link sends an AM (R229): `bips` are the parities of the blocks that the
lanes sent since the last. -/
def State.amSend (s : State) (k : Nat) (bips : List Nat) : State :=
  if s.outState k = 0 then s
  else
    let x := s.txLink k
    let am (j : Nat) : DWord := BitVec.ofNat 64 (0x87 + j * 2 ^ 8 + fld (s.outReg k 0) 1 2 * 2 ^ 16
      + (if x.amCnt = 0 then 0 else bips.getD j 0 % 256) * 2 ^ 24 + x.amCnt % 2 ^ 32 * 2 ^ 32)
    s.setTx k { x with amCnt := x.amCnt + 1, ams := (List.range (s.outW k)).map am }

/-- A transmitter in TRAIN sends a TRAIN packet on a lane (R234, R240). -/
def State.trainSend (s : State) (k j : Nat) : State :=
  if s.outState k = 1 && j < s.outW k then
    let x := s.txLink k
    let q := x.trainSeq.getD j 0
    s.setTx k { x with
      trainSeq := listSet x.trainSeq j ((q + 1) % 2 ^ 16),
      trainLast := packet (headWord 0x1E 0 0 0 0 q)
        (trainParam (s.reg .ghOutL 0x40).toNat 0 0 (fld (s.outReg k 0) 1 2) j) [] }
  else s

/-- A TRAIN packet on an ingress link's sideband, SEEK (0) or READY (1), with the sideband's next TRAIN sequence number
(R235, R240, R242).
Marked DESIGN CHOICE and unsafe (notes/assumptions/59.md). -/
def State.sbTrain (s : State) (l state : Nat) : State :=
  let x := s.inLink l
  s.setIn l { x with
    sbSeq := (x.sbSeq + 1) % 2 ^ 16,
    sbLast := packet (headWord 0x1E 0 0 0 0 x.sbSeq)
      (trainParam (s.reg .ghOutL 0x40).toNat 1 state (fld (s.inReg l 0) 1 2) 0) [] }

/-- A receiver in TRAIN sends TRAIN SEEK (R235). -/
def State.seekSend (s : State) (l : Nat) : State := if s.inState l = 1 then s.sbTrain l 0 else s

/-- A receiver in READY sends TRAIN READY and CREDIT, in UP CREDIT, with the sideband's next CREDIT sequence number (R235,
R237, R240, R242, R250). -/
def State.creditSend (s : State) (l : Nat) : State :=
  if 2 ≤ s.inState l then
    let s1 := if s.inState l = 2 then s.sbTrain l 1 else s
    let g := [s.inGrant l 0, s.inGrant l 1]
    let x := s1.inLink l
    s1.setIn l { x with
      crSeq := (x.crSeq + 1) % 2 ^ 16, limit := g,
      crLast := packet (headWord 0x78 0 0 0 1 x.crSeq) (BitVec.ofNat 64 (g.getD 0 0 + g.getD 1 0 * 2 ^ 32)) [0] }
  else s

/-! ### Lanes (R226, R233) -/

/-- A receiving lane's signal, clock, block lock and HI_BER as the clause 49 state machine gives them, with the invalid sync
headers it has counted (R226, R231, R236, R258), and QUAD_STAT of its quad: a lane whose reference clock is not OK does
not lock (R224). -/
def State.blockLock (s0 : State) (lane quad : Nat) (signal cdr lock0 hiBer : Bool) (bad : Nat) : State :=
  let pg := rxPage lane
  let s := s0.setReg pg 0x40 (wordOf (quad % 4))
  let lock := lock0 && quad % 2 = 1
  let old := s.reg pg (rxOff lane 4)
  if !bit (s.reg pg (rxOff lane 0)) 0 then s
  else
    let b (x : Bool) : Nat := if x then 1 else 0
    let st := setFld (setFld old 0 3 (b signal + 2 * b cdr + 4 * b lock)) 3 1 (b hiBer)
    let s1 := (s.setReg pg (rxOff lane 4) (if lock then st else setFld st 4 1 0)).satInc pg (rxOff lane 8) bad
    let s2 := if bit old 2 && !lock then (s1.irqBit pg (lane % 4)).setRx lane ⟨none, 0, 0⟩ else s1
    let s3 := if hiBer && !bit old 3 then s2.irqBit pg (4 + lane % 4) else s2
    if (bit old 2 && !lock) || (hiBer && !bit old 3) then
      match s3.inLinkOf lane with
      | some l => s3.inRetrain l false
      | none => s3
    else s3

/-- 125 µs without an invalid sync header end HI_BER (R226). -/
def State.hiBerExit (s : State) (lane : Nat) : State := s.setRegF (rxPage lane) (rxOff lane 4) 3 1 0

/-- A sideband receiver aligns on K28.5, or loses the alignment (R233, R259); `quad` is QUAD_STAT of Q6. -/
def State.sbAlign (s0 : State) (k quad : Nat) (signal lock : Bool) : State :=
  let pg := txPage k
  let s := s0.setReg pg 0x40 (wordOf (quad % 4))
  let old := s.reg pg (txOff k 4)
  let s1 := s.setReg pg (txOff k 4) (setBit (setBit old 4 signal) 5 lock)
  if bit old 5 && !lock then s1.irqBit pg (k % 2) else s1

/-- LINK_RETRAIN of an ingress (`out` false) or egress link for one of the causes of R236. -/
def State.linkRetrain (s : State) (out : Bool) (l : Nat) (inPacket : Bool) : State :=
  if out then s.outRetrain l else s.inRetrain l inPacket

/-! ### The pages (R257–R261) -/

/-- The checks of LINK_CFG of a link with first lane l in a direction of n lanes, before the lanes' own (R257). -/
def linkRangeBad (l n width : Nat) (maxCode : Nat) : Bool :=
  maxCode < width || l % laneCount width ≠ 0 || n < l + laneCount width

/-- The checks of an ingress lane page: lanes of an enabled link take no LANE_CFG write (R257, R258). -/
def chkGhIn (s : State) (q : Nat) (w : Wr) : Chk :=
  let cfg (off : Nat) : Bool := 0x800 ≤ off && (off - 0x800) % 0x40 = 0
  { range := w.offs.any fun o => cfg o && (w.fld o 2 2 = 3 || 1 < w.fld o 4 2),
    state := w.offs.any fun o => cfg o && (s.inLinkOf (4 * q + (o - 0x800) / 0x40)).isSome }

/-- The effects of an ingress lane page write: LANE_CLR; a lane powered down loses its status. -/
def effGhIn (q : Nat) (w : Wr) (s : State) : State :=
  w.offs.foldl (fun t o =>
    let lane := 4 * q + (o - 0x800) / 0x40
    if 0x800 ≤ o && (o - 0x800) % 0x40 = 0x18 && bit (w.word o) 0 then
      t.clearRegs (Page.base (.ghIn q) + o - 0x10) (Page.base (.ghIn q) + o)
    else if 0x800 ≤ o && (o - 0x800) % 0x40 = 0 && !bit (w.word o) 0 then
      (t.setReg (.ghIn q) (o + 4) 0).setRx lane ⟨none, 0, 0⟩
    else t) s

/-- The checks of an egress lane page (R257, R259). -/
def chkGhOut (s : State) (p : Nat) (w : Wr) : Chk :=
  { state := w.offs.any fun o => 0x800 ≤ o && (o - 0x800) % 0x40 = 0 && (s.outLinkOf (2 * p + (o - 0x800) / 0x40)).isSome }

/-- The effects of an egress lane page write: TXL_CLR. -/
def effGhOut (p : Nat) (w : Wr) (s : State) : State :=
  w.offs.foldl (fun t o =>
    if 0x800 ≤ o && (o - 0x800) % 0x40 = 0x0C && bit (w.word o) 0 then t.setReg (.ghOut p) (o - 4) 0 else t) s

/-- The checks of an ingress link page (R71, R257, R260). -/
def chkGhInL (s : State) (i : Nat) (w : Wr) : Chk :=
  let one (o : Nat) : Chk :=
    if o < 0x800 then {}
    else
      let l := 8 * i + (o - 0x800) / 0x80
      let lanes (n : Nat) : List Nat := (List.range n).map fun j => l + j
      let absent := s.fuses.gheryIn ≤ l
      if (o - 0x800) % 0x80 = 0 then
        let v := w.word o
        let width := fld v 1 2
        let sets := bit v 0 && !s.inEn l
        let n := laneCount width
        { range := sets && linkRangeBad l 24 width 3,
          absent := absent || (sets && s.fuses.gheryIn < l + n),
          state := (s.inEn l && fld v 1 2 ≠ fld (s.inReg l 0) 1 2)
            || (s.inEn l && !bit v 0 && (s.linkCamera l).isSome)
            || (sets && (lanes n).any fun x => (s.inLinkOf x).isSome || !bit (s.reg (rxPage x) (rxOff x 0)) 0
                || fld (s.reg (rxPage x) (rxOff x 0)) 4 2 ≠ 0 || !s.enabled (rxPage x)) }
      else { absent := absent }
  { range := w.offs.any fun o => (one o).range,
    absent := w.offs.any fun o => (one o).absent,
    state := w.offs.any fun o => (one o).state }

/-- The effects of an ingress link page write: EN set sends the link to TRAIN, EN cleared takes it DOWN; LINK_CLR. -/
def effGhInL (s0 : State) (i : Nat) (w : Wr) (s : State) : State :=
  w.offs.foldl (fun t o =>
    let l := 8 * i + (o - 0x800) / 0x80
    let r := (o - 0x800) % 0x80
    if o < 0x800 then t
    else if r = 0 then
      if bit (w.word o) 0 && !s0.inEn l then
        let t1 := (t.setReg (inPage l) (inOff l 4) 0).setIn l ⟨[0, 0], [], [0, 0], [0, 0], [0, 0], 0, [], 0, []⟩
        let t2 := (List.range (t.inW l)).foldl (fun u j => u.setRx (l + j) ⟨none, 0, 0⟩) t1
        t2.inEnter l 1
      else if !bit (w.word o) 0 && s0.inEn l then t.inEnter l 0
      else t
    else if r = 0x44 && bit (w.word o) 0 then
      (t.clearRegs ((inPage l).base + inOff l 0x0C) ((inPage l).base + inOff l 0x24)).setRegF (inPage l) (inOff l 0x28) 16 16 0
    else t) s

/-- The checks of the egress links page (R257, R261). -/
def chkGhOutL (s : State) (w : Wr) : Chk :=
  let one (o : Nat) : Chk :=
    if o < 0x800 then {}
    else
      let k := (o - 0x800) / 0x80
      let r := (o - 0x800) % 0x80
      let absent := s.fuses.gheryOut ≤ k
      let pending := bit (s.outReg k 0x44) 0
      if r = 0 then
        let v := w.word o
        let width := fld v 1 2
        let sets := bit v 0 && !s.outEn k
        let n := laneCount width
        { range := width = 3 || (sets && linkRangeBad k 4 width 2),
          absent := absent || (sets && s.fuses.gheryOut < k + n),
          state := (s.outEn k && width ≠ fld (s.outReg k 0) 1 2)
            || (sets && (List.range n).any fun j => (s.outLinkOf (k + j)).isSome
                || !bit (s.reg (txPage (k + j)) (txOff (k + j) 0)) 0 || bit (s.reg (txPage (k + j)) (txOff (k + j) 0)) 14
                || !s.enabled (txPage (k + j))) }
      else if r = 0x34 then { range := 0x8000 ≤ w.fld o 0 16, absent := absent, state := pending }
      else if r = 0x38 || r = 0x3C then { absent := absent, state := pending }
      else if r = 0x40 then { absent := absent, state := pending && bit (w.word o) 0 }
      else { absent := absent }
  { range := w.offs.any fun o => (one o).range,
    absent := w.offs.any fun o => (one o).absent,
    state := w.offs.any fun o => (one o).state }

/-- The effects of an egress links page write: EN, EVT_SEND, LINK_CLR. -/
def effGhOutL (s0 : State) (w : Wr) (s : State) : State :=
  w.offs.foldl (fun t o =>
    let k := (o - 0x800) / 0x80
    let r := (o - 0x800) % 0x80
    if o < 0x800 then t
    else if r = 0 then
      if bit (w.word o) 0 && !s0.outEn k then (t.setReg .ghOutL (outOff k 4) 0).outEnter k 1
      else if !bit (w.word o) 0 && s0.outEn k then t.outEnter k 0
      else t
    else if r = 0x40 && bit (w.word o) 0 then t.setReg .ghOutL (outOff k 0x44) 1
    else if r = 0x48 && bit (w.word o) 0 then (t.setReg .ghOutL (outOff k 0x2C) 0).setReg .ghOutL (outOff k 0x30) 0
    else t) s

/-- Live words of the Ghery pages: IN_LINK, LANE_IDX, TX_ON, CAMERA, CRED_FREE (R258–R260). -/
def State.gheryRead (s : State) (p : Page) (off : Nat) : Word :=
  let w := s.reg p off
  match p with
  | .ghIn q =>
    if 0x800 ≤ off && (off - 0x800) % 0x40 = 4 then
      let lane := 4 * q + (off - 0x800) / 0x40
      match s.inLinkOf lane with
      | some l => setFld (setFld w 16 3 (lane - l)) 19 1 1
      | none => w
    else w
  | .ghOut p' =>
    if 0x800 ≤ off && (off - 0x800) % 0x40 = 4 then
      let lane := 2 * p' + (off - 0x800) / 0x40
      match s.outLinkOf lane with
      | some k => setFld (setFld (setFld w 2 2 (lane - k)) 1 1 1) 0 1 (if 0 < s.outState k then 1 else 0)
      | none => w
    else w
  | .ghInL i =>
    let l := 8 * i + (off - 0x800) / 0x80
    if off < 0x800 then w
    else if (off - 0x800) % 0x80 = 4 then setBit w 4 (s.linkCamera l).isSome
    else if (off - 0x800) % 0x80 = 0x24 then
      let x := s.inLink l
      wordOf (if s.inState l < 2 then 0 else s.inBuffer l 0 - (x.used.getD 0 0 - x.freed.getD 0 0))
    else w
  | _ => w

/-! ### The commands -/

/-- LINE_PACKET_RECEIVE. -/
def execLinePacketReceive (link : Nat) (ws : List DWord) (framed : Bool) (s : State) : Host.Outcome State Fault Refusal :=
  .next (s.packetReceive link ws framed)
/-- GHERY_EVENT_RECEIVE. -/
def execGheryEventReceive (link : Nat) (ws : List DWord) (framed : Bool) (s : State) : Host.Outcome State Fault Refusal :=
  .next (s.packetReceive link ws framed)
/-- CREDIT_RECEIVE. -/
def execCreditReceive (link : Nat) (ws : List DWord) (s : State) : Host.Outcome State Fault Refusal :=
  .next (s.creditReceive link ws)
/-- TRAIN_RECEIVE, on an ingress data lane or on an egress link's sideband. -/
def execTrainReceive (sideband : Bool) (lane : Nat) (ws : List DWord) (s : State) : Host.Outcome State Fault Refusal :=
  .next (if sideband then s.trainSb lane ws else s.trainIn lane ws)
/-- AM_RECEIVE. -/
def execAmReceive (lane : Nat) (am : Option DWord) (bipOk : Bool) (skew : Nat) (s : State) :
    Host.Outcome State Fault Refusal := .next (s.amReceive lane am bipOk skew)
/-- AM_SEND. -/
def execAmSend (link : Nat) (bips : List Nat) (s : State) : Host.Outcome State Fault Refusal := .next (s.amSend link bips)
/-- TRAIN_SEND. -/
def execTrainSend (link lane : Nat) (s : State) : Host.Outcome State Fault Refusal := .next (s.trainSend link lane)
/-- TRAIN_SEEK_SEND. -/
def execTrainSeekSend (link : Nat) (s : State) : Host.Outcome State Fault Refusal := .next (s.seekSend link)
/-- CREDIT_SEND. -/
def execCreditSend (link : Nat) (s : State) : Host.Outcome State Fault Refusal := .next (s.creditSend link)
/-- RECEIVER_READY. -/
def execReceiverReady (link : Nat) (s : State) : Host.Outcome State Fault Refusal := .next (s.receiverReady link)
/-- RECEIVER_UP. -/
def execReceiverUp (link : Nat) (s : State) : Host.Outcome State Fault Refusal := .next (s.receiverUp link)
/-- TRANSMITTER_UP. -/
def execTransmitterUp (link : Nat) (s : State) : Host.Outcome State Fault Refusal := .next (s.transmitterUp link)
/-- LINK_RETRAIN. -/
def execLinkRetrain (out : Bool) (link : Nat) (inPacket : Bool) (s : State) : Host.Outcome State Fault Refusal :=
  .next (s.linkRetrain out link inPacket)
/-- SIDEBAND_TIMEOUT. -/
def execSidebandTimeout (link : Nat) (s : State) : Host.Outcome State Fault Refusal := .next (s.sidebandTimeout link)
/-- BLOCK_LOCK_CHANGE. -/
def execBlockLockChange (lane quad : Nat) (signal cdr lock hiBer : Bool) (bad : Nat) (s : State) :
    Host.Outcome State Fault Refusal := .next (s.blockLock lane quad signal cdr lock hiBer bad)
/-- HI_BER_EXIT. -/
def execHiBerExit (lane : Nat) (s : State) : Host.Outcome State Fault Refusal := .next (s.hiBerExit lane)
/-- SIDEBAND_ALIGNMENT. -/
def execSidebandAlignment (lane quad : Nat) (signal lock : Bool) (s : State) : Host.Outcome State Fault Refusal :=
  .next (s.sbAlign lane quad signal lock)

end Sys2Proof.Machine
end

