-- ==== Sys2Proof/Machine/Guard.lean ====
section
/-! DEFINITION. Access guards (R397–R404) and the interrupt controller's pages (R379–R385). -/
namespace Sys2Proof.Machine

/-- What a guard judges an access as (R398). -/
inductive AccessKind where
  | load | store | fetch
deriving DecidableEq, Repr

/-- Where a master's guard lies: its page, the offset of its GSEL, and the offset of its region table (R403, R404). -/
def guardOf : Master → Option (Page × Nat × Nat)
  | .headland => some (.guard 0, 0x40, 0x800)
  | .tracker => some (.guard 1, 0x40, 0x800)
  | .dma => some (.guard 2, 0x40, 0x800)
  | .rollWriter => some (.guard 3, 0x40, 0x800)
  | .host => some (.guard 4, 0x40, 0x800)
  | .debug => some (.guard 5, 0x40, 0x800)
  | .swell e => some (.guardS (e / 2), 0x40 + e % 2 * 0x20, 0x800 + e % 2 * 0x400)
  | .breakwater | .tidemark => none

/-- The offset of region r of set k within a guard's table. -/
def regionOff (tab k r : Nat) : Nat := tab + k * 0x200 + r * 0x10

/-- Region r of set k is valid and covers a byte (R398). -/
def State.regionCovers (s : State) (p : Page) (tab k r a : Nat) : Bool :=
  bit (s.reg p (regionOff tab k r + 8)) 0 && (s.reg p (regionOff tab k r)).toNat ≤ a
    && a ≤ (s.reg p (regionOff tab k r + 4)).toNat + 31

/-- The region that decides a byte: the lowest-numbered valid region of the set that covers it (R398). -/
def State.decidingRegion (s : State) (p : Page) (tab k a : Nat) : Option Nat :=
  (List.range 32).find? fun r => s.regionCovers p tab k r a

/-- The bit of RATTR that permits an access. -/
def AccessKind.permBit : AccessKind → Nat
  | .load => 1 | .store => 2 | .fetch => 3

/-- The guard permits one byte (R398); the Breach region is permitted to Headland only in Breach (R393). -/
def State.bytePermitted (s : State) (m : Master) (p : Page) (tab k : Nat) (kind : AccessKind) (a : Nat) : Bool :=
  if m = .headland && s.regionCovers p tab k 31 a then s.sv.breach
  else match s.decidingRegion p tab k a with
    | some r => bit (s.reg p (regionOff tab k r + 8)) kind.permBit
    | none => false

/-- Where a check of an access's bytes can change: its first byte and every later multiple of 32 in it. -/
def guardPoints (a n : Nat) : List Nat :=
  a :: ((List.range ((a % 32 + n - 1) / 32)).map fun i => a / 32 * 32 + 32 * (i + 1))

/-- The unit behind a master is fenced by an ISOLATE reaction: its guard denies every access (R417). -/
def State.masterFenced (s : State) : Master → Bool
  | .swell e => s.isFenced (.swell e)
  | .tracker => s.isFenced .trk
  | .dma => s.isFenced .dmac
  | _ => false

/-- What the HRP guard permits while the boot ROM waits for an image (R483): writes of the boot stream window and of BOOT_GO,
reads of the HRP and secure boot pages.
Marked DEDUCED and unsafe (notes/assumptions/113.md). -/
def waitPermits (kind : AccessKind) (a : Nat) : Bool :=
  if kind = .store then (0x20800000 ≤ a && a < 0x20801000) || (0x40100050 ≤ a && a < 0x40100054)
  else (0x40100000 ≤ a && a < 0x40101000) || (0x400F2000 ≤ a && a < 0x400F3000)

/-- The lowest forbidden byte of an access, if its guard denies it (R399).
Marked DEDUCED and unsafe (notes/assumptions/113.md). -/
def State.guardFault (s : State) (m : Master) (kind : AccessKind) (a n : Nat) : Option Nat :=
  match guardOf m with
  | none => none
  | some (p, sel, tab) =>
    if s.masterFenced m then some a
    else if m = .host && s.boot.wait then ((List.range n).map (a + ·)).find? fun x => !waitPermits kind x
    else (guardPoints a n).find? fun x => !s.bytePermitted m p tab (s.regF p sel 0 1) kind x

/-- A denial is recorded in its guard (R403). -/
def State.guardDeny (s : State) (m : Master) (kind : AccessKind) (fault : Nat) : State :=
  match guardOf m with
  | none => s
  | some (p, sel, _) =>
    let info := s.reg p (sel + 8)
    let s1 :=
      if bit info 0 then s.setReg p (sel + 8) (setBit info 31 true)
      else
        (s.setReg p (sel + 4) (wordOf fault)).setReg p (sel + 8)
          (wordOf (1 + (if kind = .store then 2 else 0) + (if kind = .fetch then 4 else 0) + s.regF p sel 0 1 * 8))
    let j := match m with | .swell e => e % 2 | _ => 0
    (s1.satInc p (sel + 12)).irqBit p j

/-- Where an offset lies in a guard page's tables: the offsets of its guard's GSEL and table, its set, region and word. -/
def guardWord (p : Page) (off : Nat) : Option (Nat × Nat × Nat × Nat × Nat) :=
  if off < 0x800 then none
  else match p with
    | .guardS _ =>
      let j := (off - 0x800) / 0x400
      some (0x40 + j * 0x20, 0x800 + j * 0x400, (off - 0x800) / 0x200 % 2, off / 0x10 % 32, off % 0x10)
    | _ => some (0x40, 0x800, (off - 0x800) / 0x200 % 2, off / 0x10 % 32, off % 0x10)

/-- A word of region 31 on the Headland guard page: write-once (R401, R403). -/
def breachWord (p : Page) (off : Nat) : Bool :=
  p == .guard 0 && (match guardWord p off with | some (_, _, _, r, _) => r == 31 | none => false)

/-- A guard page's own checks (R401, R403, R404). -/
def chkGuard (s : State) (w : Wr) : Chk :=
  let touched := w.offs.filterMap fun o => (guardWord w.p o).map fun g => (o, g)
  let range := touched.any fun x =>
    let (_, _, tab, k, r, _) := x
    let o := regionOff tab k r
    let attr := s.after w (o + 8)
    (bit attr 3 && w.p != .guard 0) || fld attr 4 2 = 3 || fld attr 6 2 = 3
      || (bit attr 0 && (s.after w (o + 4)).toNat < (s.after w o).toNat)
  let state := (w.p == .guard 0 && w.hits 0x40) || touched.any fun x =>
    let (o, sel, _, k, _, _) := x
    !breachWord w.p o && s.regF w.p sel 0 1 = k
  { range := range, state := state }

/-- A guard page's effects beyond the store: GCLR (R403). -/
def effGuard (w : Wr) (s : State) : State :=
  let clr := fun (s : State) (sel : Nat) =>
    if w.hits (sel + 0x10) && bit (w.word (sel + 0x10)) 0 then
      ((s.setReg w.p (sel + 4) 0).setReg w.p (sel + 8) 0).setReg w.p (sel + 12) 0
    else s
  match w.p with
  | .guardS _ => clr (clr s 0x40) 0x60
  | _ => clr s 0x40

/-! ### Interrupts -/

/-- IRQ_STAT of a page (R43): the flags that are raised and enabled. -/
def State.irqStat (s : State) (p : Page) : Word := s.reg p 0x20 &&& s.reg p 0x24

/-- The page whose interrupt line a source is (R379). -/
def irqPage (i : Nat) : Option Page := if i < 304 then Page.ofSlot (i / 16) (i % 16) else none

/-- An interrupt source is pending (R379). -/
def State.irqPending (s : State) (i : Nat) : Bool :=
  if i < 384 then
    match irqPage i with
    | some p => p.present s.fuses && s.irqStat p != 0
    | none => false
  else i < 512 && bit (s.reg .icp (0x800 + i / 32 * 4)) (i % 32)

/-- The level of an interrupt source (R380). -/
def State.irqLevel (s : State) (i : Nat) : Nat := s.regF .icl (0x800 + i / 8 * 4) (i % 8 * 4) 3

/-- The pending source of the highest level above a mask level, the lowest number first (R380). -/
def State.irqBest (s : State) (above : Nat) : Option (Nat × Nat) :=
  (List.range 512).foldl (fun (best : Option (Nat × Nat)) i =>
    let l := s.irqLevel i
    if above < l && s.irqPending i && (best.all fun b => b.2 < l) then some (i, l) else best) none

/-- IC_TOP as it reads (R384). -/
def State.icTop (s : State) : Word :=
  match s.irqBest 0 with
  | some (i, l) => wordOf (i + l * 2 ^ 9 + 2 ^ 15)
  | none => 0

/-- IC_PEND[k] as it reads (R385). -/
def State.icPend (s : State) (k : Nat) : Word :=
  wordOf ((List.range 32).foldl (fun n j => if s.irqPending (32 * k + j) then n + 2 ^ j else n) 0)

/-- The level page's own checks (R385). -/
def chkIcl (s : State) (w : Wr) : Chk :=
  let lv := w.offs.flatMap fun o =>
    if 0x800 ≤ o then (List.range 8).map fun j => ((o - 0x800) / 4 * 8 + j, fld (s.after w o) (4 * j) 3) else []
  { range := lv.any fun x => x.2 != 0 && 304 ≤ x.1 && x.1 < 384
    absent := lv.any fun x => x.2 != 0 && x.1 < 304 &&
      (match irqPage x.1 with | some p => !p.present s.fuses | none => true) }

/-- The control page's effects: IC_SWSET and IC_SWCLR (R384). -/
def effIcc (w : Wr) (s : State) : State :=
  let put := fun (s : State) (i : Nat) (b : Bool) =>
    s.setReg .icp (0x830 + i / 32 * 4) (setBit (s.reg .icp (0x830 + i / 32 * 4)) (i % 32) b)
  let s1 := if w.hits 0x44 then put s (w.fld 0x44 0 7) true else s
  if w.hits 0x48 then put s1 (w.fld 0x48 0 7) false else s1

end Sys2Proof.Machine
end

