-- ==== Sys2Proof/Machine/Timebase.lean ====
section
/-! DEFINITION. The timebase: its page (R80), modes and synchronisation (R74–R79), and the compute–field link's own
faults (R22, R414). -/
namespace Sys2Proof.Machine

/-- MODE of the timebase (R76). -/
def State.tbMode (s : State) : Nat := s.regF .tb 0x48 0 2

/-- AS_OFFSET (R77). -/
def State.asOffset (s : State) : Nat := s.reg64 .tb 0x58

/-- 802.1AS time of an instant (R77). -/
def State.asTime (s : State) (i : Nat) : Nat := inst64 (i + s.asOffset)

/-- Device time of an 802.1AS time (R148). -/
def State.ofAsTime (s : State) (t : Nat) : Nat := inst64 (t + 2 ^ 64 - s.asOffset)

/-- The checks of the timebase page (R80). -/
def chkTb (s : State) (w : Wr) : Chk :=
  { range :=
      (w.hits 0x48 && w.fld 0x48 0 2 == 3)
      || (w.hits 0x50 && 429496 < (sgn 32 (w.word 0x50).toNat).natAbs)
      || (w.hits 0x64 && (w.fld 0x64 0 16 == 0 || w.fld 0x64 16 4 == 0 || w.fld 0x64 20 12 == 0)),
    absent := w.hits 0x48 && s.fuses.tsn ≤ w.fld 0x48 8 4,
    state := (w.hits 0x50 || w.hits 0x58 || w.hits 0x5C) && s.tbMode == 1 }

/-- Enter a state of R78 and raise its event. -/
def State.tbEnter (s : State) (st : Nat) : State :=
  let was := s.regF .tb 0x4C 0 2
  let s := s.setRegF .tb 0x4C 0 2 st
  if st = 2 && was ≠ 2 then s.irqBit .tb 0 else if st = 3 && was ≠ 3 then s.irqBit .tb 1 else s

/-- The effects of a timebase page write beyond storing it: a TB_MODE write selects the mode (R76, R78), TB_CLR clears
SKEW_MAX (R80). -/
def effTb (s : State) (w : Wr) : State :=
  let s1 := if w.hits 0x48 then
      { s.tbEnter (if s.tbMode = 1 then 1 else 0) with tbs := { s.tbs with asSet := false, syncRun := 0 } }
    else s
  if w.hits 0x68 && bit (w.word 0x68) 0 then s1.setRegF .tb 0x60 16 16 0 else s1

/-- A Sync received on the slave port carrying the grandmaster time `gm` at the present instant (R77, R78).
Marked DESIGN CHOICE and safe (notes/assumptions/33.md), DEDUCED and unsafe (notes/assumptions/34.md). -/
def State.syncReceive (s : State) (port gm : Nat) : State :=
  if s.tbMode = 1 && s.regF .tb 0x48 8 4 = port && bit (s.reg (.tsn port) 0x44) 0 then
    let st := s.regF .tb 0x4C 0 2
    let phase := sgn 64 (inst64 (gm + 2 ^ 64 - s.asTime s.now))
    let first := !s.tbs.asSet
    let far := (st = 1 || st = 3) && s.regF .tb 0x64 20 12 * 8000 < phase.natAbs
    let anew := first || far
    let ph : Int := if anew then 0 else phase
    let s1 := if anew then s.setReg64 .tb 0x58 (inst64 (gm + 2 ^ 64 - s.now)) else s
    let s2 := if far && !first then s1.irqBit .tb 2 else s1
    let s3 := s2.setReg .tb 0x54 (wordOf (uns 32 (clampI (-2 ^ 31) (2 ^ 31 - 1) ph)))
    let s4 := (s3.setReg .tb 0x50 (wordOf (uns 32 (clampI (-429496) 429496 (Config.servoRate s3.free))))).draw
    let run := if ph.natAbs ≤ s.regF .tb 0x64 0 16 * 8 then s.tbs.syncRun + 1 else 0
    let s5 := { s4 with tbs := { s4.tbs with asSet := true, syncRun := run } }
    if (st = 1 || st = 3) && s.regF .tb 0x64 16 4 ≤ run then s5.tbEnter 2 else s5
  else s

/-- Sync receipt times out, or the slave port's link fails: HOLDOVER, the last rate kept (R78). -/
def State.syncLost (s : State) : State :=
  if s.tbMode = 1 then { s.tbEnter 3 with tbs := { s.tbs with syncRun := 0 } } else s

/-- Breakwater measures the field-die copy against the compute-die counter, in ps (R79).
Marked DEDUCED and safe (notes/assumptions/30.md). -/
def State.skewMeasured (s : State) (ps : Int) : State :=
  let a := ps.natAbs
  let s1 := (s.setRegF .tb 0x60 0 16 (uns 16 (clampI (-2 ^ 15) (2 ^ 15 - 1) ps))).setRegF .tb 0x60 16 16
    (max (s.regF .tb 0x60 16 16) (min a (2 ^ 16 - 1)))
  let s2 := s1.setRegF .tb 0x4C 2 1 (if a ≤ 250 then 1 else 0)
  let s3 := if 250 < a then s2.irqBit .tb 3 else s2
  if 500 < a then s3.raiseFault 0x1D else s3

/-- The ticks that one 1 GHz cycle adds: 8, or 7 or 9 when the rate correction owes a tick (R74, R75). TB_RATE is in
units of 2^-32 of nominal, so a cycle owes 8 × TB_RATE units of 2^-32 tick.
Marked DESIGN CHOICE and unsafe (notes/assumptions/2.md), DEDUCED and unsafe (notes/assumptions/35.md). -/
def State.cycleTicks (s : State) : Nat × Int :=
  let acc := s.tbs.rateAcc + 8 * sgn 32 (s.reg .tb 0x50).toNat
  if (2 ^ 32 : Int) ≤ acc then (9, acc - 2 ^ 32) else if acc ≤ -(2 ^ 32 : Int) then (7, acc + 2 ^ 32) else (8, acc)

/-- One timebase cycle: both counters advance together (R24, R74, R75).
Marked DESIGN CHOICE and unsafe (notes/assumptions/2.md). -/
def State.tick (s : State) : State :=
  let (n, acc) := s.cycleTicks
  { s with now := inst64 (s.now + n), fieldNow := inst64 (s.fieldNow + n), tbs := { s.tbs with rateAcc := acc } }

/-- SYNC_RECEIVE. -/
def execSyncReceive (port gm : Nat) (s : State) : Host.Outcome State Fault Refusal := .next (s.syncReceive port gm)

/-- SYNC_TIMEOUT. -/
def execSyncTimeout (s : State) : Host.Outcome State Fault Refusal := .next s.syncLost

/-- SKEW_MEASUREMENT. -/
def execSkewMeasurement (ps : Int) (s : State) : Host.Outcome State Fault Refusal := .next (s.skewMeasured ps)

/-- LINK_TIMEOUT: no compute–field frame for 2 µs is source CF_TMO (R22). -/
def execLinkTimeout (s : State) : Host.Outcome State Fault Refusal := .next (s.raiseFault 0x1A)

/-- REGISTER_TRANSFER_RETRY: a transfer that failed its CRC (or sequence) check is sent again once, and reported; a
repeat that fails too takes the source's escalation class (R414, R417). -/
def execRegisterTransferRetry (seqGap repeatOk : Bool) (s : State) : Host.Outcome State Fault Refusal :=
  .next (s.raiseFault (if seqGap then 0x19 else 0x18) (if repeatOk then 0 else 1))

end Sys2Proof.Machine
end

