-- ==== Sys2Proof/Machine/Net.lean ====
section
/-! DEFINITION. Network ports: Tideline frames on T1S segments and TSN ports, acknowledgement and retry, SAFE connections,
the network receive log, synchronisation sending, and the network pages (R134–R152). -/
namespace Sys2Proof.Machine

/-- A channel's descriptor word (R151, R152). -/
def State.desc (s : State) (port chan r : Nat) : Word := s.reg (netPage port) (descOff port chan + r)
/-- OBJECT of a channel. -/
def State.chanObject (s : State) (port chan : Nat) : Nat := fld (s.desc port chan 0) 0 24
/-- TYPE of a channel: 0 SET, 1 GET, 2 SAFE. -/
def State.chanType (s : State) (port chan : Nat) : Nat := fld (s.desc port chan 0) 24 3
/-- ACKREQ of a channel. -/
def State.chanAck (s : State) (port chan : Nat) : Bool := bit (s.desc port chan 0) 27
/-- VALID of a channel. -/
def State.chanValid (s : State) (port chan : Nat) : Bool := bit (s.desc port chan 0) 31

/-- EXEC and PROP of a channel, in ticks (R134): the node's on T1S, the descriptor's and PATH on TSN. -/
def State.chanLead (s : State) (port chan : Nat) : Nat :=
  if port < 496 then
    let node := s.chanObject port chan / 2 ^ 16
    s.regF (netPage port) (nodeOff (port - 448) node + 4) 16 16 * 8 + s.regF (netPage port) (netOff port 0x10 0) 0 16
  else fld (s.desc port chan 12) 0 16 * 8 + fld (s.desc port chan 12) 21 11 * 800

/-- The node's deadline D of an entry (R134). -/
def State.deadline (s : State) (port chan i : Nat) : Int := (i : Int) - s.chanLead port chan

/-- A network port runs (R142): its segment or port is enabled and its link up, and the ports are released (R476). -/
def State.netRuns (s : State) (port : Nat) : Bool :=
  if !s.portReleased port then false
  else if port < 496 then
    bit (s.reg (netPage port) (netOff port 0 0)) 0 && bit (s.reg (netPage port) (netOff port 0x20 0)) 0
      && !(s.bw.defaults && port < 452)
  else bit (s.reg (netPage port) 0x44) 0

/-- The ticks that n bytes take on a port (R143, R146), rounded up. -/
def State.byteTicks (s : State) (port n : Nat) : Nat :=
  if port < 496 then n * 6400 else if s.regF (netPage port) 0x40 0 2 = 2 then (n * 256 + 9) / 10 else n * 64

/-- The bytes of a frame with n records from preamble to FCS, padded to the Ethernet minimum (R140, R143). -/
def frameBytes (tagged : Bool) (n : Nat) : Nat := 8 + 14 + (if tagged then 4 else 0) + max 46 (12 + 7 * n) + 4

/-- The bytes after the lead-in of a T1S frame with n records (R143). -/
def tailBytes (n : Nat) : Nat := max 46 (12 + 7 * n) - 12 + 4

/-- The IRQ bit of a network port's LATE, NOACK and SAFE loss: kind 0, 1, 2 (R151, R152). -/
def netIrqBit (port kind : Nat) : Nat := if port < 496 then 4 * kind + (port - 448) % 4 else kind

/-- One record into the network receive log (R148): kind, object, value, device instant.
Marked DEDUCED and unsafe (notes/assumptions/48.md). -/
def State.rxLog (s : State) (port kind object value inst : Nat) : State :=
  let rec_ := inst64 inst + value % 2 ^ 32 * 2 ^ 64 + object % 2 ^ 24 * 2 ^ 96 + kind % 4 * 2 ^ 120
    + (port - 448) % 64 * 2 ^ 122
  let (t, ok) := s.ringLog (s.reg .t1sc 0x5C).toNat (s.regF .t1sc 0x60 0 5) 16 rec_
  if ok then t else t.irqBit .t1sc 0

/-- A record that cannot meet its deadline is dropped and reported LATE (R134, R148).
Marked DEDUCED and unsafe (notes/assumptions/50.md). -/
def State.reportLate (s : State) (e : PortEntry) : State :=
  let p := e.port
  ((s.satInc (netPage p) (netOff p 0x24 0x60)).irqBit (netPage p) (netIrqBit p 0)).rxLog p 3 (s.chanObject p e.chan) 1 e.inst

/-- A record without its ACK is reported NOACK (R147, R148). -/
def State.reportNoack (s : State) (port : Nat) (a : PendingAck) : State :=
  ((s.satInc (netPage port) (netOff port 0x28 0x64)).irqBit (netPage port) (netIrqBit port 1)).rxLog port 3 a.object 2 a.inst

/-- A discarded frame counts in RX_ERR (R139). -/
def State.rxErr (s : State) (port : Nat) : State := s.satInc (netPage port) (netOff port 0x2C 0x68)

/-- Entries in ascending channel order. -/
def insertByChan (x : PortEntry) : List PortEntry → List PortEntry
  | [] => [x]
  | y :: ys => if x.chan ≤ y.chan then x :: y :: ys else y :: insertByChan x ys

/-- The inclusion test of R144: each record in turn joins only if the frame, with it included, ends at or before its own
deadline and that of every record already in. `ends n` is the end of a frame of n records. The answer: joined, dropped. -/
def State.include (s : State) (ends : Nat → Int) : List PortEntry → List PortEntry → List PortEntry → List PortEntry × List PortEntry
  | [], inn, out => (inn, out)
  | e :: es, inn, out =>
    let t := ends (inn.length + 1)
    if t ≤ s.deadline e.port e.chan e.inst && inn.all (fun x => t ≤ s.deadline x.port x.chan x.inst) then
      s.include ends es (inn ++ [e]) out
    else s.include ends es inn (out ++ [e])

/-- The record of an entry (R140, R141). -/
def State.recordOf (s : State) (e : PortEntry) : NetRecord :=
  ⟨s.chanObject e.port e.chan, if s.chanType e.port e.chan = 1 then 0 else e.payload⟩

/-- Mark entries as sent or dropped. -/
def State.markSent (s : State) (es : List PortEntry) : State :=
  let w := s.box.waiting.map fun e => if es.contains e then { e with sent := true } else e
  { s with box := { s.box with waiting := w } }

/-- The destination of a TSN channel: where its words lie in the page (R152). -/
def State.destOff (s : State) (port chan : Nat) : Nat := 0x400 + fld (s.desc port chan 12) 16 5 * 8

/-- Frames to a channel's destination carry an 802.1Q tag (R138, R152). -/
def State.chanTagged (s : State) (port chan : Nat) : Bool :=
  496 ≤ port && bit (s.reg (netPage port) (s.destOff port chan + 4)) 31

/-- The Ethernet header of a frame to a channel's node (R138): on T1S to the segment's multicast address, on TSN to the
channel's destination; from the device's address of the port.
Marked DEDUCED and unsafe (notes/assumptions/125.md). -/
def State.frameHead (s : State) (port chan : Nat) : EthHead :=
  let own (base n : Nat) := base / 64 * 64 + n
  let cfg := s.reg (netPage port) (s.destOff port chan + 4)
  { etype := s.regF .t1sc 0x40 0 16
    src := own (s.reg64 .t1sc 0x44) (port - 448)
    dst := if port < 496 then own (s.reg64 .t1sc 0x4C) (port - 448)
      else fld cfg 0 16 * 2 ^ 32 + (s.reg (netPage port) (s.destOff port chan)).toNat
    tag := if s.chanTagged port chan then some (fld cfg 28 3, fld cfg 16 12) else none }

/-- A frame leaves a port for the node of a channel: the sequence counts, the medium is busy to its end, TX_FRAMES counts (R139, R151).
Marked DEDUCED and unsafe (notes/assumptions/50.md). -/
def State.sendFrame (s : State) (port chan : Nat) (f : Frame) (ends : Nat) : State :=
  let n := s.netPort port
  let seq := if f.retry then n.seq else (n.seq + 1) % 65536
  (s.setNet port { n with seq := seq, lastFrame := some f, lastHead := some (s.frameHead port chan), busyUntil := ends }).wrapInc
    (netPage port) (netOff port 0x30 0x6C)

/-- Entries of a port that wait to be sent. -/
def State.unsent (s : State) (port : Nat) : List PortEntry :=
  s.box.waiting.filter fun e => e.port = port && e.received && !e.sent

/-- A slot instant of a segment with cyclic frames (R143). -/
def State.isSlot (s : State) (seg i : Nat) : Bool :=
  let c := (s.reg (segPage seg) (segOff seg 8)).toNat
  c ≠ 0 && (i + c - (s.reg (segPage seg) (segOff seg 12)).toNat % c) % c = 0

/-- CYCLIC_FRAME: the SET frame of slot instant i on a segment, its lead-in beginning at `start` (R143, R144).
Marked DESIGN CHOICE and unsafe (notes/assumptions/49.md). -/
def State.cyclicFrame (s : State) (seg i start : Nat) : State :=
  let port := 448 + seg
  let hl := s.segHL seg
  if s.netRuns port && s.isSlot seg i && i ≤ start + hl + 201600 && (s.netPort port).lastSlot ≠ some i then
    let mine := ((s.unsent port).filter fun e => e.inst = i && s.chanType port e.chan = 0 && s.chanValid port e.chan).foldr
      insertByChan []
    let recStart := start + 34 * 6400
    let (inn, out) := s.include (fun n => (recStart + 6400 * tailBytes n : Nat)) mine [] []
    let f : Frame := ⟨.set, false, false, (s.netPort port).seq, s.asTime i, inn.map s.recordOf, none⟩
    let s1 := (s.sendFrame port 0 f (recStart + 6400 * tailBytes inn.length)).markSent (inn ++ out)
    let s2 := s1.setNet port { s1.netPort port with lastSlot := some i }
    out.foldl (fun t e => t.reportLate e) s2
  else s

/-- The 12 bytes of a Tideline header (R139). -/
def headerBytes (type ackReq retry reserved seq asTime : Nat) : List Nat :=
  bytesBE 12 (2 ^ 92 + type * 2 ^ 88 + ackReq * 2 ^ 87 + retry * 2 ^ 86 + reserved * 2 ^ 80 + seq % 65536 * 2 ^ 64 + inst64 asTime)

/-- SAFE_CRC of a SAFE frame (R142): over header, record and WD_SEQ, from CONN. -/
def State.safeCode (s : State) (port chan : Nat) (header : List Nat) (object : Nat) (value : Word) (wdSeq : Nat) : Word :=
  safeCrc ((s.reg .t1sc 0x58).toNat ^^^ ((port - 448) * 256 + chan))
    (header ++ bytesBE 3 object ++ bytesBE 4 value.toNat ++ bytesBE 2 wdSeq)

/-- WD_SEQ after a value: 0xFFFF wraps to 1 (R142). -/
def nextWd (n : Nat) : Nat := if n = 65535 then 1 else n + 1

/-- The conditions of an open SAFE connection (R142). -/
def State.safeCond (s : State) (port chan : Nat) : Bool :=
  s.chanValid port chan && s.chanType port chan = 2 && s.netRuns port
    && (s.qBoundTo port).any fun q => s.qChan q = chan

/-- A SAFE frame goes out on an open connection: `asT` is 0 for a keep-alive (R142). -/
def State.safeSend (s : State) (port chan asT : Nat) (value : Word) (ends : Nat) : State :=
  let n := s.netPort port
  match tabGet? n.safe chan with
  | none => s
  | some c =>
    let crc := s.safeCode port chan (headerBytes 5 0 0 0 n.seq asT) (s.chanObject port chan) value c.txSeq
    let f : Frame := ⟨.safe, false, false, n.seq, asT, [⟨s.chanObject port chan, value⟩], some (c.txSeq, crc)⟩
    let s1 := s.setNet port { n with safe := tabPut n.safe chan { c with txSeq := nextWd c.txSeq, lastTx := s.now, value := value } }
    s1.sendFrame port chan f ends

/-- The group of entries that the next acyclic or TSN frame carries (R145, R146): the first in instant order, with those
of the same type, instant and (on TSN) destination; a SAFE record alone. -/
def State.frameGroup (s : State) (port : Nat) (es : List PortEntry) : List PortEntry :=
  match minList (es.map fun e => e.inst) with
  | none => []
  | some i =>
    match (es.filter fun e => e.inst = i).foldr insertByChan [] with
    | [] => []
    | e :: rest =>
      let ty := s.chanType port e.chan
      let dest (c : Nat) := if port < 496 then 0 else fld (s.desc port c 12) 16 5
      if ty = 2 then [e]
      else e :: rest.filter fun x => s.chanType port x.chan = ty && dest x.chan = dest e.chan

/-- Send a group of entries in one frame that starts at `start`, whose end with n records is `ends n` (R144–R147). -/
def State.sendGroup (s : State) (port : Nat) (group : List PortEntry) (ends : Nat → Nat) : State :=
  let (inn, out) := s.include (fun n => (ends n : Int)) group [] []
  let late (t : State) := out.foldl (fun t e => t.reportLate e) t
  match inn with
  | [] => late (s.markSent group)
  | e :: _ =>
    let ty := s.chanType port e.chan
    if ty = 2 then late ((s.safeSend port e.chan (s.asTime e.inst) e.payload (ends 1)).markSent group)
    else
      let ack := inn.any fun x => s.chanAck port x.chan
      let n := s.netPort port
      let ft := if ty = 0 then FrameType.set else FrameType.get
      let f : Frame := ⟨ft, ack, false, n.seq, s.asTime e.inst, inn.map s.recordOf, none⟩
      let waitingAck := (inn.filter fun x => s.chanAck port x.chan).map fun x =>
        (⟨n.seq, ft, x.chan, s.chanObject port x.chan, x.payload, x.inst, ends inn.length, 0⟩ : PendingAck)
      let s1 := (s.sendFrame port e.chan f (ends inn.length)).markSent group
      late (s1.setNet port { s1.netPort port with acks := n.acks ++ waitingAck })

/-- A port that does not run sends nothing: records whose deadline has passed are dropped and reported LATE (R134).
Marked DEDUCED and unsafe (notes/assumptions/126.md). -/
def State.dropOverdue (s : State) (port : Nat) : State :=
  let es := (s.unsent port).filter fun e => s.deadline port e.chan e.inst < s.now
  es.foldl (fun t e => t.reportLate e) (s.markSent es)

/-- ACYCLIC_FRAME: a transmit opportunity of a segment at `start` carries the next group that has been handed off for
16,000 ticks and falls on no cyclic slot (R145). -/
def State.acyclicFrame (s : State) (seg start : Nat) : State :=
  let port := 448 + seg
  if s.netRuns port && (s.netPort port).busyUntil ≤ start then
    let es := (s.unsent port).filter fun e =>
      s.chanValid port e.chan && e.inst + 16000 ≤ start + s.segHL seg
        && !(s.chanType port e.chan = 0 && s.isSlot seg e.inst)
    s.sendGroup port (s.frameGroup port es) fun n => start + 34 * 6400 + 6400 * tailBytes n
  else if s.netRuns port then s
  else s.dropOverdue port

/-- The gate of a traffic class is open for the whole of [a, b) (R137, R146): walk the gate list from the entry that
holds `a`. -/
def State.gateOpen (s : State) (n tc : Nat) (a b : Nat) : Bool :=
  let p := Page.tsn n
  if !bit (s.reg p 0x40) 6 then true
  else
    let cycle := max 1 (s.reg p 0x4C).toNat
    let base := s.reg64 p 0x50
    let pos := (a + cycle - base % cycle) % cycle
    let len := s.regF p 0x48 0 7
    let walk := (List.range len).foldl (fun (st : Nat × Nat × Bool) i =>
        let (t, openFrom, ok) := st
        let t' := t + (s.reg p (0x604 + i * 8)).toNat
        let isOpen := bit (s.reg p (0x600 + i * 8)) tc
        let o := if isOpen then openFrom else t'
        (t', o, ok || (isOpen && o ≤ pos && pos < t' && pos + (b - a) ≤ t')
          || (isOpen && o ≤ pos && t ≤ pos + (b - a) && pos + (b - a) ≤ t')))
      (0, 0, false)
    base ≤ a && walk.2.2

/-- TSN_FRAME: a frame of a TSN port that starts at `start` (R146). -/
def State.tsnFrame (s : State) (n start : Nat) : State :=
  let port := 496 + n
  if s.netRuns port && (s.netPort port).busyUntil ≤ start then
    let es := (s.unsent port).filter fun e => s.chanValid port e.chan && e.inst ≤ start + 80000
    match s.frameGroup port es with
    | [] => s
    | e :: g =>
      let ends (k : Nat) := start + s.byteTicks port (frameBytes (s.chanTagged port e.chan) k)
      if s.gateOpen n (s.regF (.tsn n) 0x40 3 3) start (ends (g.length + 1)) then s.sendGroup port (e :: g) ends
      else if (s.deadline port e.chan e.inst : Int) < ends 1 then
        (e :: g).foldl (fun t x => t.reportLate x) (s.markSent (e :: g))
      else s
  else if s.netRuns port then s
  else s.dropOverdue port

/-! ### Reception -/

end Sys2Proof.Machine

namespace Sys2Proof

/-- A frame's header that R139 discards, or a failed FCS. -/
def RxFrame.bad (f : RxFrame) : Bool :=
  !f.fcsOk || f.version ≠ 1 || f.type = 0 || 5 < f.type || f.reserved ≠ 0

end Sys2Proof

namespace Sys2Proof.Machine

/-- The records of a frame up to the first whose NODE is 0 (R140). -/
def rxRecords : List (Nat × Word) → List (Nat × Word)
  | [] => []
  | r :: rs => if r.1 / 2 ^ 16 % 256 = 0 then [] else r :: rxRecords rs

/-- An EVENT frame: each record is logged with the device instant (R141, R148). -/
def State.eventFrame (s : State) (port : Nat) (f : RxFrame) : State :=
  if f.bad || f.type ≠ 3 then s.rxErr port
  else (rxRecords f.records).foldl (fun t r => t.rxLog port 0 r.1 r.2.toNat (s.ofAsTime f.asTime)) s

/-- An ACK frame (R141, R147, R148): a status ends the retries of its record and is logged; a GET's value is logged, and
objects it omits are unknown to the node.
Marked DEDUCED and unsafe (notes/assumptions/48.md). -/
def State.ackFrame (s : State) (port : Nat) (f : RxFrame) : State :=
  if f.bad || f.type ≠ 4 then s.rxErr port
  else
    let n := s.netPort port
    let mine := n.acks.filter fun a => a.seq = f.seq
    let recs := rxRecords f.records
    let s1 := mine.foldl (fun t a =>
        match recs.find? fun r => r.1 = a.object with
        | some r => t.rxLog port (if a.type = .get then 1 else 2) a.object r.2.toNat a.inst
        | none => t) s
    let left := n.acks.filter fun a =>
      a.seq ≠ f.seq || (a.type ≠ .get && !(recs.any fun r => r.1 = a.object))
    s1.setNet port { s1.netPort port with acks := left }

/-- ACK_TIMEOUT: the oldest records whose ACK is overdue are sent again from `start` with RETRY, or reported (R147). -/
def State.ackTimeout (s : State) (port start : Nat) : State :=
  let n := s.netPort port
  let cfg := s.reg (netPage port) (netOff port 0x18 0x58)
  let tmo := fld cfg 0 16 * 8000
  match n.acks.find? fun a => a.sentAt + tmo ≤ s.now with
  | none => s
  | some a =>
    let mine := n.acks.filter fun x => x.seq = a.seq
    let rest := n.acks.filter fun x => x.seq ≠ a.seq
    let ends (k : Nat) := if port < 496 then start + 34 * 6400 + 6400 * tailBytes k
      else start + s.byteTicks port (frameBytes (s.chanTagged port a.chan) k)
    let entry (x : PendingAck) : PortEntry := ⟨0, 0, port, x.chan, x.inst, x.value, true, true, false, false⟩
    let (inn, _) := if a.retries < fld cfg 16 2 then s.include (fun k => (ends k : Int)) (mine.map entry) [] [] else ([], [])
    let again := mine.filter fun x => inn.contains (entry x)
    let lost := mine.filter fun x => !inn.contains (entry x)
    let s1 := if again.isEmpty then s
      else s.sendFrame port a.chan ⟨a.type, true, true, a.seq, s.asTime a.inst, again.map fun x =>
        ⟨x.object, if x.type = .get then 0 else x.value⟩, none⟩ (ends again.length)
    let s2 := s1.setNet port { s1.netPort port with
      acks := rest ++ again.map fun x => { x with sentAt := ends again.length, retries := x.retries + 1 } }
    lost.foldl (fun t x => t.reportNoack port x) s2

/-- A SAFE frame from a node on a channel (R142): accepted on its CRC and WD_SEQ, else counted in RX_ERR. -/
def State.safeFrame (s : State) (port chan : Nat) (f : RxFrame) : State :=
  let n := s.netPort port
  match tabGet? n.safe chan, f.records with
  | some c, (obj, v) :: _ =>
    let h := headerBytes f.type (if f.ackReq then 1 else 0) (if f.retry then 1 else 0) f.reserved f.seq f.asTime
    let seqOk := match c.rxSeq with
      | none => f.wdSeq ≠ 0
      | some l => f.wdSeq = nextWd l
    if !f.bad && f.type = 5 && f.safeCrc = s.safeCode port chan h obj v f.wdSeq && seqOk then
      s.setNet port { n with safe := tabPut n.safe chan { c with rxSeq := some f.wdSeq, lastRx := s.now } }
    else s.rxErr port
  | _, _ => s.rxErr port

/-- SAFE_TMO of a port in ticks (R151). -/
def State.safeTmo (s : State) (port : Nat) : Nat := s.regF (netPage port) (netOff port 0x1C 0x5C) 0 16 * 8000

/-- SAFE_TMO / 2 without a SAFE frame sent: a keep-alive with the last value (R142). -/
def State.safeKeepalive (s : State) (port chan : Nat) : State :=
  match tabGet? (s.netPort port).safe chan with
  | some c =>
    if c.lastTx + s.safeTmo port / 2 ≤ s.now then
      s.safeSend port chan 0 c.value (s.now + s.byteTicks port (frameBytes (s.chanTagged port chan) 1))
    else s
  | none => s

/-- A freshly opened SAFE connection (R142). -/
def State.safeOpen (s : State) (port chan : Nat) : State :=
  let n := s.netPort port
  s.setNet port { n with safe := tabPut n.safe chan ⟨1, none, s.now, s.now, 0⟩ }

/-- SAFE_TMO without an accepted frame: the connection is lost, reported, and reopened at once (R142). -/
def State.safeLost (s : State) (port chan : Nat) : State :=
  match tabGet? (s.netPort port).safe chan with
  | some c =>
    if c.lastRx + s.safeTmo port ≤ s.now then
      (((s.raiseFault 0x20).irqBit (netPage port) (netIrqBit port 2)).rxLog port 3 (s.chanObject port chan) 3 s.now).safeOpen port chan
    else s
  | none => s

/-- The conditions first hold together: the connection opens (R142). -/
def State.safeConnect (s : State) (port chan : Nat) : State :=
  if s.safeCond port chan && (tabGet? (s.netPort port).safe chan).isNone then s.safeOpen port chan else s

/-- Connections whose conditions no longer hold are closed, and those that now hold open (R142).
Marked DEDUCED and unsafe (notes/assumptions/40.md). -/
def State.safeRefresh (s : State) (port : Nat) : State :=
  let n := s.netPort port
  let s1 := s.setNet port { n with safe := n.safe.filter fun c => s.safeCond port c.1 }
  (s1.qBoundTo port).foldl (fun t q => t.safeConnect port (s.qChan q)) s1

/-- A segment's PHY link goes up or down (R151, R142). -/
def State.segLink (s : State) (seg : Nat) (up : Bool) : State :=
  let p := segPage seg
  let en := bit (s.reg p (segOff seg 0)) 0
  (s.setReg p (segOff seg 0x20) (if up then (if en then 3 else 1) else 0)).safeRefresh (448 + seg)

/-- AS_ROLE of a TSN port (R137): 2 slave, 1 master, 0 none.
Marked DEDUCED and unsafe (notes/assumptions/34.md). -/
def State.asRole (s : State) (n : Nat) : Nat :=
  let cfg := s.reg (.tsn n) 0x40
  if !bit cfg 7 || fld cfg 0 2 = 0 then 0
  else if s.tbMode = 1 && s.regF .tb 0x48 8 4 = n then 2
  else 1

/-- A TSN port's link goes up or down (R152); the slave port's failure ends its Sync receipt (R78). -/
def State.tsnLink (s : State) (n : Nat) (up : Bool) : State :=
  let was := bit (s.reg (.tsn n) 0x44) 0
  let s1 := (s.setReg (.tsn n) 0x44 (if up then 1 else 0)).safeRefresh (496 + n)
  let s2 := if was ≠ up then s1.irqBit (.tsn n) 3 else s1
  if !up && s.asRole n = 2 then s2.syncLost else s2

/-- Sync and Follow_Up on a segment with SYNC_EN (R136). -/
def State.syncSend (s : State) (seg : Nat) : State :=
  let port := 448 + seg
  if s.netRuns port && bit (s.reg (segPage seg) (segOff seg 0)) 14 then
    s.setNet port { s.netPort port with syncs := (s.netPort port).syncs + 1, lastSync := s.asTime s.now }
  else s

/-- Sync and Follow_Up on a TSN master port (R137). -/
def State.tsnSync (s : State) (n : Nat) : State :=
  let port := 496 + n
  if s.netRuns port && s.asRole n = 1 then
    s.setNet port { s.netPort port with syncs := (s.netPort port).syncs + 1, lastSync := s.asTime s.now }
  else s

/-! ### Pages -/

/-- Any queue bound to a network port holds entries (R150). -/
def State.netHolds (s : State) : Bool := s.tqf.pool.any fun e => 448 ≤ s.qPort e.2.queue

/-- The checks of the T1S common page (R150). -/
def chkT1sc (s : State) (w : Wr) : Chk :=
  let log := w.hits 0x5C || w.hits 0x60
  { range :=
      (w.hits 0x40 && (w.fld 0x40 0 16 < 0x600 || w.fld 0x40 0 16 = 0x88F7))
      || (w.hits 0x44 && w.fld 0x44 0 6 ≠ 0) || (w.hits 0x4C && w.fld 0x4C 0 6 ≠ 0)
      || (w.hits 0x50 && !bit (w.word 0x50) 8)
      || (w.hits 0x54 && w.fld 0x54 0 4 ≠ 0 && w.fld 0x54 0 4 < 11)
      || (log && (!logSizeOk (fld (s.after w 0x60) 0 5) || !logSpanOk (s.after w 0x5C).toNat (fld (s.after w 0x60) 0 5) 16)),
    state := (w.hits 0x40 || w.hits 0x44 || w.hits 0x48 || w.hits 0x4C || w.hits 0x50 || w.hits 0x58) && s.netHolds }

/-- The effect of a log register write on the T1S common page (R110, R150). -/
def effT1sc (s : State) (w : Wr) : State :=
  if w.hits 0x5C || w.hits 0x60 then s.logAnew (s.reg .t1sc 0x5C).toNat else s

/-- A queue is bound to a channel of a port that satisfies a test. -/
def State.chanBound (s : State) (port : Nat) (f : Nat → Bool) : Bool :=
  (s.qBoundTo port).any fun q => f (s.qChan q)

/-- The checks of a T1S quad page (R133, R151). -/
def chkT1s (s : State) (q : Nat) (w : Wr) : Chk :=
  let one (off : Nat) : Chk :=
    if off < 0x400 then
      let seg := 4 * q + (off - 0x40) / 0x40
      let r := (off - 0x40) % 0x40
      let cyc := (s.after w (segOff seg 8)).toNat
      let ph := (s.after w (segOff seg 12)).toNat
      let v := w.word off
      { range :=
          (r = 0 && (fld v 1 5 = 0 || 16 < fld v 1 5 || fld v 6 8 < 8))
          || (r = 4 && (fld v 0 16 < 400 || 16000 < fld v 0 16))
          || (r = 8 && v ≠ 0 && (v.toNat < 200000 || 80000000 < v.toNat))
          || ((r = 8 || r = 12) && cyc ≠ 0 && cyc ≤ ph)
          || (r = 0x14 && (fld v 0 11 < 64 || 1522 < fld v 0 11))
          || (r = 0x18 && fld v 0 16 = 0) || (r = 0x1C && fld v 0 16 < 2),
        state := s.portHolds (448 + seg) &&
          (r = 4 || r = 8 || r = 12 || r = 0x10 || (r = 0 && s.changes w off 1 5)) }
    else if off < 0x800 then
      let seg := 4 * q + (off - 0x400) / 0x80
      let node := (off - 0x400) % 0x80 / 8 + 1
      { state := s.chanBound (448 + seg) fun c => s.chanObject (448 + seg) c / 2 ^ 16 = node }
    else
      let seg := 4 * q + (off - 0x800) / 0x200
      let port := 448 + seg
      let c := (off - 0x800) % 0x200 / 0x10
      let r := off % 0x10
      let d := s.after w (descOff port c)
      let cyc := s.after w (descOff port c + 4)
      let base := s.after w (descOff port c + 8)
      let node := fld d 16 8
      let valid := bit d 31
      { range := (r = 0 && 2 < fld d 24 3)
          || (r = 4 && cyc.toNat < 8000) || (4 ≤ r && cyc.toNat ≤ base.toNat)
          || (valid && (node = 0 || s.regF (segPage seg) (segOff seg 0) 1 5 < node || (fld d 24 3 = 2 && bit d 27))),
        state := s.chanBound port (· = c)
          || (valid && s.reg (segPage seg) (nodeOff seg node) = 0
              && s.regF (segPage seg) (nodeOff seg node + 4) 0 16 = 0) }
  { range := w.offs.any fun o => 0x40 ≤ o && (one o).range,
    state := (w.offs.any fun o => 0x40 ≤ o && (one o).state) || (q = 0 && s.preempted) }

/-- The effects of a quad page write: CNT_CLR, and the SAFE connections follow SEG_EN and the descriptors. -/
def effT1s (s : State) (q : Nat) (w : Wr) : State :=
  w.offs.foldl (fun t off =>
    if off < 0x400 then
      let seg := 4 * q + (off - 0x40) / 0x40
      let r := (off - 0x40) % 0x40
      if r = 0x34 && bit (w.word off) 0 then
        t.clearRegs (w.p.base + segOff seg 0x24) (w.p.base + segOff seg 0x34)
      else if r = 0 then
        let link := bit (t.reg w.p (segOff seg 0x20)) 0
        (t.setRegF w.p (segOff seg 0x20) 1 1 (if link && bit (t.reg w.p off) 0 then 1 else 0)).safeRefresh (448 + seg)
      else t
    else if 0x800 ≤ off then t.safeRefresh (448 + 4 * q + (off - 0x800) / 0x200)
    else t) s

/-- The checks of a TSN port page (R152). -/
def chkTsn (s : State) (n : Nat) (w : Wr) : Chk :=
  let port := 496 + n
  let gate := bit (s.reg (.tsn n) 0x40) 6
  let one (off : Nat) : Chk :=
    let v := w.word off
    if off = 0x40 then { range := fld v 0 2 = 3 || (bit v 2 && fld v 0 2 = 2) }
    else if off = 0x48 then { range := fld v 0 7 = 0 || 64 < fld v 0 7, state := gate }
    else if off = 0x4C then { range := v.toNat < 8000, state := gate }
    else if off = 0x50 || off = 0x54 then { state := gate }
    else if off = 0x58 then { range := fld v 0 16 = 0 }
    else if off = 0x5C then { range := fld v 0 16 < 2 }
    else if off < 0x400 then {}
    else if off < 0x600 then
      let d := (off - 0x400) / 8
      { state := s.chanBound port fun c => fld (s.desc port c 12) 16 5 = d }
    else if off < 0x800 then { range := off % 8 = 4 && v.toNat < 80, state := gate }
    else
      let c := (off - 0x800) / 0x10
      let r := off % 0x10
      let d := s.after w (descOff port c)
      let cyc := s.after w (descOff port c + 4)
      let base := s.after w (descOff port c + 8)
      let dest := fld (s.after w (descOff port c + 12)) 16 5
      let valid := bit d 31
      { range := (r = 0 && 2 < fld d 24 3) || (r = 4 && cyc.toNat < 8000) || ((r = 4 || r = 8) && cyc.toNat ≤ base.toNat)
          || (valid && (fld d 16 8 = 0 || (fld d 24 3 = 2 && bit d 27))),
        state := s.chanBound port (· = c)
          || (valid && s.reg (.tsn n) (0x400 + dest * 8) = 0 && s.regF (.tsn n) (0x404 + dest * 8) 0 16 = 0) }
  { range := w.offs.any fun o => (one o).range, state := w.offs.any fun o => (one o).state }

/-- The effects of a TSN port page write: CNT_CLR; descriptors move SAFE connections. -/
def effTsn (s : State) (n : Nat) (w : Wr) : State :=
  let s1 := if w.hits 0x70 && bit (w.word 0x70) 0 then s.clearRegs (w.p.base + 0x60) (w.p.base + 0x70) else s
  if w.offs.any fun o => 0x800 ≤ o then s1.safeRefresh (496 + n) else s1

/-! ### The commands -/

/-- CYCLIC_FRAME.
Marked DESIGN CHOICE and unsafe (notes/assumptions/49.md). -/
def execCyclicFrame (seg i start : Nat) (s : State) : Host.Outcome State Fault Refusal := .next (s.cyclicFrame seg i start)
/-- ACYCLIC_FRAME. -/
def execAcyclicFrame (seg start : Nat) (s : State) : Host.Outcome State Fault Refusal := .next (s.acyclicFrame seg start)
/-- TSN_FRAME. -/
def execTsnFrame (n start : Nat) (s : State) : Host.Outcome State Fault Refusal := .next (s.tsnFrame n start)
/-- ACK_RECEIVE. -/
def execAckReceive (port : Nat) (f : RxFrame) (s : State) : Host.Outcome State Fault Refusal := .next (s.ackFrame port f)
/-- ACK_TIMEOUT. -/
def execAckTimeout (port start : Nat) (s : State) : Host.Outcome State Fault Refusal := .next (s.ackTimeout port start)
/-- EVENT_FRAME_RECEIVE. -/
def execEventFrameReceive (port : Nat) (f : RxFrame) (s : State) : Host.Outcome State Fault Refusal :=
  .next (s.eventFrame port f)
/-- RX_FRAME_DISCARD: a frame with a bad header or FCS, or of a foreign EtherType, is discarded and counted (R137, R139). -/
def execRxFrameDiscard (port : Nat) (foreign : Bool) (f : RxFrame) (s : State) : Host.Outcome State Fault Refusal :=
  .next (if foreign || f.bad then s.rxErr port else s)
/-- SAFE_FRAME_RECEIVE. -/
def execSafeFrameReceive (port chan : Nat) (f : RxFrame) (s : State) : Host.Outcome State Fault Refusal :=
  .next (s.safeFrame port chan f)
/-- SAFE_KEEPALIVE. -/
def execSafeKeepalive (port chan : Nat) (s : State) : Host.Outcome State Fault Refusal := .next (s.safeKeepalive port chan)
/-- SAFE_CONNECTION_LOST. -/
def execSafeConnectionLost (port chan : Nat) (s : State) : Host.Outcome State Fault Refusal := .next (s.safeLost port chan)
/-- SAFE_CONNECTION_OPEN. -/
def execSafeConnectionOpen (port chan : Nat) (s : State) : Host.Outcome State Fault Refusal :=
  .next (s.safeConnect port chan)
/-- SYNC_SEND. -/
def execSyncSend (seg : Nat) (s : State) : Host.Outcome State Fault Refusal := .next (s.syncSend seg)
/-- TSN_MASTER_SYNC_SEND. -/
def execTsnMasterSyncSend (n : Nat) (s : State) : Host.Outcome State Fault Refusal := .next (s.tsnSync n)
/-- PEER_DELAY_EXCHANGE: the measured link delay of a running 802.1AS port (R137, R152). -/
def execPeerDelayExchange (n : Nat) (ns : Word) (s : State) : Host.Outcome State Fault Refusal :=
  .next (if s.netRuns (496 + n) && bit (s.reg (.tsn n) 0x40) 7 then s.setReg (.tsn n) 0x74 ns else s)
/-- SEGMENT_LINK_CHANGE. -/
def execSegmentLinkChange (seg : Nat) (up : Bool) (s : State) : Host.Outcome State Fault Refusal := .next (s.segLink seg up)
/-- TSN_LINK_CHANGE. -/
def execTsnLinkChange (n : Nat) (up : Bool) (s : State) : Host.Outcome State Fault Refusal := .next (s.tsnLink n up)

end Sys2Proof.Machine
end

