-- ==== Sys2Proof/Machine/Breakwater.lean ====
section
/-! DEFINITION. Breakwater (R405–R437): the lockstep and resync controller, the fault collector and its reactions, the
monitors, the Slack plan, the speed estimator, and the playing of a Slack stop. -/
namespace Sys2Proof.Machine

/-- One Breakwater cycle is 40 ticks (R414's text). The start of the cycle that an instant lies in.
Marked DEDUCED and unsafe (notes/assumptions/89.md). -/
def bwCycle (t : Nat) : Nat := t / 40 * 40

/-- The module is in DORMANT. -/
def State.isAsleep (s : State) : Bool := match s.dormant with | .asleep _ _ _ _ => true | _ => false

/-- The compute die answers: it is powered and awake, and Headland has left reset. -/
def State.computeRuns (s : State) : Bool :=
  (match s.dormant with | .asleep _ _ _ _ => false | _ => true) && !s.supply.off && s.supply.rails

/-- Breakwater runs: it has power, and has not stopped at its brown-out (R469, R473, R508). -/
def State.bwRuns (s : State) : Bool := !s.bw.stopped && !s.isAsleep && !s.supply.off

/-- STATE of BW_STAT (R432): 0 RUN, 1 SLACK, 2 SLACK_DONE, 3 HOLD. -/
def State.bwState (s : State) : Nat := s.regF .bwCtl 0x40 0 2
/-- Set STATE of BW_STAT. -/
def State.setBwState (s : State) (n : Nat) : State := s.setRegF .bwCtl 0x40 0 2 n

/-- Breakwater with the state replaced. -/
def State.setBw (s : State) (b : Breakwater) : State := { s with bw := b }

/-! ### The lockstep (R405–R412) -/

/-- FORM of LS_STAT: 0 TRIPLE, 1 PAIR, 2 RESYNC, 3 ROTATE (R437). -/
def State.lsForm (s : State) : Nat := s.regF .lks 0x40 0 2

/-- LS_STAT rewritten. -/
def State.setLs (s : State) (form core : Nat) (retired : Bool) : State :=
  s.setReg .lks 0x40 (wordOf (form + core * 4 + (if retired then 16 else 0)))

/-- The lockstep controller replaced. -/
def State.setLock (s : State) (l : Lockstep) : State := s.setBw { s.bw with ls := l }

/-- A core is masked and its resync begins (R407, R408). -/
def State.maskCore (s : State) (core : Nat) : State :=
  let s1 := (s.setLs 2 core false).setLock
    { s.bw.ls with out := some (core, .copy), since := s.now, rotated := false, pairSince := some s.now }
  (s1.irqBit .lks 0).irqBit .bwCtl 4

/-- A core is retired until the next application reset (R410). -/
def State.retireCore (s : State) (core : Nat) : State :=
  let l := s.bw.ls
  let s1 := (s.setLs 1 core true).setLock
    { l with out := none, rotated := false, pairSince := some (l.pairSince.getD s.now) }
  (s1.raiseFault 0x02).irqBit .lks 2

/-- The cluster stops issuing and LS_PAIR is raised (R407). -/
def State.lsStop (s : State) : State := ({ s with sv := { s.sv with hold := true } }).raiseFault 0x01

/-- LOCKSTEP_MISMATCH: the comparator finds a difference at a point (R406); `odd` names the one core that disagrees with the
others, if there is one (R407, R409, R410).
Marked DESIGN CHOICE and unsafe (notes/assumptions/67.md). -/
def State.lockstepMismatch (s : State) (point : Nat) (odd : Option Nat) : State :=
  if s.sv.hold || !s.computeRuns then s
  else
    match odd with
    | some c =>
      if s.lsForm = 0 && c < 3 then
        let s1 := (s.setReg .lks 0x48 (wordOf (c + point % 6 * 4))).satIncF .lks 0x44 0 16
        let s2 := s1.raiseFault 0x00 c
        let again := s.bw.ls.joined.any fun j => j.1 = c && s.now < j.2 + 8000000
        if again then (s2.irqBit .lks 0).retireCore c else s2.maskCore c
      else s.lsStop
    | none => s.lsStop

/-- RESYNC_COPY_DONE: the TCM copy ends and the join begins (R408). -/
def State.resyncCopied (s : State) : State :=
  match s.bw.ls.out with
  | some (c, .copy) => s.setLock { s.bw.ls with out := some (c, .join) }
  | _ => s

/-- RESYNC_JOIN_DONE: the join's CRC check passes and triple voting resumes at J, or the core is retired (R408–R411). -/
def State.resyncJoined (s : State) (crcOk : Bool) : State :=
  match s.bw.ls.out with
  | some (c, .join) =>
    if crcOk then
      let l := s.bw.ls
      let s1 := (s.setLs 0 0 false).setLock
        { l with out := none, joined := some (c, s.now), pairSince := none, rotated := false }
      let s2 := ((s1.satIncF .lks 0x44 16 16).setReg .lks 0x58 (wordOf (min ((s.now - l.since) / 8) 65535))).irqBit .lks 1
      if l.rotated then s2.irqBit .lks 3 else s2
    else s.retireCore c
  | _ => s

/-- DEG_TMO in ticks (R411, R437). -/
def State.degTmo (s : State) : Nat := s.regF .lks 0x4C 0 27 * 8000000

/-- DEGRADED_TIMEOUT: the time as a pair reaches DEG_TMO (R411).
Marked DEDUCED and unsafe (notes/assumptions/94.md). -/
def State.degraded (s : State) : State :=
  match s.bw.ls.pairSince with
  | some t =>
    if s.fuses.cores = 3 && t + s.degTmo ≤ s.now then
      (s.setLock { s.bw.ls with pairSince := none }).raiseFault 0x03
    else s
  | none => s

/-- A rotation starts: the next core in turn is masked for its self-test (R412). -/
def State.rotate (s : State) : State :=
  let c := s.bw.ls.rotNext
  let s1 := (s.setLs 3 c false).setLock
    { s.bw.ls with out := some (c, .test), since := s.now, rotated := true, rotLast := s.now, rotNext := (c + 1) % 3 }
  s1.irqBit .lks 0

/-- ROTATION_START: INTERVAL has elapsed and FORM is TRIPLE (R412). -/
def State.rotationStart (s : State) : State :=
  let cfg := s.reg .lks 0x50
  if s.fuses.cores = 3 && bit cfg 0 && s.lsForm = 0 && s.bw.ls.rotLast + fld cfg 8 16 * 8000000000 ≤ s.now then s.rotate
  else s

/-- ROTATION_TEST_DONE: the rotated core passed its BIST and its resync starts, or ROT_FAIL is raised (R412, R487). -/
def State.rotationTested (s : State) (pass : Bool) : State :=
  match s.bw.ls.out with
  | some (c, .test) =>
    if pass then (s.setLock { s.bw.ls with out := some (c, .copy) }).irqBit .bwCtl 4 else s.raiseFault 0x3B
  | _ => s

/-- The lockstep page's own checks (R436, R437). -/
def chkLks (s : State) (w : Wr) : Chk :=
  { absent := s.fuses.cores != 3 && (w.hits 0x4C || w.hits 0x50)
    range := (w.hits 0x4C && (w.fld 0x4C 0 27 = 0 || 86400000 < w.fld 0x4C 0 27)) || (w.hits 0x50 && w.fld 0x50 8 16 = 0)
    state := w.hits 0x54 && s.lsForm != 0 }

/-- The lockstep page's effects: INTERVAL runs from the write that sets EN; ROT_REQ rotates now (R412, R437). -/
def effLks (s0 : State) (w : Wr) (s : State) : State :=
  let s1 :=
    if w.hits 0x50 && bit (s.reg .lks 0x50) 0 && !bit (s0.reg .lks 0x50) 0 then
      s.setLock { s.bw.ls with rotLast := s.now }
    else s
  if w.hits 0x54 && bit (w.word 0x54) 0 then s1.rotate else s1

/-! ### The Slack plan (R421–R425) -/

/-- The first address of a profile of a copy (R421). -/
def profBase (c p : Nat) : Nat := 0x70000000 + c * 0x80000 + p * 0x10000
/-- The offset of a profile's header (R436). -/
def hdrOff (c p : Nat) : Nat := 0x800 + c * 0x80 + p * 0x10

/-- The active copy. -/
def State.planActive (s : State) : Nat := s.regF .slk 0x4C 2 1
/-- A copy has been committed. -/
def State.planCommitted (s : State) : Bool := bit (s.reg .slk 0x4C) 3
/-- Validation runs. -/
def State.planValidating (s : State) : Bool := bit (s.reg .slk 0x4C) 1
/-- The sequence is open. -/
def State.planOpen (s : State) : Bool := bit (s.reg .slk 0x4C) 0
/-- VALID_UNTIL. -/
def State.validUntil (s : State) : Nat := s.reg64 .slk 0x54
/-- The active copy is stale (R425). -/
def State.planStale (s : State) : Bool := s.planCommitted && s.validUntil ≤ s.now
/-- NENT of a profile. -/
def State.nent (s : State) (c p : Nat) : Nat := s.regF .slk (hdrOff c p) 0 13
/-- V_REF of a profile. -/
def State.vRef (s : State) (c p : Nat) : Nat := (s.reg .slk (hdrOff c p + 4)).toNat
/-- ZLEAD of a profile. -/
def State.zLead (s : State) (c p : Nat) : Nat := (s.reg .slk (hdrOff c p + 8)).toNat

/-- A plan entry (R422). -/
structure PlanEntry where
  nt : Nat
  payload : Word
  /-- HPORT, CHAN, FIXED and the reserved bits. -/
  attrs : Nat
  crc : Nat
deriving DecidableEq, Repr

/-- Entry i of a profile. -/
def State.planEntry (s : State) (c p i : Nat) : PlanEntry :=
  let a := profBase c p + 16 * i
  ⟨s.memN a 8, wordOf (s.memN (a + 8) 4), s.memN (a + 12) 2, s.memN (a + 14) 2⟩

/-- The hold-up port of an entry, none when HPORT is reserved (R422). -/
def PlanEntry.port (e : PlanEntry) : Option Nat :=
  let h := e.attrs / 2 ^ 10 % 64
  if h < 32 then some h else if h < 36 then some (448 + h - 32) else none
/-- CHAN of an entry. -/
def PlanEntry.chan (e : PlanEntry) : Nat := e.attrs / 8 % 128
/-- FIXED of an entry. -/
def PlanEntry.fixed (e : PlanEntry) : Bool := e.attrs / 4 % 2 = 1
/-- The entry's CRC holds (R422). -/
def PlanEntry.crcOk (e : PlanEntry) : Bool :=
  (crc16 (bytesLE 8 e.nt ++ bytesLE 4 e.payload.toNat ++ bytesLE 2 e.attrs)).toNat = e.crc
/-- The entry's offset at a scale speed (R428). -/
def PlanEntry.offset (e : PlanEntry) (v vref : Nat) : Nat := if e.fixed then e.nt else e.nt * v / vref

/-- Every entry of a profile. -/
def State.planEntries (s : State) (c p : Nat) : List PlanEntry := (List.range (s.nent c p)).map fun i => s.planEntry c p i

/-- A profile's header CRC holds (R436). -/
def State.hdrCrcOk (s : State) (c p : Nat) : Bool :=
  (crc16 (bytesLE 4 (s.vRef c p) ++ bytesLE 4 (s.zLead c p))).toNat = s.regF .slk (hdrOff c p) 16 16

/-- The number of the first element of a list that fails a check. -/
def firstBad {α : Type} (f : Nat → α → Bool) : Nat → List α → Option Nat
  | _, [] => none
  | i, x :: xs => if f i x then some i else firstBad f (i + 1) xs

/-- The first profile that fails a check, with the entry: `f` answers the failing entry of a profile. -/
def firstProf (f : Nat → Option Nat) : Option (Nat × Nat) :=
  (List.range 8).findSome? fun p => (f p).map fun i => (p, i)

/-- Check 2 HEADER of one profile.
Marked DEDUCED and unsafe (notes/assumptions/91.md). -/
def State.planHeader (s : State) (c prof p : Nat) : Option Nat :=
  let z := s.zLead c p
  if 4096 < s.nent c p || s.vRef c p = 0 || 80000000 < z || (p = prof && s.nent c p = 0) then some 0
  else firstBad (fun _ e => e.port.any fun port => z < s.handoffLead port) 0 (s.planEntries c p)

/-- Check 6 SPACING of one entry against those before it. -/
def State.planSpacing (s : State) (c p : Nat) (i : Nat) (e : PlanEntry) : Bool :=
  let v := s.regF .slk 0x68 0 32
  let r := s.vRef c p
  ((s.planEntries c p).take i).any fun b =>
    let same := e.port = b.port && (e.chan = b.chan)
    let pin := e.port = b.port && e.port.any fun q => q < 448
    (same && e.fixed != b.fixed)
      || ((same || pin) &&
        (let x := e.offset v r
         let y := b.offset v r
         (if x ≤ y then y - x else x - y) < (if pin then 80 else 8000)))

/-- Validation of the inactive copy (R424): the code, entry and profile of the first failure, 0 when it passes.
Marked DEDUCED and unsafe (notes/assumptions/91.md). -/
def State.planValidate (s : State) (c prof : Nat) : Nat × Nat × Nat :=
  let fb := s.regF .slk 0x60 0 3
  let step (code : Nat) (r : Option (Nat × Nat)) (next : Nat × Nat × Nat) : Nat × Nat × Nat :=
    match r with | some (p, i) => (code, i, p) | none => next
  step 2 (firstProf fun p => s.planHeader c prof p) <|
  step 3 (firstProf fun p => if s.hdrCrcOk c p then firstBad (fun _ e => !e.crcOk) 0 (s.planEntries c p) else some 0) <|
  step 4 (firstProf fun p => firstBad (fun _ e =>
    e.attrs % 4 ≠ 0 || 2 ^ 37 < e.nt || !(e.port.any fun port => s.chanOk port e.chan)) 0 (s.planEntries c p)) <|
  step 5 (firstProf fun p =>
    let es := s.planEntries c p
    firstBad (fun i e => i != 0 && e.nt < ((es[i - 1]?).map PlanEntry.nt).getD 0) 0 es) <|
  step 6 (firstProf fun p => firstBad (fun i e => s.planSpacing c p i e) 0 (s.planEntries c p)) <|
  step 7 (if s.nent c fb = 0 then some (fb, 0) else (firstBad (fun _ e => !e.fixed) 0 (s.planEntries c fb)).map fun i => (fb, i))
    (0, 0, 0)

/-- COMMIT_RES is reported (R436). -/
def State.commitRes (s : State) (code : Nat) : State := (s.setRegF .slk 0x4C 13 4 code).irqBit .slk 0

/-- The sequence closes. -/
def State.planClose (s : State) : State := (s.setRegF .slk 0x4C 0 1 0).setBw { s.bw with openAt := none }

/-- PLAN_TTL in ticks. -/
def State.planTtl (s : State) : Nat := s.regF .slk 0x5C 0 14 * 8000000

/-- PLAN_VALIDATION_DONE: the copies swap at a Breakwater cycle start, or the failure is reported (R424). -/
def State.planValidated (s : State) : State :=
  if !s.planValidating then s
  else
    let c := 1 - s.planActive
    let (code, i, p) := s.planValidate c s.bw.staged
    let s1 := s.setRegF .slk 0x4C 1 1 0
    if code ≠ 0 then (s1.setReg .slk 0x50 (wordOf (i + p * 2 ^ 12))).commitRes code
    else
      let k := bwCycle s.now
      if bit (s.reg .bwCtl 0x58) 9 && s.regF .bwCtl 0x58 6 3 = 5 && s.reg64 .bwCtl 0x5C = k then s1.commitRes 10
      else
        let s2 := ((s1.setRegF .slk 0x4C 2 1 c).setRegF .slk 0x4C 3 1 1).setRegF .slk 0x4C 17 3 s.bw.staged
        (((s2.setRegF .slk 0x4C 5 8 0).setRegF .slk 0x4C 4 1 0).setReg64 .slk 0x54 (inst64 (k + s.planTtl))).commitRes 1

/-- PLAN_SEQUENCE_TIMEOUT: 100 ms after step 1 without a commit (R423). -/
def State.planTimeout (s : State) : State :=
  match s.bw.openAt with
  | some t => if t + 800000000 ≤ s.now then s.planClose.commitRes 9 else s
  | none => s

/-- PLAN_STALE: the active copy passes VALID_UNTIL (R425). -/
def State.planPasses (s : State) : State :=
  if s.planStale && !bit (s.reg .slk 0x4C) 4 then ((s.setRegF .slk 0x4C 4 1 1).raiseFault 0x23).irqBit .bwCtl 5 else s

/-- PLAN_SCRUB: profiles of the active copy that fail their CRC, or whose words the scrub finds in error, become BAD (R425). -/
def State.planScrub (s : State) (errs : List Nat) : State :=
  if !s.planCommitted then s
  else
    let c := s.planActive
    let bad := (List.range 8).filter fun p =>
      errs.contains p || !s.hdrCrcOk c p || (s.planEntries c p).any fun e => !e.crcOk
    if bad.isEmpty then s
    else
      let s1 := bad.foldl (fun s p => s.setRegF .slk 0x4C (5 + p) 1 1) s
      (s1.raiseFault 0x22).irqBit .slk 1

/-- Why a write of plan memory is refused (R423). -/
def State.planMemReason (s : State) (m : Master) (a : Nat) : Reason :=
  if s.planValidating then .badState
  else if m ≠ .headland || !s.planOpen then .sequence
  else if (a - 0x70000000) / 0x80000 = s.planActive then .badState
  else .none

/-- The plan page's own checks (R423, R425, R426, R436).
Marked DEDUCED and unsafe (notes/assumptions/92.md). -/
def chkSlk (s : State) (w : Wr) : Chk :=
  let hdrs := w.offs.filter fun o => 0x800 ≤ o
  let hdr := !hdrs.isEmpty
  let go := w.hits 0x44 && w.fld 0x44 3 2 ≠ 0
  let key := w.hits 0x40
  let plan := hdr || go || key
  let seq :=
    if s.bw.key1 then !(w.offs == [0x40] && w.fld 0x40 0 16 = 0x3C5A)
    else if key then s.planOpen || !(w.offs == [0x40] && w.fld 0x40 0 16 = 0xA5C3)
    else (hdr || go) && !s.planOpen
  let vf := (s.after w 0x68).toNat
  let vm := (s.after w 0x6C).toNat
  let src := fld (s.after w 0x64) 0 16
  let pin := src - 0x2000
  { seq := seq && !(plan && s.planValidating && !s.bw.key1)
    range := (w.hits 0x44 && w.fld 0x44 3 2 = 3)
      || (w.hits 0x5C && (w.fld 0x5C 0 14 = 0 || 10000 < w.fld 0x5C 0 14))
      || ((w.hits 0x68 || w.hits 0x6C) && (vf = 0 || vm = 0 || vm < vf))
      || (w.hits 0x70 && w.fld 0x70 0 16 = 0)
      || (w.hits 0x64 && src ≠ 0 && src ≠ 0x1000 && !(0x2000 ≤ src && pin ≤ 30 && pin % 2 = 0))
    absent := w.hits 0x64 && src = 0x1000 && !s.fuses.tidemark
    state := (plan && s.planValidating) || (w.hits 0x48 && !s.planCommitted)
      || (hdrs.any fun o => (o - 0x800) / 0x80 = s.planActive)
      || (w.hits 0x64 && 0x2000 ≤ src && s.pinFunc pin ≠ 0 && s.pinFunc pin ≠ 6) }

/-- After any write of Headland to the plan page, accepted or not, a sequence that stands after its key 1 is used up; the
accepted key 2 opens it (R423).
Marked DEDUCED and unsafe (notes/assumptions/19.md), DEDUCED and unsafe (notes/assumptions/92.md). -/
def State.planKeyed (s0 : State) (accepted : Bool) (w : Wr) (s : State) : State :=
  if s0.bw.key1 then
    if accepted then (s.setRegF .slk 0x4C 0 1 1).setBw { s.bw with key1 := false, openAt := some s.now }
    else s.setBw { s.bw with key1 := false }
  else if accepted && w.hits 0x40 then s.setBw { s.bw with key1 := true }
  else s

/-- An estimator that has seen nothing (R426). -/
def spdFresh (now : Nat) : SpeedEst := ⟨[], 0, none, now, false⟩

/-- The plan page's effects beyond the store (R423–R426). -/
def effSlk (s0 : State) (w : Wr) (s : State) : State :=
  let s1 :=
    if w.hits 0x44 && bit (w.word 0x44) 3 then
      (s.planClose.setRegF .slk 0x4C 1 1 1).setBw { s.bw with openAt := none, staged := w.fld 0x44 0 3 }
    else if w.hits 0x44 && bit (w.word 0x44) 4 then s.planClose.commitRes 8
    else s
  let s2 :=
    if w.hits 0x48 && bit (w.word 0x48) 0 then
      (s1.setReg64 .slk 0x54 (inst64 (s1.now + s1.planTtl))).setRegF .slk 0x4C 4 1 0
    else s1
  if w.hits 0x64 && s.regF .slk 0x64 0 16 ≠ s0.regF .slk 0x64 0 16 then
    (s2.setReg .slk 0x74 0).setBw { s2.bw with spd := spdFresh s2.now }
  else s2

/-! ### The speed estimator (R426, R427) -/

/-- SPD_AGE as it reads (R436). -/
def State.spdAge (s : State) : Nat :=
  match s.bw.spd.commit with
  | some t => if s.regF .slk 0x64 0 16 = 0 then 2 ^ 32 - 1 else min ((s.now - t) / 8000) (2 ^ 32 - 1)
  | none => 2 ^ 32 - 1

/-- SPEED_SOURCE_SAMPLE: the source's latest sample reaches Breakwater (R426). -/
def State.speedSample (s : State) : State :=
  let id := s.regF .slk 0x64 0 16
  match tabGet? s.src id with
  | some x =>
    let e := s.bw.spd
    if id = 0 || (e.hist.head?.any fun y => y.inst = x.inst) then s
    else
      let joined := e.hist.head?.any fun y => y.inst + 8000 = x.inst
      let hist := (x :: (if joined then e.hist else [])).take 101
      let n := (e.count + 1) % 100
      let s1 := s.setBw { s.bw with spd := { e with hist := hist, count := n, last := s.now, lost := false } }
      match n, hist[100]? with
      | 0, some y =>
        let v := if y.coord < x.coord then (x.coord - y.coord).toNat * 65536 / 100 else 0
        (s1.setReg .slk 0x74 (sat32 v)).setBw { s1.bw with spd := { s1.bw.spd with commit := some s.now } }
      | _, _ => s1
  | none => s

/-- SPEED_LOST: no sample for 4 µs (R427). -/
def State.speedLost (s : State) : State :=
  let e := s.bw.spd
  if s.regF .slk 0x64 0 16 ≠ 0 && !e.lost && e.last + 32000 ≤ s.now then
    ((s.setBw { s.bw with spd := { e with lost := true } }).raiseFault 0x21).irqBit .slk 2
  else s

/-! ### Reactions (R417–R420) -/

/-- A source that is never raised on this part (the dashes of R420). -/
def neverRaised (f : Fuses) (src : Nat) : Bool := f.kind ≠ .t9512 && [0x00, 0x02, 0x03, 0x3B].contains src

/-- Sources that count as NOTE during a supply loss (R511). -/
def lossNotes : List Nat := [0x1A, 0x27, 0x28, 0x29, 0x2A, 0x2D, 0x2E, 0x2F, 0x30, 0x31, 0x33, 0x34]

/-- MAP entry of a source. -/
def State.mapOf (s : State) (src : Nat) : Word := s.reg .bwMap (0x800 + 4 * src)

/-- The class that a latched source carries out (R417, R420, R511); `unit` is its unit's page, or 1 for a RETRY source whose
repeat failed. -/
def State.reactClass (s : State) (loss : Bool) (src unit : Nat) : Nat :=
  let c := fld (s.mapOf src) 0 3
  if loss && lossNotes.contains src then 0
  else if c = 2 && unit = 1 then fld (s.mapOf src) 3 3
  else if src = 0x0C && c = 3 && unit = 0 then 5
  else c

/-- The pages of the unit that a source names (R417, R420).
Marked DEDUCED and unsafe (notes/assumptions/118.md). -/
def unitPages (src unit : Nat) : List Page :=
  if src = 0x28 then (List.range 16).map Page.swell
  else if src = 0x30 then
    List.flatten [(List.range 6).map Page.ghIn, (List.range 2).map Page.ghOut, (List.range 3).map Page.ghInL, [Page.ghOutL],
      (List.range 16).map Page.tsn]
  else if src = 0x34 then (List.range 16).map Page.cv
  else match Page.ofAddr unit with
    | some (.surfG g) | some (.surfL g) => [.surfG g, .surfL g]
    | some .dmac | some (.dma _) => .dmac :: (List.range 4).map Page.dma
    | some p => [p]
    | none => []

/-- The links of a fenced page go DOWN (R417).
Marked DEDUCED and unsafe (notes/assumptions/118.md). -/
def State.dropLinks (s : State) : Page → State
  | .tsn n => s.tsnLink n false
  | .ghIn q => (List.range 24).foldl (fun s l =>
      if s.inState l ≠ 0 && l < 4 * q + 4 && 4 * q < l + s.inW l then s.inEnter l 0 else s) s
  | .ghOut _ => (List.range 4).foldl (fun s k => if s.outState k ≠ 0 then s.outEnter k 0 else s) s
  | _ => s

/-- REACTION_ISOLATE: the unit named by a source is stopped and fenced (R417).
Marked DEDUCED and unsafe (notes/assumptions/118.md). -/
def State.isolate (s : State) (src unit : Nat) : State :=
  let ps := (unitPages src unit).filter fun p => p.present s.fuses
  let new := (ps.map fun p => (src, p.base)).filter fun x => !s.bw.iso.contains x
  let off := if src < 32 then 0x70 else 0x74
  let s1 := (s.setBw { s.bw with iso := s.bw.iso ++ new }).setReg .bwCtl off (setBit (s.reg .bwCtl off) (src % 32) true)
  (ps.foldl State.dropLinks s1).irqBit .bwCtl 2

/-- Breakwater's record of a reaction of class SLACK or above (R432, R462).
Marked DEDUCED and unsafe (notes/assumptions/90.md). -/
def State.record (s : State) (src unit cls tf : Nat) : State :=
  let w := tabGet (⟨0, false, false, false, 0⟩ : Wdt) s.wdt unit
  let task := src = 0x06
  let info := src + cls * 2 ^ 6 + 2 ^ 9 + (if task then unit % 8 * 2 ^ 10 + (if w.viol then 2 ^ 13 else 0) else 0)
  ((s.setReg .bwCtl 0x58 (wordOf info)).setReg64 .bwCtl 0x5C (inst64 tf)).setReg .bwCtl 0x64 (if task then w.tasks else 0)

/-- A pin at its fuse-set default level, with nothing running (R417, R429).
Marked DEDUCED and unsafe (notes/assumptions/29.md). -/
def State.pinDefault (s : State) (port : Nat) : State :=
  s.setPin port (pinFresh (idleDrive (tabGet 0 s.fuses.idle port)) (s.pin port).input)

/-- The hold-up ports go to their fuse-set default levels and T1S segments 0–3 fall silent (R417, R513).
Marked DEDUCED and unsafe (notes/assumptions/94.md). -/
def State.holdUpDefaults (s : State) : State :=
  let s1 := (List.range 32).foldl State.pinDefault s
  let box := ⟨s1.box.waiting.filter fun e => !holdUpPort e.port, s1.box.due.filter fun e => !holdUpPort e.port⟩
  { s1 with box := box, bw := { s1.bw with defaults := true, play := none } }

/-- A DEVICE or HOLD reaction: ports to their defaults, the reset due at t_f + 2 µs (R417, R418).
Marked DEDUCED and unsafe (notes/assumptions/94.md). -/
def State.deviceReact (s : State) (src unit cls tf : Nat) : State :=
  let tf0 := match s.bw.dev with | some d => d.1 | none => tf
  let s1 := (s.record src unit cls tf).satIncF .bwCtl 0x6C 16 16
  let s2 := s1.holdUpDefaults
  let s3 := s2.setBw { s2.bw with dev := some (tf0, cls, src) }
  let s4 := s3.setRegF .slk 0x7C 13 1 0
  if cls = 7 then (s4.setRegF .lee 0x50 0 1 1).setBwState 3 else s4

/-- SLACK_STOP: the profile is selected and P fixed (R429); without a usable plan the reaction is carried out as DEVICE.
Marked DEDUCED and unsafe (notes/assumptions/90.md). -/
def State.slackStop (s : State) (src unit tf : Nat) : State :=
  let c := s.planActive
  let want := if src = 0x26 then s.regF .bwCtl 0x44 1 4 else fld (s.mapOf src) 6 4
  let prof := if want = 8 then s.regF .slk 0x4C 17 3 else want
  let bad := fun p => bit (s.reg .slk 0x4C) (5 + p)
  let fb := s.regF .slk 0x60 0 3
  let fallback := s.validUntil ≤ tf || bad prof || s.nent c prof = 0
  let p := (tf + 8000 + 7999) / 8000 * 8000
  if !s.planCommitted || (fallback && bad fb) then s.deviceReact src unit 6 tf
  else
    let used := if fallback then fb else prof
    let s1 := (((s.record src unit 5 tf).satIncF .bwCtl 0x6C 0 16).setBwState 1).setReg64 .bwCtl 0x4C (inst64 p)
    s1.setBw { s1.bw with play := some ⟨p, false, c, used, fallback, p + s.zLead c used, 0, [], true⟩ }

/-- One latched source is counted (R415, R418, R433). -/
def State.latchSource (s : State) (src : Nat) : State :=
  let off := if src < 32 then 0x40 else 0x44
  (s.setReg .bwFc off (setBit (s.reg .bwFc off) (src % 32) true)).satIncF .bwFc (0x800 + 4 * src) 0 16

/-- The lowest source of a list.
Marked DEDUCED and unsafe (notes/assumptions/89.md). -/
def lowestSource : List (Nat × Nat) → Option (Nat × Nat)
  | [] => none
  | x :: xs => match lowestSource xs with
    | some y => if y.1 < x.1 then some y else some x
    | none => some x

/-- The reaction of the most severe class among the sources latched in one cycle (R417, R418).
Marked DEDUCED and unsafe (notes/assumptions/89.md). -/
def State.react (s : State) (loss : Bool) (hits : List (Nat × Nat)) (tf : Nat) : State :=
  let cls := hits.foldl (fun c x => max c (s.reactClass loss x.1 x.2)) 0
  let top := hits.filter fun x => s.reactClass loss x.1 x.2 = cls
  match lowestSource top with
  | none => s
  | some (src, unit) =>
    let s1 := if hits.any (fun x => s.reactClass loss x.1 x.2 = 0) then s.irqBit .bwCtl 3 else s
    if cls = 3 then top.foldl (fun s x => s.isolate x.1 x.2) s1
    else if cls = 4 then
      (if s1.lsForm = 0 && src = 0x09 then s1.maskCore (unit % 3) else s1)
    else if cls = 5 then
      (if s1.bw.dev.isSome || s1.bwState = 1 || s1.bwState = 2 then s1 else s1.slackStop src unit tf)
    else if 6 ≤ cls then
      (if s1.bw.dev.any (fun d => cls ≤ d.2.1) then s1 else s1.deviceReact src unit cls tf)
    else s1

/-- FAULT_LATCH: at a Breakwater cycle start the collector latches every source present, those that the model raised and
those that the environment presents, and the most severe class is carried out (R415–R418).
Marked DEDUCED and unsafe (notes/assumptions/95.md). -/
def State.faultLatch (s : State) (outside : List (Nat × Nat)) : State :=
  if !s.bwRuns then s
  else
    let hits := (s.raised ++ outside).filter fun x => x.1 < 64 && !neverRaised s.fuses x.1
    let tf := bwCycle s.now
    match lowestSource hits with
    | none => { s with raised := [] }
    | some (src, _) =>
      let loss := s.supply.loss.isSome && (s.bw.lossLatched || hits.any fun x => x.1 = 0x35)
      let ids := (hits.map Prod.fst).eraseDups
      let s1 := ids.foldl State.latchSource { s with raised := [], bw := { s.bw with lossLatched := loss } }
      let s2 :=
        if bit (s1.reg .bwFc 0x48) 6 then s1
        else (s1.setReg .bwFc 0x48 (wordOf (src + 2 ^ 6))).setReg64 .bwFc 0x4C (inst64 tf)
      (s2.irqBit .bwFc 0).react loss hits tf

/-! ### Playing a Slack stop (R428–R431) -/

/-- v_s and SPD_STALE as fixed at P (R428). -/
def State.scaleSpeed (s : State) : Nat × Bool :=
  let lo := (s.reg .slk 0x68).toNat
  let hi := (s.reg .slk 0x6C).toNat
  if s.spdAge ≤ s.regF .slk 0x70 0 16 * 1000 then (min (max (s.reg .slk 0x74).toNat lo) hi, false) else (hi, true)

/-- PREEMPTION: at P Breakwater takes the hold-up ports and fixes the scale speed (R104–R106, R428, R429). -/
def State.slackBegins (s : State) : State :=
  match s.bw.play with
  | some y =>
    if y.begun || s.now < y.p then s
    else
      let (v, stale) := s.scaleSpeed
      let s1 := s.preempt y.p
      let stat := 2 ^ 13 + y.prof * 2 ^ 15 + (if y.fallback then 2 ^ 18 else 0) + (if stale then 2 ^ 19 else 0)
      let s2 := ((s1.setReg .slk 0x7C (wordOf stat)).setReg .slk 0x80 (wordOf v)).irqBit .bwCtl 0
      s2.setBw { s2.bw with play := some { y with begun := true, scale := v } }
  | none => s

/-- The instant I_n of an entry (R429). -/
def State.slackInstant (s : State) (y : Play) (i : Nat) : Nat :=
  y.z + (s.planEntry y.copy y.prof i).offset y.scale (s.vRef y.copy y.prof)

/-- SLACK_ENTRY_DELIVERY: Breakwater hands entry i of the profile to its hold-up port at I − H (R429). An entry of a T1S
channel whose descriptor is no longer valid is logged as FAIL with cause 4 and counts in LATE_CNT (R148). -/
def State.slackDeliver (s : State) (i : Nat) : State :=
  match s.bw.play with
  | some y =>
    let e := s.planEntry y.copy y.prof i
    let t := s.slackInstant y i
    match e.port with
    | some port =>
      if y.begun && i < s.nent y.copy y.prof && !y.handed.contains i && t ≤ s.now + s.handoffLead port then
        let s1 := (s.setBw { s.bw with play := some { y with handed := y.handed ++ [i] } }).satIncF .slk 0x7C 0 13
        let pe : PortEntry := ⟨i, 0, port, e.chan, t, e.payload, true, true, true, false⟩
        if port < 448 then { s1 with box := { s1.box with due := s1.box.due ++ [pe] } }
        else if s1.chanValid port e.chan then { s1 with box := { s1.box with waiting := s1.box.waiting ++ [pe] } }
        else (s1.satInc (netPage port) (netOff port 0x24 0x60)).rxLog port 3 (s1.chanObject port e.chan) 4 t
      else s
    | none => s
  | none => s

/-- SLACK_DONE: every entry was handed over and the last one's instant has passed (R429). -/
def State.slackDone (s : State) : State :=
  match s.bw.play with
  | some y =>
    let n := s.nent y.copy y.prof
    let last := (List.range n).foldl (fun m i => max m (s.slackInstant y i)) y.z
    if y.begun && !bit (s.reg .slk 0x7C) 14 && y.handed.length = n && last ≤ s.now then
      let s1 := ((s.setRegF .slk 0x7C 13 2 2).setBwState 2).irqBit .bwCtl 1
      { s1 with box := { s1.box with waiting := s1.box.waiting.filter fun e => !(e.slack && e.sent) } }
    else s
  | none => s

/-! ### Pages of the collector, the map and the monitors -/

/-- The control page's own checks (R430, R432). -/
def chkBwCtl (s : State) (w : Wr) : Chk :=
  let src := w.fld 0x78 0 6
  { range := w.hits 0x44 && 8 < w.fld 0x44 1 4
    state := (w.hits 0x48 && bit (w.word 0x48) 0 && (s.bwState ≠ 2 || s.preempted))
      || (w.hits 0x78 && (s.bw.present.contains src || s.raised.any fun x => x.1 = src)) }

/-- The control page's effects (R430, R432). -/
def effBwCtl (w : Wr) (s : State) : State :=
  let s1 := if w.hits 0x44 && bit (w.word 0x44) 0 then (s.setRegF .bwCtl 0x44 0 1 0).raiseFault 0x26 else s
  let s2 := if w.hits 0x48 && bit (w.word 0x48) 0 then (s1.setBwState 0).setBw { s1.bw with play := none } else s1
  let s3 :=
    if w.hits 0x68 && bit (w.word 0x68) 0 then ((s2.setReg .bwCtl 0x58 0).setReg64 .bwCtl 0x5C 0).setReg .bwCtl 0x64 0 else s2
  if w.hits 0x78 then
    let src := w.fld 0x78 0 6
    let off := if src < 32 then 0x70 else 0x74
    (s3.setReg .bwCtl off (setBit (s3.reg .bwCtl off) (src % 32) false)).setBw
      { s3.bw with iso := s3.bw.iso.filter fun x => x.1 ≠ src }
  else s3

/-- The collector page's effects: FC_CLR and FC_INJECT (R433). -/
def effBwFc (w : Wr) (s : State) : State :=
  let s1 :=
    if w.hits 0x54 && bit (w.word 0x54) 0 then
      ((s.setReg .bwFc 0x48 0).setReg64 .bwFc 0x4C 0).clearRegs (Page.base .bwFc + 0x800) (Page.base .bwFc + 0x900)
    else s
  if w.hits 0x58 then s1.raiseFault (w.fld 0x58 0 6) else s1

/-- The map page's own checks (R419, R434). -/
def chkBwMap (s : State) (w : Wr) : Chk :=
  let ms := (w.offs.filter fun o => 0x800 ≤ o).map fun o => s.after w o
  { range := ms.any fun m =>
      let c := fld m 0 3
      !bit m (19 + c) || c < fld m 16 3 || fld m 3 3 < 5 || 8 < fld m 6 4
    absent := s.fuses.cores ≠ 3 && ms.any fun m => fld m 0 3 = 4 }

/-- The monitors page's own checks (R435). -/
def chkBwMon (s : State) (w : Wr) : Chk :=
  let t := s.after w 0x44
  let warn := sgn 8 (fld t 0 8)
  let crit := sgn 8 (fld t 8 8)
  { range := (w.hits 0x40 && w.fld 0x40 0 16 = 0) || (w.hits 0x44 && (crit ≤ warn || 125 < crit)) }

/-- A source's condition holds, or no longer does; it is raised as it begins to.
Marked DEDUCED and unsafe (notes/assumptions/95.md). -/
def State.setPresent (s : State) (src unit : Nat) (on : Bool) : State :=
  if on then
    if s.bw.present.contains src then s.raiseFault src unit
    else (s.setBw { s.bw with present := src :: s.bw.present }).raiseFault src unit
  else s.setBw { s.bw with present := s.bw.present.filter (· ≠ src) }

/-- The window of a rail in mV (R416): none where the rule gives its own test. -/
def railWindow (k : Nat) (v33 : Bool) : Option (Int × Int) :=
  match k with
  | 0 => some (705, 795)
  | 1 => some (800, 900)
  | 2 => some (846, 954)
  | 3 => some (1128, 1272)
  | 4 | 5 => if v33 then some (3036, 3564) else some (1656, 1944)
  | 6 | 7 => some (3040, 3560)
  | _ => none

/-- The source of a rail (R416, R420). -/
def railSource (k : Nat) : Nat := [0x2E, 0x2F, 0x30, 0x30, 0x31, 0x32, 0x33, 0x34, 0x36, 0x37].getD k 0x2E

/-- A rail measured outside its window (R416).
Marked DEDUCED and unsafe (notes/assumptions/93.md). -/
def State.railOut (s : State) (k : Nat) (v33 : Bool) (mV : Int) : Bool :=
  match railWindow k v33 with
  | some (lo, hi) => mV < lo || hi < mV
  | none =>
    if k = 8 then 42000 < mV || mV < 4300
    else
      let min_ := s.regF .bwMon 0x48 0 16
      s.supply.valid && s.supply.loss.isNone && min_ ≠ 0 && mV < min_

/-- What a monitor measured for its whole filter time is judged against its window (R416, R435).
Marked DEDUCED and unsafe (notes/assumptions/93.md). -/
def State.monitored (s : State) : Monitor → State
  | .rail k bank v33 mV =>
    if 10 ≤ k then s
    else
      let out := s.railOut k v33 mV
      let was := bit (s.reg .bwMon 0x4C) k
      let src := if k = 8 && mV < 4300 then 0x35 else railSource k
      let s0 := if k = 8 then s.setPresent (0x35 + 0x36 - src) 0 false else s
      let s1 := (s0.setReg .bwMon 0x4C (setBit (s0.reg .bwMon 0x4C) k out)).setPresent src
        (if k = 4 then Page.base (.tio bank) else 0) out
      if out && !was then s1.irqBit .bwMon 0 else s1
  | .clock src quad ppm =>
    if src < 0x27 || 0x2D < src then s
    else
      let out := match ppm with | some d => d < -50000 || 50000 < d | none => true
      let was := bit (s.reg .bwMon 0x50) (src - 0x27)
      let unit := if src = 0x29 then Page.base (if quad < 6 then .ghIn quad else .ghOut 0) else 0
      let s1 := (s.setReg .bwMon 0x50 (setBit (s.reg .bwMon 0x50) (src - 0x27) out)).setPresent src unit out
      if out && !was then s1.irqBit .bwMon 0 else s1
  | .temp i c =>
    if 10 ≤ i then s
    else
      let s1 := s.setReg .bwMon (0x800 + 4 * i) (wordOf (uns 8 c))
      let lim := s.reg .bwMon 0x44
      let hot := fun (t : Int) => (List.range 10).any fun j => t < sgn 8 (s1.regF .bwMon (0x800 + 4 * j) 0 8)
      let warn := sgn 8 (fld lim 0 8) < c
      let was := s.bw.present.contains 0x38
      let s2 := (s1.setPresent 0x38 0 (hot (sgn 8 (fld lim 0 8)))).setPresent 0x39 0 (hot (sgn 8 (fld lim 8 8)))
      if warn && !was then (s2.irqBit .bwMon 1).irqBit .bwMon 0 else s2

/-- MONITOR_EXCURSION: the monitors are Breakwater's, and stand still with it (R415, R416, R435). -/
def State.monitor (s : State) (m : Monitor) : State := if s.bwRuns then s.monitored m else s

/-! ### Scrubs and periodic tests (R413, R420) -/

/-- The number of a memory in the count of corrections, its sources for a correctable and an uncorrectable error, and the
unit that owns it. -/
def memFacts : MemKind → Nat × Option Nat × Nat × Nat
  | .tcm c => (c, some 0x08, 0x09, 0)
  | .sram => (8, some 0x0A, 0x0B, 0)
  | .swell e => (0x10 + e, none, 0x0D, Page.base (.swell e))
  | .surf g => (0x20 + g, none, 0x10, Page.base (.surfG g))
  | .tracker => (0x30, none, 0x11, Page.base .trk)
  | .tqf => (0x31, none, 0x13, 0)
  | .dma => (0x32, none, 0x3F, Page.base .dmac)

/-- MEMORY_SCRUB: the scrub visits a word and corrects or reports its error (R413, R420).
Marked DEDUCED and unsafe (notes/assumptions/93.md). -/
def State.memoryScrub (s : State) (k : MemKind) (r : ScrubResult) : State :=
  let (id, ce, ue, unit) := memFacts k
  match r with
  | .clean => s
  | .uncorrectable => s.raiseFault ue (match k with | .tcm c => c | _ => unit)
  | .corrected =>
    let s1 := match ce with | some src => s.raiseFault src | none => s
    let sec := s.now / 8000000000
    let (t, n) := tabGet (sec, 0) s.bw.ce id
    let n' := if t = sec then n + 1 else 1
    let s2 := s1.setBw { s1.bw with ce := tabPut s1.bw.ce id (sec, n') }
    if n' = s.regF .bwMon 0x40 0 16 + 1 then s2.raiseFault 0x0C unit else s2

/-! ### The commands -/

/-- PREEMPTION. -/
def execPreemption (s : State) : Host.Outcome State Fault Refusal := .next s.slackBegins
/-- FAULT_LATCH. -/
def execFaultLatch (outside : List (Nat × Nat)) (s : State) : Host.Outcome State Fault Refusal := .next (s.faultLatch outside)
/-- LOCKSTEP_MISMATCH. -/
def execLockstepMismatch (point : Nat) (odd : Option Nat) (s : State) : Host.Outcome State Fault Refusal :=
  .next (s.lockstepMismatch point odd)
/-- RESYNC_COPY_DONE. -/
def execResyncCopyDone (s : State) : Host.Outcome State Fault Refusal := .next s.resyncCopied
/-- RESYNC_JOIN_DONE. -/
def execResyncJoinDone (crcOk : Bool) (s : State) : Host.Outcome State Fault Refusal := .next (s.resyncJoined crcOk)
/-- DEGRADED_TIMEOUT. -/
def execDegradedTimeout (s : State) : Host.Outcome State Fault Refusal := .next s.degraded
/-- ROTATION_START. -/
def execRotationStart (s : State) : Host.Outcome State Fault Refusal := .next s.rotationStart
/-- ROTATION_TEST_DONE. -/
def execRotationTestDone (pass : Bool) (s : State) : Host.Outcome State Fault Refusal := .next (s.rotationTested pass)
/-- MONITOR_EXCURSION; beyond the 60 V of R519 the spec promises nothing of the part.
Marked DESIGN CHOICE and safe (notes/assumptions/14.md). -/
def execMonitorExcursion (m : Monitor) (s : State) : Host.Outcome State Fault Refusal :=
  match m with
  | .rail 8 _ _ mV => if 60000 < mV then .fault .absoluteMaximum else .next (s.monitor m)
  | m => .next (s.monitor m)
/-- SLACK_ENTRY_DELIVERY. -/
def execSlackEntryDelivery (i : Nat) (s : State) : Host.Outcome State Fault Refusal := .next (s.slackDeliver i)
/-- SLACK_DONE. -/
def execSlackDone (s : State) : Host.Outcome State Fault Refusal := .next s.slackDone
/-- PLAN_VALIDATION_DONE. -/
def execPlanValidationDone (s : State) : Host.Outcome State Fault Refusal := .next s.planValidated
/-- PLAN_SEQUENCE_TIMEOUT. -/
def execPlanSequenceTimeout (s : State) : Host.Outcome State Fault Refusal := .next s.planTimeout
/-- PLAN_STALE. -/
def execPlanStale (s : State) : Host.Outcome State Fault Refusal := .next s.planPasses
/-- PLAN_SCRUB. -/
def execPlanScrub (errs : List Nat) (s : State) : Host.Outcome State Fault Refusal := .next (s.planScrub errs)
/-- SPEED_SOURCE_SAMPLE. -/
def execSpeedSourceSample (s : State) : Host.Outcome State Fault Refusal := .next s.speedSample
/-- SPEED_LOST. -/
def execSpeedLost (s : State) : Host.Outcome State Fault Refusal := .next s.speedLost
/-- MEMORY_SCRUB. -/
def execMemoryScrub (k : MemKind) (r : ScrubResult) (s : State) : Host.Outcome State Fault Refusal :=
  .next (s.memoryScrub k r)
/-- BREAKWATER_SELF_TEST: a failed self-test raises BW_SELF (R420). -/
def execBreakwaterSelfTest (pass : Bool) (s : State) : Host.Outcome State Fault Refusal :=
  .next (if pass then s else s.raiseFault 0x24)
/-- FUSE_SHADOW_CHECK: a failed check clears CRC_OK and raises FUSE_CRC (R420, R498). -/
def execFuseShadowCheck (pass : Bool) (s : State) : Host.Outcome State Fault Refusal :=
  .next (let s1 := s.setRegF .fuse 0x48 0 1 (if pass then 1 else 0)
    if pass then s1 else s1.raiseFault 0x3E)

end Sys2Proof.Machine
end

