-- ==== Sys2Proof/Machine/Timers.lean ====
section
/-! DEFINITION. Timers (R440–R448) and the trigger matrix (R449–R451). -/
namespace Sys2Proof.Machine

/-- A word of timer k's block (R448). -/
def tmrOff (k r : Nat) : Nat := 0x800 + k % 8 * 0x20 + r
/-- A word of timer k. -/
def State.tmrWord (s : State) (k r : Nat) : Word := s.reg (.tmr (k / 8)) (tmrOff k r)
/-- A timer's own state: stopped at 0 with reset live values where the state lists none. -/
def tmrReset : Tmr := ⟨false, 0, 0, false, 2 ^ 32 - 1, 2 ^ 32 - 1, 2 ^ 32 - 1, none, false, none, none, []⟩
/-- A timer's own state. -/
def State.timer (s : State) (k : Nat) : Tmr := tabGet tmrReset s.tmr k
/-- A timer's own state replaced. -/
def State.setTimer (s : State) (k : Nat) (t : Tmr) : State := { s with tmr := tabSet tmrReset s.tmr k t }
/-- A bit of TCFG: 0 EN, 1 MODE (STOP), 2 IMM, 3 CHAIN, 4 ARM, 5 CSRC. -/
def State.tcfg (s : State) (k b : Nat) : Bool := bit (s.tmrWord k 0x14) b
/-- Timer k heads a chained pair (R445). -/
def State.chainHead (s : State) (k : Nat) : Bool := k % 2 = 0 && s.tcfg k 3
/-- Timer k is the odd timer of a chained pair. -/
def State.chainOdd (s : State) (k : Nat) : Bool := k % 2 = 1 && s.tcfg (k - 1) 3
/-- Ticks of timebase per timer tick (R440). -/
def State.tmrUnit (s : State) (k : Nat) : Nat := 8 * (fld (s.tmrWord k 0x14) 16 16 + 1)

/-- A value of timer k as its registers hold it: PERIOD at 8, CMP0 at 0xC, CMP1 at 0x10; both words when chained. -/
def State.tmrVal (s : State) (k r : Nat) : Nat :=
  (s.tmrWord k r).toNat + (if s.chainHead k then 2 ^ 32 * (s.tmrWord (k + 1) r).toNat else 0)

/-- The preloads copied into the live values (R442).
Marked DEDUCED and unsafe (notes/assumptions/96.md). -/
def State.tmrCopied (s : State) (k : Nat) (t : Tmr) : Tmr :=
  { t with period := s.tmrVal k 8, cmp0 := s.tmrVal k 0xC, cmp1 := s.tmrVal k 0x10, copy := false }

/-- The count that follows n ticks after a count c, with no change of the live values between (R441, R443). -/
def ticksOn (stop : Bool) (period c n : Nat) : Nat :=
  if n = 0 then c
  else if period < c then (if stop then period else (n - 1) % (period + 1))
  else if stop then min (c + n) period
  else (c + n) % (period + 1)

/-- Ticks of timer k from `at_` to an instant. -/
def State.tmrTicks (s : State) (k : Nat) (t : Tmr) (x : Nat) : Nat :=
  if t.run && !s.tcfg k 5 && t.at_ ≤ x then (x - t.at_) / s.tmrUnit k else 0

/-- The count at an instant (R440–R444). -/
def State.countAt (s : State) (k : Nat) (t : Tmr) (x : Nat) : Nat :=
  let n := s.tmrTicks k t x
  match t.load with
  | some v => if n = 0 then t.count else ticksOn (s.tcfg k 1) t.period v (n - 1)
  | none => ticksOn (s.tcfg k 1) t.period t.count n

/-- The timer with every tick up to an instant taken in; a load or preload copy that waited for a tick is done. -/
def State.tmrSettle (s : State) (k : Nat) (t : Tmr) (x : Nat) : Tmr :=
  let n := s.tmrTicks k t x
  if n = 0 then t
  else
    let t1 := { t with count := s.countAt k t x, at_ := t.at_ + n * s.tmrUnit k, taken := t.load.isNone || 1 < n, load := none }
    if t.copy || (t.load.isSome && s.tcfg k 1) then s.tmrCopied k t1 else t1

/-- The timer with a load or a preload copy done whose tick has come; at a wrap the copy is the wrap's own (R442, R444). -/
def State.tmrCatch (s : State) (k : Nat) : Tmr :=
  let t := s.timer k
  if t.load.isSome || (t.copy && t.count < t.period) then
    (if s.tmrTicks k t s.now = 0 then t else s.tmrSettle k t (t.at_ + s.tmrUnit k))
  else t

/-! ### Routes (R449, R450) -/

/-- ROUTE[r]. -/
def State.route (s : State) (r : Nat) : Word := s.reg .tmx (0x800 + 4 * r)

/-- The delay from an event to a route's action by KIND (R449). -/
def routeDelay (kind : Nat) : Nat := if kind = 0 then 1600 else if kind = 5 then 0 else 16

/-- A request to a DMA channel is dropped (R453). -/
def State.dmaDrop (s : State) (c : Nat) : State :=
  (s.satIncF (.dma (c / 8)) (0x814 + c % 8 * 0x40) 24 8).irqBit (.dma (c / 8)) (16 + c % 8)

/-- A start of a converter is dropped (R465). -/
def State.cvDropStart (s : State) (c : Nat) : State := (s.satIncF (.cv c) 0x58 0 16).irqBit (.cv c) 2

/-- An action is under way; requests to one DMA channel and starts of one converter at one instant collapse into one, the
further ones counted as overruns (R450). -/
def State.routePush (s : State) (a : RouteDue) : State :=
  if a.kind ≤ 1 && s.routes.any fun b => b.kind = a.kind && b.index = a.index && b.at_ = a.at_ then
    if a.kind = 0 then s.cvDropStart a.index else s.dmaDrop a.index
  else { s with routes := s.routes ++ [a] }

/-- A timer event at an instant: its flag is raised and every enabled route from it starts (R441, R449). -/
def State.timerEvent (s : State) (k e t : Nat) : State :=
  let s1 := s.irqBit (.tmr (k / 8)) (4 * (k % 8) + e)
  (List.range 64).foldl (fun s r =>
    let w := s.route r
    if bit w 31 && fld w 0 7 = 4 * k + e then
      let kind := fld w 8 3
      s.routePush ⟨kind, fld w 11 16, t, t + routeDelay kind⟩
    else s) s1

/-- The first action of a kind and destination whose instant has come; TM_FIRED counts it (R451), but for a converter's own DMA
request (R466), which is no route's and reaches its channel at its event's instant.
Marked DEDUCED and unsafe (notes/assumptions/122.md). -/
def State.routeTake (s : State) (kind index : Nat) : Option (RouteDue × State) :=
  match s.routes.find? fun a => a.kind = kind && a.index = index && a.at_ ≤ s.now with
  | some a =>
    let s1 : State := { s with routes := s.routes.erase a }
    some (a, if a.kind = 1 && a.event = a.at_ then s1 else s1.wrapInc .tmx 0x40)
  | none => none

/-! ### Timer events -/

/-- LATE is set (R443). -/
def State.setLate (s : State) (k : Nat) (late : Bool) : State :=
  if late then s.setRegF (.tmr (k / 8)) (tmrOff k 0x18) 3 1 1 else s

/-- TIMER_MATCH: the count takes CMP0 or CMP1 (R441).
Marked DESIGN CHOICE and unsafe (notes/assumptions/4.md). -/
def State.timerMatch (s : State) (k i : Nat) : State :=
  let t := s.tmrCatch k
  let cm := if i = 0 then t.cmp0 else t.cmp1
  let last := if i = 0 then t.match0 else t.match1
  if s.chainOdd k || t.period < cm || t.load.isSome then s
  else
    let at_ := if cm = t.count && t.taken then some t.at_
      else if t.count < cm && cm ≤ t.count + s.tmrTicks k t s.now then some (t.at_ + (cm - t.count) * s.tmrUnit k)
      else none
    match at_ with
    | some x =>
      if last = some x then s
      else (s.setTimer k (if i = 0 then { t with match0 := some x } else { t with match1 := some x })).timerEvent k i x
    | none => s

/-- TIMER_WRAP: in WRAP mode the count goes from PERIOD to 0, the preloads copied (R441–R443). -/
def State.timerWrap (s : State) (k : Nat) : State :=
  let t := s.tmrCatch k
  let steps := if t.period < t.count then 1 else t.period - t.count + 1
  if s.chainOdd k || s.tcfg k 1 || t.load.isSome || s.tmrTicks k t s.now < steps then s
  else
    let x := t.at_ + steps * s.tmrUnit k
    let t1 := { t with count := 0, at_ := x, taken := true }
    ((s.setTimer k (if s.tcfg k 2 then t1 else s.tmrCopied k t1)).setLate k (t.period < t.count)).timerEvent k 2 x

/-- TIMER_TOP: in STOP mode the count reaches PERIOD and holds (R441, R443). -/
def State.timerTop (s : State) (k : Nat) : State :=
  let t := s.tmrCatch k
  let steps := if t.period < t.count then 1 else t.period - t.count
  if s.chainOdd k || !s.tcfg k 1 || steps = 0 || t.load.isSome || s.tmrTicks k t s.now < steps then s
  else
    let x := t.at_ + steps * s.tmrUnit k
    ((s.setTimer k { t with count := t.period, at_ := x, taken := true, run := false }).setLate k (t.period < t.count)).timerEvent k 3 x

/-- Counting starts at an instant E (R440, R442, R447). -/
def State.timerRun (s : State) (k x : Nat) : State :=
  let t := s.timer k
  if t.run then s else s.setTimer k (s.tmrCopied k { t with run := true, at_ := x, taken := false })

/-- Counting halts at an instant and the count is held (R447). -/
def State.timerHalt (s : State) (k x : Nat) : State :=
  let t := s.tmrSettle k (s.timer k) x
  s.setTimer k { t with run := false }

/-- A CSRC timer's count advances at an instant, with the events that the new value raises (R441, R447). -/
def State.timerCount (s : State) (k x : Nat) : State :=
  let t := s.timer k
  if !t.run || !s.tcfg k 5 then s
  else
    let stop := s.tcfg k 1
    let top := stop && t.count = t.period
    let wrap := !stop && t.period ≤ t.count
    let c := if top then t.count else ticksOn stop t.period t.count 1
    let t1 := { t with count := c, at_ := x, taken := !top }
    let t2 := if wrap && !s.tcfg k 2 then s.tmrCopied k t1 else t1
    let s1 := (s.setTimer k t2).setLate k (t.period < t.count)
    if top then s1
    else
      let s2 := if c = t2.cmp0 && c ≤ t2.period then s1.timerEvent k 0 x else s1
      let s3 := if c = t2.cmp1 && c ≤ t2.period then s2.timerEvent k 1 x else s2
      if wrap then s3.timerEvent k 2 x else if stop && c = t2.period then s3.timerEvent k 3 x else s3

/-- ROUTE_TIMER_START: counting resumes 16 ticks after the event, unless a STOP arrives at the same instant (R447, R449). -/
def State.routeStart (s : State) (k : Nat) : State :=
  match s.routeTake 2 k with
  | some (a, s1) =>
    if s1.tcfg k 0 && !s1.chainOdd k && !(s.routes.any fun b => b.kind = 3 && b.index = k && b.at_ = a.at_) then
      s1.timerRun k a.at_
    else s1
  | none => s

/-- ROUTE_TIMER_STOP: counting halts 16 ticks after the event (R447, R449). -/
def State.routeStop (s : State) (k : Nat) : State :=
  match s.routeTake 3 k with
  | some (a, s1) => if s1.chainOdd k then s1 else s1.timerHalt k a.at_
  | none => s

/-- ROUTE_TIMER_COUNT: a CSRC timer counts 16 ticks after the event (R447, R449). -/
def State.routeCount (s : State) (k : Nat) : State :=
  match s.routeTake 4 k with
  | some (a, s1) => if s1.chainOdd k then s1 else s1.timerCount k a.at_
  | none => s

/-! ### The pages -/

/-- Timers of a page that a write touches, with the register. -/
def tmrTouched (w : Wr) (page : Nat) : List (Nat × Nat × Nat) :=
  (w.offs.filter fun o => 0x800 ≤ o && o < 0x900).map fun o => (8 * page + (o - 0x800) / 0x20, (o - 0x800) % 0x20, o)

/-- The count that a write of CNT_LO or CNT_HI loads into the timer that heads the count: a word not written keeps its
present value (R444, R445). -/
def State.loadValue (s : State) (page : Nat) (w : Wr) (k : Nat) : Option (Nat × Nat) :=
  let odd := s.chainOdd k
  let h := if odd then k - 1 else k
  let c := s.countAt h (s.timer h) s.now
  let o := tmrOff k 0
  if k / 8 ≠ page then none
  else if odd && w.hits o then some (h, c % 2 ^ 32 + 2 ^ 32 * (w.word o).toNat)
  else if odd then none
  else if w.hits o || (w.hits (o + 4) && s.chainHead k) then
    let lo := if w.hits o then (w.word o).toNat else c % 2 ^ 32
    let hi := if !s.chainHead k then 0 else if w.hits (o + 4) then (w.word (o + 4)).toNat else c / 2 ^ 32
    some (h, lo + 2 ^ 32 * hi)
  else none

/-- A timer page's own checks (R444–R448). -/
def chkTmr (s : State) (page : Nat) (w : Wr) : Chk :=
  let ts := tmrTouched w page
  { range := ts.any fun x =>
      let (k, r, o) := x
      (r = 0x14 && k % 2 = 1 && bit (w.word o) 3)
        || (r = 0x1C && [0, 1, 2, 4, 8].all (fun v => (w.word o).toNat ≠ v))
        || ((r = 0 || r = 4) && (s.loadValue page w k).any fun l => (s.timer l.1).period < l.2)
    state := ts.any fun x =>
      let (k, r, o) := x
      ((r = 0x14 || r = 0x1C) && s.chainOdd k)
        || (r = 0x14 && s.tcfg k 0 && (s.tmrWord k 0x14).toNat / 2 ≠ (s.after w o).toNat / 2)
        || (r = 0x14 && k % 2 = 0 && bit (w.word o) 3 && s.tcfg (k + 1) 0)
        || (r = 4 && !s.chainHead k) }

/-- A load of the count: at the next tick while the timer counts, at once while it is held; at the top of STOP mode it
restarts counting (R444).
Marked DEDUCED and unsafe (notes/assumptions/96.md). -/
def State.timerLoad (s : State) (k v : Nat) : State :=
  let t := s.tmrSettle k (s.timer k) s.now
  let atTop := s.tcfg k 0 && s.tcfg k 1 && t.taken && t.count = t.period
  if t.run && !s.tcfg k 5 then s.setTimer k { t with load := some v }
  else
    let t1 := { t with count := v, taken := false, at_ := s.now, run := t.run || atTop }
    s.setTimer k (if s.tcfg k 1 then s.tmrCopied k t1 else t1)

/-- The effect of a write to one word of a timer (R442–R448); s0 is the state before the write.
Marked DEDUCED and unsafe (notes/assumptions/96.md). -/
def State.timerWord (s0 s : State) (page : Nat) (w : Wr) (k r o : Nat) : State :=
  let h := if s.chainOdd k then k - 1 else k
  if r = 0 || r = 4 then
    if r = 4 && w.hits (o - 4) then s.setReg (.tmr page) o 0
    else match s0.loadValue page w k with
      | some (h, v) => (s.setReg (.tmr page) o 0).timerLoad h v
      | none => s
  else if r = 8 || r = 0xC || r = 0x10 then
    if s.tcfg h 2 then s.setTimer h (s.tmrCopied h { s0.tmrSettle h (s0.timer h) s.now with taken := false })
    else s
  else if r = 0x14 then
    let was := s0.tcfg k 0
    if s.tcfg k 0 && !was then (if s.tcfg k 4 then s else s.timerRun k s.now)
    else if !s.tcfg k 0 && was then
      let t := s0.tmrSettle k (s0.timer k) s.now
      s.setTimer k { t with run := false }
    else s
  else if r = 0x1C then
    let v := w.word o
    if bit v 0 && s.tcfg k 0 then s.timerRun k s.now
    else if bit v 1 then s.timerHalt k s.now
    else if bit v 2 then
      let t := s.tmrSettle k (s.timer k) s.now
      s.setTimer k (if t.run && !s.tcfg k 5 then { t with copy := true } else s.tmrCopied k t)
    else if bit v 3 then s.setRegF (.tmr page) (tmrOff k 0x18) 3 1 0
    else s
  else s

/-- A timer page's effects beyond the store. -/
def effTmr (s0 : State) (page : Nat) (w : Wr) (s : State) : State :=
  (tmrTouched w page).foldl (fun s x => s0.timerWord s page w x.1 x.2.1 x.2.2) s

/-- A timer register as a master reads it: CNT_LO, CNT_HI (the live high word) and TSTAT (R445–R448).
Marked DEDUCED and unsafe (notes/assumptions/96.md). -/
def State.timerRead (s : State) (m : Master) (page off : Nat) : Option Word :=
  if off < 0x800 || 0x900 ≤ off then none
  else
    let k := 8 * page + (off - 0x800) / 0x20
    let r := (off - 0x800) % 0x20
    let h := if s.chainOdd k then k - 1 else k
    let c := s.countAt h (s.timer h) s.now
    if r = 0 then some (wordOf (if s.chainOdd k then c / 2 ^ 32 else c))
    else if r = 4 then some (wordOf (if s.chainHead k then c / 2 ^ 32 else 0))
    else if r = 0x18 then
      let t := s.timer h
      some (wordOf ((if t.run && !s.chainOdd k then 1 else 0) + (if s.chainOdd k then 2 else 0)
        + (if (s.timer k).stale.contains m.id then 4 else 0) + fld (s.tmrWord k 0x18) 3 1 * 8))
    else none

/-- The trigger matrix page's own checks (R449–R451). -/
def chkTmx (s : State) (w : Wr) : Chk :=
  let rs := (w.offs.filter fun o => 0x800 ≤ o).map fun o => s.after w o
  { range := rs.any fun r =>
      let kind := fld r 8 3
      let i := fld r 11 16
      kind = 7 || (kind ≠ 5 && (if kind = 0 || kind = 6 then 15 else 31) < i)
    absent := rs.any fun r =>
      let i := fld r 11 16
      (fld r 8 3 = 0 && s.fuses.cells ≤ i) || (fld r 8 3 = 6 && s.fuses.swells ≤ i) }

/-- The trigger matrix page's effects: TM_CLR (R451). -/
def effTmx (w : Wr) (s : State) : State := if w.hits 0x44 && bit (w.word 0x44) 0 then s.setReg .tmx 0x40 0 else s

/-! ### The commands -/

/-- TIMER_MATCH. -/
def execTimerMatch (timer cmp : Nat) (s : State) : Host.Outcome State Fault Refusal := .next (s.timerMatch timer cmp)
/-- TIMER_WRAP. -/
def execTimerWrap (timer : Nat) (s : State) : Host.Outcome State Fault Refusal := .next (s.timerWrap timer)
/-- TIMER_TOP. -/
def execTimerTop (timer : Nat) (s : State) : Host.Outcome State Fault Refusal := .next (s.timerTop timer)
/-- ROUTE_TIMER_START. -/
def execRouteTimerStart (timer : Nat) (s : State) : Host.Outcome State Fault Refusal := .next (s.routeStart timer)
/-- ROUTE_TIMER_STOP. -/
def execRouteTimerStop (timer : Nat) (s : State) : Host.Outcome State Fault Refusal := .next (s.routeStop timer)
/-- ROUTE_TIMER_COUNT. -/
def execRouteTimerCount (timer : Nat) (s : State) : Host.Outcome State Fault Refusal := .next (s.routeCount timer)
/-- RELEASE_FIRE: a release route's event reaches its queue (R98, R449). -/
def execReleaseFire (q : Nat) (s : State) : Host.Outcome State Fault Refusal :=
  .next (match s.routeTake 5 q with
    | some (a, s1) => s1.releaseFire q a.event
    | none => s)

end Sys2Proof.Machine
end

