-- ==== Sys2Proof/Machine/Dma.lean ====
section
/-! DEFINITION. The DMA controller's channels and pages (R452–R455); the transactions themselves are in Burst.lean. -/
namespace Sys2Proof.Machine

/-- The page of a DMA channel. -/
def dmaPage (c : Nat) : Page := .dma (c / 8)
/-- A word's offset in a channel's block (R455). -/
def dmaOff (c r : Nat) : Nat := 0x800 + c % 8 * 0x40 + r
/-- A word of a channel. -/
def State.dmaWord (s : State) (c r : Nat) : Word := s.reg (dmaPage c) (dmaOff c r)
/-- STATE of a channel: 0 IDLE, 1 ACTIVE, 2 DONE, 3 STOPPED. -/
def State.dmaState (s : State) (c : Nat) : Nat := fld (s.dmaWord c 0x14) 0 2
/-- A channel with request pacing (R453). -/
def State.dmaPaced (s : State) (c : Nat) : Bool := bit (s.dmaWord c 0xC) 2
/-- Bytes left of a channel's burst. -/
def State.dmaBurst (s : State) (c : Nat) : Nat := tabGet 0 s.dma.burst c
/-- Set the bytes left of a channel's burst. -/
def State.setBurst (s : State) (c n : Nat) : State := { s with dma := { s.dma with burst := tabSet 0 s.dma.burst c n } }
/-- Bytes that a channel has still to move. -/
def State.dmaLeft (s : State) (c : Nat) : Nat := fld (s.dmaWord c 8) 0 24 - fld (s.dmaWord c 0x18) 0 24
/-- A channel has work for a transaction (R453). -/
def State.dmaWork (s : State) (c : Nat) : Bool := s.dmaState c = 1 && (!s.dmaPaced c || s.dmaBurst c ≠ 0)

/-- A transfer ends (R454): DONE, or STOPPED with a reason and a fault address. -/
def State.dmaEnd (s : State) (c : Nat) (done : Bool) (r : Reason) (fault : Nat) : State :=
  let s1 := ((s.setRegF (dmaPage c) (dmaOff c 0x14) 0 2 (if done then 2 else 3)).setRegF (dmaPage c) (dmaOff c 0x14) 8 8 r.code).setReg
    (dmaPage c) (dmaOff c 0x1C) (wordOf fault)
  ((s1.setBurst c 0).setRegF (dmaPage c) (dmaOff c 0x14) 16 1 0).irqBit (dmaPage c) (if done then c % 8 else 8 + c % 8)

/-- A burst begins: BURST words, fewer when DLEN leaves less (R453). -/
def State.dmaBegin (s : State) (c : Nat) : State := s.setBurst c (Nat.min (4 * fld (s.dmaWord c 0xC) 8 5) (s.dmaLeft c))

/-- DMA_REQUEST: a request reaches a paced channel and moves one burst, or is held or dropped (R453).
Marked DEDUCED and unsafe (notes/assumptions/122.md). -/
def State.dmaRequest (s : State) (c : Nat) : State :=
  match s.routeTake 1 c with
  | some (_, s1) =>
    if s1.dmaState c ≠ 1 || !s1.dmaPaced c then s1
    else if s1.dmaBurst c = 0 then s1.dmaBegin c
    else if bit (s1.dmaWord c 0x14) 16 then s1.dmaDrop c
    else s1.setRegF (dmaPage c) (dmaOff c 0x14) 16 1 1
  | none => s

/-- DCTRL.START: the transfer starts, or is armed when paced (R453). -/
def State.dmaStart (s : State) (c : Nat) : State :=
  ((s.setReg (dmaPage c) (dmaOff c 0x14) 1).setReg (dmaPage c) (dmaOff c 0x18) 0).setReg (dmaPage c) (dmaOff c 0x1C) 0

/-- Channels of a page that a write touches, with the register and the offset. -/
def dmaTouched (w : Wr) (page : Nat) : List (Nat × Nat × Nat) :=
  (w.offs.filter fun o => 0x800 ≤ o && o < 0xA00).map fun o => (8 * page + (o - 0x800) / 0x40, (o - 0x800) % 0x40, o)

/-- A DMA channel page's own checks (R452, R455). -/
def chkDma (s : State) (page : Nat) (w : Wr) : Chk :=
  let ts := dmaTouched w page
  { range := ts.any fun x =>
      let (c, r, o) := x
      let v := s.after w o
      let cfg := s.after w (dmaOff c 0xC)
      let len := fld (s.after w (dmaOff c 8)) 0 24
      let side (inc : Nat) (a : Word) : Bool := bit cfg 3 && !bit cfg inc && a.toNat % 8 ≠ 0
      ((r = 0 || r = 4 || r = 8) && fld v 0 2 ≠ 0) || (r = 8 && len = 0)
        || (r = 0xC && (fld v 8 5 = 0 || 16 < fld v 8 5))
        || (r ≤ 0xC && (side 0 (s.after w (dmaOff c 0)) || side 1 (s.after w (dmaOff c 4))
          || (bit cfg 3 && fld cfg 0 2 ≠ 3 && len % 8 ≠ 0)))
    state := ts.any fun x =>
      let (c, r, o) := x
      s.dmaState c = 1 && (r ≤ 0xC || (r = 0x10 && bit (w.word o) 0)) }

/-- A DMA channel page's effects: START and ABORT (R453, R454). -/
def effDma (page : Nat) (w : Wr) (s : State) : State :=
  (dmaTouched w page).foldl (fun s x =>
    let (c, r, o) := x
    if r = 0x10 then
      let s1 := if bit (w.word o) 0 then s.dmaStart c else s
      if bit (w.word o) 1 && s1.dmaState c = 1 then s1.dmaEnd c false .none 0 else s1
    else s) s

/-- DMA_ACTIVE as it reads (R455). -/
def State.dmaActive (s : State) : Word :=
  wordOf ((List.range 32).foldl (fun n c => if s.dmaState c = 1 then n + 2 ^ c else n) 0)

/-- DMA_REQUEST. -/
def execDmaRequest (c : Nat) (s : State) : Host.Outcome State Fault Refusal := .next (s.dmaRequest c)

end Sys2Proof.Machine
end

