-- ==== Sys2Proof/Machine/Surf.lean ====
section
/-! DEFINITION. Surf inspection lanes (R189–R221): cameras and strips, line intake, the pixel pipeline, components, seam
merge, features and classes, patches, records, and the group and lane pages. -/
namespace Sys2Proof.Machine

/-! ### Cameras and lanes (R189–R195) -/

/-- A word of a camera's slot (R219). -/
def State.camWord (s : State) (c r : Nat) : Word := s.reg (.surfG (c / 2)) (0x800 + c % 2 * 0x40 + r)
/-- The page offset of a camera's word. -/
def camOff (c r : Nat) : Nat := 0x800 + c % 2 * 0x40 + r
/-- The group page of a camera. -/
def camPage (c : Nat) : Page := .surfG (c / 2)
/-- FIRST_LANE of a camera. -/
def State.camFirst (s : State) (c : Nat) : Nat := fld (s.camCfg c) 6 6
/-- NLANES of a camera. -/
def State.camLanes (s : State) (c : Nat) : Nat := fld (s.camCfg c) 12 6
/-- WIDTH of a camera. -/
def State.camWidth (s : State) (c : Nat) : Nat := fld (s.camWord c 4) 0 16
/-- STRIP of a camera. -/
def State.camStrip (s : State) (c : Nat) : Nat := fld (s.camWord c 4) 16 12
/-- CONN8 of a camera. -/
def State.camConn8 (s : State) (c : Nat) : Bool := bit (s.camCfg c) 26
/-- A camera's intake. -/
def State.surfCam (s : State) (c : Nat) : SurfCam := tabGet ⟨[], 0, 0, false, false⟩ s.surf.cams c
/-- The state with a camera's intake replaced. -/
def State.setCam (s : State) (c : Nat) (x : SurfCam) : State :=
  { s with surf := { s.surf with cams := tabPut s.surf.cams c x } }
/-- A camera holds its lanes: EN = 1 or draining (R221). -/
def State.camHolds (s : State) (c : Nat) : Bool := s.camEn c || (s.surfCam c).draining
/-- The camera that a lane serves: one with EN = 1 before one that drains (R193, R221). -/
def State.laneCam (s : State) (l : Nat) : Option Nat :=
  let holds (c : Nat) : Bool := s.camFirst c ≤ l && l < s.camFirst c + s.camLanes c
  ((List.range 16).find? fun c => s.camEn c && holds c).or ((List.range 16).find? fun c => s.camHolds c && holds c)
/-- A lane's own state. -/
def State.lane (s : State) (l : Nat) : SurfLane := tabGet ⟨0, [], [], false⟩ s.surf.lanes l
/-- The state with a lane's own state replaced. -/
def State.setLane (s : State) (l : Nat) (x : SurfLane) : State :=
  { s with surf := { s.surf with lanes := tabPut s.surf.lanes l x } }
/-- The page of a lane, and the offset of a register of its block (R221). -/
def lanePage (l : Nat) : Page := .surfL (l / 8)
/-- The offset of a lane's register. -/
def laneOff (l r : Nat) : Nat := 0x800 + l % 8 * 0x100 + r
/-- A lane's shadow copies: LANE_CFG, THRESH, KCOEF[0–31] (R202). -/
def State.laneShadow (s : State) (l : Nat) : List Word :=
  s.reg (lanePage l) (laneOff l 0) :: s.reg (lanePage l) (laneOff l 4)
    :: (List.range 32).map fun i => s.reg (lanePage l) (laneOff l (0x80 + 4 * i))
/-- KMODE of a lane (not shadowed). -/
def State.laneKmode (s : State) (l : Nat) : Nat := s.regF (lanePage l) (laneOff l 0) 0 2
/-- H of a lane (R191). -/
def State.laneH (s : State) (l : Nat) : Nat := if s.laneKmode l = 2 then 7 else 3
/-- A lane's first camera pixel and the pixel after its last (R190). -/
def State.laneSpan (s : State) (c l : Nat) : Nat × Nat :=
  let j := l - s.camFirst c
  (j * s.camStrip c, min ((j + 1) * s.camStrip c) (s.camWidth c))

/-- The camera stitched after camera X (R195), when the seam is active.
Marked DEDUCED and unsafe (notes/assumptions/58.md). -/
def State.stitchAfter (s : State) (c : Nat) : Option Nat :=
  if bit (s.camCfg c) 25 && s.camEn c then
    (List.range 16).find? fun d => d ≠ c && s.camEn d && s.camFirst d = s.camFirst c + s.camLanes c
      && fld (s.camCfg d) 20 4 = fld (s.camCfg c) 20 4 && s.camConn8 d = s.camConn8 c
  else none

/-- The camera stitched before camera Y, when the seam is active.
Marked DEDUCED and unsafe (notes/assumptions/58.md). -/
def State.stitchBefore (s : State) (d : Nat) : Option Nat :=
  (List.range 16).find? fun c => s.stitchAfter c = some d

/-- The first camera of the stitched image that a camera belongs to, within fuel (R195). -/
def State.stitchRoot (s : State) : Nat → Nat → Nat
  | 0, c => c
  | n + 1, c => match s.stitchBefore c with
    | some d => s.stitchRoot n d
    | none => c

/-- Where a camera's pixel 0 lies in its stitched image, within fuel (R195, R207). -/
def State.stitchOrg (s : State) : Nat → Nat → Nat
  | 0, _ => 0
  | n + 1, c => match s.stitchBefore c with
    | some d => s.stitchOrg n d + s.camWidth d
    | none => 0

/-- The pixels from a camera's pixel 0 to the end of its stitched image, within fuel (R195, R207). -/
def State.stitchRest (s : State) : Nat → Nat → Nat
  | 0, c => s.camWidth c
  | n + 1, c => s.camWidth c + (match s.stitchAfter c with
    | some d => s.stitchRest n d
    | none => 0)

/-- The other cameras of a camera's stitched image (R195). -/
def State.stitchWith (s : State) (c : Nat) : List Nat :=
  (List.range 16).filter fun d => d ≠ c && s.camEn d && s.stitchRoot 16 d = s.stitchRoot 16 c

/-- Line-buffer bytes that a lane of a running camera uses (R192). -/
def State.laneBuffer (s : State) (l strip : Nat) : Nat := (strip + 2 * s.laneH l) * (2 * s.laneH l + 2) * 2

/-- Line-buffer bytes used in a group by the lanes of running cameras (R192). -/
def State.bufUsed (s : State) (g : Nat) : Nat :=
  ((List.range 8).map fun j => match s.laneCam (8 * g + j) with
    | some c => if s.camEn c then s.laneBuffer (8 * g + j) (s.camStrip c) else 0
    | none => 0).foldl (· + ·) 0

/-! ### The pixel pipeline (R199–R203) -/

/-- How far a line number lies after another in serial order (R196). -/
def serialDiff (a b : Nat) : Nat := (b % 2 ^ 32 + 2 ^ 32 - a % 2 ^ 32) % 2 ^ 32

/-- The flat-field word of a lane's pixel: GAIN in [15:0], OFFSET in [31:16] (R199, R200). -/
def State.ffWord (s : State) (l px : Nat) : Word := tabGet 0x4000 s.surf.ff (l * 2048 + px)

/-- A corrected pixel (R199).
Marked DEDUCED and unsafe (notes/assumptions/58.md). -/
def correct (ff : Word) (depth p : Nat) : Nat :=
  let x : Int := (p * 2 ^ (12 - depthBits depth) : Nat)
  let y := ((x - sgn 16 (fld ff 16 16)) * (fld ff 0 16 : Nat) + 8192) / 16384
  (clampI 0 4095 y).toNat

/-- Correct a lane's strip of a line, unless it has been corrected (R191, R199). -/
def State.correctStrip (s : State) (c j : Nat) (x : CamLine) : CamLine :=
  if (tabGet? x.cor j).isSome then x
  else
    let l := s.camFirst c + j
    let (a, b) := s.laneSpan c l
    { x with cor := tabPut x.cor j ((List.range (b - a)).map fun i =>
        correct (s.ffWord l i) (fld (s.camCfg c) 18 2) (x.raw.getD (a + i) 0)) }

/-- The corrected pixel of a held line. -/
def State.corPixel (s : State) (c : Nat) (x : CamLine) (i : Nat) : Nat :=
  let n := max 1 (s.camStrip c)
  (tabGet [] x.cor (i / n)).getD (i % n) 0

/-- The held line with a number. -/
def State.camLine (s : State) (c num : Nat) : Option CamLine := (s.surfCam c).lines.find? fun x => x.num = num

/-- A camera's corrected pixel on a line of the present run: lines before its first repeat the first (R191); a line after the
last accepted one has no stated pixels.
Marked DESIGN CHOICE and safe (notes/assumptions/57.md). -/
def State.linePixel (s : State) (c num i : Nat) : Nat :=
  let k := s.surfCam c
  if k.last < num then Config.linePixel s.free num i % 4096
  else match s.camLine c (max num k.first) with
    | some x => s.corPixel c x i
    | none => 0

/-- The pixel at a signed column of a camera's line: the edge pixel repeated beyond the camera's ends, the partner's pixels
across an active stitched seam, where a missing line is blank (R191, R195, R197). -/
def State.pixelAt (s : State) (c num : Nat) (i : Int) : Int :=
  let w := s.camWidth c
  let k := s.surfCam c
  let partner (d : Nat) (x : Nat) : Int :=
    match (s.surfCam d).lines.find? fun y => y.num % 2 ^ 32 = max num k.first % 2 ^ 32 with
    | some y => s.corPixel d y x
    | none => if k.last < num then Config.linePixel s.free num (2 ^ 16 + x) % 4096 else 0
  if i < 0 then
    match s.stitchBefore c with
    | some d => partner d (s.camWidth d - i.natAbs)
    | none => s.linePixel c num 0
  else if (w : Int) ≤ i then
    match s.stitchAfter c with
    | some d => partner d (i.toNat - w)
    | none => s.linePixel c num (w - 1)
  else s.linePixel c num i.toNat

/-- A quotient rounded half to even (R201). -/
def rhe (n : Int) (d : Nat) : Int :=
  let q := n / (d : Int)
  let r := n % (d : Int)
  if 2 * r < d then q else if (d : Int) < 2 * r then q + 1 else if q % 2 = 0 then q else q + 1

/-- Clamp to signed 16 bits (R201). -/
def sat16 (v : Int) : Int := clampI (-32768) 32767 v

/-- Kernel coefficient n of a lane's live copy (R201). -/
def coef (live : List Word) (n : Nat) : Int := sgn 16 (fld (live.getD (2 + n / 2) 0) (n % 2 * 16) 16)

/-- A sum over an index range. -/
def sumOver (n : Nat) (f : Nat → Int) : Int := (List.range n).foldl (fun a i => a + f i) 0

/-- f of a camera pixel on a centre line (R201). -/
def State.kernel (s : State) (c l m i : Nat) : Int :=
  let live := (s.lane l).live
  let shift := fld (live.getD 0 0) 4 4
  let line (r h : Nat) : Nat := if m + r < h then 0 else m + r - h
  match s.laneKmode l with
  | 1 => sat16 (rhe (sumOver 7 (fun r => sumOver 7 fun k =>
      coef live (7 * r + k) * s.pixelAt c (line r 3) ((i : Int) - 3 + k)) * 2 ^ shift) 32768)
  | 2 =>
    let g (r : Nat) : Int := sat16 (rhe (sumOver 15 fun k => coef live k * s.pixelAt c (line r 7) ((i : Int) - 7 + k)) 32768)
    sat16 (rhe (sumOver 15 (fun r => coef live (16 + r) * g r) * 2 ^ shift) 32768)
  | _ => s.pixelAt c m i

/-- A pixel's class (R203): weak, strong, dark. -/
def threshold (live : List Word) (f : Int) : Bool × Bool × Bool :=
  let pol := fld (live.getD 0 0) 2 2
  let lo : Int := (fld (live.getD 1 0) 0 15 : Nat)
  let hi : Int := (fld (live.getD 1 0) 16 15 : Nat)
  let b := pol ≠ 1
  let d := pol ≠ 0
  (b && lo ≤ f || d && f ≤ -lo, b && hi ≤ f || d && f ≤ -hi, f < 0)

/-- A run (R204): its columns, polarity, strong pixels, and sums. -/
structure Run where
  x0 : Nat
  x1 : Nat
  dark : Bool
  strong : Option Nat
  sum : Int
  min : Int
  max : Int
  sumX : Nat
deriving DecidableEq, Repr

/-- The runs of a line of a strip, from left to right (R204): pixels with their f. -/
def runsOf (live : List Word) : List (Nat × Int) → List Run
  | [] => []
  | (x, f) :: rest =>
    let (weak, strong, dark) := threshold live f
    let tail := runsOf live rest
    if !weak then tail
    else
      let one : Run := ⟨x, x, dark, if strong then some x else none, f, f, f, x⟩
      match tail with
      | r :: more =>
        if r.x0 = x + 1 && r.dark = dark then
          ⟨x, r.x1, dark, if strong then some x else r.strong, f + r.sum, if f < r.min then f else r.min,
            if r.max < f then f else r.max, x + r.sumX⟩ :: more
        else one :: r :: more
      | [] => [one]

/-! ### Features, components and blobs (R204–R208) -/

/-- The features of one run on a line. -/
def Run.feat (r : Run) (m : Nat) : Feat := ⟨r.x1 + 1 - r.x0, r.x0, r.x1, m, 1, r.sum, r.min, r.max, r.sumX, 0⟩

/-- The features of two parts together (R207). -/
def Feat.join (a b : Feat) : Feat :=
  let first := Nat.min a.firstLine b.firstLine
  let last := Nat.max (a.firstLine + a.nlines) (b.firstLine + b.nlines)
  ⟨a.area + b.area, Nat.min a.firstPx b.firstPx, Nat.max a.lastPx b.lastPx, first, last - first, a.sum + b.sum,
    if a.min < b.min then a.min else b.min, if a.max < b.max then b.max else a.max, a.sumX + b.sumX,
    a.sumL + a.area * (a.firstLine - first) + b.sumL + b.area * (b.firstLine - first)⟩

/-- Part a holds the first line of the two, the lower FIRST_PX among equals (R213). -/
def Feat.leads (a b : Feat) : Bool :=
  a.firstLine < b.firstLine || (a.firstLine = b.firstLine && a.firstPx ≤ b.firstPx)

/-- A window by its number. -/
def State.win (s : State) (id : Nat) : Option PatchWin := s.surf.wins.find? fun w => w.id = id

/-- Replace a window. -/
def State.setWin (s : State) (w : PatchWin) : State :=
  { s with surf := { s.surf with wins := s.surf.wins.map fun x => if x.id = w.id then w else x } }

/-- A window's blob is done: its trailer may follow (R212).
Marked DEDUCED and unsafe (notes/assumptions/58.md). -/
def State.winDone (s : State) (id : Option Nat) (b : Blob) : State :=
  match id with
  | some n => match s.win n with
    | some w => s.setWin { w with done := some b }
    | none => s
  | none => s

/-- Which of two windows a joined blob keeps (R210): the earlier first row, then the lower x0; the other. -/
def State.winPick (s : State) (a b : Option Nat) : Option Nat × Option Nat :=
  match a.bind s.win, b.bind s.win with
  | some x, some y =>
    if x.row0 < y.row0 || (x.row0 = y.row0 && x.x0 ≤ y.x0) then (a, b) else (b, a)
  | some _, none => (a, none)
  | none, some _ => (b, none)
  | none, none => (none, none)

/-- A blob that says only that its window is discarded. -/
def Comp.blob (x : Comp) (seam discard : Bool) (cls : Nat) : Blob := ⟨x.cam, x.dark, seam, x.feat, cls, discard, x.coord, x.win⟩

/-- Join two components or fragments (R204, R205, R210, R213): the losing window ends with DISCARD. -/
def State.joinComp (s : State) (a b : Comp) : Comp × State :=
  let (keep, drop) := s.winPick a.win b.win
  let lead := if a.feat.leads b.feat then a else b
  let left := if a.feat.firstPx ≤ b.feat.firstPx then a else b
  ({ a with cam := left.cam, strong := a.strong || b.strong, feat := a.feat.join b.feat, runs := a.runs ++ b.runs,
            lastLine := max a.lastLine b.lastLine, left := a.left ++ b.left, right := a.right ++ b.right,
            coord := lead.coord, win := keep },
   s.winDone drop (a.blob false true 0))

/-- The class rule that a blob takes (R208): CLASS, PATCH, DISCARD. -/
def State.classify (s : State) (cam : Nat) (dark : Bool) (f : Feat) : Nat × Bool × Bool :=
  let up (limit v : Nat) : Bool := limit = 0xFFFF || v ≤ limit
  let peak : Nat := (if dark then -f.min else f.max).toNat
  let hit := (List.range 64).find? fun r =>
    let w (k : Nat) : Word := s.reg (.surfG 0) (0xC00 + r * 0x10 + k)
    bit (w 0) 31 && bit (w 0) cam
      && (fld (w 0) 24 2 = 0 || (fld (w 0) 24 2 = 1 && !dark) || (fld (w 0) 24 2 = 2 && dark))
      && fld (w 4) 0 16 ≤ f.area && up (fld (w 4) 16 16) f.area
      && up (fld (w 8) 0 16) f.nlines && up (fld (w 8) 16 16) (f.lastPx + 1 - f.firstPx)
      && fld (w 12) 0 16 ≤ peak && up (fld (w 12) 16 16) peak
  match hit with
  | some r =>
    let w := s.reg (.surfG 0) (0xC00 + r * 0x10)
    (fld w 16 8, bit w 26, bit w 27)
  | none =>
    let w := s.reg (.surfG 0) 0x60
    (fld w 0 8, bit w 8, bit w 9)

/-- A blob is complete (R205, R208, R212, R215): dropped by hysteresis, classified, discarded by its rule, dropped by a full
FIFO, or queued for its record. -/
def State.blobDone (s : State) (g : Nat) (x : Comp) (seam : Bool) : State :=
  if !x.strong then s.winDone x.win (x.blob seam true 0)
  else
    let (cls, patch, discard) := s.classify x.cam x.dark x.feat
    let b := x.blob seam (discard || !patch) cls
    if discard then s.winDone x.win b
    else
      let q := tabGet [] s.surf.blobs g
      if 256 ≤ q.length then
        ((s.winDone x.win { b with discard := true }).satInc (.surfG g) 0x4C).irqBit (.surfG g) 0
      else
        let s1 := s.winDone x.win b
        { s1 with surf := { s1.surf with blobs := tabPut s1.surf.blobs g (q ++ [if patch then b else { b with win := none }]) } }

/-! ### Seams (R205, R206) -/

/-- The lane's strip ends at a seam on its left, or right: another lane of its camera, or an active stitched seam. -/
def State.seamSide (s : State) (c l : Nat) (right : Bool) : Bool :=
  if right then l + 1 < s.camFirst c + s.camLanes c || (s.stitchAfter c).isSome
  else s.camFirst c < l || (s.stitchBefore c).isSome

/-- The group whose seam unit holds a fragment: its right seam's unit, else its left seam's (R205). -/
def fragUnit (x : Comp) : Nat := if x.right.isEmpty then (x.lane - 1) / 8 else x.lane / 8

/-- The lanes of two fragments meet at one seam: of one camera, or an active stitched one (R205). -/
def State.seamMeet (s : State) (a b : Comp) : Bool := a.cam = b.cam || s.stitchAfter a.cam = some b.cam

/-- Two fragments join across the seam at the right of `a` (R205): line numbers are equal as 32-bit numbers.
Marked DEDUCED and unsafe (notes/assumptions/58.md). -/
def State.seamJoin (s : State) (a b : Comp) : Bool :=
  let same (p q : Nat) : Bool := p % 2 ^ 32 = q % 2 ^ 32
  a.lane + 1 = b.lane && a.dark = b.dark && s.seamMeet a b
    && a.right.any fun p => b.left.any fun q =>
      same p q || (s.camConn8 a.cam && (same (p + 1) q || same (q + 1) p))

/-- Fragments that join one of a list's members, transitively, within fuel. -/
def State.seamSet (s : State) (all : List Comp) : Nat → List Comp → List Comp
  | 0, set => set
  | n + 1, set =>
    let more := all.filter fun y => !set.contains y && set.any fun x => s.seamJoin x y || s.seamJoin y x
    if more.isEmpty then set else s.seamSet all n (set ++ more)

/-- A fragment placed in its stitched image: its columns from an origin, its first line counted near another (R207). -/
def Comp.place (x : Comp) (org line : Nat) : Comp :=
  let f := x.feat
  let d := serialDiff line f.firstLine
  { x with feat := { f with firstPx := f.firstPx + org, lastPx := f.lastPx + org, sumX := f.sumX + f.area * org,
                            firstLine := if d < 2 ^ 31 then line + d else line + d - 2 ^ 32 } }

/-- A joined blob's columns reckoned on its camera (R207). -/
def Comp.unplace (x : Comp) (org : Nat) : Comp :=
  let f := x.feat
  { x with feat := { f with firstPx := f.firstPx - org, lastPx := f.lastPx - org, sumX := f.sumX - f.area * org } }

/-- A lane has completed the lines on which a fragment's joins at one of its seams could still appear. -/
def State.seamSettled (s : State) (x : Comp) : Bool :=
  let past (l : Nat) (ls : List Nat) : Bool :=
    match s.laneCam l with
    | none => true
    | some c => (c ≠ x.cam && s.stitchAfter x.cam ≠ some c && s.stitchBefore x.cam ≠ some c) || !(s.surfCam c).started
        || ls.all fun a => serialDiff (a + 2) (s.lane l).next < 2 ^ 31
  (x.right.isEmpty || past (x.lane + 1) x.right) && (x.left.isEmpty || x.lane = 0 || past (x.lane - 1) x.left)

/-- Every open component of the lanes. -/
def State.openComps (s : State) : List Comp := s.surf.lanes.flatMap fun e => e.2.comps

/-- Join a set of fragments into one. -/
def State.joinAll (s : State) (x : Comp) : List Comp → Comp × State
  | [] => (x, s)
  | y :: ys =>
    let (z, s1) := s.joinComp x y
    s1.joinAll z ys

/-- Turn every closed joined set of held fragments into its blob (R205). -/
def State.seamFlush (s : State) : Nat → State
  | 0 => s
  | n + 1 =>
    let held := s.surf.frags.map fun e => e.2
    let open_ := s.openComps.filter fun x => !x.left.isEmpty || !x.right.isEmpty
    let ready := s.surf.frags.find? fun e =>
      let set := s.seamSet (held ++ open_) (held.length + open_.length + 1) [e.2]
      set.all fun x => held.contains x && s.seamSettled x
    match ready with
    | none => s
    | some (g, x) =>
      let set := s.seamSet held (held.length + 1) [x]
      let put (y : Comp) : Comp := y.place (s.stitchOrg 16 y.cam) x.feat.firstLine
      let s1 := { s with surf := { s.surf with frags := s.surf.frags.filter fun e => !set.contains e.2 } }
      let (z, s2) := s1.joinAll (put x) ((set.erase x).map put)
      (s2.blobDone g (z.unplace (s.stitchOrg 16 z.cam)) (1 < set.length)).seamFlush n

/-- A component closes (R204, R206): kept or dropped by hysteresis where it touches no seam; otherwise held as a fragment, or
a blob on its own when its seam unit is full. -/
def State.closeComp (s : State) (x : Comp) : State :=
  if x.left.isEmpty && x.right.isEmpty then s.blobDone (x.lane / 8) x false
  else
    let g := fragUnit x
    if 1024 ≤ (s.surf.frags.filter fun e => e.1 = g).length then
      ((s.satInc (.surfG g) 0x50).irqBit (.surfG g) 1).blobDone g x false
    else { s with surf := { s.surf with frags := s.surf.frags ++ [(g, x)] } }

/-! ### Patches (R210, R211) -/

/-- The lanes of a camera that hold a window's columns. -/
def State.winLanes (s : State) (w : PatchWin) : List Nat :=
  let n := max 1 (s.camStrip w.cam)
  let a := w.x0 / n
  (List.range ((w.x0 + w.width - 1) / n + 1 - a)).map fun k => s.camFirst w.cam + a + k

/-- Make the rows of a window whose centre line has left stage 3 in every lane that holds them (R211), within fuel. -/
def State.winRows (s : State) (id : Nat) : Nat → State
  | 0 => s
  | n + 1 =>
    match s.win id with
    | none => s
    | some w =>
      let line := w.row0 + w.next
      let made := (s.winLanes w).all fun l => line < (s.lane l).next
      if w.rows ≤ w.next || !made then s
      else
        let k := s.surfCam w.cam
        let src := s.camLine w.cam (max line k.first)
        match src with
        | none => (s.setWin { w with next := w.next + 1, complete := false }).winRows id n
        | some x =>
          let q := tabGet [] s.surf.rows w.group
          if 64 ≤ q.length then
            (((s.setWin { w with next := w.next + 1, complete := false }).satInc (.surfG w.group) 0x58).irqBit
              (.surfG w.group) 3).winRows id n
          else
            let p16 := s.regF (.surfG w.group) 0x40 4 1 = 0
            let px := (List.range w.width).map fun i => s.corPixel w.cam x (w.x0 + i)
            let bytes := if p16 then px.flatMap (bytesLE 2) else px.map fun y => y / 16
            let row : PatchRow := ⟨w.id, w.next, line % 2 ^ 32, p16, w.x0, w.width, bytes, s.surf.made⟩
            let s1 := s.setWin { w with next := w.next + 1 }
            { s1 with surf := { s1.surf with rows := tabPut s1.surf.rows w.group (q ++ [row]), made := s1.surf.made + 1 } }.winRows
              id n

/-- Open a patch window at a strong pixel (R210, R211). -/
def State.openWin (s : State) (c l m col : Nat) : Option Nat × State :=
  let g := l / 8
  let p := s.camWord c 0x18
  if !bit p 31 then (none, s)
  else if 32 ≤ (s.surf.wins.filter fun w => w.group = g).length then
    (none, (s.satInc (.surfG g) 0x54).irqBit (.surfG g) 2)
  else
    let w := min (fld p 0 7 + 1) (s.camWidth c)
    let x0 := min (col - w / 2) (s.camWidth c - w)
    let id := s.surf.nextPatch
    let win : PatchWin := ⟨id, g, c, x0, w, fld p 8 7 + 1, m - min (fld p 16 3) (s.laneH l), 0, true, none⟩
    (some id, { s with surf := { s.surf with wins := s.surf.wins ++ [win], nextPatch := if id + 1 = 0xFFFF then 0 else id + 1 } })

/-! ### A lane completes a centre line (R204) -/

/-- The coordinate that the trigger log of a camera's generator gives for a line (R213). -/
def State.lineCoord (s : State) (c m : Nat) : Option Int :=
  let g := fld (s.camCfg c) 20 4
  let (r, _, x) := s.tlogLookup g (wordOf m)
  if s.genRun g && r = 1 then some x else none

/-- A run joins a component of its polarity (R204). -/
def runTouches (conn8 : Bool) (m : Nat) (r : Run) (x : Comp) : Bool :=
  x.dark = r.dark && x.lastLine + 1 = m && x.runs.any fun q =>
    if conn8 then r.x0 ≤ q.2 + 1 && q.1 ≤ r.x1 + 1 else r.x0 ≤ q.2 && q.1 ≤ r.x1

/-- One run of a line enters the lane's components: `old` are those not joined on this line yet, `cur` those that hold a run
of this line, with the runs they had before. -/
def State.addRun (s : State) (c l m : Nat) (ends : Nat × Nat) (r : Run) (old cur : List (Comp × Comp)) :
    List (Comp × Comp) × List (Comp × Comp) × State :=
  let conn8 := s.camConn8 c
  let isOld (e : Comp × Comp) : Bool := runTouches conn8 m r e.1
  let hitO := old.filter isOld
  let hitC := cur.filter isOld
  let touchL := r.x0 = ends.1 && s.seamSide c l false
  let touchR := r.x1 + 1 = ends.2 && s.seamSide c l true
  let mine : Comp := ⟨c, l, r.dark, r.strong.isSome, r.feat m, [(r.x0, r.x1)], m, if touchL then [m] else [],
    if touchR then [m] else [], none, none⟩
  match hitC ++ hitO with
  | [] =>
    if 512 ≤ (old ++ cur).length then (old, cur, (s.satInc (lanePage l) (laneOff l 0x10)).irqBit (lanePage l) (l % 8))
    else
      let new := { mine with coord := s.lineCoord c m }
      let (w, s1) := match r.strong with | some col => s.openWin c l m col | none => (none, s)
      (old, cur ++ [({ new with runs := [], lastLine := 0 }, { new with win := w })], s1)
  | e :: es =>
    let base := { e.2 with runs := if hitC.isEmpty then [] else e.2.runs }
    let (z, s1) := s.joinAll base (es.map fun x => { x.2 with runs := if hitC.contains x then x.2.runs else [] })
    let strong0 := z.strong
    let (z1, s2) := s1.joinComp z mine
    let z2 := { z1 with coord := z.coord, cam := z.cam, win := z.win }
    let (w, s3) := match r.strong with
      | some col => if strong0 then (none, s2) else s2.openWin c l m col
      | none => (none, s2)
    let z3 := if w.isSome then { z2 with win := w } else z2
    let before : Comp := { e.1 with runs := ((e :: es).map fun x => x.1.runs).flatten }
    (old.filter fun x => !isOld x, (cur.filter fun x => !isOld x) ++ [(before, z3)], s3)

/-- Every run of a line in turn. -/
def State.addRuns (s : State) (c l m : Nat) (ends : Nat × Nat) :
    List Run → List (Comp × Comp) → List (Comp × Comp) → List (Comp × Comp) × List (Comp × Comp) × State
  | [], old, cur => (old, cur, s)
  | r :: rs, old, cur =>
    let (o, k, s1) := s.addRun c l m ends r old cur
    s1.addRuns c l m ends rs o k

/-- Components that this line leaves open; those that close, close, and those that reach LEN_MAX are cut (R204). -/
def State.settleComps (s : State) (c l : Nat) (gone stay : List Comp) : State :=
  let max_ := fld (s.camWord c 0x1C) 0 16
  let cut := stay.filter fun x => max_ ≤ x.feat.nlines
  let keep := stay.filter fun x => x.feat.nlines < max_
  let s1 := s.setLane l { s.lane l with comps := keep }
  let s2 := (gone ++ cut).foldl (fun t x => t.closeComp x) s1
  let s3 := if cut.isEmpty then s2
    else (s2.satInc (lanePage l) (laneOff l 0x14) cut.length).irqBit (lanePage l) (8 + l % 8)
  s3.seamFlush (s3.surf.frags.length + 1)

/-- Correct some strips of a camera's held lines up to a number (R191). -/
def State.correctLines (s : State) (c num : Nat) (strips : List Nat) : State :=
  let k := s.surfCam c
  let fix (x : CamLine) : CamLine :=
    if serialDiff x.num num < 2 ^ 31 then strips.foldl (fun y j => s.correctStrip c j y) x else x
  s.setCam c { k with lines := k.lines.map fix }

/-- Correct what a lane's line needs of the held lines (R191): its strip, those its halo reaches, and across an active
stitched seam the partner's (R195). -/
def State.correctFor (s : State) (c l num : Nat) : State :=
  let j := l - s.camFirst c
  let near (d : Nat) : Nat := s.laneH l / max 1 (s.camStrip d) + 1
  let mine := (List.range (s.camLanes c)).filter fun i => i ≤ j + near c && j ≤ i + near c
  let s1 := s.correctLines c num mine
  let s2 := match s.stitchBefore c with
    | some d => s1.correctLines d num ((List.range (s.camLanes d)).filter fun i => s.camLanes d ≤ i + 1 + near d)
    | none => s1
  match s.stitchAfter c with
  | some d => s2.correctLines d num ((List.range (s.camLanes d)).filter fun i => i ≤ near d)
  | none => s2

/-- A lane completes centre line m (R191, R198–R205, R210, R211). -/
def State.laneLine (s0 : State) (c l m : Nat) : State :=
  let s := s0.correctFor c l (m + s0.laneH l)
  let ends := s.laneSpan c l
  let x := s.lane l
  let px := (List.range (ends.2 - ends.1)).map fun i => (ends.1 + i, s.kernel c l m (ends.1 + i))
  let runs := runsOf x.live px
  let (old, cur, s1) := s.addRuns c l m ends runs (x.comps.map fun y => (y, y)) []
  let s2 := s1.setLane l { s1.lane l with next := m + 1 }
  let s3 := s2.setReg (lanePage l) (laneOff l 0x18) (wordOf ((ends.2 - ends.1 + 1) / 2 + 8))
  let s4 := s3.settleComps c l (old.map fun e => e.2) (cur.map fun e => e.2)
  (s4.surf.wins.filter fun w => w.cam = c).foldl (fun t w => t.winRows w.id 129) s4

/-- The line at the head of a camera's link (R196, R250). -/
def State.headLine (s : State) (c : Nat) : Option GhLine := (s.inLink (fld (s.camCfg c) 1 5)).lines.head?

/-- The line number n of a LINE packet (R196). -/
def State.lineNo (s : State) (c : Nat) (x : GhLine) : Word := x.num + s.camWord c 8

/-- A line has its camera's width and depth, and lies after the last one accepted (R196). -/
def State.lineFits (s : State) (c : Nat) (x : GhLine) : Bool :=
  let k := s.surfCam c
  let d := (s.lineNo c x - wordOf k.last).toNat
  x.pixels.length = s.camWidth c && x.depth = fld (s.camCfg c) 18 2 && !(k.started && (d = 0 || 2 ^ 31 ≤ d))

/-- A camera has accepted a line number, or one after it (R196). -/
def State.lineAt (s : State) (c n : Nat) : Bool :=
  (s.surfCam c).started && serialDiff n (s.surfCam c).last < 2 ^ 31

/-- The number of a camera's head line, where it fits. -/
def State.headNo (s : State) (c : Nat) : Option Nat :=
  (s.headLine c).bind fun x => if s.lineFits c x then some (s.lineNo c x).toNat else none

/-- A camera is known to lack a line number that it has not accepted: its head line lies after it (R195, R197). -/
def State.lineLacks (s : State) (c n : Nat) : Bool :=
  match s.headNo c with
  | some h => serialDiff n h ≠ 0 && serialDiff n h < 2 ^ 31
  | none => false

/-- The line that a lane needs next has been accepted, and its stitched neighbour's line stands or is missing. -/
def State.laneReady (s : State) (c l : Nat) : Bool :=
  let k := s.surfCam c
  let need := (s.lane l).next + s.laneH l
  let partner (d : Option Nat) : Bool := match d with
    | none => true
    | some e => s.lineAt e need || s.lineLacks e need
  k.started && need ≤ k.last && partner (s.stitchBefore c) && partner (s.stitchAfter c)

/-- Drop lines that no lane of the camera, nor a window of it, still needs. -/
def State.pruneLines (s : State) (c : Nat) : State :=
  let k := s.surfCam c
  let least := (minList ((List.range (s.camLanes c)).map fun j => (s.lane (s.camFirst c + j)).next)).getD 0
  s.setCam c { k with lines := k.lines.filter fun x => least ≤ x.num + 16 || x.num = k.first && least ≤ k.first + 16 }

/-- LANE_LINE_COMPLETE. -/
def State.laneComplete (s : State) (l : Nat) : State :=
  match s.laneCam l with
  | none => s
  | some c =>
    if s.isFenced (lanePage l) || !s.laneReady c l then s
    else (s.laneLine c l (s.lane l).next).pruneLines c

/-! ### Intake, gaps and draining (R196, R197, R217) -/

/-- Complete every accepted line of a camera in one of its lanes, within fuel. -/
def State.laneFlush (s : State) (c l : Nat) : Nat → State
  | 0 => s
  | n + 1 => if (s.surfCam c).last < (s.lane l).next then s else (s.laneLine c l (s.lane l).next).laneFlush c l n

/-- The accepted lines of a camera are completed and its open components close as if the next line were blank (R197, R217);
the pixels of lines beyond the last are not stated, and are free values. -/
def State.camFlush (s : State) (c : Nat) : State :=
  let k := s.surfCam c
  if !k.started then s
  else
    let lanes := (List.range (s.camLanes c)).map fun j => s.camFirst c + j
    let s1 := lanes.foldl (fun t l => t.laneFlush c l 64) s
    let s2 := lanes.foldl (fun t l => t.settleComps c l (t.lane l).comps []) s1
    { s2 with free := s2.free + 1 }

/-- Start a camera's lines at a number (R191): every lane's next centre line is that one. -/
def State.camStart (s : State) (c num : Nat) : State :=
  let s1 := (List.range (s.camLanes c)).foldl (fun t j =>
      t.setLane (s.camFirst c + j) { t.lane (s.camFirst c + j) with next := num, comps := [] }) s
  s1.setCam c { s1.surfCam c with lines := [], first := num, started := true }

/-- Rows of a camera's windows on lines that never came are missed (R197). -/
def State.winSkip (s : State) (c num : Nat) : State :=
  { s with surf := { s.surf with wins := s.surf.wins.map fun w =>
      if w.cam = c && w.next < w.rows && w.row0 + w.next < num then
        { w with next := min w.rows (num - w.row0), complete := false } else w } }

/-- Every lane of a camera has room for a line (R198): one in work and two waiting. -/
def State.camRoom (s : State) (c : Nat) : Bool :=
  let k := s.surfCam c
  !k.started || (List.range (s.camLanes c)).all fun j =>
    let l := s.camFirst c + j
    k.last < (s.lane l).next + s.laneH l + 2

/-- A camera's head line leaves its link's buffer, and its credit is returned (R250). -/
def State.lineTake (s : State) (c : Nat) : State :=
  let link := fld (s.camCfg c) 1 5
  match (s.inLink link).lines with
  | [] => s
  | x :: rest => (s.setIn link { s.inLink link with lines := rest }).inReturn link 0 x.credits

/-- A camera's lanes accept its head line (R196, R197). -/
def State.lineAccept (s : State) (c : Nat) : State :=
  match s.headLine c with
  | none => s
  | some x =>
    let took := s.lineTake c
    let k := s.surfCam c
    let n := s.lineNo c x
    let d := (n - wordOf k.last).toNat
    let num := if k.started then k.last + d else 2 ^ 32 + n.toNat
    let gap := k.started && 1 < d
    let s1 := if gap then
        (((took.camFlush c).camStart c num).winSkip c num).satInc (camPage c) (camOff c 0x2C)
      else if k.started then took else took.camStart c num
    let s2 := if gap then (s1.satInc (camPage c) (camOff c 0x30) (d - 1)).irqBit (camPage c) (4 + c % 2) else s1
    let k2 := s2.surfCam c
    let s3 := s2.setCam c { k2 with lines := ⟨num, x.pixels, []⟩ :: k2.lines, last := num }
    (s3.setReg (camPage c) (camOff c 0x24) n).wrapInc (camPage c) (camOff c 0x28)

/-- LINE_INTAKE (R195–R198, R250): the head line of the camera's link is discarded, or accepted where its lanes have room,
together with the lines of that number of the cameras stitched to it; a line waits until each of them shows that line, or
a later one.
Marked DEDUCED and unsafe (notes/assumptions/127.md). -/
def State.lineIntake (s : State) (c : Nat) : State :=
  match s.headLine c with
  | none => s
  | some x =>
    let n := (s.lineNo c x).toNat
    let due := (s.stitchWith c).filter fun d => !s.lineAt d n
    let mates := due.filter fun d => s.headNo d = some n
    if !s.camEn c then (if (s.surfCam c).draining then s.lineTake c else s)
    else if !s.lineFits c x then
      ((s.lineTake c).satInc (camPage c) (camOff c 0x34)).irqBit (camPage c) (6 + c % 2)
    else if !(due.all fun d => s.headNo d = some n || s.lineLacks d n) || !((c :: mates).all s.camRoom) then s
    else (c :: mates).foldl (fun t d => t.lineAccept d) s

/-- The lines that wait in a link's buffer are discarded and their credits returned (R217, R250). -/
def State.linkDrop (s : State) (link : Nat) : State :=
  let x := s.inLink link
  (s.setIn link { x with lines := [] }).inReturn link 0 ((x.lines.map fun g => g.credits).foldl (· + ·) 0)

/-- A draining camera's lanes are done with it (R217): its lines are completed and its components closed. -/
def State.camFinish (s : State) (c : Nat) : State :=
  let f := s.camFlush c
  (f.winSkip c (2 ^ 80)).setCam c { f.surfCam c with lines := [], started := false }

/-- Setting EN starts a camera afresh (R193, R202, R217): its lanes' shadow copies go live; a camera that still drains in one
of those lanes leaves them.
Marked DESIGN CHOICE and unsafe (notes/assumptions/127.md). -/
def State.camBegin (s : State) (c : Nat) : State :=
  let mine (d : Nat) : Bool := d ≠ c && (s.surfCam d).draining && s.camFirst d < s.camFirst c + s.camLanes c
    && s.camFirst c < s.camFirst d + s.camLanes d
  let s0 := ((List.range 16).filter mine).foldl (fun t d => t.camFinish d) s
  let s1 := s0.setCam c ⟨[], 0, 0, false, false⟩
  (List.range (s.camLanes c)).foldl (fun t j =>
    let l := s.camFirst c + j
    t.setLane l ⟨0, [], t.laneShadow l, false⟩) s1

/-- CAMERA_DRAIN_DONE (R217): lines, components, blobs and trailers of a draining camera are done. -/
def State.drainDone (s : State) (c : Nat) : State :=
  if !(s.surfCam c).draining then s
  else
    let s1 := s.camFinish c
    let held := s1.surf.wins.any fun w => w.cam = c
    let blobs := s1.surf.blobs.any fun e => e.2.any fun b => b.cam = c
    let frags := s1.surf.frags.any fun e => e.2.cam = c
    if held || blobs || frags then s1
    else (s1.setCam c ⟨[], 0, 0, false, false⟩).irqBit (camPage c) (8 + c % 2)

/-- KERNEL_SHADOW_COPY (R202). -/
def State.shadowCopy (s : State) (l : Nat) : State :=
  if (s.laneCam l).isSome && (s.lane l).pend then s.setLane l { s.lane l with live := s.laneShadow l, pend := false } else s

/-! ### Records (R213–R215) -/

/-- E(i) of R214. -/
def State.edge (s : State) (c i : Nat) : Int :=
  let x : Int := (i * (s.camWord c 0x10).toNat / 65536 : Nat)
  sgn 32 (s.camWord c 12).toNat + (if bit (s.camCfg c) 24 then -x else x)

/-- The record of a kept blob before its context (R214). -/
def State.blobRecord (s : State) (b : Blob) : RmRecord :=
  let f := b.feat
  let c := b.cam
  let g := fld (s.camCfg c) 20 4
  let slot := if b.coord.isSome then s.slotOf (s.genSrc g) else none
  let placed := slot.isSome
  let a := s.edge c f.firstPx
  let z := s.edge c (f.lastPx + 1)
  let edge := (f.firstPx = 0 && (s.stitchBefore c).isNone) || f.lastPx + 1 = s.stitchRest 16 c
  let flag (p : Bool) (k : Nat) : Nat := if p then 2 ^ k else 0
  ⟨if placed then uns 64 (b.coord.getD 0) else 0, wordOf (uns 32 (if bit (s.camCfg c) 24 then z else a)), wordOf f.area,
    min (z - a).natAbs 0xFFFFFF, min (f.nlines * s.genPitch g / 10) 0xFFFFFF, b.cls, Nat.log2 f.area + 1,
    (slot.getD 0) * 2 ^ 12 + flag b.win.isSome 10 + flag b.seam 9 + flag edge 8 + flag (!placed) 4,
    b.win.getD 0xFFFF, 0xFFFF⟩

/-- ROLLMAP_RECORD_WRITE (R162, R184, R213–R215): the roll-map writer takes a blob from the next group in turn, makes room,
opens its context, and writes its record. -/
def State.recordWrite (s : State) : State :=
  let order := (List.range 8).map fun k => (s.surf.lastGroup + 1 + k) % 8
  match order.find? fun g => !(tabGet [] s.surf.blobs g).isEmpty with
  | none => s
  | some g =>
    match tabGet [] s.surf.blobs g with
    | [] => s
    | b :: rest =>
      let s1 := { s with surf := { s.surf with blobs := tabPut s.surf.blobs g rest, lastGroup := g } }
      let r := s1.blobRecord b
      let (slot, s2) := s1.rmRoom b.cls
      let cm := s.rd (classAddr b.cls)
      let open_ := bit cm 31 && r.flags &&& 0x10 = 0
      let req : OpenReq := ⟨0, r.coord, s.genSrc (fld (s.camCfg b.cam) 20 4), fld (s.camWord b.cam 0x14) 0 8, b.cls, fld cm 0 8,
        r.cross, wordOf r.bwidth, none, slot, 0x22⟩
      let (ctx, s3) := if open_ then s2.openFor req slot else (none, s2)
      match slot with
      | none => s3
      | some _ => s3.rmPut (match ctx with
          | some c => { r with context := c, flags := r.flags ||| 0x800 }
          | none => r)

/-! ### The pages (R194, R202, R209, R218–R221) -/

/-- A camera slot is absent (R195). -/
def State.camAbsent (s : State) (c : Nat) : Bool := s.fuses.surfs ≤ 4 * c

/-- The checks of a CAM_CFG word that sets EN (R193). -/
def State.camSets (s : State) (c : Nat) (v : Word) : Chk :=
  let first := fld v 6 6
  let n := fld v 12 6
  let link := fld v 1 5
  let w := s.camWidth c
  let strip := s.camStrip c
  let lanes := (List.range n).map fun j => first + j
  let others := (List.range 16).filter fun d => d ≠ c
  { range := first / 8 ≠ c / 2 || n = 0 || 32 < n || 64 < first + n || strip = 0 || 2048 < strip || w = 0
      || w ≤ (n - 1) * strip || n * strip < w,
    absent := s.fuses.surfs < first + n || s.fuses.gheryIn ≤ link,
    state := !s.inEn link
      || (others.any fun d => s.camEn d && fld (s.camCfg d) 1 5 = link)
      || (others.any fun d => s.camEn d && lanes.any fun l => s.camFirst d ≤ l && l < s.camFirst d + s.camLanes d)
      || (lanes.any fun l => !s.enabled (.surfG (l / 8)) || !s.enabled (lanePage l))
      || s.pstate (.surfG 0) ≠ 3
      || ((List.range 8).any fun g => 294912 < s.bufUsed g
            + ((lanes.filter fun l => l / 8 = g).map fun l => s.laneBuffer l strip).foldl (· + ·) 0)
      || (s.surfCam c).draining }

/-- The checks of a Surf group page (R193, R194, R209, R218–R220). -/
def chkSurfG (s : State) (g : Nat) (w : Wr) : Chk :=
  let anyEn := (List.range 16).any s.camEn
  let one (o : Nat) : Chk :=
    let v := w.word o
    if o = 0x40 then { absent := !s.egressLinkFitted (fld v 0 2) }
    else if o = 0x60 then { range := bit v 8 && bit v 9 }
    else if 0x800 ≤ o && o < 0x880 then
      let c := 2 * g + (o - 0x800) / 0x40
      let r := (o - 0x800) % 0x40
      let en := s.camEn c
      if r = 0 then
        let k := s.camSets c v
        let sets := bit v 0 && !en
        { range := fld v 18 2 = 3 || (sets && k.range), absent := sets && k.absent,
          state := (sets && k.state) || (en && (bit v 0 || v ≠ setBit (s.camCfg c) 0 false)) }
      else if r = 0x18 then {}
      else { range := (r = 0x10 && v = 0) || (r = 0x1C && fld v 0 16 = 0), state := en && r < 0x20 }
    else if 0xC00 ≤ o then
      let base := o - (o - 0xC00) % 0x10
      let a (k : Nat) : Word := s.after w (base + k)
      let live := bit (a 0) 31
      { range := live && ((fld (a 4) 16 16 < fld (a 4) 0 16) || (fld (a 12) 16 16 < fld (a 12) 0 16)
            || (bit (a 0) 26 && bit (a 0) 27)) || fld (a 0) 24 2 = 3,
        absent := live && (List.range 16).any fun c => bit (a 0) c && s.camAbsent c,
        state := anyEn && bit (s.reg (.surfG g) base) 31 && live }
    else {}
  { range := w.offs.any fun o => (one o).range,
    absent := w.offs.any fun o => (one o).absent,
    state := w.offs.any fun o => (one o).state }

/-- The effects of a Surf group page write: cameras start and drain, GRP_CLR, CAM_CLR. -/
def effSurfG (s0 : State) (g : Nat) (w : Wr) (s : State) : State :=
  w.offs.foldl (fun t o =>
    if o = 0x5C && bit (w.word o) 0 then t.clearRegs (Page.base (.surfG g) + 0x4C) (Page.base (.surfG g) + 0x5C)
    else if 0x800 ≤ o && o < 0x880 then
      let c := 2 * g + (o - 0x800) / 0x40
      let r := (o - 0x800) % 0x40
      if r = 0 then
        if bit (w.word o) 0 && !s0.camEn c then t.camBegin c
        else if !bit (w.word o) 0 && s0.camEn c then
          (t.setCam c { t.surfCam c with draining := true }).linkDrop (fld (s0.camCfg c) 1 5)
        else t
      else if r = 0x38 && bit (w.word o) 0 then
        t.clearRegs (Page.base (.surfG g) + o - 0x10) (Page.base (.surfG g) + o)
      else t
    else t) s

/-- The checks of a Surf lane page (R201–R203, R221). -/
def chkSurfL (s : State) (g : Nat) (w : Wr) : Chk :=
  let one (o : Nat) : Chk :=
    if o < 0x800 then {}
    else
      let l := 8 * g + (o - 0x800) / 0x100
      let r := (o - 0x800) % 0x100
      let v := w.word o
      if r = 0 then
        { range := fld v 0 2 = 3 || fld v 2 2 = 3,
          state := (s.laneCam l).isSome && fld v 0 2 ≠ s.laneKmode l }
      else if r = 4 then { range := fld v 0 15 = 0 || fld v 16 15 < fld v 0 15 }
      else {}
  { range := w.offs.any fun o => (one o).range, state := w.offs.any fun o => (one o).state }

/-- PIXEL advances after a completed access to FF_DATA (R200). -/
def State.ffAdvance (s : State) (g : Nat) : State :=
  if bit (s.reg (.surfL g) 0x40) 31 then s.setRegF (.surfL g) 0x40 0 11 (s.regF (.surfL g) 0x40 0 11 + 1) else s

/-- The lane and pixel that FF_ADDR selects. -/
def State.ffIndex (s : State) (g : Nat) : Nat := (8 * g + s.regF (.surfL g) 0x40 11 3) * 2048 + s.regF (.surfL g) 0x40 0 11

/-- The effects of a Surf lane page write: FF_DATA, KCOMMIT, LANE_CLR. -/
def effSurfL (s0 : State) (g : Nat) (w : Wr) (s : State) : State :=
  w.offs.foldl (fun t o =>
    let l := 8 * g + (o - 0x800) / 0x100
    let r := (o - 0x800) % 0x100
    if o = 0x44 then
      let t1 := t.setReg (.surfL g) 0x44 (s0.reg (.surfL g) 0x44)
      { t1 with surf := { t1.surf with ff := tabSet 0x4000 t1.surf.ff (t1.ffIndex g) (w.word o) } }.ffAdvance g
    else if o < 0x800 then t
    else if r = 8 && bit (w.word o) 0 && (t.laneCam l).isSome then t.setLane l { t.lane l with pend := true }
    else if r = 0x1C && bit (w.word o) 0 then
      (t.setReg (.surfL g) (o - 0x0C) 0).setReg (.surfL g) (o - 0x08) 0
    else t) s

/-- Live words of the Surf pages (R218, R219, R221). -/
def State.surfRead (s : State) (p : Page) (off : Nat) : Word :=
  match p with
  | .surfG g =>
    if off = 0x44 then
      wordOf ((tabGet [] s.surf.blobs g).length + (s.surf.frags.filter fun e => e.1 = g).length * 2 ^ 9
        + (s.surf.wins.filter fun w => w.group = g).length * 2 ^ 20)
    else if off = 0x48 then wordOf (s.bufUsed g)
    else if 0x800 ≤ off && off < 0x880 && (off - 0x800) % 0x40 = 0x20 then
      let c := 2 * g + (off - 0x800) / 0x40
      wordOf ((if s.camEn c then 1 else 0) + (if (s.stitchAfter c).isSome then 2 else 0)
        + (if (s.surfCam c).draining then 4 else 0))
    else s.reg p off
  | .surfL g =>
    if off = 0x44 then tabGet 0x4000 s.surf.ff (s.ffIndex g)
    else if 0x800 ≤ off && (off - 0x800) % 0x100 = 0x0C then
      let l := 8 * g + (off - 0x800) / 0x100
      match s.laneCam l with
      | some c => wordOf (1 + (if (s.lane l).pend then 2 else 0) + c * 2 ^ 8 + (s.lane l).comps.length * 2 ^ 12)
      | none => 0
    else s.reg p off
  | _ => s.reg p off

/-! ### The commands -/

/-- CAMERA_DRAIN_DONE. -/
def execCameraDrainDone (cam : Nat) (s : State) : Host.Outcome State Fault Refusal := .next (s.drainDone cam)
/-- LINE_INTAKE. -/
def execLineIntake (cam : Nat) (s : State) : Host.Outcome State Fault Refusal := .next (s.lineIntake cam)
/-- LANE_LINE_COMPLETE. -/
def execLaneLineComplete (lane : Nat) (s : State) : Host.Outcome State Fault Refusal := .next (s.laneComplete lane)
/-- KERNEL_SHADOW_COPY. -/
def execKernelShadowCopy (lane : Nat) (s : State) : Host.Outcome State Fault Refusal := .next (s.shadowCopy lane)
/-- ROLLMAP_RECORD_WRITE. -/
def execRollmapRecordWrite (s : State) : Host.Outcome State Fault Refusal := .next s.recordWrite

end Sys2Proof.Machine
end

