-- ==== Sys2Proof/Machine/Egress.lean ====
section
/-! DEFINITION. What leaves on Ghery egress (R185, R211, R212, R244–R251, R261): roll-map records, patch rows and trailers,
and events, under credits and round-robin service. -/
namespace Sys2Proof.Machine

/-- Credit available on a VC of an egress link (R249): none unless the link is enabled and UP (R251). -/
def State.credit (s : State) (k v : Nat) : Nat :=
  let d := (s.outReg k (0x0C + 4 * v) - s.outReg k (0x1C + 4 * v)).toNat
  if s.outEn k && s.outState k = 3 && d < 2 ^ 31 then d else 0

/-- The payload words of a byte count, and the bytes of the last that carry nothing (R243). -/
def lenPad (bytes : Nat) : Nat × Nat := ((bytes + 7) / 8, 8 * ((bytes + 7) / 8) - bytes)

/-- Records that the next ROLLREC packet carries (R245). -/
def State.rollCount (s : State) : Nat := min 7 s.rmFill

/-- The roll map drains on a link and VC and holds a record (R185, R188). -/
def State.rollWaits (s : State) (k v : Nat) : Bool :=
  s.regF .rmap 0x40 0 2 = 1 && s.regF .rmap 0x40 2 2 = k && s.regF .rmap 0x40 4 2 = v && 0 < s.rmFill

/-- A group sends its patches on a link and VC (R211, R218). -/
def State.grpOn (s : State) (g k v : Nat) : Bool := s.regF (.surfG g) 0x40 0 2 = k && s.regF (.surfG g) 0x40 2 2 = v

/-- The windows of a group whose trailer is ready: every row sent or missed, and the blob done (R212). -/
def State.trailerReady (s : State) (w : PatchWin) : Bool :=
  w.rows ≤ w.next && w.done.isSome && !(tabGet [] s.surf.rows w.group).any fun r => r.win = w.id

/-- Credits that a group's next patch packet takes, where one waits. -/
def State.patchNeed (s : State) (g : Nat) : Option Nat :=
  match tabGet [] s.surf.rows g with
  | r :: _ => some (credits (lenPad r.bytes.length).1)
  | [] => if s.surf.wins.any fun w => w.group = g && s.trailerReady w then some 1 else none

/-- A firmware event waits on a VC of an egress link, or LINK_UP is owed there (R246, R261). -/
def State.eventWaits (s : State) (k v : Nat) : Bool :=
  fld (s.outReg k 0x34) 16 2 = v && (bit (s.outReg k 0x44) 0 || (s.txLink k).upDue)

/-- A VC of an egress link has a packet waiting and credit for it (R251). LINK_UP goes first (R246). -/
def State.vcReady (s : State) (k v : Nat) : Bool :=
  let c := s.credit k v
  if (s.txLink k).upDue then s.eventWaits k v && 1 ≤ c
  else (s.rollWaits k v && 1 ≤ c) || (s.eventWaits k v && 1 ≤ c)
    || (List.range 8).any fun g => s.grpOn g k v && (s.patchNeed g).any fun n => n ≤ c

/-- The VC that round-robin service takes next (R251). -/
def State.nextVc (s : State) (k : Nat) : Option Nat :=
  ((List.range 4).map fun i => ((s.txLink k).lastVc + 1 + i) % 4).find? fun v => s.vcReady k v

/-- The link may start a packet on a VC now (R251). -/
def State.maySend (s : State) (k v : Nat) : Bool := (s.txLink k).busyUntil ≤ s.now && s.nextVc k = some v

/-- Send a packet on a VC of an egress link (R238, R240, R248, R249, R261). -/
def State.egressSend (s : State) (k v type tspec : Nat) (param : DWord) (bytes : List Nat) : State :=
  let x := s.txLink k
  let (len, pad) := lenPad bytes.length
  let q := x.seq.getD v 0
  let ws := packet (headWord type v tspec pad len q) param (bytesWords len bytes)
  let s1 := s.setTx k { x with seq := listSet x.seq v ((q + 1) % 2 ^ 16), last := ws, lastVc := v,
                               busyUntil := s.now + ws.length * 512 / (25 * s.outW k) }
  (s1.wrapInc .ghOutL (outOff k (0x1C + 4 * v)) (credits len)).wrapInc .ghOutL (outOff k 0x2C)

/-- ROLLREC_SEND (R185, R245): up to 7 records leave and are consumed as the packet starts.
Marked DEDUCED and unsafe (notes/assumptions/56.md). -/
def State.rollSend (s : State) (k : Nat) : State :=
  let v := s.regF .rmap 0x40 4 2
  if s.rollWaits k v && 1 ≤ s.credit k v && !(s.txLink k).upDue && s.maySend k v then
    let n := s.rollCount
    let first := (s.reg .rmap 0x48).toNat
    let bytes := (List.range n).flatMap fun i => readBytes s.mem (rmAddr (first + i)) 32
    (s.egressSend k v 0x55 0 (BitVec.ofNat 64 (first * 2 ^ 32)) bytes).wrapInc .rmap 0x48 n
  else s

/-- The group of the oldest waiting row on a link and VC (R251). -/
def State.oldestRow (s : State) (k v : Nat) : Option Nat :=
  leastBy (fun g => match tabGet [] s.surf.rows g with | r :: _ => (r.made : Int) | [] => 2 ^ 80)
    ((List.range 8).filter fun g => s.grpOn g k v && !(tabGet [] s.surf.rows g).isEmpty)

/-- PATCH_ROW_SEND (R211, R244): a group's oldest row leaves, in the order in which rows of its VC were made. -/
def State.patchRowSend (s : State) (g : Nat) : State :=
  let k := s.regF (.surfG g) 0x40 0 2
  let v := s.regF (.surfG g) 0x40 2 2
  match tabGet [] s.surf.rows g with
  | [] => s
  | r :: rest =>
    if credits (lenPad r.bytes.length).1 ≤ s.credit k v && !(s.txLink k).upDue && s.maySend k v && s.oldestRow k v = some g then
      let tspec := (if r.p16 then 2 ^ 17 else 0) + r.row * 2 ^ 10 + (r.width - 1) * 2 ^ 3
      let param := BitVec.ofNat 64 (r.line + r.x0 * 2 ^ 32 + r.win * 2 ^ 48)
      { (s.egressSend k v 0x4B tspec param r.bytes) with surf := { s.surf with rows := tabPut s.surf.rows g rest } }
    else s

/-- The feature block of a trailer, 40 bytes (R212). -/
def trailerBytes (w : PatchWin) (b : Blob) : List Nat :=
  let f := b.feat
  let n (x : Bool) : Nat := if x then 1 else 0
  let cx := 256 * f.sumX / max 1 f.area
  let cy := 256 * f.sumL / max 1 f.area
  bytesLE 40 (min f.nlines 65535 * 2 ^ 16 + f.lastPx % 2 ^ 16 * 2 ^ 32 + f.firstPx % 2 ^ 16 * 2 ^ 48 + cy % 2 ^ 24 * 2 ^ 64
    + cx % 2 ^ 24 * 2 ^ 88 + uns 48 f.sum * 2 ^ 112 + uns 16 f.max * 2 ^ 160 + uns 16 f.min * 2 ^ 176
    + f.area % 2 ^ 32 * 2 ^ 192 + n b.dark * 2 ^ 224 + n b.seam * 2 ^ 225 + n b.discard * 2 ^ 226 + n w.complete * 2 ^ 227
    + b.cls % 256 * 2 ^ 228 + b.cam % 16 * 2 ^ 236 + w.id % 2 ^ 16 * 2 ^ 240 + f.firstLine % 2 ^ 32 * 2 ^ 288)

/-- PATCH_TRAILER_SEND (R212, R244): a window's trailer leaves and the window is free. -/
def State.trailerSend (s : State) (id : Nat) : State :=
  match s.win id with
  | none => s
  | some w =>
    let k := s.regF (.surfG w.group) 0x40 0 2
    let v := s.regF (.surfG w.group) 0x40 2 2
    match w.done with
    | none => s
    | some b =>
      if s.trailerReady w && 1 ≤ s.credit k v && !(s.txLink k).upDue && s.maySend k v then
        let p16 := s.regF (.surfG w.group) 0x40 4 1 = 0
        let tspec := 2 ^ 18 + (if p16 then 2 ^ 17 else 0) + (w.rows - 1) * 2 ^ 10 + (w.width - 1) * 2 ^ 3
        let param := BitVec.ofNat 64 (w.row0 % 2 ^ 32 + w.x0 * 2 ^ 32 + w.id * 2 ^ 48)
        let s1 := s.egressSend k v 0x4B tspec param (trailerBytes w b)
        { s1 with surf := { s1.surf with wins := s1.surf.wins.filter fun x => x.id ≠ id } }
      else s

/-- EVENT_PACKET_SEND (R246, R261): LINK_UP first, then the pending firmware event, whose PENDING clears. -/
def State.eventSend (s : State) (k : Nat) : State :=
  let v := fld (s.outReg k 0x34) 16 2
  if s.eventWaits k v && 1 ≤ s.credit k v && s.maySend k v then
    let inst := BitVec.ofNat 64 s.now
    if (s.txLink k).upDue then
      let val := k + s.outW k * 2 ^ 8 + (s.reg .ghOutL 0x40).toNat * 2 ^ 32
      let s1 := s.egressSend k v 0x66 (0x8000 * 2 ^ 3) inst (bytesLE 8 val)
      s1.setTx k { s1.txLink k with upDue := false }
    else
      let val := (s.outReg k 0x38).toNat + 2 ^ 32 * (s.outReg k 0x3C).toNat
      ((s.egressSend k v 0x66 (fld (s.outReg k 0x34) 0 16 * 2 ^ 3) inst (bytesLE 8 val)).setReg .ghOutL (outOff k 0x44) 0).irqBit
        .ghOutL (8 + k)
  else s

/-- ROLLREC_SEND. -/
def execRollrecSend (link : Nat) (s : State) : Host.Outcome State Fault Refusal := .next (s.rollSend link)
/-- PATCH_ROW_SEND. -/
def execPatchRowSend (group : Nat) (s : State) : Host.Outcome State Fault Refusal := .next (s.patchRowSend group)
/-- PATCH_TRAILER_SEND. -/
def execPatchTrailerSend (win : Nat) (s : State) : Host.Outcome State Fault Refusal := .next (s.trailerSend win)
/-- EVENT_PACKET_SEND. -/
def execEventPacketSend (link : Nat) (s : State) : Host.Outcome State Fault Refusal := .next (s.eventSend link)

end Sys2Proof.Machine
end

