-- ==== Sys2Proof/Machine/Flags.lean ====
section
/-! DEFINITION. The flags of a core (R304), the conditions (R302), and the rounding modes and saturations of fixed-point
arithmetic (R312, R314, R315). -/
namespace Sys2Proof.Machine

/-- The six flags of CSTAT[5:0] (R304). -/
structure Flags where
  z : Bool
  n : Bool
  c : Bool
  v : Bool
  q : Bool
  d : Bool
deriving DecidableEq, Repr

/-- The flags that a status word holds in bits 5 to 0. -/
def Flags.ofWord (w : Word) : Flags := ⟨bit w 0, bit w 1, bit w 2, bit w 3, bit w 4, bit w 5⟩

/-- A status word with its flags replaced. -/
def Flags.into (f : Flags) (w : Word) : Word :=
  setBit (setBit (setBit (setBit (setBit (setBit w 0 f.z) 1 f.n) 2 f.c) 3 f.v) 4 f.q) 5 f.d

/-- A condition holds of the flags (R302); condition 0 never does. -/
def condHolds (c : Nat) (f : Flags) : Bool :=
  match c with
  | 1 => f.z | 2 => !f.z | 3 => f.c | 4 => !f.c | 5 => f.n | 6 => !f.n | 7 => f.v | 8 => !f.v
  | 9 => !f.c && !f.z | 10 => f.c || f.z | 11 => f.n == f.v | 12 => f.n != f.v
  | 13 => !f.z && f.n == f.v | 14 => f.z || f.n != f.v | 15 => true
  | _ => false

/-- Z and N of a result (R304). -/
def Flags.zn (f : Flags) (r : Word) : Flags := { f with z := r == 0, n := bit r 31 }

/-- An exact value x / 2^k taken to an integer under a rounding mode of R314: 0 truncate, 1 half-up, 2 half-even,
3 toward zero. -/
def roundShift (mode : Nat) (x : Int) (k : Nat) : Int :=
  let m : Int := 2 ^ k
  let lo := x / m
  match mode with
  | 0 => lo
  | 1 => (2 * x + m) / (2 * m)
  | 2 =>
    let r := 2 * (x % m)
    if r < m then lo else if m < r then lo + 1 else if lo % 2 = 0 then lo else lo + 1
  | _ => if x < 0 then -((-x) / m) else lo

/-- The rounding mode that RSEL selects (R314). -/
def rselMode (rsel rm : Nat) : Nat := if rsel = 0 then rm else rsel - 1

/-- A value saturated to n signed bits, and whether it saturated. -/
def satS (n : Nat) (x : Int) : Int × Bool :=
  let lim : Int := 2 ^ (n - 1)
  if x < -lim then (-lim, true) else if lim - 1 < x then (lim - 1, true) else (x, false)

/-- A signed number as a word. -/
def wordI (x : Int) : Word := wordOf (uns 32 x)

/-- A word read as signed. -/
def sgnW (w : Word) : Int := sgn 32 w.toNat

end Sys2Proof.Machine
end

