-- ==== Sys2Proof/Machine/Arith.lean ====
section
/-! DEFINITION. What the operations of Sprinviul compute, by their major opcode's function number (R309–R319): shared by
the core's instructions, the micro-operations of a custom instruction, and the syllables of a Swell bundle. -/
namespace Sys2Proof.Machine

/-- a + b + carry, with Z, N, C and V. -/
def addRes (f : Flags) (a b : Word) (ci : Bool) : Word × Flags :=
  let x := a.toNat + b.toNat + (if ci then 1 else 0)
  let r := wordOf x
  (r, { f.zn r with c := decide (2 ^ 32 ≤ x), v := bit a 31 == bit b 31 && bit r 31 != bit a 31 })

/-- a − b − borrow, with Z, N, C (the borrow) and V. -/
def subRes (f : Flags) (a b : Word) (bi : Bool) : Word × Flags :=
  let sub := b.toNat + (if bi then 1 else 0)
  let r := wordOf (a.toNat + 2 ^ 33 - sub)
  (r, { f.zn r with c := decide (a.toNat < sub), v := bit a 31 != bit b 31 && bit r 31 != bit a 31 })

/-- A shift of R310: kind 0 SHL, 1 SHR, 2 SAR, 3 ROR, by k. -/
def shiftRes (f : Flags) (kind : Nat) (a : Word) (k : Nat) : Word × Flags :=
  if k = 0 then (a, f.zn a)
  else match kind with
    | 0 =>
      let r := if 32 ≤ k then 0 else a <<< k
      (r, { f.zn r with c := decide (k ≤ 32) && bit a (32 - k) })
    | 1 =>
      let r := if 32 ≤ k then 0 else a >>> k
      (r, { f.zn r with c := decide (k ≤ 32) && bit a (k - 1) })
    | 2 =>
      let r := a.sshiftRight (min k 31)
      (r, { f.zn r with c := if k < 32 then bit a (k - 1) else bit a 31 })
    | _ =>
      let r := a.rotateRight (k % 32)
      (r, { f.zn r with c := bit r 31 })

/-- Leading zeros of a word, 0 to 32. -/
def clz32 (a : Word) : Nat := if a = 0 then 32 else 31 - Nat.log2 a.toNat

/-- A word with its bytes reversed. -/
def rev32 (a : Word) : Word := wordOf (ofBytesLE (bytesLE 4 a.toNat).reverse)

/-- The integer operations of R309 by func[5:0]: the result, and the flags as S = 1 leaves them. For a shift-immediate form
b is the amount; a division by zero is judged before (`divByZero`). -/
def intRes (fn : Nat) (f : Flags) (a b : Word) : Word × Flags :=
  let zn (r : Word) := (r, f.zn r)
  let sa := sgnW a
  let sb := sgnW b
  match fn with
  | 0x00 => addRes f a b false
  | 0x01 => addRes f a b f.c
  | 0x02 => subRes f a b false
  | 0x03 => subRes f a b f.c
  | 0x04 => zn (a &&& b)
  | 0x05 => zn (a ||| b)
  | 0x06 => zn (a ^^^ b)
  | 0x07 => zn (a &&& ~~~b)
  | 0x08 => shiftRes f 0 a (fld b 0 8)
  | 0x09 => shiftRes f 1 a (fld b 0 8)
  | 0x0A => shiftRes f 2 a (fld b 0 8)
  | 0x0B => shiftRes f 3 a (fld b 0 8)
  | 0x0C => shiftRes f 0 a (fld b 0 5)
  | 0x0D => shiftRes f 1 a (fld b 0 5)
  | 0x0E => shiftRes f 2 a (fld b 0 5)
  | 0x0F => shiftRes f 3 a (fld b 0 5)
  | 0x10 => subRes f a b false
  | 0x11 => zn (a &&& b)
  | 0x12 => zn (a * b)
  | 0x13 => zn (wordI (sa * sb / 2 ^ 32))
  | 0x14 => zn (wordOf (a.toNat * b.toNat / 2 ^ 32))
  | 0x15 =>
    let r := wordI (Int.tdiv sa sb)
    (r, { f.zn r with v := a == 0x80000000#32 && b == 0xFFFFFFFF#32 })
  | 0x16 => zn (wordOf (a.toNat / b.toNat))
  | 0x17 => zn (wordI (Int.tmod sa sb))
  | 0x18 => zn (wordOf (a.toNat % b.toNat))
  | 0x19 => zn (if sa ≤ sb then a else b)
  | 0x1A => zn (if sa ≤ sb then b else a)
  | 0x1B => zn (if a.toNat ≤ b.toNat then a else b)
  | 0x1C => zn (if a.toNat ≤ b.toNat then b else a)
  | 0x1D => zn (wordOf (clz32 a))
  | 0x1E => zn (rev32 a)
  | 0x20 => zn (wordI (sgn 8 a.toNat))
  | 0x21 => zn (wordI (sgn 16 a.toNat))
  | 0x22 => zn (wordOf (fld a 0 8))
  | 0x23 => zn (wordOf (fld a 0 16))
  | _ => zn 0

/-- DIV, DIVU, REM or REMU with a divisor of 0 (R311, R320). -/
def divByZero (fn : Nat) (b : Word) : Bool := 0x15 ≤ fn && fn ≤ 0x18 && b == 0

/-- An integer operation whose rs2 field must be 0 (R309). -/
def intUnary (fn : Nat) : Bool := fn == 0x1D || fn == 0x1E || (0x20 ≤ fn && fn ≤ 0x23)

/-- A shift-immediate form. -/
def intShiftImm (fn : Nat) : Bool := 0x0C ≤ fn && fn ≤ 0x0F

/-- An integer function number that R309 reserves. -/
def intReserved (fn : Nat) : Bool := fn == 0x1F || 0x24 ≤ fn

/-- The two halves of a packed Q1.15 word, high first (R312). -/
def halves (w : Word) : Int × Int := (sgn 16 (fld w 16 16), sgn 16 (fld w 0 16))

/-- Two saturated halves packed, and whether either saturated. -/
def packSat (hi lo : Int) : Word × Bool :=
  let h := satS 16 hi
  let l := satS 16 lo
  (wordOf (uns 16 h.1 * 2 ^ 16 + uns 16 l.1), h.2 || l.2)

/-- The fixed-point operations of R313 by func[3:0], under a rounding mode: result, and Z, N and Q. -/
def fixRes (fn mode : Nat) (f : Flags) (a b : Word) : Word × Flags :=
  let sa := sgnW a
  let sb := sgnW b
  let out (x : Int × Bool) : Word × Flags := (wordI x.1, { f.zn (wordI x.1) with q := f.q || x.2 })
  let pk (x : Word × Bool) : Word × Flags := (x.1, { f.zn x.1 with q := f.q || x.2 })
  let ha := halves a
  let hb := halves b
  match fn with
  | 0x0 => out (satS 32 (sa + sb))
  | 0x1 => out (satS 32 (sa - sb))
  | 0x2 => out (satS 32 (-sa))
  | 0x3 => out (satS 32 sa.natAbs)
  | 0x4 => out (satS 32 (roundShift mode (sa * sb) 31))
  | 0x6 => pk (packSat (ha.1 + hb.1) (ha.2 + hb.2))
  | 0x7 => pk (packSat (ha.1 - hb.1) (ha.2 - hb.2))
  | 0x8 => pk (packSat (roundShift mode (ha.1 * hb.1) 15) (roundShift mode (ha.2 * hb.2) 15))
  | 0x9 => out (satS 32 (sa * 2 ^ fld b 0 5))
  | 0xA => out (roundShift mode sa (fld b 0 5), false)
  | 0xB => pk (packSat (roundShift mode sa 16) (roundShift mode sb 16))
  | _ => out (0, false)

/-- A fixed-point function number that R313 reserves. -/
def fixReserved (fn : Nat) : Bool := fn == 5 || 0xC ≤ fn

/-- A fixed-point operation that rounds, and so takes an RSEL (R313). -/
def fixRounds (fn : Nat) : Bool := fn == 0x4 || fn == 0x8 || fn == 0xA || fn == 0xB

/-- A fixed-point operation whose rs2 field must be 0. -/
def fixUnary (fn : Nat) : Bool := fn == 0x2 || fn == 0x3

/-- What an accumulator operation leaves (R316): the accumulator, a result for rd where it has one, the flags. -/
structure AccRes where
  acc : BitVec 72
  rd : Option Word
  flags : Flags
deriving DecidableEq, Repr

/-- The exact product P2 of R316. -/
def dotProduct (a b : Word) : Int :=
  let ha := halves a
  let hb := halves b
  (ha.1 * hb.1 + ha.2 * hb.2) * 2 ^ 32

/-- The accumulator operations of R316 by func[3:0]. -/
def accRes (fn mode : Nat) (f : Flags) (acc : BitVec 72) (a b : Word) : AccRes :=
  let x := sgn 72 acc.toNat
  let p := sgnW a * sgnW b
  let p2 := dotProduct a b
  let sat (v : Int) : AccRes :=
    let r := satS 72 v
    ⟨BitVec.ofNat 72 (uns 72 r.1), none, { f with q := f.q || r.2 }⟩
  let set (v : Int) : AccRes := ⟨BitVec.ofNat 72 (uns 72 v), none, f⟩
  let get (w : Word) : AccRes := ⟨acc, some w, f⟩
  let part (lo n : Nat) (v : Nat) : AccRes :=
    let m := acc.toNat - bitsN acc.toNat lo n * 2 ^ lo
    ⟨BitVec.ofNat 72 (m + v % 2 ^ n * 2 ^ lo), none, f⟩
  match fn with
  | 0x0 => sat (x + p)
  | 0x1 => sat (x - p)
  | 0x2 => set p
  | 0x3 => sat (x + p2)
  | 0x4 => sat (x - p2)
  | 0x5 => set p2
  | 0x6 => set 0
  | 0x7 => set (sgnW a * 2 ^ 31)
  | 0x8 =>
    let r := satS 32 (roundShift mode x 31)
    ⟨acc, some (wordI r.1), { f.zn (wordI r.1) with q := f.q || r.2 }⟩
  | 0x9 =>
    let r := satS 16 (roundShift mode x 47)
    ⟨acc, some (wordI r.1), { f.zn (wordI r.1) with q := f.q || r.2 }⟩
  | 0xA => get (wordOf acc.toNat)
  | 0xB => get (wordOf (acc.toNat / 2 ^ 32))
  | 0xC => get (wordI (sgn 8 (acc.toNat / 2 ^ 64)))
  | 0xD => part 0 32 a.toNat
  | 0xE => part 32 32 a.toNat
  | _ => part 64 8 a.toNat

/-- An accumulator operation reads its accumulator into rd (RDA, RDA16, RDAL, RDAH, RDAG). -/
def accReads (fn : Nat) : Bool := 8 ≤ fn && fn ≤ 12

/-- An accumulator operation that uses neither (CLRA), only rs1 (MTA, WRAL, WRAH, WRAG) or both register sources. -/
def accSources (fn : Nat) : Nat := if fn ≤ 5 then 2 else if fn = 7 || 13 ≤ fn then 1 else 0

/-- Every digit of a packed BCD word is 0 to 9 (R317). -/
def bcdValid (w : Word) : Bool := (List.range 8).all fun i => fld w (4 * i) 4 ≤ 9

/-- The value of a packed BCD word. -/
def bcdValue (w : Word) : Nat := (List.range 8).foldl (fun a i => a + fld w (4 * i) 4 * 10 ^ i) 0

/-- The packed BCD word of a number below 10^8. -/
def bcdOf (n : Nat) : Word := wordOf ((List.range 8).foldl (fun a i => a + n / 10 ^ i % 10 * 16 ^ i) 0)

/-- DADJ (R319): the sum's digits corrected one by one, with the decimal carry. -/
def dadjRes (s k : Word) (c : Bool) : Word × Bool :=
  let t3 := s ^^^ k
  let st := (List.range 8).foldl (fun (st : Nat × Nat) i =>
      let t := fld s (4 * i) 4 + st.2
      let out := if i < 7 then bit t3 (4 * i + 4) else c
      let t := if out || 9 < t then t + 6 else t
      if 15 < t then (st.1 + (t - 16) % 16 * 16 ^ i, 1) else (st.1 + t * 16 ^ i, 0)) (0, 0)
  (wordOf st.1, c || st.2 = 1)

/-- A decimal operation of R318 checks rs1's digits, and rs2's. -/
def decChecked (fn : Nat) (a b : Word) : Bool :=
  if fn ≤ 4 then bcdValid a && bcdValid b else if fn = 6 then bcdValid a else true

/-- The decimal operations of R318 by func, on sources whose digits are valid. -/
def decRes (fn : Nat) (f : Flags) (a b : Word) : Word × Flags :=
  let va := bcdValue a
  let vb := bcdValue b
  let d := if f.d then 1 else 0
  let z (r : Word) := r == 0
  match fn with
  | 0 =>
    let r := bcdOf ((va + vb) % 10 ^ 8)
    (r, { f with d := decide (10 ^ 8 ≤ va + vb), z := z r })
  | 1 =>
    let r := bcdOf ((va + vb + d) % 10 ^ 8)
    (r, { f with d := decide (10 ^ 8 ≤ va + vb + d), z := f.z && z r })
  | 2 =>
    let r := bcdOf ((va + 10 ^ 8 - vb) % 10 ^ 8)
    (r, { f with d := decide (va < vb), z := z r })
  | 3 =>
    let r := bcdOf ((va + 2 * 10 ^ 8 - vb - d) % 10 ^ 8)
    (r, { f with d := decide (va < vb + d), z := f.z && z r })
  | 4 => (0, { f with z := va == vb, n := decide (va < vb), d := decide (va < vb) })
  | 5 =>
    let r := dadjRes a b f.c
    (r.1, { f with d := r.2, z := z r.1 })
  | 6 =>
    let r := wordOf va
    (r, { f with z := z r })
  | _ =>
    let r := bcdOf (a.toNat % 10 ^ 8)
    (r, { f with d := decide (10 ^ 8 ≤ a.toNat), z := z r })

/-- A decimal function number that R318 reserves. -/
def decReserved (fn : Nat) : Bool := 8 ≤ fn

/-- A decimal operation whose rs2 field must be 0. -/
def decUnary (fn : Nat) : Bool := fn == 6 || fn == 7

end Sys2Proof.Machine
end

