-- ==== Sys2Proof/Machine/Cap.lean ====
section
/-! DEFINITION. Capabilities (R367–R370): their fields, what they authorise, their form in memory; the tags that memory
keeps (R36, R369); and a core as its reset leaves it (R300, R373). -/
namespace Sys2Proof.Machine

/-- The null capability: all bits 0, untagged. -/
def nullCap : Cap := ⟨false, 0⟩

/-- A capability of its fields (R367). -/
def capOf (tag : Bool) (otype perms length base cursor : Nat) : Cap :=
  ⟨tag, BitVec.ofNat 128 (otype % 2 ^ 8 * 2 ^ 112 + perms % 2 ^ 16 * 2 ^ 96 + length % 2 ^ 32 * 2 ^ 64
    + base % 2 ^ 32 * 2 ^ 32 + cursor % 2 ^ 32)⟩

/-- CURSOR. -/
def capCursor (c : Cap) : Nat := bitsN c.bits.toNat 0 32
/-- BASE. -/
def capBase (c : Cap) : Nat := bitsN c.bits.toNat 32 32
/-- LENGTH. -/
def capLength (c : Cap) : Nat := bitsN c.bits.toNat 64 32
/-- PERMS. -/
def capPerms (c : Cap) : Nat := bitsN c.bits.toNat 96 16
/-- OTYPE. -/
def capOtype (c : Cap) : Nat := bitsN c.bits.toNat 112 8
/-- A permission bit is held: 0 EX, 1 LD, 2 ST, 3 LDC, 4 STC, 5 SYS, 6 SEAL, 7 UNSEAL, 8 GATE, 9 GLOBAL, 10 STLOCAL. -/
def capHas (c : Cap) (k : Nat) : Bool := bitsN c.bits.toNat (96 + k) 1 = 1
/-- The capability with the cursor replaced. -/
def capSetCursor (c : Cap) (x : Nat) : Cap :=
  ⟨c.tag, BitVec.ofNat 128 (c.bits.toNat / 2 ^ 32 * 2 ^ 32 + x % 2 ^ 32)⟩
/-- The capability with the object type replaced. -/
def capSetOtype (c : Cap) (t : Nat) : Cap :=
  ⟨c.tag, BitVec.ofNat 128 (c.bits.toNat / 2 ^ 120 * 2 ^ 120 + t % 2 ^ 8 * 2 ^ 112 + c.bits.toNat % 2 ^ 112)⟩
/-- The capability with the permissions replaced. -/
def capSetPerms (c : Cap) (p : Nat) : Cap :=
  ⟨c.tag, BitVec.ofNat 128 (c.bits.toNat / 2 ^ 112 * 2 ^ 112 + p % 2 ^ 16 * 2 ^ 96 + c.bits.toNat % 2 ^ 96)⟩

/-- n bytes at an address lie within the bounds (R368). -/
def capCovers (c : Cap) (a n : Nat) : Bool := capBase c ≤ a && a + n ≤ capBase c + capLength c && capLength c != 0

/-- The lowest byte of an access that lies outside the bounds (R378). -/
def capFirstOut (c : Cap) (a n : Nat) : Nat :=
  if a < capBase c || capBase c + capLength c ≤ a then a else min (capBase c + capLength c) (a + n)

/-- An address lies in memory that keeps tags: the TCMs and System SRAM (R34). -/
def tagMemory (a : Nat) : Bool :=
  (0x08000000 ≤ a && a < 0x08040000) || (0x08100000 ≤ a && a < 0x08140000) || (0x20000000 ≤ a && a < 0x20800000)

/-- Insert a number into a rising list. -/
def insertRising (x : Nat) : List Nat → List Nat
  | [] => [x]
  | y :: ys => if x < y then x :: y :: ys else if x = y then y :: ys else y :: insertRising x ys

/-- The capability in a granule, with its tag where memory keeps one. -/
def State.memCap (s : State) (a : Nat) : Cap :=
  ⟨s.tags.contains (a / 16), BitVec.ofNat 128 (s.memN a 16)⟩

/-- Store a capability in a granule; memory without tags loses the tag (R36). -/
def State.putCap (s : State) (a : Nat) (c : Cap) : State :=
  let s1 := s.writeMem a (bytesLE 16 c.bits.toNat)
  if c.tag && tagMemory a then { s1 with tags := insertRising (a / 16) s1.tags } else s1

/-- An empty bank. -/
def svBankFresh : SvBank := ⟨[], [], nullCap, 0⟩

/-- The root code capability (R373). -/
def rootCode : Cap := capOf true 0 0x7FF 0xFFFFFFFF 0 0
/-- The root data capability: without EX and SYS. -/
def rootData : Cap := capOf true 0 0x7DE 0xFFFFFFFF 0 0

/-- The cluster's core as the reset of the Headland domain leaves it (R300, R373, R376).
Marked DESIGN CHOICE and unsafe (notes/assumptions/11.md). -/
def svFresh (now : Nat) : SvCore :=
  { banks := [{ svBankFresh with c := [(14, rootData)] }, svBankFresh, svBankFresh, svBankFresh]
    breachBank := svBankFresh, breach := false, depth := 0, pcc := rootCode, cstat := 0xE000
    a0 := 0, a1 := 0, l0 := ⟨0, 0, 0⟩, l1 := ⟨0, 0, 0⟩, l2 := ⟨0, 0, 0⟩, load := none, arith := none
    ecause := 0, eaddr := 0, flvl := 0x36DB6DB6, gateBase := 0, bcause := 0, baddr := 0
    fvec := nullCap, ivec := [], nddc := nullCap, ncsp := nullCap, breachVec := nullCap, breachDdc := nullCap
    breachCsp := nullCap, onceVec := false, onceDdc := false, onceCsp := false, wfi := false, hold := false
    cycles := 0, cycleAt := now, cycleHi := none, wdtAddr := 0, wdtDhi := 0, wdtSlot := 0, wdtStat := 0
    ucode := [], slots := [] }

end Sys2Proof.Machine
end

