-- ==== Sys2Proof/Machine/Microcode.lean ====
section
/-! DEFINITION. The writable decode table (R335–R341): micro-operations, the validation of a slot, what a custom instruction
computes, and a decode-table image. -/
namespace Sys2Proof.Machine

/-- A field of a microcode word. -/
def mfld (w : BitVec 64) (lo n : Nat) : Nat := bitsN w.toNat lo n

/-- END of a microcode word (R336). -/
def microEnd (w : BitVec 64) : Bool := w.getLsbD 63

/-- The major opcode and function are allowed in microcode (R336).
Marked DEDUCED and unsafe (notes/assumptions/83.md). -/
def microOpOk (w : BitVec 64) : Bool :=
  let major := mfld w 52 6
  let fn := mfld w 45 7
  let rsel := fn / 16
  if major = 0 then !intReserved (fn % 64) && fn % 64 ≠ 0x10 && fn % 64 ≠ 0x11
  else if major = 0x28 then !fixReserved (fn % 16) && rsel ≤ 4 && (rsel = 0 || fixRounds (fn % 16))
  else if major = 0x29 then rsel ≤ 4 && (rsel = 0 || fn % 16 = 8 || fn % 16 = 9)
  else major = 0x2A && !decReserved fn

/-- The selectors are of the right kind and no reserved bit is set (R336).
Marked DEDUCED and unsafe (notes/assumptions/83.md). -/
def microSelOk (w : BitVec 64) : Bool :=
  let major := mfld w 52 6
  let fn := mfld w 45 7
  let d := mfld w 40 5
  let s1 := mfld w 35 5
  let s2 := mfld w 30 5
  let acc := fun (x : Nat) => x = 14 || x = 15
  let reads := major = 0x29 && accReads (fn % 16)
  let writes := major = 0x29 && !accReads (fn % 16)
  let imm := major = 0 && intShiftImm (fn % 64)
  mfld w 58 4 = 0 && mfld w 0 18 = 0 && (if writes then acc d else d ≤ 8) && (if reads then acc s1 else s1 ≤ 13)
    && (imm || s2 ≤ 13)

/-- The validation of a slot from a word on (R338): what ERR and ERRADDR report, and the words scanned.
Marked DEDUCED and unsafe (notes/assumptions/83.md). -/
def microScan (store : Tab (BitVec 64)) (addr n : Nat) : Nat → Nat × Nat × Nat
  | 0 => (1, addr - 1, n)
  | fuel + 1 =>
    if 2047 < addr then (2, 2047, n)
    else
      let w := tabGet 0 store addr
      if !microOpOk w then (3, addr, n + 1)
      else if !microSelOk w then (4, addr, n + 1)
      else if microEnd w then (0, addr, n + 1)
      else microScan store (addr + 1) (n + 1) fuel

/-- A slot that is not loaded. -/
def slotEmpty : Nat × Bool × Nat := (0, false, 0)

/-- A write of WDT_ENTRY (R338): the slot is validated and loaded, or unloaded. -/
def SvCore.wdtEntry (c : SvCore) (slot start : Nat) (valid : Bool) : SvCore :=
  if valid then
    let (err, at_, n) := microScan c.ucode start 0 64
    { c with slots := tabSet slotEmpty c.slots slot (if err = 0 then (start, true, n) else (start, false, 0))
             wdtStat := wordOf (if err = 0 then 0 else err + at_ * 2 ^ 8 + slot * 2 ^ 19) }
  else { c with slots := tabSet slotEmpty c.slots slot (start, false, 0) }

/-- A microcode word is written: a loaded slot whose range holds it is unloaded (R338). -/
def SvCore.wdtWord (c : SvCore) (addr : Nat) (w : BitVec 64) : SvCore :=
  { c with
    ucode := tabSet 0 c.ucode addr w
    slots := c.slots.filterMap fun (e : Nat × Nat × Bool × Nat) =>
      if e.2.2.1 && e.2.1 ≤ addr && addr < e.2.1 + e.2.2.2 then
        (if e.2.1 = 0 then none else some (e.1, e.2.1, false, 0))
      else some e }

/-- A slot is loaded. -/
def SvCore.slotLoaded (c : SvCore) (slot : Nat) : Bool := (tabGet slotEmpty c.slots slot).2.1

/-! ### Running a custom instruction (R337) -/

/-- What a custom instruction's micro-operations read: the registers that rd, rs1 and rs2 name with their values, K, RM and
TRAPOV. -/
structure MicroEnv where
  d : Nat
  r1 : Nat
  r2 : Nat
  vd : Word
  v1 : Word
  v2 : Word
  k : Nat
  rm : Nat
  trapov : Bool
deriving DecidableEq, Repr

/-- What is staged while it runs: temporaries, rd, accumulators, flags. -/
structure MicroSt where
  u : Tab Word
  rd : Option Word
  a0 : BitVec 72
  a1 : BitVec 72
  flags : Flags
deriving DecidableEq, Repr

/-- A selector's value (R336): a register written by an earlier micro-operation reads as staged (R337). -/
def microSel (e : MicroEnv) (st : MicroSt) (imm x : Nat) : Word :=
  let reg := fun (r : Nat) (v : Word) => if r = 0 then 0 else if r = e.d then st.rd.getD v else v
  if x ≤ 7 then tabGet 0 st.u x
  else if x = 8 then reg e.d e.vd
  else if x = 9 then reg e.r1 e.v1
  else if x = 10 then reg e.r2 e.v2
  else if x = 11 then wordOf e.k
  else if x = 12 then wordI (sgn 12 imm)
  else 0

/-- The result of a micro-operation goes to its destination. -/
def microDest (st : MicroSt) (d : Nat) (v : Word) : MicroSt :=
  if d ≤ 7 then { st with u := tabSet 0 st.u d v } else { st with rd := some v }

/-- An integer operation whose S form raises ARITH on overflow under TRAPOV (R320). -/
def trapsOnV (fn : Nat) : Bool := fn ≤ 3 || fn = 0x15

/-- One micro-operation; none where it meets a case of R320.
Marked DEDUCED and unsafe (notes/assumptions/83.md). -/
def microStep (e : MicroEnv) (st : MicroSt) (w : BitVec 64) : Option MicroSt :=
  let major := mfld w 52 6
  let fn := mfld w 45 7
  let d := mfld w 40 5
  let s2 := mfld w 30 5
  let val := microSel e st (mfld w 18 12)
  let a := val (mfld w 35 5)
  let mode := rselMode (fn / 16) e.rm
  if major = 0 then
    let b := if intShiftImm (fn % 64) then wordOf s2 else val s2
    let wf := w.getLsbD 62
    if divByZero (fn % 64) b then none
    else
      let (r, f) := intRes (fn % 64) st.flags a b
      if wf && trapsOnV (fn % 64) && f.v && e.trapov then none
      else some (microDest { st with flags := if wf then f else st.flags } d r)
  else if major = 0x28 then
    let (r, f) := fixRes (fn % 16) mode st.flags a (val s2)
    some (microDest { st with flags := f } d r)
  else if major = 0x29 then
    let named := if accReads (fn % 16) then mfld w 35 5 else d
    let x := accRes (fn % 16) mode st.flags (if named = 14 then st.a0 else st.a1) a (val s2)
    let st1 := { st with flags := x.flags }
    if accReads (fn % 16) then some (microDest st1 d (x.rd.getD 0))
    else some (if named = 14 then { st1 with a0 := x.acc } else { st1 with a1 := x.acc })
  else
    let b := val s2
    if !decChecked fn a b then none
    else
      let (r, f) := decRes fn st.flags a b
      let st1 := { st with flags := f }
      some (if fn = 4 then st1 else microDest st1 d r)

/-- The micro-operations from a word on, to the first END (R337). -/
def microRun (e : MicroEnv) (store : Tab (BitVec 64)) (addr : Nat) : Nat → MicroSt → Option MicroSt
  | 0, st => some st
  | fuel + 1, st =>
    let w := tabGet 0 store addr
    match microStep e st w with
    | none => none
    | some st1 => if microEnd w then some st1 else microRun e store (addr + 1) fuel st1

/-! ### A decode-table image (R341) -/

/-- A decode-table image's own layout is kept. -/
def tableLayoutOk (bs : List Nat) : Bool :=
  let h := fun (o n : Nat) => ofBytesLE ((bs.drop o).take n)
  let n := h 6 2
  h 0 4 = 0x3E000001 && 1 ≤ n && n ≤ 2048 && h 40 8 = 0 && 48 + 8 * n ≤ bs.length
    && (List.range 16).all fun s => h (8 + 2 * s) 2 < 2048

/-- The bytes of a decode-table image that its digest covers. -/
def tableBytes (bs : List Nat) : List Nat := bs.take (48 + 8 * ofBytesLE ((bs.drop 6).take 2))

/-- The core with a decode-table image loaded, if every slot that it names passes R338.
Marked DEDUCED and unsafe (notes/assumptions/123.md). -/
def SvCore.loadTable (c : SvCore) (bs : List Nat) : Option SvCore :=
  if !tableLayoutOk bs then none
  else
    let n := ofBytesLE ((bs.drop 6).take 2)
    let map := ofBytesLE ((bs.drop 4).take 2)
    let c1 := (List.range n).foldl (fun (c : SvCore) w =>
      c.wdtWord w (BitVec.ofNat 64 (ofBytesLE ((bs.drop (48 + 8 * w)).take 8)))) c
    let named := (List.range 16).filter fun s => map / 2 ^ s % 2 = 1
    let c2 := named.foldl (fun (c : SvCore) s => c.wdtEntry s (ofBytesLE ((bs.drop (8 + 2 * s)).take 2)) true) c1
    if named.all c2.slotLoaded then some { c2 with wdtStat := 0 } else none

end Sys2Proof.Machine
end

