-- ==== Sys2Proof/Machine/Sha.lean ====
section
/-! DEFINITION. SHA-256 and HMAC-SHA-256, which the spec names for tickets, audit records, firmware images and life-cycle
tokens (R283, R290, R498), over bytes as numbers. -/
namespace Sys2Proof.Machine

/-- The round constants of SHA-256. -/
def shaK : List Word := [
  0x428a2f98, 0x71374491, 0xb5c0fbcf, 0xe9b5dba5, 0x3956c25b, 0x59f111f1, 0x923f82a4, 0xab1c5ed5,
  0xd807aa98, 0x12835b01, 0x243185be, 0x550c7dc3, 0x72be5d74, 0x80deb1fe, 0x9bdc06a7, 0xc19bf174,
  0xe49b69c1, 0xefbe4786, 0x0fc19dc6, 0x240ca1cc, 0x2de92c6f, 0x4a7484aa, 0x5cb0a9dc, 0x76f988da,
  0x983e5152, 0xa831c66d, 0xb00327c8, 0xbf597fc7, 0xc6e00bf3, 0xd5a79147, 0x06ca6351, 0x14292967,
  0x27b70a85, 0x2e1b2138, 0x4d2c6dfc, 0x53380d13, 0x650a7354, 0x766a0abb, 0x81c2c92e, 0x92722c85,
  0xa2bfe8a1, 0xa81a664b, 0xc24b8b70, 0xc76c51a3, 0xd192e819, 0xd6990624, 0xf40e3585, 0x106aa070,
  0x19a4c116, 0x1e376c08, 0x2748774c, 0x34b0bcb5, 0x391c0cb3, 0x4ed8aa4a, 0x5b9cca4f, 0x682e6ff3,
  0x748f82ee, 0x78a5636f, 0x84c87814, 0x8cc70208, 0x90befffa, 0xa4506ceb, 0xbef9a3f7, 0xc67178f2]

/-- The initial hash value of SHA-256. -/
def shaH0 : List Word :=
  [0x6a09e667, 0xbb67ae85, 0x3c6ef372, 0xa54ff53a, 0x510e527f, 0x9b05688c, 0x1f83d9ab, 0x5be0cd19]

/-- The word of four bytes, the first highest. -/
def beWord (bs : List Nat) : Word := wordOf (bs.foldl (fun a b => a * 256 + b % 256) 0)

/-- The sixteen words of a 64-byte block. -/
def blockWords (bs : List Nat) : List Word := (List.range 16).map fun i => beWord ((bs.drop (4 * i)).take 4)

/-- The message schedule, newest word first, extended by n words. -/
def shaExpand : Nat → List Word → List Word
  | 0, w => w
  | n + 1, w =>
    let a := w.getD 1 0
    let b := w.getD 14 0
    let s1 := a.rotateRight 17 ^^^ a.rotateRight 19 ^^^ (a >>> 10)
    let s0 := b.rotateRight 7 ^^^ b.rotateRight 18 ^^^ (b >>> 3)
    shaExpand n ((s1 + w.getD 6 0 + s0 + w.getD 15 0) :: w)

/-- One round of SHA-256 on the eight working words. -/
def shaRound (h : List Word) (kw : Word × Word) : List Word :=
  match h with
  | [a, b, c, d, e, f, g, hh] =>
    let s1 := e.rotateRight 6 ^^^ e.rotateRight 11 ^^^ e.rotateRight 25
    let ch := (e &&& f) ^^^ (~~~e &&& g)
    let t1 := hh + s1 + ch + kw.1 + kw.2
    let s0 := a.rotateRight 2 ^^^ a.rotateRight 13 ^^^ a.rotateRight 22
    let maj := (a &&& b) ^^^ (a &&& c) ^^^ (b &&& c)
    [t1 + (s0 + maj), a, b, c, d + t1, e, f, g]
  | x => x

/-- One block into the hash value. -/
def shaBlock (h : List Word) (bs : List Nat) : List Word :=
  let w := (shaExpand 48 (blockWords bs).reverse).reverse
  List.zipWith (· + ·) h ((shaK.zip w).foldl shaRound h)

/-- Blocks into the hash value, within fuel. -/
def shaBlocks : Nat → List Word → List Nat → List Word
  | 0, h, _ => h
  | n + 1, h, bs => if bs.isEmpty then h else shaBlocks n (shaBlock h (bs.take 64)) (bs.drop 64)

/-- SHA-256 of bytes, as eight words. -/
def sha256 (bs : List Nat) : List Word :=
  let pad := (119 - bs.length % 64) % 64
  let full := bs ++ [0x80] ++ List.replicate pad 0 ++ bytesBE 8 (8 * bs.length)
  shaBlocks (full.length / 64 + 1) shaH0 full

/-- The bytes of a hash, first byte first. -/
def hashBytes (h : List Word) : List Nat := h.flatMap fun w => bytesBE 4 w.toNat

/-- A digest as registers hold it: byte 4i + j in bits [8j+7:8j] of word i (R342).
Marked DEDUCED and unsafe (notes/assumptions/32.md). -/
def hashWords (h : List Word) : List Word := (List.range 8).map fun i => wordOf (ofBytesLE (((hashBytes h).drop (4 * i)).take 4))

/-- HMAC-SHA-256 of bytes under a key of at most 64 bytes, as 32 bytes. -/
def hmacSha256 (key msg : List Nat) : List Nat :=
  let k := key ++ List.replicate (64 - key.length) 0
  let inner := hashBytes (sha256 (k.map (fun b => b ^^^ 0x36) ++ msg))
  hashBytes (sha256 (k.map (fun b => b ^^^ 0x5C) ++ inner))

end Sys2Proof.Machine
end

