-- ==== Sys2Proof/Machine/Ecdsa.lean ====
section
/-! DEFINITION. ECDSA over P-256 with SHA-256, as secure boot and the RETURN token use it (R479, R489). The curve's constants
are those of FIPS 186 (PRESUMED: the spec names the curve alone); byte strings are read little-endian as every field of an
image is (DEDUCED, R478). -/
namespace Sys2Proof.Machine

/-- The field's prime. -/
def ecP : Nat := 0xFFFFFFFF00000001000000000000000000000000FFFFFFFFFFFFFFFFFFFFFFFF
/-- The order of the base point. -/
def ecN : Nat := 0xFFFFFFFF00000000FFFFFFFFFFFFFFFFBCE6FAADA7179E84F3B9CAC2FC632551
/-- The curve's constant term; its linear term is −3. -/
def ecB : Nat := 0x5AC635D8AA3A93E7B3EBBD55769886BC651D06B0CC53B0F63BCE3C3E27D2604B
/-- The base point's x. -/
def ecGx : Nat := 0x6B17D1F2E12C4247F8BCE6E563A440F277037D812DEB33A0F4A13945D898C296
/-- The base point's y. -/
def ecGy : Nat := 0x4FE342E2FE1A7F9B8EE7EB4A7C0F9E162BCE33576B315ECECBB6406837BF51F5

/-- b to the power e modulo m, over the low `fuel` bits of e, highest first. -/
def powMod (m b e : Nat) : Nat → Nat → Nat
  | 0, acc => acc
  | fuel + 1, acc =>
    let sq := acc * acc % m
    powMod m b e fuel (if e / 2 ^ fuel % 2 = 1 then sq * b % m else sq)

/-- The inverse modulo a prime of at most 256 bits. -/
def invMod (m b : Nat) : Nat := powMod m (b % m) (m - 2) 256 1

/-- The difference modulo m of two residues. -/
def subMod (m a b : Nat) : Nat := (a + m - b % m) % m

/-- A point of the curve in projective coordinates: (X : Y : Z) stands for (X / Z², Y / Z³); Z = 0 is infinity. -/
structure EcPoint where
  x : Nat
  y : Nat
  z : Nat
deriving DecidableEq, Repr

/-- Twice a point. -/
def EcPoint.double (a : EcPoint) : EcPoint :=
  if a.z = 0 || a.y = 0 then ⟨1, 1, 0⟩
  else
    let zz := a.z * a.z % ecP
    let yy := a.y * a.y % ecP
    let s := 4 * a.x * yy % ecP
    let m := 3 * (subMod ecP a.x zz) * (a.x + zz) % ecP
    let x := subMod ecP (m * m) (2 * s)
    ⟨x, subMod ecP (m * subMod ecP s x) (8 * yy * yy), 2 * a.y * a.z % ecP⟩

/-- The sum of two points. -/
def EcPoint.add (a b : EcPoint) : EcPoint :=
  if a.z = 0 then b
  else if b.z = 0 then a
  else
    let za := a.z * a.z % ecP
    let zb := b.z * b.z % ecP
    let u1 := a.x * zb % ecP
    let u2 := b.x * za % ecP
    let s1 := a.y * zb * b.z % ecP
    let s2 := b.y * za * a.z % ecP
    let h := subMod ecP u2 u1
    let r := subMod ecP s2 s1
    if h = 0 then (if r = 0 then a.double else ⟨1, 1, 0⟩)
    else
      let hh := h * h % ecP
      let hhh := hh * h % ecP
      let v := u1 * hh % ecP
      let x := subMod ecP (r * r) (hhh + 2 * v)
      ⟨x, subMod ecP (r * subMod ecP v x) (s1 * hhh), h * a.z * b.z % ecP⟩

/-- u times P plus v times Q, over the low `fuel` bits of u and v, highest first. -/
def ecSum (u v : Nat) (p q : EcPoint) : Nat → EcPoint → EcPoint
  | 0, acc => acc
  | fuel + 1, acc =>
    let d := acc.double
    let d1 := if u / 2 ^ fuel % 2 = 1 then d.add p else d
    ecSum u v p q fuel (if v / 2 ^ fuel % 2 = 1 then d1.add q else d1)

/-- A signature (r, s) of a message hash under the public key (x, y) is valid.
Marked DEDUCED and unsafe (notes/assumptions/31.md). -/
def ecdsaOk (x y hash r s : Nat) : Bool :=
  let on := x < ecP && y < ecP && (y * y) % ecP == (x * x * x + ecB + 3 * (ecP - x)) % ecP
  if !on || r = 0 || s = 0 || ecN ≤ r || ecN ≤ s then false
  else
    let w := invMod ecN s
    let pt := ecSum (hash * w % ecN) (r * w % ecN) ⟨ecGx, ecGy, 1⟩ ⟨x, y, 1⟩ 256 ⟨1, 1, 0⟩
    if pt.z = 0 then false
    else
      let zi := invMod ecP pt.z
      (pt.x * zi % ecP * zi % ecP) % ecN == r

/-- The number that a hash's words spell, first word highest.
Marked DEDUCED and unsafe (notes/assumptions/31.md). -/
def hashNat (h : List Word) : Nat := h.foldl (fun a w => a * 2 ^ 32 + w.toNat) 0

/-- The signature in 64 bytes of a message is valid under the public key in 64 bytes, its hash being one of a key slot. -/
def signedUnder (slot : List Word) (key msgHash : List Word) (keyBytes sig : List Nat) : Bool :=
  slot == key && keyBytes.length == 64 && sig.length == 64
    && ecdsaOk (ofBytesLE (keyBytes.take 32)) (ofBytesLE (keyBytes.drop 32)) (hashNat msgHash)
      (ofBytesLE (sig.take 32)) (ofBytesLE (sig.drop 32))

end Sys2Proof.Machine
end

