-- ==== Sys2Proof/Machine/Conv.lean ====
section
/-! DEFINITION. The load-cell converters (R464–R468). -/
namespace Sys2Proof.Machine

/-- A channel's own state. -/
def State.cv (s : State) (c : Nat) : Conv := tabGet ⟨none, 0, 0, [], ⟨0, 0, 0⟩, 0⟩ s.conv c
/-- A channel's own state replaced. -/
def State.setCv (s : State) (c : Nat) (v : Conv) : State := { s with conv := tabPut s.conv c v }
/-- CV_CFG. -/
def State.cvCfg (s : State) (c : Nat) : Word := s.reg (.cv c) 0x40
/-- The filter window W in ticks (R465).
Marked DEDUCED and unsafe (notes/assumptions/100.md). -/
def State.cvWindow (s : State) (c : Nat) : Nat := 125000 * 2 ^ fld (s.cvCfg c) 3 3
/-- The channel converts: enabled, its domain on, and not isolated (R467). -/
def State.cvRuns (s : State) (c : Nat) : Bool :=
  c < s.fuses.cells && s.enabled (.cv c) && s.pageRuns (.cv c) && !s.isFenced (.cv c)

/-- The code of R464 for a bridge voltage and an excitation in the same unit, and whether it was clamped. A quotient that lies
exactly between two codes takes the code the device rounds to, which the spec does not say.
Marked DESIGN CHOICE and safe (notes/assumptions/99.md). -/
def State.cvCode (s : State) (c : Nat) (vin : Int) (vexc : Nat) : Int × Bool :=
  let num := vin * 2 ^ fld (s.cvCfg c) 0 3 * 2 ^ 23
  let d : Int := if vexc = 0 then 1 else vexc
  let q := num / d
  let r := 2 * (num - q * d)
  let x := if r < d then q else if d < r then q + 1 else if Config.freeBool s.free then q + 1 else q
  (clampI (-2 ^ 23) (2 ^ 23 - 1) x, x < -2 ^ 23 || 2 ^ 23 - 1 < x)

/-- CONVERTER_START: a route starts a triggered conversion (R449, R465).
Marked DEDUCED and unsafe (notes/assumptions/122.md). -/
def State.cvStart (s : State) (c : Nat) : State :=
  match s.routeTake 0 c with
  | some (a, s1) =>
    if !s1.cvRuns c || bit (s1.cvCfg c) 6 then s1
    else if (s1.cv c).start.isSome then s1.cvDropStart c
    else s1.setCv c { s1.cv c with start := some a.at_ }
  | none => s

/-- The window and the instant of availability of the result that is due next (R465).
Marked DEDUCED and unsafe (notes/assumptions/100.md). -/
def State.cvDue (s : State) (c : Nat) : Option (Nat × Nat) :=
  let w := s.cvWindow c
  if bit (s.cvCfg c) 6 then some ((s.cv c).window * w, ((s.cv c).window + 1) * w + 32000)
  else (s.cv c).start.map fun t => (t, t + w + 32000)

/-- CONVERSION_RESULT: a result becomes available and goes to the FIFO, bank 2 and DMA (R464–R467);
`inRange` says whether both inputs stayed in their common-mode range.
Marked DESIGN CHOICE and unsafe (notes/assumptions/4.md), DEDUCED and unsafe (notes/assumptions/100.md). -/
def State.cvResult (s : State) (c : Nat) (vin : Int) (vexc : Nat) (inRange : Bool) : State :=
  match s.cvDue c with
  | some (begin_, at_) =>
    if !s.cvRuns c || s.now < at_ then s
    else
      let v := s.cv c
      let cfg := s.cvCfg c
      let (code, ovr) := s.cvCode c vin vexc
      let x : CvSample := ⟨code, v.seq, inst64 (begin_ + s.cvWindow c / 2)⟩
      let full := 16 ≤ v.fifo.length
      let fifo := if full then v.fifo else v.fifo ++ [x]
      let rec_ := if bit cfg 9 then x else v.bank2
      let v1 : Conv := ⟨none, v.window + 1, (v.seq + 1) % 2 ^ 32, fifo, rec_, if inRange then 0 else v.open_ + 1⟩
      let s1 := ((s.draw.setCv c v1).setRegF (.cv c) 0x44 3 1 (if ovr then 1 else 0)).irqBit (.cv c) 0
      let s2 := if full then (s1.satIncF (.cv c) 0x58 16 16).irqBit (.cv c) 1 else s1
      if bit cfg 10 then s2.routePush ⟨1, fld cfg 11 5, at_, at_⟩ else s2
  | none => s

/-- CONVERTER_FAULT: the excitation exceeds 40 mA, an input was out of range for 8 samples in a row, or VANA is outside its
window (R467). -/
def State.cvFault (s : State) (c : Nat) (exc : Bool) : State :=
  let open_ := 8 ≤ (s.cv c).open_
  if c < s.fuses.cells && (exc || open_ || bit (s.reg .bwMon 0x4C) 7) then
    let s1 := if open_ then s.setRegF (.cv c) 0x44 2 1 1 else s
    let s2 := if exc then s1.setRegF (.cv c) 0x44 1 1 0 else s1
    (s2.raiseFault 0x3C (Page.base (.cv c))).irqBit (.cv c) 3
  else s

/-- Pop the oldest sample: what CV_DATA, CV_SEQ and CV_INST then read (R466).
Marked DEDUCED and unsafe (notes/assumptions/18.md). -/
def State.cvPop (s : State) (c : Nat) : List Word × State :=
  match (s.cv c).fifo with
  | x :: xs =>
    ([wordOf (uns 32 x.code), wordOf x.seq, wordOf x.inst, wordOf (x.inst / 2 ^ 32)], s.setCv c { s.cv c with fifo := xs })
  | [] => ([0, 0, 0, 0], s)

/-- CV_STAT as it reads (R468): EXC_OK while the excitation is on and no fault was seen. -/
def State.cvStat (s : State) (c : Nat) : Word :=
  let v := s.cv c
  let exc := fld (s.cvCfg c) 7 2 ≠ 0 && s.enabled (.cv c)
  let busy := s.cvRuns c && (bit (s.cvCfg c) 6 || (v.start.any fun t => t ≤ s.now))
  wordOf ((if busy then 1 else 0) + (if exc && bit (s.reg (.cv c) 0x44) 1 then 2 else 0) + s.regF (.cv c) 0x44 2 2 * 4
    + v.fifo.length * 2 ^ 8)

/-- A converter page's own checks (R468). -/
def chkCv (s : State) (c : Nat) (w : Wr) : Chk :=
  { range := w.hits 0x40 && w.fld 0x40 7 2 = 3
    state := w.hits 0x40 && s.enabled (.cv c) }

/-- A converter page's effects: CV_CLR (R468). -/
def effCv (c : Nat) (w : Wr) (s : State) : State :=
  if w.hits 0x5C then
    let s1 := if bit (w.word 0x5C) 0 then s.setReg (.cv c) 0x58 0 else s
    if bit (w.word 0x5C) 1 then s1.setCv c { s1.cv c with fifo := [] } else s1
  else s

/-- A converter is enabled: SEQ counts from 0, the first continuous window is the first that begins at or after now, and its
excitation is within limits until a fault is seen (R465, R468); or disabled: the conversion that runs is lost. -/
def State.cvEnable (s : State) (c : Nat) (on : Bool) : State :=
  let v := s.cv c
  if on then
    ((s.setCv c { v with start := none, seq := 0, open_ := 0, window := (s.now + s.cvWindow c - 1) / s.cvWindow c }).setRegF (.cv c) 0x44 1 1 1).setRegF
      (.cv c) 0x44 2 1 0
  else s.setCv c { v with start := none }

/-- CONVERTER_START. -/
def execConverterStart (c : Nat) (s : State) : Host.Outcome State Fault Refusal := .next (s.cvStart c)
/-- CONVERSION_RESULT. -/
def execConversionResult (c : Nat) (vin : Int) (vexc : Nat) (inRange : Bool) (s : State) : Host.Outcome State Fault Refusal :=
  .next (s.cvResult c vin vexc inRange)
/-- CONVERTER_FAULT. -/
def execConverterFault (c : Nat) (exc : Bool) (s : State) : Host.Outcome State Fault Refusal :=
  .next (s.cvFault c exc)

end Sys2Proof.Machine
end

