-- ==== Sys2Proof/Machine/Swell.lean ====
section
/-! DEFINITION. The Swell engines' pages (R345, R360, R363–R365): starting, stopping, stepping, waking and pairing engines.
What a bundle does is in SwellRun.lean. -/
namespace Sys2Proof.Machine

/-- An engine as its resets leave it (R345).
Marked DESIGN CHOICE and unsafe (notes/assumptions/11.md). -/
def swellFresh : Swell :=
  ⟨[], 1, 0, 0, 0, 0, [], [], [], 0, 0, 0, false, [], [], 0, none, false, false, none⟩

/-- The engine e. -/
def State.sw (s : State) (e : Nat) : Swell := tabGet swellFresh s.swell e

/-- The state with an engine replaced. -/
def State.setSw (s : State) (e : Nat) (x : Swell) : State := { s with swell := tabSet swellFresh s.swell e x }

/-- Program memory of an engine (R34). -/
def swProg (e : Nat) : Nat := 0x30000000 + e * 0x100000
/-- Data memory of an engine. -/
def swData (e : Nat) : Nat := swProg e + 0x20000

/-- STATE of an engine: 0 STOPPED, 1 RUNNING, 2 WAITING, 3 HALTED, 4 CHECKER (R365). -/
def State.swState (s : State) (e : Nat) : Nat := s.regF (.swell e) 0x48 0 3

/-- The engine is running or waiting. -/
def State.swBusy (s : State) (e : Nat) : Bool := s.swState e == 1 || s.swState e == 2

/-- The engine is stopped or halted. -/
def State.swIdle (s : State) (e : Nat) : Bool := s.swState e == 0 || s.swState e == 3

/-- SW_CFG.PAIR of the pair that an engine lies in. -/
def State.swPaired (s : State) (e : Nat) : Bool := bit (s.reg (.swell (e - e % 2)) 0x44) 17

/-- The odd engine of a checked pair (R363). -/
def State.swChecker (s : State) (e : Nat) : Bool := e % 2 == 1 && s.swPaired e

/-- The copy of R363 is in progress. -/
def State.swCopying (s : State) (e : Nat) : Bool := bit (s.reg (.swell (e - e % 2)) 0x6C) 1

/-- PC of an engine. -/
def State.swPc (s : State) (e : Nat) : Nat := s.regF (.swell e) 0x48 16 14

/-- Set PC. -/
def State.setSwPc (s : State) (e pc : Nat) : State := s.setRegF (.swell e) 0x48 16 14 pc

/-- The odd engine of a checked pair holds what the even engine holds (R364).
Marked DEDUCED and unsafe (notes/assumptions/84.md). -/
def State.swMirror (s : State) (e : Nat) : State :=
  if e % 2 = 0 && s.swPaired e && !s.swCopying e then
    ((s.setSw (e + 1) (s.sw e)).setReg (.swell (e + 1)) 0x48 (s.reg (.swell e) 0x48)).setRegF (.swell (e + 1)) 0x48 0 3 4
  else s

/-- What an engine's page takes from its running is taken by both engines of a checked pair (R364).
Marked DEDUCED and unsafe (notes/assumptions/84.md). -/
def State.swEach (s : State) (e : Nat) (f : State → Nat → State) : State :=
  if e % 2 = 0 && s.swPaired e then f (f s e) (e + 1) else f s e

/-- Enter a STATE with a cause. -/
def State.swEnter (s : State) (e st cause : Nat) : State :=
  (s.setRegF (.swell e) 0x48 0 3 st).setRegF (.swell e) 0x48 8 8 cause

/-- One more bundle executed, by the engine and the odd engine of its pair. -/
def State.swCount (s : State) (e : Nat) : State :=
  s.swEach e fun s e => s.setReg64 (.swell e) 0x54 (inst64 (s.reg64 (.swell e) 0x54 + 1))

/-- The engine starts at an address.
Marked DEDUCED and unsafe (notes/assumptions/84.md). -/
def State.swStart (s : State) (e pc : Nat) (step : Bool) : State :=
  let s := (s.setRegF (.swell e) 0x48 0 3 1).setSwPc e pc
  (s.setSw e { s.sw e with step := step, haltOwed := false }).swMirror e

/-- STOP: the engine stops at the next bundle boundary; bundles are whole, so at once (R365).
Marked DEDUCED and unsafe (notes/assumptions/84.md). -/
def State.swStop (s : State) (e : Nat) : State :=
  if s.swBusy e then ((s.swEnter e 0 1).setSw e { s.sw e with step := false }).swMirror e else s

/-- Write the value of a load to its register. -/
def Swell.setG (x : Swell) (r : Nat) (v : Word) : Swell := if r = 0 then x else { x with g := tabSet 0 x.g r v }

/-- The loads that have completed are written; those under way are written when their responses come (R359).
Marked DESIGN CHOICE and unsafe (notes/assumptions/88.md). -/
def Swell.settle (x : Swell) : Swell :=
  let y := (x.loads.filter fun l => l.acc.isNone).foldl (fun y l => y.setG l.reg l.val) x
  { y with loads := (x.loads.filter fun l => l.acc.isSome).map fun l => { l with left := 0 } }

/-- An engine halts with a cause (R357–R359, R365): its loads are written, its IRQ bit set, and for a cause of 0x10 or above
its fault source raised: SWELL_HALT, or SWELL_PAIR for cause 0x19. -/
def State.swHalt (s : State) (e cause : Nat) : State :=
  let s := s.setSw e { (s.sw e).settle with step := false, haltOwed := false }
  let s := (s.swEnter e 3 cause).swEach e fun s e => s.setReg (.swell e) 0x4C 0
  let s := if cause = 2 then s.irqBit (.swell e) 1
    else (s.irqBit (.swell e) 0).raiseFault (if cause = 0x19 then 0x0F else 0x0E) (Page.base (.swell e))
  s.swMirror e

/-- WAIT has completed: the engine runs on, or a STEP ends (R360, R365). -/
def State.swWaitDone (s : State) (e : Nat) : State :=
  let s := s.swCount e
  let x := s.sw e
  if x.step then ((s.setSw e { x with step := false }).swEnter e 0 1).swMirror e
  else (s.setRegF (.swell e) 0x48 0 3 1).swMirror e

/-- The engine is present and its domain on. -/
def State.swOn (s : State) (e : Nat) : Bool := decide (e < s.fuses.swells) && s.pageRuns (.swell e)

/-- A wake reaches an engine (R360): a waiting engine goes on, else the flag is set, and a wake that finds it set counts in
WAKE_OVR. The odd engine of a pair takes its wakes with the even one. -/
def State.swWake (s : State) (e : Nat) : State :=
  if s.swChecker e || !s.swOn e then s
  else if s.swState e = 2 then s.swWaitDone e
  else if (s.sw e).wake then s.swEach e fun s e => s.satInc (.swell e) 0x60
  else (s.setSw e { s.sw e with wake := true }).swMirror e

/-- An engine's reset of R345: its registers, not its memories. -/
def State.swReset (s : State) (e : Nat) : State := s.setSw e swellFresh

/-- What a Swell page's chapter checks of a write (R363, R365).
Marked DEDUCED and unsafe (notes/assumptions/84.md). -/
def chkSwell (s : State) (e : Nat) (w : Wr) : Chk :=
  let ctl := w.hits 0x40
  let c := w.fld 0x40 0 5
  let one := c = 0 || c = 1 || c = 2 || c = 4 || c = 8 || c = 16
  let start := bit (w.word 0x40) 0 || bit (w.word 0x40) 4
  let step := bit (w.word 0x40) 2
  let cfg := w.hits 0x44
  let pair := w.fld 0x44 17 1 = 1
  let was := bit (s.reg (.swell e) 0x44) 17
  let idle := s.swIdle e && (e % 2 = 1 || was || s.swIdle (e + 1))
  { range := (ctl && !one) || (cfg && pair && e % 2 = 1)
    state :=
      (s.swChecker e && decide (0x40 ≤ w.off))
      || (ctl && start && (!s.enabled (.swell e) || !s.swIdle e || s.swCopying e))
      || (ctl && step && (s.swState e != 0 || s.swCopying e))
      || ((cfg || w.offs.any fun o => decide (0x80 ≤ o)) && s.swBusy e)
      || (cfg && pair != was && !idle)
      || (cfg && pair && !was && s.fab.softBusy.contains (Page.base (.swell (e + 1)))) }

/-- What a Swell page's write does beyond storing it (R363, R365); `s0` is the state before it.
Marked DEDUCED and unsafe (notes/assumptions/84.md). -/
def effSwell (s0 : State) (e : Nat) (w : Wr) (s : State) : State :=
  if w.hits 0x40 then
    let c := w.fld 0x40 0 5
    let s := s.setReg (.swell e) 0x40 0
    let s := if c = 1 then s.swStart e (s.regF (.swell e) 0x44 0 14) false
      else if c = 2 then s.swStop e
      else if c = 4 then s.swStart e (s.swPc e) true
      else if c = 8 then s.swWake e
      else if c = 16 then s.swStart e (s.swPc e) false
      else s
    s
  else if w.hits 0x44 && e % 2 = 0 then
    let was := bit (s0.reg (.swell e) 0x44) 17
    let now := bit (s.reg (.swell e) 0x44) 17
    if now && !was then
      -- the copy of R363 begins; PAIR_COPY_DONE ends it
      (s.setReg (.swell e) 0x6C 0x2).setRegF (.swell (e + 1)) 0x48 0 3 4
    else if was && !now then
      (s.setReg (.swell e) 0x6C 0).setReg (.swell (e + 1)) 0x48 (s.reg (.swell e) 0x48)
    else s
  else if w.hits 0x68 then
    let s := s.setReg (.swell e) 0x68 0
    let s := if bit (w.word 0x68) 0 then s.swEach e fun s e => s.setReg (.swell e) 0x50 0 else s
    if bit (w.word 0x68) 1 then
      s.swEach e fun s e =>
        (((s.setReg (.swell e) 0x54 0).setReg (.swell e) 0x58 0).setReg (.swell e) 0x5C 0).setReg (.swell e) 0x60 0
    else s
  else s

/-- The even engine's memories and state copied into the odd engine (R363). -/
def State.pairCopyDone (s : State) (k : Nat) : State :=
  let e := 2 * k
  if e + 1 < s.fuses.swells && s.swPaired e && s.swCopying e then
    let cells := s.mem.filter fun c => swProg e ≤ c.1 && c.1 < swProg (e + 1)
    let s := s.clearMem (swProg (e + 1)) (swProg (e + 2))
    let s := cells.foldl (fun s c => { s with mem := writeByte s.mem (c.1 + 0x100000) c.2 }) s
    (s.setReg (.swell e) 0x6C 0x1).swMirror e
  else s

/-- PAIR_COPY_DONE: the copy that a write of PAIR began ends (R363). -/
def execPairCopyDone (k : Nat) (s : State) : Host.Outcome State Fault Refusal := .next (s.pairCopyDone k)

/-- WAIT_WAKE: a wake reaches an engine that waits (R360). -/
def execWaitWake (e : Nat) (s : State) : Host.Outcome State Fault Refusal :=
  .next (if s.swState e = 2 then s.swWake e else s)

/-- ROUTE_SWELL_WAKE: a matrix route wakes its engine at the start of the next engine cycle (R449). -/
def execRouteSwellWake (e : Nat) (s : State) : Host.Outcome State Fault Refusal :=
  .next (match s.routeTake 6 e with
    | some (_, s1) => s1.swWake e
    | none => s)

end Sys2Proof.Machine
end

