-- ==== Sys2Proof/Machine/Tidemark.lean ====
section
/-! DEFINITION. Tidemark (R262–R298): the legal count, strobes and samples, the legal-error state, parameters and proposals,
audit log, totalizer, rolls and tickets, commits and boot, and the field die's mirror, windows and page. -/
namespace Sys2Proof.Machine

/-- The state with Tidemark replaced. -/
def State.setTm (s : State) (t : Tidemark) : State := { s with tm := t }

/-- The field–Tidemark link is up (R298). -/
def State.tmUp (s : State) : Bool := s.regF .tml 0x40 0 1 = 1

/-- A mirror word (R296). -/
def mirAddr (off : Nat) : Nat := 0x60000000 + off
/-- A proposal-window word (R297). -/
def propAddr (off : Nat) : Nat := 0x60030000 + off

/-- Two words of a 64-bit value at an address. -/
def State.wr64 (s : State) (a v : Nat) : State := (s.wr a (wordOf v)).wr (a + 4) (wordOf (v / 2 ^ 32))

/-- A transfer leaves Tidemark while the link is up (R264); otherwise it is lost. -/
def State.tmSend (s : State) (x : TmXfer) : State :=
  if s.tmUp then s.setTm { s.tm with out := s.tm.out ++ [x] } else s

/-! ### Parameters (R277) -/

/-- A legal parameter as applied. -/
def TmNv.param (n : TmNv) (i : Nat) : Nat := (tabGet 0 n.params i).toNat
/-- PARAM_SET. -/
def TmNv.paramSet (n : TmNv) : Nat := (n.params.map fun e => 2 ^ e.1).foldl (· + ·) 0
/-- A parameter that counting uses. -/
def Tidemark.par (t : Tidemark) (i : Nat) : Nat := (tabGet 0 t.live i).toNat
/-- A bit of OPTIONS that counting uses. -/
def Tidemark.option (t : Tidemark) (k : Nat) : Bool := bit (tabGet 0 t.live 5) k
/-- Every counting parameter has been applied. -/
def TmNv.countingSet (n : TmNv) : Bool := [1, 2, 3, 4, 5].all fun i => (tabGet? n.params i).isSome

/-- A parameter's range (R277). -/
def paramOk (id v : Nat) : Bool :=
  match id with
  | 1 | 2 => 50000000 ≤ v && v ≤ 4000000000
  | 3 | 4 => 4 ≤ v && v ≤ 4000000 && v % 4 = 0
  | 5 => v < 32
  | 6 => 1 ≤ v && v ≤ 1000
  | 7 => 1 ≤ v && v ≤ 50000
  | 8 => v ≤ 3
  | 9 => v < 16 && v % 4 < 2 && v / 4 = 0
  | _ => false

/-- Dw of a wheel's count (R268).
Marked DESIGN CHOICE and safe (notes/assumptions/63.md). -/
def Tidemark.dist (t : Tidemark) (w : Nat) (count : Int) : Int :=
  if t.par (3 + w) = 0 then Config.unsetDistance count
  else count * (t.par (1 + w) : Int) / (100 * t.par (3 + w) : Int)

/-- The legal coordinate L (R268). -/
def Tidemark.coord (t : Tidemark) : Int := t.base + t.dist 0 t.w0.count

/-! ### Records and commits (R283, R293) -/

/-- A number as packed BCD digits. -/
def bcd : Nat → Nat → Nat
  | 0, _ => 0
  | n + 1, v => v % 10 + 16 * bcd n (v / 10)

/-- Write an audit record (R283). -/
def State.audit (s : State) (kind id old new : Nat) : State :=
  let t := s.tm
  let n := t.nv
  let body := bytesLE 5 n.events ++ [(if n.sealed then 0x40 else 0), kind, id] ++ bytesLE 4 old ++ bytesLE 4 new
    ++ bytesLE 8 (t.last.getD 0) ++ bytesLE 4 n.nextRec
  let mac := (hmacSha256 n.key (body ++ n.prevMac)).take 4
  (s.setTm { t with nv := { n with
      audits := ((n.nextRec, body ++ mac) :: n.audits).take 4096, nextRec := (n.nextRec + 1) % 2 ^ 32, prevMac := mac } }).tmSend
    (.audit n.nextRec)

/-- Enter the legal-error state at its first cause (R272).
Marked DEDUCED and unsafe (notes/assumptions/66.md). -/
def State.legalErr (s : State) (cause : Nat) : State :=
  if s.tm.err then s
  else
    (s.setTm { s.tm with err := true, entered := true, cause := cause, nv := { s.tm.nv with errOwed := true } }).audit 6 0 cause 0

/-- An encoder sequence or Z count error of a channel (R266, R267, R272, R274). -/
def State.encErr (s : State) (cause : Nat) : State := (s.setTm { s.tm with errAgo := 0 }).legalErr cause

/-- Commit the counting state to the next checkpoint slot (R293).
Marked DEDUCED and unsafe (notes/assumptions/66.md). -/
def State.tmCommit (s : State) (final : Bool) : State :=
  let t := s.tm
  let c : TmCkpt := ⟨t.w0.count, t.w1.count, t.base, t.hw, t.total, t.roll, t.bound, t.closed, final,
    decide (s.fieldNow < t.lastCount + 800000000)⟩
  s.setTm { t with nv := { t.nv with ckpts := (c :: t.nv.ckpts).take 256 } }

/-! ### Counting (R266, R267) -/

/-- A wheel of Tidemark. -/
def Tidemark.wheel (t : Tidemark) (w : Nat) : TmWheel := if w = 0 then t.w0 else t.w1
/-- Tidemark with a wheel replaced. -/
def Tidemark.setWheel (t : Tidemark) (w : Nat) (x : TmWheel) : Tidemark := if w = 0 then { t with w0 := x } else { t with w1 := x }

/-- Counting runs: the tile runs, has not been stopped by a final commit, and reads the channel (R270, R293). -/
def Tidemark.counts (t : Tidemark) (w : Nat) : Bool := t.run && !t.stopped && (w = 0 || t.option 4)

/-- The A and B inputs of a channel take levels at an instant (R266). -/
def State.legalEdge (s : State) (w : Nat) (a b : Bool) (i : Nat) : State :=
  let t := s.tm
  let x := t.wheel w
  if !s.fuses.tidemark || !t.counts w || (x.a = a && x.b = b) then s
  else
    let da := x.a ≠ a
    let db := x.b ≠ b
    let near (o : Option Nat) : Bool := o.any fun j => i - j < 160
    let x1 := { x with lastA := if da then some i else x.lastA, lastB := if db then some i else x.lastB }
    if (da && db) || (da && near x.lastB) || (db && near x.lastA) then
      (s.setTm (t.setWheel w { x1 with a := a, b := b })).encErr (2 + w)
    else
      let d := (quadPhase a b - quadPhase x.a x.b) % 4
      let step : Int := if d = 1 then 1 else -1
      let step := if t.option w then -step else step
      let rev := x.dir ≠ 0 && x.dir ≠ step
      let t1 := t.setWheel w { x1 with a := a, b := b, count := sgn 64 (uns 64 (x.count + step)), dir := step,
                                       zRev := x.zRev || rev }
      let back := t1.coord < t.coord
      s.setTm { t1 with lastCount := i, rested := false,
                        roll := t1.roll.map fun r => { r with reverse := r.reverse || back } }

/-- A rising Z edge of a channel (R267). -/
def State.zEdge (s : State) (w : Nat) : State :=
  let t := s.tm
  let x := t.wheel w
  if !s.fuses.tidemark || !t.counts w then s
  else
    let s1 := s.setTm (t.setWheel w { x with zRef := some x.count, zRev := false })
    let wrong := match x.zRef with
      | some r => !x.zRev && (x.count - r).natAbs ≠ t.par (3 + w)
      | none => false
    if t.option (2 + w) && wrong then s1.encErr (4 + w) else s1

/-! ### The strobe (R265, R268–R270, R274, R284–R288) -/

/-- Parameters applied since take effect at this strobe; a change of a counting parameter sets BASE to L and both counts to 0
(R268, R279). -/
def Tidemark.applyParams (t : Tidemark) : Tidemark :=
  if t.live = t.nv.params then t
  else if [1, 2, 3, 4, 5].any fun i => tabGet? t.live i ≠ tabGet? t.nv.params i then
    let z (x : TmWheel) : TmWheel := { x with count := 0, zRef := none, zRev := false }
    { t with base := t.coord, w0 := z t.w0, w1 := z t.w1, win := none, live := t.nv.params }
  else { t with live := t.nv.params }

/-- HW and TOTAL after a coordinate is reached (R284–R286). -/
def State.totalize (s : State) (l : Int) : State :=
  let t := s.tm
  let h := l / 10000
  if h ≤ t.hw then s
  else
    let sum := t.total + (h - t.hw).toNat
    let s1 := s.setTm { t with hw := h, total := sum % 10 ^ 12 }
    if 10 ^ 12 ≤ sum then (s1.setTm { s1.tm with nv := { s1.tm.nv with rollover := true } }).audit 5 0 0 0 else s1

/-- SPEED (R269): over the latest 1,000 intervals, or those there are; its fraction is dropped toward zero.
Marked DEDUCED and unsafe (notes/assumptions/62.md). -/
def Tidemark.speed (t : Tidemark) : Int :=
  match t.hist, t.hist.reverse with
  | x :: _, o :: _ => if x.inst ≤ o.inst then 0 else Int.tdiv ((x.coord - o.coord) * (65536 * 8000)) (x.inst - o.inst : Nat)
  | _, _ => 0

/-- |SPEED| lies below MIN_SPEED (R269): 1 mm/s is 655.36 units of SPEED. -/
def Tidemark.slow (t : Tidemark) : Bool := t.speed.natAbs * 100 < t.par 7 * 65536

/-- The two-wheel window at a strobe (R270). -/
def State.slipWindow (s : State) : State :=
  let t := s.tm
  let d0 := t.dist 0 t.w0.count
  let d1 := t.dist 1 t.w1.count
  if !t.option 4 then s.setTm { t with win := none }
  else match t.win with
    | none => s.setTm { t with win := some (d0, d1, t.slow) }
    | some (a, b, slow) =>
      let sl := slow || t.slow
      let x := d0 - a
      let y := d1 - b
      if x.natAbs < 10000000 then s.setTm { t with win := some (a, b, sl) }
      else
        let bad := t.par 6 * x.natAbs < (x - y).natAbs * 10000
        let s1 := s.setTm { t with win := some (d0, d1, t.slow), slip := if sl then t.slip else bad }
        if !sl && bad then s1.legalErr 1 else s1

/-- A pending boundary is reached at a strobe (R287–R289).
Marked DEDUCED and unsafe (notes/assumptions/62.md). -/
def State.boundary (s : State) (i : Nat) : State :=
  let t := s.tm
  match t.bound with
  | none => s
  | some p =>
    if t.coord < p.b then s
    else
      let closes := p.mode ≠ 0
      let closed : List TmClosed := match t.roll with
        | some r => if closes then [⟨r, p.b, i, t.total, t.nv.events, !t.nv.sealed⟩] else []
        | none => []
      let id := if p.mode = 2 then (t.roll.map fun r => r.id).getD 0 else p.id
      let roll := if p.mode = 2 then none else some ⟨p.id, p.b, t.holdup, false, false, t.bypass⟩
      (s.setTm { t with bound := none, roll := roll, closed := t.closed ++ closed }).tmSend (.rollEvent p.b id p.mode i)

/-- STATUS of a sample (R274). -/
def Tidemark.status (t : Tidemark) : Nat :=
  let b (p : Bool) (k : Nat) : Nat := if p then 2 ^ k else 0
  b (!t.err && t.nv.countingSet && t.nv.sealed) 0 + b t.err 1 + b t.nv.sealed 2 + b t.bypass 4 + b t.roll.isSome 5
    + b t.bound.isSome 6 + b (t.slow && t.speed ≠ 0) 7 + b t.holdup 8 + b (t.speed < 0) 9 + b t.slip 10 + b (t.errAgo < 1000) 11

/-- Tidemark receives a strobe and latches one sample (R265).
Marked DEDUCED and unsafe (notes/assumptions/62.md). -/
def State.tmStrobe (s : State) (i : Nat) : State :=
  let t := s.tm
  let gap := match t.last with | some j => i ≤ j || (i - j) % 8000 ≠ 0 | none => true
  let t1 := { t with last := some i, errAgo := t.errAgo + 1, hist := if gap then [] else t.hist }.applyParams
  let s1 := (s.setTm t1).totalize t1.coord
  let s2 := s1.setTm { s1.tm with hist := (⟨i, t1.coord⟩ :: s1.tm.hist).take 1001 }
  let s3 := s2.slipWindow.boundary i
  let x := s3.tm
  s3.setTm { x with seq := (x.seq + 1) % 2 ^ 32, entered := false,
                    samples := x.samples ++ [⟨x.seq, i, x.coord, x.speed, x.status, x.entered⟩] }

/-- Strobes that stay without a sample count in SAMPLE_GAP (R298).
Marked DEDUCED and unsafe (notes/assumptions/65.md). -/
def State.sampleGap (s : State) (n : Nat) : State := if n = 0 then s else (s.satInc .tml 0x48 n).irqBit .tml 5

/-- TIDEMARK_STROBE (R26): the field die strobes at the latest whole-µs instant, if it has not yet. A strobe that does not reach
a running Tidemark stays without a sample (R264, R298).
Marked DEDUCED and unsafe (notes/assumptions/65.md). -/
def State.strobe (s : State) : State :=
  let i := s.fieldNow / 8000 * 8000
  if !s.fuses.tidemark || s.tm.strobe.any fun j => i ≤ j then s
  else
    let s1 := s.setTm { s.tm with strobe := some i }
    if s.tmUp && s.tm.run && !s.tm.stopped then s1.tmStrobe i else s1.sampleGap 1

/-! ### Proposals (R278–R282, R287, R288, R291) -/

/-- KIND of a proposal. -/
def TmProp.kindN (p : TmProp) : Nat := fld p.kind 0 3
/-- ID of a proposal. -/
def TmProp.id (p : TmProp) : Nat := fld p.kind 8 8
/-- MODE of a proposal. -/
def TmProp.mode (p : TmProp) : Nat := fld p.kind 16 2

/-- Step 1 of R278: reserved KIND, ID or MODE, or a reserved field that is not 0.
Marked DEDUCED and unsafe (notes/assumptions/61.md). -/
def TmProp.reserved (p : TmProp) : Bool :=
  fld p.kind 3 5 ≠ 0 || fld p.kind 18 14 ≠ 0 || p.kindN = 0 || 4 < p.kindN
    || (p.kindN = 1 && (p.id = 0 || 9 < p.id))
    || (p.kindN = 4 && 1 < p.mode)
    || (p.kindN ≠ 3 && (2 ^ 32 ≤ p.val || p.aux ≠ 0))

/-- The ROLL checks of R288 against the latest sample's coordinate. -/
def Tidemark.rollReason (t : Tidemark) (p : TmProp) : Reason :=
  let b := sgn 64 p.val
  let c := match t.hist with | x :: _ => x.coord | [] => t.coord
  let start := (t.roll.map fun r => r.start).getD b
  if !t.nv.countingSet then .badState
  else if p.mode = 3 then (if t.bound.isNone then .badState else .none)
  else if t.bound.isSome || (p.mode = 0 && t.roll.isSome) || (p.mode ≠ 0 && t.roll.isNone) then .badState
  else if b ≤ c || (p.mode ≠ 0 && (b ≤ start || 999999999999 < (b - start) / 10000)) then .proposalInvalid
  else .none

/-- The reason of a proposal's first failed check (R278).
Marked DEDUCED and unsafe (notes/assumptions/61.md). -/
def Tidemark.propReason (t : Tidemark) (p : TmProp) : Reason :=
  let k := p.kindN
  let legal := k = 1 || k = 2
  firstReason [
    (p.reserved, .proposalInvalid),
    (legal && 2 ^ 40 - 1 ≤ t.nv.events, .sealed),
    (legal && t.nv.sealed && (k = 2 || !t.bypass), .sealed),
    (k = 1 && !paramOk p.id (p.val % 2 ^ 32), .proposalInvalid),
    (k = 2 && t.nv.paramSet ≠ 0x3FE, .proposalInvalid),
    (k = 1 && p.id ≤ 5 && (t.roll.isSome || t.bound.isSome), .badState),
    (k = 3 && t.rollReason p ≠ .none, t.rollReason p)]

/-- Take the next proposal, if its KIND is one of those given, and answer it; an answer that the field die no longer awaits is
dropped there (R297).
Marked DEDUCED and unsafe (notes/assumptions/65.md). -/
def State.propEval (s : State) (kinds : Nat → Bool) (apply : State → TmProp → Word × State) : State :=
  match s.tm.props with
  | [] => s
  | p :: rest =>
    if !s.tm.run || s.tm.stopped || !kinds p.kindN then s
    else
      let s1 := s.setTm { s.tm with props := rest }
      let answer (t : State) (r : Reason) (v : Word) : State := if p.awaited then t.tmSend (.propDone r v) else t
      let r := s.tm.propReason p
      if r = .none then
        let (v, s2) := apply s1 p
        answer s2 .none v
      else answer s1 r 0

/-- EVENTS counts an applied PARAM or SEAL proposal (R279, R282). -/
def State.countEvent (s : State) : State :=
  s.setTm { s.tm with nv := { s.tm.nv with events := s.tm.nv.events + 1 },
                      roll := s.tm.roll.map fun r => { r with changed := true } }

/-- PROPOSAL_PARAM (R277–R279): also answers a proposal of a reserved KIND, which fails step 1. -/
def State.propParam (s : State) : State :=
  s.propEval (fun k => k ≤ 1 || 4 < k) fun t p =>
    let old := t.tm.nv.param p.id
    let t1 := t.countEvent
    let t2 := t1.setTm { t1.tm with nv := { t1.tm.nv with params := tabPut t1.tm.nv.params p.id (wordOf p.val) } }
    let t3 := (t2.audit 1 p.id old (p.val % 2 ^ 32)).tmCommit false
    (wordOf t3.tm.nv.events, t3)

/-- PROPOSAL_SEAL (R278–R280). -/
def State.propSeal (s : State) : State :=
  s.propEval (fun k => k = 2) fun t _ =>
    let t1 := t.countEvent
    let t2 := t1.setTm { t1.tm with nv := { t1.tm.nv with sealed := true } }
    let t3 := (t2.audit 2 0 0 0).tmCommit false
    (wordOf t3.tm.nv.events, t3)

/-- PROPOSAL_ROLL (R287, R288).
Marked DEDUCED and unsafe (notes/assumptions/66.md). -/
def State.propRoll (s : State) : State :=
  s.propEval (fun k => k = 3) fun t p =>
    (0, (t.setTm { t.tm with bound := if p.mode = 3 then none else some ⟨p.mode, sgn 64 p.val, p.aux⟩ }).tmCommit false)

/-- PROPOSAL_VERIFY (R291): changes nothing in Tidemark. -/
def State.propVerify (s : State) : State :=
  s.propEval (fun k => k = 4) fun t p =>
    let bs := p.data.flatMap fun w => bytesLE 4 w.toNat
    let key := t.tm.nv.key
    let ok := if p.mode = 0 then (bs.drop 56).take 8 == (hmacSha256 key (bs.take 56)).take 8
      else (bs.drop 28).take 4 == (hmacSha256 key (bs.take 28 ++ (bs.drop 32).take 4)).take 4
    (if ok then 1 else 0, t)

/-- BYPASS_CHANGE (R281): the debounced level of TM_SEAL_N. -/
def State.bypassChange (s : State) (on : Bool) : State :=
  if !s.fuses.tidemark || !s.tm.run || s.tm.bypass = on then s
  else
    (s.setTm { s.tm with bypass := on, roll := s.tm.roll.map fun r => { r with bypass := r.bypass || on } }).audit
      (if on then 3 else 4) 0 0 0

/-! ### Tickets (R273, R285, R290, R292) -/

/-- A ticket's length in mm (R292). -/
def ticketLength (span : Int) (resolution round : Nat) : Nat :=
  let r := 10 ^ resolution
  ((if round = 1 then (span + 5000 * r) / (10000 * r) else span / (10000 * r)) * r).toNat

/-- The bytes of a ticket (R292). -/
def ticketBytes (t : Tidemark) (fwCrc : Word) (c : TmClosed) : List Nat :=
  let n := t.nv
  let fmt := t.par 9
  let b (p : Bool) (k : Nat) : Nat := if p then 2 ^ k else 0
  let flags := b (t.err || n.errOwed) 0 + b n.rollover 1 + b c.roll.powerLoss 2 + b c.roll.changed 3 + b c.roll.reverse 4
    + b c.roll.bypass 5 + b c.unsealed 6
  let body := bytesLE 4 c.roll.id.toNat ++ bytesLE 4 n.nextTicket ++ bytesLE 8 (uns 64 c.roll.start) ++ bytesLE 8 (uns 64 c.end_)
    ++ bytesLE 8 c.inst ++ bytesLE 2 flags ++ bytesLE 6 (bcd 12 c.total)
    ++ bytesLE 6 (bcd 12 (ticketLength (c.end_ - c.roll.start) (t.par 8) (fmt % 4)))
    ++ [t.par 8 * 16 + fmt / 4 % 4 * 4 + fmt % 4] ++ bytesLE 5 c.events ++ bytesLE 4 fwCrc.toNat
  body ++ (hmacSha256 n.key body).take 8

/-- TICKET_ISSUE (R273, R285, R289, R292): the oldest closed roll's ticket; the legal-error state ends, and is entered again
at once while CLOCK or FIRMWARE is active. -/
def State.ticketIssue (s : State) : State :=
  let t := s.tm
  match t.closed with
  | [] => s
  | c :: rest =>
    if !t.run then s
    else
      let n := t.nv
      let tk := ticketBytes t s.fuses.tmFwCrc c
      let s1 := s.setTm { t with closed := rest, err := false, nv := { n with
          tickets := ((n.nextTicket, tk) :: n.tickets).take 256, nextTicket := (n.nextTicket + 1) % 2 ^ 32, rollover := false,
          errOwed := false } }
      let s2 := (s1.tmSend (.ticket n.nextTicket)).tmCommit false
      if t.err && t.clockBad then s2.legalErr 6 else if t.err && t.fwBad then s2.legalErr 9 else s2

/-! ### Power and boot (R293–R295) -/

/-- An idle wheel. -/
def wheelIdle : TmWheel := ⟨0, false, false, none, none, none, false, 0⟩

/-- Tidemark before a boot, with what outlives it: its non-volatile memory, BYPASS, and the field die's side. -/
def Tidemark.halted (t : Tidemark) : Tidemark :=
  ⟨false, false, t.holdup, t.bypass, t.nv, [], { wheelIdle with a := t.w0.a, b := t.w0.b }, { wheelIdle with a := t.w1.a, b := t.w1.b },
    0, 0, 0, none, none, [], [], none, 0, none, false, 1000, false, 0, t.clockBad, false, 0, false, t.wdRestart, false, t.samples, [], t.props,
    t.strobe, t.mirT, t.mirA, t.goneT, t.goneA⟩

/-- HOLDUP_ENTRY (R293). -/
def State.tmHoldup (s : State) : State :=
  s.setTm { s.tm with holdup := true, roll := s.tm.roll.map fun r => { r with powerLoss := true } }

/-- REST_COMMIT (R293): in hold-up, 100 ms without a count on either channel, once for each rest. -/
def State.restCommit (s : State) : State :=
  let t := s.tm
  if t.run && t.holdup && !t.stopped && !t.rested && t.lastCount + 800000000 ≤ s.fieldNow then
    (s.tmCommit false).setTm { (s.tmCommit false).tm with rested := true }
  else s

/-- FINAL_COMMIT (R293): the supply has fallen to the commit threshold; counting stops. -/
def State.finalCommit (s : State) : State :=
  if s.tm.run && s.tm.holdup && !s.tm.stopped then (s.tmCommit true).setTm { (s.tmCommit true).tm with stopped := true } else s

/-- CHECKPOINT (R293). -/
def State.checkpoint (s : State) : State := if s.tm.run && !s.tm.stopped then s.tmCommit false else s

/-- TIDEMARK_BOOT (R290, R293–R295): the first boot generates the key; every other restores the newest valid checkpoint, of
which `bad` newer ones failed their CRC. `fwOk`: the OTP image matches its check value.
Marked DESIGN CHOICE and safe (notes/assumptions/64.md). -/
def State.tmBoot (s : State) (bad : Nat) (fwOk : Bool) : State :=
  if !s.fuses.tidemark || s.tm.run then s
  else
    let t0 := s.tm.halted
    let t := { t0 with run := true, fwBad := !fwOk, wdRestart := false }
    let up := fun (u : State) => u.setRegF .tml 0x40 2 1 1
    if t.nv.key.isEmpty then
      let key := (List.range 8).flatMap fun i => bytesLE 4 (Config.entropy s.free i).toNat
      let s1 := (up (s.draw.setTm { t with nv := { t.nv with key := key } })).audit 8 0 0 0
      if fwOk then s1 else s1.legalErr 9
    else
      let c := (t.nv.ckpts.drop bad).headD ⟨0, 0, 0, 0, 0, none, none, [], false, false⟩
      let power := 0 < bad || (c.final && c.moving)
      let t1 := { t with
        nv := { t.nv with ckpts := t.nv.ckpts.drop bad }, live := t.nv.params, w0 := { t.w0 with count := c.count0 },
        w1 := { t.w1 with count := c.count1 }, base := c.base, hw := c.hw, total := c.total,
        roll := c.roll.map fun r => { r with powerLoss := true }, bound := c.bound, closed := c.closed }
      let s1 := (up (s.setTm t1)).audit 7 0 (if power then 7 else 0) 0
      let s2 := if s.tm.wdRestart then s1.legalErr 8 else s1
      let s3 := if power then s2.legalErr 7 else s2
      if fwOk then s3 else s3.legalErr 9

/-- Tidemark stops without a further commit: its supply or brown-out, or its watchdog (R264, R294). -/
def State.tmStop (s : State) (watchdog : Bool) : State :=
  (s.setTm { s.tm.halted with wdRestart := watchdog }).setRegF .tml 0x40 2 1 0

/-- TIDEMARK_WATCHDOG_EXPIRY (R272, R294, R457). -/
def State.tmWatchdog (s : State) : State := if s.tm.run then s.tmStop true else s

/-- TIDEMARK_CLOCK_FAULT (R272): the clock monitor finds its clocks out of tolerance, or back within it. -/
def State.tmClock (s : State) (bad : Bool) : State :=
  if !s.tm.run then s
  else
    let s1 := s.setTm { s.tm with clockBad := bad }
    if bad then s1.legalErr 6 else s1

/-! ### The field die's mirror (R263, R264, R274–R276, R296) -/

/-- The tickets, or records, that Tidemark issued and a whole mirror would hold. -/
def latestOf (next size : Nat) : List Nat :=
  (List.range (min size next)).map fun i => next - 1 - i

/-- MIRROR_OK follows from what the mirror holds or knows gone (R264). -/
def State.mirrorCheck (s : State) : State :=
  let t := s.tm
  let ok := (latestOf t.nv.nextTicket 256).all (fun n => t.mirT.contains n || t.goneT.contains n)
    && (latestOf t.nv.nextRec 4096).all fun n => t.mirA.contains n || t.goneA.contains n
  if s.tmUp && ok then s.setRegF .tml 0x40 1 1 1 else s

/-- A slot of the mirror: its address and size in bytes. -/
def mirSlot (isTicket : Bool) (n : Nat) : Nat × Nat :=
  if isTicket then (mirAddr (0x1000 + n % 256 * 64), 64) else (mirAddr (0x10000 + n % 4096 * 32), 32)

/-- Store words of bytes at an address. -/
def State.storeBytes (s : State) (a : Nat) (bs : List Nat) : State :=
  (List.range (bs.length / 4)).foldl (fun t i => t.wr (a + 4 * i) (wordOf (ofBytesLE ((bs.drop (4 * i)).take 4)))) s

/-- Slots whose item is not among the latest read 0 until they are filled (R264).
Marked DEDUCED and unsafe (notes/assumptions/65.md). -/
def State.mirrorStale (s : State) (all : Bool) : State :=
  let t := s.tm
  let old (isTicket : Bool) (ns : List Nat) (next size : Nat) : List (Nat × Nat) :=
    (ns.filter fun n => all || next ≤ n || n + size < next).map fun n => mirSlot isTicket n
  let gone := old true t.mirT t.nv.nextTicket 256 ++ old false t.mirA t.nv.nextRec 4096
  let s1 := gone.foldl (fun u x => u.clearRegs x.1 (x.1 + x.2)) s
  let keep (ns : List Nat) (next size : Nat) : List Nat := ns.filter fun n => !all && n < next && next ≤ n + size
  s1.setTm { t with mirT := keep t.mirT t.nv.nextTicket 256, mirA := keep t.mirA t.nv.nextRec 4096, goneT := [], goneA := [] }

/-- TM_LINK_UP (R264, R297). -/
def State.linkUp (s : State) : State :=
  if !s.fuses.tidemark || s.tmUp then s
  else ((s.setRegF .tml 0x40 0 2 1).mirrorStale false).wr (propAddr 0x100) (setFld (s.rd (propAddr 0x100)) 16 16 0) |>.mirrorCheck

/-- TM_LINK_DOWN (R22, R264, R297): a busy proposal ends with INTERNAL; the samples on
their way are lost. -/
def State.linkDown (s : State) : State :=
  if !s.tmUp then s
  else
    let s1 := ((s.setRegF .tml 0x40 0 2 0).irqBit .tml 6).raiseFault 0x1C
    let s2 := (s1.sampleGap s.tm.samples.length).setTm { s1.tm with
      samples := [], out := [], props := s1.tm.props.map fun p => { p with awaited := false } }
    if bit (s.rd (propAddr 0x100)) 8 then
      s2.wr (propAddr 0x100) (setFld (setFld (s.rd (propAddr 0x100)) 0 8 Reason.internal.code) 8 1 0)
    else s2

/-- A transfer that fails its CRC or sequence check is discarded and counted (R22, R262, R298). -/
def State.tmDiscard (s : State) : State := (s.satInc .tml 0x44).raiseFault 0x1C

/-- TIDEMARK_SAMPLE (R274): the oldest sample on its way becomes the broadcast and a sample of source 0x1000. -/
def State.sampleArrive (s : State) (ok : Bool) : State :=
  match s.tm.samples with
  | [] => s
  | x :: rest =>
    let s0 := s.setTm { s.tm with samples := rest }
    if !ok then s0.tmDiscard.sampleGap 1
    else
      let was := s.rd (mirAddr 0x18)
      let s1 := s0.setSrc 0x1000 ⟨x.inst, x.pos⟩
      let s2 := (((s1.wr64 (mirAddr 0) (uns 64 x.pos)).wr (mirAddr 8) (wordOf (uns 32 x.speed))).wr (mirAddr 12) (wordOf x.seq)).wr64
        (mirAddr 0x10) x.inst
      let s3 := s2.wr (mirAddr 0x18) (wordOf x.status)
      if x.entered || bit (wordOf x.status) 1 && !bit was 1 then s3.irqBit .tml 2 else s3

/-- STATUS_TRANSFER (R262, R296). -/
def State.statusArrive (s : State) (ok : Bool) : State :=
  if !s.tmUp || !s.tm.run then s
  else if !ok then s.tmDiscard
  else
    let t := s.tm
    let n := t.nv
    let b (p : Bool) (k : Nat) : Nat := if p then 2 ^ k else 0
    let state := b t.roll.isSome 0 + b t.bound.isSome 1 + ((t.bound.map fun p => p.mode).getD 0) * 4 + t.cause * 16
      + b n.sealed 8 + b t.bypass 10
    let flip := bit (s.rd (mirAddr 0x3C)) 10 ≠ t.bypass
    let s1 := ((s.wr64 (mirAddr 0x20) (bcd 12 t.total)).wr64 (mirAddr 0x28) n.events).wr (mirAddr 0x30) (wordOf s.fuses.tmFwVer)
    let s2 := ((s1.wr (mirAddr 0x34) s.fuses.tmFwCrc).wr (mirAddr 0x38) ((t.roll.map fun r => r.id).getD 0)).wr (mirAddr 0x3C)
      (wordOf state)
    let s3 := (s2.wr64 (mirAddr 0x40) (uns 64 ((t.roll.map fun r => r.start).getD 0))).wr64 (mirAddr 0x48)
      (uns 64 ((t.bound.map fun p => p.b).getD 0))
    let s4 := (List.range 9).foldl (fun u i => u.wr (mirAddr (0x60 + 4 * i)) (wordOf (n.param (i + 1)))) s3
    let s5 := ((s4.wr (mirAddr 0x84) (wordOf n.paramSet)).wr (mirAddr 0x88) (wordOf n.nextTicket)).wr (mirAddr 0x8C)
      (wordOf n.nextRec)
    if flip then s5.irqBit .tml 7 else s5

/-- Take the first transfer of a kind off the link, and act on it; one that fails its check is discarded. -/
def State.takeXfer (s : State) (ok : Bool) (is : TmXfer → Bool) (act : State → TmXfer → State) : State :=
  match s.tm.out.find? is with
  | none => s
  | some x =>
    let s1 := s.setTm { s.tm with out := s.tm.out.erase x }
    if ok then act s1 x else s1.tmDiscard

/-- TICKET_TRANSFER (R262, R264, R296). -/
def State.ticketArrive (s : State) (ok : Bool) : State :=
  s.takeXfer ok (fun x => match x with | .ticket _ => true | _ => false) fun u x =>
    match x with
    | .ticket n =>
      match u.tm.nv.tickets.find? fun e => e.1 = n with
      | some (_, bs) =>
        let u1 := u.storeBytes (mirSlot true n).1 bs
        ((u1.setTm { u1.tm with mirT := n :: u1.tm.mirT.filter fun k => k % 256 ≠ n % 256 }).irqBit .tml 0).mirrorCheck
      | none => u
    | _ => u

/-- AUDIT_TRANSFER (R262, R264, R283, R296). -/
def State.auditArrive (s : State) (ok : Bool) : State :=
  s.takeXfer ok (fun x => match x with | .audit _ => true | _ => false) fun u x =>
    match x with
    | .audit n =>
      match u.tm.nv.audits.find? fun e => e.1 = n with
      | some (_, bs) =>
        let u1 := u.storeBytes (mirSlot false n).1 bs
        ((u1.setTm { u1.tm with mirA := n :: u1.tm.mirA.filter fun k => k % 4096 ≠ n % 4096 }).irqBit .tml 3).mirrorCheck
      | none => u
    | _ => u

/-- GONE_TRANSFER (R264). -/
def State.goneArrive (s : State) (ok : Bool) : State :=
  s.takeXfer ok (fun x => match x with | .gone _ _ => true | _ => false) fun u x =>
    match x with
    | .gone isTicket n =>
      let t := u.tm
      let u1 := if isTicket then u.setTm { t with goneT := n :: t.goneT } else u.setTm { t with goneA := n :: t.goneA }
      (u1.satInc .tml 0x58).mirrorCheck
    | _ => u

/-- PROP_DONE (R297). -/
def State.propArrive (s : State) (ok : Bool) : State :=
  s.takeXfer ok (fun x => match x with | .propDone _ _ => true | _ => false) fun u x =>
    match x with
    | .propDone r v =>
      let w := u.rd (propAddr 0x100)
      ((u.wr (propAddr 0x100) (setFld (setFld w 0 8 r.code) 8 2 2)).wr (propAddr 0x104) v).irqBit .tml 4
    | _ => u

/-- READ_REQ (R262, R264): Tidemark answers for each index with the item or GONE. -/
def State.readReq (s : State) (tickets : Bool) (first last : Nat) : State :=
  if !s.tmUp || !s.tm.run then s
  else
    let n := min ((last + 2 ^ 32 - first) % 2 ^ 32 + 1) 4096
    let held := if tickets then s.tm.nv.tickets else s.tm.nv.audits
    let answer (i : Nat) : TmXfer :=
      let k := (first + i) % 2 ^ 32
      if held.any fun e => e.1 = k then (if tickets then .ticket k else .audit k) else .gone tickets k
    s.setTm { s.tm with out := s.tm.out ++ (List.range n).map answer }

/-- ROLL_EVENT reaches the field die (R162, R289): with ROLL_CFG.EN, a context opens and a record is written. -/
def State.rollEventArrive (s : State) (ok : Bool) : State :=
  s.takeXfer ok (fun x => match x with | .rollEvent _ _ _ _ => true | _ => false) fun u x =>
    match x with
    | .rollEvent b id _ _ =>
      let u1 := u.irqBit .tml 1
      let cfg := u.reg .trk 0x74
      if !bit cfg 0 then u1
      else
        let cls := fld cfg 24 8
        let (slot, u2) := u1.rmRoom cls
        let (ctx, u3) := u2.openFor ⟨2, uns 64 b, 0x1000, fld cfg 8 8, cls, fld cfg 16 8, 0, 0x7FFFFFFF, none, slot, 0x31⟩ none
        let src := u.slotOf 0x1000
        let flags := (src.getD 0) * 2 ^ 12 + 0x20 + (if src.isNone then 0x10 else 0) + (if ctx.isSome then 0x800 else 0)
        match slot with
        | none => u3
        | some _ => u3.rmPut ⟨uns 64 b, 0, id, 0, 0, cls, 0, flags, 0xFFFF, ctx.getD 0xFFFF⟩
    | _ => u

/-! ### The proposal window and the page (R297, R298) -/

/-- The writable words of the proposal window. -/
def propRw (off : Nat) : Bool :=
  off = 0 || off = 8 || off = 12 || off = 16 || (0x40 ≤ off && off < 0x80) || off = 0xF0
/-- The decoded words of the proposal window. -/
def propListed (off : Nat) : Bool := propRw off || off = 0x100 || off = 0x104

/-- The checks of a write to the proposal window, from the READ_ONLY check on. -/
def chkProp (s : State) (ws : List (Nat × Word)) : List (Bool × Reason) :=
  [(ws.any fun e => e.1 = 0x100 || e.1 = 0x104, .readOnly),
   (ws.any fun e => e.1 = 0xF0 && e.2 &&& 0xFFFFFFFE ≠ 0, .rsvdBits),
   (bit (s.rd (propAddr 0x100)) 8, .badState)]

/-- PROP_SUBMIT = 1 (R262, R297): the staged words go to Tidemark and BUSY is set; with the link down the proposal cannot be
sent and ends with INTERNAL.
Marked DEDUCED and unsafe (notes/assumptions/65.md). -/
def State.propSubmit (s : State) : State :=
  let w := s.rd (propAddr 0x100)
  let n := (fld w 16 16 + 1) % 2 ^ 16
  if s.tmUp then
    let p : TmProp := ⟨s.rd (propAddr 0), (s.rd (propAddr 8)).toNat + 2 ^ 32 * (s.rd (propAddr 12)).toNat, s.rd (propAddr 16),
      (List.range 16).map fun k => s.rd (propAddr (0x40 + 4 * k)), true⟩
    (s.wr (propAddr 0x100) (wordOf (2 ^ 8 + n * 2 ^ 16))).setTm { s.tm with props := s.tm.props ++ [p] }
  else s.wr (propAddr 0x100) (wordOf (Reason.internal.code + n * 2 ^ 16))

/-- Apply a write to the proposal window. -/
def State.propStore (s : State) (ws : List (Nat × Word)) : State :=
  ws.foldl (fun t e => if e.1 = 0xF0 then (if bit e.2 0 then t.propSubmit else t) else t.wr (propAddr e.1) e.2) s

/-- Record a rejected proposal-window write in PROP_ERR (R297, R298). -/
def State.propErr (s : State) (m : Master) (off : Nat) (r : Reason) : State :=
  let e := s.reg .tml 0x4C
  if fld e 0 8 = 0 then s.setReg .tml 0x4C (wordOf (r.code + off * 2 ^ 8 + m.id * 2 ^ 20))
  else s.setReg .tml 0x4C (setBit e 31 true)

/-- The effects of a Tidemark page write: TM_CLR, REFILL (R298). -/
def effTml (w : Wr) (s : State) : State :=
  let s1 := if w.hits 0x50 && bit (w.word 0x50) 0 then
      ((s.setReg .tml 0x44 0).setReg .tml 0x48 0).setReg .tml 0x58 0
    else s
  let s2 := if w.hits 0x50 && bit (w.word 0x50) 1 then s1.setReg .tml 0x4C 0 else s1
  if w.hits 0x54 && bit (w.word 0x54) 0 then (s2.setRegF .tml 0x40 1 1 0).mirrorStale true else s2

/-- The read-only window's decoded words (R296). -/
def mirListed (off : Nat) : Bool :=
  off < 0x1C || (0x20 ≤ off && off < 0x50) || (0x60 ≤ off && off < 0x90) || (0x1000 ≤ off && off < 0x5000)
    || (0x10000 ≤ off && off < 0x30000)

/-! ### The commands -/

/-- TIDEMARK_STROBE. -/
def execTidemarkStrobe (s : State) : Host.Outcome State Fault Refusal := .next s.strobe
/-- TIDEMARK_SAMPLE. -/
def execTidemarkSample (ok : Bool) (s : State) : Host.Outcome State Fault Refusal := .next (s.sampleArrive ok)
/-- STATUS_TRANSFER. -/
def execStatusTransfer (ok : Bool) (s : State) : Host.Outcome State Fault Refusal := .next (s.statusArrive ok)
/-- ROLL_EVENT. -/
def execRollEvent (ok : Bool) (s : State) : Host.Outcome State Fault Refusal := .next (s.rollEventArrive ok)
/-- TICKET_ISSUE. -/
def execTicketIssue (s : State) : Host.Outcome State Fault Refusal := .next s.ticketIssue
/-- TICKET_TRANSFER. -/
def execTicketTransfer (ok : Bool) (s : State) : Host.Outcome State Fault Refusal := .next (s.ticketArrive ok)
/-- AUDIT_TRANSFER. -/
def execAuditTransfer (ok : Bool) (s : State) : Host.Outcome State Fault Refusal := .next (s.auditArrive ok)
/-- GONE_TRANSFER. -/
def execGoneTransfer (ok : Bool) (s : State) : Host.Outcome State Fault Refusal := .next (s.goneArrive ok)
/-- READ_REQ. -/
def execReadReq (tickets : Bool) (first last : Nat) (s : State) : Host.Outcome State Fault Refusal :=
  .next (s.readReq tickets first last)
/-- TM_LINK_UP. -/
def execTmLinkUp (s : State) : Host.Outcome State Fault Refusal := .next s.linkUp
/-- TM_LINK_DOWN. -/
def execTmLinkDown (s : State) : Host.Outcome State Fault Refusal := .next s.linkDown
/-- Z_EDGE. -/
def execZEdge (w : Nat) (s : State) : Host.Outcome State Fault Refusal := .next (s.zEdge w)
/-- PROPOSAL_PARAM. -/
def execProposalParam (s : State) : Host.Outcome State Fault Refusal := .next s.propParam
/-- PROPOSAL_SEAL. -/
def execProposalSeal (s : State) : Host.Outcome State Fault Refusal := .next s.propSeal
/-- PROPOSAL_ROLL. -/
def execProposalRoll (s : State) : Host.Outcome State Fault Refusal := .next s.propRoll
/-- PROPOSAL_VERIFY. -/
def execProposalVerify (s : State) : Host.Outcome State Fault Refusal := .next s.propVerify
/-- PROP_DONE. -/
def execPropDone (ok : Bool) (s : State) : Host.Outcome State Fault Refusal := .next (s.propArrive ok)
/-- BYPASS_CHANGE. -/
def execBypassChange (on : Bool) (s : State) : Host.Outcome State Fault Refusal := .next (s.bypassChange on)
/-- HOLDUP_ENTRY. -/
def execHoldupEntry (s : State) : Host.Outcome State Fault Refusal :=
  .next (if s.fuses.tidemark && s.tm.run then s.tmHoldup else s)
/-- REST_COMMIT. -/
def execRestCommit (s : State) : Host.Outcome State Fault Refusal := .next s.restCommit
/-- FINAL_COMMIT. -/
def execFinalCommit (s : State) : Host.Outcome State Fault Refusal := .next s.finalCommit
/-- CHECKPOINT. -/
def execCheckpoint (s : State) : Host.Outcome State Fault Refusal := .next s.checkpoint
/-- TIDEMARK_BOOT. -/
def execTidemarkBoot (bad : Nat) (fwOk : Bool) (s : State) : Host.Outcome State Fault Refusal := .next (s.tmBoot bad fwOk)
/-- TIDEMARK_WATCHDOG_EXPIRY. -/
def execTidemarkWatchdogExpiry (s : State) : Host.Outcome State Fault Refusal := .next s.tmWatchdog
/-- TIDEMARK_CLOCK_FAULT. -/
def execTidemarkClockFault (bad : Bool) (s : State) : Host.Outcome State Fault Refusal := .next (s.tmClock bad)

end Sys2Proof.Machine
end

