-- ==== Sys2Proof/Machine/Wdt.lean ====
section
/-! DEFINITION. Watchdogs (R456–R463): the eight task watchdogs and Breakwater's safety watchdog, number 8. -/
namespace Sys2Proof.Machine

/-- The page of a watchdog. -/
def wdtPage (w : Nat) : Page := if w < 8 then .wdt w else .swdt
/-- A watchdog's own state. -/
def State.wdog (s : State) (w : Nat) : Wdt := tabGet ⟨0, false, false, false, 0⟩ s.wdt w
/-- A watchdog's own state replaced. -/
def State.setWdog (s : State) (w : Nat) (v : Wdt) : State := { s with wdt := tabPut s.wdt w v }
/-- The watchdog was started (R458). -/
def State.wdtRun (s : State) (w : Nat) : Bool := bit (s.reg (wdtPage w) 0x50) 0
/-- PERIOD. -/
def State.wdtPeriod (s : State) (w : Nat) : Nat := s.regF (wdtPage w) 0x40 0 24
/-- OPEN_THR (R458). -/
def State.wdtOpenThr (s : State) (w : Nat) : Nat := s.wdtPeriod w * s.regF (wdtPage w) 0x50 4 2 / 4
/-- The count now: 1 µs units since it was 0, held while a DORMANT wake waits for firmware (R456, R474).
Marked DEDUCED and unsafe (notes/assumptions/98.md). -/
def State.wdtCount (s : State) (w : Nat) : Nat :=
  if !s.wdtRun w then 0
  else match s.boot.held.find? fun h => h.1 = w with
    | some h => h.2
    | none => (s.now - (s.wdog w).zero) / 8000
/-- The tasks that had not checked in exactly once (R462). -/
def State.wdtTasks (s : State) (w : Nat) : Word :=
  if w < 8 then
    (s.reg (wdtPage w) 0x44 &&& ~~~(s.reg (wdtPage w) 0x54)) ||| s.reg (wdtPage w) 0x58
  else 0

/-- WATCHDOG_TRIP: the source is raised, with what Breakwater's record takes (R462). -/
def State.wdtTrip (s : State) (w : Nat) (viol : Bool) : State :=
  let s1 := s.setWdog w { s.wdog w with tripped := true, viol := viol, tasks := s.wdtTasks w }
  s1.raiseFault (if w < 8 then 0x06 else 0x07) (if w < 8 then w else 0)

/-- WATCHDOG_WINDOW_OPEN: the count reaches OPEN_THR (R458, R463). -/
def State.wdtOpens (s : State) (w : Nat) : State :=
  if s.wdtRun w && !(s.wdog w).opened && !(s.wdog w).tripped && s.wdtOpenThr w ≤ s.wdtCount w then
    (s.setWdog w { s.wdog w with opened := true }).irqBit (wdtPage w) 0
  else s

/-- WATCHDOG_EXPIRY: the count reaches PERIOD (R458).
Marked DESIGN CHOICE and unsafe (notes/assumptions/4.md). -/
def State.wdtExpires (s : State) (w : Nat) : State :=
  if s.wdtRun w && !(s.wdog w).tripped && s.wdtPeriod w ≤ s.wdtCount w then s.wdtTrip w false else s

/-- KEY1 was accepted and KEY2 is expected next. -/
def State.key1Seen (s : State) (w : Nat) : Bool := bit (s.reg (wdtPage w) 0x50) 2

/-- A write to a started watchdog's page is a violation (R459): of WDT_KEY too early, of the wrong value, with tasks missing,
or any write but KEY2 after KEY1; at or past PERIOD the expiry wins (R461). -/
def State.wdtViolation (s : State) (w : Nat) (wr : Wr) : Bool :=
  if !s.wdtRun w then false
  else
    let key := wr.hits 0x48
    let v := (wr.word 0x48).toNat
    let early := s.wdtCount w < s.wdtOpenThr w || s.wdtPeriod w ≤ s.wdtCount w
    if s.key1Seen w then !(wr.offs == [0x48] && v = 0xC0A5) || early
    else key && (v ≠ 0x5EA1 || early || (w < 8 && (s.wdtTasks w).toNat ≠ 0))

/-- A watchdog page's own checks (R458–R460). A write to WDT_KEY of a watchdog that was not started finds no service to make
and is out of sequence.
Marked DEDUCED and unsafe (notes/assumptions/98.md). -/
def chkWdt (s : State) (w : Nat) (wr : Wr) : Chk :=
  { seq := s.wdtViolation w wr || (wr.hits 0x48 && !s.wdtRun w)
    range := (wr.hits 0x40 && wr.fld 0x40 0 24 < 10)
      || (wr.hits 0x4C && !bit (s.reg (wdtPage w) 0x44) (wr.fld 0x4C 0 5)) }

/-- WDT_CFG and WDT_MASK of a started watchdog are locked (R458). -/
def State.wdtLocked (s : State) (w : Nat) (wr : Wr) : Bool := s.wdtRun w && (wr.hits 0x40 || wr.hits 0x44)

/-- A rejected write that is a violation trips the watchdog and closes its sequence (R459, R461). -/
def State.wdtRejected (s : State) (w : Nat) (wr : Wr) : State :=
  if s.wdtViolation w wr && !(s.wdog w).tripped then
    (s.setRegF (wdtPage w) 0x50 2 1 0).wdtTrip w (s.wdtCount w < s.wdtPeriod w)
  else s

/-- A watchdog page's effects: the start, the service and the check-in (R458–R460). -/
def effWdt (w : Nat) (wr : Wr) (s : State) : State :=
  let p := wdtPage w
  let s1 :=
    if wr.hits 0x40 then
      (s.setWdog w ⟨s.now, false, false, false, 0⟩).setRegF p 0x50 0 1 1
    else s
  let s2 :=
    if wr.hits 0x48 then
      if s1.key1Seen w then
        ((((s1.setRegF p 0x50 2 1 0).setReg p 0x54 0).setReg p 0x58 0).setWdog w ⟨s.now, false, false, false, 0⟩)
      else s1.setRegF p 0x50 2 1 1
    else s1
  if wr.hits 0x4C then
    let t := wr.fld 0x4C 0 5
    if bit (s2.reg p 0x54) t then
      let first := s2.reg p 0x58 == 0
      let s3 := s2.setReg p 0x58 (setBit (s2.reg p 0x58) t true)
      if first then s3.irqBit p 1 else s3
    else s2.setReg p 0x54 (setBit (s2.reg p 0x54) t true)
  else s2

/-- WDT_STAT as it reads (R463). -/
def State.wdtStat (s : State) (w : Nat) : Word :=
  let c := s.wdtCount w
  wordOf (s.regF (wdtPage w) 0x50 0 1 + (if s.wdtRun w && s.wdtOpenThr w ≤ c then 2 else 0) + s.regF (wdtPage w) 0x50 2 1 * 4
    + (if s.reg (wdtPage w) 0x58 ≠ 0 && w < 8 then 8 else 0) + s.regF (wdtPage w) 0x50 4 2 * 16 + c % 2 ^ 24 * 2 ^ 8)

/-- WATCHDOG_WINDOW_OPEN. -/
def execWatchdogWindowOpen (w : Nat) (s : State) : Host.Outcome State Fault Refusal :=
  .next (if w ≤ 8 then s.wdtOpens w else s)
/-- WATCHDOG_EXPIRY. -/
def execWatchdogExpiry (w : Nat) (s : State) : Host.Outcome State Fault Refusal :=
  .next (if w ≤ 8 then s.wdtExpires w else s)

end Sys2Proof.Machine
end

