-- ==== Sys2Proof/Machine/Power.lean ====
section
/-! DEFINITION. Power domains and clock requests (R469–R471), soft resets and what a domain, the compute die and the field
die lose (R47, R107, R133, R256, R345, R440, R491), and DORMANT's entry (R473). Start-up and the boot ROM are in Boot.lean. -/
namespace Sys2Proof.Machine

/-! ### What stands behind a page -/

/-- Breakwater with nothing present, nothing under way and its lockstep whole.
Marked DESIGN CHOICE and unsafe (notes/assumptions/11.md). -/
def bwFresh (now : Nat) : Breakwater :=
  ⟨[], [], none, none, false, none, 0, spdFresh now, ⟨none, 0, false, none, none, now, 0⟩, [], false, false, false⟩

/-- A tracker with nothing under way.
Marked DESIGN CHOICE and unsafe (notes/assumptions/11.md). -/
def trkFresh : Tracker := ⟨[], [], [], [], 0, 0, [], [], none⟩

/-- A timed I/O bank's pins with their functions off; the levels at the inputs are the environment's. -/
def State.pinsReset (s : State) (k : Nat) : State :=
  let s1 := { s with pins := s.pins.filterMap fun (e : Nat × Pin) =>
      if e.1 / 32 = k then (if e.2.input then some (e.1, pinFresh (s.pinIdle e.1) true) else none) else some e }
  { s1 with banks := tabDel s1.banks k }

/-- What stands behind the registers of a page, returned to its reset state (R47). -/
def State.innerReset (s : State) : Page → State
  | .tb => { s with tbs := ⟨false, 0, 0⟩ }
  | .tqs => { s with tqf := { s.tqf with delivered := 0 } }
  | .tio k => s.pinsReset k
  | .tioc => { s with gens := [], tlog := [] }
  | .t1s q => { s with net := tabClear s.net (448 + 4 * q) (452 + 4 * q) }
  | .tsn n => { s with net := tabDel s.net (496 + n) }
  | .trk => { s with trk := { s.trk with slots := [], stage := [], fw := [] } }
  | .rmap => { s with roll := ⟨false, []⟩ }
  | .surfG g =>
    let u := s.surf
    { s with surf := { u with cams := tabClear u.cams (2 * g) (2 * g + 2), frags := u.frags.filter fun f => f.1 ≠ g,
                              blobs := tabDel u.blobs g, wins := u.wins.filter fun w => w.group ≠ g, rows := tabDel u.rows g } }
  | .surfL g => { s with surf := { s.surf with lanes := tabClear s.surf.lanes (8 * g) (8 * g + 8) } }
  | .ghIn q => { s with gh := { s.gh with rx := tabClear s.gh.rx (4 * q) (4 * q + 4) } }
  | .ghInL i => { s with gh := { s.gh with inl := tabClear s.gh.inl (8 * i) (8 * i + 8) } }
  | .ghOutL => { s with gh := { s.gh with tx := [] } }
  | .swell e => s.swReset e
  | .tmr k => { s with tmr := tabClear s.tmr (8 * k) (8 * k + 8) }
  | .tmx => { s with routes := [] }
  | .wdt w => { s with wdt := tabDel s.wdt w }
  | .swdt => { s with wdt := tabDel s.wdt 8 }
  | .cv c => { s with conv := tabDel s.conv c }
  | .dma k => { s with dma := { s.dma with burst := tabClear s.dma.burst (8 * k) (8 * k + 8) } }
  | .slk => s.setBw { s.bw with openAt := none, key1 := false, spd := spdFresh s.now }
  | _ => s

/-- A page whose block registers state facts that no reset of the page changes: the part's, the boot's, Lee's (R492, R495,
R497, R498).
Marked DEDUCED and unsafe (notes/assumptions/25.md). -/
def factsPage : Page → Bool
  | .sys | .clk | .lee | .bistR | .rep | .fuse | .sboot => true
  | _ => false

/-- The block registers and tables of a page from 0x040 upward return to reset (R47); Breakwater's and the lockstep's
status, the record in the Lee domain and LC_STATE go on saying what is so.
Marked DEDUCED and unsafe (notes/assumptions/25.md). -/
def State.blockReset (s : State) (p : Page) : State :=
  if factsPage p then s
  else
    let s1 := match p with
      | .bwCtl => { s with regs := s.regs.filter fun e =>
          e.1 < p.base + 0x40 || p.base + 0x1000 ≤ e.1 || e.1 = p.base + 0x40 || (p.base + 0x58 ≤ e.1 && e.1 ≤ p.base + 0x74) }
      | .lks => s.clearRegs (p.base + 0x44) (p.base + 0x1000)
      | .lc => s.clearRegs (p.base + 0x44) (p.base + 0x1000)
      | _ => s.clearRegs (p.base + 0x40) (p.base + 0x1000)
    s1.innerReset p

/-- SOFT_RESET of a page (R47): block registers, IRQ_RAW, and BUSY until SOFT_RESET_DONE. The odd engine of a pair that is
dissolved by it stops.
Marked DEDUCED and unsafe (notes/assumptions/25.md). -/
def State.softReset (s : State) (p : Page) : State :=
  let s1 := match p with
    | .swell e => if e % 2 = 0 && s.swPaired e then s.setRegF (.swell (e + 1)) 0x48 0 3 0 else s
    | _ => s
  let s2 := (s1.blockReset p).setReg p 0x20 0
  { s2 with fab := { s2.fab with softBusy := insertRising p.base s2.fab.softBusy, keys := tabDel s2.fab.keys p.base } }

/-- SOFT_RESET_DONE: BUSY of a page's soft reset clears (R47).
Marked DEDUCED and unsafe (notes/assumptions/25.md). -/
def State.softDone (s : State) (p : Page) : State :=
  { s with fab := { s.fab with softBusy := s.fab.softBusy.erase p.base } }

/-- A whole page returns to reset, header included, but for what `keep` says.
Marked DEDUCED and unsafe (notes/assumptions/27.md). -/
def State.pageReset (s : State) (p : Page) : State :=
  let s1 := (s.blockReset p).clearRegs p.base (p.base + 0x40)
  { s1 with fab := { s1.fab with
      softBusy := s1.fab.softBusy.erase p.base, keys := tabDel s1.fab.keys p.base
      once := s1.fab.once.filter fun a => a < p.base || p.base + 0x1000 ≤ a } }

/-! ### Domains (R469–R471) -/

/-- CLK_REQ of a page (R43, R45). -/
def State.clkReq (s : State) (p : Page) : Nat := s.regF p 0x0C 2 2

/-- A domain's clock request: the highest among its pages' (R470); SRAM_EN's bit for System SRAM banks 1–3 (R469, R494). -/
def State.domRequest (s : State) (d : Nat) : Nat :=
  if 17 ≤ d && d ≤ 19 then (if bit (s.reg .pwr 0x40) (d - 16) then 2 else 0)
  else (allPages.filter fun p => p.present s.fuses && (pageDomains p).contains d).foldl (fun m p => max m (s.clkReq p)) 0

/-- The on-demand domains (R469). -/
def demandDomains : List Nat :=
  [4, 5, 6, 7, 8, 9, 10] ++ (List.range 15).map (· + 20) ++ (List.range 16).map (· + 100)

/-- A domain follows its request: it starts, or stops (R470). A domain kept off stays off (R488). -/
def State.domFollow (s : State) (d : Nat) : State :=
  let want := s.domRequest d ≠ 0
  match s.domain d with
  | .off => if want then s.setDomain d .starting else s
  | .starting | .on => if want then s else s.setDomain d (.stopping false)
  | .stopping a => if want then s.setDomain d (.stopping true) else if a then s.setDomain d (.stopping false) else s
  | .keptOff => s

/-- The module is to run in SPRING (R471). -/
def State.springWanted (s : State) : Bool :=
  bit (s.reg .pwr 0x40) 0 || allPages.any fun p => !fixedClock p && p.present s.fuses && s.clkReq p = 2

/-- POWER_STATE_CHANGE: a change between the states begins when the requests ask for it (R471); System SRAM banks follow
SRAM_EN (R494). -/
def State.powerFollow (s0 : State) : State :=
  let s := [17, 18, 19].foldl State.domFollow s0
  match s.power with
  | .spring => if s.springWanted then s else { s with power := .changing false }
  | .neap => if s.springWanted then { s with power := .changing true } else s
  | .changing _ => s

/-- Every domain of a page, and the module's state, follow the requests. -/
def State.requestsChanged (s : State) (p : Page) : State :=
  (((pageDomains p).filter onDemand).foldl State.domFollow s).powerFollow

/-- DOMAIN_STARTED: a starting domain runs and its pages read NEAP or SPRING (R469); its Swell engines begin as reset
leaves them (R345). -/
def State.domStarted (s : State) (d : Nat) : State :=
  match s.domain d with
  | .starting =>
    let s1 := s.setDomain d .on
    if 20 ≤ d && d ≤ 23 then (List.range 4).foldl (fun s i => s.swReset (4 * (d - 20) + i)) s1 else s1
  | _ => s

/-- The offsets of a T1S page that belong to its segments j in a list. -/
def segOffsets (js : List Nat) (off : Nat) : Bool :=
  js.any fun j => (0x40 + j * 0x40 ≤ off && off < 0x80 + j * 0x40) || (0x400 + j * 0x80 ≤ off && off < 0x480 + j * 0x80)
    || (0x800 + j * 0x200 ≤ off && off < 0xA00 + j * 0x200)

/-- The part of a page that a domain's power-down loses: all of it but PAGE_CTRL, which holds the requests; of a page that
two domains share, the segments or links of that domain.
Marked DEDUCED and unsafe (notes/assumptions/26.md). -/
def State.pageLost (s : State) (d : Nat) (p : Page) : State :=
  let shared := 1 < (pageDomains p).length
  if shared then
    match p with
    | .t1s q =>
      let js := if d = 8 then [0, 1] else [2, 3]
      let s1 := { s with regs := s.regs.filter fun e =>
        e.1 < p.base || p.base + 0x1000 ≤ e.1 || !segOffsets js (e.1 - p.base) }
      js.foldl (fun s j => { s with net := tabDel s.net (448 + 4 * q + j) }) s1
    | .ghInL i =>
      let js := if d = 32 then 0 else 4
      let s1 := s.clearRegs (p.base + 0x800 + js * 0x80) (p.base + 0x800 + (js + 4) * 0x80)
      { s1 with gh := { s1.gh with inl := tabClear s1.gh.inl (8 * i + js) (8 * i + js + 4) } }
    | _ => s
  else
    let ctrl := s.reg p 0x0C
    (s.pageReset p).setReg p 0x0C ctrl

/-- What a domain loses when it powers down (R470): its pages' registers and its memories. A TSN port's domain stays powered,
so nothing is lost (R469).
Marked DEDUCED and unsafe (notes/assumptions/26.md). -/
def State.domLost (s : State) (d : Nat) : State :=
  if 100 ≤ d then s
  else
    let s1 := (allPages.filter fun p => p.present s.fuses && (pageDomains p).contains d).foldl (fun s p => s.pageLost d p) s
    if 20 ≤ d && d ≤ 23 then s1.clearMem (swProg (4 * (d - 20))) (swProg (4 * (d - 19)))
    else if 24 ≤ d && d ≤ 31 then
      { s1 with surf := { s1.surf with ff := tabClear s1.surf.ff (8 * (d - 24) * 2048) (8 * (d - 23) * 2048) } }
    else if 16 ≤ d && d ≤ 19 then s1.clearMem (0x20000000 + (d - 16) * 0x200000) (0x20000000 + (d - 15) * 0x200000)
    else s1

/-- DOMAIN_POWERED_DOWN: a stopping domain loses its contents; a request that came meanwhile starts it again (R470). -/
def State.domDown (s : State) (d : Nat) : State :=
  match s.domain d with
  | .stopping a => (s.domLost d).setDomain d (if a then .starting else .off)
  | _ => s

/-- The Headland core's cycles since its reset, in eightieths: 12 a tick at 1.2 GHz, 1 at 100 MHz (R333, R344).
Marked DEDUCED and unsafe (notes/assumptions/82.md). -/
def State.svCycles (s : State) : Nat :=
  s.sv.cycles + inst64 (s.now + 2 ^ 64 - s.sv.cycleAt) * (if s.inSpring then 12 else 1)

/-- The cycles counted so far are noted: the core's clock is about to change.
Marked DEDUCED and unsafe (notes/assumptions/82.md). -/
def State.svSettle (s : State) : State := { s with sv := { s.sv with cycles := s.svCycles, cycleAt := s.now } }

/-- POWER_STATE_CHANGE_DONE: the change completes, and another begins if the requests now ask for it (R471, R494). -/
def State.powerChanged (s : State) : State :=
  match s.power with
  | .changing up => (({ s.svSettle with power := if up then .spring else .neap }).irqBit .pwr 0).powerFollow
  | _ => s

/-- A System SRAM bank is powered: its domain has started and not begun to stop (R469, R494).
Marked DEDUCED and unsafe (notes/assumptions/16.md). -/
def State.sramOn (s : State) (k : Nat) : Bool := k = 0 || s.domain (16 + k) == .on

/-- Which System SRAM bank an address lies in. -/
def sramBank (a : Nat) : Nat := (a - 0x20000000) / 0x200000

/-- A log that points into a bank which a write of PWR_CTRL would switch off (R494). -/
def State.logsNeed (s : State) (k : Nat) : Bool :=
  let uses := fun (base : Word) (lim w : Nat) =>
    let b := base.toNat
    lim ≠ 0 && 0x20000000 ≤ b && b < 0x20800000 && sramBank b ≤ k && k ≤ sramBank (b + 0xF + w * 2 ^ lim)
  uses (s.reg .tqs 0x40) (s.regF .tqs 0x44 0 5) 32 || uses (s.reg .trk 0x48) (s.regF .trk 0x4C 0 5) 32
    || uses (s.reg .t1sc 0x5C) (s.regF .t1sc 0x60 0 5) 16

/-! ### Resets of the dies (R491) -/

/-- A page on the field die (R21). -/
def fieldPage : Page → Bool
  | .lee | .tml | .bwCtl | .bwFc | .bwMap | .bwMon | .slk | .lks | .tio _ | .tioc | .t1sc | .t1s _ | .swdt | .cv _ => true
  | _ => false

/-- A register or table word kept on the field die: its pages, and the mailbox's mirror. -/
def fieldWord (a : Nat) : Bool :=
  match Page.ofAddr a with
  | some p => fieldPage p
  | none => 0x60000000 ≤ a

/-- Every generator and trigger log stops (R133): its edges that have not begun are cancelled, its block and the query
registers return to reset; the page's header and calibration stay. -/
def State.gensReset (s : State) : State :=
  { (s.clearRegs (Page.base .tioc + 0x48) (Page.base .tioc + 0x1000)) with gens := [], tlog := [] }

/-- A System SRAM bank that was switched off is wanted again: SRAM_EN resets to 0b111 (R494). -/
def sramWanted (d : Nat × DomState) : Nat × DomState :=
  if 17 ≤ d.1 then (d.1, match d.2 with | .off => .starting | .stopping _ => .stopping true | x => x) else d

/-- The compute die resets (R107, R491): every page and table on it, the TQF, tracker, Surf, Ghery, Swell engines, timers,
task watchdogs, DMA and the cluster. Entries for ports 0 to 495 that were handed off stay with their ports; every tag is
cleared; the timebase continues. -/
def State.computeReset (s : State) : State :=
  let cnt := s.reg .sys 0x74
  let hit := fun (a : Nat) => match Page.ofAddr a with | some p => !fieldPage p | none => true
  { s with
    regs := tabSet 0 (s.regs.filter fun e => fieldWord e.1) (Page.base .sys + 0x74) cnt
    mem := s.mem.filter fun c => c.1 < 0x30000000 || 0x38000000 ≤ c.1
    tags := []
    fab := ⟨s.fab.resp, [], s.fab.keys.filter fun k => !hit k.1, s.fab.softBusy.filter fun b => !hit b,
      s.fab.once.filter fun a => !hit a, s.fab.cycle, [], [], []⟩
    tbs := ⟨false, 0, 0⟩
    tqf := ⟨[], s.tqf.gen, [], [], [], 0⟩
    box := ⟨s.box.waiting.filter fun e => e.port < 496, s.box.due.filter fun e => e.port < 496⟩
    net := (tabClear s.net 496 512).map fun e => (e.1, { e.2 with safe := [] })
    trk := trkFresh, roll := ⟨false, []⟩, gh := ⟨[], [], []⟩, surf := ⟨[], [], [], [], [], [], [], s.surf.nextPatch, 0, 0⟩
    domains := (s.domains.filter fun d => d.1 < 20).map sramWanted
    power := .spring
    sv := svFresh s.now, swell := [], tmr := [], routes := [], dma := ⟨[], 0, 0⟩
    wdt := s.wdt.filter fun w => w.1 = 8
    dormant := .awake
    boot := { s.boot with stream := [], wait := false, running := false, firmware := false, held := [] } }

/-- What a reset of the compute die alone does beside (R133, R408, R417): generators stop, isolations and a retired core end,
and the ports' own resets are due.
Marked DEDUCED and unsafe (notes/assumptions/27.md). -/
def State.appReset (s : State) (x : Nat) : State :=
  let s1 := (s.computeReset.gensReset).clearRegs (Page.base .lks + 0x40) (Page.base .lks + 0x44)
  let s2 := (s1.setReg .bwCtl 0x70 0).setReg .bwCtl 0x74 0
  let s3 := s2.setBw { s2.bw with iso := [], ls := (bwFresh s.now).ls
                                  play := s2.bw.play.map fun y => { y with resetDue := false } }
  { s3 with boot := { s3.boot with portsAt := some x, banksDue := true, segs := (List.range 44).map (· + 4) } }

/-- RST_CAUSE and RST_CNT of a reset (R491, R492).
Marked DEDUCED and unsafe (notes/assumptions/27.md). -/
def State.resetCause (s : State) (cause src : Nat) : State :=
  let s1 := s.setReg .sys 0x70 (wordOf (cause + src * 16))
  if cause = 4 || cause = 6 then s1.satIncF .sys 0x74 0 16
  else if cause = 2 || cause = 3 || cause = 7 then s1.satIncF .sys 0x74 16 16 else s1

/-- Both dies reset (R491): everything but the Lee domain (its page, the record, the reset counts), Tidemark, non-volatile
memory, the levels at the inputs, and what `held` names; both timebase counters stand at an instant.
Marked DEDUCED and unsafe (notes/assumptions/28.md), DEDUCED and unsafe (notes/assumptions/120.md). -/
def State.fullReset (s : State) (now : Nat) (mem : List Host.Cell) : State :=
  let cnt := s.reg .sys 0x74
  let keep := fun (a : Nat) =>
    (Page.base .lee + 0x40 ≤ a && a < Page.base .lee + 0x1000) || (Page.base .bwCtl + 0x58 ≤ a && a < Page.base .bwCtl + 0x70)
  let c := s.computeReset
  { c with
    now := now, fieldNow := now
    regs := tabSet 0 (s.regs.filter fun e => keep e.1) (Page.base .sys + 0x74) cnt
    mem := mem
    fab := ⟨s.fab.resp, [], [], [], [], 0, [], [], []⟩
    tqf := ⟨[], s.tqf.gen, [], [], [], 0⟩, box := ⟨[], []⟩, src := []
    pins := s.pins.filterMap fun (e : Nat × Pin) =>
      if e.2.input then some (e.1, pinFresh (idleDrive (tabGet 0 s.fuses.idle e.1)) true) else none
    banks := [], gens := [], tlog := [], net := []
    surf := ⟨[], [], [], [], [], [], [], 0, 0, 0⟩
    tm := { s.tm with
      samples := [], out := [], props := s.tm.props.map fun p => { p with awaited := false }
      strobe := none, mirT := [], mirA := [], goneT := [], goneA := [] }
    domains := [], raised := [], sv := svFresh now, bw := bwFresh now, wdt := [], conv := []
    fuses := match s.boot.lcNext with | some l => { s.fuses with lifeCycle := l } | none => s.fuses
    boot := ⟨[], false, false, false, false, [], none, none, false, [], []⟩ }

/-- Flash is the memory that outlives a loss of supply (R34). -/
def State.flash (s : State) : List Host.Cell := s.mem.filter fun c => 0x50000000 ≤ c.1 && c.1 < 0x60000000

/-- The timebase runs: not in DORMANT, nor while the module is off or its main rails are down at no hold-up (R473, R475).
Marked DESIGN CHOICE and unsafe (notes/assumptions/2.md). -/
def State.timeRuns (s : State) : Bool :=
  (match s.dormant with | .asleep _ _ _ _ => false | _ => true) && !s.supply.off && (s.supply.rails || s.supply.loss.isSome)

/-- R133's resets of ports that come due after an application reset at X: timed I/O banks 1–13 at X + 1 µs; a T1S segment
once its last handed-off record was sent or dropped, at the latest at X + HL. A page whose ports have all been reset is reset
with them, its header included: R133 keeps a header only on the common page.
Marked DESIGN CHOICE and unsafe (notes/assumptions/2.md), DEDUCED and unsafe (notes/assumptions/27.md). -/
def State.portsFollow (s : State) : State :=
  match s.boot.portsAt with
  | none => s
  | some x =>
    let banks := s.boot.banksDue && x + 8000 ≤ s.now
    let s1 :=
      if banks then
        (List.range 13).foldl (fun s k =>
          if k + 1 < s.fuses.banks then (s.pageReset (.tio (k + 1))).requestsChanged (.tio (k + 1)) else s) s
      else s
    let due := s1.boot.segs.filter fun g =>
      s1.fuses.t1s ≤ g || x + s1.segHL g ≤ s1.now || !(s1.box.waiting.any fun e => e.port = 448 + g && !e.sent)
    let s2 := due.foldl (fun s g =>
      let p := segPage g
      let r := { s with regs := s.regs.filter fun e =>
        e.1 < p.base || p.base + 0x1000 ≤ e.1 || !segOffsets [g % 4] (e.1 - p.base) }
      { r with net := tabDel r.net (448 + g), box := ⟨r.box.waiting.filter fun e => e.port ≠ 448 + g, r.box.due⟩ }) s1
    let left := s2.boot.segs.filter fun g => !due.contains g
    let owed := s.boot.banksDue && !banks
    let quads := ((due.map (· / 4)).eraseDups).filter fun q => 4 * q < s2.fuses.t1s && !left.any fun g => g / 4 = q
    let s2 := quads.foldl (fun s q => (s.pageReset (.t1s q)).requestsChanged (.t1s q)) s2
    { s2 with boot := { s2.boot with segs := left, banksDue := owed, portsAt := if left.isEmpty && !owed then none else some x } }

/-- What the block does on an empty queue: one timebase cycle passes, while time runs.
Marked DESIGN CHOICE and unsafe (notes/assumptions/2.md). -/
def State.idle (s : State) : State := if s.timeRuns then s.tick.portsFollow else s

/-! ### DORMANT (R472, R473) -/

/-- What a write of PWR_DORMANT.GO needs (R472).
Marked DEDUCED and unsafe (notes/assumptions/103.md). -/
def State.dormantReady (s : State) : Bool :=
  s.power = .neap && s.bwState = 0 && s.poolFree = poolSize
    && (s.regF .slk 0x64 0 16 = 0 || s.reg .slk 0x74 = 0)

/-- DORMANT_ENTERED: at D the hold-up levels are retained, Lee stores the instant and every watchdog, and every domain but
Lee's and Tidemark's powers down (R473).
Marked DEDUCED and unsafe (notes/assumptions/103.md). -/
def State.dormantEntered (s : State) : State :=
  match s.dormant with
  | .entering _ c0 c1 =>
    let held := (List.range 9).filterMap fun w => if s.wdtRun w then some (w, s.wdtCount w) else none
    let words := s.regs.filter fun e => match Page.ofAddr e.1 with
      | some (.wdt _) | some .swdt => true
      | _ => false
    let once := s.fab.once.filter fun a => match Page.ofAddr a with
      | some (.wdt _) | some .swdt => true
      | _ => false
    let levels := (List.range 32).map s.ball
    let wds := s.wdt
    let s1 := s.fullReset s.now s.flash
    { s1 with
      dormant := .asleep s.now held c0 c1
      wdt := wds
      regs := words.foldl (fun r e => tabPut r e.1 e.2) s1.regs
      fab := { s1.fab with once := once }
      boot := { s1.boot with retained := levels, held := held, lcNext := s.boot.lcNext }
      fuses := s.fuses }
  | _ => s

/-- SOFT_RESET_DONE. -/
def execSoftResetDone (p : Page) (s : State) : Host.Outcome State Fault Refusal := .next (s.softDone p)
/-- DOMAIN_STARTED. -/
def execDomainStarted (d : Nat) (s : State) : Host.Outcome State Fault Refusal := .next (s.domStarted d)
/-- DOMAIN_POWERED_DOWN. -/
def execDomainPoweredDown (d : Nat) (s : State) : Host.Outcome State Fault Refusal := .next (s.domDown d)
/-- POWER_STATE_CHANGE_DONE. -/
def execPowerStateChangeDone (s : State) : Host.Outcome State Fault Refusal := .next s.powerChanged
/-- DORMANT_ENTERED. -/
def execDormantEntered (s : State) : Host.Outcome State Fault Refusal := .next s.dormantEntered

end Sys2Proof.Machine
end

