-- ==== Sys2Proof/Machine/SysPages.lean ====
section
/-! DEFINITION. The pages of the power manager, Lee, BIST, life cycle, secure boot and the HRP (R472, R481, R485, R486, R489,
R493–R499): their checks, effects and computed words. -/
namespace Sys2Proof.Machine

/-! ### Power manager and Lee (R472, R494, R495) -/

/-- The power manager page's own checks: SRAM banks in use stay on; GO needs R472's conditions. -/
def chkPwr (s : State) (w : Wr) : Chk :=
  let go := w.hits 0x44 && bit (w.word 0x44) 0
  { range := go && s.reg .lee 0x40 == 0
    state := (go && !s.dormantReady)
      || (w.hits 0x40 && [1, 2, 3].any fun k => bit (s.reg .pwr 0x40) k && !bit (s.after w 0x40) k && s.logsNeed k) }

/-- The power manager page's effects: banks switch, the module follows the requests, DORMANT's entry begins. -/
def effPwr (w : Wr) (s : State) : State :=
  let s1 := if w.hits 0x40 then s.powerFollow else s
  if w.hits 0x44 then
    let s2 := s1.setReg .pwr 0x44 0
    if bit (w.word 0x44) 0 then { s2 with dormant := .entering s2.now s2.tm.w0.count s2.tm.w1.count } else s2
  else s1

/-- The Lee page's own checks (R474, R495). -/
def chkLee (s : State) (w : Wr) : Chk :=
  { range := (w.hits 0x40 || w.hits 0x44) && bit (s.after w 0x40) 0 && s.after w 0x44 == 0
    absent := w.hits 0x40 && bit (w.word 0x40) 1 && !s.fuses.tidemark }

/-- CLK_STAT as it reads (R493): the always-on PLLs are locked; those of on-demand domains while one is on.
Marked DEDUCED and safe (notes/assumptions/30.md). -/
def State.clkStat (s : State) : Word :=
  let on := fun (d n : Nat) => (List.range n).any fun k => s.domain (d + k) == .on
  let quad := fun (q : Nat) => if q < 6 then s.regF (.ghIn q) 0x40 1 1 else s.regF (.ghOut 0) 0x40 1 1
  wordOf (7 + (if on 20 4 then 8 else 0) + (if on 24 8 then 16 else 0)
    + (List.range 7).foldl (fun n q => n + quad q * 2 ^ (5 + q)) 0
    + (if s.bw.present.contains 0x2D then 0 else 2 ^ 12))

/-- PWR_STAT as it reads (R494). -/
def State.pwrStat (s : State) : Word :=
  setFld (s.reg .pwr 0x48) 0 3 (match s.power with | .neap => 2 | .spring => 3 | .changing _ => 4)

/-- A domain that is always on in every part that has its unit; the domain of an absent unit is never powered (R469). -/
def Fuses.domFitted (f : Fuses) (d : Nat) : Bool :=
  if d = 11 then f.tidemark else if 12 ≤ d && d ≤ 14 then d - 12 < f.cores else true

/-- A bitmap over the domains from d upward, 32 of them. -/
def State.domBits (s : State) (d n : Nat) (f : DomState → Bool) : Word :=
  wordOf ((List.range n).foldl (fun v k => if s.fuses.domFitted (d + k) && f (s.domain (d + k)) then v + 2 ^ k else v) 0)

/-! ### BIST (R485, R486, R496) -/

/-- The sequences that FIELD accepts (R485). -/
def bistField (seq : Nat) : Bool := 1 ≤ seq && seq ≤ 6

/-- TARGET out of a sequence's range; a sequence that the device does not have. -/
def bistRange (seq target : Nat) : Bool :=
  if seq = 1 then 3 < target
  else if seq = 2 || seq = 3 then target ≠ 0
  else if seq = 4 then 15 < target
  else if seq = 5 then 7 < target
  else if seq = 6 then 6 < target
  else !(0x81 ≤ seq && seq ≤ 0xA4)

/-- A sequence's condition does not hold (R485, R486). -/
def State.bistBusy (s : State) (seq target : Nat) : Bool :=
  bit (s.reg .bistC 0x48) 0
    || (if seq = 1 then !s.sramOn target
        else if seq = 4 then !s.swIdle target || s.swPaired target
        else if seq = 5 then (List.range 8).any fun k => (s.laneCam (8 * target + k)).isSome
        else if seq = 6 then
          (if target < 6 then (List.range 4).any fun k => (s.inLinkOf (4 * target + k)).isSome
           else (List.range 4).any fun k => (s.outLinkOf k).isSome)
        else if 0x81 ≤ seq then
          allPages.any fun p => p.present s.fuses && (pageDomains p).contains (seq - 0x80) && s.enabled p
        else false)

/-- The BIST control page's own checks (R485, R486, R496).
Marked DEDUCED and unsafe (notes/assumptions/23.md). -/
def chkBist (s : State) (w : Wr) : Chk :=
  let run := w.hits 0x44
  let seq := w.fld 0x44 0 8
  let t := w.fld 0x44 8 8
  { range := (w.hits 0x40 && w.fld 0x40 0 4 = 0) || (run && bistRange seq t)
    absent := run && ((seq = 4 && s.fuses.swells ≤ t) || (seq = 5 && s.fuses.surfs ≤ 8 * t)
      || (seq = 6 && t < 6 && s.fuses.gheryIn ≤ 4 * t))
    state := run && s.bistBusy seq t }

/-- What FIELD refuses of a BIST write (R485, R486).
Marked DEDUCED and unsafe (notes/assumptions/23.md). -/
def bistLife (w : Wr) : Bool := w.hits 0x40 || (w.hits 0x44 && !bistField (w.fld 0x44 0 8))

/-- The BIST control page's effects: a sequence starts; the start-up BIST of one domain loses its contents.
Marked DEDUCED and unsafe (notes/assumptions/111.md). -/
def effBist (w : Wr) (s : State) : State :=
  if w.hits 0x44 then
    let seq := w.fld 0x44 0 8
    let s1 := s.setReg .bistC 0x48 (wordOf (1 + seq * 2 ^ 8 + w.fld 0x44 8 8 * 2 ^ 16))
    if 0x81 ≤ seq then s1.domLost (seq - 0x80) else s1
  else s

/-! ### Life cycle and secure boot (R481, R489, R498) -/

/-- The life-cycle state that the fuses hold, burned or not yet in force (R489).
Marked DEDUCED and unsafe (notes/assumptions/28.md). -/
def State.burned (s : State) : LifeCycle := s.boot.lcNext.getD s.fuses.lifeCycle

/-- The state that a code of LC_REQ names. -/
def LifeCycle.ofCode (n : Nat) : LifeCycle :=
  if n = 0 then .test else if n = 1 then .develop else if n = 2 then .field else .return_

/-- A move that R489 allows. -/
def LifeCycle.moves : LifeCycle → LifeCycle → Bool
  | .test, .develop | .develop, .field | .field, .return_ | .test, .field => true
  | _, _ => false

/-- The token at LC_TOKEN is valid: signed under key slot 3 over the UID and 0x5245_544E (R489).
Marked DESIGN CHOICE and safe (notes/assumptions/110.md). -/
def State.tokenOk (s : State) : Bool :=
  let a := (s.reg .lc 0x48).toNat
  let (key, sig) := Config.tokenOf s.mem a
  0x20000000 ≤ a && a < 0x20800000
    && signedUnder (s.fuses.keyHash.getD 3 []) (hashWords (sha256 key))
      (sha256 (bytesLE 8 s.fuses.uid.toNat ++ bytesLE 4 0x5245544E)) key sig

/-- The life-cycle page's own checks (R489, R498).
Marked DEDUCED and unsafe (notes/assumptions/23.md). -/
def chkLc (s : State) (w : Wr) : Chk :=
  let req := w.hits 0x44
  let to_ := LifeCycle.ofCode (w.fld 0x44 0 2)
  { seq := req && s.burned.moves to_ && to_ = .return_ && !s.tokenOk
    range := (req && !s.burned.moves to_) || (w.hits 0x48 && w.fld 0x48 0 4 ≠ 0) }

/-- The life-cycle page's effects: the fuses are burned (R489).
Marked DEDUCED and unsafe (notes/assumptions/24.md). -/
def effLc (w : Wr) (s : State) : State :=
  if w.hits 0x44 then { s with boot := { s.boot with lcNext := some (LifeCycle.ofCode (w.fld 0x44 0 2)) } } else s

/-- LC_STATE as it reads (R498).
Marked DEDUCED and unsafe (notes/assumptions/28.md). -/
def State.lcState (s : State) : Word :=
  wordOf (s.fuses.lifeCycle.code + if s.boot.lcNext.isSome then 4 else 0)

/-- The secure boot page's own checks (R481): the running image's slot is the one BOOT_STAT names, when it was signed. -/
def chkSboot (s : State) (w : Wr) : Chk :=
  let v := w.fld 0x4C 0 7
  let stat := s.reg .sboot 0x40
  { range := w.hits 0x4C && (v ≤ s.fuses.rbCnt || 64 < v || (s.reg .sboot 0x44).toNat < v)
    state := w.hits 0x54 && s.boot.firmware && !bit stat 6 && bit (w.word 0x54) (fld stat 8 2) }

/-- The secure boot page's effects: RB_ADVANCE and KEY_REVOKE_SET burn their fuses (R481). -/
def effSboot (w : Wr) (s : State) : State :=
  let s1 := if w.hits 0x4C then { s with fuses := { s.fuses with rbCnt := w.fld 0x4C 0 7 } } else s
  if w.hits 0x54 then
    { s1 with fuses := { s1.fuses with keyRevoke := s1.fuses.keyRevoke ||| (w.word 0x54 &&& 0xF) } }
  else s1

/-! ### HRP (R499) -/

/-- The HRP page's own checks: BOOT_GO only while the boot ROM waits. -/
def chkHrp (s : State) (w : Wr) : Chk := { state := w.hits 0x50 && !s.boot.wait }

/-- The HRP page's effects: HRP_CLR. -/
def effHrp (w : Wr) (s : State) : State :=
  if w.hits 0x54 && bit (w.word 0x54) 0 then (s.setReg .hrp 0x48 0).setReg .hrp 0x4C 0 else s

/-- HRP_STAT as it reads (R499). -/
def State.hrpStat (s : State) : Word :=
  setFld (setFld (s.reg .hrp 0x40) 0 1 (if s.boot.wait then 1 else 0)) 1 1 (if s.boot.firmware then 1 else 0)

end Sys2Proof.Machine
end

