-- ==== Sys2Proof/Machine/Pages.lean ====
section
/-! DEFINITION. Register pages as the fabric sees them: the checks of R58 from step 8 on, what an accepted write does, what
each register reads as, the read latches (R53) and the keyed sequences (R66–R70). -/
namespace Sys2Proof.Machine

/-! ### What each block checks and does -/

/-- The checks of the block behind a page. -/
def State.pageChk (s : State) (w : Wr) : Chk :=
  match w.p with
  | .pwr => chkPwr s w | .lee => chkLee s w
  | .bwCtl => chkBwCtl s w | .bwMap => chkBwMap s w | .bwMon => chkBwMon s w | .slk => chkSlk s w | .lks => chkLks s w
  | .tb => chkTb s w | .tqf => chkTqf s w | .ebb => chkEbb s w | .tqs => chkTqs s w
  | .tio k => chkTio s k w | .tioc => chkTioc s w
  | .t1sc => chkT1sc s w | .t1s q => chkT1s s q w | .tsn n => chkTsn s n w
  | .trk => chkTrk s w | .rmap => chkRmap s w
  | .surfG g => chkSurfG s g w | .surfL g => chkSurfL s g w
  | .ghIn q => chkGhIn s q w | .ghOut p => chkGhOut s p w | .ghInL i => chkGhInL s i w | .ghOutL => chkGhOutL s w
  | .swell e => chkSwell s e w
  | .tmr k => chkTmr s k w | .tmx => chkTmx s w
  | .wdt n => chkWdt s n w | .swdt => chkWdt s 8 w
  | .cv c => chkCv s c w
  | .guard _ | .guardS _ => chkGuard s w
  | .bistC => chkBist s w | .lc => chkLc s w | .sboot => chkSboot s w | .hrp => chkHrp s w
  | .dma k => chkDma s k w | .icl => chkIcl s w
  | .sys | .clk | .tml | .bwFc | .bistR | .rep | .fuse | .dmac | .icc | .icp => {}

/-- What the block behind a page does after a write is stored; `s0` is the state before the write. -/
def State.pageEff (s0 : State) (w : Wr) (s : State) : State :=
  match w.p with
  | .pwr => effPwr w s | .tml => effTml w s
  | .bwCtl => effBwCtl w s | .bwFc => effBwFc w s | .slk => effSlk s0 w s | .lks => effLks s0 w s
  | .tb => effTb s w | .tqf => effTqf s w | .tqs => effTqs s w
  | .tio k => effTio s0 k w s | .tioc => effTioc s0 w s
  | .t1sc => effT1sc s w | .t1s q => effT1s s q w | .tsn n => effTsn s n w
  | .trk => effTrk s0 w s | .rmap => effRmap w s
  | .surfG g => effSurfG s0 g w s | .surfL g => effSurfL s0 g w s
  | .ghIn q => effGhIn q w s | .ghOut p => effGhOut p w s | .ghInL i => effGhInL s0 i w s | .ghOutL => effGhOutL s0 w s
  | .swell e => effSwell s0 e w s
  | .tmr k => effTmr s0 k w s | .tmx => effTmx w s
  | .wdt n => effWdt n w s | .swdt => effWdt 8 w s
  | .cv c => effCv c w s
  | .guard _ | .guardS _ => effGuard w s
  | .bistC => effBist w s | .lc => effLc w s | .sboot => effSboot w s | .hrp => effHrp w s
  | .dma k => effDma k w s | .icc => effIcc w s
  | .sys | .clk | .lee | .bwMap | .bwMon | .ebb | .bistR | .rep | .fuse | .dmac | .icl | .icp => s

/-! ### Keyed sequences (R66–R69) -/

/-- The keyed sequence that stands on a page now: an open one closes 2 µs after key write 2 (R69). -/
def State.keySeq (s : State) (p : Page) : Option KeySeq :=
  match tabGet? s.fab.keys p.base with
  | some (.opened m t) => if s.now < t + 16000 then some (.opened m t) else none
  | x => x

/-- The KEY of the write, 0 where it writes no PAGE_LOCK. -/
def Wr.key (w : Wr) : Nat := if w.hits 0x18 then w.fld 0x18 16 16 else 0

/-- The write carries an RWK register whose sequence is that of R68. -/
def Wr.keyed (w : Wr) : Bool :=
  w.p != .slk && w.offs.any fun o => (regAt w.p o).any RegDef.key

/-- How a write stands to its page's keyed sequence (R69): refused at step 12; a key that is not expected, refused after the
checks of its bits (R67); or in order, with the sequence it leaves. -/
inductive KeyStep where
  | refused | badKey | ok (next : Option KeySeq)
deriving DecidableEq, Repr

/-- The judgement of R69.
Marked DEDUCED and unsafe (notes/assumptions/19.md). -/
def State.keyStep (s : State) (w : Wr) : KeyStep :=
  let k := w.key
  match s.keySeq w.p with
  | none =>
    if w.keyed then .refused
    else if k = 0 then .ok none
    else if k = 0x3C1E then .ok (some (.key1 w.m.id)) else .badKey
  | some (.key1 m) =>
    if k = 0xC3E1 && m = w.m.id then .ok (some (.opened m s.now)) else if k ≠ 0 then .badKey else .refused
  | some (.opened m t) =>
    if m ≠ w.m.id then .refused
    else if w.keyed then .ok none
    else if k ≠ 0 then .badKey
    else .refused

/-- The sequence left by a write, accepted or not (R69): one that stood after key 1 is used up, an open one ends with its
own master's write.
Marked DEDUCED and unsafe (notes/assumptions/19.md). -/
def State.keyAfter (s : State) (w : Wr) (accepted : Bool) : Option KeySeq :=
  match s.keyStep w with
  | .ok n => if accepted then n else match s.keySeq w.p with
    | some (.opened m t) => if m = w.m.id then none else some (.opened m t)
    | _ => none
  | _ => match s.keySeq w.p with
    | some (.opened m t) => if m = w.m.id then none else some (.opened m t)
    | _ => none

/-- Leave a page with this sequence. -/
def State.setKeys (s : State) (p : Page) (k : Option KeySeq) : State :=
  { s with fab := { s.fab with keys := match k with
      | some x => tabPut s.fab.keys p.base x
      | none => tabDel s.fab.keys p.base } }

/-! ### The checks of a page write (R58 steps 6 to 17) -/

/-- The registers that a write carries. -/
def Wr.regs (w : Wr) : List RegDef := w.offs.filterMap fun o => regAt w.p o

/-- Step 6 beyond the width itself: a register that takes only 64-bit writes (R124, R156). -/
def Wr.narrow (w : Wr) : Bool := !w.wide && w.regs.any RegDef.w64

/-- Step 8 (R433, R485, R486). -/
def State.lifeDenies (s : State) (w : Wr) : Bool :=
  s.fuses.lifeCycle = .field && ((w.p == .bwFc && w.hits 0x58) || (w.p == .bistC && bistLife w))

/-- Step 9 (R61, R62). -/
def State.notOwner (s : State) (w : Wr) : Bool :=
  let o := s.regF w.p 0x1C 0 8
  w.m == .tidemark || (o ≠ 0xFF && o ≠ w.m.id && w.m != .breakwater)

/-- A write-once word that has taken its write (R70, R403). -/
def State.spent (s : State) (w : Wr) : Bool := w.offs.any fun o => s.fab.once.contains (w.p.base + o)

/-- Step 11 (R61, R66, R70, R458).
Marked DEDUCED and unsafe (notes/assumptions/24.md). -/
def State.lockDenies (s : State) (w : Wr) : Bool :=
  let l := s.reg w.p 0x18
  (bit l 0 && w.regs.any (lockable w.p))
    || (bit l 1 && w.hits 0x1C)
    || (w.hits 0x18 && w.key = 0 && (l &&& ~~~(w.word 0x18) &&& 3) ≠ 0)
    || s.spent w
    || (match w.p with | .wdt n => s.wdtLocked n w | .swdt => s.wdtLocked 8 w | _ => false)

/-- Step 13 (R44, R60, R67, R130). -/
def State.rsvdBits (s : State) (w : Wr) : Bool :=
  (w.offs.any fun o => match regAt w.p o with
    | none => true
    | some d =>
      let defined := if o = 0x20 || o = 0x24 || o = 0x2C then irqMask w.p else d.defined
      let paired := match w.p with | .tio k => s.pairedWord k o | _ => false
      !paired && (w.word o &&& ~~~(wordOf defined)) ≠ 0)
    || (match w.p with | .tio k => rsvdTio s k w | _ => false)

/-- The header's own range checks (R43, R45, R61, R67, R470). -/
def headerRange (w : Wr) : Bool :=
  let clk := w.fld 0x0C 2 2
  (w.hits 0x0C && (clk = 3 || (fixedClock w.p && clk ≠ 2) || (noNeapClock w.p && clk = 1)))
    || (w.key ≠ 0 && w.fld 0x18 0 2 ≠ 0)
    || (w.hits 0x1C && w.fld 0x1C 0 8 ≠ 0xFF && !masterIdListed (w.fld 0x1C 0 8))

/-- The header names a master that is not fitted (R61). -/
def State.headerAbsent (s : State) (w : Wr) : Bool :=
  w.hits 0x1C && w.fld 0x1C 0 8 ≠ 0xFF && !s.fuses.masterFitted (w.fld 0x1C 0 8)

/-- The state forbids a PAGE_CTRL write: R46; pre-emption (R133); a camera or an engine that runs (R194, R365). -/
def State.ctrlState (s : State) (w : Wr) : Bool :=
  let v := w.word 0x0C
  let en := bit v 0
  let groupRuns := fun (g : Nat) => (List.range 16).any fun c =>
    s.camEn c && (List.range (s.camLanes c)).any fun j => (s.camFirst c + j) / 8 = g
  w.hits 0x0C && ((en && fld v 2 2 = 0) || (bit v 1 && (en || s.enabled w.p))
    || (match w.p with
        | .tio 0 | .t1s 0 => s.preempted
        | .swell e => !en && s.swBusy e
        | .surfG g => (!en && groupRuns g) || (g = 0 && fld v 2 2 = 0 && (List.range 16).any s.camEn)
        | .surfL g => !en && groupRuns g
        | _ => false))

/-- The page's state forbids the write: a soft reset runs (R47); a block register of a page that is not clocked (R48).
Marked DEDUCED and unsafe (notes/assumptions/16.md). -/
def State.pageState (s : State) (w : Wr) : Bool :=
  (s.fab.softBusy.contains w.p.base && !(w.offs.all fun o => o == 0x14 || o == 0x30))
    || (0x40 ≤ w.off && !s.pageRuns w.p)

/-- A page whose own sequence any write to it can break, its header included (R423, R459). -/
def ownSequence : Page → Bool
  | .wdt _ | .swdt | .slk => true
  | _ => false

/-- The reason of a write to a present page, from step 6 on (R58). -/
def State.pageReason (s : State) (w : Wr) : Reason :=
  let c := if 0x40 ≤ w.off || ownSequence w.p then s.pageChk w else {}
  let k := s.keyStep w
  firstReason
    [(w.narrow, .width), (s.lifeDenies w, .lifecycle), (s.notOwner w, .notOwner),
     (w.regs.any RegDef.readOnly, .readOnly), (s.lockDenies w, .locked),
     (k = .refused || c.seq, .sequence), (s.rsvdBits w, .rsvdBits),
     (headerRange w || c.range, .range), (k = .badKey, .sequence),
     (s.headerAbsent w || c.absent, .absent),
     (s.ctrlState w || s.pageState w || c.state, .badState), (c.block ≠ .none, c.block)]

/-! ### What an accepted page write does -/

/-- IRQ_RAW bits that blocks raised in the present fabric cycle: a clear in that cycle leaves them set (R65). -/
def State.flagsNow (s : State) (p : Page) : Nat :=
  (s.fabNow.flags.filter fun e => e.1 = p.base).foldl (fun n e => n ||| e.2) 0

/-- PAGE_ERR after a clear: the rejections recorded in the present fabric cycle come after it (R57). -/
def State.errCleared (s : State) (p : Page) : Word :=
  match (s.fabNow.rejects.filter fun e => e.1 = p.base).reverse with
  | [] => 0
  | [e] => e.2
  | e :: _ => setBit e.2 31 true

/-- The effect of a header word beyond the generic store (R43, R46, R57, R65, R66). -/
def State.headerWord (s : State) (w : Wr) (o : Nat) : State :=
  let v := w.word o
  let p := w.p
  if o = 0x0C then
    let was := s.enabled p
    let s1 := (s.setReg p o (v &&& 0xD)).requestsChanged p
    let s2 := if bit v 1 then (s1.softReset p).powerFollow else s1
    match p with
    | .cv c => if was != bit v 0 then s2.cvEnable c (bit v 0) else s2
    | _ => s2
  else if o = 0x14 then (if bit v 31 then s.setReg p o (s.errCleared p) else s)
  else if o = 0x18 then (if fld v 16 16 = 0 then s.setReg p o (s.reg p o ||| (v &&& 3)) else s)
  else if o = 0x20 then s.setReg p o ((s.reg p o &&& ~~~v) ||| wordOf (s.flagsNow p))
  else if o = 0x2C then s.setReg p 0x20 (s.reg p 0x20 ||| v)
  else if o = 0x30 then (if bit v 31 then s.setReg p o 0 else s)
  else s.setReg p o (s.after w o)

/-- Write-once words take their write (R70, R403). -/
def State.spend (s : State) (w : Wr) : State :=
  let ws := w.offs.filter fun o => (regAt w.p o).any RegDef.once || breachWord w.p o
  ws.foldl (fun s o => { s with fab := { s.fab with once := insertRising (w.p.base + o) s.fab.once } }) s

/-- An accepted write to a page is applied whole (R54). -/
def State.pageApply (s : State) (w : Wr) : State :=
  let s1 := if 0x40 ≤ w.off then State.pageEff s w (s.store w) else w.offs.foldl (fun s o => s.headerWord w o) s
  s1.spend w

/-- A rejected write is recorded in PAGE_ERR (R56), and counts as a rejection of this fabric cycle (R57). -/
def State.pageErr (s : State) (m : Master) (p : Page) (off : Nat) (r : Reason) : State :=
  let e := wordOf (r.code + off * 2 ^ 8 + m.id * 2 ^ 20)
  let old := s.reg p 0x14
  let f := s.fabNow
  { s.setReg p 0x14 (if fld old 0 8 = 0 then e else setBit old 31 true) with
    fab := { f with rejects := (p.base, e) :: f.rejects } }

/-- What a rejected write sets off: a watchdog's violation (R459), the end of a plan sequence (R423). -/
def State.pageRejected (s : State) (w : Wr) : State :=
  match w.p with
  | .wdt n => s.wdtRejected n w
  | .swdt => s.wdtRejected 8 w
  | .slk => State.planKeyed s false w s
  | _ => s

/-- A write to a present page, past steps 1 to 5: its reason, and the state it leaves. -/
def State.pageWrite (s : State) (w : Wr) : Reason × State :=
  let r := s.pageReason w
  let keys := s.keyAfter w (r = .none)
  if r = .none then
    let s1 := s.pageApply w
    let s2 := if w.p = .slk && w.m = .headland then State.planKeyed s true w s1 else s1
    (r, s2.setKeys w.p keys)
  else (r, ((s.pageRejected w).pageErr w.m w.p w.off r).setKeys w.p keys)

/-! ### What a page reads as (R43, R48) -/

/-- PAGE_STAT (R43).
Marked DEDUCED and unsafe (notes/assumptions/15.md), DEDUCED and unsafe (notes/assumptions/20.md). -/
def State.pageStat (s : State) (p : Page) : Word :=
  let ready := s.pageRuns p
  let copy := match p with | .swell e => s.swCopying e | _ => false
  let fault := s.isFenced p || s.pageDomain p == .keptOff || s.raised.any fun x => x.2 = p.base
  let open_ := match s.keySeq p with | some (.opened _ _) => true | _ => false
  wordOf ((if ready then 1 else 0) + (if s.fab.softBusy.contains p.base || copy then 2 else 0) + (if fault then 4 else 0)
    + (if open_ then 8 else 0) + s.pstate p * 16)

/-- PIN_STAT of a pin (R129): the physical level, the logical level driven, whether something runs, SRC_OK.
Marked DEDUCED and unsafe (notes/assumptions/42.md). -/
def State.pinStat (s : State) (port : Nat) : Word :=
  let p := s.pin port
  let level := match s.ball port with | .low => false | .high => true | .hiZ => p.input
  let busy := p.pulse.isSome || p.pwm.run || p.seg.isSome || p.ssiLatch.isSome
  wordOf ((if level then 1 else 0) + (if s.outLevel port == .high then 2 else 0) + (if busy then 4 else 0)
    + (if p.srcOk then 8 else 0))

/-- The words of a timed I/O page that live beside its registers (R129). -/
def State.tioRead (s : State) (k off : Nat) : Word :=
  let p : Page := .tio k
  if off = 0x40 then
    setBit (setBit (s.reg p off) 2 (s.portReleased (32 * k))) 4 (k = 0 && s.preempted)
  else if off = 0x54 then setFld (s.reg p off) 0 9 (s.bank k).buf.length
  else if off < 0x800 then s.reg p off
  else
    let port := 32 * k + (off - 0x800) / 0x40
    let pin := s.pin port
    let r := (off - 0x800) % 0x40
    let cnt := uns 64 pin.cnt
    let c := uns 64 pin.sample.coord
    if r = 0x20 then s.pinStat port
    else if r = 0x28 then wordOf cnt else if r = 0x2C then wordOf (cnt / 2 ^ 32)
    else if r = 0x30 then wordOf c else if r = 0x34 then wordOf (c / 2 ^ 32)
    else if r = 0x38 then wordOf pin.sample.inst else if r = 0x3C then wordOf (pin.sample.inst / 2 ^ 32)
    else s.reg p off

/-- The words of the trigger-log query, held per master (R131). -/
def State.tlogRead (s : State) (m : Master) (off : Nat) : Word :=
  let q := s.tlogOf m
  let c := uns 64 q.coord
  if off = 0x50 then wordOf q.result
  else if off = 0x58 then wordOf q.inst else if off = 0x5C then wordOf (q.inst / 2 ^ 32)
  else if off = 0x60 then wordOf c else if off = 0x64 then wordOf (c / 2 ^ 32)
  else s.reg .tioc off

/-- The words of the Mark Tracker page that are held per master (R156, R162, R182). -/
def State.trkRead (s : State) (m : Master) (off : Nat) : Word :=
  let st := s.openStage m.id
  if off = 0x58 then st.lo.getD 0 else if off = 0x5C then st.hi.getD 0
  else if off = 0x60 then st.cross else if off = 0x64 then st.width else if off = 0x6C then st.res
  else if 0xC00 ≤ off && (off - 0xC00) % 16 < 8 then
    wordOf (tabGet 0 s.trk.fw (m.id * 64 + (off - 0xC00) / 16) / 2 ^ (off % 8 * 8))
  else s.reg .trk off

/-- FEAT_WDT.LOADED: the custom slots that are loaded (R342). -/
def State.slotsLoaded (s : State) : Nat :=
  ((List.range 16).filter s.sv.slotLoaded).foldl (fun n k => n + 2 ^ k) 0

/-- The live value of a block register for a master (R48): 0 while the page is not clocked. -/
def State.blockRead (s : State) (m : Master) (p : Page) (off : Nat) : Word :=
  if !s.pageRuns p then 0
  else match p with
    | .sys => if off = 0x48 then setFld (s.reg p off) 0 16 s.slotsLoaded else s.reg p off
    | .clk => if off = 0x40 then s.clkStat else 0
    | .pwr =>
      if off = 0x48 then s.pwrStat
      else if off = 0x4C then s.domBits 1 32 (· == .on) else if off = 0x50 then s.domBits 33 4 (· == .on)
      else if off = 0x54 then s.domBits 1 32 (· == .keptOff) else if off = 0x58 then s.domBits 33 4 (· == .keptOff)
      else s.reg p off
    | .bwCtl =>
      if off = 0x40 then setBit (s.reg p off) 2 (s.planCommitted && !s.planStale) else s.reg p off
    | .slk =>
      if off = 0x4C then setBit (s.reg p off) 4 s.planStale
      else if off = 0x78 then wordOf s.spdAge else s.reg p off
    | .tb =>
      if off = 0x40 then wordOf s.now else if off = 0x44 then wordOf (s.now / 2 ^ 32) else s.reg p off
    | .tqf => if off = 0x40 then wordOf s.poolFree else s.reg p off
    | .ebb => if 0x900 ≤ off then wordOf (s.qGroup ((off - 0x900) / 4)).length else s.reg p off
    | .tqs =>
      if off = 0xA0 then wordOf s.tqf.delivered else if off = 0xA4 then wordOf (s.tqf.delivered / 2 ^ 32) else s.reg p off
    | .tio k => s.tioRead k off
    | .tioc => s.tlogRead m off
    | .tsn n => if off = 0x44 then setFld (s.reg p off) 1 2 (s.asRole n) else s.reg p off
    | .trk => s.trkRead m off
    | .rmap =>
      if off = 0x4C then wordOf s.rmFill else if off = 0x5C then (s.append m.id).res else s.reg p off
    | .surfG _ | .surfL _ => s.surfRead p off
    | .ghIn _ | .ghOut _ | .ghInL _ | .ghOutL => s.gheryRead p off
    | .tmr k => (s.timerRead m k off).getD (s.reg p off)
    | .wdt n => if off = 0x50 then s.wdtStat n else s.reg p off
    | .swdt => if off = 0x50 then s.wdtStat 8 else s.reg p off
    | .cv c => if off = 0x44 then s.cvStat c else s.reg p off
    | .lc => if off = 0x40 then s.lcState else s.reg p off
    | .hrp => if off = 0x40 then s.hrpStat else s.reg p off
    | .dmac => if off = 0x40 then s.dmaActive else s.reg p off
    | .icc => if off = 0x40 then s.icTop else 0
    | .icp => if off < 0x830 then s.icPend ((off - 0x800) / 4) else s.reg p off
    | _ => s.reg p off

/-- The live value of a page's word: reserved offsets and write-only fields read 0 (R53). -/
def State.pageRead (s : State) (m : Master) (p : Page) (off : Nat) : Word :=
  if !p.present s.fuses then 0
  else match regAt p off with
    | none => 0
    | some d =>
      let v :=
        if off = 0x10 then s.pageStat p
        else if off = 0x28 then s.irqStat p
        else if off < 0x40 then s.reg p off
        else s.blockRead m p off
      v &&& wordOf (d.ro ||| d.rw ||| d.w1c)

/-! ### Read latches (R53, R91, R446) -/

/-- The partners of a lead word of a page, by offset (R53).
Marked DEDUCED and unsafe (notes/assumptions/17.md). -/
def leadPartners (p : Page) (off : Nat) : List Nat :=
  match p with
  | .tb => if off = 0x40 then [0x44] else []
  | .tqs => if off = 0xA0 then [0xA4] else []
  | .tio _ =>
    let r := (off - 0x800) % 0x40
    if off = 0x48 then [0x4C, 0x50]
    else if off < 0x800 then []
    else if r = 0x28 then [off + 4] else if r = 0x30 then [off + 4, off + 8, off + 12] else []
  | .ghInL _ => if 0x800 ≤ off && (off - 0x800) % 0x80 = 0x2C then [off + 4, off + 8, off + 12, off + 16, off + 20] else []
  | .swell _ => if off = 0x54 then [0x58] else []
  | .bwFc => if off = 0x4C then [0x50] else []
  | .slk => if off = 0x54 then [0x58] else []
  | .cv _ => if off = 0x48 then [0x4C, 0x50, 0x54] else []
  | .tmr _ => if 0x800 ≤ off && off < 0x900 && (off - 0x800) % 0x20 = 0 then [off + 4] else []
  | _ => []

/-- A master's latch of a window. -/
def State.latchOf (s : State) (m window : Nat) : Option Latch :=
  s.fab.latches.find? fun l => l.master = m && l.window = window

/-- Leave a master's latch of a window. -/
def State.setLatch (s : State) (m window : Nat) (vals : Option (Tab Word)) : State :=
  let rest := s.fab.latches.filter fun l => !(l.master = m && l.window = window)
  { s with fab := { s.fab with latches := match vals with | some v => ⟨m, window, v⟩ :: rest | none => rest } }

/-- What a read of one word of a latched window answers: `lead` gives the lead word's own value and its partners' values at
the latch, if the word is a lead; a partner answers its latch while it stands, any other word drops it (R53). `once`: a
partner's read uses the latch up (R91, R446).
Marked DEDUCED and unsafe (notes/assumptions/17.md). -/
def State.latchRead (s : State) (m window a : Nat) (live : Word) (lead : Option (Tab Word)) (once : Bool) : Word × State :=
  match lead with
  | some vals => (live, s.setLatch m window (some vals))
  | none =>
    match (s.latchOf m window).bind fun l => tabGet? l.vals a with
    | some v => (v, if once then s.setLatch m window none else s)
    | none => (live, s.setLatch m window none)

/-- The oldest capture record of a bank is popped by a read of CAP_LO (R121, R129). -/
def State.capPop (s : State) (k : Nat) : List Word × State :=
  let b := s.bank k
  match b.buf with
  | [] => ([0, 0, 0], s)
  | x :: xs => ([wordOf x.inst, wordOf (x.inst / 2 ^ 32), x.info], s.setBank k { b with buf := xs })

/-- A read of one word of a page by a master: its value and what the read leaves (R53, R121, R200, R446, R466).
Marked DEDUCED and unsafe (notes/assumptions/17.md), DEDUCED and unsafe (notes/assumptions/18.md). -/
def State.pageReadWord (s : State) (m : Master) (p : Page) (off : Nat) : Word × State :=
  let live := s.pageRead m p off
  let a := p.base + off
  if off < 0x40 || !p.present s.fuses || !s.pageRuns p then s.latchRead m.id p.base a live none false
  else match p with
    | .tio k =>
      if off = 0x48 then
        let (v, s1) := s.capPop k
        s1.latchRead m.id p.base a (v.getD 0 0) (some [(a + 4, v.getD 1 0), (a + 8, v.getD 2 0)]) false
      else if off = 0x4C || off = 0x50 then s.latchRead m.id p.base a 0 none false
      else
        let ps := leadPartners p off
        s.latchRead m.id p.base a live
          (if ps.isEmpty then none else some (ps.map fun o => (p.base + o, s.pageRead m p o))) false
    | .cv c =>
      if off = 0x48 then
        let (v, s1) := s.cvPop c
        s1.latchRead m.id p.base a (v.getD 0 0)
          (some [(a + 4, v.getD 1 0), (a + 8, v.getD 2 0), (a + 12, v.getD 3 0)]) false
      else s.latchRead m.id p.base a live none false
    | .tmr k =>
      let r := (off - 0x800) % 0x20
      let t := 8 * k + (off - 0x800) / 0x20
      let inTimer := 0x800 ≤ off && off < 0x900
      if inTimer && r = 0 then s.latchRead m.id p.base a live (some [(a + 4, s.pageRead m p (off + 4))]) true
      else if inTimer && r = 4 && s.chainHead t then
        let hit := ((s.latchOf m.id p.base).bind fun l => tabGet? l.vals a).isSome
        let (v, s1) := s.latchRead m.id p.base a live none true
        let x := s1.timer t
        let others := x.stale.filter (· ≠ m.id)
        (v, s1.setTimer t { x with stale := if hit then others else m.id :: others })
      else s.latchRead m.id p.base a live none false
    | .surfL g =>
      let (v, s1) := s.latchRead m.id p.base a live none false
      (v, if off = 0x44 then s1.ffAdvance g else s1)
    | _ =>
      let ps := leadPartners p off
      s.latchRead m.id p.base a live
        (if ps.isEmpty then none else some (ps.map fun o => (p.base + o, s.pageRead m p o))) false

end Sys2Proof.Machine
end

