-- ==== Sys2Proof/Machine/Fabric.lean ====
section
/-! DEFINITION. The register fabric and the address map (R34–R37, R49–R59, R62–R65, R72): one access of a master, checked in
the order of R58 and applied whole or answered with one reason. -/
namespace Sys2Proof.Machine

/-! ### The address map (R34) -/

/-- A region of R34, with the parts of the windows that the chapters lay out. -/
inductive Region where
  | rom | tcm | sram | stream
  | swProg (e : Nat) | swData (e : Nat) | absent
  | slots | subRes | ebb | ebbRes | qtab | pool
  | trk | roll
  | page (p : Page)
  | flash | mail | prop | plan
deriving DecidableEq, Repr

/-- The region that a byte address lies in, whoever asks; none where nothing is decoded (R34, R35, R37, R89, R177, R296,
R297). -/
def State.regionAt (s : State) (a : Nat) : Option Region :=
  if a < 0x40000 then some .rom
  else if (0x08000000 ≤ a && a < 0x08040000) || (0x08100000 ≤ a && a < 0x08140000) then some .tcm
  else if 0x20000000 ≤ a && a < 0x20800000 then some .sram
  else if 0x20800000 ≤ a && a < 0x20801000 then some .stream
  else if 0x30000000 ≤ a && a < 0x31000000 then
    let e := (a - 0x30000000) / 0x100000
    let o := a % 0x100000
    if s.fuses.swells ≤ e then some .absent
    else if o < 0x10000 then some (.swProg e)
    else if 0x20000 ≤ o && o < 0x40000 then some (.swData e) else none
  else if 0x38000000 ≤ a && a < 0x3C000000 then
    if a < 0x38100000 then some .slots
    else if a < 0x38100008 then some .subRes
    else if 0x38100010 ≤ a && a < 0x38100020 then some .ebb
    else if 0x38100020 ≤ a && a < 0x38100040 then some .ebbRes
    else if 0x38200000 ≤ a && a < 0x38300000 then some .qtab
    else if 0x38400000 ≤ a && a < 0x38800000 then some .pool
    else none
  else if 0x3C000000 ≤ a && a < 0x3D000000 then (trkLocate a).map fun _ => .trk
  else if 0x3D000000 ≤ a && a < 0x3D200000 then some .roll
  else if 0x40000000 ≤ a && a < 0x41000000 then (Page.ofAddr a).map .page
  else if 0x50000000 ≤ a && a < 0x60000000 then some .flash
  else if 0x60000000 ≤ a && a < 0x60030000 then
    if !s.fuses.tidemark then some .absent else if mirListed (a - 0x60000000) then some .mail else none
  else if 0x60030000 ≤ a && a < 0x60040000 then
    if !s.fuses.tidemark then some .absent
    else if propListed ((a - 0x60030000) / 4 * 4) then some .prop else none
  else if 0x70000000 ≤ a && a < 0x70100000 then some .plan
  else none

/-- The proposal window reaches Headland alone, absent or not (R34, R297). -/
def inProp (a : Nat) : Bool := 0x60030000 ≤ a && a < 0x60040000

/-- A master reaches a region (R34); debug reaches nothing while its port is disabled (R490). -/
def State.reaches (s : State) (m : Master) (a : Nat) : Region → Bool
  | .rom | .tcm | .prop | .plan => m = .headland
  | .stream => m = .host && s.boot.wait
  | .page _ => m != .debug || s.fuses.lifeCycle != .field
  | .slots | .subRes | .ebb | .ebbRes | .qtab | .pool => (match m with
    | .headland | .dma | .host | .swell _ | .tracker => true
    | .debug => s.fuses.lifeCycle != .field
    | _ => false)
  | .sram | .swProg _ | .swData _ | .trk | .roll | .flash | .mail => (match m with
    | .headland | .dma | .host | .swell _ => true
    | .debug => s.fuses.lifeCycle != .field
    | _ => false)
  | .absent => (match m with
    | .headland => true
    | .dma | .host | .swell _ => !inProp a
    | .debug => s.fuses.lifeCycle != .field && !inProp a
    | _ => false)

/-- The region that decodes an access of n bytes for a master: every 32-bit word of it is decoded (R35). -/
def State.decode (s : State) (m : Master) (a n : Nat) : Option Region :=
  match s.regionAt a with
  | none => none
  | some r =>
    if s.reaches m a r && (n ≤ 4 || (s.regionAt (a + 4)).isSome) then some r else none

/-- A region whose accesses are 32 or 64 bits wide (R49, R89, R296, R366).
Marked DEDUCED and unsafe (notes/assumptions/22.md). -/
def Region.wordWide : Region → Bool
  | .rom | .tcm | .sram | .stream | .roll | .flash | .plan | .absent => false
  | _ => true

/-- The width of an access suits its target (step 6 of R58).
Marked DEDUCED and unsafe (notes/assumptions/22.md). -/
def widthOk (r : Region) (n : Nat) : Bool :=
  if r.wordWide then n = 4 || n = 8 else n = 1 || n = 2 || n = 4 || n = 8

/-- A Headland core's own TCMs lie behind no guard (R397). -/
def unguarded (m : Master) (a : Nat) : Bool := m = .headland && (0x08000000 ≤ a && a < 0x08140000)

/-! ### Arbitration (R63) -/

/-- The 32-bit words that an access writes. -/
def accWords (a n : Nat) : List Nat := if n ≤ 4 then [a / 4 * 4] else [a / 4 * 4, a / 4 * 4 + 4]

/-- A page word that each master has for itself (R131, R162, R186).
Marked DEDUCED and unsafe (notes/assumptions/21.md). -/
def perMaster (p : Page) (off : Nat) : Bool :=
  match p with
  | .tioc => off = 0x48
  | .trk => 0x58 ≤ off && off ≤ 0x64 || 0xC00 ≤ off
  | .rmap => 0x900 ≤ off && off < 0x920
  | _ => false

/-- A word whose writes of one fabric cycle are arbitrated.
Marked DESIGN CHOICE and unsafe (notes/assumptions/3.md). -/
def State.arbitrated (s : State) (a : Nat) : Bool :=
  match s.regionAt a with
  | some (.page p) => !perMaster p (a - p.base)
  | some .qtab | some .trk | some .prop => true
  | _ => false

/-- The write meets an earlier one of another master in this fabric cycle (R63): commands of one cycle stand in arbitration
order.
Marked DESIGN CHOICE and unsafe (notes/assumptions/3.md), DEDUCED and unsafe (notes/assumptions/21.md). -/
def State.collides (s : State) (m : Master) (a n : Nat) : Bool :=
  (accWords a n).any fun x => s.arbitrated x && s.fabNow.written.any fun e => e.1 = x && e.2 ≠ m.id

/-- The write takes part in this cycle's arbitration.
Marked DESIGN CHOICE and unsafe (notes/assumptions/3.md). -/
def State.arbitrate (s : State) (m : Master) (a n : Nat) : State :=
  let f := s.fabNow
  let ws := ((accWords a n).filter s.arbitrated).map fun x => (x, m.id)
  { s with fab := { f with written := ws ++ f.written } }

/-! ### Answers -/

/-- A master's access is answered (R50, R52). -/
def State.answer (s : State) (m : Master) (r : Reason) (data : Nat := 0) : State :=
  { s with fab := { s.fab with resp := tabPut s.fab.resp m.id ⟨r, if r = .none then data else 0⟩ } }

/-- What a master was answered last. -/
def State.lastResp (s : State) (m : Master) : Resp := tabGet ⟨.none, 0⟩ s.fab.resp m.id

/-- A request whose E2E code fails (R72). -/
def State.e2eFail (s : State) (r : Region) : State :=
  match r with
  | .page p =>
    (if p.present s.fuses then s.satIncF p 0x30 0 8 else s).raiseFault 0x14 p.base
  | _ => s.raiseFault 0x14

/-- A rejected write is reported where its region's chapter says (R56, R82, R177, R297). -/
def State.reportWrite (s : State) (m : Master) (a : Nat) (r : Reason) : Region → State
  | .page p => if p.present s.fuses then s.pageErr m p (a - p.base) r else s
  | .qtab => s.qtErr m ((a - qtabBase) / 16) r
  | .trk => s.trkErr m a r
  | .prop => s.propErr m (a - 0x60030000) r
  | _ => s

/-! ### Writes of the windows -/

/-- The step of R58 that a reason belongs to. -/
def Reason.step : Reason → Nat
  | .none => 99 | .guardDeny => 1 | .e2e => 3 | .collide => 4 | .align => 5 | .width => 6 | .lifecycle => 8 | .notOwner => 9
  | .readOnly => 10 | .locked => 11 | .sequence => 12 | .rsvdBits => 13 | .range => 14 | .absent => 15 | .badState => 16
  | _ => 17

/-- The reason of the earliest step among several words' first failures.
Marked DEDUCED and unsafe (notes/assumptions/23.md). -/
def earliest : List Reason → Reason
  | [] => .none
  | r :: rs => let x := earliest rs; if r.step ≤ x.step then r else x

/-- The words that a 32-bit or 64-bit write carries, by address. -/
def accVals (a n v : Nat) : List (Nat × Word) :=
  if n ≤ 4 then [(a, wordOf v)] else [(a, wordOf v), (a + 4, wordOf (v / 2 ^ 32))]

/-- A queue-table write (R82, R83); SAFE connections follow the bindings (R142). -/
def State.qtabWrite (s : State) (m : Master) (a n v : Nat) : Reason × State :=
  let ws := accVals a n v
  let q := (a - qtabBase) / 16
  let r := earliest (ws.map fun e => firstReason (chkQtab s m q (e.1 % 16) e.2))
  if r = .none then
    let was := s.qPort q
    let s1 := ws.foldl (fun s e => s.qtabStore q (e.1 % 16) e.2) s
    let fresh := fun (s : State) (port : Nat) => if 448 ≤ port then s.safeRefresh port else s
    (r, if a % 16 = 0 then fresh (fresh s1 was) (s1.qPort q) else s1)
  else (r, s.qtErr m q r)

/-- A tracker-region write (R177–R181). -/
def State.trkWrite (s : State) (m : Master) (a n v : Nat) : Reason × State :=
  let ws := accVals a n v
  let r := firstReason (chkTrkRegion s m ws)
  if r = .none then (r, s.trkRegionStore ws) else (r, s.trkErr m a r)

/-- A proposal-window write (R297).
Marked DEDUCED and unsafe (notes/assumptions/23.md). -/
def State.propWrite (s : State) (m : Master) (a n v : Nat) : Reason × State :=
  let ws := (accVals a n v).map fun e => (e.1 - 0x60030000, e.2)
  let r := firstReason (chkProp s ws)
  if r = .none then (r, s.propStore ws) else (r, s.propErr m (a - 0x60030000) r)

/-- A write into a Swell aperture (R363, R366): to both engines of a pair; refused while the engine's domain is off, into a
running engine's program memory, and into an odd engine of a pair.
Marked DEDUCED and unsafe (notes/assumptions/16.md). -/
def State.swellWrite (s : State) (prog : Bool) (e a n v : Nat) : Reason × State :=
  let r := firstReason [(s.swChecker e || !s.pageRuns (.swell e) || (prog && s.swBusy e), .badState)]
  if r = .none then
    let s1 := s.setMem a n v
    (r, if s.swPaired e && e % 2 = 0 then s1.setMem (a + 0x100000) n v else s1)
  else (r, s)

/-- The effect of a write that has passed steps 1 to 6 of R58, by region. -/
def State.regionWrite (s : State) (m : Master) (a n v : Nat) : Region → Reason × State
  | .rom | .flash | .mail | .roll | .subRes | .ebbRes | .pool => (.readOnly, s)
  | .tcm => (.none, s.setMem a n v)
  | .sram => if s.sramOn (sramBank a) then (.none, s.setMem a n v) else (.badState, s)
  | .stream => (.none, { s with boot := { s.boot with stream := s.boot.stream ++ bytesLE n v } })
  | .swProg e => s.swellWrite true e a n v
  | .swData e => s.swellWrite false e a n v
  | .absent => (.absent, s)
  | .slots => (.none, s.slotWrite m ((a - 0x38000000) / 16) (a % 16) (n = 8) v)
  | .ebb => s.ebbWrite m (a - 0x38100000) (n = 8) v
  | .qtab => s.qtabWrite m a n v
  | .trk => s.trkWrite m a n v
  | .page p => if p.present s.fuses then s.pageWrite ⟨m, p, a - p.base, n = 8, v⟩ else (.absent, s)
  | .prop => s.propWrite m a n v
  | .plan => let r := s.planMemReason m a; (r, if r = .none then s.setMem a n v else s)

/-- A write that its guard has permitted: the checks of R58 from step 2 on, the effect and the report (R50–R58). -/
def State.accWrite (s : State) (x : Access) : Reason × State :=
  let v := x.val % 2 ^ (8 * x.size)
  match s.decode x.m x.addr x.size with
  | none => (.range, s)
  | some r =>
    if !x.e2e then (.e2e, (s.e2eFail r).reportWrite x.m x.addr .e2e r)
    else
      let s1 := s.arbitrate x.m x.addr x.size
      let early := firstReason [(s.collides x.m x.addr x.size, .collide),
        (x.size ≠ 0 && x.addr % x.size ≠ 0, .align), (!widthOk r x.size, .width)]
      if early ≠ .none then (early, s1.reportWrite x.m x.addr early r) else s1.regionWrite x.m x.addr x.size v r

/-- A write of a master: its guard, the other checks, the effect and the answer (R50–R58). -/
def State.fabricWrite (s : State) (x : Access) : State :=
  match if unguarded x.m x.addr then none else s.guardFault x.m .store x.addr x.size with
  | some f => (s.guardDeny x.m .store f).answer x.m .guardDeny
  | none => let (r, s1) := s.accWrite x; s1.answer x.m r

/-! ### Reads -/

/-- A word of the Tidemark mailbox's read-only window: its leads and partners (R275, R296). -/
def mailPartners (off : Nat) : List Nat :=
  if off = 0 then [4, 8, 0xC, 0x10, 0x14, 0x18] else if off = 0x20 then [0x24] else if off = 0x28 then [0x2C] else []

/-- A read of one word of a region that is made of words: its value and what the read leaves. -/
def State.regionWord (s : State) (m : Master) (a : Nat) : Region → Word × State
  | .page p => if p.present s.fuses then s.pageReadWord m p (a - p.base) else (0, s)
  | .subRes =>
    let v := (s.subRes m).value
    if a % 8 = 0 then
      let (w, s1) := s.latchRead m.id 0x38000000 a (wordOf v) (some [(a + 4, wordOf (v / 2 ^ 32))]) true
      (w, s1.setSubRes m { s.subRes m with valid := false })
    else s.latchRead m.id 0x38000000 a (wordOf (v / 2 ^ 32)) none true
  | .ebb =>
    let e := s.ebbOf m
    let v := if a = 0x38100010 then e.cutLo.getD 0 else if a = 0x38100014 then e.cutHi.getD 0 else 0
    s.latchRead m.id 0x38000000 a v none true
  | .ebbRes => s.latchRead m.id 0x38000000 a (s.ebbRes m (a - 0x38100000)) none true
  | .slots => s.latchRead m.id 0x38000000 a 0 none true
  | .qtab => s.latchRead m.id 0x38000000 a (s.qtabRead a) none true
  | .pool => s.latchRead m.id 0x38000000 a (s.poolView ((a - 0x38400000) / 16) (a % 16)) none true
  | .trk => (s.rd a, s)
  | .mail =>
    let ps := mailPartners (a - 0x60000000)
    s.latchRead m.id 0x60000000 a (s.rd a)
      (if ps.isEmpty then none else some (ps.map fun o => (mirAddr o, s.rd (mirAddr o)))) false
  | .prop => (if a = 0x600300F0 then 0 else s.rd a, s)
  | _ => (0, s)

/-- The value of a read that has passed steps 1 to 8 of R58, by region.
Marked DESIGN CHOICE and unsafe (notes/assumptions/8.md), DEDUCED and unsafe (notes/assumptions/16.md). -/
def State.regionRead (s : State) (m : Master) (a n : Nat) (r : Region) : Reason × Nat × State :=
  match r with
  | .rom | .tcm | .flash | .roll | .plan => (.none, s.memN a n, s)
  | .sram => if s.sramOn (sramBank a) then (.none, s.memN a n, s) else (.badState, 0, s)
  | .swProg e | .swData e => (.none, if s.pageRuns (.swell e) then s.memN a n else 0, s)
  | .stream | .absent => (.none, 0, s)
  | _ =>
    let (lo, s1) := s.regionWord m a r
    if n = 4 then (.none, lo.toNat, s1)
    else
      let (hi, s2) := s1.regionWord m (a + 4) r
      (.none, lo.toNat + 2 ^ 32 * hi.toNat, s2)

/-- A read that its guard has permitted: reason, value, and what the read leaves (R50, R53, R58, R72).
Marked DEDUCED and unsafe (notes/assumptions/60.md). -/
def State.accRead (s : State) (x : Access) : Reason × Nat × State :=
  match s.decode x.m x.addr x.size with
  | none => (.range, 0, s)
  | some r =>
    if !x.e2e then (.e2e, 0, s.e2eFail r)
    else
      let early := firstReason [(x.size ≠ 0 && x.addr % x.size ≠ 0, .align), (!widthOk r x.size, .width)]
      if early ≠ .none then (early, 0, s) else s.regionRead x.m x.addr x.size r

/-- A read of a master: its guard, the other checks and the answer. -/
def State.fabricRead (s : State) (x : Access) : State :=
  match if unguarded x.m x.addr then none else s.guardFault x.m .load x.addr x.size with
  | some f => (s.guardDeny x.m .load f).answer x.m .guardDeny
  | none => let (r, v, s1) := s.accRead x; s1.answer x.m r v

end Sys2Proof.Machine
end

