-- ==== Sys2Proof/Machine/Burst.lean ====
section
/-! DEFINITION. Accesses of many words (R399, R402, R482) and the DMA controller's transactions (R452–R454). -/
namespace Sys2Proof.Machine

/-- The parts of a burst: addresses and widths, ascending. -/
abbrev Parts := List (Nat × Nat)

/-- The 32-bit parts of n bytes from an address upward. -/
def wordParts (a n : Nat) : Parts := (List.range (n / 4)).map fun i => (a + 4 * i, 4)

/-- The parts of n bytes at a fixed address: 8 bytes each while W64 allows and 8 are left (R452).
Marked DEDUCED and unsafe (notes/assumptions/97.md). -/
def fixedParts (a n : Nat) (w64 : Bool) : Parts :=
  if w64 then List.replicate (n / 8) (a, 8) ++ (if n % 8 = 4 then [(a, 4)] else []) else List.replicate (n / 4) (a, 4)

/-- The parts read in order: the reason of the first that fails, the bytes read, and what the reads leave. -/
def State.partsRead (s : State) (m : Master) : Parts → Reason × List Nat × State
  | [] => (.none, [], s)
  | (a, n) :: ps =>
    let (r, v, s1) := s.accRead ⟨m, a, n, 0, true⟩
    if r ≠ .none then (r, [], s1)
    else
      let (r2, bs, s2) := s1.partsRead m ps
      (r2, bytesLE n v ++ bs, s2)

/-- The parts written in order on a trial: the reason and part that fail first, and the state after all of them. -/
def State.partsTry (s : State) (m : Master) : Parts → List Nat → Reason × Nat × Nat × State
  | [], _ => (.none, 0, 0, s)
  | (a, n) :: ps, bs =>
    let v := ofBytesLE (bs.take n)
    let (r, s1) := s.accWrite ⟨m, a, n, v, true⟩
    if r ≠ .none then (r, a, n, s1) else s1.partsTry m ps (bs.drop n)

/-- The parts written as one access: all of them, or nothing but the report of the first that fails (R54, R454).
Marked DEDUCED and unsafe (notes/assumptions/112.md). -/
def State.partsWrite (s : State) (m : Master) (ps : Parts) (bs : List Nat) : Reason × State :=
  let (r, a, n, s1) := s.partsTry m ps bs
  if r = .none then (r, s1)
  else match s.decode m a n with
    | some g => (r, s.reportWrite m a r g)
    | none => (r, s)

/-! ### DMA -/

/-- The channels with work, of a priority, in the order of their turns after the one served last (R453). -/
def State.dmaQueue (s : State) (hi : Bool) : List Nat :=
  let last := if hi then s.dma.lastHi else s.dma.lastLo
  ((List.range 32).map fun i => (last + 1 + i) % 32).filter fun c => s.dmaWork c && bit (s.dmaWord c 0xC) 4 == hi

/-- The channel whose turn it is (R453).
Marked DEDUCED and unsafe (notes/assumptions/97.md). -/
def State.dmaNext (s : State) : Option Nat :=
  match s.dmaQueue true with
  | c :: _ => some c
  | [] => (s.dmaQueue false).head?

/-- The bytes of a channel's next transaction: within one 64-byte block of each incrementing side, within the burst and what is
left (R402, R452, R453). -/
def State.dmaSize (s : State) (c : Nat) : Nat :=
  let cfg := s.dmaWord c 0xC
  let done := fld (s.dmaWord c 0x18) 0 24
  let block := fun (k : Nat) (a : Word) => if bit cfg k then 64 - (a.toNat + done) % 64 else 64
  let n := Nat.min (Nat.min (block 0 (s.dmaWord c 0)) (block 1 (s.dmaWord c 4))) (s.dmaLeft c)
  if s.dmaPaced c then Nat.min n (s.dmaBurst c) else n

/-- The bytes of a transaction's two sides as its guard sees them, with the kind of access: source, then destination. -/
def State.dmaSides (s : State) (c n : Nat) : List (AccessKind × Nat × Nat) :=
  let cfg := s.dmaWord c 0xC
  let done := fld (s.dmaWord c 0x18) 0 24
  let unit := if bit cfg 3 && 8 ≤ n then 8 else 4
  let side := fun (k : Nat) (a : Word) =>
    if bit cfg k then ((a.toNat + done) % 2 ^ 32, n) else (a.toNat, unit)
  [(.load, side 0 (s.dmaWord c 0)), (.store, side 1 (s.dmaWord c 4))]

/-- The lowest byte that the DMA guard forbids to a transaction, with its kind (R402).
Marked DEDUCED and unsafe (notes/assumptions/97.md). -/
def State.dmaForbidden (s : State) (c n : Nat) : Option (AccessKind × Nat) :=
  ((s.dmaSides c n).filterMap fun x => (s.guardFault .dma x.1 x.2.1 x.2.2).map fun f => (x.1, f)).foldl
    (fun (b : Option (AccessKind × Nat)) x => if b.any fun y => y.2 ≤ x.2 then b else some x) none

/-- The parts of one side of a transaction. -/
def State.dmaParts (s : State) (c k a n : Nat) : Parts :=
  let cfg := s.dmaWord c 0xC
  if bit cfg k then wordParts a n else fixedParts a n (bit cfg 3)

/-- The channel served is noted for the next turn (R453). -/
def State.dmaServed (s : State) (c : Nat) : State :=
  { s with dma := if bit (s.dmaWord c 0xC) 4 then { s.dma with lastHi := c } else { s.dma with lastLo := c } }

/-- A transaction's bytes were written: DDONE counts them, and the burst or the transfer may end (R453, R454). -/
def State.dmaMoved (s : State) (c n : Nat) : State :=
  let done := fld (s.dmaWord c 0x18) 0 24 + n
  let s1 := s.setReg (dmaPage c) (dmaOff c 0x18) (wordOf done)
  if s1.dmaLeft c = 0 then s1.dmaEnd c true .none 0
  else if !s1.dmaPaced c then s1
  else
    let s2 := s1.setBurst c (s1.dmaBurst c - n)
    if s2.dmaBurst c = 0 && bit (s2.dmaWord c 0x14) 16 then
      (s2.setRegF (dmaPage c) (dmaOff c 0x14) 16 1 0).dmaBegin c
    else s2

/-- DMA_TRANSACTION: the channel whose turn it is makes one transaction of at most 64 bytes (R402, R452–R454).
Marked DEDUCED and unsafe (notes/assumptions/97.md). -/
def State.dmaTransaction (s : State) : State :=
  match s.dmaNext with
  | none => s
  | some c =>
    let n := s.dmaSize c
    let s1 := s.dmaServed c
    let done := fld (s1.dmaWord c 0x18) 0 24
    let at_ := fun (k : Nat) (a : Word) => if bit (s1.dmaWord c 0xC) k then (a.toNat + done) % 2 ^ 32 else a.toNat
    let src := at_ 0 (s1.dmaWord c 0)
    let dst := at_ 1 (s1.dmaWord c 4)
    match s1.dmaForbidden c n with
    | some (k, f) => (s1.guardDeny .dma k f).dmaEnd c false .guardDeny f
    | none =>
      let (r, bs, s2) := s1.partsRead .dma (s1.dmaParts c 0 src n)
      if r ≠ .none then s2.dmaEnd c false r src
      else
        let (w, s3) := s2.partsWrite .dma (s2.dmaParts c 1 dst n) bs
        if w ≠ .none then s3.dmaEnd c false w dst else s3.dmaMoved c n

/-- DMA_TRANSACTION. -/
def execDmaTransaction (s : State) : Host.Outcome State Fault Refusal := .next s.dmaTransaction

end Sys2Proof.Machine
end

