-- ==== Sys2Proof/Machine/SecureBoot.lean ====
section
/-! DEFINITION. The boot ROM (R373, R477–R480, R483): an image's checks, its loading, the rooting of capabilities, the locks,
and the hand-over to firmware. -/
namespace Sys2Proof.Machine

/-! ### Images (R478) -/

/-- A little-endian number in an image. -/
def imgN (bs : List Nat) (o n : Nat) : Nat := ofBytesLE ((bs.drop o).take n)

/-- A section of an image. -/
structure ImgSection where
  type : Nat
  off : Nat
  len : Nat
  dest : Nat
deriving DecidableEq, Repr

/-- The sections that an image's header lists. -/
def imgSections (bs : List Nat) : List ImgSection :=
  (List.range (imgN bs 13 1)).map fun i =>
    let o := 128 + 16 * i
    ⟨imgN bs o 4, imgN bs (o + 4) 4, imgN bs (o + 8) 4, imgN bs (o + 12) 4⟩

/-- The bytes of a section. -/
def secBytes (bs : List Nat) (x : ImgSection) : List Nat := (bs.drop x.off).take x.len

/-- A section of a type, if the image has one. -/
def imgSection (bs : List Nat) (type : Nat) : Option ImgSection := (imgSections bs).find? fun x => x.type == type

/-- LEN of an image. -/
def imgLen (bs : List Nat) : Nat := imgN bs 4 4

/-- Check 1 but for the HRP stream's length: MAGIC and LEN (R478). -/
def imgMagicOk (bs : List Nat) : Bool :=
  imgN bs 0 4 = 0xD1A00001 && imgLen bs % 16 = 0 && 256 ≤ imgLen bs && imgLen bs ≤ 8388864

/-- The destinations of a type's sections (R478). -/
def secDestOk (x : ImgSection) : Bool :=
  let within := fun (lo hi : Nat) => lo ≤ x.dest && x.dest + x.len ≤ hi
  if x.type = 1 then within 0x08000000 0x08040000
  else if x.type = 2 then within 0x08100000 0x08140000
  else if x.type = 3 then within 0x20000000 0x20800000
  else (x.type = 4 || x.type = 5) && x.dest = 0

/-- Two ranges have no byte in common. -/
def apart (a n b m : Nat) : Bool := a + n ≤ b || b + m ≤ a

/-- A relation holds of every two elements of a list, in order. -/
def pairwiseB {α : Type} (f : α → α → Bool) : List α → Bool
  | [] => true
  | x :: xs => xs.all (f x) && pairwiseB f xs

/-- Check 2: reserved fields, the header's ranges and the section rules (R478); over the HRP sections ascend (R483).
Marked DEDUCED and unsafe (notes/assumptions/105.md). -/
def imgRulesOk (bs : List Nat) (hrp : Bool) : Bool :=
  let xs := imgSections bs
  let count := fun (t : Nat) => (xs.filter fun x => x.type = t).length
  imgN bs 14 2 = 0 && imgN bs 20 44 = 0 && imgN bs 8 4 ≤ 64 && imgN bs 12 1 ≤ 3 && 1 ≤ xs.length && xs.length ≤ 8
    && (xs.all fun x => x.off % 16 = 0 && x.len % 16 = 0 && x.off + x.len ≤ imgLen bs && secDestOk x
      && (x.type ≠ 4 || 300 ≤ x.len))
    && pairwiseB (fun x y => apart x.off x.len y.off y.len && (3 < x.type || 3 < y.type || apart x.dest x.len y.dest y.len)) xs
    && count 4 ≤ 1 && count 5 ≤ 1 && 1 ≤ count 1
    && (!hrp || pairwiseB (fun x y => x.off + x.len ≤ y.off) xs)

/-- Checks 3 to 6: the first that fails, 0 when none does (R479).
Marked DEDUCED and unsafe (notes/assumptions/31.md), DEDUCED and unsafe (notes/assumptions/32.md). -/
def State.imgSigned (s : State) (bs : List Nat) : Nat :=
  let slot := imgN bs 12 1
  let key := (bs.drop 64).take 64
  let n := imgLen bs
  let sig := (bs.drop n).take 64
  if s.fuses.keyHash.getD slot [] ≠ hashWords (sha256 key) then 3
  else if bit s.fuses.keyRevoke slot then 4
  else if !ecdsaOk (ofBytesLE (key.take 32)) (ofBytesLE (key.drop 32)) (hashNat (sha256 (bs.take n)))
      (ofBytesLE (sig.take 32)) (ofBytesLE (sig.drop 32)) then 5
  else if imgN bs 8 4 < s.fuses.rbCnt then 6
  else 0

/-! ### Loading -/

/-- The registers that a Breakwater block's words go to, in order (R480). -/
def bootBlock : List Nat :=
  (List.range 64).map (fun i => Page.base .bwMap + 0x800 + 4 * i)
    ++ [Page.base .bwMon + 0x40, Page.base .bwMon + 0x44, Page.base .bwMon + 0x48, Page.base .slk + 0x5C,
        Page.base .slk + 0x60, Page.base .slk + 0x64, Page.base .slk + 0x68, Page.base .slk + 0x6C, Page.base .slk + 0x70,
        Page.base .lks + 0x4C, Page.base .lks + 0x50]

/-- A write of the boot ROM as master 0x01, and whether it was accepted. -/
def State.romWrite (s : State) (a : Nat) (v : Nat) : Bool × State :=
  let s1 := s.fabricWrite ⟨.headland, a, 4, v, true⟩
  ((s1.lastResp .headland).reason = .none, s1)

/-- Words written in order: whether every one was accepted. -/
def State.romWrites (s : State) : List (Nat × Nat) → Bool × State
  | [] => (true, s)
  | (a, v) :: ws =>
    let (ok, s1) := s.romWrite a v
    let (ok2, s2) := s1.romWrites ws
    (ok && ok2, s2)

/-- The Breakwater block of an image is written; a D member's last two words are not (R480).
Marked DEDUCED and unsafe (notes/assumptions/105.md). -/
def State.blockWrite (s : State) (bs : List Nat) : Bool × State :=
  match imgSection bs 4 with
  | none => (true, s)
  | some x =>
    let b := secBytes bs x
    let n := if s.fuses.cores = 3 then 75 else 73
    s.romWrites ((bootBlock.take n).zipIdx.map fun e => (e.1, imgN b (4 * e.2) 4))

/-- The Breakwater pages are locked already: the field die has not reset since they were (R66, R491).
Marked DEDUCED and unsafe (notes/assumptions/24.md). -/
def State.bwLocked (s : State) : Bool := bit (s.reg .bwCtl 0x18) 0

/-- What the checks of an image leave to the boot: RESULT, UNSIGNED, and the state with the sections, the decode table and the
Breakwater block loaded. -/
structure BootTry where
  result : Nat
  unsigned : Bool
  loaded : State

/-- The checks of R479 in order, with what TEST and DEVELOP leave out, and the loading.
Marked DEDUCED and unsafe (notes/assumptions/105.md), DEDUCED and unsafe (notes/assumptions/109.md), DEDUCED and
unsafe (notes/assumptions/123.md). -/
def State.bootTry (s : State) (bs : List Nat) (hrp : Bool) : BootTry :=
  let lc : LifeCycle := s.fuses.lifeCycle
  if !imgMagicOk bs || (hrp && bs.length ≠ imgLen bs + 64) then ⟨1, false, s⟩
  else if !imgRulesOk bs hrp then ⟨2, false, s⟩
  else
    let code := if lc = LifeCycle.test then 0 else s.imgSigned bs
    if code ≠ 0 && lc ≠ LifeCycle.develop then ⟨code, false, s⟩
    else
      let s1 := ((imgSections bs).filter fun x => x.type ≤ 3).foldl (fun s x => s.putBytes x.dest (secBytes bs x)) s
      let table := (imgSection bs 5).map fun x => s1.sv.loadTable (secBytes bs x)
      if table = some none && lc ≠ LifeCycle.test then ⟨7, false, s⟩
      else
        let s2 := match table with
          | some (some c) =>
            let signed := lc ≠ LifeCycle.test && code = 0
            let img := ((imgSection bs 5).map (secBytes bs)).getD []
            let s3 := { s1 with sv := c }
            let s4 := s3.setReg .sys 0x48 (wordOf ((if signed then 2 ^ 16 else 0) + (if lc = LifeCycle.field then 2 ^ 17 else 0)))
            if signed then
              (hashWords (sha256 (tableBytes img))).zipIdx.foldl (fun (s : State) (e : Word × Nat) => s.setReg .sys (0x50 + 4 * e.2) e.1) s4
            else s4
          | _ => s1
        let (ok, s3) := if s2.bwLocked then (true, s2) else s2.blockWrite bs
        if !ok && lc ≠ LifeCycle.test then ⟨8, false, s⟩ else ⟨0, code ≠ 0, s3⟩

/-! ### Rooting and hand-over (R373, R476) -/

/-- The Breach region's first and last bytes, where the boot ROM chose them.
Marked DESIGN CHOICE and safe (notes/assumptions/107.md). -/
def breachRegion : Nat × Nat :=
  let lo := Config.breachPlace 0 % 2 ^ 32 / 32 * 32
  (lo, min (lo + Config.breachPlace 1 % 2 ^ 32 / 32 * 32 + 31) 0xFFFFFFDF)

/-- Steps 1 and 2 of R373's rooting: the Breach region in both sets, and the Breach registers.
Marked DESIGN CHOICE and safe (notes/assumptions/107.md). -/
def State.rootBreach (s : State) : State :=
  let (lo, hi) := breachRegion
  let word := fun (k o : Nat) => Page.base (.guard 0) + regionOff 0x800 k 31 + o
  let (_, s1) := s.romWrites [(word 0 0, lo), (word 0 4, hi - 31), (word 0 8, 0xF), (word 1 0, lo), (word 1 4, hi - 31), (word 1 8, 0xF)]
  let region := fun (perms cursor : Nat) => capOf true 0 perms (hi + 1 - lo) lo cursor
  { s1 with sv := { s1.sv with
      breachVec := capSetCursor rootCode (min (Config.breachPlace 2 % 2 ^ 32 / 4 * 4) 0xFFFFFFF8)
      breachDdc := region (Config.breachPlace 4 % 2 ^ 11) (Config.breachPlace 5)
      breachCsp := region ((Config.breachPlace 6 % 2 ^ 11) ||| 0x1E) (Config.breachPlace 3 / 16 * 16)
      onceVec := true, onceDdc := true, onceCsp := true } }

/-- Steps 3 and 4: pcc narrowed to the image's first I-TCM section at its entry, the root data capability in c1, the sealing root
in c2.
Marked DEDUCED and unsafe (notes/assumptions/108.md). -/
def State.rootFirmware (s : State) (bs : List Nat) : State :=
  match imgSection bs 1 with
  | none => s
  | some x =>
    let c := s.sv
    let b := c.banks.getD 0 svBankFresh
    let b1 := { b with c := tabPut (tabPut b.c 1 rootData) 2 (capOf true 0 0x3C0 256 0 0) }
    { s with sv := { c with pcc := capOf true 0 0x7FF x.len x.dest (x.dest + imgN bs 16 4), banks := listSet c.banks 0 b1 } }

/-- Step 10: PAGE_OWNER, CFG_LOCK and OWNER_LOCK of every Breakwater page (R66).
Marked DEDUCED and unsafe (notes/assumptions/24.md). -/
def State.lockBreakwater (s : State) : State :=
  let ps := [Page.bwCtl, .bwFc, .bwMap, .bwMon, .slk, .lks]
  (s.romWrites (ps.flatMap fun p => [(p.base + 0x1C, 1), (p.base + 0x18, 3)])).2

/-- The watchdogs held since DORMANT resume their counts (R474). -/
def State.resumeWatchdogs (s : State) : State :=
  let s1 := s.boot.held.foldl (fun s h => s.setWdog h.1 { s.wdog h.1 with zero := s.now - 8000 * h.2 }) s
  { s1 with boot := { s1.boot with held := [] } }

/-- The HOLD latch (R417, R476). -/
def State.holdLatch (s : State) : Bool := bit (s.reg .lee 0x50) 0

/-- BOOT_STAT and the image's facts (R498), steps 9 and 10, and, unless the HOLD latch is set, step 11: the ports are released
and firmware runs (R476). -/
def State.bootDone (t : BootTry) (bs : List Nat) (src : Nat) : State :=
  let s1 := t.loaded.setReg .sboot 0x40 (wordOf (src * 16 + (if t.unsigned then 64 else 0) + imgN bs 12 1 * 256))
  let s2 := s1.setReg .sboot 0x44 (wordOf (imgN bs 8 4))
  let s3 := (hashWords (sha256 (bs.take (imgLen bs)))).zipIdx.foldl (fun (s : State) (e : Word × Nat) => s.setReg .sboot (0x60 + 4 * e.2) e.1) s2
  let s4 := s3.rootBreach
  let s5 := if s4.bwLocked then s4 else s4.lockBreakwater
  let s6 := { s5 with boot := { s5.boot with wait := false, stream := [] } }
  if s6.holdLatch then s6
  else
    let s7 := (s6.rootFirmware bs).resumeWatchdogs
    { s7 with boot := { s7.boot with firmware := true, released := true, retained := [] } }

/-! ### Boot sources (R477, R483) -/

/-- The TCMs and System SRAM are cleared (R483, R490). -/
def State.clearRam (s : State) : State :=
  ((s.clearMem 0x08000000 0x08040000).clearMem 0x08100000 0x08140000).clearMem 0x20000000 0x20800000

/-- The bytes of an image slot in flash: the header, and as much as LEN says. -/
def State.slotImage (s : State) (b : Nat) : List Nat :=
  let a := 0x50000000 + b * 0x1000000
  let head := readBytes s.mem a 256
  if imgMagicOk head then readBytes s.mem a (imgLen head + 64) else head

/-- No image: RESULT and SRC; the boot ROM waits for an HRP image where BOOT_CFG allows it (R477, R483). Memory stays as the
reset left it.
Marked DEDUCED and unsafe (notes/assumptions/106.md), DEDUCED and unsafe (notes/assumptions/109.md). -/
def State.bootFails (s : State) (result src : Nat) (wait : Bool) : State :=
  let s1 := s.setReg .sboot 0x40 (wordOf (result + src * 16))
  { s1 with boot := { s1.boot with wait := wait, stream := [] } }

/-- Secure boot from the sources of BOOT_CFG (R477).
Marked DEDUCED and unsafe (notes/assumptions/106.md). -/
def State.secureBoot (s : State) : State :=
  let cfg := fld s.fuses.bootCfg 0 2
  if cfg = 1 then s.bootFails 0 2 true
  else
    let ia := s.slotImage 0
    let ib := s.slotImage 1
    let ta := s.bootTry ia false
    let tb := s.bootTry ib false
    let useB := tb.result = 0 && (ta.result ≠ 0 || imgN ia 8 4 < imgN ib 8 4)
    if useB then State.bootDone tb ib 1
    else if ta.result = 0 then State.bootDone ta ia 0
    else s.bootFails ta.result 0 (cfg = 2)

/-- BOOT_GO with a length: the stream is checked and booted, or fails with its RESULT and the boot ROM clears the TCMs and System
SRAM and waits on (R483).
Marked DEDUCED and unsafe (notes/assumptions/109.md). -/
def State.bootStream (s : State) (len : Nat) : State :=
  if !s.boot.wait then s
  else
    let bs := s.boot.stream
    let t := if bs.length = len then s.bootTry bs true else ⟨1, false, s⟩
    if t.result = 0 then State.bootDone t bs 2 else s.clearRam.bootFails t.result 2 true

/-- Step 8: Headland leaves reset in the boot ROM; in RETURN memory is cleared; secure boot runs (R476, R490). `took`: the ticks
until the hand-over.
Marked DEDUCED and safe (notes/assumptions/13.md), DESIGN CHOICE and unsafe (notes/assumptions/101.md). -/
def State.romBoot (s : State) (took : Nat) : State :=
  let s1 := { s with now := inst64 (s.now + took), fieldNow := inst64 (s.fieldNow + took), boot := { s.boot with running := true } }
  (if s1.fuses.lifeCycle = .return_ then s1.clearRam else s1).secureBoot

/-- A master that the part has sends on the fabric while the compute die runs (R17, R39).
Marked DEDUCED and safe (notes/assumptions/5.md). -/
def State.sends (s : State) (m : Master) : Bool := s.computeRuns && masterIdListed m.id && s.fuses.masterFitted m.id

/-- A write as its master's bus carries it: while the compute die runs, it takes its effect; an accepted BOOT_GO boots from the
stream (R483).
Marked DEDUCED and safe (notes/assumptions/5.md), DEDUCED and unsafe (notes/assumptions/7.md). -/
def State.busWrite (s : State) (x : Access) : State :=
  if !s.sends x.m then s
  else
    let s1 := s.fabricWrite x
    let go := Page.base .hrp + 0x50
    if s.boot.wait && (x.addr = go || x.addr + 4 = go && x.size = 8) && (s1.lastResp x.m).reason = .none then
      s1.bootStream (x.val / (if x.addr = go then 1 else 2 ^ 32) % 2 ^ 24)
    else s1

/-- A read as its master's bus carries it.
Marked DEDUCED and safe (notes/assumptions/5.md). -/
def State.busRead (s : State) (x : Access) : State := if s.sends x.m then s.fabricRead x else s

end Sys2Proof.Machine
end

