-- ==== Sys2Proof/Machine/Boot.lean ====
section
/-! DEFINITION. Start-up, resets, rails, wakes and supplies (R418, R472–R476, R484–R488, R491, R508–R513), and the end of a
runtime BIST sequence. -/
namespace Sys2Proof.Machine

/-! ### Start-up BIST (R484, R488, R497) -/

/-- A domain whose memories or logic start-up BIST tests (R484).
Marked DEDUCED and unsafe (notes/assumptions/111.md). -/
def bistTested (f : Fuses) (d : Nat) : Bool :=
  d = 12 || d = 13 || (d = 14 && f.cores = 3) || (15 ≤ d && d ≤ 19) || (20 ≤ d && d ≤ 23 && 4 * (d - 20) < f.swells)
    || (24 ≤ d && d ≤ 31 && 8 * (d - 24) < f.surfs) || d = 35

/-- A failure of start-up BIST in any domain sets the HOLD latch: DX-9512T in FIELD (R488). -/
def State.bistStrict (s : State) : Bool := s.fuses.kind = .t9512 && s.fuses.lifeCycle = .field

/-- START of BIST_RES for a domain: 1 pass, 2 repaired, 3 fail; and the repairs made.
Marked DEDUCED and unsafe (notes/assumptions/111.md). -/
def State.bistStart (s : State) (f : StartFacts) (d : Nat) : Nat × Nat :=
  match f.bist.find? fun x => x.1 = d with
  | none => (if bistTested s.fuses d then 1 else 0, 0)
  | some (_, some n) => if s.bistStrict then (3, 0) else (2, n)
  | some (_, none) => (3, 0)

/-- A domain that fails without repair sets the HOLD latch on any part (R488). -/
def bistVital (d : Nat) : Bool := (12 ≤ d && d ≤ 16) || d = 35 || d = 36

/-- Start-up BIST: results, repairs, domains kept off, and the HOLD latch (R488, R497). -/
def State.startBist (s : State) (f : StartFacts) : State :=
  let ds := (List.range 25).map (· + 12)
  let s1 := ds.foldl (fun (s : State) d =>
    let (r, n) := s.bistStart f d
    let s2 := s.setReg .bistR (0x800 + 4 * d) (wordOf (r + min n 65535 * 2 ^ 16))
    if r = 3 && !s.bistStrict && !bistVital d then (s2.setDomain d .keptOff).irqBit .pwr 1 else s2) s
  let total := (ds.map fun d => (s.bistStart f d).2).foldl (· + ·) 0
  let s2 := ((s1.setReg .bistR 0x40 (wordOf (f.bistTime % 65536))).setRegF .rep 0x40 0 16 (min total 65535)).setReg .rep 0x44
    (wordOf (f.spares % 65536))
  if ds.any fun d => (s.bistStart f d).1 = 3 && (s.bistStrict || bistVital d) then s2.setRegF .lee 0x50 0 1 1 else s2

/-! ### Resets of the device (R475, R491) -/

/-- The main rails fail: every EN drops, both dies are reset with cause RAIL_FAIL, and one retry is owed unless this was it
(R475).
Marked DEDUCED and unsafe (notes/assumptions/102.md). -/
def State.railDown (s : State) : State :=
  let n := s.supply.railFails + 1
  let s1 := (s.fullReset 0 s.flash).resetCause 7 0
  { s1 with supply := { s1.supply with rails := false, railFails := n, railAt := s.now, railDead := 2 ≤ n } }

/-- Steps 5 to 11 of the start-up sequence on dies that have reset (R476): self-test, rails, BIST where `bist` says, boot.
Marked DEDUCED and safe (notes/assumptions/30.md), DESIGN CHOICE and unsafe (notes/assumptions/101.md). -/
def State.startUp (s : State) (f : StartFacts) (bist : Bool) : State :=
  let s1 := if f.selfTest then s else s.setRegF .lee 0x50 0 1 1
  if !f.rails then s1.railDown
  else
    let s2 := { s1 with supply := { s1.supply with rails := true, railFails := 0 } }
    let s3 := s2.setRegF .tioc 0x40 0 1 1
    (if bist then s3.startBist f else s3).romBoot f.took

/-- POWER_ON: VSUP is valid after OFF, or the start-up sequence has not reached step 8; everything but non-volatile memory starts
anew (R476, R491).
Marked DEDUCED and unsafe (notes/assumptions/10.md). -/
def State.powerOn (s : State) (f : StartFacts) : State :=
  if !s.supply.off && s.boot.running then s
  else
    let s1 := s.fullReset 0 s.flash
    (({ s1 with regs := [], supply := ⟨true, none, false, false, true, 0, 0, false⟩ }).resetCause 1 0).startUp f true

/-- A DEVICE or HOLD reset of a source: both dies, from step 3 (R417, R491, R512).
Marked DEDUCED and unsafe (notes/assumptions/104.md). -/
def State.deviceReset (s : State) (cause src : Nat) (f : StartFacts) : State :=
  ((s.fullReset 0 s.flash).resetCause cause src).startUp f true

/-- DEVICE_RESET: a DEVICE or HOLD reaction's reset starts at t_f + 2 µs (R417). -/
def State.deviceDue (s : State) (f : StartFacts) : State :=
  match s.bw.dev with
  | some (tf, cls, src) =>
    if tf + 16000 ≤ s.now then
      let s1 := if cls = 7 then s.setRegF .lee 0x50 0 1 1 else s
      s1.deviceReset (if cls = 7 then 3 else 2) src f
    else s
  | none => s

/-- RESET_PIN: RESET_N low for 10 µs (R491).
Marked DEDUCED and unsafe (notes/assumptions/104.md). -/
def State.resetPin (s : State) (f : StartFacts) : State :=
  if s.supply.off || s.supply.railDead then s else { s.deviceReset 2 0 f with dormant := .awake }

/-- APPLICATION_RESET at X = P + 24 µs of a Slack stop (R429): the compute die alone is reset and boots from step 8; during a
supply loss the main rails go down instead (R510).
Marked DEDUCED and unsafe (notes/assumptions/104.md). -/
def State.applicationReset (s : State) (f : StartFacts) : State :=
  match s.bw.play with
  | some y =>
    if y.resetDue && y.p + 192000 ≤ s.now then
      let s1 := (s.appReset (y.p + 192000)).resetCause 4 (s.regF .bwCtl 0x58 0 6)
      if s.supply.loss.isSome then { s1 with supply := { s1.supply with rails := false } }
      else s1.romBoot f.took
    else s
  | none => s

/-- DEBUG_RESET: the debug port asks for a reset, where it is enabled (R490, R491). -/
def State.debugReset (s : State) (f : StartFacts) : State :=
  if s.fuses.lifeCycle = .field || !s.computeRuns then s else ((s.appReset s.now).resetCause 6 0).romBoot f.took

/-- RAIL_FAILURE: a SEQ_PG falls while the rails run, outside a supply loss (R475, R511). -/
def State.railFailure (s : State) : State :=
  let asleep := match s.dormant with | .asleep _ _ _ _ => true | _ => false
  if s.supply.rails && !s.supply.off && !s.bw.lossLatched && !asleep then s.railDown else s

/-- RAIL_RETRY: the whole sequence once more (R475).
Marked DEDUCED and unsafe (notes/assumptions/102.md). -/
def State.railRetry (s : State) (f : StartFacts) : State :=
  if !s.supply.rails && !s.supply.railDead && !s.supply.off && s.supply.loss.isNone then
    { s with now := 0, fieldNow := 0 }.startUp { f with selfTest := true } true
  else s

/-! ### Wakes (R472–R474) -/

/-- A wake source, by its bit of WAKE_EN: before D it aborts DORMANT's entry; after, it wakes the module, `periods` after D.
Marked DEDUCED and unsafe (notes/assumptions/103.md). -/
def State.wake (s : State) (k periods : Nat) (f : StartFacts) : State :=
  if !bit (s.reg .lee 0x40) k then s
  else match s.dormant with
  | .awake => s
  | .entering _ _ _ => { s.setRegF .pwr 0x48 4 2 2 with dormant := .awake }
  | .asleep _ _ _ _ =>
    let s1 := (({ s with dormant := .awake, raised := [] }.setRegF .pwr 0x48 4 2 1).setReg .lee 0x48 (wordOf (2 ^ k))).setReg .lee 0x4C (sat32 periods)
    (s1.resetCause 5 0).startUp f s1.fuses.wakeBist

/-- WAKE_TIMER_EXPIRY: WAKE_TIME periods after D.
Marked DEDUCED and unsafe (notes/assumptions/103.md). -/
def State.wakeTimer (s : State) (f : StartFacts) : State :=
  match s.dormant with
  | .asleep _ _ _ _ => s.wake 0 (s.reg .lee 0x44).toNat f
  | _ => s

/-- LEGAL_ENCODER_EDGE: a legal input changes (R266); in DORMANT a change of 4 counts on either channel raises the motion wake
(R271). -/
def State.legalInput (s : State) (w : Nat) (a b : Bool) (periods : Nat) (f : StartFacts) : State :=
  let s1 := s.legalEdge w a b s.fieldNow
  let moved := fun (c0 c1 : Int) => 4 ≤ (s1.tm.w0.count - c0).natAbs || 4 ≤ (s1.tm.w1.count - c1).natAbs
  match s1.dormant with
  | .awake => s1
  | .entering _ c0 c1 => if moved c0 c1 then s1.wake 1 periods f else s1
  | .asleep _ _ c0 c1 => if moved c0 c1 then s1.wake 1 periods f else s1

/-! ### Supplies (R508–R513) -/

/-- SUPPLY_LOSS: VSUP has been below 4.3 V for 1 µs; VHOLD feeds the pre-regulator, Tidemark goes into HOLDUP and VSUP_FAIL
reaches the collector (R508, R510).
Marked DEDUCED and unsafe (notes/assumptions/102.md). -/
def State.supplyLoss (s : State) : State :=
  if s.supply.off || s.supply.loss.isSome then s
  else
    let s1 := { s with supply := { s.supply with valid := false, loss := some s.now } }
    let s2 := if s.fuses.tidemark && s.tm.run then s1.tmHoldup else s1
    if s.isAsleep then s2 else s2.setPresent 0x35 0 true

/-- Tidemark as VSUP returns: it leaves HOLDUP, or restarts if it had taken its final commit (R293, R512). -/
def State.tmReturn (s : State) : State :=
  let s1 := if s.tm.stopped then s.tmStop false else s
  s1.setTm { s1.tm with holdup := false }

/-- SUPPLY_RETURN: VSUP is valid again during a supply loss; the device acts by how far VHOLD has fallen (R512).
Marked DEDUCED and unsafe (notes/assumptions/102.md), DEDUCED and unsafe (notes/assumptions/104.md). -/
def State.supplyReturn (s : State) (f : StartFacts) : State :=
  if s.supply.off || s.supply.loss.isNone then s
  else
    let s1 := ({ s with supply := { s.supply with valid := true, loss := none, brown := false } }).tmReturn.setPresent 0x35 0 false
    let s2 := { s1 with raised := s1.raised.filter fun x => x.1 ≠ 0x35, bw := { s1.bw with lossLatched := false } }
    if s.supply.brown then { s2.deviceReset 2 0x35 f with dormant := .awake }
    else if s.supply.rails || s.isAsleep || s.supply.railDead then s2
    else if f.rails then { s2 with supply := { s2.supply with rails := true } }.romBoot f.took
    else s2.railDown

/-- BREAKWATER_BROWNOUT: VHOLD falls through Breakwater's threshold; it stops, and Lee holds the hold-up ports at their default
levels (R431, R513). -/
def State.breakwaterBrown (s : State) : State :=
  if s.supply.off || s.supply.loss.isNone then s
  else
    let s1 := s.holdUpDefaults
    { s1 with supply := { s1.supply with brown := true }, bw := { s1.bw with stopped := true } }

/-- LEE_BROWNOUT: VHOLD falls through Lee's threshold: OFF; only non-volatile memory remains (R508). -/
def State.leeBrown (s : State) : State :=
  if s.supply.off || s.supply.loss.isNone then s
  else
    let s1 := s.tmStop false
    let s2 := s1.fullReset 0 s1.flash
    { s2 with regs := [], supply := ⟨false, none, true, true, false, 0, 0, false⟩, tm := { s2.tm with holdup := false } }

/-! ### Runtime BIST (R485, R488, R496) -/

/-- The domain that a runtime sequence tests.
Marked DEDUCED and unsafe (notes/assumptions/111.md). -/
def bistDomain (seq target : Nat) : Nat :=
  if seq = 1 then 16 + target else if seq = 2 || seq = 3 then 35 else if seq = 4 then 20 + target / 4
  else if seq = 5 then 24 + target else if seq = 6 then (if target < 3 then 32 else if target < 6 then 33 else 34) else seq - 0x80

/-- BIST_SEQUENCE_DONE: the running sequence ends; a failure raises BIST_RT (R420, R485, R496, R497).
Marked DEDUCED and unsafe (notes/assumptions/111.md). -/
def State.bistDone (s : State) (pass : Bool) : State :=
  let st := s.reg .bistC 0x48
  if !bit st 0 then s
  else
    let s1 := (s.setRegF .bistC 0x48 0 3 (if pass then 2 else 4)).setRegF .bistR (0x800 + 4 * bistDomain (fld st 8 8) (fld st 16 8)) 2 2
      (if pass then 1 else 3)
    let s2 := s1.irqBit .bistC 0
    if pass then s2 else (s2.irqBit .bistC 1).raiseFault 0x3A

/-! ### The commands -/

/-- POWER_ON. -/
def execPowerOn (f : StartFacts) (s : State) : Host.Outcome State Fault Refusal := .next (s.powerOn f)
/-- RAIL_FAILURE. -/
def execRailFailure (s : State) : Host.Outcome State Fault Refusal := .next s.railFailure
/-- RAIL_RETRY. -/
def execRailRetry (f : StartFacts) (s : State) : Host.Outcome State Fault Refusal := .next (s.railRetry f)
/-- DEVICE_RESET. -/
def execDeviceReset (f : StartFacts) (s : State) : Host.Outcome State Fault Refusal := .next (s.deviceDue f)
/-- APPLICATION_RESET. -/
def execApplicationReset (f : StartFacts) (s : State) : Host.Outcome State Fault Refusal := .next (s.applicationReset f)
/-- RESET_PIN. -/
def execResetPin (f : StartFacts) (s : State) : Host.Outcome State Fault Refusal := .next (s.resetPin f)
/-- DEBUG_RESET. -/
def execDebugReset (f : StartFacts) (s : State) : Host.Outcome State Fault Refusal := .next (s.debugReset f)
/-- WAKE_TIMER_EXPIRY. -/
def execWakeTimerExpiry (f : StartFacts) (s : State) : Host.Outcome State Fault Refusal := .next (s.wakeTimer f)
/-- WAKE_PIN: WAKE_N low for 1 ms (R474). -/
def execWakePin (periods : Nat) (f : StartFacts) (s : State) : Host.Outcome State Fault Refusal := .next (s.wake 2 periods f)
/-- HOST_WAKE: HRP_CS_N falls (R474). -/
def execHostWake (periods : Nat) (f : StartFacts) (s : State) : Host.Outcome State Fault Refusal := .next (s.wake 3 periods f)
/-- LEGAL_ENCODER_EDGE. -/
def execLegalEncoderEdge (w : Nat) (a b : Bool) (periods : Nat) (f : StartFacts) (s : State) : Host.Outcome State Fault Refusal :=
  .next (if w ≤ 1 then s.legalInput w a b periods f else s)
/-- SUPPLY_LOSS. -/
def execSupplyLoss (s : State) : Host.Outcome State Fault Refusal := .next s.supplyLoss
/-- SUPPLY_RETURN. -/
def execSupplyReturn (f : StartFacts) (s : State) : Host.Outcome State Fault Refusal := .next (s.supplyReturn f)
/-- BREAKWATER_BROWNOUT. -/
def execBreakwaterBrownout (s : State) : Host.Outcome State Fault Refusal := .next s.breakwaterBrown
/-- LEE_BROWNOUT. -/
def execLeeBrownout (s : State) : Host.Outcome State Fault Refusal := .next s.leeBrown
/-- BIST_SEQUENCE_DONE. -/
def execBistSequenceDone (pass : Bool) (s : State) : Host.Outcome State Fault Refusal := .next (s.bistDone pass)

end Sys2Proof.Machine
end

