-- ==== Sys2Proof/Machine/Bus.lean ====
section
/-! DEFINITION. The commands that are a master's write or read of one named register or window: each is that access on the
register fabric, with every check of R58. -/
namespace Sys2Proof.Machine

/-- A 32-bit write of a page register.
Marked DEDUCED and safe (notes/assumptions/5.md). -/
def State.pageWr (s : State) (m : Master) (p : Page) (off v : Nat) : State :=
  if p.valid then s.busWrite ⟨m, p.base + off, 4, v, true⟩ else s
/-- A 64-bit write of a register pair.
Marked DEDUCED and safe (notes/assumptions/5.md). -/
def State.pageWr64 (s : State) (m : Master) (p : Page) (off v : Nat) : State :=
  if p.valid then s.busWrite ⟨m, p.base + off, 8, v, true⟩ else s
/-- A read of a page register, or of the pair.
Marked DEDUCED and safe (notes/assumptions/5.md). -/
def State.pageRd (s : State) (m : Master) (p : Page) (off : Nat) (wide : Bool) : State :=
  if p.valid then s.busRead ⟨m, p.base + off, if wide then 8 else 4, 0, true⟩ else s
/-- A write of 32 or 64 bits at an address of a window.
Marked DEDUCED and safe (notes/assumptions/5.md). -/
def State.winWr (s : State) (m : Master) (a : Nat) (wide : Bool) (v : Nat) : State :=
  s.busWrite ⟨m, a, if wide then 8 else 4, v, true⟩
/-- A read of 32 or 64 bits at an address of a window.
Marked DEDUCED and safe (notes/assumptions/5.md). -/
def State.winRd (s : State) (m : Master) (a : Nat) (wide : Bool) : State := s.busRead ⟨m, a, if wide then 8 else 4, 0, true⟩
/-- A write of a queue-table word (R81). -/
def State.queueWr (s : State) (m : Master) (q off : Nat) (wide : Bool) (v : Nat) : State :=
  if q < 65536 then s.winWr m (qtabBase + 16 * q + off) wide v else s
/-- A write into a submission slot (R89, R90). -/
def State.slotWr (s : State) (m : Master) (slot off : Nat) (wide : Bool) (v : Nat) : State :=
  if slot < 65536 then s.winWr m (0x38000000 + 16 * slot + off) wide v else s
/-- The write that ends a submission: bytes 12–15, or 8–15 (R90). -/
def State.slotEnd (s : State) (m : Master) (slot : Nat) (wide : Bool) (pay metaCrc : Word) : State :=
  if wide then s.slotWr m slot 8 true (pay.toNat + 2 ^ 32 * metaCrc.toNat) else s.slotWr m slot 12 false metaCrc.toNat
/-- The write that executes an ebb: EBB_CMD, or its high word (R99). -/
def State.ebbCmd (s : State) (m : Master) (wide : Bool) (target high : Nat) : State :=
  if wide then s.winWr m 0x38100018 true (target % 2 ^ 32 + 2 ^ 32 * high) else s.winWr m 0x3810001C false high
/-- A write of an ingress or egress LINK_CFG (R257). -/
def State.linkCfg (s : State) (m : Master) (out : Bool) (l v : Nat) : State :=
  if out then (if l < 4 then s.pageWr m .ghOutL (outOff l 0) v else s)
  else if l < 24 then s.pageWr m (inPage l) (inOff l 0) v else s
/-- KEY_SEQUENCE_TIMEOUT (R69).
Marked DEDUCED and unsafe (notes/assumptions/19.md). -/
def State.keyExpires (s : State) (p : Page) : State :=
  match tabGet? s.fab.keys p.base with
  | some (.opened _ t) => if t + 16000 ≤ s.now then s.setKeys p none else s
  | _ => s

/-- REGISTER_WRITE: any write on the register fabric (R58). -/
def execRegisterWrite (a : Access) (s : State) : Host.Outcome State Fault Refusal :=
  .next (s.busWrite a)
/-- PAGE_CTRL_WRITE: PAGE_CTRL (R46). -/
def execPageCtrlWrite (m : Master) (p : Page) (v : Nat) (s : State) : Host.Outcome State Fault Refusal :=
  .next (s.pageWr m p 0x0C v)
/-- SOFT_RESET: PAGE_CTRL with SOFT_RESET = 1 and ENABLE = 0 (R46, R47). -/
def execSoftReset (m : Master) (p : Page) (clkReq : Nat) (s : State) : Host.Outcome State Fault Refusal :=
  .next (s.pageWr m p 0x0C (2 + clkReq * 4))
/-- LOCK_WRITE: PAGE_LOCK with KEY = 0 (R66). -/
def execLockWrite (m : Master) (p : Page) (cfg owner : Bool) (s : State) : Host.Outcome State Fault Refusal :=
  .next (s.pageWr m p 0x18 (cfg.toNat + 2 * owner.toNat))
/-- KEY_WRITE: PAGE_LOCK with a KEY (R67–R69). -/
def execKeyWrite (m : Master) (p : Page) (key low : Nat) (s : State) : Host.Outcome State Fault Refusal :=
  .next (s.pageWr m p 0x18 (key % 2 ^ 16 * 2 ^ 16 + low % 2 ^ 16))
/-- KEY_SEQUENCE_TIMEOUT: an open keyed sequence closes 2 µs after key write 2 (R69). -/
def execKeySequenceTimeout (p : Page) (s : State) : Host.Outcome State Fault Refusal :=
  .next (s.keyExpires p)
/-- PAGE_ERR_CLEAR: PAGE_ERR with OVF = 1 (R57). -/
def execPageErrClear (m : Master) (p : Page) (s : State) : Host.Outcome State Fault Refusal :=
  .next (s.pageWr m p 0x14 0x80000000)
/-- IRQ_SET: IRQ_SET (R65). -/
def execIrqSet (m : Master) (p : Page) (bits : Nat) (s : State) : Host.Outcome State Fault Refusal :=
  .next (s.pageWr m p 0x2C bits)
/-- E2E_STAT_CLR: E2E_STAT with CLR = 1 (R43). -/
def execE2eStatClr (m : Master) (p : Page) (s : State) : Host.Outcome State Fault Refusal :=
  .next (s.pageWr m p 0x30 0x80000000)
/-- TB_NOW_READ: TB_NOW_LO (R80). -/
def execTbNowRead (m : Master) (wide : Bool) (s : State) : Host.Outcome State Fault Refusal :=
  .next (s.pageRd m .tb 0x40 wide)
/-- TB_MODE_WRITE: TB_MODE (R76). -/
def execTbModeWrite (m : Master) (v : Nat) (s : State) : Host.Outcome State Fault Refusal :=
  .next (s.pageWr m .tb 0x48 v)
/-- SKEW_CLR: TB_CLR with SKEW_CLR = 1 (R80). -/
def execSkewClr (m : Master) (s : State) : Host.Outcome State Fault Refusal :=
  .next (s.pageWr m .tb 0x68 1)
/-- QUEUE_TABLE_WRITE: an OWN or LIMIT word of the queue table (R82). -/
def execQueueTableWrite (m : Master) (q : Nat) (limit : Bool) (v : Nat) (s : State) : Host.Outcome State Fault Refusal :=
  .next (s.queueWr m q (if limit then 8 else 4) false v)
/-- QUEUE_BIND_WRITE: a BIND word, with OWN when 64 bits wide (R82, R83). -/
def execQueueBindWrite (m : Master) (q : Nat) (wide : Bool) (v : Nat) (s : State) : Host.Outcome State Fault Refusal :=
  .next (s.queueWr m q 0 wide v)
/-- SUBMIT_STAGE: bytes 0–3, 4–7 or 8–11 of a slot, or bytes 0–7 when wide (R90). -/
def execSubmitStage (m : Master) (slot part : Nat) (wide : Bool) (v : Nat) (s : State) : Host.Outcome State Fault Refusal :=
  .next (if part ≤ 2 && (!wide || part = 0) then s.slotWr m slot (4 * part) wide v else s)
/-- SUBMIT_ACT: bytes 12–15 of a slot, or bytes 8–15 when wide, of an entry that is no release (R92). -/
def execSubmitAct (m : Master) (slot : Nat) (wide : Bool) (pay metaCrc : Word) (s : State) : Host.Outcome State Fault Refusal :=
  .next (if fld metaCrc 12 3 = 2 then s else s.slotEnd m slot wide pay metaCrc)
/-- RELEASE_ARM: bytes 12–15 of a slot, or bytes 8–15 when wide, of KIND RELEASE (R98). -/
def execReleaseArm (m : Master) (slot : Nat) (wide : Bool) (pay metaCrc : Word) (s : State) :
    Host.Outcome State Fault Refusal :=
  .next (s.slotEnd m slot wide pay (setFld metaCrc 12 3 2))
/-- SUB_RES_READ: SUB_RES (R91). -/
def execSubResRead (m : Master) (wide : Bool) (s : State) : Host.Outcome State Fault Refusal :=
  .next (s.winRd m 0x38100000 wide)
/-- EBB_CUT_STAGE: EBB_CUT, or one half of it (R99). -/
def execEbbCutStage (m : Master) (hi wide : Bool) (v : Nat) (s : State) : Host.Outcome State Fault Refusal :=
  .next (if wide then s.winWr m 0x38100010 true v else s.winWr m (if hi then 0x38100014 else 0x38100010) false v)
/-- EBB_CMD_LOW_STAGE: the low word of EBB_CMD (R99). -/
def execEbbCmdLowStage (m : Master) (v : Nat) (s : State) : Host.Outcome State Fault Refusal :=
  .next (s.winWr m 0x38100018 false v)
/-- EBB_HANDLE: EBB_CMD with SCOPE 0: 64 bits wide, or its high word (R99–R101). -/
def execEbbHandle (m : Master) (wide : Bool) (target high : Nat) (s : State) : Host.Outcome State Fault Refusal :=
  .next (s.ebbCmd m wide target (setFld (wordOf high) 8 2 0).toNat)
/-- EBB_QUEUE: EBB_CMD with SCOPE 1: 64 bits wide, or its high word (R99–R101). -/
def execEbbQueue (m : Master) (wide : Bool) (target high : Nat) (s : State) : Host.Outcome State Fault Refusal :=
  .next (s.ebbCmd m wide target (setFld (wordOf high) 8 2 1).toNat)
/-- EBB_GROUP: EBB_CMD with SCOPE 2: 64 bits wide, or its high word (R99–R101). -/
def execEbbGroup (m : Master) (wide : Bool) (target high : Nat) (s : State) : Host.Outcome State Fault Refusal :=
  .next (s.ebbCmd m wide target (setFld (wordOf high) 8 2 2).toNat)
/-- QT_ERR_CLR: QT_ERR_CLR (R108). -/
def execQtErrClr (m : Master) (s : State) : Host.Outcome State Fault Refusal :=
  .next (s.pageWr m .tqf 0x58 1)
/-- LOG_CONFIG_WRITE: a log's base or size: 0 the undelivered-entry log, 1 the tracker's, 2 the network receive log (R110, R150, R182). -/
def execLogConfigWrite (m : Master) (which : Nat) (size : Bool) (v : Nat) (s : State) : Host.Outcome State Fault Refusal :=
  .next (if which = 0 then s.pageWr m .tqs (if size then 0x44 else 0x40) v
    else if which = 1 then s.pageWr m .trk (if size then 0x4C else 0x48) v
    else if which = 2 then s.pageWr m .t1sc (if size then 0x60 else 0x5C) v else s)
/-- TQF_STAT_CLR: STAT_CLR (R110). -/
def execTqfStatClr (m : Master) (s : State) : Host.Outcome State Fault Refusal :=
  .next (s.pageWr m .tqs 0xA8 1)
/-- DELIV_READ: DELIV_LO (R110). -/
def execDelivRead (m : Master) (wide : Bool) (s : State) : Host.Outcome State Fault Refusal :=
  .next (s.pageRd m .tqs 0xA0 wide)
/-- PIN_CFG_WRITE: PIN_CFG (R112). -/
def execPinCfgWrite (m : Master) (port v : Nat) (s : State) : Host.Outcome State Fault Refusal :=
  .next (s.pageWr m (pinPage port) (pinOff port 0) v)
/-- OFFSET_WRITE: OFFSET of a QUAD or SSI source (R124). -/
def execOffsetWrite (m : Master) (port v : Nat) (s : State) : Host.Outcome State Fault Refusal :=
  .next (s.pageWr64 m (pinPage port) (pinOff port 0x18) v)
/-- CAPTURE_POP: CAP_LO (R121). -/
def execCapturePop (m : Master) (k : Nat) (wide : Bool) (s : State) : Host.Outcome State Fault Refusal :=
  .next (s.pageRd m (.tio k) 0x48 wide)
/-- PIN_COUNT_READ: CNT_LO of a pin (R129). -/
def execPinCountRead (m : Master) (port : Nat) (wide : Bool) (s : State) : Host.Outcome State Fault Refusal :=
  .next (s.pageRd m (pinPage port) (pinOff port 0x28) wide)
/-- COORD_READ: COORD_LO of a pin (R129). -/
def execCoordRead (m : Master) (port : Nat) (wide : Bool) (s : State) : Host.Outcome State Fault Refusal :=
  .next (s.pageRd m (pinPage port) (pinOff port 0x30) wide)
/-- BANK_CNT_CLR: BANK_CLR with CNT_CLR = 1 (R129). -/
def execBankCntClr (m : Master) (k : Nat) (s : State) : Host.Outcome State Fault Refusal :=
  .next (s.pageWr m (.tio k) 0x5C 1)
/-- CAPTURE_FLUSH: BANK_CLR with FLUSH = 1 (R129). -/
def execCaptureFlush (m : Master) (k : Nat) (s : State) : Host.Outcome State Fault Refusal :=
  .next (s.pageWr m (.tio k) 0x5C 2)
/-- GENERATOR_START: GEN_CFG with RUN = 1 (R125). -/
def execGeneratorStart (m : Master) (g : Nat) (cfg : Word) (s : State) : Host.Outcome State Fault Refusal :=
  .next (if g < 16 then s.pageWr m .tioc (0x800 + g * 0x40) (setBit cfg 31 true).toNat else s)
/-- GENERATOR_STOP: GEN_CFG with RUN = 0 (R127). -/
def execGeneratorStop (m : Master) (g : Nat) (cfg : Word) (s : State) : Host.Outcome State Fault Refusal :=
  .next (if g < 16 then s.pageWr m .tioc (0x800 + g * 0x40) (setBit cfg 31 false).toNat else s)
/-- TLOG_QUERY: TLOG_Q_HI, or both words (R131). -/
def execTlogQuery (m : Master) (wide : Bool) (v : Nat) (s : State) : Host.Outcome State Fault Refusal :=
  .next (if wide then s.pageWr64 m .tioc 0x48 v else s.pageWr m .tioc 0x4C v)
/-- T1S_CNT_CLR: CNT_CLR of a segment (R151). -/
def execT1sCntClr (m : Master) (seg : Nat) (s : State) : Host.Outcome State Fault Refusal :=
  .next (if seg < 48 then s.pageWr m (segPage seg) (segOff seg 0x34) 1 else s)
/-- TSN_CNT_CLR: CNT_CLR of a TSN port (R152). -/
def execTsnCntClr (m : Master) (n : Nat) (s : State) : Host.Outcome State Fault Refusal :=
  .next (s.pageWr m (.tsn n) 0x70 1)
/-- SOURCE_SLOT_WRITE: SRC_CFG of a source slot (R153). -/
def execSourceSlotWrite (m : Master) (i v : Nat) (s : State) : Host.Outcome State Fault Refusal :=
  .next (if i < 64 then s.pageWr m .trk (0x800 + 16 * i) v else s)
/-- FW_INST_STAGE: FW_INST of a firmware source (R156). -/
def execFwInstStage (m : Master) (f v : Nat) (s : State) : Host.Outcome State Fault Refusal :=
  .next (if f < 64 then s.pageWr64 m .trk (0xC00 + 16 * f) v else s)
/-- FW_SAMPLE_COMMIT: FW_COORD of a firmware source (R156). -/
def execFwSampleCommit (m : Master) (f v : Nat) (s : State) : Host.Outcome State Fault Refusal :=
  .next (if f < 64 then s.pageWr64 m .trk (0xC08 + 16 * f) v else s)
/-- STATION_WRITE: a word of a station (R161). -/
def execStationWrite (m : Master) (t word v : Nat) (s : State) : Host.Outcome State Fault Refusal :=
  .next (if t < 256 && word < 16 then s.winWr m (0x3C100000 + 64 * t + 4 * word) false v else s)
/-- TEMPLATE_WRITE: a word of an action template (R180). -/
def execTemplateWrite (m : Master) (t word v : Nat) (s : State) : Host.Outcome State Fault Refusal :=
  .next (if t < 256 && word < 64 then s.winWr m (0x3C200000 + 256 * t + 4 * word) false v else s)
/-- OPEN_CMD: OPEN_CMD (R162). -/
def execOpenCmd (m : Master) (v : Nat) (s : State) : Host.Outcome State Fault Refusal :=
  .next (s.pageWr m .trk 0x68 v)
/-- CONTEXT_CANCEL: CANCEL (R175). -/
def execContextCancel (m : Master) (v : Nat) (s : State) : Host.Outcome State Fault Refusal :=
  .next (s.pageWr m .trk 0x70 v)
/-- TR_ERR_CLR: TR_ERR_CLR (R182). -/
def execTrErrClr (m : Master) (s : State) : Host.Outcome State Fault Refusal :=
  .next (s.pageWr m .trk 0x54 1)
/-- TRACKER_STAT_CLR: STAT_CLR of the tracker (R182). -/
def execTrackerStatClr (m : Master) (s : State) : Host.Outcome State Fault Refusal :=
  .next (s.pageWr m .trk 0x8C 1)
/-- APPEND_WORD: a word 0–6 of the append window (R186). -/
def execAppendWord (m : Master) (w v : Nat) (s : State) : Host.Outcome State Fault Refusal :=
  .next (if w < 7 then s.pageWr m .rmap (0x900 + 4 * w) v else s)
/-- APPEND_COMMIT: word 7 of the append window (R186). -/
def execAppendCommit (m : Master) (v : Nat) (s : State) : Host.Outcome State Fault Refusal :=
  .next (s.pageWr m .rmap 0x91C v)
/-- RM_RD_WRITE: RM_RD (R185). -/
def execRmRdWrite (m : Master) (v : Nat) (s : State) : Host.Outcome State Fault Refusal :=
  .next (s.pageWr m .rmap 0x48 v)
/-- ROLLMAP_CLR: RM_CLR (R188). -/
def execRollmapClr (m : Master) (s : State) : Host.Outcome State Fault Refusal :=
  .next (s.pageWr m .rmap 0x60 1)
/-- CAMERA_ENABLE: CAM_CFG with EN = 1 (R193). -/
def execCameraEnable (m : Master) (c : Nat) (cfg : Word) (s : State) : Host.Outcome State Fault Refusal :=
  .next (if c < 16 then s.pageWr m (camPage c) (camOff c 0) (setBit cfg 0 true).toNat else s)
/-- CAMERA_DISABLE: CAM_CFG with EN = 0 (R217). -/
def execCameraDisable (m : Master) (c : Nat) (cfg : Word) (s : State) : Host.Outcome State Fault Refusal :=
  .next (if c < 16 then s.pageWr m (camPage c) (camOff c 0) (setBit cfg 0 false).toNat else s)
/-- FF_DATA_ACCESS: FF_DATA, read or written (R200). -/
def execFfDataAccess (m : Master) (g : Nat) (write : Bool) (v : Nat) (s : State) : Host.Outcome State Fault Refusal :=
  .next (if write then s.pageWr m (.surfL g) 0x44 v else s.pageRd m (.surfL g) 0x44 false)
/-- KCOMMIT: LANE_CTRL with KCOMMIT = 1 (R202). -/
def execKcommit (m : Master) (l : Nat) (s : State) : Host.Outcome State Fault Refusal :=
  .next (if l < 64 then s.pageWr m (lanePage l) (laneOff l 8) 1 else s)
/-- SURF_GROUP_CLR: GRP_CLR (R218). -/
def execSurfGroupClr (m : Master) (g : Nat) (s : State) : Host.Outcome State Fault Refusal :=
  .next (s.pageWr m (.surfG g) 0x5C 1)
/-- CAMERA_CLR: CAM_CLR (R219). -/
def execCameraClr (m : Master) (c : Nat) (s : State) : Host.Outcome State Fault Refusal :=
  .next (if c < 16 then s.pageWr m (camPage c) (camOff c 0x38) 1 else s)
/-- SURF_LANE_CLR: LANE_CLR (R221). -/
def execSurfLaneClr (m : Master) (l : Nat) (s : State) : Host.Outcome State Fault Refusal :=
  .next (if l < 64 then s.pageWr m (lanePage l) (laneOff l 0x1C) 1 else s)
/-- EVT_SEND: EVT_SEND of an egress link (R261). -/
def execEvtSend (m : Master) (k : Nat) (s : State) : Host.Outcome State Fault Refusal :=
  .next (if k < 4 then s.pageWr m .ghOutL (outOff k 0x40) 1 else s)
/-- LINK_ENABLE: LINK_CFG with EN = 1 (R257). -/
def execLinkEnable (m : Master) (out : Bool) (l width : Nat) (s : State) : Host.Outcome State Fault Refusal :=
  .next (s.linkCfg m out l (1 + width * 2))
/-- LINK_DISABLE: LINK_CFG with EN = 0 (R257). -/
def execLinkDisable (m : Master) (out : Bool) (l width : Nat) (s : State) : Host.Outcome State Fault Refusal :=
  .next (s.linkCfg m out l (width * 2))
/-- GHERY_LANE_CLR: LANE_CLR of an ingress lane (R258). -/
def execGheryLaneClr (m : Master) (l : Nat) (s : State) : Host.Outcome State Fault Refusal :=
  .next (if l < 24 then s.pageWr m (rxPage l) (rxOff l 0x18) 1 else s)
/-- TXL_CLR: TXL_CLR of an egress lane (R259). -/
def execTxlClr (m : Master) (k : Nat) (s : State) : Host.Outcome State Fault Refusal :=
  .next (if k < 4 then s.pageWr m (txPage k) (txOff k 0x0C) 1 else s)
/-- INGRESS_LINK_CLR: LINK_CLR of an ingress link (R260). -/
def execIngressLinkClr (m : Master) (l : Nat) (s : State) : Host.Outcome State Fault Refusal :=
  .next (if l < 24 then s.pageWr m (inPage l) (inOff l 0x44) 1 else s)
/-- EGRESS_LINK_CLR: LINK_CLR of an egress link (R261). -/
def execEgressLinkClr (m : Master) (k : Nat) (s : State) : Host.Outcome State Fault Refusal :=
  .next (if k < 4 then s.pageWr m .ghOutL (outOff k 0x48) 1 else s)
/-- EVT_ARR_READ: EVT_ARR_LO of an ingress link (R260). -/
def execEvtArrRead (m : Master) (l : Nat) (wide : Bool) (s : State) : Host.Outcome State Fault Refusal :=
  .next (if l < 24 then s.pageRd m (inPage l) (inOff l 0x2C) wide else s)
/-- PROP_SUBMIT: PROP_SUBMIT (R297). -/
def execPropSubmit (m : Master) (s : State) : Host.Outcome State Fault Refusal :=
  .next (s.winWr m (propAddr 0xF0) false 1)
/-- MIRROR_REFILL: REFILL (R298). -/
def execMirrorRefill (m : Master) (s : State) : Host.Outcome State Fault Refusal :=
  .next (s.pageWr m .tml 0x54 1)
/-- TM_CNT_CLR: TM_CLR with CNT_CLR = 1 (R298). -/
def execTmCntClr (m : Master) (s : State) : Host.Outcome State Fault Refusal :=
  .next (s.pageWr m .tml 0x50 1)
/-- TM_ERR_CLR: TM_CLR with ERR_CLR = 1 (R298). -/
def execTmErrClr (m : Master) (s : State) : Host.Outcome State Fault Refusal :=
  .next (s.pageWr m .tml 0x50 2)
/-- POS_SNAPSHOT_READ: POS_LO of the mailbox (R275). -/
def execPosSnapshotRead (m : Master) (wide : Bool) (s : State) : Host.Outcome State Fault Refusal :=
  .next (s.winRd m (mirAddr 0) wide)
/-- TOTAL_READ: TOTAL_LO of the mailbox (R296). -/
def execTotalRead (m : Master) (wide : Bool) (s : State) : Host.Outcome State Fault Refusal :=
  .next (s.winRd m (mirAddr 0x20) wide)
/-- EVENTS_READ: EVENTS_LO of the mailbox (R296). -/
def execEventsRead (m : Master) (wide : Bool) (s : State) : Host.Outcome State Fault Refusal :=
  .next (s.winRd m (mirAddr 0x28) wide)
/-- IC_SWSET: IC_SWSET (R384). -/
def execIcSwset (m : Master) (v : Nat) (s : State) : Host.Outcome State Fault Refusal :=
  .next (s.pageWr m .icc 0x44 v)
/-- IC_SWCLR: IC_SWCLR (R384). -/
def execIcSwclr (m : Master) (v : Nat) (s : State) : Host.Outcome State Fault Refusal :=
  .next (s.pageWr m .icc 0x48 v)
/-- GSEL_WRITE: GSEL of a master's guard (R401). -/
def execGselWrite (m : Master) (of : Master) (v : Nat) (s : State) : Host.Outcome State Fault Refusal :=
  .next (match guardOf of with | some (p, sel, _) => s.pageWr m p sel v | none => s)
/-- GCLR: GCLR of a master's guard (R403). -/
def execGclr (m : Master) (of : Master) (s : State) : Host.Outcome State Fault Refusal :=
  .next (match guardOf of with | some (p, sel, _) => s.pageWr m p (sel + 0x10) 1 | none => s)
/-- SWELL_RUN: SW_CTRL with bit 0 set (R365). -/
def execSwellRun (m : Master) (e : Nat) (s : State) : Host.Outcome State Fault Refusal :=
  .next (s.pageWr m (.swell e) 0x40 1)
/-- SWELL_STOP: SW_CTRL with bit 1 set (R365). -/
def execSwellStop (m : Master) (e : Nat) (s : State) : Host.Outcome State Fault Refusal :=
  .next (s.pageWr m (.swell e) 0x40 2)
/-- SWELL_STEP: SW_CTRL with bit 2 set (R365). -/
def execSwellStep (m : Master) (e : Nat) (s : State) : Host.Outcome State Fault Refusal :=
  .next (s.pageWr m (.swell e) 0x40 4)
/-- SWELL_WAKE_CMD: SW_CTRL with bit 3 set (R360, R365). -/
def execSwellWakeCmd (m : Master) (e : Nat) (s : State) : Host.Outcome State Fault Refusal :=
  .next (s.pageWr m (.swell e) 0x40 8)
/-- SWELL_RESUME: SW_CTRL with bit 4 set (R365). -/
def execSwellResume (m : Master) (e : Nat) (s : State) : Host.Outcome State Fault Refusal :=
  .next (s.pageWr m (.swell e) 0x40 16)
/-- PAIR_SET: SW_CFG with PAIR = 1 (R363). -/
def execPairSet (m : Master) (e : Nat) (cfg : Word) (s : State) : Host.Outcome State Fault Refusal :=
  .next (s.pageWr m (.swell e) 0x44 (setBit cfg 17 true).toNat)
/-- PAIR_CLEAR: SW_CFG with PAIR = 0 (R363). -/
def execPairClear (m : Master) (e : Nat) (cfg : Word) (s : State) : Host.Outcome State Fault Refusal :=
  .next (s.pageWr m (.swell e) 0x44 (setBit cfg 17 false).toNat)
/-- SWELL_ERR_CLR: SW_CLR with ERR_CLR = 1 (R365). -/
def execSwellErrClr (m : Master) (e : Nat) (s : State) : Host.Outcome State Fault Refusal :=
  .next (s.pageWr m (.swell e) 0x68 1)
/-- SWELL_CNT_CLR: SW_CLR with CNT_CLR = 1 (R365). -/
def execSwellCntClr (m : Master) (e : Nat) (s : State) : Host.Outcome State Fault Refusal :=
  .next (s.pageWr m (.swell e) 0x68 2)
/-- BUNDLES_READ: BUNDLES_LO (R365). -/
def execBundlesRead (m : Master) (e : Nat) (wide : Bool) (s : State) : Host.Outcome State Fault Refusal :=
  .next (s.pageRd m (.swell e) 0x54 wide)
/-- APERTURE_ACCESS: an access to an engine's aperture (R366). -/
def execApertureAccess (m : Master) (e off size : Nat) (write : Bool) (v : Nat) (s : State) :
    Host.Outcome State Fault Refusal :=
  .next (if e < 16 && off < 0x100000 then (if write then s.busWrite ⟨m, 0x30000000 + e * 0x100000 + off, size, v, true⟩ else s.busRead ⟨m, 0x30000000 + e * 0x100000 + off, size, 0, true⟩)
    else s)
/-- ROT_REQ: ROT_REQ (R437). -/
def execRotReq (m : Master) (s : State) : Host.Outcome State Fault Refusal :=
  .next (s.pageWr m .lks 0x54 1)
/-- PLAN_KEY: PLAN_KEY (R423). -/
def execPlanKey (m : Master) (v : Nat) (s : State) : Host.Outcome State Fault Refusal :=
  .next (s.pageWr m .slk 0x40 v)
/-- PLAN_MEMORY_WRITE: plan memory (R423). -/
def execPlanMemoryWrite (m : Master) (off size v : Nat) (s : State) : Host.Outcome State Fault Refusal :=
  .next (if off < 0x100000 then s.busWrite ⟨m, 0x70000000 + off, size, v, true⟩ else s)
/-- PLAN_HEADER_WRITE: a word of a profile header (R423). -/
def execPlanHeaderWrite (m : Master) (c p word v : Nat) (s : State) : Host.Outcome State Fault Refusal :=
  .next (if c < 2 && p < 8 && word < 3 then s.pageWr m .slk (hdrOff c p + 4 * word) v else s)
/-- PLAN_COMMIT_GO: PLAN_COMMIT with GO = 1 (R424). -/
def execPlanCommitGo (m : Master) (prof : Nat) (s : State) : Host.Outcome State Fault Refusal :=
  .next (s.pageWr m .slk 0x44 (prof % 8 + 8))
/-- PLAN_COMMIT_ABORT: PLAN_COMMIT with ABORT = 1 (R423). -/
def execPlanCommitAbort (m : Master) (s : State) : Host.Outcome State Fault Refusal :=
  .next (s.pageWr m .slk 0x44 16)
/-- PLAN_REFRESH: PLAN_REFRESH (R425). -/
def execPlanRefresh (m : Master) (s : State) : Host.Outcome State Fault Refusal :=
  .next (s.pageWr m .slk 0x48 1)
/-- SLACK_REQ: SLACK_REQ, inside its keyed sequence (R432). -/
def execSlackReq (m : Master) (v : Nat) (s : State) : Host.Outcome State Fault Refusal :=
  .next (s.pageWr m .bwCtl 0x44 v)
/-- SLACK_REL: SLACK_REL (R430). -/
def execSlackRel (m : Master) (s : State) : Host.Outcome State Fault Refusal :=
  .next (s.pageWr m .bwCtl 0x48 1)
/-- REC_CLR: REC_CLR (R432). -/
def execRecClr (m : Master) (s : State) : Host.Outcome State Fault Refusal :=
  .next (s.pageWr m .bwCtl 0x68 1)
/-- ISO_REL: ISO_REL (R432). -/
def execIsoRel (m : Master) (src : Nat) (s : State) : Host.Outcome State Fault Refusal :=
  .next (s.pageWr m .bwCtl 0x78 src)
/-- FC_CLR: FC_CLR (R433). -/
def execFcClr (m : Master) (s : State) : Host.Outcome State Fault Refusal :=
  .next (s.pageWr m .bwFc 0x54 1)
/-- FC_INJECT: FC_INJECT (R433). -/
def execFcInject (m : Master) (src : Nat) (s : State) : Host.Outcome State Fault Refusal :=
  .next (s.pageWr m .bwFc 0x58 src)
/-- FC_FIRST_READ: FC_FIRST_LO (R433). -/
def execFcFirstRead (m : Master) (wide : Bool) (s : State) : Host.Outcome State Fault Refusal :=
  .next (s.pageRd m .bwFc 0x4C wide)
/-- VALID_UNTIL_READ: VALID_UNTIL_LO (R436). -/
def execValidUntilRead (m : Master) (wide : Bool) (s : State) : Host.Outcome State Fault Refusal :=
  .next (s.pageRd m .slk 0x54 wide)
/-- TIMER_ENABLE: TCFG with EN = 1 (R447). -/
def execTimerEnable (m : Master) (t : Nat) (cfg : Word) (s : State) : Host.Outcome State Fault Refusal :=
  .next (if t < 32 then s.pageWr m (.tmr (t / 8)) (tmrOff t 0x14) (setBit cfg 0 true).toNat else s)
/-- TIMER_COUNT_LOAD: CNT_LO, with CNT_HI when wide (R444). -/
def execTimerCountLoad (m : Master) (t : Nat) (wide : Bool) (v : Nat) (s : State) : Host.Outcome State Fault Refusal :=
  .next (if t < 32 then (if wide then s.pageWr64 m (.tmr (t / 8)) (tmrOff t 0) v else s.pageWr m (.tmr (t / 8)) (tmrOff t 0) v)
    else s)
/-- TIMER_COUNT_READ: CNT_LO (R446). -/
def execTimerCountRead (m : Master) (t : Nat) (wide : Bool) (s : State) : Host.Outcome State Fault Refusal :=
  .next (if t < 32 then s.pageRd m (.tmr (t / 8)) (tmrOff t 0) wide else s)
/-- TIMER_START_CMD: TCTRL with START = 1 (R448). -/
def execTimerStartCmd (m : Master) (t : Nat) (s : State) : Host.Outcome State Fault Refusal :=
  .next (if t < 32 then s.pageWr m (.tmr (t / 8)) (tmrOff t 0x1C) 1 else s)
/-- TIMER_STOP_CMD: TCTRL with STOP = 1 (R448). -/
def execTimerStopCmd (m : Master) (t : Nat) (s : State) : Host.Outcome State Fault Refusal :=
  .next (if t < 32 then s.pageWr m (.tmr (t / 8)) (tmrOff t 0x1C) 2 else s)
/-- TIMER_LOAD_CMD: TCTRL with LOAD = 1 (R448). -/
def execTimerLoadCmd (m : Master) (t : Nat) (s : State) : Host.Outcome State Fault Refusal :=
  .next (if t < 32 then s.pageWr m (.tmr (t / 8)) (tmrOff t 0x1C) 4 else s)
/-- TIMER_LATE_CLR: TCTRL with LATE_CLR = 1 (R448). -/
def execTimerLateClr (m : Master) (t : Nat) (s : State) : Host.Outcome State Fault Refusal :=
  .next (if t < 32 then s.pageWr m (.tmr (t / 8)) (tmrOff t 0x1C) 8 else s)
/-- TM_FIRED_CLR: TM_CLR of the trigger matrix (R451). -/
def execTmFiredClr (m : Master) (s : State) : Host.Outcome State Fault Refusal :=
  .next (s.pageWr m .tmx 0x44 1)
/-- DMA_START: DCTRL with START = 1 (R453). -/
def execDmaStart (m : Master) (c : Nat) (s : State) : Host.Outcome State Fault Refusal :=
  .next (if c < 32 then s.pageWr m (dmaPage c) (dmaOff c 0x10) 1 else s)
/-- DMA_ABORT: DCTRL with ABORT = 1 (R454). -/
def execDmaAbort (m : Master) (c : Nat) (s : State) : Host.Outcome State Fault Refusal :=
  .next (if c < 32 then s.pageWr m (dmaPage c) (dmaOff c 0x10) 2 else s)
/-- WATCHDOG_START: WDT_CFG (R458). -/
def execWatchdogStart (m : Master) (w : Nat) (period : Nat) (s : State) : Host.Outcome State Fault Refusal :=
  .next (if w ≤ 8 then s.pageWr m (wdtPage w) 0x40 period else s)
/-- WDT_KEY1: WDT_KEY with KEY1 (R459). -/
def execWdtKey1 (m : Master) (w : Nat) (s : State) : Host.Outcome State Fault Refusal :=
  .next (if w ≤ 8 then s.pageWr m (wdtPage w) 0x48 0x5EA1 else s)
/-- WDT_KEY2: WDT_KEY with KEY2 (R459). -/
def execWdtKey2 (m : Master) (w : Nat) (s : State) : Host.Outcome State Fault Refusal :=
  .next (if w ≤ 8 then s.pageWr m (wdtPage w) 0x48 0xC0A5 else s)
/-- WDT_CHECKIN: WDT_CHECKIN (R460). -/
def execWdtCheckin (m : Master) (w : Nat) (task : Nat) (s : State) : Host.Outcome State Fault Refusal :=
  .next (if w ≤ 8 then s.pageWr m (wdtPage w) 0x4C task else s)
/-- CV_DATA_POP: CV_DATA (R466). -/
def execCvDataPop (m : Master) (c : Nat) (wide : Bool) (s : State) : Host.Outcome State Fault Refusal :=
  .next (s.pageRd m (.cv c) 0x48 wide)
/-- CV_CNT_CLR: CV_CLR with CLR = 1 (R468). -/
def execCvCntClr (m : Master) (c : Nat) (s : State) : Host.Outcome State Fault Refusal :=
  .next (s.pageWr m (.cv c) 0x5C 1)
/-- CV_FLUSH: CV_CLR with FLUSH = 1 (R468). -/
def execCvFlush (m : Master) (c : Nat) (s : State) : Host.Outcome State Fault Refusal :=
  .next (s.pageWr m (.cv c) 0x5C 2)
/-- SRAM_ENABLE_WRITE: PWR_CTRL (R494). -/
def execSramEnableWrite (m : Master) (v : Nat) (s : State) : Host.Outcome State Fault Refusal :=
  .next (s.pageWr m .pwr 0x40 v)
/-- DORMANT_GO: PWR_DORMANT with GO = 1, inside its keyed sequence (R472). -/
def execDormantGo (m : Master) (s : State) : Host.Outcome State Fault Refusal :=
  .next (s.pageWr m .pwr 0x44 1)
/-- BOOT_GO: BOOT_GO (R483). -/
def execBootGo (m : Master) (len : Nat) (s : State) : Host.Outcome State Fault Refusal :=
  .next (s.pageWr m .hrp 0x50 len)
/-- HRP_CLR: HRP_CLR (R499). -/
def execHrpClr (m : Master) (s : State) : Host.Outcome State Fault Refusal :=
  .next (s.pageWr m .hrp 0x54 1)
/-- BIST_SRAM_MARCH: BIST_RUN with SEQ 0x01 (R485). -/
def execBistSramMarch (m : Master) (bank : Nat) (s : State) : Host.Outcome State Fault Refusal :=
  .next (s.pageWr m .bistC 0x44 (0x01 + bank * 256))
/-- BIST_TRACKER_MARCH: BIST_RUN with SEQ 0x02 (R485). -/
def execBistTrackerMarch (m : Master) (s : State) : Host.Outcome State Fault Refusal :=
  .next (s.pageWr m .bistC 0x44 (0x02 + 0 * 256))
/-- BIST_TQF_MARCH: BIST_RUN with SEQ 0x03 (R485). -/
def execBistTqfMarch (m : Master) (s : State) : Host.Outcome State Fault Refusal :=
  .next (s.pageWr m .bistC 0x44 (0x03 + 0 * 256))
/-- BIST_SWELL_ENGINE: BIST_RUN with SEQ 0x04 (R485). -/
def execBistSwellEngine (m : Master) (e : Nat) (s : State) : Host.Outcome State Fault Refusal :=
  .next (s.pageWr m .bistC 0x44 (0x04 + e * 256))
/-- BIST_SURF_GROUP: BIST_RUN with SEQ 0x05 (R485). -/
def execBistSurfGroup (m : Master) (g : Nat) (s : State) : Host.Outcome State Fault Refusal :=
  .next (s.pageWr m .bistC 0x44 (0x05 + g * 256))
/-- BIST_GHERY_QUAD: BIST_RUN with SEQ 0x06 (R485). -/
def execBistGheryQuad (m : Master) (q : Nat) (s : State) : Host.Outcome State Fault Refusal :=
  .next (s.pageWr m .bistC 0x44 (0x06 + q * 256))
/-- BIST_DOMAIN_STARTUP: BIST_RUN with SEQ 0x80 + d (R486). -/
def execBistDomainStartup (m : Master) (d : Nat) (s : State) : Host.Outcome State Fault Refusal :=
  .next (s.pageWr m .bistC 0x44 ((0x80 + d % 128) + 0 * 256))
/-- LC_REQ: LC_REQ, inside its keyed sequence (R489). -/
def execLcReq (m : Master) (target : Nat) (s : State) : Host.Outcome State Fault Refusal :=
  .next (s.pageWr m .lc 0x44 target)
/-- RB_ADVANCE: RB_ADVANCE, inside its keyed sequence (R481). -/
def execRbAdvance (m : Master) (v : Nat) (s : State) : Host.Outcome State Fault Refusal :=
  .next (s.pageWr m .sboot 0x4C v)
/-- KEY_REVOKE_SET: KEY_REVOKE_SET, inside its keyed sequence (R481). -/
def execKeyRevokeSet (m : Master) (v : Nat) (s : State) : Host.Outcome State Fault Refusal :=
  .next (s.pageWr m .sboot 0x54 v)

end Sys2Proof.Machine
end

