-- ==== Sys2Proof/Machine/Hrp.lean ====
section
/-! DEFINITION. The Host Register Port's frames (R482, R483, R499), and the scrub of registers (R72, R413). -/
namespace Sys2Proof.Machine

/-- The HRP answers frames: the compute die runs and Headland has left reset (R483). -/
def State.hrpRuns (s : State) : Bool := s.computeRuns && s.boot.running

/-- A frame is answered: HRP_STAT takes its TAG and REASON, HRP_FRAMES counts it, a reason other than 0 raises its event, and
the host sees the response (R482, R499). -/
def State.hrpAnswer (s : State) (tag : Nat) (r : Reason) (data : Nat) : State :=
  let s1 := ((s.setRegF .hrp 0x40 8 8 tag).setRegF .hrp 0x40 16 8 r.code).wrapInc .hrp 0x44
  (if r = .none then s1 else s1.irqBit .hrp 0).answer .host r data

/-- A request frame: not answered before the HRP runs; with a failing CRC it makes no access and is answered with E2E; else it
makes its access (R482).
Marked DEDUCED and unsafe (notes/assumptions/112.md). -/
def State.hrpFrame (s : State) (tag : Nat) (crcOk : Bool) (act : State → Reason × Nat × State) : State :=
  if !s.hrpRuns then s
  else if !crcOk then (s.satInc .hrp 0x48).hrpAnswer tag .e2e 0
  else
    let (r, v, s1) := act s
    s1.hrpAnswer tag r v

/-- A read of the host through its guard. -/
def State.hrpRead (s : State) (a n : Nat) : Reason × Nat × State :=
  match s.guardFault .host .load a n with
  | some f => (.guardDeny, 0, s.guardDeny .host .load f)
  | none => s.accRead ⟨.host, a, n, 0, true⟩

/-- A write of the host: as its bus carries it, BOOT_GO included. -/
def State.hrpWrite (s : State) (a n v : Nat) : Reason × Nat × State :=
  let s1 := s.busWrite ⟨.host, a, n, v, true⟩
  ((s1.lastResp .host).reason, 0, s1)

/-- The masked write: the old value is what a read would return now, without the read's own effects (R482).
Marked DEDUCED and unsafe (notes/assumptions/112.md). -/
def State.hrpRmw (s : State) (a mask v : Nat) : Reason × Nat × State :=
  let old := wordOf (s.accRead ⟨.host, a, 4, 0, true⟩).2.1
  let m := wordOf mask
  s.hrpWrite a 4 ((old &&& ~~~m) ||| (wordOf v &&& m)).toNat

/-- A row of R34's table, for a burst that must lie in one (R482). -/
def mapRow (a : Nat) : Nat :=
  if a < 0x40000 then 0
  else if 0x08000000 ≤ a && a < 0x08040000 then 1
  else if 0x08100000 ≤ a && a < 0x08140000 then 2
  else if 0x20000000 ≤ a && a < 0x20800000 then 3
  else if 0x20800000 ≤ a && a < 0x20801000 then 4
  else if 0x30000000 ≤ a && a < 0x31000000 then 5
  else if 0x38000000 ≤ a && a < 0x3C000000 then 6
  else if 0x3C000000 ≤ a && a < 0x3D000000 then 7
  else if 0x3D000000 ≤ a && a < 0x3D200000 then 8
  else if 0x40000000 ≤ a && a < 0x41000000 then 9
  else if 0x50000000 ≤ a && a < 0x60000000 then 10
  else if 0x60000000 ≤ a && a < 0x60040000 then 11
  else if 0x70000000 ≤ a && a < 0x70100000 then 12
  else 13

/-- What refuses a burst before its words are looked at: LEN, the guard, register pages and the edge of a region (R399, R482).
Marked DEDUCED and unsafe (notes/assumptions/112.md). -/
def State.burstReason (s : State) (k : AccessKind) (a n : Nat) : Reason × State :=
  if n < 4 || 256 < n || n % 4 ≠ 0 then (.range, s)
  else match s.guardFault .host k a n with
  | some f => (.guardDeny, s.guardDeny .host k f)
  | none =>
    if (wordParts a n).any fun p => (s.decode .host p.1 4).isNone && mapRow p.1 ≠ 9 then
      (if mapRow a ≠ mapRow (a + n - 1) && mapRow a ≠ 13 then (.width, s) else (.range, s))
    else if a % 4 ≠ 0 then (.align, s)
    else if mapRow a = 9 || mapRow a ≠ mapRow (a + n - 1) then (.width, s)
    else (.none, s)

/-- A burst read (R482). -/
def State.hrpBurstRead (s : State) (a n : Nat) : Reason × Nat × State :=
  let (r, s1) := s.burstReason .load a n
  if r ≠ .none then (r, 0, s1)
  else
    let (w, bs, s2) := s1.partsRead .host (wordParts a n)
    (w, ofBytesLE bs, s2)

/-- A burst write; one to the boot stream window appends its bytes in order (R482, R483). -/
def State.hrpBurstWrite (s : State) (a : Nat) (bs : List Nat) : Reason × Nat × State :=
  let (r, s1) := s.burstReason .store a bs.length
  if r ≠ .none then (r, 0, s1)
  else
    let (w, s2) := s1.partsWrite .host (wordParts a bs.length) bs
    (w, 0, s2)

/-- HRP_READ32. -/
def execHrpRead32 (tag a : Nat) (crcOk : Bool) (s : State) : Host.Outcome State Fault Refusal :=
  .next (s.hrpFrame tag crcOk fun s => s.hrpRead a 4)
/-- HRP_WRITE32. -/
def execHrpWrite32 (tag a v : Nat) (crcOk : Bool) (s : State) : Host.Outcome State Fault Refusal :=
  .next (s.hrpFrame tag crcOk fun s => s.hrpWrite a 4 v)
/-- HRP_READ64. -/
def execHrpRead64 (tag a : Nat) (crcOk : Bool) (s : State) : Host.Outcome State Fault Refusal :=
  .next (s.hrpFrame tag crcOk fun s => s.hrpRead a 8)
/-- HRP_WRITE64. -/
def execHrpWrite64 (tag a v : Nat) (crcOk : Bool) (s : State) : Host.Outcome State Fault Refusal :=
  .next (s.hrpFrame tag crcOk fun s => s.hrpWrite a 8 v)
/-- HRP_RMW32. -/
def execHrpRmw32 (tag a mask v : Nat) (crcOk : Bool) (s : State) : Host.Outcome State Fault Refusal :=
  .next (s.hrpFrame tag crcOk fun s => s.hrpRmw a mask v)
/-- HRP_BURST_READ. -/
def execHrpBurstRead (tag a len : Nat) (crcOk : Bool) (s : State) : Host.Outcome State Fault Refusal :=
  .next (s.hrpFrame tag crcOk fun s => s.hrpBurstRead a len)
/-- HRP_BURST_WRITE. -/
def execHrpBurstWrite (tag a : Nat) (bs : List Nat) (crcOk : Bool) (s : State) : Host.Outcome State Fault Refusal :=
  .next (s.hrpFrame tag crcOk fun s => s.hrpBurstWrite a bs)
/-- HRP_STATUS: HRP_STAT as it was before this frame; no fabric access (R482). -/
def execHrpStatus (tag : Nat) (crcOk : Bool) (s : State) : Host.Outcome State Fault Refusal :=
  .next (s.hrpFrame tag crcOk fun s => (.none, s.hrpStat.toNat, s))
/-- HRP_FRAME_ABORT: HRP_CS_N rose before the last frame's response ended (R482, R499). -/
def execHrpFrameAbort (s : State) : Host.Outcome State Fault Refusal :=
  .next (if s.hrpRuns then (s.satInc .hrp 0x4C).irqBit .hrp 1 else s)

/-! ### The scrub of registers -/

/-- A register whose parity fails: PAR_CNT of its page counts it and Breakwater hears of it; guard regions and interrupt levels
have a source of their own (R72, R413, R420).
Marked DEDUCED and unsafe (notes/assumptions/114.md). -/
def State.parityFails (s : State) (p : Page) : State :=
  let s1 := if p.valid && p.present s.fuses then s.satIncF p 0x30 8 8 else s
  match p with
  | .guard _ | .guardS _ | .icl => s1.raiseFault 0x17 p.base
  | _ => s1.raiseFault 0x15 p.base

/-- REGISTER_SCRUB: the scrub finds the parity of one register of each page listed in error; none listed, all is well.
Marked DEDUCED and unsafe (notes/assumptions/114.md). -/
def execRegisterScrub (bad : List Page) (s : State) : Host.Outcome State Fault Refusal :=
  .next (bad.foldl State.parityFails s)

end Sys2Proof.Machine
end

