-- ==== Sys2Proof/Machine/Sv.lean ====
section
/-! DEFINITION. The Headland core's frame around every SV-32 instruction: registers and their banks (R299, R387), taking an
exception, spilling and Breach (R377–R396), the load delay (R322), loop ends (R329), and the order of checks (R374). -/
namespace Sys2Proof.Machine

/-! ### Registers (R299, R387) -/

/-- The bank in use: DEPTH mod 4, or the Breach bank. -/
def SvCore.bank (c : SvCore) : SvBank :=
  if c.breach then c.breachBank else c.banks.getD (c.depth % 4) svBankFresh

/-- The bank in use replaced. -/
def SvCore.setBank (c : SvCore) (b : SvBank) : SvCore :=
  if c.breach then { c with breachBank := b } else { c with banks := listSet c.banks (c.depth % 4) b }

/-- A general register: g0 reads 0. -/
def SvCore.gr (c : SvCore) (r : Nat) : Word := if r = 0 then 0 else tabGet 0 c.bank.g r

/-- A general register written: a write to g0 is discarded. -/
def SvCore.setG (c : SvCore) (r : Nat) (v : Word) : SvCore :=
  if r = 0 then c else c.setBank { c.bank with g := tabSet 0 c.bank.g r v }

/-- A capability register: c0 reads the null capability. -/
def SvCore.cr (c : SvCore) (r : Nat) : Cap := if r = 0 then nullCap else tabGet nullCap c.bank.c r

/-- A capability register written: a write to c0 is discarded. -/
def SvCore.setC (c : SvCore) (r : Nat) (v : Cap) : SvCore :=
  if r = 0 then c else c.setBank { c.bank with c := tabSet nullCap c.bank.c r v }

/-- The flags in CSTAT. -/
def SvCore.flags (c : SvCore) : Flags := Flags.ofWord c.cstat

/-- CSTAT with its flags replaced. -/
def SvCore.setFlags (c : SvCore) (f : Flags) : SvCore := { c with cstat := f.into c.cstat }

/-- RM of CSTAT. -/
def SvCore.rm (c : SvCore) : Nat := fld c.cstat 6 2

/-- ML of CSTAT. -/
def SvCore.ml (c : SvCore) : Nat := fld c.cstat 13 3

/-- TRAPOV of CSTAT. -/
def SvCore.trapov (c : SvCore) : Bool := bit c.cstat 11

/-- PRECISE of CSTAT. -/
def SvCore.precise (c : SvCore) : Bool := bit c.cstat 12

/-- Loop set k is active. -/
def SvCore.la (c : SvCore) (k : Nat) : Bool := bit c.cstat (8 + k)

/-- Loop set k. -/
def SvCore.loop (c : SvCore) (k : Nat) : LoopSet := if k = 0 then c.l0 else if k = 1 then c.l1 else c.l2

/-- Loop set k replaced. -/
def SvCore.setLoop (c : SvCore) (k : Nat) (l : LoopSet) : SvCore :=
  if k = 0 then { c with l0 := l } else if k = 1 then { c with l1 := l } else { c with l2 := l }

/-- An accumulator. -/
def SvCore.acc (c : SvCore) (k : Nat) : BitVec 72 := if k = 0 then c.a0 else c.a1

/-- An accumulator written. -/
def SvCore.setAcc (c : SvCore) (k : Nat) (v : BitVec 72) : SvCore := if k = 0 then { c with a0 := v } else { c with a1 := v }

/-- The address of the instruction in hand. -/
def SvCore.pc (c : SvCore) : Nat := capCursor c.pcc

/-- pcc moved to an address. -/
def SvCore.goto (c : SvCore) (a : Nat) : SvCore := { c with pcc := capSetCursor c.pcc a }

/-- The state with the core replaced. -/
def State.setSv (s : State) (c : SvCore) : State := { s with sv := c }

/-- A load's value reaches its register (R322).
Marked DEDUCED and unsafe (notes/assumptions/71.md). -/
def SvCore.commitLoad (c : SvCore) : SvCore :=
  match c.load with
  | none => c
  | some (.word r v) => { c.setG r v with load := none }
  | some (.cap r v) => { c.setC r v with load := none }

/-! ### Faults and entries (R377–R396) -/

/-- A fault as ECAUSE and EADDR report it (R377, R378). -/
structure SvFault where
  code : Nat
  reason : Reason := .none
  addr : Nat := 0
  write : Bool := false
deriving DecidableEq, Repr

/-- CAP_FAULT with a reason. -/
def capFault (r : Reason) (addr : Nat := 0) (write : Bool := false) : SvFault := ⟨6, r, addr, write⟩

/-- The cluster stops issuing, and Breakwater receives the core-hold fault (R394). -/
def State.svHold (s : State) : State := (s.setSv { s.sv with hold := true }).raiseFault 0x05

/-- A capability that a jump can take (R325, R376): none, or the reason it cannot. -/
def jumpReason (c : Cap) : Option Reason :=
  if !c.tag then some .capTag
  else if capOtype c ≠ 0 then some .capSealed
  else if !capHas c 0 then some .capPerm
  else if capCursor c % 4 ≠ 0 || !capCovers c (capCursor c) 4 then some .capBounds
  else none

/-- Breach entry (R392, R394): `pcc` is where the escalating event struck. In Breach, or without a Breach vector that can be
entered, the cluster holds.
Marked DEDUCED and unsafe (notes/assumptions/72.md). -/
def State.svBreach (s : State) (kind code addr : Nat) (pcc : Cap) : State :=
  let c := s.sv
  if c.breach || (jumpReason c.breachVec).isSome then s.svHold
  else
    let b : SvBank := ⟨[], tabSet nullCap (tabSet nullCap [] 14 c.breachDdc) 15 c.breachCsp, pcc, c.cstat⟩
    (s.setSv { c with
      breach := true, breachBank := b, pcc := c.breachVec
      cstat := setFld (setFld c.cstat 8 3 0) 13 3 7
      bcause := wordOf (kind + code * 2 ^ 3), baddr := wordOf addr, load := none, arith := none }).raiseFault 0x04

/-- A granule of a frame: a capability with its tag, or 16 bytes. -/
def frameGranules (b : SvBank) (depth : Nat) : List Cap :=
  let word (ws : List Word) : Cap :=
    ⟨false, BitVec.ofNat 128 (ws.zipIdx.foldl (fun (n : Nat) (x : Word × Nat) => n + x.1.toNat * 2 ^ (32 * x.2)) 0)⟩
  let g (i : Nat) : Word := if i = 31 then b.estat else tabGet 0 b.g (i + 1)
  let caps := ((List.range 15).map fun i => tabGet nullCap b.c (i + 1)) ++ [b.epcc]
  let words := (List.range 8).map fun j => word [g (4 * j), g (4 * j + 1), g (4 * j + 2), g (4 * j + 3)]
  let id := word [wordOf (depth % 2 ^ 16 + 0xF5A1 * 2 ^ 16), 0, 0, 0]
  caps ++ words ++ [id] ++ List.replicate 7 nullCap

/-- A frame address lies wholly in D-TCM or in System SRAM (R389). -/
def framePlace (a : Nat) : Bool :=
  (0x08100000 ≤ a && a + 512 ≤ 0x08140000) || (0x20000000 ≤ a && a + 512 ≤ 0x20800000)

/-- The memory at an address of a TCM or System SRAM answers. -/
def State.ramAnswers (s : State) (a : Nat) : Bool := a < 0x20000000 || s.sramOn (sramBank a)

/-- Granules written upward until one meets an error response: whether all were written.
Marked DEDUCED and unsafe (notes/assumptions/73.md). -/
def State.putGranules (s : State) (a : Nat) : List Cap → Bool × State
  | [] => (true, s)
  | c :: cs => if s.ramAnswers a then (s.putCap a c).putGranules (a + 16) cs else (false, s)

/-- The oldest context's spill through a csp (R389): none where a check fails, else whether every write was answered well. -/
def State.svSpill (s : State) (csp : Cap) : Option (Bool × State) :=
  let cur := capCursor csp
  let a := cur - 512
  if !csp.tag || capOtype csp ≠ 0 || !capHas csp 2 || !capHas csp 4 || cur % 16 ≠ 0 || cur < 512 || !capCovers csp a 512
    || !framePlace a then none
  else if !unguarded .headland a && (s.guardFault .headland .store a 512).isSome then none
  else
    let d := s.sv.depth - 3
    some (s.putGranules a (frameGranules (s.sv.banks.getD (d % 4) svBankFresh) d))

/-- The entry of R387 into the next bank: through `vec` at a level, with EPCC `epcc`; `at_` is the pcc where the event struck.
The answer says whether it was entered or became a Breach.
Marked DEDUCED and unsafe (notes/assumptions/72.md). -/
def State.svEnter (s : State) (vec : Cap) (level : Nat) (epcc at_ : Cap) : Bool × State :=
  let csp := s.sv.cr 15
  if s.sv.depth = 65535 then (false, s.svBreach 3 0 0 at_)
  else
    let go (s : State) (csp : Cap) : State :=
      let c := s.sv
      let b : SvBank := ⟨[], tabSet nullCap (tabSet nullCap [] 14 (c.cr 14)) 15 csp, epcc, c.cstat⟩
      let n := c.depth + 1
      s.setSv { c with
        banks := listSet c.banks (n % 4) b, depth := n, pcc := vec
        cstat := setFld (setFld c.cstat 8 3 0) 13 3 level, load := none, arith := none }
    if s.sv.depth < 3 then (true, go s csp)
    else
      let low := (capCursor csp + 2 ^ 32 - 512) % 2 ^ 32
      match s.svSpill csp with
      | none => (false, s.svBreach 2 0 low at_)
      | some (false, s1) => (false, s1.svBreach 2 0 low at_)
      | some (true, s1) => (true, go s1 (capSetCursor csp low))

/-- ECAUSE and EADDR of an entry (R376, R378).
Marked DEDUCED and unsafe (notes/assumptions/70.md). -/
def State.svCause (s : State) (code level : Nat) (precise write : Bool) (reason : Reason) (num count addr : Nat) : State :=
  s.setSv { s.sv with
    ecause := wordOf (code + (if precise then 2 ^ 6 else 0) + (if write then 2 ^ 7 else 0) + reason.code * 2 ^ 8
      + num * 2 ^ 16 + level * 2 ^ 25 + count * 2 ^ 28)
    eaddr := wordOf addr }

/-- The level of a fault's cause (R381). -/
def SvCore.level (c : SvCore) (code : Nat) : Nat := fld c.flvl (3 * (code - 1)) 3

/-- A synchronous fault is taken (R381, R387, R392, R394): through FVEC, or as a Breach, or the cluster holds. -/
def State.svTake (s : State) (f : SvFault) (precise : Bool) (count : Nat) (epcc : Cap) : State :=
  let c := s.sv
  let level := c.level f.code
  if c.breach then s.svHold
  else if level ≤ c.ml then s.svBreach 1 f.code f.addr epcc
  else if c.depth ≠ 65535 && c.fvec = nullCap then s.svBreach 4 0 0 epcc
  else match s.svEnter c.fvec level epcc epcc with
    | (true, s1) => s1.svCause f.code level precise f.write f.reason 0 count f.addr
    | (false, s1) => s1

/-- The pending imprecise ARITH is taken (R395): EPCC names the instruction that did not complete.
Marked DEDUCED and unsafe (notes/assumptions/69.md), DEDUCED and unsafe (notes/assumptions/119.md). -/
def State.svArith (s : State) : State :=
  (s.setSv { s.sv with arith := none }).svTake ⟨8, .none, 0, false⟩ false (s.sv.arith.getD 0) s.sv.pcc

/-- A precise fault of the instruction in hand; a pending imprecise ARITH comes first (R395): `s0` is the state before the
instruction.
Marked DEDUCED and unsafe (notes/assumptions/69.md), DEDUCED and unsafe (notes/assumptions/119.md). -/
def State.svRaise (s0 s : State) (f : SvFault) : State :=
  if s0.sv.arith.isSome then s0.svArith else s.svTake f true 0 s.sv.pcc

/-- TRAP #n enters through its gate entry, judged on its level (R381, R386).
Marked DEDUCED and unsafe (notes/assumptions/72.md). -/
def State.svTrap (s : State) (n : Nat) (gate : Cap) : State :=
  let c := s.sv
  let level := c.level 9
  if c.breach then s.svHold
  else if level ≤ c.ml then s.svBreach 1 9 0 c.pcc
  else match s.svEnter (capSetOtype gate 0) level (capSetCursor c.pcc (c.pc + 4)) c.pcc with
    | (true, s1) => s1.svCause 9 level true false .none n 0 0
    | (false, s1) => s1

/-! ### Issue -/

/-- The cluster issues instructions: it runs, is not held, and does not wait in WFI without a pending source (R326).
Marked DESIGN CHOICE and unsafe (notes/assumptions/81.md). -/
def State.svIssues (s : State) : Bool :=
  s.computeRuns && s.boot.running && !s.sv.hold && (!s.sv.wfi || (s.irqBest 0).isSome)

/-- The fault of fetching the instruction at pcc (R377, R398): past pcc's bounds, or where the guard forbids.
Marked DESIGN CHOICE and unsafe (notes/assumptions/68.md). -/
def State.svFetchFault (s : State) : Option (SvFault × Bool) :=
  let pc := s.sv.pc
  if !capCovers s.sv.pcc pc 4 then some (capFault .capBounds (capFirstOut s.sv.pcc pc 4), false)
  else if unguarded .headland pc then none
  else (s.guardFault .headland .fetch pc 4).map fun a => (⟨7, .guardDeny, a, false⟩, true)

/-! ### Loop ends (R329, R332) -/

/-- The innermost active loop set. -/
def SvCore.innermost (c : SvCore) : Option Nat := if c.la 2 then some 2 else if c.la 1 then some 1 else if c.la 0 then some 0 else none

/-- The instruction at an address is the last of the innermost active loop. -/
def SvCore.atEnd (c : SvCore) (pc : Nat) : Option Nat :=
  match c.innermost with
  | some k => if (c.loop k).e.toNat = pc then some k else none
  | none => none

/-- The loop-end rule finds the innermost set inconsistent (R332). -/
def SvCore.endBad (c : SvCore) (k : Nat) : Bool :=
  decide ((c.loop k).e.toNat < (c.loop k).s.toNat) || (0 < k && !c.la (k - 1))

/-- pcc after an instruction that completed without a taken transfer: `c0` is the core before it (R329).
Marked DEDUCED and unsafe (notes/assumptions/79.md). -/
def SvCore.advance (c0 c : SvCore) : SvCore :=
  match c0.atEnd c0.pc with
  | some k =>
    let l := c.loop k
    let n := l.c - 1
    let c1 := c.setLoop k { l with c := n }
    if n = 0 then { c1 with cstat := setBit c1.cstat (8 + k) false }.goto (c0.pc + 4) else c1.goto (c0.loop k).s.toNat
  | none => c.goto (c0.pc + 4)

/-- A taken B or JR to a target outside an active set's body ends that set and those inside it (R330). -/
def SvCore.leave (c : SvCore) (target : Nat) : SvCore :=
  let out (k : Nat) : Bool := c.la k && !((c.loop k).s.toNat ≤ target && target ≤ (c.loop k).e.toNat)
  let from_ := if out 0 then 0 else if out 1 then 1 else if out 2 then 2 else 3
  { c with cstat := setFld c.cstat (8 + from_) (3 - from_) 0 }

/-! ### One instruction (R303, R306, R374) -/

/-- How an instruction whose condition holds ends. The state is what it leaves beside pcc. -/
inductive Exe where
  /-- It completes, and execution goes on after it. -/
  | go (s : State)
  /-- A taken transfer to a pcc; of a B or JR, loops whose bodies it leaves end. -/
  | jump (leaves : Bool) (pcc : Cap) (s : State)
  /-- It has the effect of R320 and raises ARITH. -/
  | arith (s : State)
  /-- A precise fault. -/
  | fault (f : SvFault) (s : State)
  /-- TRAP with its gate entry. -/
  | trap (n : Nat) (gate : Cap) (s : State)
  /-- ERET, with everything restored. -/
  | back (s : State)
deriving DecidableEq, Repr

/-- One more instruction completed while an imprecise ARITH is pending. -/
def State.svDone (s : State) : State := { s with sv := { s.sv with arith := s.sv.arith.map (· + 1) } }

/-- The end of an instruction: `s1` is the state before it with the load delay over.
Marked DEDUCED and unsafe (notes/assumptions/69.md), DEDUCED and unsafe (notes/assumptions/79.md). -/
def State.svFinish (s1 : State) : Exe → State
  | .go s =>
    match s1.sv.atEnd s1.sv.pc with
    | some k =>
      if s1.sv.endBad k then s1.svRaise s1 ⟨0x0A, .none, (s1.sv.loop k).e.toNat, false⟩
      else (s.setSv (s1.sv.advance s.sv)).svDone
    | none => (s.setSv (s1.sv.advance s.sv)).svDone
  | .jump leaves p s => (s.setSv { (if leaves then s.sv.leave (capCursor p) else s.sv) with pcc := p }).svDone
  | .arith s =>
    if s1.sv.precise then s1.svRaise s ⟨8, .none, 0, false⟩
    else match s1.sv.atEnd s1.sv.pc with
      | some k =>
        if s1.sv.endBad k then s1.svRaise s1 ⟨0x0A, .none, (s1.sv.loop k).e.toNat, false⟩
        else s.setSv { s1.sv.advance s.sv with arith := some (s1.sv.arith.elim 0 (· + 1)) }
      | none => s.setSv { s1.sv.advance s.sv with arith := some (s1.sv.arith.elim 0 (· + 1)) }
  | .fault f s => s1.svRaise s f
  | .trap n gate s => if s1.sv.arith.isSome then s1.svArith else s.svTrap n gate
  | .back s => s.svDone

/-- The state in which an instruction's effect begins: the load delay is over, and a WFI has ended.
Marked DEDUCED and unsafe (notes/assumptions/71.md). -/
def State.svBegin (s : State) : State := s.setSv { s.sv.commitLoad with wfi := false }

/-- An instruction is executed at pcc. `word` is its encoding, `bad` whether R306 leaves it undefined, `sys` whether it
requires SYS; `body` gets the core whose registers it reads (the load delay of R322 still open) and the state it changes.
Marked DESIGN CHOICE and unsafe (notes/assumptions/67.md), DESIGN CHOICE and unsafe (notes/assumptions/68.md),
DEDUCED and unsafe (notes/assumptions/69.md), DEDUCED and unsafe (notes/assumptions/116.md). -/
def State.svRun (s : State) (cond : BitVec 4) (word : Word) (bad sys : Bool) (body : SvCore → State → Exe) : State :=
  if !s.svIssues then s
  else
    let s1 := s.svBegin
    if s.sv.arith = some 8 then s1.svArith
    else match s.svFetchFault with
      | some (f, denied) => s1.svRaise (if denied then s1.guardDeny .headland .fetch f.addr else s1) f
      | none =>
        if bad || cond == 0 then s1.svRaise s1 ⟨1, .none, word.toNat, false⟩
        else if !condHolds cond.toNat s.sv.flags then s1.svFinish (.go s1)
        else if sys && !capHas s.sv.pcc 5 then s1.svRaise s1 (capFault .capPerm)
        else s1.svFinish (body s.sv s1)

/-! ### Results -/

/-- The state with a general register written. -/
def State.putG (s : State) (r : Nat) (v : Word) : State := s.setSv (s.sv.setG r v)

/-- The state with a capability register written. -/
def State.putC (s : State) (r : Nat) (v : Cap) : State := s.setSv (s.sv.setC r v)

/-- The state with the flags written. -/
def State.putFlags (s : State) (f : Flags) : State := s.setSv (s.sv.setFlags f)

/-! ### Memory under a capability (R321, R370, R374) -/

/-- Steps 4 to 6 of R374 for an access under a capability: permissions `perms`, `n` bytes at `a`. -/
def capAccess (c : Cap) (perms : List Nat) (a n : Nat) (write : Bool) : Option SvFault :=
  if !c.tag then some (capFault .capTag 0 write)
  else if capOtype c ≠ 0 then some (capFault .capSealed 0 write)
  else if !(perms.all (capHas c)) then some (capFault .capPerm 0 write)
  else if a % n ≠ 0 then some ⟨3, .none, a, write⟩
  else if !capCovers c a n then some (capFault .capBounds (capFirstOut c a n) write)
  else none

/-- Step 8 of R374: the guard's fault, recorded in the guard. -/
def State.svGuard (s : State) (kind : AccessKind) (a n : Nat) : Option (SvFault × State) :=
  if unguarded .headland a then none
  else (s.guardFault .headland kind a n).map fun x => (⟨7, .guardDeny, x, kind = .store⟩, s.guardDeny .headland kind x)

/-- A read of the core under a capability: the value goes to `k` (R374, R377).
Marked DEDUCED and unsafe (notes/assumptions/7.md). -/
def State.svLoad (s : State) (auth : Cap) (a n : Nat) (k : Nat → State → Exe) : Exe :=
  match capAccess auth [1] a n false with
  | some f => .fault f s
  | none => match s.svGuard .load a n with
    | some (f, s1) => .fault f s1
    | none =>
      let (r, v, s1) := s.accRead ⟨.headland, a, n, 0, true⟩
      if r ≠ .none then .fault ⟨5, r, a, false⟩ s1 else k v s1

/-- A store of the core under a capability.
Marked DEDUCED and unsafe (notes/assumptions/7.md). -/
def State.svStore (s : State) (auth : Cap) (a n v : Nat) (k : State → Exe) : Exe :=
  match capAccess auth [2] a n true with
  | some f => .fault f s
  | none => match s.svGuard .store a n with
    | some (f, s1) => .fault f s1
    | none =>
      let (r, s1) := s.accWrite ⟨.headland, a, n, v, true⟩
      if r ≠ .none then .fault ⟨5, r, a, true⟩ s1 else k s1

/-- The 16 bytes and the tag at an address, read as one access: regions made of registers take no such width (R36, R49).
Marked DEDUCED and unsafe (notes/assumptions/77.md). -/
def State.capRead (s : State) (a : Nat) : Reason × Cap × State :=
  match s.decode .headland a 16 with
  | none => (.range, nullCap, s)
  | some r =>
    if r.wordWide then (.width, nullCap, s)
    else
      let (x, v, s1) := s.regionRead .headland a 16 r
      (x, ⟨tagMemory a && s.tags.contains (a / 16), BitVec.ofNat 128 v⟩, s1)

/-- 16 bytes with a tag written as one access.
Marked DEDUCED and unsafe (notes/assumptions/77.md). -/
def State.capWrite (s : State) (a : Nat) (c : Cap) : Reason × State :=
  match s.decode .headland a 16 with
  | none => (.range, s)
  | some r =>
    if r.wordWide then (.width, s.reportWrite .headland a .width r)
    else
      let (x, s1) := s.regionWrite .headland a 16 c.bits.toNat r
      (x, if x = .none && c.tag && tagMemory a then { s1 with tags := insertRising (a / 16) s1.tags } else s1)

/-- A capability load under a capability: the tag comes only with LDC (R370). -/
def State.svLoadCap (s : State) (auth : Cap) (a : Nat) (k : Cap → State → Exe) : Exe :=
  match capAccess auth [1] a 16 false with
  | some f => .fault f s
  | none => match s.svGuard .load a 16 with
    | some (f, s1) => .fault f s1
    | none =>
      let (r, v, s1) := s.capRead a
      if r ≠ .none then .fault ⟨5, r, a, false⟩ s1 else k ⟨v.tag && capHas auth 3, v.bits⟩ s1

/-- The permissions that storing a capability needs (R370). -/
def storePerms (v : Cap) : List Nat := if v.tag then (if capHas v 9 then [2, 4] else [2, 4, 10]) else [2]

/-- What stands between a capability store and its access: its checks, the guard, the target (R370, R374). -/
def State.svStoreCap (s : State) (auth : Cap) (a : Nat) (v : Cap) (k : State → Exe) : Exe :=
  match capAccess auth (storePerms v) a 16 true with
  | some f => .fault f s
  | none => match s.svGuard .store a 16 with
    | some (f, s1) => .fault f s1
    | none =>
      let (r, s1) := s.capWrite a v
      if r ≠ .none then .fault ⟨5, r, a, true⟩ s1 else k s1

end Sys2Proof.Machine
end

