-- ==== Sys2Proof/Machine/Operands.lean ====
section
/-! DEFINITION. The operand forms of SV-32 (R301): the word that each format encodes, and the shapes of execution that the
families share. -/
namespace Sys2Proof.Machine

/-- The word of an R-format instruction. -/
def wordR (major fn : Nat) (o : OpR) : Word :=
  wordOf (o.cond.toNat * 2 ^ 28 + major * 2 ^ 22 + o.rd.toNat * 2 ^ 17 + o.rs1.toNat * 2 ^ 12 + o.rs2.toNat * 2 ^ 7 + fn)

/-- The word of an I-format instruction. -/
def wordIm (major : Nat) (o : OpI) : Word :=
  wordOf (o.cond.toNat * 2 ^ 28 + major * 2 ^ 22 + o.rd.toNat * 2 ^ 17 + o.rs1.toNat * 2 ^ 12 + o.imm.toNat)

/-- The word of a U-format instruction. -/
def wordU (major : Nat) (o : OpU) : Word :=
  wordOf (o.cond.toNat * 2 ^ 28 + major * 2 ^ 22 + o.rd.toNat * 2 ^ 17 + (if o.b16 then 2 ^ 16 else 0) + o.imm.toNat)

/-- The word of a J-format instruction. -/
def wordJ (major : Nat) (o : OpJ) : Word :=
  wordOf (o.cond.toNat * 2 ^ 28 + major * 2 ^ 22 + o.off.toNat)

/-- imm of I format, signed. -/
def immS (o : OpI) : Word := wordI (sgn 12 o.imm.toNat)

/-- imm of I format, unsigned. -/
def immU (o : OpI) : Word := wordOf o.imm.toNat

/-- A capability-register field of R301 names no register. -/
def noCap (r : BitVec 5) : Bool := 16 ≤ r.toNat

/-- An instruction of major 0x00 (R308–R311, R320): its operation on g[rs1] and `b`; `noRd` for CMP and TST. -/
def State.intRun (s : State) (o : OpR) (fn : Nat) (sf : Bool) : State :=
  let shift := intShiftImm fn
  let test := fn == 0x10 || fn == 0x11
  let bad := (test && (!sf || o.rd != 0)) || (intUnary fn && o.rs2 != 0)
  s.svRun o.cond (wordR 0x00 (fn + if sf then 0x40 else 0) o) bad false fun c s =>
    let a := c.gr o.rs1.toNat
    let b := if shift then wordOf o.rs2.toNat else c.gr o.rs2.toNat
    if divByZero fn b then .arith s
    else
      let (r, f) := intRes fn c.flags a b
      let s1 := if test then s else s.putG o.rd.toNat r
      let s2 := if sf then s1.putFlags f else s1
      if sf && trapsOnV fn && f.v && c.trapov then .arith s2 else .go s2

/-- An instruction of majors 0x01 to 0x07 (R305): the integer operation `fn` on g[rs1] and an immediate, setting flags for
ADDIS, CMPI and TSTI; `test` for the last two. -/
def State.immRun (s : State) (o : OpI) (major fn : Nat) (b : Word) (sf test traps : Bool) : State :=
  s.svRun o.cond (wordIm major o) (test && o.rd != 0) false fun c s =>
    let (r, f) := intRes fn c.flags (c.gr o.rs1.toNat) b
    let s1 := if test then s else s.putG o.rd.toNat r
    let s2 := if sf then s1.putFlags f else s1
    if traps && f.v && c.trapov then .arith s2 else .go s2

/-- An instruction of major 0x28 (R313, R314). -/
def State.fixRun (s : State) (o : OpR) (fn : Nat) (rsel : BitVec 3) : State :=
  let bad := (if fixRounds fn then 4 < rsel.toNat else rsel != 0) || (fixUnary fn && o.rs2 != 0)
  s.svRun o.cond (wordR 0x28 (fn + rsel.toNat * 16) o) bad false fun c s =>
    let (r, f) := fixRes fn (rselMode rsel.toNat c.rm) c.flags (c.gr o.rs1.toNat) (c.gr o.rs2.toNat)
    .go ((s.putG o.rd.toNat r).putFlags f)

/-- An instruction of major 0x29 (R316): it reads the accumulator that rs1 names, or writes the one that rd names. -/
def State.accRun (s : State) (o : OpR) (fn : Nat) (rsel : BitVec 3) : State :=
  let reads := accReads fn
  let bad := (if fn = 8 || fn = 9 then 4 < rsel.toNat else rsel != 0)
    || (if reads then 2 ≤ o.rs1.toNat else 2 ≤ o.rd.toNat)
    || (accSources fn ≤ 1 && o.rs2 != 0) || (fn == 6 && o.rs1 != 0)
  let k := (if reads then o.rs1.toNat else o.rd.toNat) % 2
  s.svRun o.cond (wordR 0x29 (fn + rsel.toNat * 16) o) bad false fun c s =>
    let x := accRes fn (rselMode rsel.toNat c.rm) c.flags (c.acc k) (c.gr o.rs1.toNat) (c.gr o.rs2.toNat)
    let s1 := s.putFlags x.flags
    .go (if reads then s1.putG o.rd.toNat (x.rd.getD 0) else s1.setSv (s1.sv.setAcc k x.acc))

/-- An instruction of major 0x2A (R318–R320). -/
def State.decRun (s : State) (o : OpR) (fn : Nat) : State :=
  s.svRun o.cond (wordR 0x2A fn o) ((fn == 4 && o.rd != 0) || (decUnary fn && o.rs2 != 0)) false fun c s =>
    let a := c.gr o.rs1.toNat
    let b := c.gr o.rs2.toNat
    if !decChecked fn a b then .arith s
    else
      let (r, f) := decRes fn c.flags a b
      .go (if fn = 4 then s.putFlags f else (s.putG o.rd.toNat r).putFlags f)

/-- A load from the address g[rs1] + imm through ddc (R321): `ext` makes the register's value of the bytes read. -/
def State.loadRun (s : State) (o : OpI) (major n : Nat) (ext : Nat → Word) : State :=
  s.svRun o.cond (wordIm major o) false false fun c s =>
    s.svLoad (c.cr 14) (c.gr o.rs1.toNat + immS o).toNat n fun v s =>
      .go (s.setSv { s.sv with load := some (.word o.rd.toNat (ext v)) })

/-- A store of the register that rd names to the address g[rs1] + imm through ddc (R321). -/
def State.storeRun (s : State) (o : OpI) (major n : Nat) : State :=
  s.svRun o.cond (wordIm major o) false false fun c s =>
    s.svStore (c.cr 14) (c.gr o.rs1.toNat + immS o).toNat n ((c.gr o.rd.toNat).toNat % 2 ^ (8 * n)) .go

/-- The address of a memory instruction through a capability register (R321). -/
def capAddr (c : Cap) (o : OpI) : Nat := (wordOf (capCursor c) + immS o).toNat

/-- A capability operation of major 0x1C: `bad` of its fields, and its body (R371). -/
def State.capRun (s : State) (o : OpR) (fn : Nat) (bad : Bool) (body : SvCore → State → Exe) : State :=
  s.svRun o.cond (wordR 0x1C fn o) bad false body

end Sys2Proof.Machine
end

