-- ==== Sys2Proof/Machine/SvCap.lean ====
section
/-! DEFINITION. The capability operations of major 0x1C (R371, R372, R374). -/
namespace Sys2Proof.Machine

/-- A field of a capability by CAPQ's selector (R371). -/
def capField (c : Cap) (sel : Nat) : Nat :=
  match sel with
  | 0 => capBase c
  | 1 => capLength c
  | 2 => capPerms c
  | 3 => capOtype c
  | 4 => if c.tag then 1 else 0
  | _ => capCursor c

/-- CAPQ: g[rd] = the field of c[rs1] that the rs2 field selects. -/
def execCapq (o : OpR) (s : State) : Host.Outcome State Fault Refusal :=
  .next (s.capRun o 0x00 (noCap o.rs1 || 6 ≤ o.rs2.toNat) fun c s =>
    .go (s.putG o.rd.toNat (wordOf (capField (c.cr o.rs1.toNat) o.rs2.toNat))))

/-- CAPDIST: g[rd] = the distance of two cursors. -/
def execCapdist (o : OpR) (s : State) : Host.Outcome State Fault Refusal :=
  .next (s.capRun o 0x01 (noCap o.rs1 || noCap o.rs2) fun c s =>
    .go (s.putG o.rd.toNat (wordOf (capCursor (c.cr o.rs1.toNat)) - wordOf (capCursor (c.cr o.rs2.toNat)))))

/-- The operations that derive c[rd] from c[rs1] and g[rs2]: refused while c[rs1] is tagged and sealed, or where `fault`
says so; an untagged c[rs1] gives an untagged result (R372). -/
def State.capDerive (s : State) (o : OpR) (fn : Nat) (fault : Cap → Word → Bool) (op : Cap → Word → Cap) : State :=
  s.capRun o fn (noCap o.rd || noCap o.rs1) fun c s =>
    let x := c.cr o.rs1.toNat
    let v := c.gr o.rs2.toNat
    if x.tag && capOtype x ≠ 0 then .fault (capFault .capSealed) s
    else if x.tag && fault x v then .fault (capFault .capBounds) s
    else .go (s.putC o.rd.toNat (op x v))

/-- CAPPTR: c[rd] = c[rs1] with CURSOR = g[rs2]. -/
def execCapptr (o : OpR) (s : State) : Host.Outcome State Fault Refusal :=
  .next (s.capDerive o 0x02 (fun _ _ => false) fun x v => capSetCursor x v.toNat)

/-- CAPADV: c[rd] = c[rs1] with CURSOR + g[rs2]. -/
def execCapadv (o : OpR) (s : State) : Host.Outcome State Fault Refusal :=
  .next (s.capDerive o 0x03 (fun _ _ => false) fun x v => capSetCursor x (capCursor x + v.toNat))

/-- A capability with its bounds replaced. -/
def capSetBounds (c : Cap) (base length : Nat) : Cap :=
  ⟨c.tag, BitVec.ofNat 128 (c.bits.toNat / 2 ^ 96 * 2 ^ 96 + length % 2 ^ 32 * 2 ^ 64 + base % 2 ^ 32 * 2 ^ 32
    + c.bits.toNat % 2 ^ 32)⟩

/-- CAPNARROW: c[rd] = c[rs1] with BASE = its CURSOR and LENGTH = g[rs2]. -/
def execCapnarrow (o : OpR) (s : State) : Host.Outcome State Fault Refusal :=
  .next (s.capDerive o 0x04
    (fun x v => decide (capCursor x < capBase x) || decide (capBase x + capLength x < capCursor x + v.toNat))
    fun x v => capSetBounds x (capCursor x) v.toNat)

/-- CAPMASK: c[rd] = c[rs1] with PERMS AND g[rs2][10:0]. -/
def execCapmask (o : OpR) (s : State) : Host.Outcome State Fault Refusal :=
  .next (s.capDerive o 0x05 (fun _ _ => false) fun x v => capSetPerms x (capPerms x &&& fld v 0 11))

/-- CAPMOV: c[rd] = c[rs1]. -/
def execCapmov (o : OpR) (s : State) : Host.Outcome State Fault Refusal :=
  .next (s.capRun o 0x06 (noCap o.rd || noCap o.rs1 || o.rs2 != 0) fun c s => .go (s.putC o.rd.toNat (c.cr o.rs1.toNat)))

/-- CAPDROP: c[rd] = c[rs1], untagged. -/
def execCapdrop (o : OpR) (s : State) : Host.Outcome State Fault Refusal :=
  .next (s.capRun o 0x07 (noCap o.rd || noCap o.rs1 || o.rs2 != 0) fun c s =>
    .go (s.putC o.rd.toNat ⟨false, (c.cr o.rs1.toNat).bits⟩))

/-- What the sealing authority of CAPLOCK and CAPOPEN must hold (R372): `perm` is SEAL or UNSEAL.
Marked DEDUCED and unsafe (notes/assumptions/76.md). -/
def sealReason (y : Cap) (perm : Nat) : Option Reason :=
  let t := capCursor y
  if !y.tag then some .capTag
  else if capOtype y ≠ 0 then some .capSealed
  else if !capHas y perm || (t = 255 && !capHas y 8) then some .capPerm
  else none

/-- The cursor of a sealing authority lies outside its bounds, or is 0 (R372). -/
def sealOut (y : Cap) : Bool := !capCovers y (capCursor y) 1 || capCursor y == 0

/-- CAPLOCK: c[rd] = c[rs1] sealed with OTYPE = c[rs2].CURSOR. A cursor above 255 fits no OTYPE, and the spec states no
result for it: the OTYPE is then a free value.
Marked DESIGN CHOICE and safe (notes/assumptions/75.md), DEDUCED and unsafe (notes/assumptions/76.md). -/
def execCaplock (o : OpR) (s : State) : Host.Outcome State Fault Refusal :=
  .next (s.capRun o 0x08 (noCap o.rd || noCap o.rs1 || noCap o.rs2) fun c s =>
    let x := c.cr o.rs1.toNat
    let y := c.cr o.rs2.toNat
    match sealReason y 6 with
    | some r => .fault (capFault r) s
    | none =>
      if x.tag && capOtype x ≠ 0 then .fault (capFault .capSealed) s
      else if sealOut y then .fault (capFault .capBounds) s
      else
        let t := capCursor y
        if t ≤ 255 then .go (s.putC o.rd.toNat (capSetOtype x t))
        else .go (s.draw.putC o.rd.toNat (capSetOtype x (Config.freeNat s.free % 256))))

/-- CAPOPEN: c[rd] = c[rs1] unsealed, GLOBAL only if both hold it.
Marked DEDUCED and unsafe (notes/assumptions/76.md). -/
def execCapopen (o : OpR) (s : State) : Host.Outcome State Fault Refusal :=
  .next (s.capRun o 0x09 (noCap o.rd || noCap o.rs1 || noCap o.rs2) fun c s =>
    let x := c.cr o.rs1.toNat
    let y := c.cr o.rs2.toNat
    match sealReason y 7 with
    | some r => .fault (capFault r) s
    | none =>
      if x.tag && (capOtype x = 0 || capOtype x ≠ capCursor y) then .fault (capFault .capSealed) s
      else if sealOut y then .fault (capFault .capBounds) s
      else
        let p := capPerms x
        .go (s.putC o.rd.toNat (capSetPerms (capSetOtype x 0) (if capHas y 9 || p / 2 ^ 9 % 2 = 0 then p else p - 2 ^ 9))))

/-- CAPWITHIN: 1 when both are tagged and c[rs2]'s bounds and PERMS lie within c[rs1]'s. -/
def execCapwithin (o : OpR) (s : State) : Host.Outcome State Fault Refusal :=
  .next (s.capRun o 0x0A (noCap o.rs1 || noCap o.rs2) fun c s =>
    let x := c.cr o.rs1.toNat
    let y := c.cr o.rs2.toNat
    let within := x.tag && y.tag && capBase x ≤ capBase y && capBase y + capLength y ≤ capBase x + capLength x
      && capPerms y &&& capPerms x == capPerms y
    .go (s.putG o.rd.toNat (if within then 1 else 0)))

end Sys2Proof.Machine
end

