-- ==== Sys2Proof/Machine/SvCtl.lean ====
section
/-! DEFINITION. Control transfer, exception return, TRAP, context swap, fences, waits and loops (R323–R332, R386, R391,
R401). -/
namespace Sys2Proof.Machine

/-- The target of B and CALL (R323). -/
def branchTarget (c : SvCore) (o : OpJ) : Nat := uns 32 ((c.pc : Int) + 4 * sgn 22 o.off.toNat)

/-- B: a taken branch within pcc's bounds (R323, R330). -/
def execB (o : OpJ) (s : State) : Host.Outcome State Fault Refusal :=
  .next (s.svRun o.cond (wordJ 0x20 o) false false fun c s =>
    let t := branchTarget c o
    if capCovers c.pcc t 4 then .jump true (capSetCursor c.pcc t) s else .fault (capFault .capBounds t) s)

/-- The push of a return capability and a transfer (R324): csp's checks come first, then the target's, then the store.
Marked DEDUCED and unsafe (notes/assumptions/76.md). -/
def State.callRun (s : State) (c : SvCore) (bad : Option SvFault) (target : Cap) : Exe :=
  let csp := c.cr 15
  let a := (capCursor csp + 2 ^ 32 - 16) % 2 ^ 32
  let ret := capSetCursor c.pcc (c.pc + 4)
  match capAccess csp (storePerms ret) a 16 true with
  | some f => .fault f s
  | none => match bad with
    | some f => .fault f s
    | none => s.svStoreCap csp a ret fun s => .jump false target (s.putC 15 (capSetCursor csp a))

/-- CALL: push the return capability, then branch (R323, R324). -/
def execCall (o : OpJ) (s : State) : Host.Outcome State Fault Refusal :=
  .next (s.svRun o.cond (wordJ 0x21 o) false false fun c s =>
    let t := branchTarget c o
    s.callRun c (if capCovers c.pcc t 4 then none else some (capFault .capBounds t)) (capSetCursor c.pcc t))

/-- The fault of a jump to a capability (R325, R326). -/
def jumpFault (x : Cap) : Option SvFault :=
  (jumpReason x).map fun r => capFault r (if r = .capBounds then capCursor x else 0)

/-- JR: pcc = c[rs1] (R326, R330). -/
def execJr (o : OpR) (s : State) : Host.Outcome State Fault Refusal :=
  .next (s.svRun o.cond (wordR 0x22 0x00 o) (noCap o.rs1 || o.rd != 0 || o.rs2 != 0) false fun c s =>
    let x := c.cr o.rs1.toNat
    match jumpFault x with
    | some f => .fault f s
    | none => .jump true x s)

/-- CALLR: push as CALL, then pcc = c[rs1] (R324, R326). -/
def execCallr (o : OpR) (s : State) : Host.Outcome State Fault Refusal :=
  .next (s.svRun o.cond (wordR 0x22 0x01 o) (noCap o.rs1 || o.rd != 0 || o.rs2 != 0) false fun c s =>
    let x := c.cr o.rs1.toNat
    s.callRun c (jumpFault x) x)

/-- A field of R format is not 0. -/
def anyField (o : OpR) : Bool := o.rd != 0 || o.rs1 != 0 || o.rs2 != 0

/-- RET: pcc popped through csp (R325). -/
def execRet (o : OpR) (s : State) : Host.Outcome State Fault Refusal :=
  .next (s.svRun o.cond (wordR 0x22 0x02 o) (anyField o) false fun c s =>
    let csp := c.cr 15
    s.svLoadCap csp (capCursor csp) fun x s =>
      match jumpFault x with
      | some f => .fault f s
      | none => .jump false x (s.putC 15 (capSetCursor csp (capCursor csp + 16))))

/-! ### ERET (R391, R394) -/

/-- R391's checks of EPCC.
Marked DEDUCED and unsafe (notes/assumptions/72.md). -/
def SvCore.returnFault (c : SvCore) : Option SvFault :=
  let e := c.bank.epcc
  if c.depth = 0 || !e.tag then some (capFault .capTag)
  else if capOtype e ≠ 0 && capOtype e ≠ 255 then some (capFault .capSealed)
  else if !capHas e 0 then some (capFault .capPerm)
  else if capCursor e % 4 ≠ 0 then some ⟨2, .none, capCursor e, false⟩
  else if !capCovers e (capCursor e) 4 then some (capFault .capBounds (capCursor e))
  else none

/-- The bank that a frame holds (R390). -/
def State.frameBank (s : State) (a : Nat) : SvBank :=
  { g := (List.range 31).foldl (fun (t : Tab Word) i => tabSet 0 t (i + 1) (wordOf (s.memN (a + 0x100 + 4 * i) 4))) []
    c := (List.range 15).foldl (fun (t : Tab Cap) i => tabSet nullCap t (i + 1) (s.memCap (a + 16 * i))) []
    epcc := s.memCap (a + 0xF0)
    estat := wordOf (s.memN (a + 0x17C) 4) }

/-- R391's checks of the frame that ERET refills from. The reason of a cursor that is not a multiple of 16 is one of a
CAP_FAULT's four, the spec not saying which: a free value.
Marked DEDUCED and unsafe (notes/assumptions/73.md), DESIGN CHOICE and safe (notes/assumptions/74.md). -/
def State.refillFault (s : State) (csp : Cap) : Option SvFault :=
  let a := capCursor csp
  if !csp.tag then some (capFault .capTag)
  else if capOtype csp ≠ 0 then some (capFault .capSealed)
  else if !capHas csp 1 || !capHas csp 3 then some (capFault .capPerm)
  else if a % 16 ≠ 0 then
    some (capFault (([.capTag, .capBounds, .capPerm, .capSealed] : List Reason).getD (Config.freeNat s.free % 4) .capBounds))
  else if !capCovers csp a 512 then some (capFault .capBounds (capFirstOut csp a 512))
  else match if unguarded .headland a then none else s.guardFault .headland .load a 512 with
    | some x => some (capFault .capBounds x)
    | none =>
      let word (r : Option Region) : Bool := r.any Region.wordWide
      let first := s.decode .headland a 16
      let last := s.decode .headland (a + 496) 16
      if first.isNone || last.isNone then some ⟨5, .range, a, false⟩
      else if word first || word last then some ⟨5, .width, a, false⟩
      else if (tagMemory a && !s.ramAnswers a) || (tagMemory (a + 496) && !s.ramAnswers (a + 496)) then
        some ⟨5, .badState, a, false⟩
      else if s.memN (a + 0x180) 4 ≠ (s.sv.depth - 4) % 2 ^ 16 + 0xF5A1 * 2 ^ 16 then some (capFault .capTag)
      else none

/-- ERET: return from an exception, or from Breach; from depth 4 on, a spilled context is refilled (R391, R394). -/
def execEret (o : OpR) (s : State) : Host.Outcome State Fault Refusal :=
  .next (s.svRun o.cond (wordR 0x22 0x03 o) (anyField o) true fun c s =>
    let b := s.sv.bank
    match s.sv.returnFault with
    | some f => .fault f s
    | none =>
      let back (s : State) : State :=
        s.setSv { s.sv with pcc := capSetOtype b.epcc 0, cstat := b.estat }
      if c.breach then .back (back (s.setSv { s.sv with breach := false }))
      else if c.depth < 4 then .back (back (s.setSv { s.sv with depth := c.depth - 1 }))
      else match s.refillFault (c.cr 15) with
        | some f => .fault f s.draw
        | none =>
          let fresh := s.frameBank (capCursor (c.cr 15))
          .back (back (s.setSv { s.sv with
            banks := listSet s.sv.banks (c.depth % 4) fresh, depth := c.depth - 1 })))

/-- CTXSW: ddc and NDDC, csp and NCSP, and the guard's active set are swapped (R401). -/
def execCtxsw (o : OpR) (s : State) : Host.Outcome State Fault Refusal :=
  .next (s.svRun o.cond (wordR 0x22 0x04 o) (anyField o) true fun c s =>
    let x := ((s.sv.setC 14 c.nddc).setC 15 c.ncsp)
    .go ((s.setSv { x with nddc := c.cr 14, ncsp := c.cr 15 }).setRegF (.guard 0) 0x40 0 1
      (1 - s.regF (.guard 0) 0x40 0 1)))

/-- FENCE: every access of the model has received its response when its instruction ends (R326, R400).
Marked DEDUCED and unsafe (notes/assumptions/116.md). -/
def execFence (o : OpR) (s : State) : Host.Outcome State Fault Refusal :=
  .next (s.svRun o.cond (wordR 0x22 0x05 o) (anyField o) false fun _ s => .go s)

/-- WFI: the core waits while no source of level 1 to 7 is pending (R326). -/
def execWfi (o : OpR) (s : State) : Host.Outcome State Fault Refusal :=
  .next (s.svRun o.cond (wordR 0x22 0x06 o) (anyField o) true fun _ s =>
    .go (s.setSv { s.sv with wfi := (s.irqBest 0).isNone }))

/-- The gate entry of TRAP #n and R386's checks of it.
Marked DEDUCED and unsafe (notes/assumptions/72.md), DEDUCED and unsafe (notes/assumptions/73.md). -/
def State.gateCheck (s : State) (n : Nat) : Option (SvFault × State) :=
  let a := fld s.sv.gateBase 12 20 * 4096 + 16 * n
  if !tagMemory a then some (capFault .capTag, s)
  else match s.svGuard .load a 16 with
    | some x => some x
    | none =>
      if !s.ramAnswers a then some (⟨5, .badState, a, false⟩, s)
      else
        let g := s.memCap a
        if !g.tag then some (capFault .capTag, s)
        else if capOtype g ≠ 255 then some (capFault .capSealed, s)
        else if !capHas g 0 then some (capFault .capPerm, s)
        else if capCursor g % 4 ≠ 0 then some (⟨2, .none, capCursor g, false⟩, s)
        else if !capCovers g (capCursor g) 4 then some (capFault .capBounds (capCursor g), s)
        else none

/-- TRAP #n: entry through the gate table (R381, R386, R387). `rest` is bits [21:8] of the word. -/
def execTrap (cond : BitVec 4) (rest : BitVec 14) (n : BitVec 8) (s : State) : Host.Outcome State Fault Refusal :=
  .next (s.svRun cond (wordOf (cond.toNat * 2 ^ 28 + 0x23 * 2 ^ 22 + rest.toNat * 2 ^ 8 + n.toNat)) (rest != 0) false
    fun _ s =>
      match s.gateCheck n.toNat with
      | some (f, s1) => .fault f s1
      | none => .trap n.toNat (s.memCap (fld s.sv.gateBase 12 20 * 4096 + 16 * n.toNat)) s)

/-! ### LOOP (R327, R328, R332) -/

/-- The cases of R332 that a LOOP for set k with body length n at `pc` meets, in the table's order: LEk of the set concerned.
Marked DEDUCED and unsafe (notes/assumptions/79.md). -/
def SvCore.loopFault (c : SvCore) (k n : Nat) : Option Nat :=
  let le := c.pc + 4 * n
  match c.atEnd c.pc with
  | some j => some (c.loop j).e.toNat
  | none =>
    if n = 0 || (List.range 3).any (fun j => k ≤ j && c.la j) || (0 < k && !c.la (k - 1))
      || (0 < k && (c.loop (k - 1)).e.toNat ≤ le) || !capCovers c.pcc le 4 then some (le % 2 ^ 32)
    else none

/-- LOOP: loop set k set up with a body of n instructions and the count g[rs1] (R327). -/
def execLoop (o : OpI) (s : State) : Host.Outcome State Fault Refusal :=
  .next (s.svRun o.cond (wordIm 0x24 o) (3 ≤ o.rd.toNat) false fun c s =>
    let k := o.rd.toNat
    let n := o.imm.toNat
    let cnt := c.gr o.rs1.toNat
    let le := c.pc + 4 * n
    match c.loopFault k n with
    | some e => .fault ⟨0x0A, .none, e, false⟩ s
    | none =>
      let s1 := s.setSv (s.sv.setLoop k ⟨wordOf (c.pc + 4), wordOf le, cnt⟩)
      if cnt = 0 then .jump false (capSetCursor c.pcc (le + 4)) s1
      else .go (s1.setSv { s1.sv with cstat := setBit s1.sv.cstat (8 + k) true }))

end Sys2Proof.Machine
end

