-- ==== Sys2Proof/Machine/SvFix.lean ====
section
/-! DEFINITION. The fixed-point (R312–R314), accumulator (R315, R316) and decimal (R317–R319) instructions. -/
namespace Sys2Proof.Machine

/-- QADD (R313). -/
def execQadd (o : OpR) (rsel : BitVec 3) (s : State) : Host.Outcome State Fault Refusal := .next (s.fixRun o 0x0 rsel)

/-- QSUB (R313). -/
def execQsub (o : OpR) (rsel : BitVec 3) (s : State) : Host.Outcome State Fault Refusal := .next (s.fixRun o 0x1 rsel)

/-- QNEG (R313). -/
def execQneg (o : OpR) (rsel : BitVec 3) (s : State) : Host.Outcome State Fault Refusal := .next (s.fixRun o 0x2 rsel)

/-- QABS (R313). -/
def execQabs (o : OpR) (rsel : BitVec 3) (s : State) : Host.Outcome State Fault Refusal := .next (s.fixRun o 0x3 rsel)

/-- QMUL (R313). -/
def execQmul (o : OpR) (rsel : BitVec 3) (s : State) : Host.Outcome State Fault Refusal := .next (s.fixRun o 0x4 rsel)

/-- QADD2 (R313). -/
def execQadd2 (o : OpR) (rsel : BitVec 3) (s : State) : Host.Outcome State Fault Refusal := .next (s.fixRun o 0x6 rsel)

/-- QSUB2 (R313). -/
def execQsub2 (o : OpR) (rsel : BitVec 3) (s : State) : Host.Outcome State Fault Refusal := .next (s.fixRun o 0x7 rsel)

/-- QMUL2 (R313). -/
def execQmul2 (o : OpR) (rsel : BitVec 3) (s : State) : Host.Outcome State Fault Refusal := .next (s.fixRun o 0x8 rsel)

/-- QSHL (R313). -/
def execQshl (o : OpR) (rsel : BitVec 3) (s : State) : Host.Outcome State Fault Refusal := .next (s.fixRun o 0x9 rsel)

/-- QSHR (R313). -/
def execQshr (o : OpR) (rsel : BitVec 3) (s : State) : Host.Outcome State Fault Refusal := .next (s.fixRun o 0xA rsel)

/-- QPACK (R313). -/
def execQpack (o : OpR) (rsel : BitVec 3) (s : State) : Host.Outcome State Fault Refusal := .next (s.fixRun o 0xB rsel)

/-- MAC (R316). -/
def execMac (o : OpR) (rsel : BitVec 3) (s : State) : Host.Outcome State Fault Refusal := .next (s.accRun o 0x0 rsel)

/-- MSU (R316). -/
def execMsu (o : OpR) (rsel : BitVec 3) (s : State) : Host.Outcome State Fault Refusal := .next (s.accRun o 0x1 rsel)

/-- MULA (R316). -/
def execMula (o : OpR) (rsel : BitVec 3) (s : State) : Host.Outcome State Fault Refusal := .next (s.accRun o 0x2 rsel)

/-- MAC2 (R316). -/
def execMac2 (o : OpR) (rsel : BitVec 3) (s : State) : Host.Outcome State Fault Refusal := .next (s.accRun o 0x3 rsel)

/-- MSU2 (R316). -/
def execMsu2 (o : OpR) (rsel : BitVec 3) (s : State) : Host.Outcome State Fault Refusal := .next (s.accRun o 0x4 rsel)

/-- MULA2 (R316). -/
def execMula2 (o : OpR) (rsel : BitVec 3) (s : State) : Host.Outcome State Fault Refusal := .next (s.accRun o 0x5 rsel)

/-- CLRA (R316). -/
def execClra (o : OpR) (rsel : BitVec 3) (s : State) : Host.Outcome State Fault Refusal := .next (s.accRun o 0x6 rsel)

/-- MTA (R316). -/
def execMta (o : OpR) (rsel : BitVec 3) (s : State) : Host.Outcome State Fault Refusal := .next (s.accRun o 0x7 rsel)

/-- RDA (R316). -/
def execRda (o : OpR) (rsel : BitVec 3) (s : State) : Host.Outcome State Fault Refusal := .next (s.accRun o 0x8 rsel)

/-- RDA16 (R316). -/
def execRda16 (o : OpR) (rsel : BitVec 3) (s : State) : Host.Outcome State Fault Refusal := .next (s.accRun o 0x9 rsel)

/-- RDAL (R316). -/
def execRdal (o : OpR) (rsel : BitVec 3) (s : State) : Host.Outcome State Fault Refusal := .next (s.accRun o 0xA rsel)

/-- RDAH (R316). -/
def execRdah (o : OpR) (rsel : BitVec 3) (s : State) : Host.Outcome State Fault Refusal := .next (s.accRun o 0xB rsel)

/-- RDAG (R316). -/
def execRdag (o : OpR) (rsel : BitVec 3) (s : State) : Host.Outcome State Fault Refusal := .next (s.accRun o 0xC rsel)

/-- WRAL (R316). -/
def execWral (o : OpR) (rsel : BitVec 3) (s : State) : Host.Outcome State Fault Refusal := .next (s.accRun o 0xD rsel)

/-- WRAH (R316). -/
def execWrah (o : OpR) (rsel : BitVec 3) (s : State) : Host.Outcome State Fault Refusal := .next (s.accRun o 0xE rsel)

/-- WRAG (R316). -/
def execWrag (o : OpR) (rsel : BitVec 3) (s : State) : Host.Outcome State Fault Refusal := .next (s.accRun o 0xF rsel)

/-- DADD (R318). -/
def execDadd (o : OpR) (s : State) : Host.Outcome State Fault Refusal := .next (s.decRun o 0x0)

/-- DADDC (R318). -/
def execDaddc (o : OpR) (s : State) : Host.Outcome State Fault Refusal := .next (s.decRun o 0x1)

/-- DSUB (R318). -/
def execDsub (o : OpR) (s : State) : Host.Outcome State Fault Refusal := .next (s.decRun o 0x2)

/-- DSUBC (R318). -/
def execDsubc (o : OpR) (s : State) : Host.Outcome State Fault Refusal := .next (s.decRun o 0x3)

/-- DCMP (R318). -/
def execDcmp (o : OpR) (s : State) : Host.Outcome State Fault Refusal := .next (s.decRun o 0x4)

/-- DADJ (R318, R319). -/
def execDadj (o : OpR) (s : State) : Host.Outcome State Fault Refusal := .next (s.decRun o 0x5)

/-- BCD2BIN (R318). -/
def execBcd2bin (o : OpR) (s : State) : Host.Outcome State Fault Refusal := .next (s.decRun o 0x6)

/-- BIN2BCD (R318). -/
def execBin2bcd (o : OpR) (s : State) : Host.Outcome State Fault Refusal := .next (s.decRun o 0x7)

end Sys2Proof.Machine
end

