-- ==== Sys2Proof/Machine/SvInt.lean ====
section
/-! DEFINITION. The integer instructions (R305, R308–R311, R320): ADD to ZXTH, the immediate forms, MOVL and MOVH. -/
namespace Sys2Proof.Machine

/-- ADD: g[rd] = g[rs1] + g[rs2]. -/
def execAdd (o : OpR) (sf : Bool) (s : State) : Host.Outcome State Fault Refusal := .next (s.intRun o 0x00 sf)

/-- ADC: g[rd] = g[rs1] + g[rs2] + C. -/
def execAdc (o : OpR) (sf : Bool) (s : State) : Host.Outcome State Fault Refusal := .next (s.intRun o 0x01 sf)

/-- SUB: g[rd] = g[rs1] − g[rs2]. -/
def execSub (o : OpR) (sf : Bool) (s : State) : Host.Outcome State Fault Refusal := .next (s.intRun o 0x02 sf)

/-- SBC: g[rd] = g[rs1] − g[rs2] − C. -/
def execSbc (o : OpR) (sf : Bool) (s : State) : Host.Outcome State Fault Refusal := .next (s.intRun o 0x03 sf)

/-- AND. -/
def execAnd (o : OpR) (sf : Bool) (s : State) : Host.Outcome State Fault Refusal := .next (s.intRun o 0x04 sf)

/-- OR. -/
def execOr (o : OpR) (sf : Bool) (s : State) : Host.Outcome State Fault Refusal := .next (s.intRun o 0x05 sf)

/-- XOR. -/
def execXor (o : OpR) (sf : Bool) (s : State) : Host.Outcome State Fault Refusal := .next (s.intRun o 0x06 sf)

/-- BIC: rs1 AND NOT rs2. -/
def execBic (o : OpR) (sf : Bool) (s : State) : Host.Outcome State Fault Refusal := .next (s.intRun o 0x07 sf)

/-- SHL by rs2[7:0]. -/
def execShl (o : OpR) (sf : Bool) (s : State) : Host.Outcome State Fault Refusal := .next (s.intRun o 0x08 sf)

/-- SHR by rs2[7:0]. -/
def execShr (o : OpR) (sf : Bool) (s : State) : Host.Outcome State Fault Refusal := .next (s.intRun o 0x09 sf)

/-- SAR by rs2[7:0]. -/
def execSar (o : OpR) (sf : Bool) (s : State) : Host.Outcome State Fault Refusal := .next (s.intRun o 0x0A sf)

/-- ROR by rs2[7:0]. -/
def execRor (o : OpR) (sf : Bool) (s : State) : Host.Outcome State Fault Refusal := .next (s.intRun o 0x0B sf)

/-- SHLI by the rs2 field. -/
def execShli (o : OpR) (sf : Bool) (s : State) : Host.Outcome State Fault Refusal := .next (s.intRun o 0x0C sf)

/-- SHRI by the rs2 field. -/
def execShri (o : OpR) (sf : Bool) (s : State) : Host.Outcome State Fault Refusal := .next (s.intRun o 0x0D sf)

/-- SARI by the rs2 field. -/
def execSari (o : OpR) (sf : Bool) (s : State) : Host.Outcome State Fault Refusal := .next (s.intRun o 0x0E sf)

/-- RORI by the rs2 field. -/
def execRori (o : OpR) (sf : Bool) (s : State) : Host.Outcome State Fault Refusal := .next (s.intRun o 0x0F sf)

/-- CMP: the flags of g[rs1] − g[rs2]. -/
def execCmp (o : OpR) (sf : Bool) (s : State) : Host.Outcome State Fault Refusal := .next (s.intRun o 0x10 sf)

/-- TST: Z and N of g[rs1] AND g[rs2]. -/
def execTst (o : OpR) (sf : Bool) (s : State) : Host.Outcome State Fault Refusal := .next (s.intRun o 0x11 sf)

/-- MUL: low 32 bits of the product. -/
def execMul (o : OpR) (sf : Bool) (s : State) : Host.Outcome State Fault Refusal := .next (s.intRun o 0x12 sf)

/-- MULH: high 32 bits of the signed product. -/
def execMulh (o : OpR) (sf : Bool) (s : State) : Host.Outcome State Fault Refusal := .next (s.intRun o 0x13 sf)

/-- MULHU: high 32 bits of the unsigned product. -/
def execMulhu (o : OpR) (sf : Bool) (s : State) : Host.Outcome State Fault Refusal := .next (s.intRun o 0x14 sf)

/-- DIV: signed quotient (R311). -/
def execDiv (o : OpR) (sf : Bool) (s : State) : Host.Outcome State Fault Refusal := .next (s.intRun o 0x15 sf)

/-- DIVU: unsigned quotient. -/
def execDivu (o : OpR) (sf : Bool) (s : State) : Host.Outcome State Fault Refusal := .next (s.intRun o 0x16 sf)

/-- REM: signed remainder. -/
def execRem (o : OpR) (sf : Bool) (s : State) : Host.Outcome State Fault Refusal := .next (s.intRun o 0x17 sf)

/-- REMU: unsigned remainder. -/
def execRemu (o : OpR) (sf : Bool) (s : State) : Host.Outcome State Fault Refusal := .next (s.intRun o 0x18 sf)

/-- MIN. -/
def execMin (o : OpR) (sf : Bool) (s : State) : Host.Outcome State Fault Refusal := .next (s.intRun o 0x19 sf)

/-- MAX. -/
def execMax (o : OpR) (sf : Bool) (s : State) : Host.Outcome State Fault Refusal := .next (s.intRun o 0x1A sf)

/-- MINU. -/
def execMinu (o : OpR) (sf : Bool) (s : State) : Host.Outcome State Fault Refusal := .next (s.intRun o 0x1B sf)

/-- MAXU. -/
def execMaxu (o : OpR) (sf : Bool) (s : State) : Host.Outcome State Fault Refusal := .next (s.intRun o 0x1C sf)

/-- CLZ: leading zeros. -/
def execClz (o : OpR) (sf : Bool) (s : State) : Host.Outcome State Fault Refusal := .next (s.intRun o 0x1D sf)

/-- REV: bytes reversed. -/
def execRev (o : OpR) (sf : Bool) (s : State) : Host.Outcome State Fault Refusal := .next (s.intRun o 0x1E sf)

/-- SXTB. -/
def execSxtb (o : OpR) (sf : Bool) (s : State) : Host.Outcome State Fault Refusal := .next (s.intRun o 0x20 sf)

/-- SXTH. -/
def execSxth (o : OpR) (sf : Bool) (s : State) : Host.Outcome State Fault Refusal := .next (s.intRun o 0x21 sf)

/-- ZXTB. -/
def execZxtb (o : OpR) (sf : Bool) (s : State) : Host.Outcome State Fault Refusal := .next (s.intRun o 0x22 sf)

/-- ZXTH. -/
def execZxth (o : OpR) (sf : Bool) (s : State) : Host.Outcome State Fault Refusal := .next (s.intRun o 0x23 sf)

/-- ADDI: g[rd] = g[rs1] + sext(imm). -/
def execAddi (o : OpI) (s : State) : Host.Outcome State Fault Refusal := .next (s.immRun o 0x01 0x00 (immS o) false false false)

/-- ADDIS: as ADDI, setting Z, N, C, V. -/
def execAddis (o : OpI) (s : State) : Host.Outcome State Fault Refusal := .next (s.immRun o 0x02 0x00 (immS o) true false true)

/-- ANDI: g[rd] = g[rs1] AND zext(imm). -/
def execAndi (o : OpI) (s : State) : Host.Outcome State Fault Refusal := .next (s.immRun o 0x03 0x04 (immU o) false false false)

/-- ORI. -/
def execOri (o : OpI) (s : State) : Host.Outcome State Fault Refusal := .next (s.immRun o 0x04 0x05 (immU o) false false false)

/-- XORI. -/
def execXori (o : OpI) (s : State) : Host.Outcome State Fault Refusal := .next (s.immRun o 0x05 0x06 (immU o) false false false)

/-- CMPI: the flags of g[rs1] − sext(imm). -/
def execCmpi (o : OpI) (s : State) : Host.Outcome State Fault Refusal := .next (s.immRun o 0x06 0x02 (immS o) true true false)

/-- TSTI: Z and N of g[rs1] AND zext(imm). -/
def execTsti (o : OpI) (s : State) : Host.Outcome State Fault Refusal := .next (s.immRun o 0x07 0x04 (immU o) true true false)

/-- MOVL: g[rd] = zext(imm16). -/
def execMovl (o : OpU) (s : State) : Host.Outcome State Fault Refusal :=
  .next (s.svRun o.cond (wordU 0x08 o) o.b16 false fun _ s => .go (s.putG o.rd.toNat (wordOf o.imm.toNat)))

/-- MOVH: g[rd][31:16] = imm16, the low half kept. -/
def execMovh (o : OpU) (s : State) : Host.Outcome State Fault Refusal :=
  .next (s.svRun o.cond (wordU 0x09 o) o.b16 false fun c s =>
    .go (s.putG o.rd.toNat (setFld (c.gr o.rd.toNat) 16 16 o.imm.toNat)))

end Sys2Proof.Machine
end

