-- ==== Sys2Proof/Machine/SvMem.lean ====
section
/-! DEFINITION. Loads and stores (R321, R322, R370). -/
namespace Sys2Proof.Machine

/-- LDW. -/
def execLdw (o : OpI) (s : State) : Host.Outcome State Fault Refusal := .next (s.loadRun o 0x10 4 wordOf)

/-- LDH: sign-extended. -/
def execLdh (o : OpI) (s : State) : Host.Outcome State Fault Refusal := .next (s.loadRun o 0x11 2 (fun v => wordI (sgn 16 v)))

/-- LDHU: zero-extended. -/
def execLdhu (o : OpI) (s : State) : Host.Outcome State Fault Refusal := .next (s.loadRun o 0x12 2 wordOf)

/-- LDB: sign-extended. -/
def execLdb (o : OpI) (s : State) : Host.Outcome State Fault Refusal := .next (s.loadRun o 0x13 1 (fun v => wordI (sgn 8 v)))

/-- LDBU: zero-extended. -/
def execLdbu (o : OpI) (s : State) : Host.Outcome State Fault Refusal := .next (s.loadRun o 0x14 1 wordOf)

/-- STW. -/
def execStw (o : OpI) (s : State) : Host.Outcome State Fault Refusal := .next (s.storeRun o 0x15 4)

/-- STH. -/
def execSth (o : OpI) (s : State) : Host.Outcome State Fault Refusal := .next (s.storeRun o 0x16 2)

/-- STB. -/
def execStb (o : OpI) (s : State) : Host.Outcome State Fault Refusal := .next (s.storeRun o 0x17 1)

/-- CLDW: a word through a capability register. -/
def execCldw (o : OpI) (s : State) : Host.Outcome State Fault Refusal :=
  .next (s.svRun o.cond (wordIm 0x18 o) (noCap o.rs1) false fun c s =>
    s.svLoad (c.cr o.rs1.toNat) (capAddr (c.cr o.rs1.toNat) o) 4 fun v s =>
      .go (s.setSv { s.sv with load := some (.word o.rd.toNat (wordOf v)) }))

/-- CSTW: a word stored through a capability register. -/
def execCstw (o : OpI) (s : State) : Host.Outcome State Fault Refusal :=
  .next (s.svRun o.cond (wordIm 0x19 o) (noCap o.rs1) false fun c s =>
    s.svStore (c.cr o.rs1.toNat) (capAddr (c.cr o.rs1.toNat) o) 4 (c.gr o.rd.toNat).toNat .go)

/-- CLDC: a capability with its tag (R370). -/
def execCldc (o : OpI) (s : State) : Host.Outcome State Fault Refusal :=
  .next (s.svRun o.cond (wordIm 0x1A o) (noCap o.rs1 || noCap o.rd) false fun c s =>
    s.svLoadCap (c.cr o.rs1.toNat) (capAddr (c.cr o.rs1.toNat) o) fun v s =>
      .go (s.setSv { s.sv with load := some (.cap o.rd.toNat v) }))

/-- CSTC: a capability stored with its tag (R370). -/
def execCstc (o : OpI) (s : State) : Host.Outcome State Fault Refusal :=
  .next (s.svRun o.cond (wordIm 0x1B o) (noCap o.rs1 || noCap o.rd) false fun c s =>
    s.svStoreCap (c.cr o.rs1.toNat) (capAddr (c.cr o.rs1.toNat) o) (c.cr o.rd.toNat) .go)

end Sys2Proof.Machine
end

