-- ==== Sys2Proof/Machine/SvSys.lean ====
section
/-! DEFINITION. System registers (R333, R334, R340, R376), custom instructions (R335, R337), and the entries that no
instruction of the program makes by itself: a failed fetch, an interrupt, a late ARITH (R377, R380, R387, R395). -/
namespace Sys2Proof.Machine

/-! ### The integer system registers -/

/-- The number of an integer system register: those of R333 and 0x040–0x04A of R376. -/
def sysListed (n : Nat) : Bool :=
  n ≤ 1 || (4 ≤ n && n ≤ 0xC) || n == 0x10 || n == 0x11 || (0x18 ≤ n && n ≤ 0x1D) || (0x40 ≤ n && n ≤ 0x46)
    || n == 0x48 || n == 0x49

/-- A register of the writable decode table that FIELD closes to MTS (R340). -/
def sysTable (n : Nat) : Bool := 0x18 ≤ n && n ≤ 0x1C

/-- A read-only integer system register. -/
def sysReadOnly (n : Nat) : Bool :=
  n == 0x10 || n == 0x11 || n == 0x1D || (0x41 ≤ n && n ≤ 0x43) || n == 0x46 || n == 0x48 || n == 0x49

/-- A register that requires SYS (R333, R375, R376).
Marked DEDUCED and unsafe (notes/assumptions/76.md). -/
def sysNeeds (n : Nat) : Bool := n == 0 || n == 0x18 || 0x40 ≤ n

/-- The reserved bits of a writable register, by mask (R333, R376). -/
def sysReserved (n : Nat) : Nat :=
  match n with
  | 0x00 => 0xFFFF0000
  | 0x01 => 0xFFFFFF00
  | 0x04 | 0x05 | 0x07 | 0x08 | 0x0A | 0x0B => 0x3
  | 0x18 => 0x7FFFF800
  | 0x1B => 0xFFFFFFF0
  | 0x1C => 0x7FFFF800
  | 0x40 => 0xFFFF0000
  | 0x44 => 0xC0000000
  | 0x45 => 0xFFF
  | _ => 0

/-- A word of the decode table's entry for the slot selected. -/
def SvCore.entryWord (c : SvCore) : Word :=
  let e := tabGet slotEmpty c.slots c.wdtSlot
  wordOf (e.1 + (if e.2.1 then 2 ^ 31 else 0))

/-- An integer system register as MFS reads it. -/
def State.sysRead (s : State) (n : Nat) : Word :=
  let c := s.sv
  let cyc := s.svCycles / 80
  match n with
  | 0x00 => c.cstat
  | 0x01 => wordOf (fld c.cstat 0 8)
  | 0x10 => wordOf cyc
  | 0x11 => match c.cycleHi with | some h => wordOf h | none => wordOf (cyc / 2 ^ 32)
  | 0x18 => c.wdtAddr
  | 0x19 => wordOf (tabGet 0 c.ucode (fld c.wdtAddr 0 11)).toNat
  | 0x1A => wordOf ((tabGet 0 c.ucode (fld c.wdtAddr 0 11)).toNat / 2 ^ 32)
  | 0x1B => wordOf c.wdtSlot
  | 0x1C => c.entryWord
  | 0x1D => c.wdtStat
  | 0x40 => c.bank.estat
  | 0x41 => c.ecause
  | 0x42 => c.eaddr
  | 0x43 => wordOf (c.depth % 4 + (if c.breach then 4 else 0) + c.depth * 2 ^ 8)
  | 0x44 => c.flvl
  | 0x45 => c.gateBase
  | 0x46 => wordOf (s.regF (.guard 0) 0x40 0 1)
  | 0x48 => c.bcause
  | 0x49 => c.baddr
  | n =>
    let l := c.loop ((n - 4) / 3)
    if (n - 4) % 3 = 0 then l.s else if (n - 4) % 3 = 1 then l.e else l.c

/-- An integer system register as MTS leaves it (R334, R338). -/
def SvCore.sysWrite (c : SvCore) (n : Nat) (v : Word) : SvCore :=
  match n with
  | 0x00 => { c with cstat := v }
  | 0x01 => { c with cstat := setFld c.cstat 0 8 (fld v 0 8) }
  | 0x18 => { c with wdtAddr := v }
  | 0x19 =>
    let a := fld c.wdtAddr 0 11
    let d := c.wdtWord a (BitVec.ofNat 64 (c.wdtDhi.toNat * 2 ^ 32 + v.toNat))
    if bit c.wdtAddr 31 then { d with wdtAddr := setFld c.wdtAddr 0 11 ((a + 1) % 2048) } else d
  | 0x1A => { c with wdtDhi := v }
  | 0x1B => { c with wdtSlot := fld v 0 4 }
  | 0x1C => c.wdtEntry c.wdtSlot (fld v 0 11) (bit v 31)
  | 0x40 => c.setBank { c.bank with estat := v }
  | 0x44 => { c with flvl := v }
  | 0x45 => { c with gateBase := v }
  | n =>
    let k := (n - 4) / 3
    let l := c.loop k
    c.setLoop k (if (n - 4) % 3 = 0 then { l with s := v } else if (n - 4) % 3 = 1 then { l with e := v } else { l with c := v })

/-- FLVL leaves a cause without a level (R376). -/
def flvlZero (v : Word) : Bool := (List.range 10).any fun i => fld v (3 * i) 3 = 0

/-- MFS: g[rd] = a system register (R333, R376). A read of CYCLE_LO latches CYCLE_HI. -/
def execMfs (o : OpI) (s : State) : Host.Outcome State Fault Refusal :=
  let n := o.imm.toNat
  .next (s.svRun o.cond (wordIm 0x30 o) (!sysListed n || o.rs1 != 0) (sysNeeds n) fun _ s =>
    let v := s.sysRead n
    let hi := if n = 0x10 then some (s.svCycles / 80 / 2 ^ 32) else none
    .go ((s.setSv { s.sv with cycleHi := hi }).putG o.rd.toNat v))

/-- MTS: a system register = g[rs1] (R334, R376). -/
def execMts (o : OpI) (s : State) : Host.Outcome State Fault Refusal :=
  let n := o.imm.toNat
  let closed := sysTable n && s.fuses.lifeCycle == .field
  .next (s.svRun o.cond (wordIm 0x31 o) (!sysListed n || sysReadOnly n || closed || o.rd != 0) (sysNeeds n) fun c s =>
    let v := c.gr o.rs1.toNat
    if v &&& wordOf (sysReserved n) ≠ 0 || (n = 0x44 && flvlZero v) then .fault ⟨1, .none, (wordIm 0x31 o).toNat, false⟩ s
    else .go (s.setSv (s.sv.sysWrite n v)))

/-! ### The capability system registers -/

/-- The number of a capability system register (R376). -/
def capSysListed (n : Nat) : Bool := (0x60 ≤ n && n ≤ 0x6A) || (0x70 ≤ n && n ≤ 0x72)

/-- A capability system register as CMFS reads it. -/
def SvCore.capSys (c : SvCore) (n : Nat) : Cap :=
  match n with
  | 0x60 => c.bank.epcc
  | 0x61 => c.fvec
  | 0x69 => c.nddc
  | 0x6A => c.ncsp
  | 0x70 => c.breachVec
  | 0x71 => c.breachDdc
  | 0x72 => c.breachCsp
  | n => tabGet nullCap c.ivec (n - 0x61)

/-- A write-once register that was written (R376). -/
def SvCore.capOnce (c : SvCore) (n : Nat) : Bool :=
  (n == 0x70 && c.onceVec) || (n == 0x71 && c.onceDdc) || (n == 0x72 && c.onceCsp)

/-- A capability's bounds lie within the Breach region: region 31 of the set in use (R376, R393).
Marked DEDUCED and unsafe (notes/assumptions/78.md). -/
def State.inBreachRegion (s : State) (x : Cap) : Bool :=
  let o := regionOff 0x800 (s.regF (.guard 0) 0x40 0 1) 31
  bit (s.reg (.guard 0) (o + 8)) 0 && decide ((s.reg (.guard 0) o).toNat ≤ capBase x)
    && decide (capBase x + capLength x ≤ (s.reg (.guard 0) (o + 4)).toNat + 32)

/-- What a CMTS's value must hold (R376).
Marked DEDUCED and unsafe (notes/assumptions/78.md). -/
def State.capSysReason (s : State) (n : Nat) (x : Cap) : Option Reason :=
  if n = 0x61 || (0x62 ≤ n && n ≤ 0x68) then (if x = nullCap then none else jumpReason x)
  else if n = 0x70 then jumpReason x
  else if n = 0x71 then (if x.tag then none else some .capTag)
  else if n = 0x72 then
    (if !x.tag then some .capTag
    else if capOtype x ≠ 0 then some .capSealed
    else if !(capHas x 1 && capHas x 2 && capHas x 3 && capHas x 4) then some .capPerm
    else if capCursor x % 16 ≠ 0 || !s.inBreachRegion x then some .capBounds
    else none)
  else none

/-- A capability system register as CMTS leaves it. -/
def SvCore.capSysWrite (c : SvCore) (n : Nat) (x : Cap) : SvCore :=
  match n with
  | 0x60 => c.setBank { c.bank with epcc := x }
  | 0x61 => { c with fvec := x }
  | 0x69 => { c with nddc := x }
  | 0x6A => { c with ncsp := x }
  | 0x70 => { c with breachVec := x, onceVec := true }
  | 0x71 => { c with breachDdc := x, onceDdc := true }
  | 0x72 => { c with breachCsp := x, onceCsp := true }
  | n => { c with ivec := tabSet nullCap c.ivec (n - 0x61) x }

/-- CMFS: c[rd] = a capability system register. -/
def execCmfs (o : OpI) (s : State) : Host.Outcome State Fault Refusal :=
  let n := o.imm.toNat
  .next (s.svRun o.cond (wordIm 0x32 o) (!capSysListed n || noCap o.rd || o.rs1 != 0) true fun _ s =>
    .go (s.putC o.rd.toNat (s.sv.capSys n)))

/-- CMTS: a capability system register = c[rs1] (R376). -/
def execCmts (o : OpI) (s : State) : Host.Outcome State Fault Refusal :=
  let n := o.imm.toNat
  .next (s.svRun o.cond (wordIm 0x33 o) (!capSysListed n || noCap o.rs1 || s.sv.capOnce n || o.rd != 0) true fun c s =>
    let x := c.cr o.rs1.toNat
    match s.capSysReason n x with
    | some r => .fault (capFault r) s
    | none => .go (s.setSv (s.sv.capSysWrite n x)))

/-! ### Custom instructions (R335, R337) -/

/-- CUSTOM_INSTRUCTION: the microcode of a loaded slot; its writes become visible together (R337). -/
def execCustomInstruction (o : OpR) (slot : BitVec 4) (k : BitVec 3) (s : State) : Host.Outcome State Fault Refusal :=
  let e := tabGet slotEmpty s.sv.slots slot.toNat
  .next (s.svRun o.cond (wordR 0x3E (slot.toNat * 8 + k.toNat) o) (!e.2.1) false fun c s =>
    let env : MicroEnv := ⟨o.rd.toNat, o.rs1.toNat, o.rs2.toNat, c.gr o.rd.toNat, c.gr o.rs1.toNat, c.gr o.rs2.toNat, k.toNat,
      c.rm, c.trapov⟩
    match microRun env c.ucode e.1 64 ⟨[], none, c.a0, c.a1, c.flags⟩ with
    | none => .arith s
    | some st =>
      let s1 := match st.rd with | some v => s.putG o.rd.toNat v | none => s
      .go ((s1.setSv { s1.sv with a0 := st.a0, a1 := st.a1 }).putFlags st.flags))

/-! ### Entries of their own (R377, R380, R387, R395) -/

/-- A word that no row of the opcode table decodes: its condition, its major opcode or its function is reserved (R305,
R306, R309, R313, R318, R326, R371). -/
def wordReserved (w : Word) : Bool :=
  let major := fld w 22 6
  let fn := fld w 0 7
  fld w 28 4 = 0 || (match major with
    | 0x00 => intReserved (fn % 64)
    | 0x1C => 0x0B ≤ fn
    | 0x22 => 7 ≤ fn
    | 0x28 => fixReserved (fn % 16)
    | 0x29 => false
    | 0x2A => decReserved fn
    | m => !(m ≤ 9 || (0x10 ≤ m && m ≤ 0x1B) || m = 0x20 || m = 0x21 || m = 0x23 || m = 0x24 || (0x30 ≤ m && m ≤ 0x33)
        || m = 0x3E))

/-- A reason code of R16 by its number, among those that a fetch can be answered with.
Marked DEDUCED and unsafe (notes/assumptions/80.md). -/
def fetchReason (n : Nat) : Reason :=
  match n with
  | 0x02 => .range | 0x04 => .absent | 0x06 => .badState | 0x07 => .align | 0x08 => .width | 0x40 => .e2e
  | _ => .internal

/-- FAULT_ENTRY: the fetch at pcc fails, or meets a word that is no instruction, and the fault is taken (R306, R377, R387,
R389, R392, R394).
Marked DESIGN CHOICE and unsafe (notes/assumptions/68.md). -/
def execFaultEntry (f : Fetched) (s : State) : Host.Outcome State Fault Refusal :=
  .next (if !s.svIssues then s
    else
      let s1 := s.svBegin
      if s.sv.arith = some 8 then s1.svArith
      else match s.svFetchFault with
        | some (x, denied) => s1.svRaise (if denied then s1.guardDeny .headland .fetch x.addr else s1) x
        | none => match f with
          | .error r => s1.svRaise s1 ⟨4, fetchReason r, s.sv.pc, false⟩
          | .word w => if wordReserved w then s1.svRaise s1 ⟨1, .none, w.toNat, false⟩ else s)

/-- INTERRUPT_ACCEPT: the pending source of the highest level above ML is accepted through its IVEC (R380, R387, R394);
a pending imprecise ARITH comes first (R382). -/
def execInterruptAccept (s : State) : Host.Outcome State Fault Refusal :=
  .next (if !(s.computeRuns && s.boot.running && !s.sv.hold) || s.sv.breach then s
    else match s.irqBest s.sv.ml with
      | none => s
      | some (src, level) =>
        let s1 := s.svBegin
        let vec := tabGet nullCap s.sv.ivec level
        if s.sv.arith.isSome then s1.svArith
        else if s.sv.depth ≠ 65535 && vec = nullCap then s1.svBreach 4 0 0 s1.sv.pcc
        else match s1.svEnter vec level s1.sv.pcc s1.sv.pcc with
          | (true, s2) => s2.svCause 0x20 level true false .none src 0 0
          | (false, s2) => s2)

/-- ARITH_IMPRECISE: a pending imprecise ARITH is taken (R395). -/
def execArithImprecise (s : State) : Host.Outcome State Fault Refusal :=
  .next (if s.svIssues && s.sv.arith.isSome then s.svBegin.svArith else s)

end Sys2Proof.Machine
end

