-- ==== Sys2Proof/Machine/SwellRun.lean ====
section
/-! DEFINITION. What a Swell engine's bundle does (R346–R361, R364): fetching and checking it, its data banks, its slots, its
loops, and the responses of its fabric port. -/
namespace Sys2Proof.Machine

/-! ### Syllables (R346) -/

/-- The slot that a syllable names: 0 M0, 1 M1, 2 A, 3 L, 4 B. -/
def sylSlot (w : Word) : Nat := fld w 28 3
/-- The predicate that a syllable acts under. -/
def sylPred (w : Word) : Nat := fld w 25 3
/-- The operation within the slot. -/
def sylOp (w : Word) : Nat := fld w 19 6
/-- rd, or rt in format LS. -/
def sylRd (w : Word) : Nat := fld w 14 5
/-- rs1, or base in format LS. -/
def sylRs1 (w : Word) : Nat := fld w 9 5
/-- rs2. -/
def sylRs2 (w : Word) : Nat := fld w 4 5
/-- off8 of format LS, in words. -/
def sylOff8 (w : Word) : Int := sgn 8 w.toNat

/-- An RSEL that R314 lists. -/
def rselOk (r : Nat) : Bool := r ≤ 4

/-- An M syllable that R348 and R316 leave undefined.
Marked DEDUCED and unsafe (notes/assumptions/85.md). -/
def macIllegal (w : Word) : Bool :=
  let op := sylOp w
  let rsel := fld w 0 3
  if op ≤ 0x0F then
    (!accReads op && sylRd w != 0)
      || (accSources op ≤ 1 && sylRs2 w != 0)
      || (op == 6 && sylRs1 w != 0) || (accReads op && 2 ≤ sylRs1 w)
      || (if op = 8 || op = 9 then !rselOk rsel else rsel != 0)
  else if op ≤ 0x12 then bit w 3 || !rselOk rsel
  else if op ≤ 0x15 then fld w 0 4 != 0
  else true

/-- An A syllable that R349 leaves undefined. -/
def aluIllegal (w : Word) : Bool :=
  let op := sylOp w
  if op < 0x24 then
    intReserved op || op == 0x01 || op == 0x03 || op == 0x10 || op == 0x11 || fld w 0 4 != 0
      || (intUnary op && sylRs2 w != 0)
  else if op ≤ 0x27 then false
  else if op ≤ 0x2D then fld w 0 4 != 0 || 8 ≤ sylRd w || sylRd w == 0
  else if op ≤ 0x2F then fld w 0 4 != 0 || 8 ≤ sylRd w || sylRd w == 0 || 8 ≤ sylRs1 w || 8 ≤ sylRs2 w
  else if op ≤ 0x37 then
    bit w 3 || (if op = 0x37 then !rselOk (fld w 0 3) else fld w 0 3 != 0)
      || ((op == 0x32 || op == 0x33) && sylRs2 w != 0)
  else false

/-- An L syllable that R350 leaves undefined. -/
def memIllegal (w : Word) : Bool :=
  let op := sylOp w
  if op ≤ 1 then false
  else if op ≤ 3 then sylRd w % 2 != 0
  else if op ≤ 5 then sylRd w == sylRs1 w
  else true

/-- An engine register of R353. -/
def engReg (n : Nat) : Bool := n ≤ 0x11

/-- A B syllable that R351 and R353 leave undefined. -/
def ctlIllegal (w : Word) : Bool :=
  match sylOp w with
  | 0 | 1 => fld w 16 3 != 0
  | 2 | 5 | 6 => fld w 0 19 != 0
  | 3 | 4 => false
  | 7 => fld w 8 11 != 0
  | 8 => fld w 8 6 != 0 || !engReg (fld w 0 8)
  | 9 => fld w 14 5 != 0 || bit w 8 || 0x10 ≤ fld w 0 8
  | _ => true

/-- A syllable that makes its bundle illegal by itself (R357).
Marked DEDUCED and unsafe (notes/assumptions/85.md). -/
def sylIllegal (w : Word) : Bool :=
  match sylSlot w with
  | 0 | 1 => macIllegal w
  | 2 => aluIllegal w
  | 3 => memIllegal w
  | 4 => ctlIllegal w
  | _ => true

/-- A bundle as R357 reads it: the code of an illegal one with the syllable that made it so, or the syllables. -/
structure Bundle where
  code : Nat
  fsyl : Word
  syls : List Word
deriving DecidableEq, Repr

/-- The syllables from an address on: `k` may still follow, `slots` are named already (R346, R357).
Marked DEDUCED and unsafe (notes/assumptions/85.md). -/
def State.bundleScan (s : State) (e : Nat) : Nat → Nat → List Nat → Bundle
  | 0, _, _ => ⟨0x12, 0, []⟩
  | k + 1, a, slots =>
    let w := wordOf (s.memN (swProg e + 4 * a) 4)
    if sylIllegal w then ⟨0x10, w, []⟩
    else if slots.contains (sylSlot w) then ⟨0x11, w, []⟩
    else if bit w 31 then ⟨0, 0, [w]⟩
    else if k = 0 || a = 16383 then ⟨0x12, w, []⟩
    else
      let b := s.bundleScan e k (a + 1) (sylSlot w :: slots)
      { b with syls := w :: b.syls }

/-- The bundle at an engine's PC. -/
def State.bundleAt (s : State) (e : Nat) : Bundle := s.bundleScan e 5 (s.swPc e) []

/-! ### Registers -/

/-- A general register: g0 reads 0 (R345). -/
def Swell.gr (x : Swell) (r : Nat) : Word := tabGet 0 x.g r

/-- A predicate: p0 reads 1. -/
def Swell.pr (x : Swell) (k : Nat) : Bool := k == 0 || x.p.getLsbD k

/-- A predicate replaced. -/
def Swell.setP (x : Swell) (k : Nat) (b : Bool) : Swell :=
  { x with p := BitVec.ofNat 8 ((x.p.toNat - (if x.p.getLsbD k then 2 ^ k else 0)) + (if b then 2 ^ k else 0)) }

/-- An accumulator of a MAC unit (R348). -/
def Swell.acc (x : Swell) (unit a : Nat) : BitVec 72 :=
  if unit = 0 then (if a = 0 then x.m0a0 else x.m0a1) else if a = 0 then x.m1a0 else x.m1a1

/-- An accumulator of a MAC unit replaced. -/
def Swell.setAcc (x : Swell) (unit a : Nat) (v : BitVec 72) : Swell :=
  if unit = 0 then (if a = 0 then { x with m0a0 := v } else { x with m0a1 := v })
  else if a = 0 then { x with m1a0 := v } else { x with m1a1 := v }

/-- Saturation sets ECTL.Q. -/
def Swell.orQ (x : Swell) (q : Bool) : Swell := if q then { x with ectl := setBit x.ectl 0 true } else x

/-- A loop set. -/
def Swell.loop (x : Swell) (k : Nat) : LoopSet := tabGet ⟨0, 0, 0⟩ x.loops k

/-- A loop set replaced. -/
def Swell.setLoop (x : Swell) (k : Nat) (l : LoopSet) : Swell := { x with loops := tabSet ⟨0, 0, 0⟩ x.loops k l }

/-- The innermost active loop set (R329). -/
def Swell.innermost (x : Swell) : Option Nat := ([3, 2, 1, 0] : List Nat).find? fun k => x.active.contains k

/-- The rounding mode of RSEL on an engine (R348). -/
def Swell.mode (x : Swell) (rsel : Nat) : Nat := rselMode rsel (fld x.ectl 1 2)

/-- The flags that an engine's operations start from: only Q survives, and it is kept apart. -/
def noFlags : Flags := ⟨false, false, false, false, false, false⟩

/-- An engine register as MFE reads it (R353). -/
def Swell.engine (x : Swell) (e n : Nat) : Word :=
  match n with
  | 0 => x.dbank
  | 1 => x.ectl
  | 2 => x.tqbase
  | 3 => wordOf (x.p.toNat / 2 * 2 + 1)
  | 0x10 => wordOf e
  | 0x11 => wordOf x.stack.length
  | n =>
    let l := x.loop ((n - 4) / 3)
    if (n - 4) % 3 = 0 then l.s else if (n - 4) % 3 = 1 then l.e else l.c

/-- The reserved bits of an engine register (R353). -/
def engReserved (n : Nat) (v : Word) : Bool :=
  match n with
  | 0 | 3 => fld v 8 24 != 0
  | 1 | 2 => fld v 3 29 != 0
  | n => (n - 4) % 3 != 2 && fld v 14 18 != 0

/-- An engine register as MTE leaves it. -/
def Swell.setEngine (x : Swell) (n : Nat) (v : Word) : Swell :=
  match n with
  | 0 => { x with dbank := v }
  | 1 => { x with ectl := v }
  | 2 => { x with tqbase := v }
  | 3 => { x with p := BitVec.ofNat 8 (v.toNat / 2 * 2 + 1) }
  | n =>
    let k := (n - 4) / 3
    let l := x.loop k
    x.setLoop k (if (n - 4) % 3 = 0 then { l with s := v } else if (n - 4) % 3 = 1 then { l with e := v } else { l with c := v })

/-! ### Data banks (R350, R352, R354) -/

/-- The bank of an L syllable (R350). -/
def Swell.bank (x : Swell) (w : Word) : Nat := if bit w 8 then fld x.dbank 0 8 else 0

/-- The word address of an L syllable: the base alone for the post-increment forms (R350). -/
def Swell.waddr (x : Swell) (w : Word) : Nat :=
  if 4 ≤ sylOp w then fld (x.gr (sylRs1 w)) 0 16 else fld (x.gr (sylRs1 w) + wordI (sylOff8 w)) 0 16

/-- An L syllable stores. -/
def sylStores (w : Word) : Bool := sylOp w % 2 == 1

/-- An L syllable of two words. -/
def sylDouble (w : Word) : Bool := sylOp w == 2 || sylOp w == 3

/-- A record of bank 2: its first word's address and its words; none where R354 lists none. -/
def State.bank2At (s : State) (w : Nat) : Option (Nat × List Word) :=
  if w < 0x0700 then
    let port := w / 4
    let f := s.pinFunc port
    let x := (s.pin port).sample
    some (w / 4 * 4,
      if s.fuses.portFitted port && (f == 6 || f == 7) then
        [wordOf (uns 64 x.coord), wordOf (uns 64 x.coord / 2 ^ 32), wordOf x.inst, wordOf (x.inst / 2 ^ 32)]
      else [0, 0, 0, 0])
  else if 0x0800 ≤ w && w < 0x0807 then some (0x0800, (List.range 7).map fun i => s.rd (mirAddr (4 * i)))
  else if 0x0840 ≤ w && w < 0x0880 then
    let o := 0x800 + (w - 0x0840) / 4 * 0x10
    some (w / 4 * 4, [s.reg .trk (o + 4), s.reg .trk (o + 8), s.reg .trk (o + 12), 0])
  else if 0x0900 ≤ w && w < 0x0940 then
    let c := (w - 0x0900) / 4
    let x := (s.cv c).bank2
    some (w / 4 * 4,
      if c < s.fuses.cells && bit (s.cvCfg c) 9 then
        [wordOf (uns 32 x.code), wordOf x.seq, wordOf x.inst, wordOf (x.inst / 2 ^ 32)]
      else [0, 0, 0, 0])
  else if w = 0x0A00 || w = 0x0A01 then some (0x0A00, [wordOf s.now, wordOf (s.now / 2 ^ 32)])
  else none

/-- Whether a word of a bank faults under R352 or R354. -/
def State.bankFaults (s : State) (e bank w : Nat) (store : Bool) : Bool :=
  match bank with
  | 0 => 0x8000 ≤ w
  | 1 => !(w < 0x8000 || w == 0x8000 || w == 0x8001 || (0x8004 ≤ w && w ≤ 0x800F))
  | 2 => store || (s.bank2At w).isNone
  | b => 16 ≤ b || !bit (s.reg (.swell e) (0x80 + 4 * b)) 0

/-- The byte address that a word of bank 0, 1 or 3–15 lies at (R352, R354). -/
def State.bankAddr (s : State) (x : Swell) (e bank w : Nat) : Nat :=
  match bank with
  | 0 => swData e + 4 * w
  | 1 => if w < 0x8000 then 0x38000000 + fld x.tqbase 0 3 * 0x20000 + 4 * w else 0x38100000 + 4 * (w - 0x8000)
  | b => s.regF (.swell e) (0x80 + 4 * b) 18 14 * 2 ^ 18 + 4 * w

/-- A bank-2 load of one word: its value, and the engine's latch after it (R354). -/
def State.bank2Load (s : State) (x : Swell) (w : Nat) : Word × Swell :=
  match s.bank2At w with
  | none => (0, x)
  | some (first, ws) =>
    let live := ws.getD (w - first) 0
    if w = first then
      (live, { x with latch := some (first, (ws.zipIdx.map fun (v : Word × Nat) => (first + v.2, v.1)).tail) })
    else match x.latch with
      | some (f, t) => if f = first then (tabGet live t w, x) else (live, { x with latch := none })
      | none => (live, x)

/-! ### Faults of a bundle that runs (R358) -/

/-- A LOOP or LOOPI syllable's set, count and body length. -/
def Swell.loopArgs (x : Swell) (w : Word) : Nat × Word × Nat :=
  if sylOp w = 3 then (fld w 17 2, x.gr (fld w 12 5), fld w 0 12) else (fld w 17 2, wordOf (fld w 8 9), fld w 0 8)

/-- A LOOP that R332 refuses, in a bundle of `len` syllables at `pc` (R356). -/
def Swell.loopBad (x : Swell) (pc len : Nat) (w : Word) : Bool :=
  let (k, _, n) := x.loopArgs w
  let le := pc + len + n - 1
  n = 0 || 16383 < le || (x.active.any fun j => k ≤ j) || (0 < k && !x.active.contains (k - 1))
    || (0 < k && (x.loop (k - 1)).e.toNat ≤ le)
    || x.innermost.any fun j => (x.loop j).e.toNat == pc + len - 1

/-- The faults of a syllable whose predicate holds (R358). -/
def State.sylFaults (s : State) (x : Swell) (e pc len : Nat) (w : Word) : List Nat :=
  match sylSlot w, sylOp w with
  | 2, op => if divByZero op (x.gr (sylRs2 w)) then [0x15] else []
  | 3, _ =>
    let bank := x.bank w
    let a := x.waddr w
    (if s.bankFaults e bank a (sylStores w) || (sylDouble w && a % 2 == 0 && s.bankFaults e bank (a + 1) (sylStores w))
      then [0x13] else [])
      ++ (if sylDouble w && a % 2 == 1 then [0x14] else [])
  | 4, 1 => if 8 ≤ x.stack.length then [0x17] else []
  | 4, 2 => if x.stack.isEmpty then [0x17] else []
  | 4, 3 => if x.loopBad pc len w then [0x16] else []
  | 4, 4 => if x.loopBad pc len w then [0x16] else []
  | 4, 9 => if engReserved (fld w 0 8) (x.gr (sylRs1 w)) then [0x10] else []
  | _, _ => []

/-- A B syllable that transfers control: BR, CALL, RET. -/
def sylJumps (w : Word) : Bool := sylSlot w == 4 && sylOp w ≤ 2

/-- The loop-end rule's faults when a bundle of `len` syllables at `pc` completes without a taken transfer (R329, R332,
R356): the bundle holds LE but does not end there, LS lies past LE, or the next outer set is inactive.
Marked DEDUCED and unsafe (notes/assumptions/85.md). -/
def Swell.loopEndBad (x : Swell) (pc len : Nat) : Bool :=
  match x.innermost with
  | none => false
  | some k =>
    let le := (x.loop k).e.toNat
    (pc ≤ le && le + 1 < pc + len)
      || (le + 1 == pc + len && (le < (x.loop k).s.toNat || (0 < k && !x.active.contains (k - 1))))

/-- The syllables of a bundle whose predicates hold. -/
def Swell.acting (x : Swell) (syls : List Word) : List Word := syls.filter fun w => x.pr (sylPred w)

/-- Every fault that a legal bundle meets. -/
def State.bundleFaults (s : State) (x : Swell) (e pc : Nat) (syls : List Word) : List Nat :=
  let act := x.acting syls
  (act.map fun w => s.sylFaults x e pc syls.length w).flatten
    ++ (if !(act.any sylJumps) && x.loopEndBad pc syls.length then [0x16] else [])

/-! ### The slots -/

/-- The general register that a syllable writes when its bundle completes: a load's own destination is not one. -/
def sylDest (w : Word) : Option Nat :=
  match sylSlot w with
  | 0 | 1 => if sylOp w ≤ 0x0F then (if accReads (sylOp w) then some (sylRd w) else none) else some (sylRd w)
  | 2 =>
    if 0x38 ≤ sylOp w then some (fld w 16 5)
    else if 0x28 ≤ sylOp w && sylOp w ≤ 0x2F then none else some (sylRd w)
  | 3 => if 4 ≤ sylOp w then some (sylRs1 w) else none
  | _ => if sylOp w = 8 then some (sylRd w) else none

/-- What an M syllable leaves (R348): `x0` is the engine before the bundle. -/
def Swell.mac (x0 x : Swell) (w : Word) : Swell :=
  let unit := sylSlot w
  let a := fld w 3 1
  let op := sylOp w
  let v1 := x0.gr (sylRs1 w)
  let v2 := x0.gr (sylRs2 w)
  let mode := x0.mode (fld w 0 3)
  if op ≤ 0x0F then
    let r := accRes op mode noFlags (x0.acc unit a) v1 v2
    let y := (if accReads op then x else x.setAcc unit a r.acc).orQ r.flags.q
    match r.rd with
    | some v => y.setG (sylRd w) v
    | none => y
  else if op ≤ 0x12 then
    let r := fixRes (if op = 0x10 then 4 else if op = 0x11 then 8 else 0xB) mode noFlags v1 v2
    (x.setG (sylRd w) r.1).orQ r.2.q
  else x.setG (sylRd w) (intRes (op - 1) noFlags v1 v2).1

/-- The comparison of PEQ, PNE, PLT, PGE, PLTU, PGEU (R349). -/
def predCompare (op : Nat) (a b : Word) : Bool :=
  match op with
  | 0x28 => a == b
  | 0x29 => a != b
  | 0x2A => sgnW a < sgnW b
  | 0x2B => sgnW b ≤ sgnW a
  | 0x2C => a.toNat < b.toNat
  | _ => b.toNat ≤ a.toNat

/-- What an A syllable leaves (R349). -/
def Swell.alu (x0 x : Swell) (w : Word) : Swell :=
  let op := sylOp w
  let v1 := x0.gr (sylRs1 w)
  let v2 := x0.gr (sylRs2 w)
  if op < 0x24 then
    x.setG (sylRd w) (intRes op noFlags v1 (if intShiftImm op then wordOf (sylRs2 w) else v2)).1
  else if op = 0x24 then x.setG (sylRd w) (v1 + wordI (sgn 9 w.toNat))
  else if op ≤ 0x27 then
    let i := wordOf (fld w 0 9)
    x.setG (sylRd w) (if op = 0x25 then v1 &&& i else if op = 0x26 then v1 ||| i else v1 ^^^ i)
  else if op ≤ 0x2D then x.setP (sylRd w) (predCompare op v1 v2)
  else if op ≤ 0x2F then
    let b := x0.pr (sylRs2 w)
    x.setP (sylRd w) (x0.pr (sylRs1 w) && (if op = 0x2E then b else !b))
  else if op ≤ 0x37 then
    let fn := [0, 1, 2, 3, 6, 7, 9, 0xA].getD (op - 0x30) 0
    let r := fixRes fn (x0.mode (fld w 0 3)) noFlags v1 v2
    (x.setG (sylRd w) r.1).orQ r.2.q
  else
    let rd := fld w 16 5
    if op ≤ 0x3B then x.setG rd (setFld (x0.gr rd) 16 16 (fld w 0 16)) else x.setG rd (wordOf (fld w 0 16))

/-- What a B syllable leaves of registers (R351, R356). -/
def Swell.ctl (x0 x : Swell) (e pc len : Nat) (w : Word) : Swell :=
  match sylOp w with
  | 1 => { x with stack := (pc + len) % 2 ^ 14 :: x0.stack }
  | 2 => { x with stack := x0.stack.tail }
  | 3 | 4 =>
    let (k, c, n) := x0.loopArgs w
    let y := x.setLoop k ⟨wordOf (pc + len), wordOf (pc + len + n - 1), c⟩
    if c = 0 then y else { y with active := k :: x0.active }
  | 8 => x.setG (sylRd w) (x0.engine e (fld w 0 8))
  | 9 => x.setEngine (fld w 0 8) (x0.gr (sylRs1 w))
  | _ => x

/-- The registers as one syllable leaves them: an L syllable only moves its base (R350). -/
def Swell.slot (x0 x : Swell) (e pc len : Nat) (w : Word) : Swell :=
  match sylSlot w with
  | 0 | 1 => x0.mac x w
  | 2 => x0.alu x w
  | 3 => if 4 ≤ sylOp w then x.setG (sylRs1 w) (x0.gr (sylRs1 w) + wordI (sylOff8 w)) else x
  | _ => x0.ctl x e pc len w

/-- The syllables of a bundle in the order whose latest write of a register stands (R347). -/
def inSlotOrder (syls : List Word) : List Word :=
  (List.range 5).flatMap fun k => syls.filter fun w => sylSlot w == k

/-- The registers as a bundle's acting syllables leave them, with the loads that it discards dropped (R347, R355). -/
def Swell.results (x0 : Swell) (e pc len : Nat) (act : List Word) : Swell :=
  let x := (inSlotOrder act).foldl (fun x w => x0.slot x e pc len w) x0
  { x with loads := x.loads.filter fun l => !(act.any fun w => sylDest w == some l.reg) }

/-! ### The B slot's next PC, and loop ends -/

/-- Where a bundle's B syllable sends control, if it does (R351, R356). -/
def Swell.target (x : Swell) (pc len : Nat) (w : Word) : Option Nat :=
  match sylOp w with
  | 0 | 1 => some ((pc + uns 14 (sgn 16 w.toNat)) % 2 ^ 14)
  | 2 => x.stack.head?
  | 3 | 4 =>
    let (_, c, n) := x.loopArgs w
    if c = 0 then some ((pc + len + n) % 2 ^ 14) else none
  | _ => none

/-- A taken BR whose target lies outside an active set's body ends that set and those inside it (R330). -/
def Swell.leave (x : Swell) (target : Nat) : Swell :=
  { x with active := x.active.filter fun k =>
      x.active.all fun j => k < j || ((x.loop j).s.toNat ≤ target && target ≤ (x.loop j).e.toNat) }

/-- The loop-end rule when a bundle that ends at `last` completes (R329, R356): the engine and the next PC. -/
def Swell.loopEnd (x0 x : Swell) (last : Nat) : Swell × Nat :=
  match x0.innermost with
  | some k =>
    if (x0.loop k).e.toNat = last then
      let l := x.loop k
      let c := l.c - 1
      let y := x.setLoop k { l with c := c }
      if c = 0 then ({ y with active := y.active.filter (· != k) }, (last + 1) % 2 ^ 14)
      else (y, (x0.loop k).s.toNat % 2 ^ 14)
    else (x, (last + 1) % 2 ^ 14)
  | none => (x, (last + 1) % 2 ^ 14)

/-- The engine and the next PC as control leaves a bundle. -/
def Swell.flow (x0 x : Swell) (pc len : Nat) (act : List Word) : Swell × Nat :=
  match act.find? fun w => sylSlot w == 4 with
  | some w =>
    match x0.target pc len w with
    | some t => (if sylOp w = 0 then x.leave t else x, t)
    | none => x0.loopEnd x (pc + len - 1)
  | none => x0.loopEnd x (pc + len - 1)

/-! ### Accesses (R350–R355, R359) -/

/-- A load is issued: its one or two destinations. -/
def Swell.issueLoad (x : Swell) (rt : Nat) (lo hi : Word) (double : Bool) (acc : Option Nat) : Swell :=
  { x with loads := x.loads ++ [⟨rt, lo, 4, acc⟩] ++ (if double then [⟨rt + 1, hi, 4, acc⟩] else []) }

/-- What an L syllable stores: one word, or two. -/
def Swell.storeVal (x : Swell) (w : Word) : Nat :=
  (x.gr (sylRd w)).toNat + (if sylDouble w then 2 ^ 32 * (x.gr (sylRd w + 1)).toNat else 0)

/-- An L syllable's access leaves through the fabric port. -/
def sylFabric (x : Swell) (w : Word) : Bool := sylSlot w == 3 && x.bank w != 0 && x.bank w != 2

/-- The access of an L syllable: `x0` the engine before the bundle, whose registers give address and data. A fabric access
takes its effect now; its response comes with SWELL_FABRIC_RESPONSE. -/
def State.swAccess (s : State) (x0 : Swell) (e : Nat) (w : Word) : State :=
  let bank := x0.bank w
  let a := x0.waddr w
  let n := if sylDouble w then 8 else 4
  let addr := s.bankAddr x0 e bank a
  if bank = 0 then
    if sylStores w then s.swEach e fun s e => s.setMem (s.bankAddr x0 e bank a) n (x0.storeVal w)
    else
      let v := s.memN addr n
      s.setSw e ((s.sw e).issueLoad (sylRd w) (wordOf v) (wordOf (v / 2 ^ 32)) (sylDouble w) none)
  else if bank = 2 then
    let (lo, x1) := s.bank2Load (s.sw e) a
    let (hi, x2) := if sylDouble w then s.bank2Load x1 (a + 1) else (0, x1)
    s.setSw e (x2.issueLoad (sylRd w) lo hi (sylDouble w) none)
  else
    let store := sylStores w
    let acc : Access := ⟨.swell e, addr, n, if store then x0.storeVal w else 0, true⟩
    let s1 := if store then s.fabricWrite acc else s.fabricRead acc
    let r := s1.lastResp (.swell e)
    let x := s1.sw e
    let id := x.next
    let y : Swell := { x with outs := x.outs ++ [⟨id, r.reason, bank, a⟩], next := id + 1, port := some s.now }
    s1.setSw e (if store then y else y.issueLoad (sylRd w) (wordOf r.data) (wordOf (r.data / 2 ^ 32)) (sylDouble w) (some id))

/-- One bundle less to wait for every load (R355): a load that has waited three bundles and has its value is written. -/
def Swell.advance (x : Swell) : Swell :=
  let ls := x.loads.map fun l => { l with left := l.left - 1 }
  let y := (ls.filter fun l => l.left == 0 && l.acc.isNone).foldl (fun (y : Swell) l => y.setG l.reg l.val) x
  { y with loads := ls.filter fun l => !(l.left == 0 && l.acc.isNone) }

/-! ### The bundle -/

/-- A legal bundle without a fault takes effect, `quiet`: with no fabric request and, if `keep`, its local store (R364).
The answer holds PC. -/
def State.bundleEffect (s : State) (e : Nat) (syls : List Word) (quiet keep : Bool) : State :=
  let x0 := s.sw e
  let pc := s.swPc e
  let act := x0.acting syls
  let (x, next) := x0.flow (x0.results e pc syls.length act) pc syls.length act
  let s1 := s.setSw e x
  let s2 := match act.find? fun w => sylSlot w == 3 with
    | some w =>
      if quiet && (sylFabric x0 w || (sylStores w && !keep)) then s1 else s1.swAccess x0 e w
    | none => s1
  (s2.setSw e (s2.sw e).advance).setSwPc e next

/-- What the B syllable does to the engine's STATE when its bundle has taken effect (R351, R360), else a STEP ends (R365). -/
def State.bundleEnd (s : State) (e : Nat) (x0 : Swell) (syls : List Word) : State :=
  let b := (x0.acting syls).find? fun w => sylSlot w == 4
  let op := b.map sylOp
  let s1 := match b with
    | some w => if sylOp w = 7 then (s.swEach e fun s e => s.setReg (.swell e) 0x64 (wordOf (fld w 0 8))).irqBit (.swell e) 2 else s
    | none => s
  if op = some 5 && !x0.wake then (s1.setRegF (.swell e) 0x48 0 3 2).swMirror e
  else
    let s2 := s1.swCount e
    let s3 := if op = some 5 then s2.setSw e { s2.sw e with wake := false } else s2
    if op = some 6 then s3.swHalt e 2
    else if x0.step then ((s3.setSw e { s3.sw e with step := false }).swEnter e 0 1).swMirror e
    else s3.swMirror e

/-- The engine runs and its next bundle can be issued: a pair by its even engine, and not while it is isolated.
Marked DESIGN CHOICE and unsafe (notes/assumptions/88.md). -/
def State.swIssues (s : State) (e : Nat) : Bool :=
  s.swOn e && !s.swChecker e && s.swState e = 1 && !s.isFenced (.swell e) && !s.swCopying e

/-- Four cycles have passed since the engine's latest fabric access (R361). -/
def State.portFree (s : State) (x : Swell) : Bool := x.port.all fun t => 32 ≤ inst64 (s.now + 2 ^ 64 - t)

/-- The bundle waits one cycle: a load that its bundle must see has not completed (R355), or the port has not come round to
the next access (R361).
Marked DESIGN CHOICE and unsafe (notes/assumptions/88.md). -/
def State.swStalls (s : State) (x : Swell) (syls : List Word) : Bool :=
  (x.loads.any fun l => l.left == 0 && l.acc.isSome)
    || ((x.acting syls).any fun w => sylFabric x w && !s.portFree x)

/-- An engine issues its next bundle (R346–R365); `mismatch`: the pair's engines disagree on it (R364).
Marked DESIGN CHOICE and safe (notes/assumptions/86.md), DESIGN CHOICE and safe (notes/assumptions/87.md), DESIGN
CHOICE and unsafe (notes/assumptions/88.md). -/
def State.bundle (s : State) (e : Nat) (mismatch : Bool) : State :=
  if !s.swIssues e then s
  else if (s.sw e).haltOwed then s.swHalt e 0x18
  else
    let b := s.bundleAt e
    let x0 := s.sw e
    let pc := s.swPc e
    let faults := s.bundleFaults x0 e pc b.syls
    if mismatch && s.swPaired e then
      let keep := Config.freeBool s.free
      let s1 := if b.code = 0 && faults.isEmpty then s.draw.bundleEffect e b.syls true keep else s
      ((s1.swHalt e 0x19).setRegF (.swell e) 0x6C 2 1 1).irqBit (.swell e) 4
    else if b.code ≠ 0 then (s.swHalt e b.code).swEach e fun s e => s.setReg (.swell e) 0x4C b.fsyl
    else match faults with
      | [] =>
        if s.swStalls x0 b.syls then s.swEach e fun s e => s.satInc (.swell e) 0x5C
        else (s.bundleEffect e b.syls false false).bundleEnd e x0 b.syls
      | c :: cs => s.draw.swHalt e ((c :: cs).getD (Config.freeNat s.free % (c :: cs).length) c)

/-- BUNDLE_EXECUTE: a Swell engine issues its next bundle. -/
def execBundleExecute (e : Nat) (mismatch : Bool) (s : State) : Host.Outcome State Fault Refusal :=
  .next (s.bundle e mismatch)

/-- A fabric response reaches its engine (R50, R355, R359): the oldest access of the engine completes; a load takes its value,
an error is recorded in SW_ERR and may halt the engine at the next bundle boundary.
Marked DESIGN CHOICE and unsafe (notes/assumptions/88.md). -/
def State.swResponse (s : State) (e : Nat) : State :=
  match (s.sw e).outs with
  | [] => s
  | o :: os =>
    let x := s.sw e
    let ls := x.loads.map fun l => if l.acc = some o.id then { l with acc := none } else l
    let y := (ls.filter fun l => l.left == 0 && l.acc.isNone).foldl (fun (y : Swell) l => y.setG l.reg l.val) x
    let halts := o.reason ≠ .none && bit (s.reg (.swell e) 0x44) 16 && s.swBusy e
    let z : Swell := { y with outs := os, loads := ls.filter (fun l => !(l.left == 0 && l.acc.isNone)),
                              haltOwed := x.haltOwed || halts }
    let s1 := s.setSw e z
    let s2 :=
      if o.reason = .none then s1
      else if s1.reg (.swell e) 0x50 = 0 then
        (s1.swEach e fun s e =>
          s.setReg (.swell e) 0x50 (wordOf (o.reason.code + o.bank * 2 ^ 8 + o.waddr * 2 ^ 12))).irqBit (.swell e) 3
      else s1.swEach e fun s e => s.setRegF (.swell e) 0x50 31 1 1
    s2.swMirror e

/-- SWELL_FABRIC_RESPONSE: a response to an engine's fabric access arrives. -/
def execSwellFabricResponse (e : Nat) (s : State) : Host.Outcome State Fault Refusal :=
  .next (if s.swOn e then s.swResponse e else s)

end Sys2Proof.Machine
end

