-- ==== Sys2Proof/Machine/Dispatch.lean ====
section
/-! DEFINITION. One arm per command: its meaning. -/
namespace Sys2Proof.Machine

/-- A command's effect on everything but the queue. -/
def exec (i : Instr) (s : State) : Host.Outcome State Fault Refusal :=
  match i with
  | .registerWrite a => Sys2Proof.Machine.execRegisterWrite a s
  | .pageCtrlWrite m p v => Sys2Proof.Machine.execPageCtrlWrite m p v s
  | .softReset m p clkReq => Sys2Proof.Machine.execSoftReset m p clkReq s
  | .softResetDone p => Sys2Proof.Machine.execSoftResetDone p s
  | .lockWrite m p cfg owner => Sys2Proof.Machine.execLockWrite m p cfg owner s
  | .keyWrite m p key low => Sys2Proof.Machine.execKeyWrite m p key low s
  | .keySequenceTimeout p => Sys2Proof.Machine.execKeySequenceTimeout p s
  | .pageErrClear m p => Sys2Proof.Machine.execPageErrClear m p s
  | .irqSet m p bits => Sys2Proof.Machine.execIrqSet m p bits s
  | .e2eStatClr m p => Sys2Proof.Machine.execE2eStatClr m p s
  | .tbNowRead m wide => Sys2Proof.Machine.execTbNowRead m wide s
  | .tbModeWrite m v => Sys2Proof.Machine.execTbModeWrite m v s
  | .syncReceive port gm => Sys2Proof.Machine.execSyncReceive port gm s
  | .syncTimeout => Sys2Proof.Machine.execSyncTimeout s
  | .skewMeasurement ps => Sys2Proof.Machine.execSkewMeasurement ps s
  | .skewClr m => Sys2Proof.Machine.execSkewClr m s
  | .tidemarkStrobe => Sys2Proof.Machine.execTidemarkStrobe s
  | .linkTimeout => Sys2Proof.Machine.execLinkTimeout s
  | .registerTransferRetry seqGap repeatOk => Sys2Proof.Machine.execRegisterTransferRetry seqGap repeatOk s
  | .queueTableWrite m q limit v => Sys2Proof.Machine.execQueueTableWrite m q limit v s
  | .queueBindWrite m q wide v => Sys2Proof.Machine.execQueueBindWrite m q wide v s
  | .submitStage m slot part wide v => Sys2Proof.Machine.execSubmitStage m slot part wide v s
  | .submitAct m slot wide pay metaCrc => Sys2Proof.Machine.execSubmitAct m slot wide pay metaCrc s
  | .releaseArm m slot wide pay metaCrc => Sys2Proof.Machine.execReleaseArm m slot wide pay metaCrc s
  | .subResRead m wide => Sys2Proof.Machine.execSubResRead m wide s
  | .ebbCutStage m hi wide v => Sys2Proof.Machine.execEbbCutStage m hi wide v s
  | .ebbCmdLowStage m v => Sys2Proof.Machine.execEbbCmdLowStage m v s
  | .ebbHandle m wide target high => Sys2Proof.Machine.execEbbHandle m wide target high s
  | .ebbQueue m wide target high => Sys2Proof.Machine.execEbbQueue m wide target high s
  | .ebbGroup m wide target high => Sys2Proof.Machine.execEbbGroup m wide target high s
  | .ebbResultDone m => Sys2Proof.Machine.execEbbResultDone m s
  | .entryCommit h => Sys2Proof.Machine.execEntryCommit h s
  | .entryHandoff h crcOk => Sys2Proof.Machine.execEntryHandoff h crcOk s
  | .linkEntryReceive h o => Sys2Proof.Machine.execLinkEntryReceive h o s
  | .entryDelivery h crcOk => Sys2Proof.Machine.execEntryDelivery h crcOk s
  | .releaseFire q => Sys2Proof.Machine.execReleaseFire q s
  | .preemption => Sys2Proof.Machine.execPreemption s
  | .qtErrClr m => Sys2Proof.Machine.execQtErrClr m s
  | .logConfigWrite m which size v => Sys2Proof.Machine.execLogConfigWrite m which size v s
  | .tqfStatClr m => Sys2Proof.Machine.execTqfStatClr m s
  | .delivRead m wide => Sys2Proof.Machine.execDelivRead m wide s
  | .pinCfgWrite m port v => Sys2Proof.Machine.execPinCfgWrite m port v s
  | .offsetWrite m port v => Sys2Proof.Machine.execOffsetWrite m port v s
  | .levelAction port => Sys2Proof.Machine.execLevelAction port s
  | .pulseStart port => Sys2Proof.Machine.execPulseStart port s
  | .pulseEnd port => Sys2Proof.Machine.execPulseEnd port s
  | .pwmDutyEntry port => Sys2Proof.Machine.execPwmDutyEntry port s
  | .pwmPeriodEntry port => Sys2Proof.Machine.execPwmPeriodEntry port s
  | .pwmRunEntry port => Sys2Proof.Machine.execPwmRunEntry port s
  | .pwmPeriodStart port => Sys2Proof.Machine.execPwmPeriodStart port s
  | .stepdirSegment port => Sys2Proof.Machine.execStepdirSegment port s
  | .stepEdge port => Sys2Proof.Machine.execStepEdge port s
  | .captureEdge port level inst => Sys2Proof.Machine.execCaptureEdge port level inst s
  | .capturePop m k wide => Sys2Proof.Machine.execCapturePop m k wide s
  | .quadEdge port isB level inst => Sys2Proof.Machine.execQuadEdge port isB level inst s
  | .quadSample port inst => Sys2Proof.Machine.execQuadSample port inst s
  | .ssiRead port inst => Sys2Proof.Machine.execSsiRead port inst s
  | .ssiReadDone port raw parityBit parityOk => Sys2Proof.Machine.execSsiReadDone port raw parityBit parityOk s
  | .pinCountRead m port wide => Sys2Proof.Machine.execPinCountRead m port wide s
  | .coordRead m port wide => Sys2Proof.Machine.execCoordRead m port wide s
  | .bankCntClr m k => Sys2Proof.Machine.execBankCntClr m k s
  | .captureFlush m k => Sys2Proof.Machine.execCaptureFlush m k s
  | .generatorStart m g cfg => Sys2Proof.Machine.execGeneratorStart m g cfg s
  | .generatorStop m g cfg => Sys2Proof.Machine.execGeneratorStop m g cfg s
  | .generatorSample g => Sys2Proof.Machine.execGeneratorSample g s
  | .triggerEdge g => Sys2Proof.Machine.execTriggerEdge g s
  | .generatorStall g => Sys2Proof.Machine.execGeneratorStall g s
  | .tlogQuery m wide v => Sys2Proof.Machine.execTlogQuery m wide v s
  | .cyclicFrame seg inst start => Sys2Proof.Machine.execCyclicFrame seg inst start s
  | .acyclicFrame seg start => Sys2Proof.Machine.execAcyclicFrame seg start s
  | .tsnFrame n start => Sys2Proof.Machine.execTsnFrame n start s
  | .ackReceive port f => Sys2Proof.Machine.execAckReceive port f s
  | .ackTimeout port start => Sys2Proof.Machine.execAckTimeout port start s
  | .eventFrameReceive port f => Sys2Proof.Machine.execEventFrameReceive port f s
  | .rxFrameDiscard port foreign f => Sys2Proof.Machine.execRxFrameDiscard port foreign f s
  | .safeFrameReceive port chan f => Sys2Proof.Machine.execSafeFrameReceive port chan f s
  | .safeKeepalive port chan => Sys2Proof.Machine.execSafeKeepalive port chan s
  | .safeConnectionLost port chan => Sys2Proof.Machine.execSafeConnectionLost port chan s
  | .safeConnectionOpen port chan => Sys2Proof.Machine.execSafeConnectionOpen port chan s
  | .syncSend seg => Sys2Proof.Machine.execSyncSend seg s
  | .tsnLinkChange n up => Sys2Proof.Machine.execTsnLinkChange n up s
  | .t1sCntClr m seg => Sys2Proof.Machine.execT1sCntClr m seg s
  | .tsnCntClr m n => Sys2Proof.Machine.execTsnCntClr m n s
  | .sourceSlotWrite m inst v => Sys2Proof.Machine.execSourceSlotWrite m inst v s
  | .trackerSourceSample slot => Sys2Proof.Machine.execTrackerSourceSample slot s
  | .sourceStall slot => Sys2Proof.Machine.execSourceStall slot s
  | .fwInstStage m f v => Sys2Proof.Machine.execFwInstStage m f v s
  | .fwSampleCommit m f v => Sys2Proof.Machine.execFwSampleCommit m f v s
  | .stationWrite m t word v => Sys2Proof.Machine.execStationWrite m t word v s
  | .templateWrite m t word v => Sys2Proof.Machine.execTemplateWrite m t word v s
  | .openCmd m v => Sys2Proof.Machine.execOpenCmd m v s
  | .contextOpenDeferred => Sys2Proof.Machine.execContextOpenDeferred s
  | .visitEvaluate => Sys2Proof.Machine.execVisitEvaluate s
  | .repredictionResult => Sys2Proof.Machine.execRepredictionResult s
  | .visitFreeze ctx visit => Sys2Proof.Machine.execVisitFreeze ctx visit s
  | .visitDone ctx visit => Sys2Proof.Machine.execVisitDone ctx visit s
  | .contextCancel m v => Sys2Proof.Machine.execContextCancel m v s
  | .trErrClr m => Sys2Proof.Machine.execTrErrClr m s
  | .trackerStatClr m => Sys2Proof.Machine.execTrackerStatClr m s
  | .rollmapRecordWrite => Sys2Proof.Machine.execRollmapRecordWrite s
  | .appendWord m w v => Sys2Proof.Machine.execAppendWord m w v s
  | .appendCommit m v => Sys2Proof.Machine.execAppendCommit m v s
  | .rmRdWrite m v => Sys2Proof.Machine.execRmRdWrite m v s
  | .rollrecSend link => Sys2Proof.Machine.execRollrecSend link s
  | .rollmapClr m => Sys2Proof.Machine.execRollmapClr m s
  | .cameraEnable m c cfg => Sys2Proof.Machine.execCameraEnable m c cfg s
  | .cameraDisable m c cfg => Sys2Proof.Machine.execCameraDisable m c cfg s
  | .cameraDrainDone cam => Sys2Proof.Machine.execCameraDrainDone cam s
  | .lineIntake cam => Sys2Proof.Machine.execLineIntake cam s
  | .laneLineComplete lane => Sys2Proof.Machine.execLaneLineComplete lane s
  | .patchRowSend group => Sys2Proof.Machine.execPatchRowSend group s
  | .patchTrailerSend win => Sys2Proof.Machine.execPatchTrailerSend win s
  | .ffDataAccess m g write v => Sys2Proof.Machine.execFfDataAccess m g write v s
  | .kcommit m l => Sys2Proof.Machine.execKcommit m l s
  | .kernelShadowCopy lane => Sys2Proof.Machine.execKernelShadowCopy lane s
  | .surfGroupClr m g => Sys2Proof.Machine.execSurfGroupClr m g s
  | .cameraClr m c => Sys2Proof.Machine.execCameraClr m c s
  | .surfLaneClr m l => Sys2Proof.Machine.execSurfLaneClr m l s
  | .linePacketReceive link ws framed => Sys2Proof.Machine.execLinePacketReceive link ws framed s
  | .gheryEventReceive link ws framed => Sys2Proof.Machine.execGheryEventReceive link ws framed s
  | .creditReceive link ws => Sys2Proof.Machine.execCreditReceive link ws s
  | .trainReceive sideband lane ws => Sys2Proof.Machine.execTrainReceive sideband lane ws s
  | .amReceive lane am bipOk skew => Sys2Proof.Machine.execAmReceive lane am bipOk skew s
  | .amSend link bips => Sys2Proof.Machine.execAmSend link bips s
  | .trainSend link lane => Sys2Proof.Machine.execTrainSend link lane s
  | .trainSeekSend link => Sys2Proof.Machine.execTrainSeekSend link s
  | .creditSend link => Sys2Proof.Machine.execCreditSend link s
  | .receiverReady link => Sys2Proof.Machine.execReceiverReady link s
  | .receiverUp link => Sys2Proof.Machine.execReceiverUp link s
  | .transmitterUp link => Sys2Proof.Machine.execTransmitterUp link s
  | .linkRetrain out link inPacket => Sys2Proof.Machine.execLinkRetrain out link inPacket s
  | .sidebandTimeout link => Sys2Proof.Machine.execSidebandTimeout link s
  | .evtSend m k => Sys2Proof.Machine.execEvtSend m k s
  | .eventPacketSend link => Sys2Proof.Machine.execEventPacketSend link s
  | .linkEnable m out l width => Sys2Proof.Machine.execLinkEnable m out l width s
  | .linkDisable m out l width => Sys2Proof.Machine.execLinkDisable m out l width s
  | .gheryLaneClr m l => Sys2Proof.Machine.execGheryLaneClr m l s
  | .txlClr m k => Sys2Proof.Machine.execTxlClr m k s
  | .ingressLinkClr m l => Sys2Proof.Machine.execIngressLinkClr m l s
  | .egressLinkClr m k => Sys2Proof.Machine.execEgressLinkClr m k s
  | .evtArrRead m l wide => Sys2Proof.Machine.execEvtArrRead m l wide s
  | .tidemarkSample ok => Sys2Proof.Machine.execTidemarkSample ok s
  | .statusTransfer ok => Sys2Proof.Machine.execStatusTransfer ok s
  | .rollEvent ok => Sys2Proof.Machine.execRollEvent ok s
  | .ticketIssue => Sys2Proof.Machine.execTicketIssue s
  | .ticketTransfer ok => Sys2Proof.Machine.execTicketTransfer ok s
  | .auditTransfer ok => Sys2Proof.Machine.execAuditTransfer ok s
  | .goneTransfer ok => Sys2Proof.Machine.execGoneTransfer ok s
  | .readReq tickets first last => Sys2Proof.Machine.execReadReq tickets first last s
  | .tmLinkUp => Sys2Proof.Machine.execTmLinkUp s
  | .tmLinkDown => Sys2Proof.Machine.execTmLinkDown s
  | .legalEncoderEdge w a b periods f => Sys2Proof.Machine.execLegalEncoderEdge w a b periods f s
  | .zEdge w => Sys2Proof.Machine.execZEdge w s
  | .propSubmit m => Sys2Proof.Machine.execPropSubmit m s
  | .proposalParam => Sys2Proof.Machine.execProposalParam s
  | .proposalSeal => Sys2Proof.Machine.execProposalSeal s
  | .proposalRoll => Sys2Proof.Machine.execProposalRoll s
  | .proposalVerify => Sys2Proof.Machine.execProposalVerify s
  | .propDone ok => Sys2Proof.Machine.execPropDone ok s
  | .bypassChange on => Sys2Proof.Machine.execBypassChange on s
  | .holdupEntry => Sys2Proof.Machine.execHoldupEntry s
  | .restCommit => Sys2Proof.Machine.execRestCommit s
  | .finalCommit => Sys2Proof.Machine.execFinalCommit s
  | .checkpoint => Sys2Proof.Machine.execCheckpoint s
  | .tidemarkBoot bad fwOk => Sys2Proof.Machine.execTidemarkBoot bad fwOk s
  | .tidemarkWatchdogExpiry => Sys2Proof.Machine.execTidemarkWatchdogExpiry s
  | .tidemarkClockFault bad => Sys2Proof.Machine.execTidemarkClockFault bad s
  | .mirrorRefill m => Sys2Proof.Machine.execMirrorRefill m s
  | .tmCntClr m => Sys2Proof.Machine.execTmCntClr m s
  | .tmErrClr m => Sys2Proof.Machine.execTmErrClr m s
  | .posSnapshotRead m wide => Sys2Proof.Machine.execPosSnapshotRead m wide s
  | .totalRead m wide => Sys2Proof.Machine.execTotalRead m wide s
  | .eventsRead m wide => Sys2Proof.Machine.execEventsRead m wide s
  | .add o sf => Sys2Proof.Machine.execAdd o sf s
  | .adc o sf => Sys2Proof.Machine.execAdc o sf s
  | .sub o sf => Sys2Proof.Machine.execSub o sf s
  | .sbc o sf => Sys2Proof.Machine.execSbc o sf s
  | .and o sf => Sys2Proof.Machine.execAnd o sf s
  | .or o sf => Sys2Proof.Machine.execOr o sf s
  | .xor o sf => Sys2Proof.Machine.execXor o sf s
  | .bic o sf => Sys2Proof.Machine.execBic o sf s
  | .shl o sf => Sys2Proof.Machine.execShl o sf s
  | .shr o sf => Sys2Proof.Machine.execShr o sf s
  | .sar o sf => Sys2Proof.Machine.execSar o sf s
  | .ror o sf => Sys2Proof.Machine.execRor o sf s
  | .shli o sf => Sys2Proof.Machine.execShli o sf s
  | .shri o sf => Sys2Proof.Machine.execShri o sf s
  | .sari o sf => Sys2Proof.Machine.execSari o sf s
  | .rori o sf => Sys2Proof.Machine.execRori o sf s
  | .cmp o sf => Sys2Proof.Machine.execCmp o sf s
  | .tst o sf => Sys2Proof.Machine.execTst o sf s
  | .mul o sf => Sys2Proof.Machine.execMul o sf s
  | .mulh o sf => Sys2Proof.Machine.execMulh o sf s
  | .mulhu o sf => Sys2Proof.Machine.execMulhu o sf s
  | .div o sf => Sys2Proof.Machine.execDiv o sf s
  | .divu o sf => Sys2Proof.Machine.execDivu o sf s
  | .rem o sf => Sys2Proof.Machine.execRem o sf s
  | .remu o sf => Sys2Proof.Machine.execRemu o sf s
  | .min o sf => Sys2Proof.Machine.execMin o sf s
  | .max o sf => Sys2Proof.Machine.execMax o sf s
  | .minu o sf => Sys2Proof.Machine.execMinu o sf s
  | .maxu o sf => Sys2Proof.Machine.execMaxu o sf s
  | .clz o sf => Sys2Proof.Machine.execClz o sf s
  | .rev o sf => Sys2Proof.Machine.execRev o sf s
  | .sxtb o sf => Sys2Proof.Machine.execSxtb o sf s
  | .sxth o sf => Sys2Proof.Machine.execSxth o sf s
  | .zxtb o sf => Sys2Proof.Machine.execZxtb o sf s
  | .zxth o sf => Sys2Proof.Machine.execZxth o sf s
  | .addi o => Sys2Proof.Machine.execAddi o s
  | .addis o => Sys2Proof.Machine.execAddis o s
  | .andi o => Sys2Proof.Machine.execAndi o s
  | .ori o => Sys2Proof.Machine.execOri o s
  | .xori o => Sys2Proof.Machine.execXori o s
  | .cmpi o => Sys2Proof.Machine.execCmpi o s
  | .tsti o => Sys2Proof.Machine.execTsti o s
  | .movl o => Sys2Proof.Machine.execMovl o s
  | .movh o => Sys2Proof.Machine.execMovh o s
  | .ldw o => Sys2Proof.Machine.execLdw o s
  | .ldh o => Sys2Proof.Machine.execLdh o s
  | .ldhu o => Sys2Proof.Machine.execLdhu o s
  | .ldb o => Sys2Proof.Machine.execLdb o s
  | .ldbu o => Sys2Proof.Machine.execLdbu o s
  | .stw o => Sys2Proof.Machine.execStw o s
  | .sth o => Sys2Proof.Machine.execSth o s
  | .stb o => Sys2Proof.Machine.execStb o s
  | .cldw o => Sys2Proof.Machine.execCldw o s
  | .cstw o => Sys2Proof.Machine.execCstw o s
  | .cldc o => Sys2Proof.Machine.execCldc o s
  | .cstc o => Sys2Proof.Machine.execCstc o s
  | .capq o => Sys2Proof.Machine.execCapq o s
  | .capdist o => Sys2Proof.Machine.execCapdist o s
  | .capptr o => Sys2Proof.Machine.execCapptr o s
  | .capadv o => Sys2Proof.Machine.execCapadv o s
  | .capnarrow o => Sys2Proof.Machine.execCapnarrow o s
  | .capmask o => Sys2Proof.Machine.execCapmask o s
  | .capmov o => Sys2Proof.Machine.execCapmov o s
  | .capdrop o => Sys2Proof.Machine.execCapdrop o s
  | .caplock o => Sys2Proof.Machine.execCaplock o s
  | .capopen o => Sys2Proof.Machine.execCapopen o s
  | .capwithin o => Sys2Proof.Machine.execCapwithin o s
  | .b o => Sys2Proof.Machine.execB o s
  | .call o => Sys2Proof.Machine.execCall o s
  | .jr o => Sys2Proof.Machine.execJr o s
  | .callr o => Sys2Proof.Machine.execCallr o s
  | .ret o => Sys2Proof.Machine.execRet o s
  | .eret o => Sys2Proof.Machine.execEret o s
  | .ctxsw o => Sys2Proof.Machine.execCtxsw o s
  | .fence o => Sys2Proof.Machine.execFence o s
  | .wfi o => Sys2Proof.Machine.execWfi o s
  | .trap cond rest n => Sys2Proof.Machine.execTrap cond rest n s
  | .loop o => Sys2Proof.Machine.execLoop o s
  | .qadd o rsel => Sys2Proof.Machine.execQadd o rsel s
  | .qsub o rsel => Sys2Proof.Machine.execQsub o rsel s
  | .qneg o rsel => Sys2Proof.Machine.execQneg o rsel s
  | .qabs o rsel => Sys2Proof.Machine.execQabs o rsel s
  | .qmul o rsel => Sys2Proof.Machine.execQmul o rsel s
  | .qadd2 o rsel => Sys2Proof.Machine.execQadd2 o rsel s
  | .qsub2 o rsel => Sys2Proof.Machine.execQsub2 o rsel s
  | .qmul2 o rsel => Sys2Proof.Machine.execQmul2 o rsel s
  | .qshl o rsel => Sys2Proof.Machine.execQshl o rsel s
  | .qshr o rsel => Sys2Proof.Machine.execQshr o rsel s
  | .qpack o rsel => Sys2Proof.Machine.execQpack o rsel s
  | .mac o rsel => Sys2Proof.Machine.execMac o rsel s
  | .msu o rsel => Sys2Proof.Machine.execMsu o rsel s
  | .mula o rsel => Sys2Proof.Machine.execMula o rsel s
  | .mac2 o rsel => Sys2Proof.Machine.execMac2 o rsel s
  | .msu2 o rsel => Sys2Proof.Machine.execMsu2 o rsel s
  | .mula2 o rsel => Sys2Proof.Machine.execMula2 o rsel s
  | .clra o rsel => Sys2Proof.Machine.execClra o rsel s
  | .mta o rsel => Sys2Proof.Machine.execMta o rsel s
  | .rda o rsel => Sys2Proof.Machine.execRda o rsel s
  | .rda16 o rsel => Sys2Proof.Machine.execRda16 o rsel s
  | .rdal o rsel => Sys2Proof.Machine.execRdal o rsel s
  | .rdah o rsel => Sys2Proof.Machine.execRdah o rsel s
  | .rdag o rsel => Sys2Proof.Machine.execRdag o rsel s
  | .wral o rsel => Sys2Proof.Machine.execWral o rsel s
  | .wrah o rsel => Sys2Proof.Machine.execWrah o rsel s
  | .wrag o rsel => Sys2Proof.Machine.execWrag o rsel s
  | .dadd o => Sys2Proof.Machine.execDadd o s
  | .daddc o => Sys2Proof.Machine.execDaddc o s
  | .dsub o => Sys2Proof.Machine.execDsub o s
  | .dsubc o => Sys2Proof.Machine.execDsubc o s
  | .dcmp o => Sys2Proof.Machine.execDcmp o s
  | .dadj o => Sys2Proof.Machine.execDadj o s
  | .bcd2bin o => Sys2Proof.Machine.execBcd2bin o s
  | .bin2bcd o => Sys2Proof.Machine.execBin2bcd o s
  | .mfs o => Sys2Proof.Machine.execMfs o s
  | .mts o => Sys2Proof.Machine.execMts o s
  | .cmfs o => Sys2Proof.Machine.execCmfs o s
  | .cmts o => Sys2Proof.Machine.execCmts o s
  | .customInstruction o slot k => Sys2Proof.Machine.execCustomInstruction o slot k s
  | .faultEntry f => Sys2Proof.Machine.execFaultEntry f s
  | .interruptAccept => Sys2Proof.Machine.execInterruptAccept s
  | .arithImprecise => Sys2Proof.Machine.execArithImprecise s
  | .icSwset m v => Sys2Proof.Machine.execIcSwset m v s
  | .icSwclr m v => Sys2Proof.Machine.execIcSwclr m v s
  | .gselWrite m of v => Sys2Proof.Machine.execGselWrite m of v s
  | .gclr m of => Sys2Proof.Machine.execGclr m of s
  | .bundleExecute e mismatch => Sys2Proof.Machine.execBundleExecute e mismatch s
  | .swellFabricResponse e => Sys2Proof.Machine.execSwellFabricResponse e s
  | .waitWake e => Sys2Proof.Machine.execWaitWake e s
  | .swellRun m e => Sys2Proof.Machine.execSwellRun m e s
  | .swellStop m e => Sys2Proof.Machine.execSwellStop m e s
  | .swellStep m e => Sys2Proof.Machine.execSwellStep m e s
  | .swellWakeCmd m e => Sys2Proof.Machine.execSwellWakeCmd m e s
  | .swellResume m e => Sys2Proof.Machine.execSwellResume m e s
  | .pairSet m e cfg => Sys2Proof.Machine.execPairSet m e cfg s
  | .pairCopyDone k => Sys2Proof.Machine.execPairCopyDone k s
  | .pairClear m e cfg => Sys2Proof.Machine.execPairClear m e cfg s
  | .swellErrClr m e => Sys2Proof.Machine.execSwellErrClr m e s
  | .swellCntClr m e => Sys2Proof.Machine.execSwellCntClr m e s
  | .bundlesRead m e wide => Sys2Proof.Machine.execBundlesRead m e wide s
  | .apertureAccess m e off size write v => Sys2Proof.Machine.execApertureAccess m e off size write v s
  | .faultLatch outside => Sys2Proof.Machine.execFaultLatch outside s
  | .lockstepMismatch point odd => Sys2Proof.Machine.execLockstepMismatch point odd s
  | .resyncCopyDone => Sys2Proof.Machine.execResyncCopyDone s
  | .resyncJoinDone crcOk => Sys2Proof.Machine.execResyncJoinDone crcOk s
  | .degradedTimeout => Sys2Proof.Machine.execDegradedTimeout s
  | .rotationStart => Sys2Proof.Machine.execRotationStart s
  | .rotReq m => Sys2Proof.Machine.execRotReq m s
  | .monitorExcursion m => Sys2Proof.Machine.execMonitorExcursion m s
  | .slackEntryDelivery inst => Sys2Proof.Machine.execSlackEntryDelivery inst s
  | .slackDone => Sys2Proof.Machine.execSlackDone s
  | .applicationReset f => Sys2Proof.Machine.execApplicationReset f s
  | .deviceReset f => Sys2Proof.Machine.execDeviceReset f s
  | .planKey m v => Sys2Proof.Machine.execPlanKey m v s
  | .planMemoryWrite m off size v => Sys2Proof.Machine.execPlanMemoryWrite m off size v s
  | .planHeaderWrite m c p word v => Sys2Proof.Machine.execPlanHeaderWrite m c p word v s
  | .planCommitGo m prof => Sys2Proof.Machine.execPlanCommitGo m prof s
  | .planCommitAbort m => Sys2Proof.Machine.execPlanCommitAbort m s
  | .planValidationDone => Sys2Proof.Machine.execPlanValidationDone s
  | .planSequenceTimeout => Sys2Proof.Machine.execPlanSequenceTimeout s
  | .planRefresh m => Sys2Proof.Machine.execPlanRefresh m s
  | .planStale => Sys2Proof.Machine.execPlanStale s
  | .planScrub errs => Sys2Proof.Machine.execPlanScrub errs s
  | .slackReq m v => Sys2Proof.Machine.execSlackReq m v s
  | .slackRel m => Sys2Proof.Machine.execSlackRel m s
  | .recClr m => Sys2Proof.Machine.execRecClr m s
  | .isoRel m src => Sys2Proof.Machine.execIsoRel m src s
  | .fcClr m => Sys2Proof.Machine.execFcClr m s
  | .fcInject m src => Sys2Proof.Machine.execFcInject m src s
  | .fcFirstRead m wide => Sys2Proof.Machine.execFcFirstRead m wide s
  | .validUntilRead m wide => Sys2Proof.Machine.execValidUntilRead m wide s
  | .speedSourceSample => Sys2Proof.Machine.execSpeedSourceSample s
  | .speedLost => Sys2Proof.Machine.execSpeedLost s
  | .memoryScrub k r => Sys2Proof.Machine.execMemoryScrub k r s
  | .registerScrub bad => Sys2Proof.Machine.execRegisterScrub bad s
  | .breakwaterSelfTest pass => Sys2Proof.Machine.execBreakwaterSelfTest pass s
  | .fuseShadowCheck pass => Sys2Proof.Machine.execFuseShadowCheck pass s
  | .timerMatch timer cmp => Sys2Proof.Machine.execTimerMatch timer cmp s
  | .timerWrap timer => Sys2Proof.Machine.execTimerWrap timer s
  | .timerTop timer => Sys2Proof.Machine.execTimerTop timer s
  | .timerEnable m t cfg => Sys2Proof.Machine.execTimerEnable m t cfg s
  | .timerCountLoad m t wide v => Sys2Proof.Machine.execTimerCountLoad m t wide v s
  | .timerCountRead m t wide => Sys2Proof.Machine.execTimerCountRead m t wide s
  | .timerStartCmd m t => Sys2Proof.Machine.execTimerStartCmd m t s
  | .timerStopCmd m t => Sys2Proof.Machine.execTimerStopCmd m t s
  | .timerLoadCmd m t => Sys2Proof.Machine.execTimerLoadCmd m t s
  | .timerLateClr m t => Sys2Proof.Machine.execTimerLateClr m t s
  | .routeTimerStart timer => Sys2Proof.Machine.execRouteTimerStart timer s
  | .routeTimerStop timer => Sys2Proof.Machine.execRouteTimerStop timer s
  | .routeTimerCount timer => Sys2Proof.Machine.execRouteTimerCount timer s
  | .routeSwellWake e => Sys2Proof.Machine.execRouteSwellWake e s
  | .converterStart c => Sys2Proof.Machine.execConverterStart c s
  | .tmFiredClr m => Sys2Proof.Machine.execTmFiredClr m s
  | .dmaStart m c => Sys2Proof.Machine.execDmaStart m c s
  | .dmaAbort m c => Sys2Proof.Machine.execDmaAbort m c s
  | .dmaRequest c => Sys2Proof.Machine.execDmaRequest c s
  | .dmaTransaction => Sys2Proof.Machine.execDmaTransaction s
  | .watchdogStart m w period => Sys2Proof.Machine.execWatchdogStart m w period s
  | .wdtKey1 m w => Sys2Proof.Machine.execWdtKey1 m w s
  | .wdtKey2 m w => Sys2Proof.Machine.execWdtKey2 m w s
  | .wdtCheckin m w task => Sys2Proof.Machine.execWdtCheckin m w task s
  | .watchdogWindowOpen w => Sys2Proof.Machine.execWatchdogWindowOpen w s
  | .watchdogExpiry w => Sys2Proof.Machine.execWatchdogExpiry w s
  | .conversionResult c vin vexc inRange => Sys2Proof.Machine.execConversionResult c vin vexc inRange s
  | .cvDataPop m c wide => Sys2Proof.Machine.execCvDataPop m c wide s
  | .cvCntClr m c => Sys2Proof.Machine.execCvCntClr m c s
  | .cvFlush m c => Sys2Proof.Machine.execCvFlush m c s
  | .converterFault c exc => Sys2Proof.Machine.execConverterFault c exc s
  | .powerOn f => Sys2Proof.Machine.execPowerOn f s
  | .railFailure => Sys2Proof.Machine.execRailFailure s
  | .railRetry f => Sys2Proof.Machine.execRailRetry f s
  | .domainStarted d => Sys2Proof.Machine.execDomainStarted d s
  | .domainPoweredDown d => Sys2Proof.Machine.execDomainPoweredDown d s
  | .powerStateChangeDone => Sys2Proof.Machine.execPowerStateChangeDone s
  | .sramEnableWrite m v => Sys2Proof.Machine.execSramEnableWrite m v s
  | .dormantGo m => Sys2Proof.Machine.execDormantGo m s
  | .dormantEntered => Sys2Proof.Machine.execDormantEntered s
  | .wakeTimerExpiry f => Sys2Proof.Machine.execWakeTimerExpiry f s
  | .wakePin periods f => Sys2Proof.Machine.execWakePin periods f s
  | .hostWake periods f => Sys2Proof.Machine.execHostWake periods f s
  | .hrpRead32 tag a crcOk => Sys2Proof.Machine.execHrpRead32 tag a crcOk s
  | .hrpWrite32 tag a v crcOk => Sys2Proof.Machine.execHrpWrite32 tag a v crcOk s
  | .hrpRead64 tag a crcOk => Sys2Proof.Machine.execHrpRead64 tag a crcOk s
  | .hrpWrite64 tag a v crcOk => Sys2Proof.Machine.execHrpWrite64 tag a v crcOk s
  | .hrpRmw32 tag a mask v crcOk => Sys2Proof.Machine.execHrpRmw32 tag a mask v crcOk s
  | .hrpBurstRead tag a len crcOk => Sys2Proof.Machine.execHrpBurstRead tag a len crcOk s
  | .hrpBurstWrite tag a bs crcOk => Sys2Proof.Machine.execHrpBurstWrite tag a bs crcOk s
  | .hrpStatus tag crcOk => Sys2Proof.Machine.execHrpStatus tag crcOk s
  | .hrpFrameAbort => Sys2Proof.Machine.execHrpFrameAbort s
  | .bootGo m len => Sys2Proof.Machine.execBootGo m len s
  | .hrpClr m => Sys2Proof.Machine.execHrpClr m s
  | .bistSramMarch m bank => Sys2Proof.Machine.execBistSramMarch m bank s
  | .bistTrackerMarch m => Sys2Proof.Machine.execBistTrackerMarch m s
  | .bistTqfMarch m => Sys2Proof.Machine.execBistTqfMarch m s
  | .bistSwellEngine m e => Sys2Proof.Machine.execBistSwellEngine m e s
  | .bistSurfGroup m g => Sys2Proof.Machine.execBistSurfGroup m g s
  | .bistGheryQuad m q => Sys2Proof.Machine.execBistGheryQuad m q s
  | .bistDomainStartup m d => Sys2Proof.Machine.execBistDomainStartup m d s
  | .bistSequenceDone pass => Sys2Proof.Machine.execBistSequenceDone pass s
  | .lcReq m target => Sys2Proof.Machine.execLcReq m target s
  | .rbAdvance m v => Sys2Proof.Machine.execRbAdvance m v s
  | .keyRevokeSet m v => Sys2Proof.Machine.execKeyRevokeSet m v s
  | .resetPin f => Sys2Proof.Machine.execResetPin f s
  | .debugReset f => Sys2Proof.Machine.execDebugReset f s
  | .supplyLoss => Sys2Proof.Machine.execSupplyLoss s
  | .supplyReturn f => Sys2Proof.Machine.execSupplyReturn f s
  | .breakwaterBrownout => Sys2Proof.Machine.execBreakwaterBrownout s
  | .leeBrownout => Sys2Proof.Machine.execLeeBrownout s
  | .pwmDutyEnd port => Sys2Proof.Machine.execPwmDutyEnd port s
  | .stepPulseEnd port => Sys2Proof.Machine.execStepPulseEnd port s
  | .triggerPulseEnd port => Sys2Proof.Machine.execTriggerPulseEnd port s
  | .segmentLinkChange seg up => Sys2Proof.Machine.execSegmentLinkChange seg up s
  | .tsnMasterSyncSend n => Sys2Proof.Machine.execTsnMasterSyncSend n s
  | .peerDelayExchange n ns => Sys2Proof.Machine.execPeerDelayExchange n ns s
  | .blockLockChange lane quad signal cdr lock hiBer bad => Sys2Proof.Machine.execBlockLockChange lane quad signal cdr lock hiBer bad s
  | .hiBerExit lane => Sys2Proof.Machine.execHiBerExit lane s
  | .sidebandAlignment lane quad signal lock => Sys2Proof.Machine.execSidebandAlignment lane quad signal lock s
  | .rotationTestDone pass => Sys2Proof.Machine.execRotationTestDone pass s

end Sys2Proof.Machine
end

