-- ==== Sys2Proof/WellFormed.lean ====
section
/-! DEFINITION. Well-formed commands: operands inside the ranges that the spec gives their masters, addresses, pages and
instance numbers. A command that is not well formed stands for nothing that can reach the block. -/
namespace Sys2Proof

/-- A master that R17 lists. -/
def Master.wf : Master → Bool
  | .swell e => e < 16
  | _ => true

/-- An access of 8 to 64 bits at a 32-bit address (R49). -/
def Access.wf (x : Access) : Bool :=
  x.m.wf && decide (x.addr < 2 ^ 32) && (x.size == 1 || x.size == 2 || x.size == 4 || x.size == 8)
    && decide (x.val < 2 ^ (8 * x.size))

/-- A received frame's fields fit their widths (R139, R140). -/
def RxFrame.wf (f : RxFrame) : Bool :=
  f.version < 16 && f.type < 16 && f.seq < 65536 && f.asTime < 2 ^ 64 && f.records.all (fun r => r.1 < 2 ^ 24) && f.wdSeq < 65536

/-- What a well-formed command's operands keep to, one check per operand that has a range. -/
def Instr.checks : Instr → List Bool
  | .registerWrite a => [a.wf]
  | .pageCtrlWrite m p v => [m.wf, p.valid, decide (v < 2 ^ 64)]
  | .softReset m p _ => [m.wf, p.valid]
  | .softResetDone p => [p.valid]
  | .lockWrite m p _ _ => [m.wf, p.valid]
  | .keyWrite m p _ _ => [m.wf, p.valid]
  | .keySequenceTimeout p => [p.valid]
  | .pageErrClear m p => [m.wf, p.valid]
  | .irqSet m p bits => [m.wf, p.valid, decide (bits < 2 ^ 32)]
  | .e2eStatClr m p => [m.wf, p.valid]
  | .tbNowRead m _ => [m.wf]
  | .tbModeWrite m v => [m.wf, decide (v < 2 ^ 64)]
  | .syncReceive port _ => [decide (port < 512)]
  | .syncTimeout => []
  | .skewMeasurement _ => []
  | .skewClr m => [m.wf]
  | .tidemarkStrobe => []
  | .linkTimeout => []
  | .registerTransferRetry _ _ => []
  | .queueTableWrite m q _ v => [m.wf, decide (q < 65536), decide (v < 2 ^ 64)]
  | .queueBindWrite m q _ v => [m.wf, decide (q < 65536), decide (v < 2 ^ 64)]
  | .submitStage m slot part _ v => [m.wf, decide (slot < 65536), decide (part < 3), decide (v < 2 ^ 64)]
  | .submitAct m slot _ _ _ => [m.wf, decide (slot < 65536)]
  | .releaseArm m slot _ _ _ => [m.wf, decide (slot < 65536)]
  | .subResRead m _ => [m.wf]
  | .ebbCutStage m _ _ v => [m.wf, decide (v < 2 ^ 64)]
  | .ebbCmdLowStage m v => [m.wf, decide (v < 2 ^ 64)]
  | .ebbHandle m _ _ _ => [m.wf]
  | .ebbQueue m _ _ _ => [m.wf]
  | .ebbGroup m _ _ _ => [m.wf]
  | .ebbResultDone m => [m.wf]
  | .entryCommit _ => []
  | .entryHandoff _ _ => []
  | .linkEntryReceive _ _ => []
  | .entryDelivery _ _ => []
  | .releaseFire q => [decide (q < 65536)]
  | .preemption => []
  | .qtErrClr m => [m.wf]
  | .logConfigWrite m which _ v => [m.wf, decide (which < 3), decide (v < 2 ^ 64)]
  | .tqfStatClr m => [m.wf]
  | .delivRead m _ => [m.wf]
  | .pinCfgWrite m port v => [m.wf, decide (port < 512), decide (v < 2 ^ 64)]
  | .offsetWrite m port v => [m.wf, decide (port < 512), decide (v < 2 ^ 64)]
  | .levelAction port => [decide (port < 512)]
  | .pulseStart port => [decide (port < 512)]
  | .pulseEnd port => [decide (port < 512)]
  | .pwmDutyEntry port => [decide (port < 512)]
  | .pwmPeriodEntry port => [decide (port < 512)]
  | .pwmRunEntry port => [decide (port < 512)]
  | .pwmPeriodStart port => [decide (port < 512)]
  | .stepdirSegment port => [decide (port < 512)]
  | .stepEdge port => [decide (port < 512)]
  | .captureEdge port _ _ => [decide (port < 512)]
  | .capturePop m k _ => [m.wf, decide (k < 14)]
  | .quadEdge port _ _ _ => [decide (port < 512)]
  | .quadSample port _ => [decide (port < 512)]
  | .ssiRead port _ => [decide (port < 512)]
  | .ssiReadDone port _ _ _ => [decide (port < 512)]
  | .pinCountRead m port _ => [m.wf, decide (port < 512)]
  | .coordRead m port _ => [m.wf, decide (port < 512)]
  | .bankCntClr m k => [m.wf, decide (k < 14)]
  | .captureFlush m k => [m.wf, decide (k < 14)]
  | .generatorStart m g _ => [m.wf, decide (g < 16)]
  | .generatorStop m g _ => [m.wf, decide (g < 16)]
  | .generatorSample g => [decide (g < 16)]
  | .triggerEdge g => [decide (g < 16)]
  | .generatorStall g => [decide (g < 16)]
  | .tlogQuery m _ v => [m.wf, decide (v < 2 ^ 64)]
  | .cyclicFrame seg _ _ => [decide (seg < 48)]
  | .acyclicFrame seg _ => [decide (seg < 48)]
  | .tsnFrame n _ => [decide (n < 16)]
  | .ackReceive port f => [decide (port < 512), f.wf]
  | .ackTimeout port _ => [decide (port < 512)]
  | .eventFrameReceive port f => [decide (port < 512), f.wf]
  | .rxFrameDiscard port _ f => [decide (port < 512), f.wf]
  | .safeFrameReceive port chan f => [decide (port < 512), decide (chan < 128), f.wf]
  | .safeKeepalive port chan => [decide (port < 512), decide (chan < 128)]
  | .safeConnectionLost port chan => [decide (port < 512), decide (chan < 128)]
  | .safeConnectionOpen port chan => [decide (port < 512), decide (chan < 128)]
  | .syncSend seg => [decide (seg < 48)]
  | .tsnLinkChange n _ => [decide (n < 16)]
  | .t1sCntClr m seg => [m.wf, decide (seg < 48)]
  | .tsnCntClr m n => [m.wf, decide (n < 16)]
  | .sourceSlotWrite m i v => [m.wf, decide (i < 16), decide (v < 2 ^ 64)]
  | .trackerSourceSample slot => [decide (slot < 16)]
  | .sourceStall slot => [decide (slot < 16)]
  | .fwInstStage m f v => [m.wf, decide (f < 64), decide (v < 2 ^ 64)]
  | .fwSampleCommit m f v => [m.wf, decide (f < 64), decide (v < 2 ^ 64)]
  | .stationWrite m t _ v => [m.wf, decide (t < 256), decide (v < 2 ^ 64)]
  | .templateWrite m t _ v => [m.wf, decide (t < 256), decide (v < 2 ^ 64)]
  | .openCmd m v => [m.wf, decide (v < 2 ^ 64)]
  | .contextOpenDeferred => []
  | .visitEvaluate => []
  | .repredictionResult => []
  | .visitFreeze ctx visit => [decide (ctx < 16384), decide (visit < 8)]
  | .visitDone ctx visit => [decide (ctx < 16384), decide (visit < 8)]
  | .contextCancel m v => [m.wf, decide (v < 2 ^ 64)]
  | .trErrClr m => [m.wf]
  | .trackerStatClr m => [m.wf]
  | .rollmapRecordWrite => []
  | .appendWord m w v => [m.wf, decide (w < 7), decide (v < 2 ^ 64)]
  | .appendCommit m v => [m.wf, decide (v < 2 ^ 64)]
  | .rmRdWrite m v => [m.wf, decide (v < 2 ^ 64)]
  | .rollrecSend _ => []
  | .rollmapClr m => [m.wf]
  | .cameraEnable m c _ => [m.wf, decide (c < 16)]
  | .cameraDisable m c _ => [m.wf, decide (c < 16)]
  | .cameraDrainDone cam => [decide (cam < 16)]
  | .lineIntake cam => [decide (cam < 16)]
  | .laneLineComplete lane => [decide (lane < 64)]
  | .patchRowSend group => [decide (group < 8)]
  | .patchTrailerSend _ => []
  | .ffDataAccess m g _ v => [m.wf, decide (g < 8), decide (v < 2 ^ 64)]
  | .kcommit m l => [m.wf, decide (l < 64)]
  | .kernelShadowCopy lane => [decide (lane < 64)]
  | .surfGroupClr m g => [m.wf, decide (g < 8)]
  | .cameraClr m c => [m.wf, decide (c < 16)]
  | .surfLaneClr m l => [m.wf, decide (l < 64)]
  | .linePacketReceive _ _ _ => []
  | .gheryEventReceive _ _ _ => []
  | .creditReceive _ _ => []
  | .trainReceive _ lane _ => [decide (lane < 64)]
  | .amReceive lane _ _ _ => [decide (lane < 64)]
  | .amSend _ _ => []
  | .trainSend _ lane => [decide (lane < 64)]
  | .trainSeekSend _ => []
  | .creditSend _ => []
  | .receiverReady _ => []
  | .receiverUp _ => []
  | .transmitterUp _ => []
  | .linkRetrain _ _ _ => []
  | .sidebandTimeout _ => []
  | .evtSend m _ => [m.wf]
  | .eventPacketSend _ => []
  | .linkEnable m _ _ _ => [m.wf]
  | .linkDisable m _ _ _ => [m.wf]
  | .gheryLaneClr m l => [m.wf, decide (l < 24)]
  | .txlClr m k => [m.wf, decide (k < 4)]
  | .ingressLinkClr m _ => [m.wf]
  | .egressLinkClr m _ => [m.wf]
  | .evtArrRead m _ _ => [m.wf]
  | .tidemarkSample _ => []
  | .statusTransfer _ => []
  | .rollEvent _ => []
  | .ticketIssue => []
  | .ticketTransfer _ => []
  | .auditTransfer _ => []
  | .goneTransfer _ => []
  | .readReq _ _ _ => []
  | .tmLinkUp => []
  | .tmLinkDown => []
  | .legalEncoderEdge w _ _ _ _ => [decide (w < 2)]
  | .zEdge w => [decide (w < 2)]
  | .propSubmit m => [m.wf]
  | .proposalParam => []
  | .proposalSeal => []
  | .proposalRoll => []
  | .proposalVerify => []
  | .propDone _ => []
  | .bypassChange _ => []
  | .holdupEntry => []
  | .restCommit => []
  | .finalCommit => []
  | .checkpoint => []
  | .tidemarkBoot _ _ => []
  | .tidemarkWatchdogExpiry => []
  | .tidemarkClockFault _ => []
  | .mirrorRefill m => [m.wf]
  | .tmCntClr m => [m.wf]
  | .tmErrClr m => [m.wf]
  | .posSnapshotRead m _ => [m.wf]
  | .totalRead m _ => [m.wf]
  | .eventsRead m _ => [m.wf]
  | .add _ _ => []
  | .adc _ _ => []
  | .sub _ _ => []
  | .sbc _ _ => []
  | .and _ _ => []
  | .or _ _ => []
  | .xor _ _ => []
  | .bic _ _ => []
  | .shl _ _ => []
  | .shr _ _ => []
  | .sar _ _ => []
  | .ror _ _ => []
  | .shli _ _ => []
  | .shri _ _ => []
  | .sari _ _ => []
  | .rori _ _ => []
  | .cmp _ _ => []
  | .tst _ _ => []
  | .mul _ _ => []
  | .mulh _ _ => []
  | .mulhu _ _ => []
  | .div _ _ => []
  | .divu _ _ => []
  | .rem _ _ => []
  | .remu _ _ => []
  | .min _ _ => []
  | .max _ _ => []
  | .minu _ _ => []
  | .maxu _ _ => []
  | .clz _ _ => []
  | .rev _ _ => []
  | .sxtb _ _ => []
  | .sxth _ _ => []
  | .zxtb _ _ => []
  | .zxth _ _ => []
  | .addi _ => []
  | .addis _ => []
  | .andi _ => []
  | .ori _ => []
  | .xori _ => []
  | .cmpi _ => []
  | .tsti _ => []
  | .movl _ => []
  | .movh _ => []
  | .ldw _ => []
  | .ldh _ => []
  | .ldhu _ => []
  | .ldb _ => []
  | .ldbu _ => []
  | .stw _ => []
  | .sth _ => []
  | .stb _ => []
  | .cldw _ => []
  | .cstw _ => []
  | .cldc _ => []
  | .cstc _ => []
  | .capq _ => []
  | .capdist _ => []
  | .capptr _ => []
  | .capadv _ => []
  | .capnarrow _ => []
  | .capmask _ => []
  | .capmov _ => []
  | .capdrop _ => []
  | .caplock _ => []
  | .capopen _ => []
  | .capwithin _ => []
  | .b _ => []
  | .call _ => []
  | .jr _ => []
  | .callr _ => []
  | .ret _ => []
  | .eret _ => []
  | .ctxsw _ => []
  | .fence _ => []
  | .wfi _ => []
  | .trap _ _ _ => []
  | .loop _ => []
  | .qadd _ _ => []
  | .qsub _ _ => []
  | .qneg _ _ => []
  | .qabs _ _ => []
  | .qmul _ _ => []
  | .qadd2 _ _ => []
  | .qsub2 _ _ => []
  | .qmul2 _ _ => []
  | .qshl _ _ => []
  | .qshr _ _ => []
  | .qpack _ _ => []
  | .mac _ _ => []
  | .msu _ _ => []
  | .mula _ _ => []
  | .mac2 _ _ => []
  | .msu2 _ _ => []
  | .mula2 _ _ => []
  | .clra _ _ => []
  | .mta _ _ => []
  | .rda _ _ => []
  | .rda16 _ _ => []
  | .rdal _ _ => []
  | .rdah _ _ => []
  | .rdag _ _ => []
  | .wral _ _ => []
  | .wrah _ _ => []
  | .wrag _ _ => []
  | .dadd _ => []
  | .daddc _ => []
  | .dsub _ => []
  | .dsubc _ => []
  | .dcmp _ => []
  | .dadj _ => []
  | .bcd2bin _ => []
  | .bin2bcd _ => []
  | .mfs _ => []
  | .mts _ => []
  | .cmfs _ => []
  | .cmts _ => []
  | .customInstruction _ _ _ => []
  | .faultEntry _ => []
  | .interruptAccept => []
  | .arithImprecise => []
  | .icSwset m v => [m.wf, decide (v < 2 ^ 64)]
  | .icSwclr m v => [m.wf, decide (v < 2 ^ 64)]
  | .gselWrite m of v => [m.wf, of.wf, decide (v < 2 ^ 64)]
  | .gclr m of => [m.wf, of.wf]
  | .bundleExecute e _ => [decide (e < 16)]
  | .swellFabricResponse e => [decide (e < 16)]
  | .waitWake e => [decide (e < 16)]
  | .swellRun m e => [m.wf, decide (e < 16)]
  | .swellStop m e => [m.wf, decide (e < 16)]
  | .swellStep m e => [m.wf, decide (e < 16)]
  | .swellWakeCmd m e => [m.wf, decide (e < 16)]
  | .swellResume m e => [m.wf, decide (e < 16)]
  | .pairSet m e _ => [m.wf, decide (e < 16)]
  | .pairCopyDone k => [decide (k < 8)]
  | .pairClear m e _ => [m.wf, decide (e < 16)]
  | .swellErrClr m e => [m.wf, decide (e < 16)]
  | .swellCntClr m e => [m.wf, decide (e < 16)]
  | .bundlesRead m e _ => [m.wf, decide (e < 16)]
  | .apertureAccess m e _ size _ v => [m.wf, decide (e < 16), (size == 1 || size == 2 || size == 4 || size == 8), decide (v < 2 ^ 64)]
  | .faultLatch _ => []
  | .lockstepMismatch _ _ => []
  | .resyncCopyDone => []
  | .resyncJoinDone _ => []
  | .degradedTimeout => []
  | .rotationStart => []
  | .rotReq m => [m.wf]
  | .monitorExcursion _ => []
  | .slackEntryDelivery _ => []
  | .slackDone => []
  | .applicationReset _ => []
  | .deviceReset _ => []
  | .planKey m v => [m.wf, decide (v < 2 ^ 64)]
  | .planMemoryWrite m _ size v => [m.wf, (size == 1 || size == 2 || size == 4 || size == 8), decide (v < 2 ^ 64)]
  | .planHeaderWrite m c _ _ v => [m.wf, decide (c < 2), decide (v < 2 ^ 64)]
  | .planCommitGo m _ => [m.wf]
  | .planCommitAbort m => [m.wf]
  | .planValidationDone => []
  | .planSequenceTimeout => []
  | .planRefresh m => [m.wf]
  | .planStale => []
  | .planScrub _ => []
  | .slackReq m v => [m.wf, decide (v < 2 ^ 64)]
  | .slackRel m => [m.wf]
  | .recClr m => [m.wf]
  | .isoRel m src => [m.wf, decide (src < 64)]
  | .fcClr m => [m.wf]
  | .fcInject m src => [m.wf, decide (src < 64)]
  | .fcFirstRead m _ => [m.wf]
  | .validUntilRead m _ => [m.wf]
  | .speedSourceSample => []
  | .speedLost => []
  | .memoryScrub _ _ => []
  | .registerScrub bad => [bad.all Page.valid]
  | .breakwaterSelfTest _ => []
  | .fuseShadowCheck _ => []
  | .timerMatch timer which => [decide (timer < 32), decide (which < 2)]
  | .timerWrap timer => [decide (timer < 32)]
  | .timerTop timer => [decide (timer < 32)]
  | .timerEnable m t _ => [m.wf, decide (t < 32)]
  | .timerCountLoad m t _ v => [m.wf, decide (t < 32), decide (v < 2 ^ 64)]
  | .timerCountRead m t _ => [m.wf, decide (t < 32)]
  | .timerStartCmd m t => [m.wf, decide (t < 32)]
  | .timerStopCmd m t => [m.wf, decide (t < 32)]
  | .timerLoadCmd m t => [m.wf, decide (t < 32)]
  | .timerLateClr m t => [m.wf, decide (t < 32)]
  | .routeTimerStart timer => [decide (timer < 32)]
  | .routeTimerStop timer => [decide (timer < 32)]
  | .routeTimerCount timer => [decide (timer < 32)]
  | .routeSwellWake e => [decide (e < 16)]
  | .converterStart c => [decide (c < 16)]
  | .tmFiredClr m => [m.wf]
  | .dmaStart m c => [m.wf, decide (c < 32)]
  | .dmaAbort m c => [m.wf, decide (c < 32)]
  | .dmaRequest c => [decide (c < 32)]
  | .dmaTransaction => []
  | .watchdogStart m w _ => [m.wf, decide (w < 8)]
  | .wdtKey1 m w => [m.wf, decide (w < 9)]
  | .wdtKey2 m w => [m.wf, decide (w < 9)]
  | .wdtCheckin m w task => [m.wf, decide (w < 8), decide (task < 32)]
  | .watchdogWindowOpen w => [decide (w < 9)]
  | .watchdogExpiry w => [decide (w < 9)]
  | .conversionResult c _ _ _ => [decide (c < 16)]
  | .cvDataPop m c _ => [m.wf, decide (c < 16)]
  | .cvCntClr m c => [m.wf, decide (c < 16)]
  | .cvFlush m c => [m.wf, decide (c < 16)]
  | .converterFault c _ => [decide (c < 16)]
  | .powerOn _ => []
  | .railFailure => []
  | .railRetry _ => []
  | .domainStarted _ => []
  | .domainPoweredDown _ => []
  | .powerStateChangeDone => []
  | .sramEnableWrite m v => [m.wf, decide (v < 2 ^ 64)]
  | .dormantGo m => [m.wf]
  | .dormantEntered => []
  | .wakeTimerExpiry _ => []
  | .wakePin _ _ => []
  | .hostWake _ _ => []
  | .hrpRead32 tag a _ => [decide (tag < 256), decide (a < 2 ^ 32)]
  | .hrpWrite32 tag a v _ => [decide (tag < 256), decide (a < 2 ^ 32), decide (v < 2 ^ 64)]
  | .hrpRead64 tag a _ => [decide (tag < 256), decide (a < 2 ^ 32)]
  | .hrpWrite64 tag a v _ => [decide (tag < 256), decide (a < 2 ^ 32), decide (v < 2 ^ 64)]
  | .hrpRmw32 tag a mask v _ => [decide (tag < 256), decide (a < 2 ^ 32), decide (mask < 2 ^ 32), decide (v < 2 ^ 64)]
  | .hrpBurstRead tag a _ _ => [decide (tag < 256), decide (a < 2 ^ 32)]
  | .hrpBurstWrite tag a bs _ => [decide (tag < 256), decide (a < 2 ^ 32), bs.all (fun b => decide (b < 256))]
  | .hrpStatus tag _ => [decide (tag < 256)]
  | .hrpFrameAbort => []
  | .bootGo m _ => [m.wf]
  | .hrpClr m => [m.wf]
  | .bistSramMarch m bank => [m.wf, decide (bank < 4)]
  | .bistTrackerMarch m => [m.wf]
  | .bistTqfMarch m => [m.wf]
  | .bistSwellEngine m e => [m.wf, decide (e < 16)]
  | .bistSurfGroup m g => [m.wf, decide (g < 8)]
  | .bistGheryQuad m _ => [m.wf]
  | .bistDomainStartup m _ => [m.wf]
  | .bistSequenceDone _ => []
  | .lcReq m _ => [m.wf]
  | .rbAdvance m v => [m.wf, decide (v < 2 ^ 64)]
  | .keyRevokeSet m v => [m.wf, decide (v < 2 ^ 64)]
  | .resetPin _ => []
  | .debugReset _ => []
  | .supplyLoss => []
  | .supplyReturn _ => []
  | .breakwaterBrownout => []
  | .leeBrownout => []
  | .pwmDutyEnd port => [decide (port < 512)]
  | .stepPulseEnd port => [decide (port < 512)]
  | .triggerPulseEnd port => [decide (port < 512)]
  | .segmentLinkChange seg _ => [decide (seg < 48)]
  | .tsnMasterSyncSend n => [decide (n < 16)]
  | .peerDelayExchange n _ => [decide (n < 16)]
  | .blockLockChange lane _ _ _ _ _ _ => [decide (lane < 64)]
  | .hiBerExit lane => [decide (lane < 64)]
  | .sidebandAlignment lane _ _ _ => [decide (lane < 64)]
  | .rotationTestDone _ => []

/-- A well-formed command. -/
def Instr.wf (i : Instr) : Bool := i.checks.all id

end Sys2Proof
end

