-- ==== Sys2Proof/Safety.lean ====
section
/-! DEFINITION. What counts as a safe run, in the terms the statements use: a command that completes with a stated result, an
access that passes its checks, the state in which an instruction of the core issues and runs to its end, what a command
leaves unchanged, and the form of the state that every step keeps. -/
namespace Sys2Proof.Machine

/-- A command completes: it answers a next state. -/
def Completes (i : Instr) (s : State) : Prop := ∃ t, exec i s = .next t

/-- A command completes, and its next state is as said. -/
def Ends (i : Instr) (s : State) (P : State → Prop) : Prop := ∃ t, exec i s = .next t ∧ P t

/-- Memory lists its bytes in canonical form (R105, R34). -/
abbrev State.memOk (s : State) : Prop := Memory.wf s.mem = true

/-- No byte of memory differs between two states. -/
def SameMemory (s t : State) : Prop := ∀ a, readByte t.mem a = readByte s.mem a

/-- No byte of memory differs but those of [lo, hi). -/
def SameMemoryBut (lo hi : Nat) (s t : State) : Prop := ∀ a, a < lo ∨ hi ≤ a → readByte t.mem a = readByte s.mem a

/-- No register or table word differs but those at the addresses listed. -/
def SameRegsBut (l : List Nat) (s t : State) : Prop := ∀ a, a ∉ l → t.rd a = s.rd a

/-- No register or table word outside [lo, hi) differs. -/
def SameRegsOutside (lo hi : Nat) (s t : State) : Prop := ∀ a, a < lo ∨ hi ≤ a → t.rd a = s.rd a

/-- No entry of a table differs but that of one key. -/
def SameTab {α : Type} (k : Nat) (a b : Tab α) : Prop := ∀ j, j ≠ k → tabGet? b j = tabGet? a j

/-- No entry of a table differs but those of the keys listed. -/
def SameTabBut {α : Type} (ks : List Nat) (a b : Tab α) : Prop := ∀ j, j ∉ ks → tabGet? b j = tabGet? a j

/-! ### Accesses -/

/-- A write of a master passes every check of R58: it is sent, no guard denies it, and no reason rejects it. -/
abbrev State.accepts (s : State) (x : Access) : Prop :=
  s.sends x.m = true ∧ (unguarded x.m x.addr = true ∨ s.guardFault x.m .store x.addr x.size = none)
    ∧ (s.accWrite x).1 = .none

/-- A read of a master passes every check of R58. -/
abbrev State.serves (s : State) (x : Access) : Prop :=
  s.sends x.m = true ∧ (unguarded x.m x.addr = true ∨ s.guardFault x.m .load x.addr x.size = none)
    ∧ (s.accRead x).1 = .none

/-- A 32-bit write of a page register, with a valid E2E code. -/
abbrev put32 (m : Master) (p : Page) (off v : Nat) : Access := ⟨m, p.base + off, 4, v, true⟩
/-- A 64-bit write of a pair of page registers. -/
abbrev put64 (m : Master) (p : Page) (off v : Nat) : Access := ⟨m, p.base + off, 8, v, true⟩
/-- A read of a page register, or of a pair. -/
abbrev readOf (m : Master) (p : Page) (off : Nat) (wide : Bool) : Access := ⟨m, p.base + off, if wide then 8 else 4, 0, true⟩

/-- What an accepted access leaves of the fabric: its master is answered without an error, and no other master's answer, no
soft reset, no keyed sequence and no write-once word of another page than that at `base` differs. -/
def Answered (m : Master) (base : Nat) (s t : State) : Prop :=
  (t.lastResp m).reason = .none
    ∧ (∀ k, k ≠ m.id → tabGet? t.fab.resp k = tabGet? s.fab.resp k)
    ∧ t.fab.softBusy = s.fab.softBusy
    ∧ (∀ k, k ≠ base → tabGet? t.fab.keys k = tabGet? s.fab.keys k)
    ∧ (∀ a, a < base ∨ base + 0x1000 ≤ a → (a ∈ t.fab.once ↔ a ∈ s.fab.once))

/-- As `Answered`, for a write: read latches stand. -/
def Written (m : Master) (base : Nat) (s t : State) : Prop := Answered m base s t ∧ t.fab.latches = s.fab.latches

/-- What a served read leaves of the fabric: the answer, and read latches of its own master at most. -/
def ReadBy (m : Master) (data : Nat) (s t : State) : Prop :=
  t.lastResp m = ⟨.none, data⟩
    ∧ (∀ k, k ≠ m.id → tabGet? t.fab.resp k = tabGet? s.fab.resp k)
    ∧ (∀ l, l.master ≠ m.id → (l ∈ t.fab.latches ↔ l ∈ s.fab.latches))
    ∧ t.fab = { s.fab with resp := t.fab.resp, latches := t.fab.latches }

/-- A master's read latch of a window holds a word for an address: its next read there answers it (R53). -/
def Latched (t : State) (m : Master) (window a : Nat) (w : Word) : Prop :=
  ((t.latchOf m.id window).bind fun l => tabGet? l.vals a) = some w

/-! ### The core -/

/-- The core takes the instruction at pcc into execution: it issues, no imprecise ARITH is due, the fetch meets no fault, and
the instruction's condition is a listed one and holds (R302, R303, R326, R374, R395). -/
abbrev State.svStarts (s : State) (cond : BitVec 4) : Prop :=
  s.svIssues = true ∧ s.sv.arith ≠ some 8 ∧ s.svFetchFault = none ∧ cond ≠ 0#4 ∧ condHolds cond.toNat s.sv.flags = true

/-- As `svStarts`, and nothing follows the instruction's effect but the loop-end rule: if it is the last of the innermost
active loop, that loop's set is consistent (R332). -/
abbrev State.svReady (s : State) (cond : BitVec 4) : Prop :=
  s.svIssues = true ∧ s.sv.arith ≠ some 8 ∧ s.svFetchFault = none ∧ cond ≠ 0#4 ∧ condHolds cond.toNat s.sv.flags = true
    ∧ ((s.svBegin.sv.atEnd s.svBegin.sv.pc).all fun k => !s.svBegin.sv.endBad k) = true

/-- The guard lets the core reach n bytes at an address (R397, R398). -/
abbrev State.svOpen (s : State) (kind : AccessKind) (a n : Nat) : Prop :=
  unguarded .headland a = true ∨ s.guardFault .headland kind a n = none

/-- A capability carries an access of n bytes at `a` that needs the permissions `ps` (R368, R374). -/
abbrev Cap.carries (x : Cap) (ps : List Nat) (a n : Nat) : Prop :=
  x.tag = true ∧ capOtype x = 0 ∧ (∀ p ∈ ps, capHas x p = true) ∧ a % n = 0 ∧ capBase x ≤ a ∧ a + n ≤ capBase x + capLength x

/-- A capability can be jumped to (R325, R326): tagged, unsealed, EX, its cursor a word within its bounds. -/
abbrev Cap.jumps (x : Cap) : Prop := x.carries [0] (capCursor x) 4

/-- The state after an instruction that completes without a taken transfer: `u` is what its effect leaves, pcc goes on by the
loop-end rule (R329), and a pending imprecise ARITH counts it (R395). -/
def State.svNext (s u : State) : State := (u.setSv (s.svBegin.sv.advance u.sv)).svDone

/-- As `svNext`, for an effect on the core alone. -/
def State.svSet (s : State) (c : SvCore) : State := s.svNext (s.svBegin.setSv c)

/-- As `svSet`: a result to a general register, and flags where the instruction sets any. -/
def State.svPut (s : State) (rd : BitVec 5) (r : Word) (f : Option Flags) : State :=
  let c := s.svBegin.sv.setG rd.toNat r
  s.svSet (match f with | some f => c.setFlags f | none => c)

/-- The state after a taken transfer to `p`: `u` is what the effect leaves beside it; a B or JR ends the loops whose bodies
it leaves (R330). -/
def State.svJump (u : State) (leaves : Bool) (p : Cap) : State :=
  (u.setSv { (if leaves then u.sv.leave (capCursor p) else u.sv) with pcc := p }).svDone

/-- The condition, the word and, by R306 and the tables it names, whether it is undefined, of an SV-32 instruction. -/
def State.svForm (s : State) : Instr → Option (BitVec 4 × Word × Bool)
  | .add o sf => some (o.cond, wordR 0x00 (0x00 + if sf then 64 else 0) o, false)
  | .adc o sf => some (o.cond, wordR 0x00 (0x01 + if sf then 64 else 0) o, false)
  | .sub o sf => some (o.cond, wordR 0x00 (0x02 + if sf then 64 else 0) o, false)
  | .sbc o sf => some (o.cond, wordR 0x00 (0x03 + if sf then 64 else 0) o, false)
  | .and o sf => some (o.cond, wordR 0x00 (0x04 + if sf then 64 else 0) o, false)
  | .or o sf => some (o.cond, wordR 0x00 (0x05 + if sf then 64 else 0) o, false)
  | .xor o sf => some (o.cond, wordR 0x00 (0x06 + if sf then 64 else 0) o, false)
  | .bic o sf => some (o.cond, wordR 0x00 (0x07 + if sf then 64 else 0) o, false)
  | .shl o sf => some (o.cond, wordR 0x00 (0x08 + if sf then 64 else 0) o, false)
  | .shr o sf => some (o.cond, wordR 0x00 (0x09 + if sf then 64 else 0) o, false)
  | .sar o sf => some (o.cond, wordR 0x00 (0x0A + if sf then 64 else 0) o, false)
  | .ror o sf => some (o.cond, wordR 0x00 (0x0B + if sf then 64 else 0) o, false)
  | .shli o sf => some (o.cond, wordR 0x00 (0x0C + if sf then 64 else 0) o, false)
  | .shri o sf => some (o.cond, wordR 0x00 (0x0D + if sf then 64 else 0) o, false)
  | .sari o sf => some (o.cond, wordR 0x00 (0x0E + if sf then 64 else 0) o, false)
  | .rori o sf => some (o.cond, wordR 0x00 (0x0F + if sf then 64 else 0) o, false)
  | .cmp o sf => some (o.cond, wordR 0x00 (0x10 + if sf then 64 else 0) o, o.rd != 0 || !sf)
  | .tst o sf => some (o.cond, wordR 0x00 (0x11 + if sf then 64 else 0) o, o.rd != 0 || !sf)
  | .mul o sf => some (o.cond, wordR 0x00 (0x12 + if sf then 64 else 0) o, false)
  | .mulh o sf => some (o.cond, wordR 0x00 (0x13 + if sf then 64 else 0) o, false)
  | .mulhu o sf => some (o.cond, wordR 0x00 (0x14 + if sf then 64 else 0) o, false)
  | .div o sf => some (o.cond, wordR 0x00 (0x15 + if sf then 64 else 0) o, false)
  | .divu o sf => some (o.cond, wordR 0x00 (0x16 + if sf then 64 else 0) o, false)
  | .rem o sf => some (o.cond, wordR 0x00 (0x17 + if sf then 64 else 0) o, false)
  | .remu o sf => some (o.cond, wordR 0x00 (0x18 + if sf then 64 else 0) o, false)
  | .min o sf => some (o.cond, wordR 0x00 (0x19 + if sf then 64 else 0) o, false)
  | .max o sf => some (o.cond, wordR 0x00 (0x1A + if sf then 64 else 0) o, false)
  | .minu o sf => some (o.cond, wordR 0x00 (0x1B + if sf then 64 else 0) o, false)
  | .maxu o sf => some (o.cond, wordR 0x00 (0x1C + if sf then 64 else 0) o, false)
  | .clz o sf => some (o.cond, wordR 0x00 (0x1D + if sf then 64 else 0) o, o.rs2 != 0)
  | .rev o sf => some (o.cond, wordR 0x00 (0x1E + if sf then 64 else 0) o, o.rs2 != 0)
  | .sxtb o sf => some (o.cond, wordR 0x00 (0x20 + if sf then 64 else 0) o, o.rs2 != 0)
  | .sxth o sf => some (o.cond, wordR 0x00 (0x21 + if sf then 64 else 0) o, o.rs2 != 0)
  | .zxtb o sf => some (o.cond, wordR 0x00 (0x22 + if sf then 64 else 0) o, o.rs2 != 0)
  | .zxth o sf => some (o.cond, wordR 0x00 (0x23 + if sf then 64 else 0) o, o.rs2 != 0)
  | .addi o => some (o.cond, wordIm 0x01 o, false)
  | .addis o => some (o.cond, wordIm 0x02 o, false)
  | .andi o => some (o.cond, wordIm 0x03 o, false)
  | .ori o => some (o.cond, wordIm 0x04 o, false)
  | .xori o => some (o.cond, wordIm 0x05 o, false)
  | .cmpi o => some (o.cond, wordIm 0x06 o, o.rd != 0)
  | .tsti o => some (o.cond, wordIm 0x07 o, o.rd != 0)
  | .movl o => some (o.cond, wordU 0x08 o, o.b16)
  | .movh o => some (o.cond, wordU 0x09 o, o.b16)
  | .ldw o => some (o.cond, wordIm 0x10 o, false)
  | .ldh o => some (o.cond, wordIm 0x11 o, false)
  | .ldhu o => some (o.cond, wordIm 0x12 o, false)
  | .ldb o => some (o.cond, wordIm 0x13 o, false)
  | .ldbu o => some (o.cond, wordIm 0x14 o, false)
  | .stw o => some (o.cond, wordIm 0x15 o, false)
  | .sth o => some (o.cond, wordIm 0x16 o, false)
  | .stb o => some (o.cond, wordIm 0x17 o, false)
  | .cldw o => some (o.cond, wordIm 0x18 o, o.rs1.toNat / 16 != 0)
  | .cstw o => some (o.cond, wordIm 0x19 o, o.rs1.toNat / 16 != 0)
  | .cldc o => some (o.cond, wordIm 0x1A o, o.rs1.toNat / 16 != 0 || o.rd.toNat / 16 != 0)
  | .cstc o => some (o.cond, wordIm 0x1B o, o.rs1.toNat / 16 != 0 || o.rd.toNat / 16 != 0)
  | .capq o => some (o.cond, wordR 0x1C 0x00 o, o.rs1.toNat / 16 != 0 || decide (5 < o.rs2.toNat))
  | .capdist o => some (o.cond, wordR 0x1C 0x01 o, o.rs1.toNat / 16 != 0 || o.rs2.toNat / 16 != 0)
  | .capptr o => some (o.cond, wordR 0x1C 0x02 o, o.rd.toNat / 16 != 0 || o.rs1.toNat / 16 != 0)
  | .capadv o => some (o.cond, wordR 0x1C 0x03 o, o.rd.toNat / 16 != 0 || o.rs1.toNat / 16 != 0)
  | .capnarrow o => some (o.cond, wordR 0x1C 0x04 o, o.rd.toNat / 16 != 0 || o.rs1.toNat / 16 != 0)
  | .capmask o => some (o.cond, wordR 0x1C 0x05 o, o.rd.toNat / 16 != 0 || o.rs1.toNat / 16 != 0)
  | .capmov o => some (o.cond, wordR 0x1C 0x06 o, o.rd.toNat / 16 != 0 || o.rs1.toNat / 16 != 0 || o.rs2 != 0)
  | .capdrop o => some (o.cond, wordR 0x1C 0x07 o, o.rd.toNat / 16 != 0 || o.rs1.toNat / 16 != 0 || o.rs2 != 0)
  | .caplock o => some (o.cond, wordR 0x1C 0x08 o, o.rd.toNat / 16 != 0 || o.rs1.toNat / 16 != 0 || o.rs2.toNat / 16 != 0)
  | .capopen o => some (o.cond, wordR 0x1C 0x09 o, o.rd.toNat / 16 != 0 || o.rs1.toNat / 16 != 0 || o.rs2.toNat / 16 != 0)
  | .capwithin o => some (o.cond, wordR 0x1C 0x0A o, o.rs1.toNat / 16 != 0 || o.rs2.toNat / 16 != 0)
  | .b o => some (o.cond, wordJ 0x20 o, false)
  | .call o => some (o.cond, wordJ 0x21 o, false)
  | .jr o => some (o.cond, wordR 0x22 0x00 o, o.rs1.toNat / 16 != 0 || o.rd != 0 || o.rs2 != 0)
  | .callr o => some (o.cond, wordR 0x22 0x01 o, o.rs1.toNat / 16 != 0 || o.rd != 0 || o.rs2 != 0)
  | .ret o => some (o.cond, wordR 0x22 0x02 o, o.rd != 0 || o.rs1 != 0 || o.rs2 != 0)
  | .eret o => some (o.cond, wordR 0x22 0x03 o, o.rd != 0 || o.rs1 != 0 || o.rs2 != 0)
  | .ctxsw o => some (o.cond, wordR 0x22 0x04 o, o.rd != 0 || o.rs1 != 0 || o.rs2 != 0)
  | .fence o => some (o.cond, wordR 0x22 0x05 o, o.rd != 0 || o.rs1 != 0 || o.rs2 != 0)
  | .wfi o => some (o.cond, wordR 0x22 0x06 o, o.rd != 0 || o.rs1 != 0 || o.rs2 != 0)
  | .trap cond rest n => some (cond, wordOf (cond.toNat * 2 ^ 28 + 0x23 * 2 ^ 22 + rest.toNat * 2 ^ 8 + n.toNat), rest != 0)
  | .loop o => some (o.cond, wordIm 0x24 o, decide (2 < o.rd.toNat))
  | .qadd o rsel => some (o.cond, wordR 0x28 (0x0 + 16 * rsel.toNat) o, rsel != 0)
  | .qsub o rsel => some (o.cond, wordR 0x28 (0x1 + 16 * rsel.toNat) o, rsel != 0)
  | .qneg o rsel => some (o.cond, wordR 0x28 (0x2 + 16 * rsel.toNat) o, rsel != 0 || o.rs2 != 0)
  | .qabs o rsel => some (o.cond, wordR 0x28 (0x3 + 16 * rsel.toNat) o, rsel != 0 || o.rs2 != 0)
  | .qmul o rsel => some (o.cond, wordR 0x28 (0x4 + 16 * rsel.toNat) o, decide (4 < rsel.toNat))
  | .qadd2 o rsel => some (o.cond, wordR 0x28 (0x6 + 16 * rsel.toNat) o, rsel != 0)
  | .qsub2 o rsel => some (o.cond, wordR 0x28 (0x7 + 16 * rsel.toNat) o, rsel != 0)
  | .qmul2 o rsel => some (o.cond, wordR 0x28 (0x8 + 16 * rsel.toNat) o, decide (4 < rsel.toNat))
  | .qshl o rsel => some (o.cond, wordR 0x28 (0x9 + 16 * rsel.toNat) o, rsel != 0)
  | .qshr o rsel => some (o.cond, wordR 0x28 (0xA + 16 * rsel.toNat) o, decide (4 < rsel.toNat))
  | .qpack o rsel => some (o.cond, wordR 0x28 (0xB + 16 * rsel.toNat) o, decide (4 < rsel.toNat))
  | .mac o rsel => some (o.cond, wordR 0x29 (0x0 + 16 * rsel.toNat) o, rsel != 0 || o.rd.toNat / 2 != 0)
  | .msu o rsel => some (o.cond, wordR 0x29 (0x1 + 16 * rsel.toNat) o, rsel != 0 || o.rd.toNat / 2 != 0)
  | .mula o rsel => some (o.cond, wordR 0x29 (0x2 + 16 * rsel.toNat) o, rsel != 0 || o.rd.toNat / 2 != 0)
  | .mac2 o rsel => some (o.cond, wordR 0x29 (0x3 + 16 * rsel.toNat) o, rsel != 0 || o.rd.toNat / 2 != 0)
  | .msu2 o rsel => some (o.cond, wordR 0x29 (0x4 + 16 * rsel.toNat) o, rsel != 0 || o.rd.toNat / 2 != 0)
  | .mula2 o rsel => some (o.cond, wordR 0x29 (0x5 + 16 * rsel.toNat) o, rsel != 0 || o.rd.toNat / 2 != 0)
  | .clra o rsel =>
      some (o.cond, wordR 0x29 (0x6 + 16 * rsel.toNat) o, rsel != 0 || o.rd.toNat / 2 != 0 || o.rs2 != 0 || o.rs1 != 0)
  | .mta o rsel => some (o.cond, wordR 0x29 (0x7 + 16 * rsel.toNat) o, rsel != 0 || o.rd.toNat / 2 != 0 || o.rs2 != 0)
  | .rda o rsel =>
      some (o.cond, wordR 0x29 (0x8 + 16 * rsel.toNat) o, decide (4 < rsel.toNat) || o.rs1.toNat / 2 != 0 || o.rs2 != 0)
  | .rda16 o rsel =>
      some (o.cond, wordR 0x29 (0x9 + 16 * rsel.toNat) o, decide (4 < rsel.toNat) || o.rs1.toNat / 2 != 0 || o.rs2 != 0)
  | .rdal o rsel => some (o.cond, wordR 0x29 (0xA + 16 * rsel.toNat) o, rsel != 0 || o.rs1.toNat / 2 != 0 || o.rs2 != 0)
  | .rdah o rsel => some (o.cond, wordR 0x29 (0xB + 16 * rsel.toNat) o, rsel != 0 || o.rs1.toNat / 2 != 0 || o.rs2 != 0)
  | .rdag o rsel => some (o.cond, wordR 0x29 (0xC + 16 * rsel.toNat) o, rsel != 0 || o.rs1.toNat / 2 != 0 || o.rs2 != 0)
  | .wral o rsel => some (o.cond, wordR 0x29 (0xD + 16 * rsel.toNat) o, rsel != 0 || o.rd.toNat / 2 != 0 || o.rs2 != 0)
  | .wrah o rsel => some (o.cond, wordR 0x29 (0xE + 16 * rsel.toNat) o, rsel != 0 || o.rd.toNat / 2 != 0 || o.rs2 != 0)
  | .wrag o rsel => some (o.cond, wordR 0x29 (0xF + 16 * rsel.toNat) o, rsel != 0 || o.rd.toNat / 2 != 0 || o.rs2 != 0)
  | .dadd o => some (o.cond, wordR 0x2A 0x00 o, false)
  | .daddc o => some (o.cond, wordR 0x2A 0x01 o, false)
  | .dsub o => some (o.cond, wordR 0x2A 0x02 o, false)
  | .dsubc o => some (o.cond, wordR 0x2A 0x03 o, false)
  | .dcmp o => some (o.cond, wordR 0x2A 0x04 o, o.rd != 0)
  | .dadj o => some (o.cond, wordR 0x2A 0x05 o, false)
  | .bcd2bin o => some (o.cond, wordR 0x2A 0x06 o, o.rs2 != 0)
  | .bin2bcd o => some (o.cond, wordR 0x2A 0x07 o, o.rs2 != 0)
  | .mfs o => some (o.cond, wordIm 0x30 o, !sysListed o.imm.toNat || o.rs1 != 0)
  | .mts o =>
      some (o.cond, wordIm 0x31 o, !sysListed o.imm.toNat || sysReadOnly o.imm.toNat
        || (sysTable o.imm.toNat && s.fuses.lifeCycle == .field) || o.rd != 0)
  | .cmfs o => some (o.cond, wordIm 0x32 o, !capSysListed o.imm.toNat || o.rd.toNat / 16 != 0 || o.rs1 != 0)
  | .cmts o =>
      some (o.cond, wordIm 0x33 o, !capSysListed o.imm.toNat || s.sv.capOnce o.imm.toNat || o.rs1.toNat / 16 != 0
        || o.rd != 0)
  | .customInstruction o slot k =>
      some (o.cond, wordR 0x3E (slot.toNat * 8 + k.toNat) o, !(tabGet slotEmpty s.sv.slots slot.toNat).2.1)
  | _ => none

/-- An exact value held to the range of n signed bits (R312, R315). -/
def sat (n : Nat) (x : Int) : Int := max (-(2 ^ (n - 1))) (min (2 ^ (n - 1) - 1) x)

/-- A signed value as a word, modulo 2^32. -/
def asWord (x : Int) : Word := BitVec.ofInt 32 x

/-- Two signed halves packed, high first (R312). -/
def pack (hi lo : Int) : Word := (BitVec.ofInt 16 hi ++ BitVec.ofInt 16 lo : BitVec 32)

/-- The high and the low half of a packed word, as signed (R312). -/
def hiHalf (w : Word) : Int := (w.extractLsb' 16 16).toInt
def loHalf (w : Word) : Int := (w.extractLsb' 0 16).toInt

/-! ### Timed I/O -/

/-- The first delivered entry of a port and channel is `e`, the pin runs the function `f`, and Breakwater does not hold the
port at its default (R96, R111, R435). -/
abbrev State.entryDue (s : State) (port chan f : Nat) (e : PortEntry) : Prop :=
  s.box.due.find? (fun e => e.port = port && e.chan = chan && e.inst ≤ s.now) = some e
    ∧ s.pinFunc port = f ∧ ¬ (s.bw.defaults = true ∧ holdUpPort port = true)

/-- The state with a delivered entry taken from its port's box. -/
def State.took (s : State) (e : PortEntry) : State := { s with box := { s.box with due := s.box.due.erase e } }

/-- An entry whose payload the pin's function does not define makes no action: it is counted, marked in the pin's status and
reported (R115, R129). -/
def NoAction (port : Nat) (s t : State) : Prop :=
  (t.reg (pinPage port) 0x58).toNat = min ((s.reg (pinPage port) 0x58).toNat + 1) (2 ^ 32 - 1)
    ∧ bit (t.pinWord port 0x24) 0 = true ∧ t.regF (pinPage port) 0x20 2 1 = 1
    ∧ SameRegsBut [(pinPage port).base + 0x58, (pinPage port).base + 0x20, (pinPage port).base + pinOff port 0x24] s t
    ∧ t = { s with regs := t.regs, fab := t.fab }

/-! ### Tidemark -/

/-- The kinds of a transfer from Tidemark (R262). -/
def TmXfer.isRoll : TmXfer → Bool | .rollEvent _ _ _ _ => true | _ => false
def TmXfer.isTicket : TmXfer → Bool | .ticket _ => true | _ => false
def TmXfer.isAudit : TmXfer → Bool | .audit _ => true | _ => false
def TmXfer.isGone : TmXfer → Bool | .gone _ _ => true | _ => false
def TmXfer.isDone : TmXfer → Bool | .propDone _ _ => true | _ => false

/-- The transfers on their way once Tidemark sends more: they are lost while the link is down (R264). -/
def State.tmSends (s : State) (xs : List TmXfer) : List TmXfer := if s.tmUp then s.tm.out ++ xs else s.tm.out

/-- The transfers on their way once Tidemark answers a proposal, after others (R264, R297). -/
def State.tmAnswers (s : State) (p : TmProp) (xs : List TmXfer) (answer : TmXfer) : List TmXfer :=
  s.tmSends (if p.awaited then xs ++ [answer] else xs)

/-- From s to t one audit record is written: its EVENTS, seal, kind, identifier, old and new value, the last strobe's
instant, its number, and its chained MAC (R283). -/
def Audited (s t : State) (events : Nat) (sealed : Bool) (kind id old new : Nat) : Prop :=
  let n := s.tm.nv
  let body := bytesLE 5 events ++ [if sealed then 0x40 else 0, kind, id] ++ bytesLE 4 old ++ bytesLE 4 new
    ++ bytesLE 8 (s.tm.last.getD 0) ++ bytesLE 4 n.nextRec
  let mac := (hmacSha256 n.key (body ++ n.prevMac)).take 4
  t.tm.nv.audits = ((n.nextRec, body ++ mac) :: n.audits).take 4096 ∧ t.tm.nv.nextRec = (n.nextRec + 1) % 2 ^ 32
    ∧ t.tm.nv.prevMac = mac

/-- From s to t one checkpoint is written, which holds t's counting state (R293). -/
def Committed (s t : State) (final : Bool) : Prop :=
  let m := t.tm
  m.nv.ckpts = (⟨m.w0.count, m.w1.count, m.base, m.hw, m.total, m.roll, m.bound, m.closed, final,
    decide (s.fieldNow < s.tm.lastCount + 800000000)⟩ :: s.tm.nv.ckpts).take 256

/-! ### Timers -/

/-- From s to t timer k raises its event e at the instant x (R441, R449): its flag is set, and a route that the event
triggers has its action on the way, and no other action is new. -/
def TimerEvent (s t : State) (k e x : Nat) : Prop :=
  t.regF (.tmr (k / 8)) 0x20 (4 * (k % 8) + e) 1 = 1
    ∧ (∀ r, r < 64 → bit (s.route r) 31 = true → fld (s.route r) 0 7 = 4 * k + e →
        (t.routes.any fun a => a.kind = fld (s.route r) 8 3 && a.index = fld (s.route r) 11 16
          && a.at_ = x + routeDelay (fld (s.route r) 8 3)) = true)
    ∧ ∀ a ∈ t.routes, a ∈ s.routes ∨ ∃ r, r < 64 ∧ bit (s.route r) 31 = true ∧ fld (s.route r) 0 7 = 4 * k + e
        ∧ a = ⟨fld (s.route r) 8 3, fld (s.route r) 11 16, x, x + routeDelay (fld (s.route r) 8 3)⟩

/-- A timer counts from an instant on, with its preloads copied (R440, R442, R447). -/
def State.counting (s : State) (k x : Nat) : Tmr :=
  { s.timer k with run := true, at_ := x, taken := false, copy := false, period := s.tmrVal k 8, cmp0 := s.tmrVal k 0xC, cmp1 := s.tmrVal k 0x10 }

/-! ### Resets and the HRP -/

/-- A register of the Lee domain, or of Breakwater's record kept in it (R432, R491).
Marked DEDUCED and unsafe (notes/assumptions/120.md). -/
def leeWord (a : Nat) : Bool :=
  (Page.base .lee + 0x40 ≤ a && a < Page.base .lee + 0x1000) || (Page.base .bwCtl + 0x58 ≤ a && a < Page.base .bwCtl + 0x70)

/-- From s to u the units of the compute die are as a reset leaves them (R107, R491): no entry in the pool, no tag, no timer,
route, channel, engine or context under way, the core fresh. -/
def ComputeFresh (s u : State) : Prop :=
  u.tags = [] ∧ u.tbs = ⟨false, 0, 0⟩ ∧ u.tqf = ⟨[], s.tqf.gen, [], [], [], 0⟩ ∧ u.tmr = [] ∧ u.routes = []
    ∧ u.dma = ⟨[], 0, 0⟩ ∧ u.swell = [] ∧ u.roll = ⟨false, []⟩ ∧ u.gh = ⟨[], [], []⟩ ∧ u.trk = trkFresh
    ∧ u.surf.cams = [] ∧ u.surf.lanes = [] ∧ u.surf.ff = [] ∧ u.surf.wins = [] ∧ u.power = .spring ∧ u.dormant = .awake
    ∧ u.sv = svFresh s.now ∧ u.boot.running = false ∧ u.boot.firmware = false
    ∧ ∀ a, fieldWord a = false → a ≠ Page.base .sys + 0x70 → a ≠ Page.base .sys + 0x74 → u.rd a = resetWord u.fuses a

/-- From s to u the registers of the field die stand, but for the generators and what R417 and R410 end with the reset of the
compute die (R133, R491). -/
def FieldStands (s u : State) : Prop :=
  ∀ a, fieldWord a = true → (a < Page.base .tioc + 0x48 ∨ Page.base .tioc + 0x1000 ≤ a) →
    a ∉ [Page.base .lks + 0x40, Page.base .bwCtl + 0x70, Page.base .bwCtl + 0x74] → u.rd a = s.rd a

/-- Both dies are as a reset leaves them, their timebase at an instant, flash the memory that remains (R34, R491). -/
def BothFresh (s u : State) (now : Nat) : Prop :=
  u.now = now ∧ u.fieldNow = now ∧ u.mem = s.flash ∧ u.tags = [] ∧ u.tqf = ⟨[], s.tqf.gen, [], [], [], 0⟩ ∧ u.box = ⟨[], []⟩
    ∧ u.tmr = [] ∧ u.routes = [] ∧ u.dma = ⟨[], 0, 0⟩ ∧ u.swell = [] ∧ u.conv = [] ∧ u.wdt = [] ∧ u.net = [] ∧ u.gens = []
    ∧ u.raised = [] ∧ u.domains = [] ∧ u.sv = svFresh now ∧ u.bw = bwFresh now ∧ u.boot.running = false ∧ u.boot.firmware = false
    ∧ u.boot.released = false
    ∧ u.fuses = (match s.boot.lcNext with | some l => { s.fuses with lifeCycle := l } | none => s.fuses)
    ∧ ∀ a, leeWord a = false → a ≠ Page.base .sys + 0x70 → a ≠ Page.base .sys + 0x74 → u.rd a = resetWord u.fuses a

/-- The cause of a reset, its source and its count (R491, R492): APP or DEV counts it, or neither. -/
def CauseSet (s u : State) (cause src : Nat) (app dev : Bool) : Prop :=
  u.reg .sys 0x70 = BitVec.ofNat 32 (cause + src * 16)
    ∧ u.regF .sys 0x74 0 16 = (if app then min (s.regF .sys 0x74 0 16 + 1) 65535 else s.regF .sys 0x74 0 16)
    ∧ u.regF .sys 0x74 16 16 = (if dev then min (s.regF .sys 0x74 16 16 + 1) 65535 else s.regF .sys 0x74 16 16)

/-- What a domain's power-down loses (R470): the registers of its pages but PAGE_CTRL, and, for a System SRAM bank or the
program memories of Swell engines, its bytes. A page that two domains share keeps what is the other's. -/
def DomainLost (s t : State) (d : Nat) : Prop :=
  (∀ p ∈ allPages, p.present s.fuses = true → pageDomains p = [d] → ∀ o, o < 0x1000 →
      t.reg p o = if o = 0x0C then s.reg p o else resetWord s.fuses (p.base + o))
    ∧ (∀ p ∈ allPages, (pageDomains p).contains d = false → ∀ o, o < 0x1000 → t.reg p o = s.reg p o)
    ∧ (16 ≤ d → d ≤ 19 → (∀ a, 0x20000000 + (d - 16) * 0x200000 ≤ a → a < 0x20000000 + (d - 15) * 0x200000 → readByte t.mem a = 0)
        ∧ (∀ g, g ∈ t.tags ↔ g ∈ s.tags ∧ ¬ (0x2000000 + (d - 16) * 0x20000 ≤ g ∧ g < 0x2000000 + (d - 15) * 0x20000))
        ∧ SameMemoryBut (0x20000000 + (d - 16) * 0x200000) (0x20000000 + (d - 15) * 0x200000) s t)
    ∧ (20 ≤ d → d ≤ 23 → SameMemoryBut (swProg (4 * (d - 20))) (swProg (4 * (d - 19))) s t)
    ∧ (d < 16 ∨ 23 < d → t.mem = s.mem) ∧ (d < 16 ∨ 23 < d → t.tags = s.tags)

/-- An HRP frame is answered from a state u (R482, R499): the host sees the reason and, without one, the data; HRP_STAT holds
its TAG and REASON; it is counted. -/
def HrpDone (tag : Nat) (r : Reason) (data : Nat) (u t : State) : Prop :=
  t.lastResp .host = ⟨r, if r = .none then data else 0⟩
    ∧ t.regF .hrp 0x40 8 8 = tag % 256 ∧ t.regF .hrp 0x40 16 8 = r.code ∧ t.reg .hrp 0x44 = u.reg .hrp 0x44 + 1
    ∧ (r ≠ .none → t.regF .hrp 0x20 0 1 = 1)
    ∧ SameRegsBut [Page.base .hrp + 0x40, Page.base .hrp + 0x44, Page.base .hrp + 0x20] u t
    ∧ t = { u with regs := t.regs, fab := t.fab }

/-- The registers of the Lee domain stand, but for those listed (R491). -/
def LeeKept (l : List Nat) (s u : State) : Prop := ∀ a, leeWord a = true → a ∉ l → u.rd a = s.rd a

/-- The TCMs and System SRAM read 0, and hold no tag (R36, R483, R490). -/
def RamCleared (t : State) : Prop :=
  (∀ a, (0x08000000 ≤ a ∧ a < 0x08040000) ∨ (0x08100000 ≤ a ∧ a < 0x08140000) ∨ (0x20000000 ≤ a ∧ a < 0x20800000) →
    readByte t.mem a = 0) ∧ ∀ g ∈ t.tags, tagMemory (16 * g) = false

/-- Firmware is handed over to, unless the HOLD latch keeps the ports at their defaults (R476). -/
def HandedOver (u t : State) : Prop :=
  (t.holdLatch = false → t.boot.firmware = true ∧ t.boot.released = true ∧ t.boot.held = [] ∧ t.boot.retained = [])
    ∧ (t.holdLatch = true → t.boot.firmware = u.boot.firmware ∧ t.boot.released = u.boot.released)
    ∧ t.boot.wait = false ∧ t.boot.stream = []

/-! ### Register commands of one shape -/

/-- A command is the 32-bit write of `v` to the register at `off` of a page, and its whole effect is that the registers at
the offsets `zs` of that page read 0. -/
def Clears (c : Instr) (m : Master) (p : Page) (off v : Nat) (zs : List Nat) (s : State) : Prop :=
  s.accepts (put32 m p off v) → Ends c s fun t =>
    (∀ o ∈ zs, t.reg p o = 0) ∧ SameRegsBut (zs.map (p.base + ·)) s t ∧ Written m p.base s t
      ∧ t = { s with regs := t.regs, fab := t.fab }

end Sys2Proof.Machine
end

