-- ==== Sys2Proof/Certificates/Slice0/Obligations.lean ====
section
/-! DEFINITION. What is claimed of the block: one claim for each command (or for each case of one), each the command's
completion, its result and its frame; claims about the machine as a whole; and the obligations, each a conjunction of claims.
The rules that a claim follows stand in its docstring. -/
set_option Elab.async false

namespace Sys2Proof.Claims
open Sys2Proof.Machine

/-! ### The machine as a whole -/

/-- A step runs the command at the front of the queue on the state with the queue's rest. -/
def commandStep : Prop := ∀ (c : Instr) (cs : List Instr) (s : State),
  step { s with pending := c :: cs } = exec c { s with pending := cs }

/-- A step on an empty queue is one cycle of the timebase where time runs: 8 ticks, or 7 or 9 where the rate correction owes
a tick (R24, R74, R75); where it does not run, nothing. That the empty queue stands for a cycle is the model's choice
(notes/assumptions/2.md). -/
def idleStep : Prop := ∀ s : State, s.pending = [] →
  (s.timeRuns = false → step s = .next s)
    ∧ (s.timeRuns = true → s.boot.portsAt = none → ∃ n : Nat, (n = 7 ∨ n = 8 ∨ n = 9)
      ∧ (s.reg .tb 0x50 = 0 → -(2 ^ 32) < s.tbs.rateAcc → s.tbs.rateAcc < 2 ^ 32 → n = 8)
      ∧ step s = .next { s with
          now := (s.now + n) % 2 ^ 64, fieldNow := (s.fieldNow + n) % 2 ^ 64
          tbs := { s.tbs with rateAcc := s.tbs.rateAcc + 8 * (s.reg .tb 0x50).toInt - ((n : Int) - 8) * 2 ^ 32 } })

/-- Every step that answers a next state takes exactly the front command from the queue, and none adds one. -/
def oneCommandEachStep : Prop := ∀ s t : State, step s = .next t → t.pending = s.pending.tail

/-- Every step keeps memory in its canonical form. -/
def everyStepKeepsMemory : Prop := ∀ s t : State, s.memOk → step s = .next t → t.memOk

/-- What reset leaves: no memory byte, tag, command, entry or engine under way; the timebases at 0; every register at the value
that R43 to R514 give it, RST_CAUSE at POWER_ON; and the core as R300 and R373 say. -/
def resetState : Prop :=
  let r := State.reset
  r.memOk ∧ r.mem = [] ∧ r.tags = [] ∧ r.pending = [] ∧ r.now = 0 ∧ r.fieldNow = 0
    ∧ r.reg .sys 0x70 = 1 ∧ (∀ a, a ≠ Page.base .sys + 0x70 → r.rd a = resetWord r.fuses a)
    ∧ r.tqf = ⟨[], [], [], [], [], 0⟩ ∧ r.box = ⟨[], []⟩ ∧ r.tmr = [] ∧ r.routes = [] ∧ r.power = .spring ∧ r.raised = []
    ∧ (∀ k, r.sv.gr k = 0) ∧ (∀ k, k ≠ 14 → r.sv.cr k = nullCap) ∧ r.sv.cr 14 = capOf true 0 0x7DE 0xFFFFFFFF 0 0
    ∧ r.sv.pcc = capOf true 0 0x7FF 0xFFFFFFFF 0 0 ∧ r.sv.a0 = 0 ∧ r.sv.a1 = 0 ∧ r.sv.l0 = ⟨0, 0, 0⟩ ∧ r.sv.l1 = ⟨0, 0, 0⟩
    ∧ r.sv.l2 = ⟨0, 0, 0⟩ ∧ r.sv.cstat.extractLsb' 0 11 = 0 ∧ r.sv.ml = 7 ∧ r.sv.depth = 0 ∧ r.sv.breach = false
    ∧ r.sv.fvec = nullCap ∧ r.sv.breachVec = nullCap

/-- An SV-32 instruction whose encoding is defined and whose condition does not hold has no effect but that pcc goes on by the
loop-end rule (R303, R329): no other field of the state differs, no register, flag or accumulator is written by it. -/
def conditionFalse : Prop := ∀ (i : Instr) (cond : BitVec 4) (w : Word) (s : State),
  s.svForm i = some (cond, w, false) → s.svIssues = true → s.sv.arith ≠ some 8 → s.svFetchFault = none → cond ≠ 0 →
  condHolds cond.toNat s.sv.flags = false →
  ((s.svBegin.sv.atEnd s.svBegin.sv.pc).all fun k => !s.svBegin.sv.endBad k) = true →
  ∃ t, exec i s = .next t ∧ (s.sv.innermost = none → capCursor t.sv.pcc = (capCursor s.sv.pcc + 4) % 2 ^ 32)
    ∧ t.sv.a0 = s.sv.a0 ∧ t.sv.a1 = s.sv.a1 ∧ t.sv.flags = s.sv.flags ∧ t.sv.depth = s.sv.depth
    ∧ t.sv.banks = s.svBegin.sv.banks ∧ t.sv.breachBank = s.svBegin.sv.breachBank
    ∧ t.sv.ecause = s.sv.ecause ∧ t.sv.eaddr = s.sv.eaddr ∧ t = { s with sv := t.sv }
    ∧ exec i s = .next (s.svNext s.svBegin)

/-- An SV-32 instruction with an undefined encoding, or of condition 0, raises ILLEGAL_OPCODE precisely, before its condition is
looked at: the entry through FVEC at that cause's level, ECAUSE with code 1, EADDR the word (R306, R378, R381). -/
def undefinedForm : Prop := ∀ (i : Instr) (cond : BitVec 4) (w : Word) (bad : Bool) (s : State),
  let u := s.svBegin
  let level := fld s.sv.flvl 0 3
  let entry := u.svEnter s.sv.fvec level s.sv.pcc s.sv.pcc
  s.svForm i = some (cond, w, bad) → bad = true ∨ cond = 0 → s.svIssues = true → s.sv.arith = none →
  s.svFetchFault = none → s.sv.breach = false → s.sv.ml < level → s.sv.fvec ≠ nullCap → entry.1 = true →
  exec i s = .next (entry.2.svCause 1 level true false .none 0 0 w.toNat)

/-- What an entry through a vector leaves, with a bank free (R387): the next bank, its EPCC and ESTAT, zeroed registers but
ddc and csp, pcc at the vector, ML the level, LA 0, the flags kept, the old bank as it was. -/
def entrySaves : Prop := ∀ (vec epcc struck : Cap) (level : Nat) (s : State),
  level < 8 → s.sv.banks.length = 4 → s.sv.breach = false → s.sv.depth < 3 →
  ∃ t, s.svEnter vec level epcc struck = (true, t) ∧ t.sv.depth = s.sv.depth + 1 ∧ t.sv.pcc = vec
    ∧ t.sv.bank.epcc = epcc ∧ t.sv.bank.estat = s.sv.cstat ∧ (∀ r, t.sv.gr r = 0)
    ∧ (∀ r, r ≠ 14 → r ≠ 15 → t.sv.cr r = nullCap) ∧ t.sv.cr 14 = s.sv.cr 14 ∧ t.sv.cr 15 = s.sv.cr 15
    ∧ t.sv.ml = level ∧ t.sv.cstat.extractLsb' 8 3 = 0#3 ∧ t.sv.cstat.extractLsb' 0 8 = s.sv.cstat.extractLsb' 0 8
    ∧ t.sv.cstat.extractLsb' 11 2 = s.sv.cstat.extractLsb' 11 2 ∧ t.sv.cstat.extractLsb' 16 16 = s.sv.cstat.extractLsb' 16 16
    ∧ (∀ k, k < 4 → k ≠ t.sv.depth % 4 → t.sv.banks[k]? = s.sv.banks[k]?) ∧ t.sv.a0 = s.sv.a0 ∧ t.sv.a1 = s.sv.a1
    ∧ t.sv.l0 = s.sv.l0 ∧ t.sv.l1 = s.sv.l1 ∧ t.sv.l2 = s.sv.l2 ∧ t = { s with sv := t.sv }

/-- What an entry leaves at depth 3 or more (R389, R390): the oldest context's frame stands in the 512 bytes below csp, and the
new csp is lowered by 512. -/
def spillWritesFrame : Prop := ∀ (vec epcc struck : Cap) (level : Nat) (s : State),
  let csp := s.sv.cr 15
  let low := capCursor csp - 512
  let old := s.sv.banks.getD ((s.sv.depth + 1) % 4) svBankFresh
  level < 8 → s.sv.banks.length = 4 → s.sv.breach = false → 3 ≤ s.sv.depth → s.sv.depth < 65535 →
  csp.tag = true → capOtype csp = 0 → capHas csp 2 = true → capHas csp 4 = true → capCursor csp % 16 = 0 →
  512 ≤ capCursor csp → capBase csp ≤ low → capCursor csp ≤ capBase csp + capLength csp → framePlace low = true →
  (unguarded .headland low = true ∨ s.guardFault .headland .store low 512 = none) →
  (0x20000000 ≤ low → s.sramOn (sramBank low) = true ∧ s.sramOn (sramBank (low + 511)) = true) →
  ∃ t, s.svEnter vec level epcc struck = (true, t) ∧ t.sv.depth = s.sv.depth + 1 ∧ t.sv.pcc = vec
    ∧ t.sv.bank.epcc = epcc ∧ t.sv.bank.estat = s.sv.cstat ∧ t.sv.cr 14 = s.sv.cr 14 ∧ t.sv.cr 15 = capSetCursor csp low
    ∧ (∀ i, i < 15 → t.memCap (low + 16 * i) = tabGet nullCap old.c (i + 1)) ∧ t.memCap (low + 0xF0) = old.epcc
    ∧ (∀ i, i < 31 → t.memN (low + 0x100 + 4 * i) 4 = (tabGet 0 old.g (i + 1)).toNat)
    ∧ t.memN (low + 0x17C) 4 = old.estat.toNat ∧ t.memN (low + 0x180) 4 = (s.sv.depth - 3) + 0xF5A1 * 2 ^ 16
    ∧ (∀ a, low + 0x184 ≤ a → a < low + 512 → readByte t.mem a = 0) ∧ SameMemoryBut low (low + 512) s t

/-- TRAP and the ERET that follows it return to the instruction after the TRAP with every register, CSTAT and DEPTH as they
were (R386, R387, R391). -/
def trapReturns : Prop := ∀ (cond : BitVec 4) (n : BitVec 8) (o : OpR) (s t : State),
  s.svStarts cond → s.sv.arith = none → s.sv.banks.length = 4 → s.sv.depth < 3 → s.sv.breach = false →
  s.sv.ml < fld s.sv.flvl 24 3 → s.svBegin.gateCheck n.toNat = none → exec (.trap cond 0 n) s = .next t →
  t.svStarts o.cond → capHas t.sv.pcc 5 = true → o.rd = 0 → o.rs1 = 0 → o.rs2 = 0 →
  (capSetCursor s.sv.pcc (capCursor s.sv.pcc + 4)).jumps →
  ∃ u, exec (.eret o) t = .next u ∧ u.sv.pcc = capSetCursor s.sv.pcc (capCursor s.sv.pcc + 4) ∧ u.sv.cstat = s.sv.cstat
    ∧ u.sv.depth = s.sv.depth ∧ (∀ r, u.sv.gr r = s.svBegin.sv.gr r) ∧ (∀ r, u.sv.cr r = s.svBegin.sv.cr r)
    ∧ u.sv.a0 = s.sv.a0 ∧ u.sv.a1 = s.sv.a1 ∧ u.sv.l0 = s.sv.l0 ∧ u.sv.l1 = s.sv.l1 ∧ u.sv.l2 = s.sv.l2
    ∧ u = { s with sv := u.sv }

/-- A register written reads its value, g0 and c0 read 0 and the null capability and discard what is written, and no other
register of the bank in use differs (R299). -/
def coreRegisters : Prop := ∀ (r : Nat) (v : Word) (x : Cap) (c : SvCore),
  c.banks.length = 4 →
  c.gr 0 = 0 ∧ c.cr 0 = nullCap ∧ c.setG 0 v = c ∧ c.setC 0 x = c
    ∧ (r ≠ 0 → (c.setG r v).gr r = v ∧ (c.setC r x).cr r = x)
    ∧ (∀ k, k ≠ r → (c.setG r v).gr k = c.gr k ∧ (c.setC r x).cr k = c.cr k)
    ∧ (∀ k, (c.setG r v).cr k = c.cr k ∧ (c.setC r x).gr k = c.gr k)
    ∧ (∀ k, k ≠ c.depth % 4 → (c.setG r v).banks[k]? = c.banks[k]? ∧ (c.setC r x).banks[k]? = c.banks[k]?)
    ∧ (c.breach = true → (c.setG r v).banks = c.banks ∧ (c.setC r x).banks = c.banks)
    ∧ (c.breach = false → (c.setG r v).breachBank = c.breachBank ∧ (c.setC r x).breachBank = c.breachBank)
    ∧ c.setG r v = { c with banks := (c.setG r v).banks, breachBank := (c.setG r v).breachBank }
    ∧ c.setC r x = { c with banks := (c.setC r x).banks, breachBank := (c.setC r x).breachBank }
    ∧ ∀ j k, j < 2 → k < 2 → ∀ a, (c.setAcc j a).acc k = if k = j then a else c.acc k

/-- The operations that derive one capability from another only narrow it (R372): where the instruction does not fault, every
capability register either is as it was, or is untagged, or lies within the source's bounds with no permission of its own. -/
def capabilitiesOnlyNarrow : Prop := ∀ (i : Instr) (o : OpR) (s t : State),
  i ∈ [.capptr o, .capadv o, .capnarrow o, .capmask o, .capmov o, .capdrop o, .caplock o, .capopen o] →
  s.sv.banks.length = 4 → s.svIssues = true → exec i s = .next t →
  t.sv.depth = s.sv.depth → t.sv.breach = s.sv.breach → t.sv.hold = s.sv.hold →
  ∀ r, t.sv.cr r = s.svBegin.sv.cr r ∨ (t.sv.cr r).tag = false
    ∨ ((s.sv.cr o.rs1.toNat).tag = true ∧ capBase (s.sv.cr o.rs1.toNat) ≤ capBase (t.sv.cr r)
      ∧ capBase (t.sv.cr r) + capLength (t.sv.cr r) ≤ capBase (s.sv.cr o.rs1.toNat) + capLength (s.sv.cr o.rs1.toNat)
      ∧ ∀ k, k < 16 → capHas (t.sv.cr r) k = true → capHas (s.sv.cr o.rs1.toNat) k = true)

/-- The load delay (R322): the instruction after a load reads the load's destination as it was before, its own result stands
over the loaded value, and an interrupt between the two leaves the loaded value in the interrupted bank. -/
def loadDelay : Prop := ∀ (o : OpR) (r : Nat) (v : Word) (src level : Nat) (s : State),
  s.sv.banks.length = 4 → s.sv.load = some (.word r v) → 0 < r →
  (s.svReady o.cond → ∃ t, exec (.add o false) s = .next t ∧ t.sv.load = none
    ∧ (o.rd ≠ 0 → t.sv.gr o.rd.toNat = s.sv.gr o.rs1.toNat + s.sv.gr o.rs2.toNat)
    ∧ (r ≠ o.rd.toNat → t.sv.gr r = v))
  ∧ (s.computeRuns = true → s.boot.running = true → s.sv.hold = false → s.sv.breach = false → s.sv.arith = none →
    s.sv.depth < 3 → s.irqBest s.sv.ml = some (src, level) → tabGet nullCap s.sv.ivec level ≠ nullCap →
    ∃ t, exec .interruptAccept s = .next t ∧ t.sv.load = none ∧ t.sv.depth = s.sv.depth + 1
      ∧ (t.sv.banks[s.sv.depth % 4]?.map fun b => tabGet 0 b.g r) = some v)

/-- A rejected write of a page register does nothing but what R54 and R56 say: the reason goes to the master, and PAGE_ERR
records the first rejection since it was cleared and marks an overflow. -/
def rejectedWrite : Prop := ∀ (m : Master) (p : Page) (off n v : Nat) (s : State),
  let x : Access := ⟨m, p.base + off, n, v, true⟩
  let r := (s.accWrite x).1
  p.valid = true → off < 0x1000 → p.present s.fuses = true → (∀ k, p ≠ .wdt k) → p ≠ .swdt → p ≠ .slk →
  s.sends m = true → (unguarded m x.addr = true ∨ s.guardFault m .store x.addr n = none) →
  s.decode m x.addr n = some (.page p) → r ≠ .none →
  ∃ t, exec (.registerWrite x) s = .next t ∧ t.lastResp m = ⟨r, 0⟩
    ∧ t.reg p 0x14 = (if fld (s.reg p 0x14) 0 8 = 0 then BitVec.ofNat 32 (r.code + off * 2 ^ 8 + m.id * 2 ^ 20)
      else s.reg p 0x14 ||| 0x80000000#32)
    ∧ SameRegsBut [p.base + 0x14] s t ∧ t = { s with regs := t.regs, fab := t.fab }

/-- A write of System SRAM and the read that follows it: the bytes written are read, no other byte differs, and the granule
written loses its tag (R34, R36, R369). -/
def ramRoundTrip : Prop := ∀ (m : Master) (a n v : Nat) (s : State),
  n = 1 ∨ n = 2 ∨ n = 4 ∨ n = 8 → 0x20000000 ≤ a → a + n ≤ 0x20800000 →
  s.accepts ⟨m, a, n, v, true⟩ → s.serves ⟨m, a, n, 0, true⟩ →
  ∃ t u, exec (.registerWrite ⟨m, a, n, v, true⟩) s = .next t ∧ t.busRead ⟨m, a, n, 0, true⟩ = u
    ∧ u.lastResp m = ⟨.none, v % 2 ^ (8 * n)⟩ ∧ SameMemoryBut a (a + n) s t ∧ u.mem = t.mem ∧ u.tags = t.tags
    ∧ (∀ g, g ∈ t.tags ↔ g ∈ s.tags ∧ g ≠ a / 16) ∧ t = { s with mem := t.mem, tags := t.tags, fab := t.fab }

/-- Steps 5 to 8 of the start-up sequence (R475, R476, R488): rails that fail reset both dies with cause RAIL_FAIL; else the
boot ROM runs on a state in which a failed self-test, or a failure of BIST in a vital domain, has set the HOLD latch. -/
def startUpRuns : Prop := ∀ (f : StartFacts) (bist : Bool) (s : State),
  (f.rails = false → ∃ t, s.startUp f bist = t ∧ t.supply.rails = false ∧ t.regF .sys 0x70 0 4 = 7
      ∧ t.boot.running = false ∧ t.boot.released = false ∧ t.mem = s.flash ∧ t.supply.railFails = s.supply.railFails + 1
      ∧ t.supply.railDead = decide (1 ≤ s.supply.railFails))
  ∧ (f.rails = true → ∃ w : State, s.startUp f bist = w.romBoot f.took
      ∧ w.supply = { s.supply with rails := true, railFails := 0 } ∧ (f.selfTest = false → w.holdLatch = true)
      ∧ (bist = true → ∀ d, bistVital d = true → f.bist.find? (fun x => x.1 = d) = some (d, none) → w.holdLatch = true)
      ∧ (bist = true → s.fuses.kind ≠ .t9512 → ∀ d, 12 ≤ d → d < 37 → bistVital d = false →
          f.bist.find? (fun x => x.1 = d) = some (d, none) → w.domain d = .keptOff)
      ∧ (f.selfTest = true → bist = false → w.holdLatch = s.holdLatch)
      ∧ w.mem = s.mem ∧ w.now = s.now ∧ w.sv = s.sv ∧ w.boot = s.boot ∧ w.bw = s.bw)

/-- What the boot ROM boots (R476, R477): the valid slot of the higher rollback version, A where they are equal; with none, it
waits for an HRP image where BOOT_CFG allows it, and the ports stay unreleased with the first slot's failure reported. -/
def bootRuns : Prop := ∀ (took : Nat) (s : State),
  let u := { s with now := (s.now + took) % 2 ^ 64, fieldNow := (s.fieldNow + took) % 2 ^ 64, boot := { s.boot with running := true } }
  let a := u.slotImage 0
  let b := u.slotImage 1
  let ta := u.bootTry a false
  let tb := u.bootTry b false
  let t := s.romBoot took
  let cfg := fld s.fuses.bootCfg 0 2
  s.fuses.lifeCycle ≠ .return_ →
  (cfg = 1 → t.boot.wait = true ∧ t.boot.firmware = s.boot.firmware ∧ t.boot.released = s.boot.released ∧ t.mem = s.mem)
    ∧ (cfg ≠ 1 → ta.result = 0 → tb.result ≠ 0 ∨ imgN b 8 4 ≤ imgN a 8 4 → HandedOver ta.loaded t ∧ t.regF .sboot 0x40 4 2 = 0
      ∧ t.regF .sboot 0x40 0 4 = 0)
    ∧ (cfg ≠ 1 → tb.result = 0 → ta.result ≠ 0 ∨ imgN a 8 4 < imgN b 8 4 → HandedOver tb.loaded t ∧ t.regF .sboot 0x40 4 2 = 1
      ∧ t.regF .sboot 0x40 0 4 = 0)
    ∧ (cfg ≠ 1 → ta.result ≠ 0 → tb.result ≠ 0 → t.boot.wait = decide (cfg = 2) ∧ t.boot.firmware = s.boot.firmware
      ∧ t.boot.released = s.boot.released ∧ t.regF .sboot 0x40 0 4 = ta.result ∧ t.mem = s.mem ∧ t.sv = s.sv)

/-- What the checks of R479 let boot: in FIELD every check passed, in TEST the first two; an image that fails loads nothing. -/
def bootChecks : Prop := ∀ (bs : List Nat) (hrp : Bool) (s : State),
  let t := s.bootTry bs hrp
  (t.result ≠ 0 → t.loaded = s)
    ∧ (t.result = 0 → imgMagicOk bs = true ∧ imgRulesOk bs hrp = true ∧ (hrp = true → bs.length = imgLen bs + 64))
    ∧ (t.result = 0 → s.fuses.lifeCycle = .field ∨ s.fuses.lifeCycle = .return_ → s.imgSigned bs = 0 ∧ t.unsigned = false)
    ∧ (imgMagicOk bs = false → t.result = 1)
    ∧ (imgMagicOk bs = true → (hrp = true → bs.length = imgLen bs + 64) → imgRulesOk bs hrp = false → t.result = 2)
    ∧ (imgMagicOk bs = true → (hrp = true → bs.length = imgLen bs + 64) → imgRulesOk bs hrp = true → s.imgSigned bs ≠ 0 →
      (s.fuses.lifeCycle = .field ∨ s.fuses.lifeCycle = .return_ → t.result = s.imgSigned bs)
        ∧ (s.fuses.lifeCycle = .develop → t.result = 0 → t.unsigned = true))
    ∧ (imgMagicOk bs = true → (hrp = true → bs.length = imgLen bs + 64) → imgRulesOk bs hrp = true →
      s.fuses.lifeCycle = .test → t.result = 0 ∧ t.unsigned = false)

/-- What a plan that passes validation holds (R424): its headers, CRCs and entries as checks 2 to 5 and 7 say; and what fails
first is what is reported. -/
def planPasses : Prop := ∀ (c prof : Nat) (s : State),
  (s.planValidate c prof = (0, 0, 0) → prof < 8 → s.regF .slk 0x60 0 3 < 8 →
    (∀ p, p < 8 → s.nent c p ≤ 4096 ∧ s.vRef c p ≠ 0 ∧ s.zLead c p ≤ 80000000 ∧ s.hdrCrcOk c p = true
      ∧ (∀ i, i < s.nent c p → let e := s.planEntry c p i
          e.crcOk = true ∧ e.attrs % 4 = 0 ∧ e.nt ≤ 2 ^ 37
            ∧ (∃ q, e.port = some q ∧ s.chanOk q e.chan = true ∧ s.handoffLead q ≤ s.zLead c p)
            ∧ (0 < i → (s.planEntry c p (i - 1)).nt ≤ e.nt)
            ∧ (∀ j, j < i → (s.planEntry c p j).port = e.port → (s.planEntry c p j).chan = e.chan →
              (s.planEntry c p j).fixed = e.fixed)))
      ∧ 1 ≤ s.nent c prof ∧ 1 ≤ s.nent c (s.regF .slk 0x60 0 3)
      ∧ ∀ i, i < s.nent c (s.regF .slk 0x60 0 3) → (s.planEntry c (s.regF .slk 0x60 0 3) i).fixed = true)
    ∧ ((∃ p, p < 8 ∧ (4096 < s.nent c p ∨ s.vRef c p = 0)) → (s.planValidate c prof).1 = 2)
    ∧ ((∀ p, p < 8 → s.planHeader c prof p = none) → (∃ p, p < 8 ∧ s.hdrCrcOk c p = false) → (s.planValidate c prof).1 = 3)


/-! ### ADD, ADC, SUB, SBC, AND, OR, XOR and BIC -/

/-- ADD (R304, R309). -/
def addDoes : Prop := ∀ (o : OpR) (sf : Bool) (s : State),
  let a := s.sv.gr o.rs1.toNat
  let b := s.sv.gr o.rs2.toNat
  let f := s.sv.flags
  let r : Word := a + b
  s.svReady o.cond →
  ¬ (sf = true ∧ s.sv.trapov = true ∧ decide (a.toInt + b.toInt ≠ r.toInt) = true) →
  exec (.add o sf) s = .next (s.svPut o.rd r (if sf then some ⟨r == 0#32, r.msb, decide (2 ^ 32 ≤ a.toNat + b.toNat), decide
    (a.toInt + b.toInt ≠ r.toInt), f.q, f.d⟩ else none))

/-- ADC: with the carry (R304, R309). -/
def adcDoes : Prop := ∀ (o : OpR) (sf : Bool) (s : State),
  let a := s.sv.gr o.rs1.toNat
  let b := s.sv.gr o.rs2.toNat
  let f := s.sv.flags
  let r : Word := a + b + (if f.c then 1#32 else 0#32)
  s.svReady o.cond →
  ¬ (sf = true ∧ s.sv.trapov = true ∧ decide (a.toInt + b.toInt + (if f.c then 1 else 0) ≠ r.toInt) = true) →
  exec (.adc o sf) s = .next (s.svPut o.rd r (if sf then some ⟨r == 0#32, r.msb, decide (2 ^ 32 ≤ a.toNat + b.toNat + (if f.c
    then 1 else 0)), decide (a.toInt + b.toInt + (if f.c then 1 else 0) ≠ r.toInt), f.q, f.d⟩ else none))

/-- SUB: C is the borrow (R304, R309). -/
def subDoes : Prop := ∀ (o : OpR) (sf : Bool) (s : State),
  let a := s.sv.gr o.rs1.toNat
  let b := s.sv.gr o.rs2.toNat
  let f := s.sv.flags
  let r : Word := a - b
  s.svReady o.cond →
  ¬ (sf = true ∧ s.sv.trapov = true ∧ decide (a.toInt - b.toInt ≠ r.toInt) = true) →
  exec (.sub o sf) s = .next (s.svPut o.rd r (if sf then some ⟨r == 0#32, r.msb, decide (a.toNat < b.toNat), decide (a.toInt -
    b.toInt ≠ r.toInt), f.q, f.d⟩ else none))

/-- SBC: with the borrow (R304, R309). -/
def sbcDoes : Prop := ∀ (o : OpR) (sf : Bool) (s : State),
  let a := s.sv.gr o.rs1.toNat
  let b := s.sv.gr o.rs2.toNat
  let f := s.sv.flags
  let r : Word := a - b - (if f.c then 1#32 else 0#32)
  s.svReady o.cond →
  ¬ (sf = true ∧ s.sv.trapov = true ∧ decide (a.toInt - b.toInt - (if f.c then 1 else 0) ≠ r.toInt) = true) →
  exec (.sbc o sf) s = .next (s.svPut o.rd r (if sf then some ⟨r == 0#32, r.msb, decide (a.toNat < b.toNat + (if f.c then 1
    else 0)), decide (a.toInt - b.toInt - (if f.c then 1 else 0) ≠ r.toInt), f.q, f.d⟩ else none))

/-- AND (R309). -/
def andDoes : Prop := ∀ (o : OpR) (sf : Bool) (s : State),
  let a := s.sv.gr o.rs1.toNat
  let b := s.sv.gr o.rs2.toNat
  let f := s.sv.flags
  let r : Word := a &&& b
  s.svReady o.cond →
  exec (.and o sf) s = .next (s.svPut o.rd r (if sf then some ⟨r == 0#32, r.msb, f.c, f.v, f.q, f.d⟩ else none))

/-- OR (R309). -/
def orDoes : Prop := ∀ (o : OpR) (sf : Bool) (s : State),
  let a := s.sv.gr o.rs1.toNat
  let b := s.sv.gr o.rs2.toNat
  let f := s.sv.flags
  let r : Word := a ||| b
  s.svReady o.cond →
  exec (.or o sf) s = .next (s.svPut o.rd r (if sf then some ⟨r == 0#32, r.msb, f.c, f.v, f.q, f.d⟩ else none))

/-- XOR (R309). -/
def xorDoes : Prop := ∀ (o : OpR) (sf : Bool) (s : State),
  let a := s.sv.gr o.rs1.toNat
  let b := s.sv.gr o.rs2.toNat
  let f := s.sv.flags
  let r : Word := a ^^^ b
  s.svReady o.cond →
  exec (.xor o sf) s = .next (s.svPut o.rd r (if sf then some ⟨r == 0#32, r.msb, f.c, f.v, f.q, f.d⟩ else none))

/-- BIC (R309). -/
def bicDoes : Prop := ∀ (o : OpR) (sf : Bool) (s : State),
  let a := s.sv.gr o.rs1.toNat
  let b := s.sv.gr o.rs2.toNat
  let f := s.sv.flags
  let r : Word := a &&& ~~~b
  s.svReady o.cond →
  exec (.bic o sf) s = .next (s.svPut o.rd r (if sf then some ⟨r == 0#32, r.msb, f.c, f.v, f.q, f.d⟩ else none))

/-! ### Shifts and rotates by k = 0 to 255 -/

/-- SHL, by rs2[7:0] (R310). -/
def shlDoes : Prop := ∀ (o : OpR) (sf : Bool) (s : State),
  let a := s.sv.gr o.rs1.toNat
  let b := s.sv.gr o.rs2.toNat
  let f := s.sv.flags
  let k := b.toNat % 256
  let r : Word := a <<< k
  s.svReady o.cond →
  exec (.shl o sf) s = .next (s.svPut o.rd r (if sf then some ⟨r == 0#32, r.msb, (if k = 0 then f.c else decide (k ≤ 32) &&
    a.getLsbD (32 - k)), f.v, f.q, f.d⟩ else none))

/-- SHR (R310). -/
def shrDoes : Prop := ∀ (o : OpR) (sf : Bool) (s : State),
  let a := s.sv.gr o.rs1.toNat
  let b := s.sv.gr o.rs2.toNat
  let f := s.sv.flags
  let k := b.toNat % 256
  let r : Word := a >>> k
  s.svReady o.cond →
  exec (.shr o sf) s = .next (s.svPut o.rd r (if sf then some ⟨r == 0#32, r.msb, (if k = 0 then f.c else decide (k ≤ 32) &&
    a.getLsbD (k - 1)), f.v, f.q, f.d⟩ else none))

/-- SAR (R310). -/
def sarDoes : Prop := ∀ (o : OpR) (sf : Bool) (s : State),
  let a := s.sv.gr o.rs1.toNat
  let b := s.sv.gr o.rs2.toNat
  let f := s.sv.flags
  let k := b.toNat % 256
  let r : Word := a.sshiftRight k
  s.svReady o.cond →
  exec (.sar o sf) s = .next (s.svPut o.rd r (if sf then some ⟨r == 0#32, r.msb, (if k = 0 then f.c else if k < 32 then
    a.getLsbD (k - 1) else a.msb), f.v, f.q, f.d⟩ else none))

/-- ROR (R310). -/
def rorDoes : Prop := ∀ (o : OpR) (sf : Bool) (s : State),
  let a := s.sv.gr o.rs1.toNat
  let b := s.sv.gr o.rs2.toNat
  let f := s.sv.flags
  let k := b.toNat % 256
  let r : Word := a.rotateRight (k % 32)
  s.svReady o.cond →
  exec (.ror o sf) s = .next (s.svPut o.rd r (if sf then some ⟨r == 0#32, r.msb, (if k = 0 then f.c else r.msb), f.v, f.q, f.d⟩
    else none))

/-- SHLI, by the rs2 field (R310). -/
def shliDoes : Prop := ∀ (o : OpR) (sf : Bool) (s : State),
  let a := s.sv.gr o.rs1.toNat
  let f := s.sv.flags
  let k := o.rs2.toNat
  let r : Word := a <<< k
  s.svReady o.cond →
  exec (.shli o sf) s = .next (s.svPut o.rd r (if sf then some ⟨r == 0#32, r.msb, (if k = 0 then f.c else decide (k ≤ 32) &&
    a.getLsbD (32 - k)), f.v, f.q, f.d⟩ else none))

/-- SHRI (R310). -/
def shriDoes : Prop := ∀ (o : OpR) (sf : Bool) (s : State),
  let a := s.sv.gr o.rs1.toNat
  let f := s.sv.flags
  let k := o.rs2.toNat
  let r : Word := a >>> k
  s.svReady o.cond →
  exec (.shri o sf) s = .next (s.svPut o.rd r (if sf then some ⟨r == 0#32, r.msb, (if k = 0 then f.c else decide (k ≤ 32) &&
    a.getLsbD (k - 1)), f.v, f.q, f.d⟩ else none))

/-- SARI (R310). -/
def sariDoes : Prop := ∀ (o : OpR) (sf : Bool) (s : State),
  let a := s.sv.gr o.rs1.toNat
  let f := s.sv.flags
  let k := o.rs2.toNat
  let r : Word := a.sshiftRight k
  s.svReady o.cond →
  exec (.sari o sf) s = .next (s.svPut o.rd r (if sf then some ⟨r == 0#32, r.msb, (if k = 0 then f.c else if k < 32 then
    a.getLsbD (k - 1) else a.msb), f.v, f.q, f.d⟩ else none))

/-- RORI (R310). -/
def roriDoes : Prop := ∀ (o : OpR) (sf : Bool) (s : State),
  let a := s.sv.gr o.rs1.toNat
  let f := s.sv.flags
  let k := o.rs2.toNat
  let r : Word := a.rotateRight (k % 32)
  s.svReady o.cond →
  exec (.rori o sf) s = .next (s.svPut o.rd r (if sf then some ⟨r == 0#32, r.msb, (if k = 0 then f.c else r.msb), f.v, f.q,
    f.d⟩ else none))

/-! ### Multiply, divide, minimum, maximum, count, reverse and extend -/

/-- MUL: the low 32 bits of the product (R309). -/
def mulDoes : Prop := ∀ (o : OpR) (sf : Bool) (s : State),
  let a := s.sv.gr o.rs1.toNat
  let b := s.sv.gr o.rs2.toNat
  let f := s.sv.flags
  let r : Word := a * b
  s.svReady o.cond →
  exec (.mul o sf) s = .next (s.svPut o.rd r (if sf then some ⟨r == 0#32, r.msb, f.c, f.v, f.q, f.d⟩ else none))

/-- MULH: the high 32 bits of the signed product (R309). -/
def mulhDoes : Prop := ∀ (o : OpR) (sf : Bool) (s : State),
  let a := s.sv.gr o.rs1.toNat
  let b := s.sv.gr o.rs2.toNat
  let f := s.sv.flags
  let r : Word := asWord (a.toInt * b.toInt / 2 ^ 32)
  s.svReady o.cond →
  exec (.mulh o sf) s = .next (s.svPut o.rd r (if sf then some ⟨r == 0#32, r.msb, f.c, f.v, f.q, f.d⟩ else none))

/-- MULHU: the high 32 bits of the unsigned product (R309). -/
def mulhuDoes : Prop := ∀ (o : OpR) (sf : Bool) (s : State),
  let a := s.sv.gr o.rs1.toNat
  let b := s.sv.gr o.rs2.toNat
  let f := s.sv.flags
  let r : Word := BitVec.ofNat 32 (a.toNat * b.toNat / 2 ^ 32)
  s.svReady o.cond →
  exec (.mulhu o sf) s = .next (s.svPut o.rd r (if sf then some ⟨r == 0#32, r.msb, f.c, f.v, f.q, f.d⟩ else none))

/-- DIV: the signed quotient, rounded toward zero; V for 0x8000_0000 by 0xFFFF_FFFF alone (R309, R311). -/
def divDoes : Prop := ∀ (o : OpR) (sf : Bool) (s : State),
  let a := s.sv.gr o.rs1.toNat
  let b := s.sv.gr o.rs2.toNat
  let f := s.sv.flags
  let r : Word := a.sdiv b
  s.svReady o.cond →
  b ≠ 0 →
  ¬ (sf = true ∧ s.sv.trapov = true ∧ (a == 0x80000000#32 && b == 0xFFFFFFFF#32) = true) →
  exec (.div o sf) s = .next (s.svPut o.rd r (if sf then some ⟨r == 0#32, r.msb, f.c, (a == 0x80000000#32 && b ==
    0xFFFFFFFF#32), f.q, f.d⟩ else none))

/-- DIVU (R309). -/
def divuDoes : Prop := ∀ (o : OpR) (sf : Bool) (s : State),
  let a := s.sv.gr o.rs1.toNat
  let b := s.sv.gr o.rs2.toNat
  let f := s.sv.flags
  let r : Word := a / b
  s.svReady o.cond →
  b ≠ 0 →
  exec (.divu o sf) s = .next (s.svPut o.rd r (if sf then some ⟨r == 0#32, r.msb, f.c, f.v, f.q, f.d⟩ else none))

/-- REM: the signed remainder, with the sign of rs1 (R309). -/
def remDoes : Prop := ∀ (o : OpR) (sf : Bool) (s : State),
  let a := s.sv.gr o.rs1.toNat
  let b := s.sv.gr o.rs2.toNat
  let f := s.sv.flags
  let r : Word := a.srem b
  s.svReady o.cond →
  b ≠ 0 →
  exec (.rem o sf) s = .next (s.svPut o.rd r (if sf then some ⟨r == 0#32, r.msb, f.c, f.v, f.q, f.d⟩ else none))

/-- REMU (R309). -/
def remuDoes : Prop := ∀ (o : OpR) (sf : Bool) (s : State),
  let a := s.sv.gr o.rs1.toNat
  let b := s.sv.gr o.rs2.toNat
  let f := s.sv.flags
  let r : Word := a % b
  s.svReady o.cond →
  b ≠ 0 →
  exec (.remu o sf) s = .next (s.svPut o.rd r (if sf then some ⟨r == 0#32, r.msb, f.c, f.v, f.q, f.d⟩ else none))

/-- MIN, signed (R309). -/
def minDoes : Prop := ∀ (o : OpR) (sf : Bool) (s : State),
  let a := s.sv.gr o.rs1.toNat
  let b := s.sv.gr o.rs2.toNat
  let f := s.sv.flags
  let r : Word := if a.toInt ≤ b.toInt then a else b
  s.svReady o.cond →
  exec (.min o sf) s = .next (s.svPut o.rd r (if sf then some ⟨r == 0#32, r.msb, f.c, f.v, f.q, f.d⟩ else none))

/-- MAX, signed (R309). -/
def maxDoes : Prop := ∀ (o : OpR) (sf : Bool) (s : State),
  let a := s.sv.gr o.rs1.toNat
  let b := s.sv.gr o.rs2.toNat
  let f := s.sv.flags
  let r : Word := if a.toInt ≤ b.toInt then b else a
  s.svReady o.cond →
  exec (.max o sf) s = .next (s.svPut o.rd r (if sf then some ⟨r == 0#32, r.msb, f.c, f.v, f.q, f.d⟩ else none))

/-- MINU (R309). -/
def minuDoes : Prop := ∀ (o : OpR) (sf : Bool) (s : State),
  let a := s.sv.gr o.rs1.toNat
  let b := s.sv.gr o.rs2.toNat
  let f := s.sv.flags
  let r : Word := if a.toNat ≤ b.toNat then a else b
  s.svReady o.cond →
  exec (.minu o sf) s = .next (s.svPut o.rd r (if sf then some ⟨r == 0#32, r.msb, f.c, f.v, f.q, f.d⟩ else none))

/-- MAXU (R309). -/
def maxuDoes : Prop := ∀ (o : OpR) (sf : Bool) (s : State),
  let a := s.sv.gr o.rs1.toNat
  let b := s.sv.gr o.rs2.toNat
  let f := s.sv.flags
  let r : Word := if a.toNat ≤ b.toNat then b else a
  s.svReady o.cond →
  exec (.maxu o sf) s = .next (s.svPut o.rd r (if sf then some ⟨r == 0#32, r.msb, f.c, f.v, f.q, f.d⟩ else none))

/-- REV: the bytes reversed (R309). -/
def revDoes : Prop := ∀ (o : OpR) (sf : Bool) (s : State),
  let a := s.sv.gr o.rs1.toNat
  let f := s.sv.flags
  let r : Word := (a.extractLsb' 0 8 ++ a.extractLsb' 8 8 ++ a.extractLsb' 16 8 ++ a.extractLsb' 24 8 : BitVec 32)
  s.svReady o.cond →
  o.rs2 = 0 →
  exec (.rev o sf) s = .next (s.svPut o.rd r (if sf then some ⟨r == 0#32, r.msb, f.c, f.v, f.q, f.d⟩ else none))

/-- SXTB (R309). -/
def sxtbDoes : Prop := ∀ (o : OpR) (sf : Bool) (s : State),
  let a := s.sv.gr o.rs1.toNat
  let f := s.sv.flags
  let r : Word := (a.setWidth 8).signExtend 32
  s.svReady o.cond →
  o.rs2 = 0 →
  exec (.sxtb o sf) s = .next (s.svPut o.rd r (if sf then some ⟨r == 0#32, r.msb, f.c, f.v, f.q, f.d⟩ else none))

/-- SXTH (R309). -/
def sxthDoes : Prop := ∀ (o : OpR) (sf : Bool) (s : State),
  let a := s.sv.gr o.rs1.toNat
  let f := s.sv.flags
  let r : Word := (a.setWidth 16).signExtend 32
  s.svReady o.cond →
  o.rs2 = 0 →
  exec (.sxth o sf) s = .next (s.svPut o.rd r (if sf then some ⟨r == 0#32, r.msb, f.c, f.v, f.q, f.d⟩ else none))

/-- ZXTB (R309). -/
def zxtbDoes : Prop := ∀ (o : OpR) (sf : Bool) (s : State),
  let a := s.sv.gr o.rs1.toNat
  let f := s.sv.flags
  let r : Word := (a.setWidth 8).setWidth 32
  s.svReady o.cond →
  o.rs2 = 0 →
  exec (.zxtb o sf) s = .next (s.svPut o.rd r (if sf then some ⟨r == 0#32, r.msb, f.c, f.v, f.q, f.d⟩ else none))

/-- ZXTH (R309). -/
def zxthDoes : Prop := ∀ (o : OpR) (sf : Bool) (s : State),
  let a := s.sv.gr o.rs1.toNat
  let f := s.sv.flags
  let r : Word := (a.setWidth 16).setWidth 32
  s.svReady o.cond →
  o.rs2 = 0 →
  exec (.zxth o sf) s = .next (s.svPut o.rd r (if sf then some ⟨r == 0#32, r.msb, f.c, f.v, f.q, f.d⟩ else none))

/-- CLZ: k leading zeros, 0 to 32 (R309). -/
def clzDoes : Prop := ∀ (o : OpR) (sf : Bool) (k : Nat) (s : State),
  let a := s.sv.gr o.rs1.toNat
  let f := s.sv.flags
  let r : Word := BitVec.ofNat 32 k
  s.svReady o.cond →
  o.rs2 = 0 →
  k ≤ 32 →
  (List.range k).all (fun i => !a.getLsbD (31 - i)) = true →
  (decide (k = 32) || a.getLsbD (31 - k)) = true →
  exec (.clz o sf) s = .next (s.svPut o.rd r (if sf then some ⟨r == 0#32, r.msb, f.c, f.v, f.q, f.d⟩ else none))

/-! ### Compares, tests and immediate forms -/

/-- CMP writes the flags of a − b and no register (R309). -/
def cmpDoes : Prop := ∀ (o : OpR) (s : State),
  let a := s.sv.gr o.rs1.toNat
  let b := s.sv.gr o.rs2.toNat
  let f := s.sv.flags
  let r : Word := a - b
  s.svReady o.cond →
  o.rd = 0 →
  exec (.cmp o true) s = .next (s.svSet (s.svBegin.sv.setFlags ⟨r == 0#32, r.msb, decide (a.toNat < b.toNat), decide (a.toInt -
    b.toInt ≠ r.toInt), f.q, f.d⟩))

/-- TST writes Z and N of a AND b and no register (R309). -/
def tstDoes : Prop := ∀ (o : OpR) (s : State),
  let a := s.sv.gr o.rs1.toNat
  let b := s.sv.gr o.rs2.toNat
  let f := s.sv.flags
  let r : Word := a &&& b
  s.svReady o.cond →
  o.rd = 0 →
  exec (.tst o true) s = .next (s.svSet (s.svBegin.sv.setFlags ⟨r == 0#32, r.msb, f.c, f.v, f.q, f.d⟩))

/-- CMPI: the flags of rs1 minus the sign-extended immediate (R305). -/
def cmpiDoes : Prop := ∀ (o : OpI) (s : State),
  let a := s.sv.gr o.rs1.toNat
  let x : Word := o.imm.signExtend 32
  let f := s.sv.flags
  let r : Word := a - x
  s.svReady o.cond →
  o.rd = 0 →
  exec (.cmpi o) s = .next (s.svSet (s.svBegin.sv.setFlags ⟨r == 0#32, r.msb, decide (a.toNat < x.toNat), decide (a.toInt -
    x.toInt ≠ r.toInt), f.q, f.d⟩))

/-- TSTI: Z and N of rs1 AND the zero-extended immediate (R305). -/
def tstiDoes : Prop := ∀ (o : OpI) (s : State),
  let a := s.sv.gr o.rs1.toNat
  let x : Word := o.imm.setWidth 32
  let f := s.sv.flags
  let r : Word := a &&& x
  s.svReady o.cond →
  o.rd = 0 →
  exec (.tsti o) s = .next (s.svSet (s.svBegin.sv.setFlags ⟨r == 0#32, r.msb, f.c, f.v, f.q, f.d⟩))

/-- ADDI: rs1 plus the sign-extended immediate (R305). -/
def addiDoes : Prop := ∀ (o : OpI) (s : State),
  let a := s.sv.gr o.rs1.toNat
  let x : Word := o.imm.signExtend 32
  let r : Word := a + x
  s.svReady o.cond →
  exec (.addi o) s = .next (s.svPut o.rd r none)

/-- ADDIS: as ADDI, setting Z, N, C, V (R305). -/
def addisDoes : Prop := ∀ (o : OpI) (s : State),
  let a := s.sv.gr o.rs1.toNat
  let x : Word := o.imm.signExtend 32
  let f := s.sv.flags
  let r : Word := a + x
  s.svReady o.cond →
  ¬ (s.sv.trapov = true ∧ decide (a.toInt + x.toInt ≠ r.toInt) = true) →
  exec (.addis o) s = .next (s.svPut o.rd r (some ⟨r == 0#32, r.msb, decide (2 ^ 32 ≤ a.toNat + x.toNat), decide (a.toInt +
    x.toInt ≠ r.toInt), f.q, f.d⟩))

/-- ANDI with the zero-extended immediate (R305). -/
def andiDoes : Prop := ∀ (o : OpI) (s : State),
  let a := s.sv.gr o.rs1.toNat
  let x : Word := o.imm.setWidth 32
  let r : Word := a &&& x
  s.svReady o.cond →
  exec (.andi o) s = .next (s.svPut o.rd r none)

/-- ORI (R305). -/
def oriDoes : Prop := ∀ (o : OpI) (s : State),
  let a := s.sv.gr o.rs1.toNat
  let x : Word := o.imm.setWidth 32
  let r : Word := a ||| x
  s.svReady o.cond →
  exec (.ori o) s = .next (s.svPut o.rd r none)

/-- XORI (R305). -/
def xoriDoes : Prop := ∀ (o : OpI) (s : State),
  let a := s.sv.gr o.rs1.toNat
  let x : Word := o.imm.setWidth 32
  let r : Word := a ^^^ x
  s.svReady o.cond →
  exec (.xori o) s = .next (s.svPut o.rd r none)

/-- MOVL: the zero-extended immediate (R305). -/
def movlDoes : Prop := ∀ (o : OpU) (s : State),
  s.svReady o.cond →
  o.b16 = false →
  exec (.movl o) s = .next (s.svPut o.rd (o.imm.setWidth 32) none)

/-- MOVH: the immediate in the high half, the low half kept (R305). -/
def movhDoes : Prop := ∀ (o : OpU) (s : State),
  s.svReady o.cond →
  o.b16 = false →
  exec (.movh o) s = .next (s.svPut o.rd (o.imm ++ (s.sv.gr o.rd.toNat).setWidth 16 : BitVec 32) none)

/-! ### Fixed-point operations -/

/-- QADD (R313). -/
def qaddDoes : Prop := ∀ (o : OpR) (rsel : BitVec 3) (s : State),
  let a := s.sv.gr o.rs1.toNat
  let b := s.sv.gr o.rs2.toNat
  let f := s.sv.flags
  let x : Int := a.toInt + b.toInt
  let r : Word := asWord (sat 32 x)
  s.svReady o.cond →
  rsel = 0 →
  exec (.qadd o rsel) s = .next (s.svPut o.rd r (some ⟨r == 0#32, r.msb, f.c, f.v, f.q || decide (sat 32 x ≠ x), f.d⟩))

/-- QSUB (R313). -/
def qsubDoes : Prop := ∀ (o : OpR) (rsel : BitVec 3) (s : State),
  let a := s.sv.gr o.rs1.toNat
  let b := s.sv.gr o.rs2.toNat
  let f := s.sv.flags
  let x : Int := a.toInt - b.toInt
  let r : Word := asWord (sat 32 x)
  s.svReady o.cond →
  rsel = 0 →
  exec (.qsub o rsel) s = .next (s.svPut o.rd r (some ⟨r == 0#32, r.msb, f.c, f.v, f.q || decide (sat 32 x ≠ x), f.d⟩))

/-- QNEG (R313). -/
def qnegDoes : Prop := ∀ (o : OpR) (rsel : BitVec 3) (s : State),
  let a := s.sv.gr o.rs1.toNat
  let f := s.sv.flags
  let x : Int := -a.toInt
  let r : Word := asWord (sat 32 x)
  s.svReady o.cond →
  rsel = 0 →
  o.rs2 = 0 →
  exec (.qneg o rsel) s = .next (s.svPut o.rd r (some ⟨r == 0#32, r.msb, f.c, f.v, f.q || decide (sat 32 x ≠ x), f.d⟩))

/-- QABS (R313). -/
def qabsDoes : Prop := ∀ (o : OpR) (rsel : BitVec 3) (s : State),
  let a := s.sv.gr o.rs1.toNat
  let f := s.sv.flags
  let x : Int := a.toInt.natAbs
  let r : Word := asWord (sat 32 x)
  s.svReady o.cond →
  rsel = 0 →
  o.rs2 = 0 →
  exec (.qabs o rsel) s = .next (s.svPut o.rd r (some ⟨r == 0#32, r.msb, f.c, f.v, f.q || decide (sat 32 x ≠ x), f.d⟩))

/-- QMUL: the product over 2^31, rounded (R313, R314). -/
def qmulDoes : Prop := ∀ (o : OpR) (rsel : BitVec 3) (s : State),
  let a := s.sv.gr o.rs1.toNat
  let b := s.sv.gr o.rs2.toNat
  let f := s.sv.flags
  let md := rselMode rsel.toNat s.sv.rm
  let x : Int := roundShift md (a.toInt * b.toInt) 31
  let r : Word := asWord (sat 32 x)
  s.svReady o.cond →
  rsel.toNat ≤ 4 →
  exec (.qmul o rsel) s = .next (s.svPut o.rd r (some ⟨r == 0#32, r.msb, f.c, f.v, f.q || decide (sat 32 x ≠ x), f.d⟩))

/-- QADD2: each half (R313). -/
def qadd2Does : Prop := ∀ (o : OpR) (rsel : BitVec 3) (s : State),
  let a := s.sv.gr o.rs1.toNat
  let b := s.sv.gr o.rs2.toNat
  let f := s.sv.flags
  let h : Int := hiHalf a + hiHalf b
  let l : Int := loHalf a + loHalf b
  let r : Word := pack (sat 16 h) (sat 16 l)
  s.svReady o.cond →
  rsel = 0 →
  exec (.qadd2 o rsel) s = .next (s.svPut o.rd r (some ⟨r == 0#32, r.msb, f.c, f.v, f.q || (decide (sat 16 h ≠ h) || decide
    (sat 16 l ≠ l)), f.d⟩))

/-- QSUB2: each half (R313). -/
def qsub2Does : Prop := ∀ (o : OpR) (rsel : BitVec 3) (s : State),
  let a := s.sv.gr o.rs1.toNat
  let b := s.sv.gr o.rs2.toNat
  let f := s.sv.flags
  let h : Int := hiHalf a - hiHalf b
  let l : Int := loHalf a - loHalf b
  let r : Word := pack (sat 16 h) (sat 16 l)
  s.svReady o.cond →
  rsel = 0 →
  exec (.qsub2 o rsel) s = .next (s.svPut o.rd r (some ⟨r == 0#32, r.msb, f.c, f.v, f.q || (decide (sat 16 h ≠ h) || decide
    (sat 16 l ≠ l)), f.d⟩))

/-- QMUL2: each half over 2^15, rounded (R313, R314). -/
def qmul2Does : Prop := ∀ (o : OpR) (rsel : BitVec 3) (s : State),
  let a := s.sv.gr o.rs1.toNat
  let b := s.sv.gr o.rs2.toNat
  let f := s.sv.flags
  let md := rselMode rsel.toNat s.sv.rm
  let h : Int := roundShift md (hiHalf a * hiHalf b) 15
  let l : Int := roundShift md (loHalf a * loHalf b) 15
  let r : Word := pack (sat 16 h) (sat 16 l)
  s.svReady o.cond →
  rsel.toNat ≤ 4 →
  exec (.qmul2 o rsel) s = .next (s.svPut o.rd r (some ⟨r == 0#32, r.msb, f.c, f.v, f.q || (decide (sat 16 h ≠ h) || decide
    (sat 16 l ≠ l)), f.d⟩))

/-- QSHL by rs2[4:0] (R313). -/
def qshlDoes : Prop := ∀ (o : OpR) (rsel : BitVec 3) (s : State),
  let a := s.sv.gr o.rs1.toNat
  let b := s.sv.gr o.rs2.toNat
  let f := s.sv.flags
  let x : Int := a.toInt * 2 ^ (b.toNat % 32)
  let r : Word := asWord (sat 32 x)
  s.svReady o.cond →
  rsel = 0 →
  exec (.qshl o rsel) s = .next (s.svPut o.rd r (some ⟨r == 0#32, r.msb, f.c, f.v, f.q || decide (sat 32 x ≠ x), f.d⟩))

/-- QSHR by rs2[4:0], rounded; it never saturates (R313, R314). -/
def qshrDoes : Prop := ∀ (o : OpR) (rsel : BitVec 3) (s : State),
  let a := s.sv.gr o.rs1.toNat
  let b := s.sv.gr o.rs2.toNat
  let f := s.sv.flags
  let md := rselMode rsel.toNat s.sv.rm
  let r : Word := asWord (roundShift md a.toInt (b.toNat % 32))
  s.svReady o.cond →
  rsel.toNat ≤ 4 →
  exec (.qshr o rsel) s = .next (s.svPut o.rd r (some ⟨r == 0#32, r.msb, f.c, f.v, f.q || false, f.d⟩))

/-- QPACK: both words over 2^16, rounded (R313, R314). -/
def qpackDoes : Prop := ∀ (o : OpR) (rsel : BitVec 3) (s : State),
  let a := s.sv.gr o.rs1.toNat
  let b := s.sv.gr o.rs2.toNat
  let f := s.sv.flags
  let md := rselMode rsel.toNat s.sv.rm
  let h : Int := roundShift md a.toInt 16
  let l : Int := roundShift md b.toInt 16
  let r : Word := pack (sat 16 h) (sat 16 l)
  s.svReady o.cond →
  rsel.toNat ≤ 4 →
  exec (.qpack o rsel) s = .next (s.svPut o.rd r (some ⟨r == 0#32, r.msb, f.c, f.v, f.q || (decide (sat 16 h ≠ h) || decide
    (sat 16 l ≠ l)), f.d⟩))

/-! ### Multiply-accumulate, CLRA and MTA -/

/-- MAC: a = sat(a + P) (R316). -/
def macDoes : Prop := ∀ (o : OpR) (rsel : BitVec 3) (s : State),
  let k := o.rd.toNat
  let x : Int := (s.sv.acc k).toInt
  let a := s.sv.gr o.rs1.toNat
  let b := s.sv.gr o.rs2.toNat
  let f := s.sv.flags
  let y : Int := x + a.toInt * b.toInt
  let v : BitVec 72 := BitVec.ofInt 72 (sat 72 y)
  s.svReady o.cond →
  rsel = 0 →
  o.rd.toNat < 2 →
  exec (.mac o rsel) s = .next (s.svSet ((s.svBegin.sv.setFlags ⟨f.z, f.n, f.c, f.v, f.q || decide (sat 72 y ≠ y), f.d⟩).setAcc
    k v))

/-- MSU: a = sat(a − P) (R316). -/
def msuDoes : Prop := ∀ (o : OpR) (rsel : BitVec 3) (s : State),
  let k := o.rd.toNat
  let x : Int := (s.sv.acc k).toInt
  let a := s.sv.gr o.rs1.toNat
  let b := s.sv.gr o.rs2.toNat
  let f := s.sv.flags
  let y : Int := x - a.toInt * b.toInt
  let v : BitVec 72 := BitVec.ofInt 72 (sat 72 y)
  s.svReady o.cond →
  rsel = 0 →
  o.rd.toNat < 2 →
  exec (.msu o rsel) s = .next (s.svSet ((s.svBegin.sv.setFlags ⟨f.z, f.n, f.c, f.v, f.q || decide (sat 72 y ≠ y), f.d⟩).setAcc
    k v))

/-- MULA: a = P (R316). -/
def mulaDoes : Prop := ∀ (o : OpR) (rsel : BitVec 3) (s : State),
  let k := o.rd.toNat
  let a := s.sv.gr o.rs1.toNat
  let b := s.sv.gr o.rs2.toNat
  let f := s.sv.flags
  let y : Int := a.toInt * b.toInt
  let v : BitVec 72 := BitVec.ofInt 72 y
  s.svReady o.cond →
  rsel = 0 →
  o.rd.toNat < 2 →
  exec (.mula o rsel) s = .next (s.svSet ((s.svBegin.sv.setFlags f).setAcc k v))

/-- MAC2: a = sat(a + P2) (R316). -/
def mac2Does : Prop := ∀ (o : OpR) (rsel : BitVec 3) (s : State),
  let k := o.rd.toNat
  let x : Int := (s.sv.acc k).toInt
  let a := s.sv.gr o.rs1.toNat
  let b := s.sv.gr o.rs2.toNat
  let f := s.sv.flags
  let y : Int := x + (hiHalf a * hiHalf b + loHalf a * loHalf b) * 2 ^ 32
  let v : BitVec 72 := BitVec.ofInt 72 (sat 72 y)
  s.svReady o.cond →
  rsel = 0 →
  o.rd.toNat < 2 →
  exec (.mac2 o rsel) s = .next (s.svSet ((s.svBegin.sv.setFlags ⟨f.z, f.n, f.c, f.v, f.q || decide (sat 72 y ≠ y),
    f.d⟩).setAcc k v))

/-- MSU2: a = sat(a − P2) (R316). -/
def msu2Does : Prop := ∀ (o : OpR) (rsel : BitVec 3) (s : State),
  let k := o.rd.toNat
  let x : Int := (s.sv.acc k).toInt
  let a := s.sv.gr o.rs1.toNat
  let b := s.sv.gr o.rs2.toNat
  let f := s.sv.flags
  let y : Int := x - (hiHalf a * hiHalf b + loHalf a * loHalf b) * 2 ^ 32
  let v : BitVec 72 := BitVec.ofInt 72 (sat 72 y)
  s.svReady o.cond →
  rsel = 0 →
  o.rd.toNat < 2 →
  exec (.msu2 o rsel) s = .next (s.svSet ((s.svBegin.sv.setFlags ⟨f.z, f.n, f.c, f.v, f.q || decide (sat 72 y ≠ y),
    f.d⟩).setAcc k v))

/-- MULA2: a = P2 (R316). -/
def mula2Does : Prop := ∀ (o : OpR) (rsel : BitVec 3) (s : State),
  let k := o.rd.toNat
  let a := s.sv.gr o.rs1.toNat
  let b := s.sv.gr o.rs2.toNat
  let f := s.sv.flags
  let y : Int := (hiHalf a * hiHalf b + loHalf a * loHalf b) * 2 ^ 32
  let v : BitVec 72 := BitVec.ofInt 72 y
  s.svReady o.cond →
  rsel = 0 →
  o.rd.toNat < 2 →
  exec (.mula2 o rsel) s = .next (s.svSet ((s.svBegin.sv.setFlags f).setAcc k v))

/-- CLRA: a = 0 (R316). -/
def clraDoes : Prop := ∀ (o : OpR) (rsel : BitVec 3) (s : State),
  let k := o.rd.toNat
  let f := s.sv.flags
  let y : Int := 0
  let v : BitVec 72 := BitVec.ofInt 72 y
  s.svReady o.cond →
  rsel = 0 →
  o.rd.toNat < 2 →
  o.rs2 = 0 →
  o.rs1 = 0 →
  exec (.clra o rsel) s = .next (s.svSet ((s.svBegin.sv.setFlags f).setAcc k v))

/-- MTA: a = sext(rs1) × 2^31 (R316). -/
def mtaDoes : Prop := ∀ (o : OpR) (rsel : BitVec 3) (s : State),
  let k := o.rd.toNat
  let a := s.sv.gr o.rs1.toNat
  let f := s.sv.flags
  let y : Int := a.toInt * 2 ^ 31
  let v : BitVec 72 := BitVec.ofInt 72 y
  s.svReady o.cond →
  rsel = 0 →
  o.rd.toNat < 2 →
  o.rs2 = 0 →
  exec (.mta o rsel) s = .next (s.svSet ((s.svBegin.sv.setFlags f).setAcc k v))

/-! ### Accumulator parts written and read, with rounding and saturation, and frame -/

/-- WRAL: A[31:0] = rs1 (R316). -/
def wralDoes : Prop := ∀ (o : OpR) (rsel : BitVec 3) (s : State),
  let k := o.rd.toNat
  let a := s.sv.gr o.rs1.toNat
  let f := s.sv.flags
  let v : BitVec 72 := ((s.sv.acc k).extractLsb' 32 40 ++ a : BitVec 72)
  s.svReady o.cond →
  rsel = 0 →
  o.rd.toNat < 2 →
  o.rs2 = 0 →
  exec (.wral o rsel) s = .next (s.svSet ((s.svBegin.sv.setFlags f).setAcc k v))

/-- WRAH: A[63:32] = rs1 (R316). -/
def wrahDoes : Prop := ∀ (o : OpR) (rsel : BitVec 3) (s : State),
  let k := o.rd.toNat
  let a := s.sv.gr o.rs1.toNat
  let f := s.sv.flags
  let v : BitVec 72 := ((s.sv.acc k).extractLsb' 64 8 ++ a ++ (s.sv.acc k).extractLsb' 0 32 : BitVec 72)
  s.svReady o.cond →
  rsel = 0 →
  o.rd.toNat < 2 →
  o.rs2 = 0 →
  exec (.wrah o rsel) s = .next (s.svSet ((s.svBegin.sv.setFlags f).setAcc k v))

/-- WRAG: A[71:64] = rs1[7:0] (R316). -/
def wragDoes : Prop := ∀ (o : OpR) (rsel : BitVec 3) (s : State),
  let k := o.rd.toNat
  let a := s.sv.gr o.rs1.toNat
  let f := s.sv.flags
  let v : BitVec 72 := (a.setWidth 8 ++ (s.sv.acc k).extractLsb' 0 64 : BitVec 72)
  s.svReady o.cond →
  rsel = 0 →
  o.rd.toNat < 2 →
  o.rs2 = 0 →
  exec (.wrag o rsel) s = .next (s.svSet ((s.svBegin.sv.setFlags f).setAcc k v))

/-- RDA: rd = sat32(round(A / 2^31)) (R316). -/
def rdaDoes : Prop := ∀ (o : OpR) (rsel : BitVec 3) (s : State),
  let k := o.rs1.toNat
  let acc := s.sv.acc k
  let f := s.sv.flags
  let md := rselMode rsel.toNat s.sv.rm
  let x : Int := roundShift md acc.toInt 31
  let r : Word := asWord (sat 32 x)
  s.svReady o.cond →
  rsel.toNat ≤ 4 →
  o.rs1.toNat < 2 →
  o.rs2 = 0 →
  exec (.rda o rsel) s = .next (s.svSet ((s.svBegin.sv.setFlags ⟨r == 0#32, r.msb, f.c, f.v, f.q || decide (sat 32 x ≠ x),
    f.d⟩).setG o.rd.toNat r))

/-- RDA16: rd = sext16(sat16(round(A / 2^47))) (R316). -/
def rda16Does : Prop := ∀ (o : OpR) (rsel : BitVec 3) (s : State),
  let k := o.rs1.toNat
  let acc := s.sv.acc k
  let f := s.sv.flags
  let md := rselMode rsel.toNat s.sv.rm
  let x : Int := roundShift md acc.toInt 47
  let r : Word := asWord (sat 16 x)
  s.svReady o.cond →
  rsel.toNat ≤ 4 →
  o.rs1.toNat < 2 →
  o.rs2 = 0 →
  exec (.rda16 o rsel) s = .next (s.svSet ((s.svBegin.sv.setFlags ⟨r == 0#32, r.msb, f.c, f.v, f.q || decide (sat 16 x ≠ x),
    f.d⟩).setG o.rd.toNat r))

/-- RDAL: A[31:0] (R316). -/
def rdalDoes : Prop := ∀ (o : OpR) (rsel : BitVec 3) (s : State),
  let k := o.rs1.toNat
  let acc := s.sv.acc k
  let f := s.sv.flags
  let r : Word := acc.extractLsb' 0 32
  s.svReady o.cond →
  rsel = 0 →
  o.rs1.toNat < 2 →
  o.rs2 = 0 →
  exec (.rdal o rsel) s = .next (s.svSet ((s.svBegin.sv.setFlags f).setG o.rd.toNat r))

/-- RDAH: A[63:32] (R316). -/
def rdahDoes : Prop := ∀ (o : OpR) (rsel : BitVec 3) (s : State),
  let k := o.rs1.toNat
  let acc := s.sv.acc k
  let f := s.sv.flags
  let r : Word := acc.extractLsb' 32 32
  s.svReady o.cond →
  rsel = 0 →
  o.rs1.toNat < 2 →
  o.rs2 = 0 →
  exec (.rdah o rsel) s = .next (s.svSet ((s.svBegin.sv.setFlags f).setG o.rd.toNat r))

/-- RDAG: A[71:64], sign-extended (R316). -/
def rdagDoes : Prop := ∀ (o : OpR) (rsel : BitVec 3) (s : State),
  let k := o.rs1.toNat
  let acc := s.sv.acc k
  let f := s.sv.flags
  let r : Word := (acc.extractLsb' 64 8).signExtend 32
  s.svReady o.cond →
  rsel = 0 →
  o.rs1.toNat < 2 →
  o.rs2 = 0 →
  exec (.rdag o rsel) s = .next (s.svSet ((s.svBegin.sv.setFlags f).setG o.rd.toNat r))

/-! ### Decimal operations -/

/-- DADD: the sum mod 10^8 (R318). -/
def daddDoes : Prop := ∀ (o : OpR) (s : State),
  let a := s.sv.gr o.rs1.toNat
  let b := s.sv.gr o.rs2.toNat
  let f := s.sv.flags
  let x := bcdValue a
  let y := bcdValue b
  let r := bcdOf ((x + y) % 10 ^ 8)
  s.svReady o.cond →
  bcdValid a = true →
  bcdValid b = true →
  exec (.dadd o) s = .next (s.svPut o.rd r (some ⟨r == 0#32, f.n, f.c, f.v, f.q, decide (10 ^ 8 ≤ x + y)⟩))

/-- DADDC: with the decimal carry; Z cleared by a result other than 0, else unchanged (R318). -/
def daddcDoes : Prop := ∀ (o : OpR) (s : State),
  let a := s.sv.gr o.rs1.toNat
  let b := s.sv.gr o.rs2.toNat
  let f := s.sv.flags
  let x := bcdValue a
  let y := bcdValue b
  let d := if f.d then 1 else 0
  let r := bcdOf ((x + y + d) % 10 ^ 8)
  s.svReady o.cond →
  bcdValid a = true →
  bcdValid b = true →
  exec (.daddc o) s = .next (s.svPut o.rd r (some ⟨f.z && r == 0#32, f.n, f.c, f.v, f.q, decide (10 ^ 8 ≤ x + y + d)⟩))

/-- DSUB: the difference mod 10^8 (R318). -/
def dsubDoes : Prop := ∀ (o : OpR) (s : State),
  let a := s.sv.gr o.rs1.toNat
  let b := s.sv.gr o.rs2.toNat
  let f := s.sv.flags
  let x := bcdValue a
  let y := bcdValue b
  let r := bcdOf ((x + 10 ^ 8 - y) % 10 ^ 8)
  s.svReady o.cond →
  bcdValid a = true →
  bcdValid b = true →
  exec (.dsub o) s = .next (s.svPut o.rd r (some ⟨r == 0#32, f.n, f.c, f.v, f.q, decide (x < y)⟩))

/-- DSUBC (R318). -/
def dsubcDoes : Prop := ∀ (o : OpR) (s : State),
  let a := s.sv.gr o.rs1.toNat
  let b := s.sv.gr o.rs2.toNat
  let f := s.sv.flags
  let x := bcdValue a
  let y := bcdValue b
  let d := if f.d then 1 else 0
  let r := bcdOf ((x + 2 * 10 ^ 8 - y - d) % 10 ^ 8)
  s.svReady o.cond →
  bcdValid a = true →
  bcdValid b = true →
  exec (.dsubc o) s = .next (s.svPut o.rd r (some ⟨f.z && r == 0#32, f.n, f.c, f.v, f.q, decide (x < y + d)⟩))

/-- DCMP writes Z, N and D and no register (R318). -/
def dcmpDoes : Prop := ∀ (o : OpR) (s : State),
  let a := s.sv.gr o.rs1.toNat
  let b := s.sv.gr o.rs2.toNat
  let f := s.sv.flags
  let x := bcdValue a
  let y := bcdValue b
  s.svReady o.cond →
  bcdValid a = true →
  bcdValid b = true →
  o.rd = 0 →
  exec (.dcmp o) s = .next (s.svSet (s.svBegin.sv.setFlags ⟨decide (x = y), decide (x < y), f.c, f.v, f.q, decide (x < y)⟩))

/-- DADJ: the decimal adjust of R319. -/
def dadjDoes : Prop := ∀ (o : OpR) (s : State),
  let a := s.sv.gr o.rs1.toNat
  let b := s.sv.gr o.rs2.toNat
  let f := s.sv.flags
  let j := dadjRes a b f.c
  let r := j.1
  s.svReady o.cond →
  exec (.dadj o) s = .next (s.svPut o.rd r (some ⟨r == 0#32, f.n, f.c, f.v, f.q, j.2⟩))

/-- BCD2BIN: the binary value of rs1 (R318). -/
def bcd2binDoes : Prop := ∀ (o : OpR) (s : State),
  let a := s.sv.gr o.rs1.toNat
  let f := s.sv.flags
  let r : Word := BitVec.ofNat 32 (bcdValue a)
  s.svReady o.cond →
  bcdValid a = true →
  o.rs2 = 0 →
  exec (.bcd2bin o) s = .next (s.svPut o.rd r (some ⟨r == 0#32, f.n, f.c, f.v, f.q, f.d⟩))

/-- BIN2BCD: the BCD of rs1 mod 10^8 (R318). -/
def bin2bcdDoes : Prop := ∀ (o : OpR) (s : State),
  let a := s.sv.gr o.rs1.toNat
  let f := s.sv.flags
  let r := bcdOf (a.toNat % 10 ^ 8)
  s.svReady o.cond →
  o.rs2 = 0 →
  exec (.bin2bcd o) s = .next (s.svPut o.rd r (some ⟨r == 0#32, f.n, f.c, f.v, f.q, decide (10 ^ 8 ≤ a.toNat)⟩))

/-! ### Loads and stores under a capability -/

/-- LDW: the word at rs1 plus the sign-extended immediate, through ddc (R321, R322). -/
def ldwDoes : Prop := ∀ (o : OpI) (s : State),
  let auth := s.sv.cr 14
  let addr := (s.sv.gr o.rs1.toNat + o.imm.signExtend 32).toNat
  let x : Access := ⟨.headland, addr, 4, 0, true⟩
  let v := (s.svBegin.accRead x).2.1
  let u := (s.svBegin.accRead x).2.2
  s.svReady o.cond →
  auth.carries [1] addr 4 →
  s.svBegin.serves x →
  exec (.ldw o) s = .next (s.svNext (u.setSv { u.sv with load := some (.word o.rd.toNat (BitVec.ofNat 32 v)) }))

/-- LDH: sign-extended (R321). -/
def ldhDoes : Prop := ∀ (o : OpI) (s : State),
  let auth := s.sv.cr 14
  let addr := (s.sv.gr o.rs1.toNat + o.imm.signExtend 32).toNat
  let x : Access := ⟨.headland, addr, 2, 0, true⟩
  let v := (s.svBegin.accRead x).2.1
  let u := (s.svBegin.accRead x).2.2
  s.svReady o.cond →
  auth.carries [1] addr 2 →
  s.svBegin.serves x →
  exec (.ldh o) s = .next (s.svNext (u.setSv
    { u.sv with load := some (.word o.rd.toNat ((BitVec.ofNat 16 v).signExtend 32)) }))

/-- LDHU: zero-extended (R321). -/
def ldhuDoes : Prop := ∀ (o : OpI) (s : State),
  let auth := s.sv.cr 14
  let addr := (s.sv.gr o.rs1.toNat + o.imm.signExtend 32).toNat
  let x : Access := ⟨.headland, addr, 2, 0, true⟩
  let v := (s.svBegin.accRead x).2.1
  let u := (s.svBegin.accRead x).2.2
  s.svReady o.cond →
  auth.carries [1] addr 2 →
  s.svBegin.serves x →
  exec (.ldhu o) s = .next (s.svNext (u.setSv { u.sv with load := some (.word o.rd.toNat ((BitVec.ofNat 16 v).setWidth 32)) }))

/-- LDB: sign-extended (R321). -/
def ldbDoes : Prop := ∀ (o : OpI) (s : State),
  let auth := s.sv.cr 14
  let addr := (s.sv.gr o.rs1.toNat + o.imm.signExtend 32).toNat
  let x : Access := ⟨.headland, addr, 1, 0, true⟩
  let v := (s.svBegin.accRead x).2.1
  let u := (s.svBegin.accRead x).2.2
  s.svReady o.cond →
  auth.carries [1] addr 1 →
  s.svBegin.serves x →
  exec (.ldb o) s = .next (s.svNext (u.setSv { u.sv with load := some (.word o.rd.toNat ((BitVec.ofNat 8 v).signExtend 32)) }))

/-- LDBU: zero-extended (R321). -/
def ldbuDoes : Prop := ∀ (o : OpI) (s : State),
  let auth := s.sv.cr 14
  let addr := (s.sv.gr o.rs1.toNat + o.imm.signExtend 32).toNat
  let x : Access := ⟨.headland, addr, 1, 0, true⟩
  let v := (s.svBegin.accRead x).2.1
  let u := (s.svBegin.accRead x).2.2
  s.svReady o.cond →
  auth.carries [1] addr 1 →
  s.svBegin.serves x →
  exec (.ldbu o) s = .next (s.svNext (u.setSv { u.sv with load := some (.word o.rd.toNat ((BitVec.ofNat 8 v).setWidth 32)) }))

/-- CLDW: the word at the cursor of c[rs1] plus the immediate, through c[rs1] (R321). -/
def cldwDoes : Prop := ∀ (o : OpI) (s : State),
  let auth := s.sv.cr o.rs1.toNat
  let addr := (auth.bits.extractLsb' 0 32 + o.imm.signExtend 32).toNat
  let x : Access := ⟨.headland, addr, 4, 0, true⟩
  let v := (s.svBegin.accRead x).2.1
  let u := (s.svBegin.accRead x).2.2
  s.svReady o.cond →
  o.rs1.toNat < 16 →
  auth.carries [1] addr 4 →
  s.svBegin.serves x →
  exec (.cldw o) s = .next (s.svNext (u.setSv { u.sv with load := some (.word o.rd.toNat (BitVec.ofNat 32 v)) }))

/-- STW: rd stored at rs1 plus the immediate, through ddc (R321). -/
def stwDoes : Prop := ∀ (o : OpI) (s : State),
  let auth := s.sv.cr 14
  let addr := (s.sv.gr o.rs1.toNat + o.imm.signExtend 32).toNat
  let d := s.sv.gr o.rd.toNat
  let x : Access := ⟨.headland, addr, 4, d.toNat, true⟩
  s.svReady o.cond →
  auth.carries [2] addr 4 →
  s.svBegin.accepts x →
  exec (.stw o) s = .next (s.svNext (s.svBegin.accWrite x).2)

/-- STH: rd[15:0] (R321). -/
def sthDoes : Prop := ∀ (o : OpI) (s : State),
  let auth := s.sv.cr 14
  let addr := (s.sv.gr o.rs1.toNat + o.imm.signExtend 32).toNat
  let d := s.sv.gr o.rd.toNat
  let x : Access := ⟨.headland, addr, 2, (d.setWidth 16).toNat, true⟩
  s.svReady o.cond →
  auth.carries [2] addr 2 →
  s.svBegin.accepts x →
  exec (.sth o) s = .next (s.svNext (s.svBegin.accWrite x).2)

/-- STB: rd[7:0] (R321). -/
def stbDoes : Prop := ∀ (o : OpI) (s : State),
  let auth := s.sv.cr 14
  let addr := (s.sv.gr o.rs1.toNat + o.imm.signExtend 32).toNat
  let d := s.sv.gr o.rd.toNat
  let x : Access := ⟨.headland, addr, 1, (d.setWidth 8).toNat, true⟩
  s.svReady o.cond →
  auth.carries [2] addr 1 →
  s.svBegin.accepts x →
  exec (.stb o) s = .next (s.svNext (s.svBegin.accWrite x).2)

/-- CSTW: through c[rs1] (R321). -/
def cstwDoes : Prop := ∀ (o : OpI) (s : State),
  let auth := s.sv.cr o.rs1.toNat
  let addr := (auth.bits.extractLsb' 0 32 + o.imm.signExtend 32).toNat
  let d := s.sv.gr o.rd.toNat
  let x : Access := ⟨.headland, addr, 4, d.toNat, true⟩
  s.svReady o.cond →
  o.rs1.toNat < 16 →
  auth.carries [2] addr 4 →
  s.svBegin.accepts x →
  exec (.cstw o) s = .next (s.svNext (s.svBegin.accWrite x).2)

/-- CLDC: 16 bytes, and the tag only with LDC (R321, R370). -/
def cldcDoes : Prop := ∀ (o : OpI) (s : State),
  let auth := s.sv.cr o.rs1.toNat
  let addr := (auth.bits.extractLsb' 0 32 + o.imm.signExtend 32).toNat
  let v := (s.svBegin.capRead addr).2.1
  let u := (s.svBegin.capRead addr).2.2
  s.svReady o.cond →
  o.rs1.toNat < 16 →
  o.rd.toNat < 16 →
  auth.carries [1] addr 16 →
  s.svBegin.svOpen .load addr 16 →
  (s.svBegin.capRead addr).1 = .none →
  exec (.cldc o) s = .next (s.svNext (u.setSv { u.sv with load := some (.cap o.rd.toNat ⟨v.tag && capHas auth 3, v.bits⟩) }))

/-- CSTC: a tagged one needs STC, and STLOCAL where it is not GLOBAL (R321, R370). -/
def cstcDoes : Prop := ∀ (o : OpI) (s : State),
  let auth := s.sv.cr o.rs1.toNat
  let addr := (auth.bits.extractLsb' 0 32 + o.imm.signExtend 32).toNat
  let v := s.sv.cr o.rd.toNat
  let ps := if v.tag then (if capHas v 9 then [2, 4] else [2, 4, 10]) else [2]
  s.svReady o.cond →
  o.rs1.toNat < 16 →
  o.rd.toNat < 16 →
  auth.carries ps addr 16 →
  s.svBegin.svOpen .store addr 16 →
  (s.svBegin.capWrite addr v).1 = .none →
  exec (.cstc o) s = .next (s.svNext (s.svBegin.capWrite addr v).2)

/-! ### Capability operations -/

/-- CAPQ: BASE, LENGTH, PERMS, OTYPE, tag or CURSOR of c[rs1] (R367, R371). -/
def capqDoes : Prop := ∀ (o : OpR) (s : State),
  let x := s.sv.cr o.rs1.toNat
  let sel := o.rs2.toNat
  let f : Word := if sel = 0 then x.bits.extractLsb' 32 32 else if sel = 1 then x.bits.extractLsb' 64 32 else if sel = 2 then
    (x.bits.extractLsb' 96 16).setWidth 32 else if sel = 3 then (x.bits.extractLsb' 112 8).setWidth 32 else if sel = 4 then (if
    x.tag then 1 else 0) else x.bits.extractLsb' 0 32
  s.svReady o.cond →
  o.rs1.toNat < 16 →
  o.rs2.toNat < 6 →
  exec (.capq o) s = .next (s.svPut o.rd f none)

/-- CAPDIST: the difference of two cursors (R371). -/
def capdistDoes : Prop := ∀ (o : OpR) (s : State),
  let x := s.sv.cr o.rs1.toNat
  let y := s.sv.cr o.rs2.toNat
  s.svReady o.cond →
  o.rs1.toNat < 16 →
  o.rs2.toNat < 16 →
  exec (.capdist o) s = .next (s.svPut o.rd (x.bits.extractLsb' 0 32 - y.bits.extractLsb' 0 32) none)

/-- CAPPTR: CURSOR = rs2; an untagged source gives an untagged result (R371, R372). -/
def capptrDoes : Prop := ∀ (o : OpR) (s : State),
  let x := s.sv.cr o.rs1.toNat
  let v := s.sv.gr o.rs2.toNat
  s.svReady o.cond →
  o.rd.toNat < 16 →
  o.rs1.toNat < 16 →
  ¬ (x.tag = true ∧ capOtype x ≠ 0) →
  exec (.capptr o) s = .next (s.svSet (s.svBegin.sv.setC o.rd.toNat ⟨x.tag, (x.bits.extractLsb' 32 96 ++ v : BitVec 128)⟩))

/-- CAPADV: CURSOR plus rs2, modulo 2^32 (R371). -/
def capadvDoes : Prop := ∀ (o : OpR) (s : State),
  let x := s.sv.cr o.rs1.toNat
  let v := s.sv.gr o.rs2.toNat
  s.svReady o.cond →
  o.rd.toNat < 16 →
  o.rs1.toNat < 16 →
  ¬ (x.tag = true ∧ capOtype x ≠ 0) →
  exec (.capadv o) s = .next (s.svSet (s.svBegin.sv.setC o.rd.toNat ⟨x.tag, (x.bits.extractLsb' 32 96 ++ (x.bits.extractLsb' 0
    32 + v) : BitVec 128)⟩))

/-- CAPNARROW: BASE = CURSOR, LENGTH = rs2, within the bounds of a tagged source (R371, R372). -/
def capnarrowDoes : Prop := ∀ (o : OpR) (s : State),
  let x := s.sv.cr o.rs1.toNat
  let v := s.sv.gr o.rs2.toNat
  s.svReady o.cond →
  o.rd.toNat < 16 →
  o.rs1.toNat < 16 →
  ¬ (x.tag = true ∧ capOtype x ≠ 0) →
  (x.tag = true → capBase x ≤ capCursor x ∧ capCursor x + v.toNat ≤ capBase x + capLength x) →
  exec (.capnarrow o) s = .next (s.svSet (s.svBegin.sv.setC o.rd.toNat ⟨x.tag, (x.bits.extractLsb' 96 32 ++ v ++
    x.bits.extractLsb' 0 32 ++ x.bits.extractLsb' 0 32 : BitVec 128)⟩))

/-- CAPMASK: PERMS AND rs2[10:0] (R371). -/
def capmaskDoes : Prop := ∀ (o : OpR) (s : State),
  let x := s.sv.cr o.rs1.toNat
  let v := s.sv.gr o.rs2.toNat
  s.svReady o.cond →
  o.rd.toNat < 16 →
  o.rs1.toNat < 16 →
  ¬ (x.tag = true ∧ capOtype x ≠ 0) →
  exec (.capmask o) s = .next (s.svSet (s.svBegin.sv.setC o.rd.toNat ⟨x.tag, (x.bits.extractLsb' 112 16 ++ (x.bits.extractLsb'
    96 16 &&& (v.extractLsb' 0 11).setWidth 16) ++ x.bits.extractLsb' 0 96 : BitVec 128)⟩))

/-- CAPMOV (R371). -/
def capmovDoes : Prop := ∀ (o : OpR) (s : State),
  let x := s.sv.cr o.rs1.toNat
  s.svReady o.cond →
  o.rd.toNat < 16 →
  o.rs1.toNat < 16 →
  o.rs2 = 0 →
  exec (.capmov o) s = .next (s.svSet (s.svBegin.sv.setC o.rd.toNat x))

/-- CAPDROP: the tag cleared (R371). -/
def capdropDoes : Prop := ∀ (o : OpR) (s : State),
  let x := s.sv.cr o.rs1.toNat
  s.svReady o.cond →
  o.rd.toNat < 16 →
  o.rs1.toNat < 16 →
  o.rs2 = 0 →
  exec (.capdrop o) s = .next (s.svSet (s.svBegin.sv.setC o.rd.toNat ⟨false, x.bits⟩))

/-- CAPLOCK: c[rd] = c[rs1] with OTYPE = CURSOR of the authority c[rs2], which holds SEAL, and GATE for 255 (R371, R372). -/
def caplockDoes : Prop := ∀ (o : OpR) (s : State),
  let x := s.sv.cr o.rs1.toNat
  let y := s.sv.cr o.rs2.toNat
  let t := capCursor y
  s.svReady o.cond →
  o.rd.toNat < 16 →
  o.rs1.toNat < 16 →
  o.rs2.toNat < 16 →
  ¬ (x.tag = true ∧ capOtype x ≠ 0) →
  y.carries [6] (capCursor y) 1 →
  1 ≤ t →
  t ≤ 255 →
  (t = 255 → capHas y 8 = true) →
  exec (.caplock o) s = .next (s.svSet (s.svBegin.sv.setC o.rd.toNat ⟨x.tag, (x.bits.extractLsb' 120 8 ++ BitVec.ofNat 8 t ++
    x.bits.extractLsb' 0 112 : BitVec 128)⟩))

/-- CAPOPEN: c[rd] = c[rs1] unsealed, GLOBAL only if the authority c[rs2] holds it too (R371, R372). -/
def capopenDoes : Prop := ∀ (o : OpR) (s : State),
  let x := s.sv.cr o.rs1.toNat
  let y := s.sv.cr o.rs2.toNat
  let t := capCursor y
  let p := x.bits.extractLsb' 96 16
  let q := if capHas y 9 then p else p &&& 0xFDFF#16
  s.svReady o.cond →
  o.rd.toNat < 16 →
  o.rs1.toNat < 16 →
  o.rs2.toNat < 16 →
  (x.tag = true → capOtype x = t) →
  y.carries [7] (capCursor y) 1 →
  1 ≤ t →
  (t = 255 → capHas y 8 = true) →
  exec (.capopen o) s = .next (s.svSet (s.svBegin.sv.setC o.rd.toNat ⟨x.tag, (x.bits.extractLsb' 120 8 ++ 0#8 ++ q ++
    x.bits.extractLsb' 0 96 : BitVec 128)⟩))

/-- CAPWITHIN: 1 where both are tagged and c[rs2]'s bounds and PERMS lie within those of c[rs1] (R371). -/
def capwithinDoes : Prop := ∀ (o : OpR) (s : State),
  let x := s.sv.cr o.rs1.toNat
  let y := s.sv.cr o.rs2.toNat
  let px := x.bits.extractLsb' 96 16
  let py := y.bits.extractLsb' 96 16
  s.svReady o.cond →
  o.rs1.toNat < 16 →
  o.rs2.toNat < 16 →
  exec (.capwithin o) s = .next (s.svPut o.rd (if x.tag = true ∧ y.tag = true ∧ capBase x ≤ capBase y ∧ capBase y + capLength y
    ≤ capBase x + capLength x ∧ py &&& ~~~px = 0 then 1 else 0) none)

/-! ### Branches, calls, returns, loops, TRAP, ERET, CTXSW, FENCE and WFI -/

/-- B: pcc = pcc + 4 × offset (R323, R330). -/
def bDoes : Prop := ∀ (o : OpJ) (s : State),
  let t := ((s.sv.pcc.bits.extractLsb' 0 32) + o.off.signExtend 32 * 4#32).toNat
  s.svStarts o.cond →
  capBase s.sv.pcc ≤ t →
  t + 4 ≤ capBase s.sv.pcc + capLength s.sv.pcc →
  exec (.b o) s = .next (State.svJump s.svBegin true (capSetCursor s.sv.pcc t))

/-- CALL: the return capability pushed 16 bytes below csp, then the branch (R323, R324). -/
def callDoes : Prop := ∀ (o : OpJ) (s : State),
  let t := ((s.sv.pcc.bits.extractLsb' 0 32) + o.off.signExtend 32 * 4#32).toNat
  let csp := s.sv.cr 15
  let slot := (csp.bits.extractLsb' 0 32 - 16#32).toNat
  let ret := capSetCursor s.sv.pcc (s.sv.pc + 4)
  let ps := if ret.tag then (if capHas ret 9 then [2, 4] else [2, 4, 10]) else [2]
  let u := (s.svBegin.capWrite slot ret).2
  s.svStarts o.cond →
  capBase s.sv.pcc ≤ t →
  t + 4 ≤ capBase s.sv.pcc + capLength s.sv.pcc →
  csp.carries ps slot 16 →
  s.svBegin.svOpen .store slot 16 →
  (s.svBegin.capWrite slot ret).1 = .none →
  exec (.call o) s = .next (State.svJump (u.putC 15 (capSetCursor csp slot)) false (capSetCursor s.sv.pcc t))

/-- JR: pcc = c[rs1] (R326). -/
def jrDoes : Prop := ∀ (o : OpR) (s : State),
  let x := s.sv.cr o.rs1.toNat
  s.svStarts o.cond →
  o.rs1.toNat < 16 →
  o.rd = 0 →
  o.rs2 = 0 →
  x.jumps →
  exec (.jr o) s = .next (State.svJump s.svBegin true x)

/-- CALLR: as CALL, to c[rs1] (R324, R326). -/
def callrDoes : Prop := ∀ (o : OpR) (s : State),
  let x := s.sv.cr o.rs1.toNat
  let csp := s.sv.cr 15
  let slot := (csp.bits.extractLsb' 0 32 - 16#32).toNat
  let ret := capSetCursor s.sv.pcc (s.sv.pc + 4)
  let ps := if ret.tag then (if capHas ret 9 then [2, 4] else [2, 4, 10]) else [2]
  let u := (s.svBegin.capWrite slot ret).2
  s.svStarts o.cond →
  o.rs1.toNat < 16 →
  o.rd = 0 →
  o.rs2 = 0 →
  x.jumps →
  csp.carries ps slot 16 →
  s.svBegin.svOpen .store slot 16 →
  (s.svBegin.capWrite slot ret).1 = .none →
  exec (.callr o) s = .next (State.svJump (u.putC 15 (capSetCursor csp slot)) false x)

/-- RET: pcc popped through csp, whose cursor goes up by 16 (R325). -/
def retDoes : Prop := ∀ (o : OpR) (s : State),
  let csp := s.sv.cr 15
  let at_ := capCursor csp
  let v := (s.svBegin.capRead at_).2.1
  let x : Cap := ⟨v.tag && capHas csp 3, v.bits⟩
  let u := (s.svBegin.capRead at_).2.2
  s.svStarts o.cond →
  o.rd = 0 →
  o.rs1 = 0 →
  o.rs2 = 0 →
  csp.carries [1] at_ 16 →
  s.svBegin.svOpen .load at_ 16 →
  (s.svBegin.capRead at_).1 = .none →
  x.jumps →
  exec (.ret o) s = .next (State.svJump (u.putC 15 (capSetCursor csp (at_ + 16))) false x)

/-- ERET: pcc = EPCC unsealed, CSTAT = ESTAT; it leaves Breach, or the bank, which from depth 4 on is refilled from the frame at csp (R391, R392). -/
def eretDoes : Prop := ∀ (o : OpR) (s : State),
  let e := s.sv.bank.epcc
  let u := s.svBegin
  s.svStarts o.cond →
  o.rd = 0 →
  o.rs1 = 0 →
  o.rs2 = 0 →
  capHas s.sv.pcc 5 = true →
  1 ≤ s.sv.depth →
  e.tag = true →
  (capOtype e = 0 ∨ capOtype e = 255) →
  capHas e 0 = true →
  capCursor e % 4 = 0 →
  capBase e ≤ capCursor e →
  capCursor e + 4 ≤ capBase e + capLength e →
  (s.sv.breach = true → exec (.eret o) s = .next (u.setSv
    { u.sv with breach := false, pcc := capSetOtype e 0, cstat := s.sv.bank.estat }).svDone) ∧ (s.sv.breach = false →
    s.sv.depth < 4 → exec (.eret o) s = .next (u.setSv
    { u.sv with depth := s.sv.depth - 1, pcc := capSetOtype e 0, cstat := s.sv.bank.estat }).svDone) ∧ (s.sv.breach = false → 4
    ≤ s.sv.depth → u.refillFault (s.sv.cr 15) = none → exec (.eret o) s = .next (u.setSv
    { u.sv with banks := listSet u.sv.banks (s.sv.depth % 4) (s.frameBank (capCursor (s.sv.cr 15))), depth := s.sv.depth - 1,
                pcc := capSetOtype e 0, cstat := s.sv.bank.estat }).svDone)

/-- CTXSW: ddc with NDDC, csp with NCSP, and the guard's active set, at once (R401). -/
def ctxswDoes : Prop := ∀ (o : OpR) (s : State),
  let c := s.svBegin.sv
  let x := (c.setC 14 c.nddc).setC 15 c.ncsp
  s.svReady o.cond →
  o.rd = 0 →
  o.rs1 = 0 →
  o.rs2 = 0 →
  capHas s.sv.pcc 5 = true →
  exec (.ctxsw o) s = .next (s.svNext ((s.svBegin.setSv { x with nddc := s.sv.cr 14, ncsp := s.sv.cr 15 }).setRegF (.guard 0)
    0x40 0 1 (1 - s.regF (.guard 0) 0x40 0 1)))

/-- FENCE: nothing but the pc goes on (R326). -/
def fenceDoes : Prop := ∀ (o : OpR) (s : State),
  s.svReady o.cond →
  o.rd = 0 →
  o.rs1 = 0 →
  o.rs2 = 0 →
  exec (.fence o) s = .next (s.svSet s.svBegin.sv)

/-- WFI: the core waits where no source of level 1 to 7 is pending (R326). -/
def wfiDoes : Prop := ∀ (o : OpR) (s : State),
  s.svReady o.cond →
  o.rd = 0 →
  o.rs1 = 0 →
  o.rs2 = 0 →
  capHas s.sv.pcc 5 = true →
  exec (.wfi o) s = .next (s.svSet { s.svBegin.sv with wfi := (s.irqBest 0).isNone })

/-- TRAP #n: entry through gate n, unsealed, EPCC after the TRAP, ECAUSE with n (R381, R386, R387). -/
def trapDoes : Prop := ∀ (cond : BitVec 4) (n : BitVec 8) (s : State),
  let u := s.svBegin
  let gate := u.memCap (fld s.sv.gateBase 12 20 * 4096 + 16 * n.toNat)
  let level := fld s.sv.flvl 24 3
  let entry := u.svEnter (capSetOtype gate 0) level (capSetCursor s.sv.pcc (s.sv.pc + 4)) s.sv.pcc
  s.svStarts cond →
  s.sv.arith = none →
  u.gateCheck n.toNat = none →
  s.sv.breach = false →
  s.sv.ml < level →
  entry.1 = true →
  exec (.trap cond 0 n) s = .next (entry.2.svCause 9 level true false .none n.toNat 0 0)

/-- LOOP: LS, LE and LC of set k and LA[k], or past the body where the count is 0 (R327, R332). -/
def loopDoes : Prop := ∀ (o : OpI) (s : State),
  let k := o.rd.toNat
  let le := s.sv.pc + 4 * o.imm.toNat
  let cnt := s.sv.gr o.rs1.toNat
  let c := s.svBegin.sv.setLoop k ⟨BitVec.ofNat 32 (s.sv.pc + 4), BitVec.ofNat 32 le, cnt⟩
  s.svStarts o.cond →
  k < 3 →
  s.sv.atEnd s.sv.pc = none →
  1 ≤ o.imm.toNat →
  (∀ j, j < 3 → k ≤ j → s.sv.la j = false) →
  (k = 0 ∨ (s.sv.la (k - 1) = true ∧ le < (s.sv.loop (k - 1)).e.toNat)) →
  capBase s.sv.pcc ≤ le →
  le + 4 ≤ capBase s.sv.pcc + capLength s.sv.pcc →
  (cnt ≠ 0 → exec (.loop o) s = .next (s.svSet { c with cstat := setBit c.cstat (8 + k) true })) ∧ (cnt = 0 → exec (.loop o) s
    = .next (State.svJump (s.svBegin.setSv c) false (capSetCursor s.sv.pcc (le + 4))))

/-! ### System registers, custom instructions, entries by fault and interrupt, the interrupt controller and guard registers -/

/-- MFS: rd = the system register; CYCLE_HI latched by a read of CYCLE_LO (R333, R376). -/
def mfsDoes : Prop := ∀ (o : OpI) (s : State),
  let n := o.imm.toNat
  let v := s.svBegin.sysRead n
  let hi := if n = 0x10 then some (s.svCycles / 80 / 2 ^ 32) else none
  let c : SvCore := { s.svBegin.sv with cycleHi := hi }
  s.svReady o.cond →
  sysListed n = true →
  o.rs1 = 0 →
  (sysNeeds n = true → capHas s.sv.pcc 5 = true) →
  exec (.mfs o) s = .next (s.svSet (c.setG o.rd.toNat v))

/-- MTS: the system register = rs1 (R334, R376). -/
def mtsDoes : Prop := ∀ (o : OpI) (s : State),
  let n := o.imm.toNat
  let v := s.sv.gr o.rs1.toNat
  s.svReady o.cond →
  sysListed n = true →
  sysReadOnly n = false →
  ¬ (sysTable n = true ∧ s.fuses.lifeCycle = .field) →
  o.rd = 0 →
  (sysNeeds n = true → capHas s.sv.pcc 5 = true) →
  v &&& BitVec.ofNat 32 (sysReserved n) = 0 →
  ¬ (n = 0x44 ∧ flvlZero v = true) →
  exec (.mts o) s = .next (s.svSet (s.svBegin.sv.sysWrite n v))

/-- CMFS (R376). -/
def cmfsDoes : Prop := ∀ (o : OpI) (s : State),
  let n := o.imm.toNat
  s.svReady o.cond →
  capSysListed n = true →
  o.rd.toNat < 16 →
  o.rs1 = 0 →
  capHas s.sv.pcc 5 = true →
  exec (.cmfs o) s = .next (s.svSet (s.svBegin.sv.setC o.rd.toNat (s.svBegin.sv.capSys n)))

/-- CMTS (R376). -/
def cmtsDoes : Prop := ∀ (o : OpI) (s : State),
  let n := o.imm.toNat
  let x := s.sv.cr o.rs1.toNat
  s.svReady o.cond →
  capSysListed n = true →
  o.rs1.toNat < 16 →
  s.sv.capOnce n = false →
  o.rd = 0 →
  capHas s.sv.pcc 5 = true →
  s.svBegin.capSysReason n x = none →
  exec (.cmts o) s = .next (s.svSet (s.svBegin.sv.capSysWrite n x))

/-- CUSTOM_INSTRUCTION: the writes of the slot's microcode become visible together; with an error none does, and ARITH is raised, imprecise where PRECISE is 0 (R320, R335, R337). -/
def customInstructionDoes : Prop := ∀ (o : OpR) (slot : BitVec 4) (k : BitVec 3) (s : State),
  let e := tabGet slotEmpty s.sv.slots slot.toNat
  let c := s.sv
  let env : MicroEnv := ⟨o.rd.toNat, o.rs1.toNat, o.rs2.toNat, c.gr o.rd.toNat, c.gr o.rs1.toNat, c.gr o.rs2.toNat, k.toNat,
    c.rm, c.trapov⟩
  let out := microRun env c.ucode e.1 64 ⟨[], none, c.a0, c.a1, c.flags⟩
  let b := s.svBegin.sv
  s.svReady o.cond →
  e.2.1 = true →
  (∀ m, out = some m → exec (.customInstruction o slot k) s = .next (s.svSet
    (({ (match m.rd with | some v => b.setG o.rd.toNat v | none => b) with a0 := m.a0, a1 := m.a1 } : SvCore).setFlags
    m.flags))) ∧ (out = none → b.precise = false → exec (.customInstruction o slot k) s = .next (s.svBegin.setSv
    { b.advance b with arith := some (s.sv.arith.elim 0 (· + 1)) }))

/-- FAULT_ENTRY: a failed fetch, or a word of no instruction, enters through FVEC at its cause's level with ECAUSE and EADDR (R306, R377, R378, R381, R387). -/
def faultEntryDoes : Prop := ∀ (f : Fetched) (s : State),
  let u := s.svBegin
  let x : SvFault := match f with | .error r => ⟨4, fetchReason r, s.sv.pc, false⟩ | .word w => ⟨1, .none, w.toNat, false⟩
  let level := u.sv.level x.code
  let entry := u.svEnter u.sv.fvec level s.sv.pcc s.sv.pcc
  let odd := match f with | .word w => wordReserved w | .error _ => true
  s.svIssues = true →
  s.sv.arith = none →
  s.svFetchFault = none →
  odd = true →
  s.sv.breach = false →
  u.sv.ml < level →
  u.sv.fvec ≠ nullCap →
  entry.1 = true →
  exec (.faultEntry f) s = .next (entry.2.svCause x.code level true x.write x.reason 0 0 x.addr)

/-- INTERRUPT_ACCEPT: the highest level above ML enters through its IVEC, ECAUSE with its source (R380, R387). -/
def interruptAcceptDoes : Prop := ∀ (src : Nat) (level : Nat) (s : State),
  let u := s.svBegin
  let entry := u.svEnter (tabGet nullCap s.sv.ivec level) level u.sv.pcc u.sv.pcc
  s.computeRuns = true →
  s.boot.running = true →
  s.sv.hold = false →
  s.sv.breach = false →
  s.sv.arith = none →
  s.irqBest s.sv.ml = some (src, level) →
  tabGet nullCap s.sv.ivec level ≠ nullCap →
  entry.1 = true →
  exec .interruptAccept s = .next (entry.2.svCause 0x20 level true false .none src 0 0)

/-- ARITH_IMPRECISE: the pending ARITH enters through FVEC, PRECISE 0, with the number of instructions completed since (R382, R395). -/
def arithImpreciseDoes : Prop := ∀ (n : Nat) (s : State),
  let u : State := s.svBegin.setSv { s.svBegin.sv with arith := none }
  let level := fld s.sv.flvl 21 3
  let entry := u.svEnter u.sv.fvec level u.sv.pcc u.sv.pcc
  s.svIssues = true →
  s.sv.arith = some n →
  s.sv.breach = false →
  u.sv.ml < level →
  u.sv.fvec ≠ nullCap →
  entry.1 = true →
  exec .arithImprecise s = .next (entry.2.svCause 8 level false false .none 0 n 0)

/-- IC_SWSET: the software source is pending (R379, R384). -/
def icSwsetDoes : Prop := ∀ (m : Master) (v : Nat) (s : State),
  s.accepts (put32 m .icc 0x44 v) →
  v < 2 ^ 32 →
  Ends (.icSwset m v) s fun t => (∀ i, i < 128 → s.irqPending (384 + i) = true ∨ i = v % 128 → t.irqPending (384 + i) = true) ∧
    (∀ i, i < 128 → i ≠ v % 128 → t.irqPending (384 + i) = s.irqPending (384 + i)) ∧ SameRegsBut [Page.base .icp + (0x830 + v %
    128 / 32 * 4)] s t ∧ Written m (Page.base .icc) s t ∧ t = { s with regs := t.regs, fab := t.fab }

/-- IC_SWCLR: the software source is not pending (R379, R384). -/
def icSwclrDoes : Prop := ∀ (m : Master) (v : Nat) (s : State),
  s.accepts (put32 m .icc 0x48 v) →
  v < 2 ^ 32 →
  Ends (.icSwclr m v) s fun t => t.irqPending (384 + v % 128) = false ∧ (∀ i, i < 128 → i ≠ v % 128 → t.irqPending (384 + i) =
    s.irqPending (384 + i)) ∧ SameRegsBut [Page.base .icp + (0x830 + v % 128 / 32 * 4)] s t ∧ Written m (Page.base .icc) s t ∧
    t = { s with regs := t.regs, fab := t.fab }

/-- GSEL_WRITE: the set that the guard of a master judges by from now on (R397, R401). -/
def gselWriteDoes : Prop := ∀ (m : Master) (o : Master) (v : Nat) (p : Page) (sel : Nat) (tab : Nat) (s : State),
  guardOf o = some (p, sel, tab) →
  s.accepts (put32 m p sel v) →
  v < 2 →
  Ends (.gselWrite m o v) s fun t => t.reg p sel = BitVec.ofNat 32 v ∧ SameRegsBut [p.base + sel] s t ∧ Written m p.base s t ∧
    t = { s with regs := t.regs, fab := t.fab }

/-- GCLR: the guard's fault address, its report and its count read 0 (R403). -/
def gclrDoes : Prop := ∀ (m : Master) (o : Master) (p : Page) (sel : Nat) (tab : Nat) (s : State),
  guardOf o = some (p, sel, tab) →
  s.accepts (put32 m p (sel + 0x10) 1) →
  Ends (.gclr m o) s fun t => t.reg p (sel + 4) = 0 ∧ t.reg p (sel + 8) = 0 ∧ t.reg p (sel + 12) = 0 ∧ SameRegsBut [p.base +
    (sel + 4), p.base + (sel + 8), p.base + (sel + 12)] s t ∧ Written m p.base s t ∧ t =
    { s with regs := t.regs, fab := t.fab }

/-! ### Fabric accesses and header registers -/

/-- REGISTER_WRITE: the access takes its effect and its master is answered; a guard's denial keeps it from its target (R50, R58, R398). -/
def registerWriteDoes : Prop := ∀ (a : Access) (s : State),
  let r := (s.accWrite a).1
  let u := (s.accWrite a).2
  s.sends a.m = true →
  ¬ (s.boot.wait = true ∧ Page.base .hrp + 0x48 ≤ a.addr ∧ a.addr ≤ Page.base .hrp + 0x50) →
  ((unguarded a.m a.addr = true ∨ s.guardFault a.m .store a.addr a.size = none) → exec (.registerWrite a) s = .next (u.answer
    a.m r)) ∧ (unguarded a.m a.addr = false → ∀ f ∈ (s.guardFault a.m .store a.addr a.size).toList, exec (.registerWrite a) s =
    .next ((s.guardDeny a.m .store f).answer a.m .guardDeny))

/-- PAGE_CTRL with SOFT_RESET 0: ENABLE and CLK_REQ are taken; the page's domain and the module follow the request (R46, R470, R471). -/
def pageCtrlWriteDoes : Prop := ∀ (m : Master) (p : Page) (v : Nat) (s : State),
  s.accepts (put32 m p 0x0C v) →
  p.valid = true →
  v / 2 % 2 = 0 →
  Ends (.pageCtrlWrite m p v) s fun t => t.reg p 0x0C = BitVec.ofNat 32 v &&& 0xD#32 ∧ ((∀ c, c < 16 → p ≠ .cv c) → SameRegsBut
    [p.base + 0x0C] s t ∧ t.conv = s.conv) ∧ SameRegsBut [(Page.base p) + 0x0C, (Page.base p) + 0x20, (Page.base p) + 0x44] s t
    ∧ Written m (Page.base p) s t ∧ t =
    { s with regs := t.regs, fab := t.fab, domains := t.domains, power := t.power, conv := t.conv }

/-- SOFT_RESET: the block registers and IRQ_RAW of the page return to reset, and BUSY is set until SOFT_RESET_DONE (R46, R47). -/
def softResetDoes : Prop := ∀ (m : Master) (p : Page) (clkReq : Nat) (s : State),
  p.valid = true →
  clkReq ≤ 2 →
  s.accepts (put32 m p 0x0C (2 + clkReq * 4)) →
  Ends (.softReset m p clkReq) s fun t => t.reg p 0x0C = BitVec.ofNat 32 (clkReq * 4) ∧ t.reg p 0x20 = 0 ∧ p.base ∈
    t.fab.softBusy ∧ (factsPage p = false → p ≠ .bwCtl → p ≠ .lks → p ≠ .lc → ∀ o, o < 0x1000 → 0x40 ≤ o → t.reg p o =
    resetWord s.fuses (p.base + o)) ∧ ((∀ e, e < 16 → p ≠ .swell e) → SameRegsOutside (p.base + 0x0C) (p.base + 0x1000) s t) ∧
    SameMemory s t ∧ (t.lastResp m).reason = .none ∧ t.now = s.now ∧ t.tm = s.tm ∧ t.sv = s.sv ∧ t.boot = s.boot

/-- LOCK_WRITE: CFG_LOCK and OWNER_LOCK are set (R66). -/
def lockWriteDoes : Prop := ∀ (m : Master) (p : Page) (cfg : Bool) (owner : Bool) (s : State),
  s.accepts (put32 m p 0x18 (cfg.toNat + 2 * owner.toNat)) →
  p.valid = true →
  p ≠ .slk →
  Ends (.lockWrite m p cfg owner) s fun t => t.reg p 0x18 = s.reg p 0x18 ||| BitVec.ofNat 32 (cfg.toNat + 2 * owner.toNat) ∧
    SameRegsBut [(Page.base p) + 0x18] s t ∧ Written m (Page.base p) s t ∧ t = { s with regs := t.regs, fab := t.fab }

/-- KEY_WRITE: an accepted KEY 1 begins a page's keyed sequence and an accepted KEY 2 opens it; neither changes a lock (R67–R69). -/
def keyWriteDoes : Prop := ∀ (m : Master) (p : Page) (s : State),
  p.valid = true →
  p ≠ .slk →
  (s.accepts (put32 m p 0x18 0x3C1E0000) → Ends (.keyWrite m p 0x3C1E 0) s fun t => tabGet? t.fab.keys p.base = some (.key1
    m.id) ∧ SameRegsBut [] s t ∧ Written m p.base s t ∧ t = { s with regs := t.regs, fab := t.fab }) ∧ (s.keySeq p ≠ none →
    s.accepts (put32 m p 0x18 0xC3E10000) → Ends (.keyWrite m p 0xC3E1 0) s fun t => tabGet? t.fab.keys p.base = some (.opened
    m.id s.now) ∧ SameRegsBut [] s t ∧ Written m p.base s t ∧ t = { s with regs := t.regs, fab := t.fab })

/-- KEY_SEQUENCE_TIMEOUT: an open keyed sequence closes 2 µs after its KEY 2 (R69). -/
def keySequenceTimeoutDoes : Prop := ∀ (p : Page) (w : Nat) (at_ : Nat) (s : State),
  tabGet? s.fab.keys p.base = some (.opened w at_) →
  at_ + 16000 ≤ s.now →
  exec (.keySequenceTimeout p) s = .next { s with fab := { s.fab with keys := tabDel s.fab.keys p.base } }

/-- PAGE_ERR_CLEAR: the record reads 0, but for rejections of the same fabric cycle, which come after it (R57). -/
def pageErrClearDoes : Prop := ∀ (m : Master) (p : Page) (s : State),
  s.accepts (put32 m p 0x14 0x80000000) →
  p.valid = true →
  p ≠ .slk →
  Ends (.pageErrClear m p) s fun t => t.reg p 0x14 = s.errCleared p ∧ ((∀ e ∈ s.fabNow.rejects, e.1 ≠ p.base) → t.reg p 0x14 =
    0) ∧ SameRegsBut [(Page.base p) + 0x14] s t ∧ Written m (Page.base p) s t ∧ t = { s with regs := t.regs, fab := t.fab }

/-- IRQ_SET sets bits of IRQ_RAW (R43, R65). -/
def irqSetDoes : Prop := ∀ (m : Master) (p : Page) (bits : Nat) (s : State),
  s.accepts (put32 m p 0x2C bits) →
  p.valid = true →
  p ≠ .slk →
  Ends (.irqSet m p bits) s fun t => t.reg p 0x20 = s.reg p 0x20 ||| BitVec.ofNat 32 bits ∧ SameRegsBut [(Page.base p) + 0x20]
    s t ∧ Written m (Page.base p) s t ∧ t = { s with regs := t.regs, fab := t.fab }

/-- E2E_STAT_CLR: the count of failed codes reads 0 (R43). -/
def e2eStatClrDoes : Prop := ∀ (m : Master) (p : Page) (s : State),
  s.accepts (put32 m p 0x30 0x80000000) →
  p.valid = true →
  p ≠ .slk →
  Ends (.e2eStatClr m p) s fun t => t.reg p 0x30 = 0 ∧ SameRegsBut [(Page.base p) + 0x30] s t ∧ Written m (Page.base p) s t ∧ t
    = { s with regs := t.regs, fab := t.fab }

/-- SOFT_RESET_DONE: BUSY clears (R47). -/
def softResetDoneDoes : Prop := ∀ (p : Page) (s : State),
  exec (.softResetDone p) s = .next { s with fab := { s.fab with softBusy := s.fab.softBusy.erase p.base } }

/-! ### Timebase -/

/-- TB_NOW_READ: the device time, its high word latched (R53, R80). -/
def tbNowReadDoes : Prop := ∀ (m : Master) (wide : Bool) (s : State),
  s.serves (readOf m .tb (0x40) wide) →
  Ends (.tbNowRead m wide) s fun t => ReadBy m (if wide then (BitVec.ofNat 32 s.now).toNat + 2 ^ 32 * (BitVec.ofNat 32 (s.now /
    2 ^ 32)).toNat else (BitVec.ofNat 32 s.now).toNat) s t ∧ Latched t m ((Page.base .tb)) ((Page.base .tb) + (0x40) + 4)
    (BitVec.ofNat 32 (s.now / 2 ^ 32)) ∧ t = { s with fab := t.fab }

/-- TB_MODE_WRITE: MODE and PORT are taken; state ACQUIRE in slave mode, else FREE, with no Sync received yet (R76, R78). -/
def tbModeWriteDoes : Prop := ∀ (m : Master) (v : Nat) (s : State),
  s.accepts (put32 m .tb 0x48 v) →
  Ends (.tbModeWrite m v) s fun t => fld (t.reg .tb 0x48) 0 2 = v % 4 ∧ fld (t.reg .tb 0x48) 8 4 = v / 2 ^ 8 % 2 ^ 4 ∧ fld
    (t.reg .tb 0x4C) 0 2 = (if v % 4 = 1 then 1 else 0) ∧ t.tbs.asSet = false ∧ t.tbs.syncRun = 0 ∧ SameRegsBut [(Page.base
    .tb) + 0x48, (Page.base .tb) + 0x4C] s t ∧ Written m (Page.base .tb) s t ∧ t =
    { s with regs := t.regs, fab := t.fab, tbs := t.tbs }

/-- SKEW_CLR: SKEW_MAX reads 0 (R80). -/
def skewClrDoes : Prop := ∀ (m : Master) (s : State),
  s.accepts (put32 m .tb 0x68 1) →
  Ends (.skewClr m) s fun t => fld (t.reg .tb 0x60) 16 16 = 0 ∧ fld (t.reg .tb 0x60) 0 16 = fld (s.reg .tb 0x60) 0 16 ∧
    SameRegsBut [(Page.base .tb) + 0x60] s t ∧ Written m (Page.base .tb) s t ∧ t = { s with regs := t.regs, fab := t.fab }

/-- SYNC_RECEIVE on the slave port: the first Sync sets AS_OFFSET; a later one gives TB_PHASE and counts toward the lock (R77, R78). -/
def syncReceiveDoes : Prop := ∀ (port : Nat) (gm : Nat) (s : State),
  let st := s.regF .tb 0x4C 0 2
  let phase := sgn 64 ((gm + 2 ^ 65 - s.now - s.reg64 .tb 0x58) % 2 ^ 64)
  s.regF .tb 0x48 0 2 = 1 →
  s.regF .tb 0x48 8 4 = port →
  bit (s.reg (.tsn port) 0x44) 0 = true →
  s.reg64 .tb 0x58 < 2 ^ 64 →
  s.now < 2 ^ 64 →
  gm < 2 ^ 64 →
  Ends (.syncReceive port gm) s fun t => t.tbs.asSet = true ∧ (s.tbs.asSet = false → t.reg64 .tb 0x58 = (gm + 2 ^ 64 - s.now) %
    2 ^ 64 ∧ t.reg .tb 0x54 = 0) ∧ (s.tbs.asSet = true → ¬ ((st = 1 ∨ st = 3) ∧ s.regF .tb 0x64 20 12 * 8000 < phase.natAbs) →
    t.reg64 .tb 0x58 = s.reg64 .tb 0x58 ∧ t.reg .tb 0x54 = BitVec.ofInt 32 (max (-2 ^ 31) (min (2 ^ 31 - 1) phase)) ∧
    t.tbs.syncRun = (if phase.natAbs ≤ s.regF .tb 0x64 0 16 * 8 then s.tbs.syncRun + 1 else 0)) ∧ SameRegsBut [Page.base .tb +
    0x20, Page.base .tb + 0x4C, Page.base .tb + 0x50, Page.base .tb + 0x54, Page.base .tb + 0x58, Page.base .tb + 0x5C] s t ∧ t
    = { s with regs := t.regs, fab := t.fab, tbs := t.tbs, free := t.free }

/-- SYNC_TIMEOUT: in slave mode the timebase goes to HOLDOVER, with its event, and keeps the last rate (R78). -/
def syncTimeoutDoes : Prop := ∀ (s : State),
  s.regF .tb 0x48 0 2 = 1 →
  Ends .syncTimeout s fun t => t.regF .tb 0x4C 0 2 = 3 ∧ (s.regF .tb 0x4C 0 2 ≠ 3 → t.regF .tb 0x20 1 1 = 1) ∧ SameRegsBut
    [Page.base .tb + 0x20, Page.base .tb + 0x4C] s t ∧ t.tbs.syncRun = 0 ∧ t =
    { s with regs := t.regs, fab := t.fab, tbs := t.tbs }

/-- SKEW_MEASUREMENT: SKEW and SKEW_MAX, and FIELD_OK while it is within 250 ps (R79). -/
def skewMeasurementDoes : Prop := ∀ (ps : Int) (s : State),
  let a := ps.natAbs
  Ends (.skewMeasurement ps) s fun t => t.regF .tb 0x60 0 16 = (max (-2 ^ 15) (min (2 ^ 15 - 1) ps) % 2 ^ 16).toNat ∧ t.regF
    .tb 0x60 16 16 = max (s.regF .tb 0x60 16 16) (min a (2 ^ 16 - 1)) ∧ t.regF .tb 0x4C 2 1 = (if a ≤ 250 then 1 else 0) ∧ (250
    < a → t.regF .tb 0x20 3 1 = 1) ∧ SameRegsBut [Page.base .tb + 0x20, Page.base .tb + 0x4C, Page.base .tb + 0x60] s t ∧ t =
    { s with regs := t.regs, fab := t.fab, raised := t.raised }

/-- LINK_TIMEOUT: source CF_TMO (R22). -/
def linkTimeoutDoes : Prop := ∀ (s : State),
  exec .linkTimeout s = .next (s.raiseFault 0x1A)

/-- REGISTER_TRANSFER_RETRY: the sequence or CRC source is reported, and whether the repeat failed too (R414). -/
def registerTransferRetryDoes : Prop := ∀ (seqGap : Bool) (repeatOk : Bool) (s : State),
  Ends (.registerTransferRetry seqGap repeatOk) s fun t => (if seqGap then 0x19 else 0x18, if repeatOk then 0 else 1) ∈
    t.raised ∧ t = { s with raised := t.raised }

/-! ### Queue table, submission checks and admission, commit, handoff, arrival and delivery of entries -/

/-- QUEUE_TABLE_WRITE: the OWN or LIMIT word of a queue (R81, R82). -/
def queueTableWriteDoes : Prop := ∀ (m : Master) (q : Nat) (limit : Bool) (v : Nat) (s : State),
  let off := if limit then 8 else 4
  q < 65536 →
  v < 2 ^ 32 →
  s.accepts ⟨m, qtabBase + 16 * q + off, 4, v, true⟩ →
  Ends (.queueTableWrite m q limit v) s fun t => t.rd (qtabAddr q off) = BitVec.ofNat 32 v ∧ SameRegsBut [qtabAddr q off] s t ∧
    Written m qtabBase s t ∧ t = { s with regs := t.regs, fab := t.fab }

/-- QUEUE_BIND_WRITE: the BIND word, and OWN where 64 bits wide; a queue that becomes bound counts its pre-emptions from 0 (R81–R83). -/
def queueBindWriteDoes : Prop := ∀ (m : Master) (q : Nat) (wide : Bool) (v : Nat) (s : State),
  q < 65536 →
  v < 2 ^ (if wide then 64 else 32) →
  s.accepts ⟨m, qtabBase + 16 * q + 0, (if wide then 8 else 4), v, true⟩ →
  Ends (.queueBindWrite m q wide v) s fun t => t.rd (qtabAddr q 0) = BitVec.ofNat 32 v ∧ (wide = true → t.rd (qtabAddr q 4) =
    BitVec.ofNat 32 (v / 2 ^ 32)) ∧ (wide = false → t.rd (qtabAddr q 4) = s.rd (qtabAddr q 4)) ∧ (s.qBound q = false → v / 2 ^
    31 % 2 = 1 → t.rd (qtabAddr q 12) = 0) ∧ SameRegsBut [qtabAddr q 0, qtabAddr q 4, qtabAddr q 12] s t ∧ Written m qtabBase s
    t ∧ t = { s with regs := t.regs, fab := t.fab, net := t.net }

/-- SUBMIT_STAGE: a master's staging keeps the word and its slot; nothing is submitted (R90). -/
def submitStageDoes : Prop := ∀ (m : Master) (slot : Nat) (part : Nat) (wide : Bool) (v : Nat) (s : State),
  let st := s.stage m
  let lo : Word := BitVec.ofNat 32 v
  slot < 65536 →
  part ≤ 2 →
  (wide = true → part = 0) →
  s.accepts ⟨m, 0x38000000 + 16 * slot + 4 * part, if wide then 8 else 4, v, true⟩ →
  Ends (.submitStage m slot part wide v) s fun t => (part = 0 → wide = false → t.stage m = { st with lo := some (slot, lo) }) ∧
    (wide = true → t.stage m = { st with lo := some (slot, lo), hi := some (slot, BitVec.ofNat 32 (v / 2 ^ 32)) }) ∧ (part = 1
    → t.stage m = { st with hi := some (slot, lo) }) ∧ (part = 2 → t.stage m = { st with pay := some (slot, lo) }) ∧ SameTab
    m.id s.tqf.staging t.tqf.staging ∧ t.tqf = { s.tqf with staging := t.tqf.staging } ∧ Written m 0x38000000 s t ∧ t =
    { s with tqf := t.tqf, fab := t.fab }

/-- SUBMIT_ACT: the staged entry is admitted into a free pool place and its handle told in SUB_RES, or turned away with the reason of R92 (R87, R88, R90–R92, R95). -/
def submitActDoes : Prop := ∀ (m : Master) (slot : Nat) (wide : Bool) (pay : Word) (metaCrc : Word) (lo : Word) (hi : Word) (staged : Word) (s : State),
  let off := if wide then 8 else 12
  let data := if wide then pay.toNat + 2 ^ 32 * metaCrc.toNat else metaCrc.toNat
  let given := if wide then pay else staged
  let x : Submission := ⟨lo.toNat + 2 ^ 32 * hi.toNat, given, metaCrc⟩
  let st := s.stage m
  let u := (s.arbitrate m (0x38000000 + 16 * slot + off) (if wide then 8 else 4)).setStage m ⟨none, none, none⟩
  let r := u.admitReason m slot x
  let i := u.pickIndex
  let c := !bit metaCrc 15 || decide (s.commitPoint slot x.inst ≤ s.tqfNow)
  fld metaCrc 12 3 ≠ 2 →
  slot < 65536 →
  st.lo = some (slot, lo) →
  st.hi = some (slot, hi) →
  (wide = false → st.pay = some (slot, staged)) →
  s.accepts ⟨m, 0x38000000 + 16 * slot + off, if wide then 8 else 4, data, true⟩ →
  Ends (.submitAct m slot wide pay metaCrc) s fun t => t.stage m = ⟨none, none, none⟩ ∧ (r = .none → t.subRes m = ⟨.none, true,
    c, s.handleOf i⟩ ∧ tabGet? t.tqf.pool i = some ⟨slot, .act, x.inst, x.payload, BitVec.ofNat 16 x.metaW, entryCrc x.inst
    x.payload x.metaW, s.tqfNow, c, false, false⟩ ∧ SameTab i s.tqf.pool t.tqf.pool) ∧ (r ≠ .none → t.subRes m = ⟨r, true,
    false, 0⟩ ∧ t.tqf.pool = s.tqf.pool) ∧ SameTab m.id s.tqf.subRes t.tqf.subRes ∧ (t.lastResp m).reason = .none ∧
    SameRegsOutside (Page.base .tqf) (Page.base .tqs + 0x1000) s t ∧ t =
    { s with tqf := t.tqf, fab := t.fab, regs := t.regs, free := t.free }

/-- RELEASE_ARM: as an ACT entry, of KIND RELEASE with a delay (R86, R98). -/
def releaseArmDoes : Prop := ∀ (m : Master) (slot : Nat) (wide : Bool) (pay : Word) (metaCrc : Word) (lo : Word) (hi : Word) (staged : Word) (s : State),
  let off := if wide then 8 else 12
  let data := if wide then pay.toNat + 2 ^ 32 * (setFld metaCrc 12 3 2).toNat else (setFld metaCrc 12 3 2).toNat
  let given := if wide then pay else staged
  let x : Submission := ⟨lo.toNat + 2 ^ 32 * hi.toNat, given, (setFld metaCrc 12 3 2)⟩
  let st := s.stage m
  let u := (s.arbitrate m (0x38000000 + 16 * slot + off) (if wide then 8 else 4)).setStage m ⟨none, none, none⟩
  let r := u.admitReason m slot x
  let i := u.pickIndex
  slot < 65536 →
  st.lo = some (slot, lo) →
  st.hi = some (slot, hi) →
  (wide = false → st.pay = some (slot, staged)) →
  s.accepts ⟨m, 0x38000000 + 16 * slot + off, if wide then 8 else 4, data, true⟩ →
  Ends (.releaseArm m slot wide pay metaCrc) s fun t => t.stage m = ⟨none, none, none⟩ ∧ (r = .none → t.subRes m = ⟨.none,
    true, false, s.handleOf i⟩ ∧ tabGet? t.tqf.pool i = some ⟨slot, .release, x.inst, x.payload, BitVec.ofNat 16 x.metaW,
    entryCrc x.inst x.payload x.metaW, s.tqfNow, false, false, false⟩ ∧ SameTab i s.tqf.pool t.tqf.pool) ∧ (r ≠ .none →
    t.subRes m = ⟨r, true, false, 0⟩ ∧ t.tqf.pool = s.tqf.pool) ∧ SameTab m.id s.tqf.subRes t.tqf.subRes ∧ (t.lastResp
    m).reason = .none ∧ SameRegsOutside (Page.base .tqf) (Page.base .tqs + 0x1000) s t ∧ t =
    { s with tqf := t.tqf, fab := t.fab, regs := t.regs, free := t.free }

/-- SUB_RES_READ: REASON, VALID, COMMITTED and HANDLE of the master's last submission; VALID clears, and the high word is latched (R91). -/
def subResReadDoes : Prop := ∀ (m : Master) (wide : Bool) (s : State),
  let w := (s.subRes m).reason.code + (if (s.subRes m).valid then 2 ^ 8 else 0) + (if (s.subRes m).committed then 2 ^ 9 else 0)
    + (s.subRes m).handle * 2 ^ 32
  s.serves ⟨m, 0x38100000, if wide then 8 else 4, 0, true⟩ →
  (s.subRes m).handle < 2 ^ 32 →
  Ends (.subResRead m wide) s fun t => ReadBy m (if wide then w else w % 2 ^ 32) s t ∧ (wide = false → Latched t m 0x38000000
    0x38100004 (BitVec.ofNat 32 (w / 2 ^ 32))) ∧ t.subRes m = { s.subRes m with valid := false } ∧ SameTab m.id s.tqf.subRes
    t.tqf.subRes ∧ t.tqf = { s.tqf with subRes := t.tqf.subRes } ∧ t = { s with tqf := t.tqf, fab := t.fab }

/-- LOG_CONFIG_WRITE: a log's base or size; the log starts anew, its WR and LOST words 0 (R110, R150, R182). -/
def logConfigWriteDoes : Prop := ∀ (m : Master) (which : Nat) (size : Bool) (v : Nat) (s : State),
  let p : Page := if which = 0 then .tqs else if which = 1 then .trk else .t1sc
  let b := if which = 0 then 0x40 else if which = 1 then 0x48 else 0x5C
  let off := if size then b + 4 else b
  which < 3 →
  v < 2 ^ 32 →
  s.accepts (put32 m p off v) →
  Ends (.logConfigWrite m which size v) s fun t => t.reg p off = BitVec.ofNat 32 v ∧ t.memN (t.reg p b).toNat 8 = 0 ∧
    SameMemoryBut (t.reg p b).toNat ((t.reg p b).toNat + 8) s t ∧ SameRegsBut [p.base + off] s t ∧ Written m p.base s t ∧ t =
    { s with regs := t.regs, fab := t.fab, mem := t.mem, tags := t.tags }

/-- TQF_STAT_CLR: the rejection counters, CRC_CNT, DELIV and LINK_PEAK read 0 (R110). -/
def tqfStatClrDoes : Prop := ∀ (m : Master) (s : State),
  s.accepts (put32 m .tqs 0xA8 1) →
  Ends (.tqfStatClr m) s fun t => (∀ k, k < 10 → t.reg .tqs (0x80 + 4 * k) = 0) ∧ t.reg .tqs 0xAC = 0 ∧ t.tqf =
    { s.tqf with delivered := 0 } ∧ (∀ a, (a < Page.base .tqs + 0x80 ∨ Page.base .tqs + 0xA8 ≤ a) → a ≠ Page.base .tqs + 0xAC →
    t.rd a = s.rd a) ∧ Written m (Page.base .tqs) s t ∧ t = { s with regs := t.regs, fab := t.fab, tqf := t.tqf }

/-- DELIV_READ: the count of delivered entries, its high word latched (R53, R110). -/
def delivReadDoes : Prop := ∀ (m : Master) (wide : Bool) (s : State),
  s.serves (readOf m .tqs (0xA0) wide) →
  Ends (.delivRead m wide) s fun t => ReadBy m (if wide then (BitVec.ofNat 32 s.tqf.delivered).toNat + 2 ^ 32 * (BitVec.ofNat
    32 (s.tqf.delivered / 2 ^ 32)).toNat else (BitVec.ofNat 32 s.tqf.delivered).toNat) s t ∧ Latched t m ((Page.base .tqs))
    ((Page.base .tqs) + (0xA0) + 4) (BitVec.ofNat 32 (s.tqf.delivered / 2 ^ 32)) ∧ t = { s with fab := t.fab }

/-- ENTRY_COMMIT: at its commit point an entry is committed (R95). -/
def entryCommitDoes : Prop := ∀ (h : Nat) (i : Nat) (e : Entry) (s : State),
  s.liveEntry h = some (i, e) →
  e.kind = .act →
  s.commitPoint e.queue e.inst ≤ s.now →
  exec (.entryCommit h) s = .next { s with tqf := { s.tqf with pool := tabPut s.tqf.pool i { e with committed := true } } }

/-- ENTRY_HANDOFF: at I − H the entry goes to its port; one whose CRC fails at the pool read is lost (R96, R97). -/
def entryHandoffDoes : Prop := ∀ (h : Nat) (i : Nat) (e : Entry) (s : State),
  s.liveEntry h = some (i, e) →
  e.kind = .act →
  e.lost = false →
  e.handed = false →
  e.inst ≤ s.now + s.handoffLead (s.qPort e.queue) →
  exec (.entryHandoff h true) s = .next
    { s with tqf := { s.tqf with pool := tabPut s.tqf.pool i { e with handed := true, committed := true } },
             box := { s.box with waiting := s.box.waiting ++ [⟨s.handleOf i, e.queue, s.qPort e.queue, s.qChan e.queue, e.inst, e.payload, decide (496 ≤ s.qPort e.queue), true, false, false⟩] } }
    ∧ (exec (.entryHandoff h false) s = .next (s.loseEntry i e 2))

/-- LINK_ENTRY_RECEIVE: the field die holds the entry; one that fails on the link is lost (R97, R414). -/
def linkEntryReceiveDoes : Prop := ∀ (h : Nat) (s : State),
  (s.box.waiting.any fun p => p.handle = h && !p.slack && p.port < 496 && !p.received) = true →
  exec (.linkEntryReceive h .ok) s = .next
    { s with box := { s.box with waiting := s.box.waiting.map fun p => if p.handle = h && !p.slack && p.port < 496 then { p with received := true } else p } }
    ∧ (∀ i e, s.liveEntry h = some (i, e) → exec (.linkEntryReceive h .crcFail) s = .next (s.loseEntry i e 2) ∧ exec
    (.linkEntryReceive h .lost) s = .next (s.loseEntry i e 3))

/-- ENTRY_DELIVERY: at its instant the entry is delivered and its pool place freed, the place's generation counting on (R88, R96). -/
def entryDeliveryDoes : Prop := ∀ (h : Nat) (i : Nat) (e : Entry) (p : PortEntry) (s : State),
  s.liveEntry h = some (i, e) →
  s.box.waiting.find? (fun p => p.handle = h && !p.slack && p.received) = some p →
  e.inst ≤ s.now →
  e.lost = false →
  Ends (.entryDelivery h true) s fun t => t.box = ⟨s.box.waiting.filter (· ≠ p), if p.port < 448 then s.box.due ++ [p] else
    s.box.due⟩ ∧ t.tqf =
    { s.tqf with pool := tabDel s.tqf.pool i, gen := tabPut s.tqf.gen i ((tabGet 0 s.tqf.gen i + 1) % 16384),
                 delivered := (s.tqf.delivered + 1) % 2 ^ 64 } ∧ t = { s with tqf := t.tqf, box := t.box }

/-! ### Ebbs by handle, queue and group -/

/-- EBB_CUT_STAGE: the cut instant, or one half of it, is staged (R99). -/
def ebbCutStageDoes : Prop := ∀ (m : Master) (hi : Bool) (wide : Bool) (v : Nat) (s : State),
  let e := s.ebbOf m
  let w : Word := BitVec.ofNat 32 v
  s.accepts ⟨m, if wide then 0x38100010 else if hi then 0x38100014 else 0x38100010, if wide then 8 else 4, v, true⟩ →
  Ends (.ebbCutStage m hi wide v) s fun t => t.ebbOf m = (if wide then
    { e with cutLo := some w, cutHi := some (BitVec.ofNat 32 (v / 2 ^ 32)) } else if hi then { e with cutHi := some w } else
    { e with cutLo := some w }) ∧ SameTab m.id s.tqf.ebb t.tqf.ebb ∧ t.tqf = { s.tqf with ebb := t.tqf.ebb } ∧ Written m
    0x38000000 s t ∧ t = { s with tqf := t.tqf, fab := t.fab }

/-- EBB_CMD_LOW_STAGE: the low word of EBB_CMD is staged (R99). -/
def ebbCmdLowStageDoes : Prop := ∀ (m : Master) (v : Nat) (s : State),
  s.accepts ⟨m, 0x38100018, 4, v, true⟩ →
  Ends (.ebbCmdLowStage m v) s fun t => t.ebbOf m = { s.ebbOf m with cmdLo := some (BitVec.ofNat 32 v) } ∧ SameTab m.id
    s.tqf.ebb t.tqf.ebb ∧ t.tqf = { s.tqf with ebb := t.tqf.ebb } ∧ Written m 0x38000000 s t ∧ t =
    { s with tqf := t.tqf, fab := t.fab }

/-- EBB_HANDLE: the entry a handle names is removed if it matches and is not committed; the counts wait for the result (R99–R102). -/
def ebbHandleDoes : Prop := ∀ (m : Master) (wide : Bool) (target : Nat) (high : Nat) (lo : Word) (hi : Word) (low : Word) (s : State),
  let h : Word := setFld (BitVec.ofNat 32 high) 8 2 0
  let to_ := if wide then target % 2 ^ 32 else low.toNat
  let e := s.ebbOf m
  let cut := lo.toNat + 2 ^ 32 * hi.toNat
  let epoch := fld h 0 8
  let at_ := s.tqfNow
  let hit := fun (x : Nat × Entry) => s.ebbMatch 0 to_ epoch cut at_ x.1 x.2
  let gone := s.tqf.pool.filter fun x => hit x && s.ebbRemoves at_ x.1 x.2
  let kept := s.tqf.pool.filter fun x => hit x && !s.ebbRemoves at_ x.1 x.2
  let first := (minList (kept.map fun x => x.2.inst)).getD (2 ^ 64 - 1)
  e.cutLo = some lo →
  e.cutHi = some hi →
  (wide = false → e.cmdLo = some low) →
  s.accepts ⟨m, if wide then 0x38100018 else 0x3810001C, if wide then 8 else 4, if wide then target % 2 ^ 32 + 2 ^ 32 * h.toNat
    else h.toNat, true⟩ →
  Ends (.ebbHandle m wide target high) s fun t => t.tqf.pool = s.tqf.pool.filter (fun x => !gone.any fun y => y.1 = x.1) ∧
    t.ebbOf m = ⟨none, none, none, true, false, (s.ofHandle to_).isNone, gone.length, kept.length, first, at_⟩ ∧ SameTab m.id
    s.tqf.ebb t.tqf.ebb ∧ SameRegsBut [Page.base .ebb + 0x40] s t ∧ (t.lastResp m).reason = .none ∧ t =
    { s with tqf := t.tqf, fab := t.fab, regs := t.regs, free := t.free }

/-- EBB_QUEUE: the matching entries of a queue; RAISE sets its EPOCH_MIN and EPOCH_CHK (R99–R102). -/
def ebbQueueDoes : Prop := ∀ (m : Master) (wide : Bool) (target : Nat) (high : Nat) (lo : Word) (hi : Word) (low : Word) (s : State),
  let h : Word := setFld (BitVec.ofNat 32 high) 8 2 1
  let to_ := if wide then target % 2 ^ 32 else low.toNat
  let e := s.ebbOf m
  let cut := lo.toNat + 2 ^ 32 * hi.toNat
  let epoch := fld h 0 8
  let at_ := s.tqfNow
  let hit := fun (x : Nat × Entry) => s.ebbMatch 1 to_ epoch cut at_ x.1 x.2
  let gone := s.tqf.pool.filter fun x => hit x && s.ebbRemoves at_ x.1 x.2
  let kept := s.tqf.pool.filter fun x => hit x && !s.ebbRemoves at_ x.1 x.2
  let first := (minList (kept.map fun x => x.2.inst)).getD (2 ^ 64 - 1)
  let qs := s.ebbQueues 1 to_
  e.cutLo = some lo →
  e.cutHi = some hi →
  (wide = false → e.cmdLo = some low) →
  s.accepts ⟨m, if wide then 0x38100018 else 0x3810001C, if wide then 8 else 4, if wide then target % 2 ^ 32 + 2 ^ 32 * h.toNat
    else h.toNat, true⟩ →
  Ends (.ebbQueue m wide target high) s fun t => t.tqf.pool = s.tqf.pool.filter (fun x => !gone.any fun y => y.1 = x.1) ∧
    t.ebbOf m = ⟨none, none, none, true, false, false, gone.length, kept.length, first, at_⟩ ∧ SameTab m.id s.tqf.ebb t.tqf.ebb
    ∧ (bit h 10 = true → ∀ q ∈ qs, fld (t.rd (qtabAddr q 4)) 8 8 = (epoch + 1) % 256 ∧ bit (t.rd (qtabAddr q 0)) 19 = true) ∧
    (bit h 10 = false → SameRegsBut [Page.base .ebb + 0x40] s t) ∧ SameRegsBut ((Page.base .ebb + 0x40) :: qs.flatMap fun q =>
    [qtabAddr q 0, qtabAddr q 4]) s t ∧ (t.lastResp m).reason = .none ∧ t =
    { s with tqf := t.tqf, fab := t.fab, regs := t.regs, free := t.free }

/-- EBB_GROUP: as a queue's, over every queue of a group (R81, R99–R102). -/
def ebbGroupDoes : Prop := ∀ (m : Master) (wide : Bool) (target : Nat) (high : Nat) (lo : Word) (hi : Word) (low : Word) (s : State),
  let h : Word := setFld (BitVec.ofNat 32 high) 8 2 2
  let to_ := if wide then target % 2 ^ 32 else low.toNat
  let e := s.ebbOf m
  let cut := lo.toNat + 2 ^ 32 * hi.toNat
  let epoch := fld h 0 8
  let at_ := s.tqfNow
  let hit := fun (x : Nat × Entry) => s.ebbMatch 2 to_ epoch cut at_ x.1 x.2
  let gone := s.tqf.pool.filter fun x => hit x && s.ebbRemoves at_ x.1 x.2
  let kept := s.tqf.pool.filter fun x => hit x && !s.ebbRemoves at_ x.1 x.2
  let first := (minList (kept.map fun x => x.2.inst)).getD (2 ^ 64 - 1)
  let qs := s.ebbQueues 2 to_
  e.cutLo = some lo →
  e.cutHi = some hi →
  (wide = false → e.cmdLo = some low) →
  s.accepts ⟨m, if wide then 0x38100018 else 0x3810001C, if wide then 8 else 4, if wide then target % 2 ^ 32 + 2 ^ 32 * h.toNat
    else h.toNat, true⟩ →
  Ends (.ebbGroup m wide target high) s fun t => t.tqf.pool = s.tqf.pool.filter (fun x => !gone.any fun y => y.1 = x.1) ∧
    t.ebbOf m = ⟨none, none, none, true, false, false, gone.length, kept.length, first, at_⟩ ∧ SameTab m.id s.tqf.ebb t.tqf.ebb
    ∧ (bit h 10 = true → ∀ q ∈ qs, fld (t.rd (qtabAddr q 4)) 8 8 = (epoch + 1) % 256 ∧ bit (t.rd (qtabAddr q 0)) 19 = true) ∧
    (bit h 10 = false → SameRegsBut [Page.base .ebb + 0x40] s t) ∧ SameRegsBut ((Page.base .ebb + 0x40) :: qs.flatMap fun q =>
    [qtabAddr q 0, qtabAddr q 4]) s t ∧ (t.lastResp m).reason = .none ∧ t =
    { s with tqf := t.tqf, fab := t.fab, regs := t.regs, free := t.free }

/-- QT_ERR_CLR: QT_ERR reads 0 (R108). -/
def qtErrClrDoes : Prop := ∀ (m : Master) (s : State),
  Clears (.qtErrClr m) m .tqf 0x58 1 [0x54] s

/-- EBB_RESULT_DONE: the result is complete, its event raised, and entries that stayed raise LEAK and count (R102, R109). -/
def ebbResultDoneDoes : Prop := ∀ (m : Master) (s : State),
  let e := s.ebbOf m
  e.busy = true →
  Ends (.ebbResultDone m) s fun t => t.ebbOf m = { e with busy := false, done := true } ∧ t.regF .ebb 0x20 1 1 = 1 ∧ (0 <
    e.leaked → t.regF .ebb 0x20 0 1 = 1 ∧ (t.reg .ebb 0x44).toNat = min ((s.reg .ebb 0x44).toNat + e.leaked) (2 ^ 32 - 1)) ∧
    (e.leaked = 0 → t.reg .ebb 0x44 = s.reg .ebb 0x44) ∧ SameRegsBut [Page.base .ebb + 0x20, Page.base .ebb + 0x44] s t ∧
    SameTab m.id s.tqf.ebb t.tqf.ebb ∧ t.tqf = { s.tqf with ebb := t.tqf.ebb } ∧ t =
    { s with tqf := t.tqf, fab := t.fab, regs := t.regs }

/-! ### Pin functions -/

/-- LEVEL_ACTION: the pin drives 0, 1, its complement, or its idle level; another payload makes no action (R115, R116). -/
def levelActionDoes : Prop := ∀ (port : Nat) (e : PortEntry) (s : State),
  let p := s.pin port
  let x := e.payload
  let d : Drive := if x = 0 then .low else if x = 1 then .high else if x = 2 then (if p.drive = .high then .low else .high)
    else s.pinIdle port
  s.entryDue port 0 1 e →
  (x.toNat ≤ 3 → exec (.levelAction port) s = .next
    { s.took e with pins := tabPut s.pins port { p with drive := d, acted := true } }) ∧ (3 < x.toNat → Ends (.levelAction
    port) s fun t => NoAction port (s.took e) t)

/-- PULSE_START: the pulse level to I + W, after which the level before the first of the pulses returns (R117). -/
def pulseStartDoes : Prop := ∀ (port : Nat) (e : PortEntry) (s : State),
  let p := s.pin port
  let w := fld e.payload 0 31
  let lv := bit e.payload 31
  let back := match p.pulse with | some q => q.back | none => p.drive
  s.entryDue port 0 2 e →
  (16 ≤ w → exec (.pulseStart port) s = .next
    { s.took e with pins := tabPut s.pins port { p with drive := levelDrive lv, acted := true, pulse := some ⟨lv, e.inst + w, back⟩ } })
    ∧ (w < 16 → Ends (.pulseStart port) s fun t => NoAction port (s.took e) t)

/-- PULSE_END: the level before the pulse returns (R117). -/
def pulseEndDoes : Prop := ∀ (port : Nat) (q : Pulse) (s : State),
  let p := s.pin port
  s.pinFunc port = 2 →
  p.pulse = some q →
  q.ends ≤ s.now →
  exec (.pulseEnd port) s = .next { s with pins := tabPut s.pins port { p with drive := q.back, pulse := none } }

/-- TRIGGER_PULSE_END: the trigger pulse ends (R117, R127). -/
def triggerPulseEndDoes : Prop := ∀ (port : Nat) (q : Pulse) (s : State),
  let p := s.pin port
  s.pinFunc port = 8 →
  p.pulse = some q →
  q.ends ≤ s.now →
  exec (.triggerPulseEnd port) s = .next { s with pins := tabPut s.pins port { p with drive := q.back, pulse := none } }

/-- PWM_DUTY_ENTRY preloads the duty (R118). -/
def pwmDutyEntryDoes : Prop := ∀ (port : Nat) (e : PortEntry) (s : State),
  let p := s.pin port
  let v := fld e.payload 0 28
  let hi := fld e.payload 28 4
  s.entryDue port 0 3 e →
  (hi = 0 → exec (.pwmDutyEntry port) s = .next
    { s.took e with pins := tabPut s.pins port { p with pwm := { p.pwm with preDuty := v } } }) ∧ (hi ≠ 0 → Ends (.pwmDutyEntry
    port) s fun t => NoAction port (s.took e) t)

/-- PWM_PERIOD_ENTRY preloads the period, at least 160 ticks (R118). -/
def pwmPeriodEntryDoes : Prop := ∀ (port : Nat) (e : PortEntry) (s : State),
  let p := s.pin port
  let v := fld e.payload 0 28
  let hi := fld e.payload 28 4
  s.entryDue port 1 3 e →
  (hi = 0 → 160 ≤ v → exec (.pwmPeriodEntry port) s = .next
    { s.took e with pins := tabPut s.pins port { p with pwm := { p.pwm with prePeriod := v } } }) ∧ (hi ≠ 0 ∨ v < 160 → Ends
    (.pwmPeriodEntry port) s fun t => NoAction port (s.took e) t)

/-- PWM_RUN_ENTRY: 1 starts the output with its preloads, 0 stops it at its idle level (R118). -/
def pwmRunEntryDoes : Prop := ∀ (port : Nat) (e : PortEntry) (s : State),
  let p := s.pin port
  s.entryDue port 2 3 e →
  (e.payload = 1 → p.pwm.run = false → 160 ≤ p.pwm.prePeriod → exec (.pwmRunEntry port) s = .next
    { s.took e with pins := tabPut s.pins port { p with drive := levelDrive (decide (p.pwm.preDuty ≠ 0)), acted := true, pwm := { p.pwm with run := true, period := p.pwm.prePeriod, duty := p.pwm.preDuty, start := e.inst, active := decide (p.pwm.preDuty ≠ 0) } } })
    ∧ (e.payload = 1 → p.pwm.run = true → exec (.pwmRunEntry port) s = .next (s.took e)) ∧ (e.payload = 0 → exec (.pwmRunEntry
    port) s = .next
    { s.took e with pins := tabPut s.pins port { p with drive := s.pinIdle port, pwm := { p.pwm with run := false, active := false } } })
    ∧ (1 < e.payload.toNat → Ends (.pwmRunEntry port) s fun t => NoAction port (s.took e) t)

/-- PWM_PERIOD_START: the preloads go live, and the active level is driven unless the duty is 0 (R118). -/
def pwmPeriodStartDoes : Prop := ∀ (port : Nat) (s : State),
  let p := s.pin port
  let on := decide (p.pwm.preDuty ≠ 0)
  let next := p.pwm.start + p.pwm.period
  p.pwm.run = true →
  next ≤ s.now →
  exec (.pwmPeriodStart port) s = .next
    { s with pins := tabPut s.pins port { p with drive := levelDrive on, acted := true, pwm := { p.pwm with run := true, period := p.pwm.prePeriod, duty := p.pwm.preDuty, start := next, active := on } } }

/-- PWM_DUTY_END: the active part of the period ends (R118). -/
def pwmDutyEndDoes : Prop := ∀ (port : Nat) (s : State),
  let p := s.pin port
  p.pwm.run = true →
  p.pwm.active = true →
  p.pwm.duty < p.pwm.period →
  p.pwm.start + p.pwm.duty ≤ s.now →
  exec (.pwmDutyEnd port) s = .next
    { s with pins := tabPut s.pins port { p with drive := .low, pwm := { p.pwm with active := false } } }

/-- STEPDIR_SEGMENT: direction and interval change; the first step follows the direction's set-up time and a running step (R119). -/
def stepdirSegmentDoes : Prop := ∀ (port : Nat) (e : PortEntry) (s : State),
  let p := s.pin port
  let n := fld e.payload 0 31
  let dir := bit e.payload 31
  let turn := dir != p.dir
  let w := fld (s.pinWord port 4) 0 16
  let set := if turn then e.inst + fld (s.pinWord port 8) 0 24 else e.inst
  let first := match p.stepEnd with | some x => max set x | none => set
  let seg := if n = 0 then none else some (⟨dir, n, first, 0⟩ : StepSeg)
  s.entryDue port 0 4 e →
  ((n = 0 ∨ (40 ≤ w ∧ 32 * w ≤ n)) → Ends (.stepdirSegment port) s fun t => t.pin port = { p with dir := dir, seg := seg } ∧
    (turn = true → t.pin (port + 1) = { s.pin (port + 1) with drive := levelDrive dir, acted := true }) ∧ SameTabBut (if turn
    then [port, port + 1] else [port]) s.pins t.pins ∧ t = { s.took e with pins := t.pins }) ∧ (¬ (n = 0 ∨ (40 ≤ w ∧ 32 * w ≤
    n)) → Ends (.stepdirSegment port) s fun t => NoAction port (s.took e) t)

/-- STEP_EDGE: a step pulse begins and counts, in the segment's direction (R119, R129). -/
def stepEdgeDoes : Prop := ∀ (port : Nat) (g : StepSeg) (s : State),
  let p := s.pin port
  let due := g.first + g.made * g.interval / 16
  p.seg = some g →
  due ≤ s.now →
  exec (.stepEdge port) s = .next
    { s with pins := tabPut s.pins port { p with drive := .high, seg := some { g with made := g.made + 1 }, stepEnd := some (due + fld (s.pinWord port 4) 0 16), cnt := p.cnt + (if g.dir then -1 else 1) } }

/-- STEP_PULSE_END: the step pin returns to 0 (R119). -/
def stepPulseEndDoes : Prop := ∀ (port : Nat) (at_ : Nat) (s : State),
  let p := s.pin port
  p.stepEnd = some at_ →
  at_ ≤ s.now →
  exec (.stepPulseEnd port) s = .next { s with pins := tabPut s.pins port { p with drive := .low, stepEnd := none } }

/-! ### Pin registers -/

/-- PIN_CFG_WRITE: the function and its options are taken; the further pins of the function read PAIRED (R111, R112, R534). -/
def pinCfgWriteDoes : Prop := ∀ (m : Master) (port : Nat) (v : Nat) (s : State),
  s.accepts (put32 m (pinPage port) (pinOff port 0) v) →
  port < 448 →
  v < 2 ^ 32 →
  Ends (.pinCfgWrite m port v) s fun t => t.pinCfg port = BitVec.ofNat 32 v ∧ (∀ q ∈ furtherPins port (BitVec.ofNat 32 v),
    t.pinFunc q = 15) ∧ SameTabBut (port :: (furtherPins port (s.pinCfg port) ++ furtherPins port (BitVec.ofNat 32 v))) s.pins
    t.pins ∧ SameRegsBut [(Page.base (pinPage port)) + pinOff port 0, (pinPage (port + 1)).base + pinOff (port + 1) 0, (pinPage
    (port + 2)).base + pinOff (port + 2) 0] s t ∧ Written m (Page.base (pinPage port)) s t ∧ t =
    { s with regs := t.regs, fab := t.fab, pins := t.pins }

/-- OFFSET_WRITE: OFFSET, 64 bits at once (R124). -/
def offsetWriteDoes : Prop := ∀ (m : Master) (port : Nat) (v : Nat) (s : State),
  s.accepts (put64 m (pinPage port) (pinOff port 0x18) v) →
  port < 448 →
  v < 2 ^ 64 →
  Ends (.offsetWrite m port v) s fun t => t.reg64 (pinPage port) (pinOff port 0x18) = v ∧ SameRegsBut [(Page.base (pinPage
    port)) + pinOff port 0x18, (Page.base (pinPage port)) + pinOff port 0x1C] s t ∧ Written m (Page.base (pinPage port)) s t ∧
    t = { s with regs := t.regs, fab := t.fab }

/-- CAPTURE_POP: the oldest record leaves the buffer; its other words are latched (R121, R129). -/
def capturePopDoes : Prop := ∀ (m : Master) (k : Nat) (c : Capture) (cs : List Capture) (wide : Bool) (s : State),
  s.serves (readOf m (.tio k) (0x48) wide) →
  k < 14 →
  (s.bank k).buf = c :: cs →
  s.pageRuns (.tio k) = true →
  Ends (.capturePop m k wide) s fun t => ReadBy m (if wide then (BitVec.ofNat 32 c.inst).toNat + 2 ^ 32 * (BitVec.ofNat 32
    (c.inst / 2 ^ 32)).toNat else (BitVec.ofNat 32 c.inst).toNat) s t ∧ Latched t m ((Page.base (.tio k))) ((Page.base (.tio
    k)) + (0x48) + 4) (BitVec.ofNat 32 (c.inst / 2 ^ 32)) ∧ Latched t m ((Page.base (.tio k))) ((Page.base (.tio k)) + (0x48) +
    8) (c.info) ∧ t.bank k = { s.bank k with buf := cs } ∧ SameTab k s.banks t.banks ∧ t =
    { s with fab := t.fab, banks := t.banks }

/-- PIN_COUNT_READ: CNT, its high word latched (R53, R129). -/
def pinCountReadDoes : Prop := ∀ (m : Master) (port : Nat) (wide : Bool) (s : State),
  s.serves (readOf m (pinPage port) (pinOff port 0x28) wide) →
  port < 448 →
  s.pageRuns (pinPage port) = true →
  Ends (.pinCountRead m port wide) s fun t => ReadBy m (if wide then (BitVec.ofInt 32 (s.pin port).cnt).toNat + 2 ^ 32 *
    (BitVec.ofInt 32 ((s.pin port).cnt / 2 ^ 32)).toNat else (BitVec.ofInt 32 (s.pin port).cnt).toNat) s t ∧ Latched t m
    ((Page.base (pinPage port))) ((Page.base (pinPage port)) + (pinOff port 0x28) + 4) (BitVec.ofInt 32 ((s.pin port).cnt / 2 ^
    32)) ∧ t = { s with fab := t.fab }

/-- COORD_READ: the latest coordinate and instant of the pin's source, latched together (R53, R129). -/
def coordReadDoes : Prop := ∀ (m : Master) (port : Nat) (wide : Bool) (s : State),
  s.serves (readOf m (pinPage port) (pinOff port 0x30) wide) →
  port < 448 →
  s.pageRuns (pinPage port) = true →
  Ends (.coordRead m port wide) s fun t => ReadBy m (if wide then (BitVec.ofInt 32 (s.pin port).sample.coord).toNat + 2 ^ 32 *
    (BitVec.ofInt 32 ((s.pin port).sample.coord / 2 ^ 32)).toNat else (BitVec.ofInt 32 (s.pin port).sample.coord).toNat) s t ∧
    Latched t m ((Page.base (pinPage port))) ((Page.base (pinPage port)) + (pinOff port 0x30) + 4) (BitVec.ofInt 32 ((s.pin
    port).sample.coord / 2 ^ 32)) ∧ Latched t m ((Page.base (pinPage port))) ((Page.base (pinPage port)) + (pinOff port 0x30) +
    8) (BitVec.ofNat 32 (s.pin port).sample.inst) ∧ Latched t m ((Page.base (pinPage port))) ((Page.base (pinPage port)) +
    (pinOff port 0x30) + 12) (BitVec.ofNat 32 ((s.pin port).sample.inst / 2 ^ 32)) ∧ t = { s with fab := t.fab }

/-- BANK_CNT_CLR: the counts of dropped edges and of undefined entries read 0 (R129). -/
def bankCntClrDoes : Prop := ∀ (m : Master) (k : Nat) (s : State),
  s.accepts (put32 m (.tio k) 0x5C 1) →
  k < 14 →
  Ends (.bankCntClr m k) s fun t => t.regF (.tio k) 0x54 16 16 = 0 ∧ t.reg (.tio k) 0x58 = 0 ∧ t.regF (.tio k) 0x54 0 16 =
    s.regF (.tio k) 0x54 0 16 ∧ SameRegsBut [(Page.base (.tio k)) + 0x54, (Page.base (.tio k)) + 0x58] s t ∧ Written m
    (Page.base (.tio k)) s t ∧ t = { s with regs := t.regs, fab := t.fab }

/-- CAPTURE_FLUSH: the capture buffer is empty (R129). -/
def captureFlushDoes : Prop := ∀ (m : Master) (k : Nat) (s : State),
  s.accepts (put32 m (.tio k) 0x5C 2) →
  k < 14 →
  Ends (.captureFlush m k) s fun t => t.bank k = { s.bank k with buf := [] } ∧ SameTab k s.banks t.banks ∧ SameRegsBut [] s t ∧
    Written m (Page.base (.tio k)) s t ∧ t = { s with regs := t.regs, fab := t.fab, banks := t.banks }

/-! ### Captures, quadrature and SSI encoders, and coordinate generators -/

/-- CAPTURE_EDGE: a selected edge is recorded with its stamp and the bank's edge sequence, or dropped and counted in a full buffer (R121, R129). -/
def captureEdgeDoes : Prop := ∀ (port : Nat) (level : Bool) (i : Nat) (s : State),
  let p := s.pin port
  let k := port / 32
  let b := s.bank k
  let raw := level != bit (s.pinCfg port) 6
  let rec_ : Capture := ⟨i, port % 32, level, b.dropped, b.seq⟩
  s.pinFunc port = 5 →
  bit (s.pinCfg port) (if level then 8 else 9) = true →
  Ends (.captureEdge port level i) s fun t => t.pin port = { p with input := raw, cnt := p.cnt + 1 } ∧ (b.buf.length < 256 →
    t.bank k = ⟨b.buf ++ [rec_], (b.seq + 1) % 65536, false⟩ ∧ t.regF (.tio k) 0x20 0 1 = 1 ∧ SameRegsBut [(Page.tio k).base +
    0x20] s t) ∧ (256 ≤ b.buf.length → t.bank k = { b with seq := (b.seq + 1) % 65536, dropped := true } ∧ t.regF (.tio k) 0x20
    1 1 = 1 ∧ t.regF (.tio k) 0x54 16 16 = min (s.regF (.tio k) 0x54 16 16 + 1) (2 ^ 16 - 1) ∧ SameRegsBut [(Page.tio k).base +
    0x20, (Page.tio k).base + 0x54] s t) ∧ SameTab port s.pins t.pins ∧ t =
    { s with regs := t.regs, fab := t.fab, pins := t.pins, banks := t.banks }

/-- QUAD_EDGE: a valid transition counts 1 in its direction; edges of A and B nearer than 80 ticks do not count and are reported (R122, R129). -/
def quadEdgeDoes : Prop := ∀ (port : Nat) (isB : Bool) (level : Bool) (i : Nat) (s : State),
  let p := s.pin port
  let near := (if isB then p.lastA else p.lastB).any fun x => decide (i - x < 80)
  let lv := if isB then (p.input, level) else (level, (s.pin (port + 1)).input)
  let turn := (quadPhase lv.1 lv.2 - quadPhase p.quadA p.quadB) % 4
  let one : Int := if turn = 1 then 1 else if turn = 3 then -1 else 0
  let step := if bit (s.pinCfg port) 6 then -one else one
  s.pinFunc port = 6 →
  sgn 64 (uns 64 (p.cnt + step)) = p.cnt + step →
  (near = false → turn ≠ 2 → Ends (.quadEdge port isB level i) s fun t => (t.pin port).cnt = p.cnt + step ∧ (t.pin port).quadA
    = lv.1 ∧ (t.pin port).quadB = lv.2 ∧ (t.pin port).input = (if isB then p.input else level) ∧ (t.pin port).drive = p.drive ∧
    (isB = true → (t.pin (port + 1)).input = level) ∧ SameTabBut [port, port + 1] s.pins t.pins ∧ t =
    { s with pins := t.pins }) ∧ (near = true → Ends (.quadEdge port isB level i) s fun t => (t.pin port).cnt = p.cnt ∧ (t.pin
    port).quadA = p.quadA ∧ (t.pin port).quadB = p.quadB ∧ bit (t.pinWord port 0x24) 1 = true ∧ t.regF (pinPage port) 0x20 3 1
    = 1 ∧ SameRegsBut [(pinPage port).base + 0x20, (pinPage port).base + pinOff port 0x24] s t ∧ t =
    { s with regs := t.regs, fab := t.fab, pins := t.pins })

/-- QUAD_SAMPLE: at a whole µs, OFFSET + floor(COUNT × SCALE / 65,536) (R29, R122). -/
def quadSampleDoes : Prop := ∀ (port : Nat) (i : Nat) (s : State),
  let p := s.pin port
  let x : Sample := ⟨i, sgn 64 (uns 64 (sgn64 (s.reg64 (pinPage port) (pinOff port 0x18)) + p.cnt * (s.pinWord port 4).toNat /
    65536))⟩
  s.pinFunc port = 6 →
  i % 8000 = 0 →
  i ≤ s.now →
  exec (.quadSample port i) s = .next
    { s with pins := tabPut s.pins port { p with sample := x, srcOk := true }, src := tabPut s.src (0x2000 + port) x }

/-- SSI_READ: a read begins at a multiple of PERIOD, its strobe high; its latch falls within the first clock period, a free value (R123). -/
def ssiReadDoes : Prop := ∀ (port : Nat) (i : Nat) (s : State),
  let p := s.pin port
  let latch := i + Config.freeNat s.free % (16 * fld (s.pinWord port 8) 0 13 + 1)
  s.pinFunc port = 7 →
  (s.pinWord port 12).toNat ≠ 0 →
  i % (s.pinWord port 12).toNat = 0 →
  i ≤ s.now →
  p.ssiLatch = none →
  Ends (.ssiRead port i) s fun t => t.pin port = { p with ssiLatch := some latch } ∧ t.pin (port + 2) =
    { s.pin (port + 2) with drive := .high, acted := true } ∧ SameTabBut [port, port + 2] s.pins t.pins ∧ t =
    { s with pins := t.pins, free := s.free + 1 }

/-- SSI_READ_DONE: the shortest way from the last raw value is counted and a sample made; a parity fault or an all-ones value makes none (R123, R129). -/
def ssiReadDoneDoes : Prop := ∀ (port : Nat) (raw : Nat) (parityBit : Bool) (parityOk : Bool) (i : Nat) (s : State),
  let p := s.pin port
  let cfg := s.pinWord port 4
  let n := fld cfg 0 6
  let v := raw % 2 ^ n
  let x := if bit cfg 6 then grayDecode n v else v
  let d := (x + 2 ^ n - p.ssiRaw.getD 0) % 2 ^ n
  let step : Int := if d ≤ 2 ^ (n - 1) then d else (d : Int) - 2 ^ n
  let failed := (bit cfg 7 && !parityOk) || (decide (v = 2 ^ n - 1) && (!bit cfg 7 || parityBit))
  let m := sgn 64 (uns 64 (p.cnt + step))
  let y : Sample := ⟨i, s.encCoord port (s.pinWord port 16).toNat m⟩
  p.ssiLatch = some i →
  (failed = false → Ends (.ssiReadDone port raw parityBit parityOk) s fun t => t.pin port =
    { p with ssiLatch := none, cnt := m, ssiRaw := some x, sample := y, srcOk := true } ∧ tabGet? t.src (0x3000 + port) = some
    y ∧ (t.pin (port + 2)).drive = .low ∧ SameTabBut [port, port + 2] s.pins t.pins ∧ t =
    { s with pins := t.pins, src := tabPut s.src (0x3000 + port) y }) ∧ (failed = true → Ends (.ssiReadDone port raw parityBit
    parityOk) s fun t => t.pin port = { p with ssiLatch := none, srcOk := false } ∧ (t.pin (port + 2)).drive = .low ∧ bit
    (t.pinWord port 0x24) 2 = true ∧ t.regF (pinPage port) 0x20 4 1 = 1 ∧ SameRegsBut [(pinPage port).base + 0x20, (pinPage
    port).base + pinOff port 0x24] s t ∧ t = { s with regs := t.regs, fab := t.fab, pins := t.pins })

/-- GENERATOR_START: the log clears, line numbers begin at LINE0, and the first target follows the source's latest sample (R125, R127). -/
def generatorStartDoes : Prop := ∀ (m : Master) (g : Nat) (cfg : Word) (s : State),
  s.accepts (put32 m .tioc (0x800 + g * 0x40) (setBit cfg 31 true).toNat) →
  g < 16 →
  Ends (.generatorStart m g cfg) s fun t => (s.genRun g = false → t.genCfg g = setBit cfg 31 true ∧ t.genWord g 0x1C =
    s.genWord g 0x10 ∧ t.genWord g 0x20 = 0 ∧ (t.gen g).log = [] ∧ (t.gen g).hist = [] ∧ (t.gen g).target = (tabGet? s.src (fld
    cfg 0 16)).map (fun x => firstTarget (s.genStart g) (s.genPitch g) x.coord) ∧ SameTab g s.gens t.gens) ∧ SameRegsBut
    [(Page.base .tioc) + 0x800 + 0x40 * g, (Page.base .tioc) + 0x818 + 0x40 * g, (Page.base .tioc) + 0x81C + 0x40 * g,
    (Page.base .tioc) + 0x820 + 0x40 * g] s t ∧ Written m (Page.base .tioc) s t ∧ t =
    { s with regs := t.regs, fab := t.fab, gens := t.gens }

/-- GENERATOR_STOP: every edge not yet begun is cancelled; the log stays (R127). -/
def generatorStopDoes : Prop := ∀ (m : Master) (g : Nat) (cfg : Word) (s : State),
  s.accepts (put32 m .tioc (0x800 + g * 0x40) (setBit cfg 31 false).toNat) →
  g < 16 →
  Ends (.generatorStop m g cfg) s fun t => t.genRun g = false ∧ (s.genRun g = true → (t.gen g).fixed = [] ∧ (t.gen g).plan =
    none ∧ (t.gen g).log = (s.gen g).log ∧ t.genWord g 0x18 = 0) ∧ SameTab g s.gens t.gens ∧ SameRegsBut [(Page.base .tioc) +
    0x800 + 0x40 * g, (Page.base .tioc) + 0x818 + 0x40 * g] s t ∧ Written m (Page.base .tioc) s t ∧ t =
    { s with regs := t.regs, fab := t.fab, gens := t.gens }

/-- TLOG_QUERY: FOUND with the line's instant and coordinate, AHEAD of the next line, or OLD (R127, R131). -/
def tlogQueryDoes : Prop := ∀ (m : Master) (wide : Bool) (v : Nat) (s : State),
  let q := s.tlogOf m
  let line := if wide then BitVec.ofNat 32 v else q.line
  let g := (if wide then v / 2 ^ 32 else v) % 16
  let found := (s.gen g).log.find? fun e => e.1 = line
  let r := match found with | some (_, i, c) => (1, i, c) | none => ((if (line - s.genWord g 0x1C).toNat < 2 ^ 31 then 3 else
    2), 0, 0)
  v < 2 ^ 64 →
  (if wide then s.accepts (put64 m .tioc 0x48 v) else s.accepts (put32 m .tioc 0x4C v)) →
  Ends (.tlogQuery m wide v) s fun t => t.tlogOf m = ⟨line, r.1, r.2.1, r.2.2⟩ ∧ SameTab m.id s.tlog t.tlog ∧ SameRegsBut
    [Page.base .tioc + 0x48, Page.base .tioc + 0x4C] s t ∧ Written m (Page.base .tioc) s t ∧ t =
    { s with regs := t.regs, fab := t.fab, tlog := t.tlog }

/-- GENERATOR_SAMPLE: the sample enters the history; edges already fixed stand, and new ones are fixed once a full span of samples is there (R125, R126). -/
def generatorSampleDoes : Prop := ∀ (g : Nat) (x : Sample) (s : State),
  let gn := s.gen g
  let c := gn.target.getD (firstTarget (s.genStart g) (s.genPitch g) x.coord)
  s.genRun g = true →
  tabGet? s.src (s.genSrc g) = some x →
  (gn.taken.any fun i => decide (x.inst ≤ i)) = false →
  Ends (.generatorSample g) s fun t => (t.gen g).hist = (x :: gn.hist).take (2 * s.genSpan g + 1) ∧ (t.gen g).taken = some
    x.inst ∧ (t.gen g).last = s.now ∧ (∃ fresh, (t.gen g).fixed = gn.fixed ++ fresh) ∧ (t.gen g).log = gn.log ∧ (gn.hist.length
    < s.genSpan g → (t.gen g).fixed = gn.fixed ∧ (t.gen g).target = some c) ∧ SameTab g s.gens t.gens ∧ SameRegsBut [Page.base
    .tioc + 0x20, Page.base .tioc + (0x818 + g * 0x40), Page.base .tioc + (0x820 + g * 0x40)] s t ∧ t =
    { s with regs := t.regs, fab := t.fab, gens := t.gens }

/-- TRIGGER_EDGE: a fixed edge is made: a trigger pulse, a line number, a log entry (R127). -/
def triggerEdgeDoes : Prop := ∀ (g : Nat) (i : Nat) (c : Int) (rest : List (Nat × Int)) (s : State),
  let gn := s.gen g
  let port := s.genPort g
  let p := s.pin port
  let line := s.genWord g 0x1C
  let w := fld (s.genWord g 0x14) 0 16
  let back := match p.pulse with | some q => q.back | none => p.drive
  gn.fixed = (i, c) :: rest →
  i ≤ s.now →
  Ends (.triggerEdge g) s fun t => t.gen g = { gn with fixed := rest, log := ((line, i, c) :: gn.log).take 4096 } ∧ t.genWord g
    0x1C = line + 1 ∧ t.pin port =
    { p with drive := .high, acted := true, pulse := some ⟨true, i + w, back⟩, cnt := p.cnt + 1 } ∧ SameTab g s.gens t.gens ∧
    SameTab port s.pins t.pins ∧ SameRegsBut [Page.base .tioc + (0x81C + g * 0x40)] s t ∧ t =
    { s with regs := t.regs, gens := t.gens, pins := t.pins }

/-- GENERATOR_STALL: no sample for 4 intervals: STALL with its event; the history is empty and fixed edges stand (R126, R132). -/
def generatorStallDoes : Prop := ∀ (g : Nat) (s : State),
  let gn := s.gen g
  s.genRun g = true →
  gn.last + 4 * s.srcInterval (s.genSrc g) ≤ s.now →
  bit (s.genWord g 0x18) 1 = false →
  g < 16 →
  Ends (.generatorStall g) s fun t => t.gen g = { gn with hist := [], plan := none } ∧ t.genWord g 0x18 = 2 ∧ t.regF .tioc 0x20
    g 1 = 1 ∧ SameTab g s.gens t.gens ∧ SameRegsBut [Page.base .tioc + 0x20, Page.base .tioc + (0x818 + g * 0x40)] s t ∧ t =
    { s with regs := t.regs, fab := t.fab, gens := t.gens }

/-! ### Network sending -/

/-- CYCLIC_FRAME: one SET frame of the slot's entries in channel order, but for those a later end would make late (R138–R140, R143, R144). -/
def cyclicFrameDoes : Prop := ∀ (seg : Nat) (i : Nat) (start : Nat) (s : State),
  let port := 448 + seg
  let n := s.netPort port
  let mine := ((s.unsent port).filter fun e => e.inst = i && s.chanType port e.chan = 0 && s.chanValid port e.chan).foldr
    insertByChan []
  let ends := fun (k : Nat) => start + 34 * 6400 + 6400 * tailBytes k
  let split := s.include (fun k => (ends k : Int)) mine [] []
  let sent := split.1.map fun e => (⟨s.chanObject port e.chan, e.payload⟩ : NetRecord)
  s.netRuns port = true →
  s.isSlot seg i = true →
  i ≤ start + s.segHL seg + 201600 →
  n.lastSlot ≠ some i →
  Ends (.cyclicFrame seg i start) s fun t => t.netPort port =
    { n with seq := (n.seq + 1) % 65536, lastFrame := some ⟨.set, false, false, n.seq, s.asTime i, sent, none⟩,
             lastHead := some ⟨s.regF .t1sc 0x40 0 16, s.reg64 .t1sc 0x4C / 64 * 64 + seg, s.reg64 .t1sc 0x44 / 64 * 64 + seg, none⟩,
             lastSlot := some i, busyUntil := ends split.1.length } ∧ t.box.waiting = s.box.waiting.map (fun e => if (split.1
    ++ split.2).contains e then { e with sent := true } else e) ∧ (split.2 = [] → SameRegsBut [(netPage port).base + netOff
    port 0x30 0x6C] s t ∧ SameMemory s t) ∧ SameTab port s.net t.net ∧ t.box.due = s.box.due ∧ t =
    { s with regs := t.regs, fab := t.fab, mem := t.mem, tags := t.tags, net := t.net, box := t.box }

/-- ACYCLIC_FRAME: the first group of entries in instant order, of one type; its ACKREQ records await their ACK; records that would be late are dropped (R138–R142, R144, R145, R147). -/
def acyclicFrameDoes : Prop := ∀ (seg : Nat) (start : Nat) (s : State),
  let port := 448 + seg
  let n := s.netPort port
  let es := (s.unsent port).filter fun e => s.chanValid port e.chan && e.inst + 16000 ≤ start + s.segHL seg && !(s.chanType
    port e.chan = 0 && s.isSlot seg e.inst)
  let group := s.frameGroup port es
  let ends := fun (k : Nat) => start + 34 * 6400 + 6400 * tailBytes k
  let split := s.include (fun k => (ends k : Int)) group [] []
  let ack := split.1.filter fun e => s.chanAck port e.chan
  s.netRuns port = true →
  n.busyUntil ≤ start →
  (∀ e ∈ split.1.head?.toList, s.chanType port e.chan ≤ 1 → Ends (.acyclicFrame seg start) s fun t => (t.netPort
    port).lastFrame = some ⟨if s.chanType port e.chan = 0 then .set else .get, !ack.isEmpty, false, n.seq, s.asTime e.inst,
    split.1.map s.recordOf, none⟩ ∧ (t.netPort port).lastHead = some ⟨s.regF .t1sc 0x40 0 16, s.reg64 .t1sc 0x4C / 64 * 64 +
    seg, s.reg64 .t1sc 0x44 / 64 * 64 + seg, none⟩ ∧ (t.netPort port).seq = (n.seq + 1) % 65536 ∧ (t.netPort port).busyUntil =
    ends split.1.length ∧ (t.netPort port).acks = n.acks ++ ack.map (fun x => ⟨n.seq, if s.chanType port e.chan = 0 then .set
    else .get, x.chan, s.chanObject port x.chan, x.payload, x.inst, ends split.1.length, 0⟩) ∧ t.box.waiting =
    s.box.waiting.map (fun x => if group.contains x then { x with sent := true } else x) ∧ (split.2 = [] → SameRegsBut
    [(netPage port).base + netOff port 0x30 0x6C] s t ∧ SameMemory s t) ∧ SameTab port s.net t.net ∧ t.box.due = s.box.due ∧ t
    = { s with regs := t.regs, fab := t.fab, mem := t.mem, tags := t.tags, net := t.net, box := t.box }) ∧ (∀ e ∈
    split.1.head?.toList, ∀ c ∈ (tabGet? n.safe e.chan).toList, s.chanType port e.chan = 2 → Ends (.acyclicFrame seg start) s
    fun t => (t.netPort port).lastFrame = some ⟨.safe, false, false, n.seq, s.asTime e.inst, [⟨s.chanObject port e.chan,
    e.payload⟩], some (c.txSeq, s.safeCode port e.chan (headerBytes 5 0 0 0 n.seq (s.asTime e.inst)) (s.chanObject port e.chan)
    e.payload c.txSeq)⟩ ∧ (t.netPort port).lastHead = some ⟨s.regF .t1sc 0x40 0 16, s.reg64 .t1sc 0x4C / 64 * 64 + seg, s.reg64
    .t1sc 0x44 / 64 * 64 + seg, none⟩ ∧ tabGet? (t.netPort port).safe e.chan = some
    { c with txSeq := nextWd c.txSeq, lastTx := s.now, value := e.payload } ∧ SameTab port s.net t.net) ∧ (split.1 = [] → group
    ≠ [] → Ends (.acyclicFrame seg start) s fun t => t.net = s.net ∧ t.box.waiting = s.box.waiting.map (fun x => if
    group.contains x then { x with sent := true } else x))

/-- TSN_FRAME: as an acyclic frame, of one destination, in an open gate (R138–R142, R144, R146). -/
def tsnFrameDoes : Prop := ∀ (n0 : Nat) (start : Nat) (s : State),
  let port := 496 + n0
  let n := s.netPort port
  let dcfg := fun (c : Nat) => s.reg (.tsn n0) (0x404 + fld (s.desc port c 12) 16 5 * 8)
  let es := (s.unsent port).filter fun e => s.chanValid port e.chan && e.inst ≤ start + 80000
  let group := s.frameGroup port es
  let ends := fun (k : Nat) => start + s.byteTicks port (frameBytes (group.any fun e => bit (s.reg (.tsn n0) (0x404 + fld
    (s.desc port e.chan 12) 16 5 * 8)) 31) k)
  let split := s.include (fun k => (ends k : Int)) group [] []
  let ack := split.1.filter fun e => s.chanAck port e.chan
  s.netRuns port = true →
  n.busyUntil ≤ start →
  group.length = 1 →
  s.gateOpen n0 (s.regF (.tsn n0) 0x40 3 3) start (ends (group.length)) = true →
  (∀ e ∈ split.1.head?.toList, s.chanType port e.chan ≤ 1 → Ends (.tsnFrame n0 start) s fun t => (t.netPort port).lastFrame =
    some ⟨if s.chanType port e.chan = 0 then .set else .get, !ack.isEmpty, false, n.seq, s.asTime e.inst, split.1.map
    s.recordOf, none⟩ ∧ (t.netPort port).lastHead = some ⟨s.regF .t1sc 0x40 0 16, fld (dcfg e.chan) 0 16 * 2 ^ 32 + (s.reg
    (.tsn n0) (0x400 + fld (s.desc port e.chan 12) 16 5 * 8)).toNat, s.reg64 .t1sc 0x44 / 64 * 64 + 48 + n0, if bit (dcfg
    e.chan) 31 then some (fld (dcfg e.chan) 28 3, fld (dcfg e.chan) 16 12) else none⟩ ∧ (t.netPort port).seq = (n.seq + 1) %
    65536 ∧ (t.netPort port).busyUntil = ends split.1.length ∧ (t.netPort port).acks = n.acks ++ ack.map (fun x => ⟨n.seq, if
    s.chanType port e.chan = 0 then .set else .get, x.chan, s.chanObject port x.chan, x.payload, x.inst, ends split.1.length,
    0⟩) ∧ t.box.waiting = s.box.waiting.map (fun x => if group.contains x then { x with sent := true } else x) ∧ (split.2 = []
    → SameRegsBut [(netPage port).base + netOff port 0x30 0x6C] s t ∧ SameMemory s t) ∧ SameTab port s.net t.net ∧ t.box.due =
    s.box.due ∧ t = { s with regs := t.regs, fab := t.fab, mem := t.mem, tags := t.tags, net := t.net, box := t.box }) ∧ (∀ e ∈
    split.1.head?.toList, ∀ c ∈ (tabGet? n.safe e.chan).toList, s.chanType port e.chan = 2 → Ends (.tsnFrame n0 start) s fun t
    => (t.netPort port).lastFrame = some ⟨.safe, false, false, n.seq, s.asTime e.inst, [⟨s.chanObject port e.chan, e.payload⟩],
    some (c.txSeq, s.safeCode port e.chan (headerBytes 5 0 0 0 n.seq (s.asTime e.inst)) (s.chanObject port e.chan) e.payload
    c.txSeq)⟩ ∧ (t.netPort port).lastHead = some ⟨s.regF .t1sc 0x40 0 16, fld (dcfg e.chan) 0 16 * 2 ^ 32 + (s.reg (.tsn n0)
    (0x400 + fld (s.desc port e.chan 12) 16 5 * 8)).toNat, s.reg64 .t1sc 0x44 / 64 * 64 + 48 + n0, if bit (dcfg e.chan) 31 then
    some (fld (dcfg e.chan) 28 3, fld (dcfg e.chan) 16 12) else none⟩ ∧ tabGet? (t.netPort port).safe e.chan = some
    { c with txSeq := nextWd c.txSeq, lastTx := s.now, value := e.payload } ∧ SameTab port s.net t.net) ∧ (split.1 = [] → group
    ≠ [] → Ends (.tsnFrame n0 start) s fun t => t.net = s.net ∧ t.box.waiting = s.box.waiting.map (fun x => if group.contains x
    then { x with sent := true } else x))

/-- ACYCLIC_FRAME of a port that does not run: records past their deadline are dropped and counted LATE (R134; log entry 126). -/
def acyclicFrameOverdue : Prop := ∀ (seg : Nat) (start : Nat) (s : State),
  let port := 448 + seg
  let es := (s.unsent port).filter fun e => s.deadline port e.chan e.inst < s.now
  let cnt := netOff port 0x24 0x60
  s.netRuns port = false →
  Ends (.acyclicFrame seg start) s fun t => t.net = s.net ∧ t.box.waiting = s.box.waiting.map (fun e => if es.contains e then
    { e with sent := true } else e) ∧ (t.reg (netPage port) cnt).toNat = min ((s.reg (netPage port) cnt).toNat + es.length) (2
    ^ 32 - 1) ∧ t.box.due = s.box.due ∧ t = { s with regs := t.regs, fab := t.fab, mem := t.mem, tags := t.tags, box := t.box }

/-- TSN_FRAME of a port that does not run: records past their deadline are dropped and counted LATE (R134; log entry 126). -/
def tsnFrameOverdue : Prop := ∀ (n0 : Nat) (start : Nat) (s : State),
  let port := 496 + n0
  let es := (s.unsent port).filter fun e => s.deadline port e.chan e.inst < s.now
  let cnt := netOff port 0x24 0x60
  s.netRuns port = false →
  Ends (.tsnFrame n0 start) s fun t => t.net = s.net ∧ t.box.waiting = s.box.waiting.map (fun e => if es.contains e then
    { e with sent := true } else e) ∧ (t.reg (netPage port) cnt).toNat = min ((s.reg (netPage port) cnt).toNat + es.length) (2
    ^ 32 - 1) ∧ t.box.due = s.box.due ∧ t = { s with regs := t.regs, fab := t.fab, mem := t.mem, tags := t.tags, box := t.box }

/-- SYNC_SEND: Sync and Follow_Up carry the 802.1AS time of the present (R136). -/
def syncSendDoes : Prop := ∀ (seg : Nat) (s : State),
  let port := 448 + seg
  let n := s.netPort port
  s.netRuns port = true →
  bit (s.reg (segPage seg) (segOff seg 0)) 14 = true →
  exec (.syncSend seg) s = .next
    { s with net := tabPut s.net port { n with syncs := n.syncs + 1, lastSync := s.asTime s.now } }

/-- TSN_MASTER_SYNC_SEND (R137). -/
def tsnMasterSyncSendDoes : Prop := ∀ (n0 : Nat) (s : State),
  let port := 496 + n0
  let n := s.netPort port
  s.netRuns port = true →
  s.asRole n0 = 1 →
  exec (.tsnMasterSyncSend n0) s = .next
    { s with net := tabPut s.net port { n with syncs := n.syncs + 1, lastSync := s.asTime s.now } }

/-- PEER_DELAY_EXCHANGE: the measured delay (R137, R152). -/
def peerDelayExchangeDoes : Prop := ∀ (n0 : Nat) (ns : Word) (s : State),
  s.netRuns (496 + n0) = true →
  bit (s.reg (.tsn n0) 0x40) 7 = true →
  exec (.peerDelayExchange n0 ns) s = .next (s.setReg (.tsn n0) 0x74 ns)

/-- T1S_CNT_CLR: the segment's counters read 0 (R151). -/
def t1sCntClrDoes : Prop := ∀ (m : Master) (seg : Nat) (s : State),
  seg < 48 →
  Clears (.t1sCntClr m seg) m (segPage seg) (segOff seg 0x34) 1 [segOff seg 0x24, segOff seg 0x28, segOff seg 0x2C, segOff seg
    0x30] s

/-- TSN_CNT_CLR: the port's counters read 0 (R152). -/
def tsnCntClrDoes : Prop := ∀ (m : Master) (n : Nat) (s : State),
  n < 16 →
  Clears (.tsnCntClr m n) m (.tsn n) 0x70 1 [0x60, 0x64, 0x68, 0x6C] s

/-! ### Network receiving -/

/-- ACK_RECEIVE: the acknowledged records of the frame's sequence await no more (R141, R147). -/
def ackReceiveDoes : Prop := ∀ (port : Nat) (f : RxFrame) (s : State),
  let n := s.netPort port
  let recs := rxRecords f.records
  let left := n.acks.filter fun a => decide (a.seq ≠ f.seq) || (decide (a.type ≠ .get) && !(recs.any fun r => r.1 = a.object))
  f.bad = false →
  f.type = 4 →
  Ends (.ackReceive port f) s fun t => t.netPort port = { n with acks := left } ∧ SameTab port s.net t.net ∧ SameRegsBut
    [Page.base .t1sc + 0x20] s t ∧ t = { s with regs := t.regs, fab := t.fab, mem := t.mem, tags := t.tags, net := t.net }

/-- ACK_TIMEOUT: overdue records are sent again while retries are left and their deadline allows; the others are NOACK and counted (R147). -/
def ackTimeoutDoes : Prop := ∀ (port : Nat) (start : Nat) (a : PendingAck) (s : State),
  let n := s.netPort port
  let cfg := s.reg (netPage port) (netOff port 0x18 0x58)
  let mine := n.acks.filter fun x => x.seq = a.seq
  n.acks.find? (fun a => a.sentAt + fld cfg 0 16 * 8000 ≤ s.now) = some a →
  Ends (.ackTimeout port start) s fun t => (∀ x, x ∈ n.acks → x.seq ≠ a.seq → x ∈ (t.netPort port).acks) ∧ (fld cfg 16 2 ≤
    a.retries → (∀ x ∈ (t.netPort port).acks, x.seq ≠ a.seq) ∧ (t.netPort port).lastFrame = n.lastFrame ∧ (t.reg (netPage port)
    (netOff port 0x28 0x64)).toNat = min ((s.reg (netPage port) (netOff port 0x28 0x64)).toNat + mine.length) (2 ^ 32 - 1)) ∧
    (∀ x ∈ (t.netPort port).acks, x.seq = a.seq → ∃ y ∈ mine, x.retries = y.retries + 1 ∧ x.object = y.object) ∧ SameTab port
    s.net t.net ∧ t = { s with regs := t.regs, fab := t.fab, mem := t.mem, tags := t.tags, net := t.net }

/-- EVENT_FRAME_RECEIVE: each record up to the first of NODE 0 goes to the network receive log with its device instant; a frame that R139 discards only counts (R139, R140, R141, R148). -/
def eventFrameReceiveDoes : Prop := ∀ (port : Nat) (f : RxFrame) (s : State),
  (f.bad = false → f.type = 3 → exec (.eventFrameReceive port f) s = .next ((rxRecords f.records).foldl (fun t r => t.rxLog
    port 0 r.1 r.2.toNat (s.ofAsTime f.asTime)) s)) ∧ (f.bad = true ∨ f.type ≠ 3 → Ends (.eventFrameReceive port f) s fun t =>
    (t.reg (netPage port) (netOff port 0x2C 0x68)).toNat = min ((s.reg (netPage port) (netOff port 0x2C 0x68)).toNat + 1) (2 ^
    32 - 1) ∧ SameRegsBut [(netPage port).base + netOff port 0x2C 0x68] s t ∧ t = { s with regs := t.regs })

/-- RX_FRAME_DISCARD: counted in RX_ERR, no other effect (R137, R139). -/
def rxFrameDiscardDoes : Prop := ∀ (port : Nat) (foreign : Bool) (f : RxFrame) (s : State),
  (foreign || f.bad) = true →
  Ends (.rxFrameDiscard port foreign f) s fun t => (t.reg (netPage port) (netOff port 0x2C 0x68)).toNat = min ((s.reg (netPage
    port) (netOff port 0x2C 0x68)).toNat + 1) (2 ^ 32 - 1) ∧ SameRegsBut [(netPage port).base + netOff port 0x2C 0x68] s t ∧ t
    = { s with regs := t.regs }

/-- SAFE_FRAME_RECEIVE: a frame is accepted on its SAFE_CRC and the next WD_SEQ, else counted (R142). -/
def safeFrameReceiveDoes : Prop := ∀ (port : Nat) (chan : Nat) (f : RxFrame) (c : SafeConn) (obj : Nat) (v : Word) (rest : List (Nat × Word)) (s : State),
  let n := s.netPort port
  let h := headerBytes f.type f.ackReq.toNat f.retry.toNat f.reserved f.seq f.asTime
  let code := s.safeCode port chan h obj v f.wdSeq
  let inSeq := match c.rxSeq with | none => decide (f.wdSeq ≠ 0) | some l => decide (f.wdSeq = nextWd l)
  tabGet? n.safe chan = some c →
  f.records = (obj, v) :: rest →
  f.type = 5 →
  (f.bad = false → f.safeCrc = code → inSeq = true → exec (.safeFrameReceive port chan f) s = .next
    { s with net := tabPut s.net port { n with safe := tabPut n.safe chan { c with rxSeq := some f.wdSeq, lastRx := s.now } } })
    ∧ (f.bad = true ∨ f.safeCrc ≠ code ∨ inSeq = false → Ends (.safeFrameReceive port chan f) s fun t => (t.reg (netPage port)
    (netOff port 0x2C 0x68)).toNat = min ((s.reg (netPage port) (netOff port 0x2C 0x68)).toNat + 1) (2 ^ 32 - 1) ∧ SameRegsBut
    [(netPage port).base + netOff port 0x2C 0x68] s t ∧ t = { s with regs := t.regs })

/-- SAFE_KEEPALIVE: the last value again, with instant 0 and the next WD_SEQ (R142). -/
def safeKeepaliveDoes : Prop := ∀ (port : Nat) (chan : Nat) (c : SafeConn) (s : State),
  let n := s.netPort port
  let crc := s.safeCode port chan (headerBytes 5 0 0 0 n.seq 0) (s.chanObject port chan) c.value c.txSeq
  tabGet? n.safe chan = some c →
  c.lastTx + s.safeTmo port / 2 ≤ s.now →
  Ends (.safeKeepalive port chan) s fun t => (t.netPort port).lastFrame = some ⟨.safe, false, false, n.seq, 0, [⟨s.chanObject
    port chan, c.value⟩], some (c.txSeq, crc)⟩ ∧ tabGet? (t.netPort port).safe chan = some
    { c with txSeq := nextWd c.txSeq, lastTx := s.now } ∧ (t.netPort port).seq = (n.seq + 1) % 65536 ∧ SameTab port s.net t.net
    ∧ SameRegsBut [(netPage port).base + netOff port 0x30 0x6C] s t ∧ t = { s with regs := t.regs, net := t.net }

/-- SAFE_CONNECTION_LOST: source SAFE_LOSS, an event and a log record; the connection opens anew (R142, R148). -/
def safeConnectionLostDoes : Prop := ∀ (port : Nat) (chan : Nat) (c : SafeConn) (s : State),
  let n := s.netPort port
  tabGet? n.safe chan = some c →
  c.lastRx + s.safeTmo port ≤ s.now →
  448 ≤ port →
  port < 512 →
  Ends (.safeConnectionLost port chan) s fun t => tabGet? (t.netPort port).safe chan = some ⟨1, none, s.now, s.now, 0⟩ ∧ t.regF
    (netPage port) 0x20 (netIrqBit port 2) 1 = 1 ∧ t.raised = (s.raiseFault 0x20).raised ∧ SameTab port s.net t.net ∧
    SameRegsBut [(netPage port).base + 0x20, Page.base .t1sc + 0x20] s t ∧ t =
    { s with regs := t.regs, fab := t.fab, mem := t.mem, tags := t.tags, net := t.net, raised := t.raised }

/-- SAFE_CONNECTION_OPEN: WD_SEQ begins at 1, and any WD_SEQ but 0 is taken next (R142). -/
def safeConnectionOpenDoes : Prop := ∀ (port : Nat) (chan : Nat) (s : State),
  let n := s.netPort port
  s.safeCond port chan = true →
  tabGet? n.safe chan = none →
  exec (.safeConnectionOpen port chan) s = .next
    { s with net := tabPut s.net port { n with safe := tabPut n.safe chan ⟨1, none, s.now, s.now, 0⟩ } }

/-- SEGMENT_LINK_CHANGE: SEG_STAT, and the segment's SAFE connections follow (R142, R151). -/
def segmentLinkChangeDoes : Prop := ∀ (seg : Nat) (up : Bool) (s : State),
  let en := bit (s.reg (segPage seg) (segOff seg 0)) 0
  Ends (.segmentLinkChange seg up) s fun t => t.reg (segPage seg) (segOff seg 0x20) = (if up then (if en then 3 else 1) else 0)
    ∧ SameTab (448 + seg) s.net t.net ∧ SameRegsBut [(segPage seg).base + segOff seg 0x20] s t ∧ t =
    { s with regs := t.regs, net := t.net }

/-- TSN_LINK_CHANGE: LINK of a port that is not the slave of the timebase, its event, and its SAFE connections follow (R142, R152). -/
def tsnLinkChangeDoes : Prop := ∀ (n : Nat) (up : Bool) (s : State),
  ¬ (up = false ∧ s.asRole n = 2) →
  Ends (.tsnLinkChange n up) s fun t => t.reg (.tsn n) 0x44 = (if up then 1 else 0) ∧ (bit (s.reg (.tsn n) 0x44) 0 ≠ up →
    t.regF (.tsn n) 0x20 3 1 = 1) ∧ SameTab (496 + n) s.net t.net ∧ SameRegsBut [(Page.tsn n).base + 0x44, (Page.tsn n).base +
    0x20] s t ∧ t = { s with regs := t.regs, fab := t.fab, net := t.net }

/-! ### Mark Tracker -/

/-- TRACKER_SOURCE_SAMPLE: the sample enters the slot's history, the estimate follows, and every WAIT and PROV visit of the source is in the new sweep (R154, R173). -/
def trackerSourceSampleDoes : Prop := ∀ (slot : Nat) (x : Sample) (s : State),
  let id := fld (s.slotCfg slot) 0 16
  let n := fld (s.slotCfg slot) 16 12
  let sl := s.slot slot
  bit (s.slotCfg slot) 31 = true →
  tabGet? s.src id = some x →
  (sl.taken.any fun i => decide (x.inst ≤ i)) = false →
  s.trkHalted = false →
  (∀ c ∈ s.openCtxs, s.ctxSource c ≠ id ∨ s.rd (tplAddr (s.ctxTemplate c) 4) = 0) →
  Ends (.trackerSourceSample slot) s fun t => (t.slot slot).hist = (x :: sl.hist).take (2 * n + 1) ∧ (t.slot slot).last = s.now
    ∧ (t.slot slot).taken = some x.inst ∧ (2 * n ≤ sl.hist.length → t.slotStat slot 0 = true) ∧ t.slotStat slot 1 = false ∧
    (t.slotStat slot 2 = false → t.slotStat slot 0 = true → (t.slot slot).sweep = (s.openCtxs.filter fun c => s.ctxSource c =
    id).flatMap (fun c => ((List.range 8).filter fun v => s.vstate c v = 1 || s.vstate c v = 2).map fun v => (c, v)) ∧
    SameRegsBut [Page.base .trk + (0x804 + slot * 0x10), Page.base .trk + (0x808 + slot * 0x10), Page.base .trk + (0x80C + slot
    * 0x10)] s t) ∧ t =
    { s with regs := t.regs, fab := t.fab, mem := t.mem, tags := t.tags, trk := t.trk, tqf := t.tqf, free := t.free }

/-- SOURCE_STALL: with no provisional visit on the source, STALL is set and the sweep is empty (R155). -/
def sourceStallDoes : Prop := ∀ (slot : Nat) (s : State),
  let id := fld (s.slotCfg slot) 0 16
  bit (s.slotCfg slot) 31 = true →
  (s.slot slot).last + 4 * s.srcInterval id ≤ s.now →
  s.slotStat slot 1 = false →
  s.trkHalted = false →
  (∀ c ∈ s.openCtxs, s.ctxSource c = id → ∀ v, v < 8 → s.vstate c v ≠ 2) →
  (∀ c ∈ s.openCtxs, s.ctxSource c = id → ∃ v, v < 8 ∧ s.vstate c v ≠ 0 ∧ s.vstate c v < 4) →
  Ends (.sourceStall slot) s fun t => t.slotStat slot 1 = true ∧ t.slot slot = { s.slot slot with sweep := [] } ∧ SameTab slot
    s.trk.slots t.trk.slots ∧ SameRegsBut [Page.base .trk + (0x804 + slot * 0x10), Page.base .trk + (0x808 + slot * 0x10),
    Page.base .trk + (0x80C + slot * 0x10)] s t ∧ t =
    { s with regs := t.regs, fab := t.fab, mem := t.mem, tags := t.tags, trk := t.trk, tqf := t.tqf, free := t.free }

/-- CONTEXT_OPEN_DEFERRED: the oldest waiting open is performed in its context and counts in its microsecond's 8 (R163, R164, R178). -/
def contextOpenDeferredDoes : Prop := ∀ (r : OpenReq) (rest : List OpenReq) (c : Nat) (s : State),
  s.trk.waiting = r :: rest →
  s.opensNow < 8 →
  r.ctx = some c →
  c < 16384 →
  r.template < 256 →
  Ends .contextOpenDeferred s fun t => t.trk.waiting = rest ∧ t.trk.openWin = s.now / 8000 ∧ t.trk.openCnt = s.opensNow + 1 ∧
    t.rd (ctxAddr c 0) = BitVec.ofNat 32 r.origin ∧ t.rd (ctxAddr c 4) = BitVec.ofNat 32 (r.origin / 2 ^ 32) ∧ t.rd (ctxAddr c
    8) = BitVec.ofNat 32 (r.source + r.cls * 2 ^ 16 + r.template * 2 ^ 24) ∧ t.rd (ctxAddr c 0x10) = r.cross ∧ t.rd (ctxAddr c
    0x14) = r.width ∧ t =
    { s with regs := t.regs, fab := t.fab, mem := t.mem, tags := t.tags, trk := t.trk, tqf := t.tqf, free := t.free }

/-- VISIT_EVALUATE: a WAIT visit whose mark cannot be predicted waits on, one whose mark has passed is MISSED, one predicted in time is submitted for its instant P or turned away; a provisional one at its freeze point is FROZEN (R165–R169, R173). -/
def visitEvaluateDoes : Prop := ∀ (slot : Nat) (c : Nat) (v : Nat) (p : Int) (s : State),
  let x := s.visit c v
  let sl := s.slot slot
  let now := (s.now : Int)
  s.sweepNext = some (slot, c, v) →
  s.trkHalted = false →
  s.ctxOpen c = true →
  s.trk.repred = none →
  v < 8 →
  c < 16384 →
  (s.vstate c v = 1 → s.visPredict slot c v = .none → Ends .visitEvaluate s fun t => t.vstate c v = 1 ∧ t.slot slot =
    { sl with sweep := sl.sweep.erase (c, v) } ∧ SameRegsBut [] s t ∧ t =
    { s with regs := t.regs, fab := t.fab, mem := t.mem, tags := t.tags, trk := t.trk, tqf := t.tqf, free := t.free }) ∧
    (s.vstate c v = 1 → s.visPredict slot c v = .passed → Ends .visitEvaluate s fun t => t.vstate c v = 5 ∧ t.rd (ctxAddr c
    (0x20 + 4 * v)) = 0 ∧ t.tqf = s.tqf ∧ t.regF .trk 0x20 0 1 = 1) ∧ (s.vstate c v = 1 → s.visPredict slot c v = .at_ p →
    s.qLead x.queue ≤ p - now → p - now ≤ 2 ^ 33 - 8000 → Ends .visitEvaluate s fun t => (t.vstate c v = 2 ∨ t.vstate c v = 3 →
    (t.visit c v).sub = p.toNat ∧ t.tqf.pool.length = s.tqf.pool.length + 1) ∧ (t.vstate c v ∉ [2, 3] → t.tqf.pool =
    s.tqf.pool) ∧ t.vstate c v ∈ [1, 2, 3, 5, 8]) ∧ (s.vstate c v = 2 → s.freezePoint c v ≤ s.now → Ends .visitEvaluate s fun t
    => t.vstate c v = 3 ∧ t.tqf = s.tqf)

/-- REPREDICTION_RESULT: a leaked entry makes the visit LEAKED, a lost one LOST; a removed one is submitted anew, waits, or is cancelled (R170, R171). -/
def repredictionResultDoes : Prop := ∀ (r : Repred) (s : State),
  let e := s.ebbOf .tracker
  let st := fun (t : State) => t.vstate r.ctx r.visit
  s.trk.repred = some r →
  e.busy = true →
  r.visit < 8 →
  r.ctx < 16384 →
  Ends .repredictionResult s fun t => t.trk.repred = none ∧ (t.ebbOf .tracker).busy = false ∧ (e.leaked ≠ 0 → st t = 9) ∧
    (e.leaked = 0 → (e.stale = true ∨ e.removed = 0) → st t = 10) ∧ (e.leaked = 0 → e.stale = false → e.removed ≠ 0 → (r.next =
    1 → st t = 1) ∧ (r.next = 2 → st t = 11) ∧ (r.next = 0 → st t ∈ [1, 2, 3, 5, 8]))

/-- VISIT_FREEZE: a provisional visit that no evaluation has reached is FROZEN at F, counted in EVAL_SHORT where its last sample is too old (R169, R173). -/
def visitFreezeDoes : Prop := ∀ (c : Nat) (v : Nat) (s : State),
  let late := decide (16000 < s.freezePoint c v - ((s.visit c v).sampled : Int))
  s.vstate c v = 2 →
  (s.visit c v).seen = false →
  (s.trk.repred.any fun r => r.ctx = c && r.visit = v) = false →
  s.freezePoint c v ≤ s.now →
  v < 8 →
  Ends (.visitFreeze c v) s fun t => t.vstate c v = 3 ∧ (t.reg .trk 0x88).toNat = (if late then min ((s.reg .trk 0x88).toNat +
    1) (2 ^ 32 - 1) else (s.reg .trk 0x88).toNat) ∧ SameRegsBut [ctxAddr c 0x18, Page.base .trk + 0x20, Page.base .trk + 0x88]
    s t ∧ t = { s with regs := t.regs, fab := t.fab }

/-- VISIT_DONE: at its instant a frozen visit is DONE, its handle gone; the context closes once every visit is terminal (R165, R169, R175). -/
def visitDoneDoes : Prop := ∀ (c : Nat) (v : Nat) (s : State),
  s.vstate c v = 3 →
  (s.visit c v).sub ≤ s.now →
  v < 8 →
  c < 16384 →
  s.ctxOpen c = true →
  Ends (.visitDone c v) s fun t => t.vstate c v = 4 ∧ t.rd (ctxAddr c (0x20 + 4 * v)) = 0 ∧ (t.ctxOpen c = false ↔ ∀ u, u < 8 →
    t.vstate c u = 0 ∨ 4 ≤ t.vstate c u) ∧ t.tqf = s.tqf ∧ t =
    { s with regs := t.regs, fab := t.fab, mem := t.mem, tags := t.tags, trk := t.trk, tqf := t.tqf, free := t.free }

/-! ### Mark Tracker -/

/-- SOURCE_SLOT_WRITE: the slot follows its source from an empty history (R153). -/
def sourceSlotWriteDoes : Prop := ∀ (m : Master) (i : Nat) (v : Nat) (s : State),
  s.accepts (put32 m .trk (0x800 + 16 * i) v) →
  i < 16 →
  v < 2 ^ 32 →
  Ends (.sourceSlotWrite m i v) s fun t => t.slotCfg i = BitVec.ofNat 32 v ∧ t.slot i = ⟨[], [], s.now, (tabGet? s.src (v % 2 ^
    16)).map Sample.inst⟩ ∧ t.reg .trk (0x80C + 16 * i) = 0 ∧ SameTab i s.trk.slots t.trk.slots ∧ SameRegsBut [(Page.base .trk)
    + (0x800 + 16 * i), (Page.base .trk) + (0x804 + 16 * i), (Page.base .trk) + (0x808 + 16 * i), (Page.base .trk) + (0x80C +
    16 * i)] s t ∧ Written m (Page.base .trk) s t ∧ t = { s with regs := t.regs, fab := t.fab, trk := t.trk }

/-- FW_INST_STAGE: the sample's instant is staged for the master (R156). -/
def fwInstStageDoes : Prop := ∀ (m : Master) (f : Nat) (v : Nat) (s : State),
  s.accepts (put64 m .trk (0xC00 + 16 * f) v) →
  f < 64 →
  v < 2 ^ 64 →
  Ends (.fwInstStage m f v) s fun t => tabGet? t.trk.fw (m.id * 64 + f) = some v ∧ SameTab (m.id * 64 + f) s.trk.fw t.trk.fw ∧
    t.trk = { s.trk with fw := t.trk.fw } ∧ SameRegsBut [] s t ∧ Written m (Page.base .trk) s t ∧ t =
    { s with regs := t.regs, fab := t.fab, trk := t.trk }

/-- FW_SAMPLE_COMMIT: the staged instant and the coordinate make the source's latest sample (R156). -/
def fwSampleCommitDoes : Prop := ∀ (m : Master) (f : Nat) (v : Nat) (i : Nat) (s : State),
  s.accepts (put64 m .trk (0xC08 + 16 * f) v) →
  f < 64 →
  v < 2 ^ 64 →
  tabGet? s.trk.fw (m.id * 64 + f) = some i →
  Ends (.fwSampleCommit m f v) s fun t => tabGet? t.src (0x4000 + f) = some ⟨i, sgn 64 v⟩ ∧ SameTab (0x4000 + f) s.src t.src ∧
    tabGet? t.trk.fw (m.id * 64 + f) = none ∧ SameTab (m.id * 64 + f) s.trk.fw t.trk.fw ∧ SameRegsBut [(Page.base .trk) +
    (0xC08 + 16 * f), (Page.base .trk) + (0xC0C + 16 * f)] s t ∧ Written m (Page.base .trk) s t ∧ t =
    { s with regs := t.regs, fab := t.fab, trk := t.trk, src := t.src }

/-- STATION_WRITE: a word of a station that stays as valid or invalid as it was, or becomes valid (R161, R179). -/
def stationWriteDoes : Prop := ∀ (m : Master) (t0 : Nat) (word : Nat) (v : Nat) (s : State),
  t0 < 256 →
  word < 16 →
  (s.stnValid t0 = false ∨ word ≠ 2 ∨ v / 2 ^ 31 = 1) →
  v < 2 ^ 32 →
  s.accepts ⟨m, 0x3C100000 + 64 * t0 + 4 * word, 4, v, true⟩ →
  Ends (.stationWrite m t0 word v) s fun t => t.rd (0x3C100000 + 64 * t0 + 4 * word) = BitVec.ofNat 32 v ∧ SameRegsBut
    [0x3C100000 + 64 * t0 + 4 * word] s t ∧ Written m 0x3C000000 s t ∧ t = { s with regs := t.regs, fab := t.fab }

/-- TEMPLATE_WRITE: a word of an action template (R180). -/
def templateWriteDoes : Prop := ∀ (m : Master) (t0 : Nat) (word : Nat) (v : Nat) (s : State),
  t0 < 256 →
  word < 64 →
  v < 2 ^ 32 →
  s.accepts ⟨m, 0x3C200000 + 256 * t0 + 4 * word, 4, v, true⟩ →
  Ends (.templateWrite m t0 word v) s fun t => t.rd (0x3C200000 + 256 * t0 + 4 * word) = BitVec.ofNat 32 v ∧ SameRegsBut
    [0x3C200000 + 256 * t0 + 4 * word] s t ∧ Written m 0x3C000000 s t ∧ t = { s with regs := t.regs, fab := t.fab }

/-- OPEN_CMD: the staged origin is consumed; the open is performed at once, its context in OPEN_RES, or refused for a full table, or waits its turn (R162, R163). -/
def openCmdDoes : Prop := ∀ (m : Master) (v : Nat) (lo : Word) (hi : Word) (s : State),
  let st := s.openStage m.id
  let stn := v % 256
  let r : OpenReq := ⟨1, lo.toNat + 2 ^ 32 * hi.toNat, s.stnSource stn, stn, v / 2 ^ 8 % 256, v / 2 ^ 16 % 256, st.cross,
    st.width, none, none, m.id⟩
  st.lo = some lo →
  st.hi = some hi →
  s.accepts (put32 m .trk 0x68 v) →
  Ends (.openCmd m v) s fun t => (t.openStage m.id).lo = none ∧ (t.openStage m.id).hi = none ∧ (s.trk.waiting ≠ [] ∨ 8 ≤
    s.opensNow → t.trk.waiting = s.trk.waiting ++ [r] ∧ SameRegsBut [Page.base .trk + 0x68] s t) ∧ (s.trk.waiting = [] →
    s.opensNow < 8 → t.trk.openCnt = s.opensNow + 1 ∧ t.trk.waiting = [] ∧ (s.ctxFull = true → (t.openStage m.id).res = 2) ∧
    (s.ctxFull = false → (t.openStage m.id).res.toNat % 2 ^ 16 = 1)) ∧ (t.lastResp m).reason = .none ∧ t =
    { s with regs := t.regs, fab := t.fab, mem := t.mem, tags := t.tags, trk := t.trk, tqf := t.tqf, free := t.free }

/-- CONTEXT_CANCEL of a context without provisional visits: every WAIT visit is CANCELLED (R165, R175). -/
def contextCancelDoes : Prop := ∀ (m : Master) (v : Nat) (s : State),
  let c := v % 2 ^ 14
  s.accepts (put32 m .trk 0x70 v) →
  (∀ u, u < 8 → s.vstate c u ≠ 2) →
  Ends (.contextCancel m v) s fun t => (∀ u, u < 8 → t.vstate c u = (if s.vstate c u = 1 then 11 else s.vstate c u)) ∧ t.tqf =
    s.tqf ∧ (t.lastResp m).reason = .none ∧ t =
    { s with regs := t.regs, fab := t.fab, mem := t.mem, tags := t.tags, trk := t.trk }

/-- TR_ERR_CLR: TR_ERR reads 0 (R182). -/
def trErrClrDoes : Prop := ∀ (m : Master) (s : State),
  Clears (.trErrClr m) m .trk 0x54 1 [0x50] s

/-- TRACKER_STAT_CLR: the tracker's counters read 0 (R182). -/
def trackerStatClrDoes : Prop := ∀ (m : Master) (s : State),
  Clears (.trackerStatClr m) m .trk 0x8C 1 [0x78, 0x7C, 0x80, 0x84, 0x88] s

/-! ### Roll-map appends and records, and the registers of Surf -/

/-- APPEND_WORD: the word stands in the master's append window (R186). -/
def appendWordDoes : Prop := ∀ (m : Master) (w : Nat) (v : Nat) (s : State),
  s.accepts (put32 m .rmap (0x900 + 4 * w) v) →
  w < 7 →
  v < 2 ^ 32 →
  Ends (.appendWord m w v) s fun t => tabGet? (t.append m.id).words w = some (BitVec.ofNat 32 v) ∧ SameTab w (s.append
    m.id).words (t.append m.id).words ∧ (t.append m.id).res = (s.append m.id).res ∧ SameTab m.id s.roll.append t.roll.append ∧
    t.roll.ovf = s.roll.ovf ∧ SameRegsBut [] s t ∧ Written m (Page.base .rmap) s t ∧ t =
    { s with regs := t.regs, fab := t.fab, roll := t.roll }

/-- APPEND_COMMIT: the staged words, FW set, OVF_BEFORE as owed, and the CRC make the record of the next slot; at a full ring the class's policy drops it or overwrites the oldest (R184, R186). -/
def appendCommitDoes : Prop := ∀ (m : Master) (v : Nat) (w : Nat → Word) (f : Nat) (s : State),
  let slot := (s.reg .rmap 0x44).toNat % 65536
  let a := rmAddr slot
  let cls := fld (w 5) 16 8
  let thr := s.regF .rmap 0x50 0 17
  let same := fun (t : State) => SameTab m.id s.roll.append t.roll.append ∧ (t.append m.id).words = [] ∧ Written m (Page.base
    .rmap) s t ∧ t = { s with regs := t.regs, fab := t.fab, roll := t.roll, mem := t.mem, tags := t.tags }
  let put := fun (t : State) => (t.append m.id).res = BitVec.ofNat 32 (1 + slot * 2 ^ 16) ∧ (∀ k, k < 6 → t.memN (a + 4 * k) 4
    = (w k).toNat) ∧ t.memN (a + 24) 4 = (w 6).toNat ||| (if s.roll.ovf then 0xC0 else 0x40) ∧ t.memN (a + 28) 2 = v % 2 ^ 16 ∧
    t.memN (a + 30) 2 = (crc16 (readBytes t.mem a 30)).toNat ∧ SameMemoryBut a (a + 32) s t ∧ t.reg .rmap 0x44 = s.reg .rmap
    0x44 + 1 ∧ t.roll.ovf = false
  (∀ k, k < 7 → tabGet? (s.append m.id).words k = some (w k)) →
  s.accepts (put32 m .rmap 0x91C v) →
  s.rmFill = f →
  f ≤ 65536 →
  (f < 65536 → Ends (.appendCommit m v) s fun t => put t ∧ same t ∧ (t.regF .rmap 0x20 0 1 = if thr ≠ 0 ∧ f + 1 = thr then 1
    else s.regF .rmap 0x20 0 1) ∧ SameRegsBut [Page.base .rmap + 0x44, Page.base .rmap + 0x20] s t) ∧ (f = 65536 →
    s.rmOverwrites cls = true → Ends (.appendCommit m v) s fun t => put t ∧ same t ∧ t.reg .rmap 0x48 = s.reg .rmap 0x48 + 1 ∧
    (t.reg .rmap 0x58).toNat = min ((s.reg .rmap 0x58).toNat + 1) (2 ^ 32 - 1) ∧ t.regF .rmap 0x20 1 1 = 1) ∧ (f = 65536 →
    s.rmOverwrites cls = false → Ends (.appendCommit m v) s fun t => (t.append m.id).res = 2 ∧ t.roll.ovf = true ∧ (t.reg .rmap
    0x54).toNat = min ((s.reg .rmap 0x54).toNat + 1) (2 ^ 32 - 1) ∧ t.regF .rmap (0xC00 + cls * 4) 0 16 = min (s.regF .rmap
    (0xC00 + cls * 4) 0 16 + 1) 65535 ∧ t.regF .rmap 0x20 1 1 = 1 ∧ SameRegsBut [Page.base .rmap + 0x54, Page.base .rmap +
    0x20, Page.base .rmap + 0xC00 + cls * 4] s t ∧ SameMemory s t ∧ same t)

/-- RM_RD_WRITE: the records up to the written count are consumed (R185). -/
def rmRdWriteDoes : Prop := ∀ (m : Master) (v : Nat) (s : State),
  s.accepts (put32 m .rmap 0x48 v) →
  Ends (.rmRdWrite m v) s fun t => t.reg .rmap 0x48 = BitVec.ofNat 32 v ∧ t.rmFill = s.rmFill - (BitVec.ofNat 32 v - s.reg
    .rmap 0x48).toNat ∧ SameRegsBut [(Page.base .rmap) + 0x48] s t ∧ Written m (Page.base .rmap) s t ∧ t =
    { s with regs := t.regs, fab := t.fab }

/-- ROLLMAP_CLR: DROPPED, OVERWRITTEN and every class count read 0 (R188). -/
def rollmapClrDoes : Prop := ∀ (m : Master) (s : State),
  s.accepts (put32 m .rmap 0x60 1) →
  Ends (.rollmapClr m) s fun t => t.reg .rmap 0x54 = 0 ∧ t.reg .rmap 0x58 = 0 ∧ (∀ c, c < 256 → t.reg .rmap (0xC00 + 4 * c) =
    0) ∧ (∀ a, a ∉ [Page.base .rmap + 0x54, Page.base .rmap + 0x58] → a < Page.base .rmap + 0xC00 ∨ Page.base .rmap + 0x1000 ≤
    a → t.rd a = s.rd a) ∧ Written m (Page.base .rmap) s t ∧ t = { s with regs := t.regs, fab := t.fab }

/-- ROLLMAP_RECORD_WRITE: the next group in turn gives a blob; with room in the ring, its record is the next, its context opened where its class and its coordinate allow (R162, R183, R184, R215). -/
def rollmapRecordWriteDoes : Prop := ∀ (g : Nat) (b : Blob) (rest : List Blob) (s : State),
  let slot := (s.reg .rmap 0x44).toNat % 65536
  let a := rmAddr slot
  let r := s.blobRecord b
  let owed := if s.roll.ovf then 0x80 else 0
  ((List.range 8).map fun k => (s.surf.lastGroup + 1 + k) % 8).find? (fun g => !(tabGet [] s.surf.blobs g).isEmpty) = some g →
  tabGet? s.surf.blobs g = some (b :: rest) →
  s.rmFill < 65536 →
  Ends .rollmapRecordWrite s fun t => tabGet [] t.surf.blobs g = rest ∧ t.surf.lastGroup = g ∧ SameTab g s.surf.blobs
    t.surf.blobs ∧ t.reg .rmap 0x44 = s.reg .rmap 0x44 + 1 ∧ t.roll.ovf = false ∧ t.memN a 8 = r.coord % 2 ^ 64 ∧ t.memN (a +
    8) 4 = r.cross.toNat ∧ t.memN (a + 12) 4 = r.area.toNat ∧ t.memN (a + 16) 3 = r.bwidth % 2 ^ 24 ∧ t.memN (a + 19) 3 =
    r.length % 2 ^ 24 ∧ t.memN (a + 22) 2 = r.cls % 256 + 256 * (r.size % 256) ∧ t.memN (a + 26) 2 = r.patch % 2 ^ 16 ∧ t.memN
    (a + 30) 2 = (crc16 (readBytes t.mem a 30)).toNat ∧ (bit (s.rd (classAddr b.cls)) 31 = false ∨ bit (wordOf r.flags) 4 =
    true → t.memN (a + 24) 2 = (r.flags ||| owed) % 2 ^ 16 ∧ t.memN (a + 28) 2 = 0xFFFF ∧ t.trk = s.trk) ∧ (bit (s.rd
    (classAddr b.cls)) 31 = true → bit (wordOf r.flags) 4 = false → t.memN (a + 24) 2 = (r.flags ||| owed) % 2 ^ 16 ∧ t.memN (a
    + 28) 2 = 0xFFFF ∨ t.memN (a + 24) 2 = (r.flags ||| 0x800 ||| owed) % 2 ^ 16 ∧ t.memN (a + 28) 2 < 16384) ∧ SameMemoryBut a
    (a + 32) s t ∧ t =
    { s with regs := t.regs, fab := t.fab, surf := t.surf, roll := t.roll, mem := t.mem, tags := t.tags, trk := t.trk,
             free := t.free }

/-- FF_DATA_ACCESS: FF_DATA is the selected pixel's flat-field word, and PIXEL goes on with AUTO (R200). -/
def ffDataAccessDoes : Prop := ∀ (m : Master) (g : Nat) (v : Nat) (s : State),
  let f := s.reg (.surfL g) 0x40
  let k := (8 * g + fld f 11 3) * 2048 + fld f 0 11
  let moved := fun (t : State) => (t.regF (.surfL g) 0x40 0 11 = if bit f 31 then (fld f 0 11 + 1) % 2048 else fld f 0 11) ∧
    t.regF (.surfL g) 0x40 11 21 = s.regF (.surfL g) 0x40 11 21 ∧ SameRegsBut [Page.base (.surfL g) + 0x40] s t
  v < 2 ^ 32 →
  (s.accepts (put32 m (.surfL g) 0x44 v) → Ends (.ffDataAccess m g true v) s fun t => moved t ∧ tabGet 0x4000 t.surf.ff k =
    BitVec.ofNat 32 v ∧ SameTab k s.surf.ff t.surf.ff ∧ Written m (Page.base (.surfL g)) s t ∧ t =
    { s with regs := t.regs, fab := t.fab, surf := { s.surf with ff := t.surf.ff } }) ∧ (s.serves (readOf m (.surfL g) 0x44
    false) → Ends (.ffDataAccess m g false v) s fun t => moved t ∧ t.lastResp m = ⟨.none, (tabGet 0x4000 s.surf.ff k).toNat⟩ ∧
    t = { s with regs := t.regs, fab := t.fab })

/-- KCOMMIT: the lane of a running camera takes its shadow copies at its next line (R202). -/
def kcommitDoes : Prop := ∀ (m : Master) (l : Nat) (s : State),
  let a := Page.base (lanePage l) + laneOff l 8
  l < 64 →
  s.accepts ⟨m, a, 4, 1, true⟩ →
  Ends (.kcommit m l) s fun t => ((s.laneCam l).isSome = true → t.lane l = { s.lane l with pend := true } ∧ SameTab l
    s.surf.lanes t.surf.lanes ∧ t.surf = { s.surf with lanes := t.surf.lanes }) ∧ ((s.laneCam l).isSome = false → t.surf =
    s.surf) ∧ SameRegsBut [] s t ∧ Written m (Page.base (lanePage l)) s t ∧ t =
    { s with regs := t.regs, fab := t.fab, surf := t.surf }

/-- SURF_GROUP_CLR: the group's counters read 0 (R218). -/
def surfGroupClrDoes : Prop := ∀ (m : Master) (g : Nat) (s : State),
  Clears (.surfGroupClr m g) m (.surfG g) 0x5C 1 [0x4C, 0x50, 0x54, 0x58] s

/-- CAMERA_CLR: the camera's counters read 0 (R219). -/
def cameraClrDoes : Prop := ∀ (m : Master) (c : Nat) (s : State),
  c < 16 →
  Clears (.cameraClr m c) m (camPage c) (camOff c 0x38) 1 [camOff c 0x28, camOff c 0x2C, camOff c 0x30, camOff c 0x34] s

/-- SURF_LANE_CLR: the lane's counters read 0 (R221). -/
def surfLaneClrDoes : Prop := ∀ (m : Master) (l : Nat) (s : State),
  l < 64 →
  Clears (.surfLaneClr m l) m (lanePage l) (laneOff l 0x1C) 1 [laneOff l 0x10, laneOff l 0x14] s

/-! ### Surf -/

/-- CAMERA_ENABLE: the camera starts with no line; each of its lanes takes its shadow copies; where no other camera drains, nothing else of Surf changes (R193, R202). -/
def cameraEnableDoes : Prop := ∀ (m : Master) (c : Nat) (cfg : Word) (s : State),
  let v := cfg ||| 1
  let first := fld cfg 6 6
  let n := fld cfg 12 6
  let a := Page.base (camPage c) + camOff c 0
  c < 16 →
  s.camEn c = false →
  s.accepts ⟨m, a, 4, v.toNat, true⟩ →
  Ends (.cameraEnable m c cfg) s fun t => t.camCfg c = v ∧ t.surfCam c = ⟨[], 0, 0, false, false⟩ ∧ (∀ j, j < n → t.lane (first
    + j) = ⟨0, [], s.laneShadow (first + j), false⟩) ∧ ((∀ d, d < 16 → d ≠ c → (s.surfCam d).draining = false) → SameTab c
    s.surf.cams t.surf.cams ∧ (∀ l, l < first ∨ first + n ≤ l → tabGet? t.surf.lanes l = tabGet? s.surf.lanes l) ∧ t.surf =
    { s.surf with cams := t.surf.cams, lanes := t.surf.lanes } ∧ SameRegsBut [a] s t ∧ t.free = s.free) ∧ Written m (Page.base
    (camPage c)) s t ∧ t = { s with regs := t.regs, fab := t.fab, surf := t.surf, free := t.free }

/-- CAMERA_DISABLE: the camera drains; lines that wait in its link's buffer are discarded and their credits returned (R217). -/
def cameraDisableDoes : Prop := ∀ (m : Master) (c : Nat) (cfg : Word) (s : State),
  let a := Page.base (camPage c) + camOff c 0
  let v := cfg &&& 0xFFFFFFFE
  let l := fld cfg 1 5
  c < 16 →
  s.camEn c = true →
  s.accepts ⟨m, a, 4, v.toNat, true⟩ →
  Ends (.cameraDisable m c cfg) s fun t => t.camCfg c = v ∧ t.surfCam c = { s.surfCam c with draining := true } ∧ SameTab c
    s.surf.cams t.surf.cams ∧ t.surf = { s.surf with cams := t.surf.cams } ∧ (t.inLink l).lines = [] ∧ (t.inLink l).freed.getD
    0 0 = (s.inLink l).freed.getD 0 0 + ((s.inLink l).lines.map fun g => g.credits).sum ∧ SameTab l s.gh.inl t.gh.inl ∧
    SameRegsBut [a] s t ∧ Written m (Page.base (camPage c)) s t ∧ t =
    { s with regs := t.regs, fab := t.fab, surf := t.surf, gh := t.gh }

/-- CAMERA_DRAIN_DONE: with no line, window, fragment or blob of the camera left, draining ends and DRAINED is raised (R217, R218). -/
def cameraDrainDoneDoes : Prop := ∀ (c : Nat) (s : State),
  (s.surfCam c).draining = true →
  (s.surfCam c).started = false →
  c < 16 →
  (s.surf.wins.any fun w => w.cam = c) = false →
  (s.surf.blobs.any fun e => e.2.any fun b => b.cam = c) = false →
  (s.surf.frags.any fun e => e.2.cam = c) = false →
  Ends (.cameraDrainDone c) s fun t => t.surfCam c = ⟨[], 0, 0, false, false⟩ ∧ SameTab c s.surf.cams t.surf.cams ∧ t.regF
    (camPage c) 0x20 (8 + c % 2) 1 = 1 ∧ SameRegsBut [Page.base (camPage c) + 0x20] s t ∧ t =
    { s with regs := t.regs, fab := t.fab, surf := t.surf }

/-- LINE_INTAKE: a line of the wrong width or depth, or not after the last, is discarded and counted; the first line, or the next, is accepted where every lane has room for it; its credit is returned (R196, R198, R250). -/
def lineIntakeDoes : Prop := ∀ (c : Nat) (x : GhLine) (rest : List GhLine) (s : State),
  let l := fld (s.camCfg c) 1 5
  let k := s.surfCam c
  let n := x.num + s.camWord c 8
  let p := Page.base (camPage c)
  let took := fun (t : State) => (t.inLink l).lines = rest ∧ (t.inLink l).freed.getD 0 0 = (s.inLink l).freed.getD 0 0 +
    x.credits ∧ SameTab l s.gh.inl t.gh.inl ∧ t =
    { s with regs := t.regs, fab := t.fab, surf := t.surf, gh := t.gh, free := t.free }
  let bad := fun (t : State) => (t.reg (camPage c) (camOff c 0x34)).toNat = min ((s.reg (camPage c) (camOff c 0x34)).toNat + 1)
    (2 ^ 32 - 1) ∧ t.regF (camPage c) 0x20 (6 + c % 2) 1 = 1 ∧ SameRegsBut [p + camOff c 0x34, p + 0x20] s t ∧ t.surf = s.surf
  let good := decide (x.pixels.length = s.camWidth c ∧ x.depth = fld (s.camCfg c) 18 2)
  let into := fun (t : State) (num : Nat) => t.reg (camPage c) (camOff c 0x24) = n ∧ t.reg (camPage c) (camOff c 0x28) = s.reg
    (camPage c) (camOff c 0x28) + 1 ∧ SameRegsBut [p + camOff c 0x24, p + camOff c 0x28] s t ∧ (t.surfCam c).lines.head? = some
    ⟨num, x.pixels, []⟩ ∧ (t.surfCam c).last = num ∧ (t.surfCam c).started = true ∧ (t.surfCam c).draining = k.draining ∧
    SameTab c s.surf.cams t.surf.cams
  (s.inLink l).lines = x :: rest →
  c < 16 →
  s.camEn c = true →
  (good = false → Ends (.lineIntake c) s fun t => took t ∧ bad t) ∧ (good = true → k.started = true → n = BitVec.ofNat 32
    k.last ∨ 2 ^ 31 ≤ (n - BitVec.ofNat 32 k.last).toNat → Ends (.lineIntake c) s fun t => took t ∧ bad t) ∧ (good = true →
    k.started = false → s.stitchWith c = [] → s.camRoom c = true → Ends (.lineIntake c) s fun t => took t ∧ into t (2 ^ 32 +
    n.toNat) ∧ (t.surfCam c).first = 2 ^ 32 + n.toNat ∧ (t.surfCam c).lines.length = 1) ∧ (good = true → k.started = true → n =
    BitVec.ofNat 32 (k.last + 1) → s.stitchWith c = [] → s.camRoom c = true → Ends (.lineIntake c) s fun t => took t ∧ into t
    (k.last + 1) ∧ (t.surfCam c).lines.tail = k.lines ∧ (t.surfCam c).first = k.first ∧ t.surf =
    { s.surf with cams := t.surf.cams }) ∧ (good = true → k.started = true → s.camRoom c = false → n = BitVec.ofNat 32 (k.last
    + 1) → Ends (.lineIntake c) s fun t => t = s)

/-- LINE_INTAKE: the lanes of both cameras of an active stitched seam accept a line together; the model's choice (notes/assumptions/127.md) is that a line waits until the other camera shows that line or a later one (R195–R198). -/
def lineIntakeTogether : Prop := ∀ (c : Nat) (d : Nat) (x : GhLine) (y : GhLine) (xs : List GhLine) (ys : List GhLine) (s : State),
  let lc := fld (s.camCfg c) 1 5
  let ld := fld (s.camCfg d) 1 5
  let n := s.lineNo c x
  let took := fun (t : State) (e : Nat) (z : GhLine) => (t.surfCam e).last = (s.surfCam e).last + 1 ∧ (t.surfCam e).lines =
    ⟨(s.surfCam e).last + 1, z.pixels, []⟩ :: (s.surfCam e).lines ∧ t.reg (camPage e) (camOff e 0x24) = n
  c < 16 →
  d < 16 →
  s.camEn c = true →
  s.stitchWith c = [d] →
  lc < 24 →
  ld < 24 →
  lc ≠ ld →
  (s.inLink lc).lines = x :: xs →
  (s.inLink ld).lines = y :: ys →
  s.lineFits c x = true →
  (s.surfCam c).started = true →
  n = BitVec.ofNat 32 ((s.surfCam c).last + 1) →
  s.lineAt d n.toNat = false →
  (s.lineFits d y = true → s.lineNo d y = n → (s.surfCam d).started = true → n = BitVec.ofNat 32 ((s.surfCam d).last + 1) →
    s.camRoom c = true → s.camRoom d = true → Ends (.lineIntake c) s fun t => took t c x ∧ took t d y ∧ (t.inLink lc).lines =
    xs ∧ (t.inLink ld).lines = ys ∧ t = { s with regs := t.regs, surf := t.surf, gh := t.gh }) ∧ (s.lineFits d y = true →
    s.lineNo d y = n → s.camRoom d = false → Ends (.lineIntake c) s fun t => t = s) ∧ (s.lineFits d y = true → s.lineLacks d
    n.toNat = true → s.camRoom c = true → Ends (.lineIntake c) s fun t => took t c x ∧ (t.inLink lc).lines = xs ∧ (t.inLink
    ld).lines = y :: ys ∧ t.surfCam d = s.surfCam d) ∧ (s.lineFits d y = false → Ends (.lineIntake c) s fun t => t = s)

/-- LANE_LINE_COMPLETE: the lane has completed its next centre line in its cycles; with no component open, a line with no weak pixel opens none (R198, R203, R204). -/
def laneLineCompleteDoes : Prop := ∀ (l : Nat) (c : Nat) (s : State),
  let m := (s.lane l).next
  let u := s.correctFor c l (m + s.laneH l)
  let e := s.laneSpan c l
  let px := (List.range (e.2 - e.1)).map fun i => (e.1 + i, u.kernel c l m (e.1 + i))
  let runs := runsOf (s.lane l).live px
  s.laneCam l = some c →
  s.isFenced (lanePage l) = false →
  s.laneReady c l = true →
  Ends (.laneLineComplete l) s fun t => (t.lane l).next = m + 1 ∧ (l < 64 → (t.reg (lanePage l) (laneOff l 0x18)).toNat = (e.2
    - e.1 + 1) / 2 + 8) ∧ ((s.lane l).comps = [] → runs = [] → (t.lane l).comps = []) ∧ SameTab l s.surf.lanes t.surf.lanes ∧
    SameMemory s t ∧ t = { s with regs := t.regs, fab := t.fab, surf := t.surf }

/-- LANE_LINE_COMPLETE: with no component open and no window, a line's single run opens the component that it makes, with the coordinate of its line (R204, R207, R213). -/
def laneLineOpens : Prop := ∀ (l : Nat) (c : Nat) (r : Run) (s : State),
  let m := (s.lane l).next
  let u := s.correctFor c l (m + s.laneH l)
  let e := s.laneSpan c l
  let px := (List.range (e.2 - e.1)).map fun i => (e.1 + i, u.kernel c l m (e.1 + i))
  let runs := runsOf (s.lane l).live px
  s.laneCam l = some c →
  s.isFenced (lanePage l) = false →
  s.laneReady c l = true →
  (s.lane l).comps = [] →
  runs = [r] →
  bit (s.camWord c 0x18) 31 = false →
  1 < fld (s.camWord c 0x1C) 0 16 →
  Ends (.laneLineComplete l) s fun t => (t.lane l).comps = [⟨c, l, r.dark, r.strong.isSome, ⟨r.x1 + 1 - r.x0, r.x0, r.x1, m, 1,
    r.sum, r.min, r.max, r.sumX, 0⟩, [(r.x0, r.x1)], m, if r.x0 = e.1 ∧ s.seamSide c l false = true then [m] else [], if r.x1 +
    1 = e.2 ∧ s.seamSide c l true = true then [m] else [], s.lineCoord c m, none⟩]

/-- KERNEL_SHADOW_COPY: a committed lane takes its shadow copies (R202). -/
def kernelShadowCopyDoes : Prop := ∀ (l : Nat) (s : State),
  (s.laneCam l).isSome = true →
  ((s.lane l).pend = true → Ends (.kernelShadowCopy l) s fun t => t.lane l =
    { s.lane l with live := s.laneShadow l, pend := false } ∧ SameTab l s.surf.lanes t.surf.lanes ∧ t =
    { s with surf := { s.surf with lanes := t.surf.lanes } }) ∧ ((s.lane l).pend = false → Ends (.kernelShadowCopy l) s fun t
    => t = s)

/-! ### Ghery Link packets received and sent -/

/-- LINE_PACKET_RECEIVE: an unframed packet, a CRC error, a protocol error and a gap are counted; a good line waits for its camera, or returns its credit where no camera names the link (R239–R243, R250, R252). -/
def linePacketReceiveDoes : Prop := ∀ (l : Nat) (ws : List DWord) (s : State),
  let h := ws.getD 0 0
  let p := ws.getD 1 0
  let len := dfld h 34 14
  let n := credits len
  let x := s.inLink l
  let pg := inPage l
  let o := inOff l
  let d := (dfld h 48 16 + 2 ^ 16 - x.expect.getD 0 0) % 2 ^ 16
  let errs_ := fun (off k : Nat) (t : State) => (t.reg pg (o off)).toNat = min ((s.reg pg (o off)).toNat + k) (2 ^ 32 - 1) ∧
    t.regF pg 0x20 (16 + l % 8) 1 = 1
  let frame := fun (t : State) => SameTab l s.gh.inl t.gh.inl ∧ t =
    { s with regs := t.regs, fab := t.fab, gh := { s.gh with inl := t.gh.inl } }
  let back := fun (t : State) => (t.inLink l).used.getD 0 0 = x.used.getD 0 0 + n ∧ (t.inLink l).freed.getD 0 0 = x.freed.getD
    0 0 + n ∧ (t.inLink l).expect = x.expect ∧ (t.inLink l).lines = x.lines ∧ frame t
  let px := dfld p 16 16
  let by_ := (px * depthBits (dfld p 14 2) + 7) / 8
  let good := decide (dfld h 0 8 = 0x33 ∧ dfld h 8 2 = 0 ∧ dfld h 12 19 = 0 ∧ dfld p 0 14 = 0 ∧ dfld p 14 2 ≠ 3 ∧ px ≠ 0 ∧ len
    ≤ 12288 ∧ len = (by_ + 7) / 8 ∧ dfld h 31 3 = 8 * len - by_ ∧ ws.length = len + 3 ∧ dfld (ws.getD (len + 2) 0) 32 32 = 0 ∧
    x.used.getD 0 0 + n ≤ x.limit.getD 0 0 ∧ x.limit.getD 0 0 < 2 ^ 31)
  s.inState l = 3 →
  l < 24 →
  dfld h 10 2 = 0 →
  x.used.length = 2 →
  x.freed.length = 2 →
  x.expect.length = 2 →
  (Ends (.linePacketReceive l ws false) s fun t => errs_ 0x18 1 t ∧ SameRegsBut [Page.base pg + o 0x18, Page.base pg + 0x20] s
    t ∧ t = { s with regs := t.regs, fab := t.fab }) ∧ (packetCrcOk ws = false → Ends (.linePacketReceive l ws true) s fun t =>
    errs_ 0x10 1 t ∧ SameRegsBut [Page.base pg + o 0x10, Page.base pg + 0x20] s t ∧ back t) ∧ (packetCrcOk ws = true →
    s.inProtoBad l ws = true ∨ 32768 ≤ d → Ends (.linePacketReceive l ws true) s fun t => errs_ 0x1C 1 t ∧ SameRegsBut
    [Page.base pg + o 0x1C, Page.base pg + 0x20] s t ∧ back t) ∧ (packetCrcOk ws = true → good = true → d < 32768 → Ends
    (.linePacketReceive l ws true) s fun t => (t.inLink l).expect = listSet x.expect 0 ((dfld h 48 16 + 1) % 2 ^ 16) ∧
    (t.inLink l).used.getD 0 0 = x.used.getD 0 0 + n ∧ t.reg pg (o 0x0C) = s.reg pg (o 0x0C) + 1 ∧ (d ≠ 0 → errs_ 0x14 d t) ∧
    SameRegsBut [Page.base pg + o 0x0C, Page.base pg + o 0x14, Page.base pg + 0x20] s t ∧ ((s.linkCamera l).isSome = true →
    (t.inLink l).freed = x.freed ∧ (t.inLink l).lines = x.lines ++ [⟨BitVec.ofNat 32 (dfld p 32 32), dfld p 14 2, unpack px
    (depthBits (dfld p 14 2)) (ofBytesLE (wordBytes ((ws.drop 2).dropLast))), n⟩]) ∧ ((s.linkCamera l).isSome = false →
    (t.inLink l).freed.getD 0 0 = x.freed.getD 0 0 + n ∧ (t.inLink l).lines = x.lines) ∧ frame t)

/-- GHERY_EVENT_RECEIVE: as a LINE; a good event leaves its code, its arrival, its instant and its value in the link's words and returns its credit (R246, R250, R252, R260). -/
def gheryEventReceiveDoes : Prop := ∀ (l : Nat) (ws : List DWord) (s : State),
  let h := ws.getD 0 0
  let p := ws.getD 1 0
  let len := dfld h 34 14
  let n := credits len
  let x := s.inLink l
  let pg := inPage l
  let o := inOff l
  let d := (dfld h 48 16 + 2 ^ 16 - x.expect.getD 1 0) % 2 ^ 16
  let errs_ := fun (off k : Nat) (t : State) => (t.reg pg (o off)).toNat = min ((s.reg pg (o off)).toNat + k) (2 ^ 32 - 1) ∧
    t.regF pg 0x20 (16 + l % 8) 1 = 1
  let frame := fun (t : State) => SameTab l s.gh.inl t.gh.inl ∧ t =
    { s with regs := t.regs, fab := t.fab, gh := { s.gh with inl := t.gh.inl } }
  let back := fun (t : State) => (t.inLink l).used.getD 1 0 = x.used.getD 1 0 + n ∧ (t.inLink l).freed.getD 1 0 = x.freed.getD
    1 0 + n ∧ (t.inLink l).expect = x.expect ∧ (t.inLink l).lines = x.lines ∧ frame t
  let good := decide (dfld h 0 8 = 0x66 ∧ dfld h 8 2 = 0 ∧ dfld h 12 3 = 0 ∧ len = 1 ∧ dfld h 31 3 = 0 ∧ ws.length = 4 ∧ dfld
    (ws.getD 3 0) 32 32 = 0 ∧ x.used.getD 1 0 + n ≤ x.limit.getD 1 0 ∧ x.limit.getD 1 0 < 2 ^ 31)
  s.inState l = 3 →
  l < 24 →
  dfld h 10 2 = 1 →
  x.used.length = 2 →
  x.freed.length = 2 →
  x.expect.length = 2 →
  (Ends (.gheryEventReceive l ws false) s fun t => errs_ 0x18 1 t ∧ SameRegsBut [Page.base pg + o 0x18, Page.base pg + 0x20] s
    t ∧ t = { s with regs := t.regs, fab := t.fab }) ∧ (packetCrcOk ws = false → Ends (.gheryEventReceive l ws true) s fun t =>
    errs_ 0x10 1 t ∧ SameRegsBut [Page.base pg + o 0x10, Page.base pg + 0x20] s t ∧ back t) ∧ (packetCrcOk ws = true →
    s.inProtoBad l ws = true ∨ 32768 ≤ d → Ends (.gheryEventReceive l ws true) s fun t => errs_ 0x1C 1 t ∧ SameRegsBut
    [Page.base pg + o 0x1C, Page.base pg + 0x20] s t ∧ back t) ∧ (packetCrcOk ws = true → good = true → d < 32768 → Ends
    (.gheryEventReceive l ws true) s fun t => (t.inLink l).expect = listSet x.expect 1 ((dfld h 48 16 + 1) % 2 ^ 16) ∧
    (t.inLink l).used.getD 1 0 = x.used.getD 1 0 + n ∧ t.reg pg (o 0x0C) = s.reg pg (o 0x0C) + 1 ∧ (d ≠ 0 → errs_ 0x14 d t) ∧
    t.regF pg (o 0x28) 0 16 = dfld h 15 16 ∧ t.regF pg (o 0x28) 16 16 = min (s.regF pg (o 0x28) 16 16 + 1) 65535 ∧ t.reg64 pg
    (o 0x2C) = s.now % 2 ^ 64 ∧ t.reg64 pg (o 0x34) = p.toNat ∧ t.reg64 pg (o 0x3C) = (ws.getD 2 0).toNat ∧ t.regF pg 0x20 (8 +
    l % 8) 1 = 1 ∧ (t.inLink l).freed.getD 1 0 = x.freed.getD 1 0 + 1 ∧ (t.inLink l).lines = x.lines ∧ SameRegsBut ((Page.base
    pg + 0x20) :: (Page.base pg + o 0x0C) :: (Page.base pg + o 0x14) :: (List.range 7).map fun k => Page.base pg + o (0x28 + 4
    * k)) s t ∧ frame t)

/-- CREDIT_RECEIVE: a good CREDIT on an UP link renews the sideband's life, and one newer than the last raises the limits that grow (R233, R237, R249). -/
def creditReceiveDoes : Prop := ∀ (k : Nat) (ws : List DWord) (s : State),
  let h := ws.getD 0 0
  let x := s.txLink k
  let q := dfld h 48 16
  let lim := fun (v : Nat) => BitVec.ofNat 32 (((ws.getD 1 0).toNat + 2 ^ 64 * (ws.getD 2 0).toNat) / 2 ^ (32 * v))
  let good := decide (packetCrcOk ws = true ∧ ws.length = 4 ∧ dfld h 0 8 = 0x78 ∧ dfld h 34 14 = 1 ∧ dfld h 8 26 = 0)
  let live := decide (s.outState k = 3 ∧ s.now < x.z + 64000)
  let newer := fun (o : Option Nat) => o.all fun c => decide ((q + 2 ^ 16 - c) % 2 ^ 16 ≠ 0 ∧ (q + 2 ^ 16 - c) % 2 ^ 16 < 2 ^
    15)
  s.outEn k = true →
  k < 4 →
  (good = false → Ends (.creditReceive k ws) s fun t => (t.reg (txPage k) (txOff k 8)).toNat = min ((s.reg (txPage k) (txOff k
    8)).toNat + 1) (2 ^ 32 - 1) ∧ SameRegsBut [Page.base (txPage k) + txOff k 8] s t ∧ t = { s with regs := t.regs }) ∧ (good =
    true → live = false → Ends (.creditReceive k ws) s fun t => t = s) ∧ (good = true → live = true → newer x.creditSeq = true
    → Ends (.creditReceive k ws) s fun t => t.txLink k = { x with z := s.now, creditSeq := some q } ∧ (∀ v, v < 4 → t.outReg k
    (0x0C + 4 * v) = if (lim v - s.outReg k (0x0C + 4 * v)).toNat < 2 ^ 31 then lim v else s.outReg k (0x0C + 4 * v)) ∧
    SameRegsBut ((List.range 4).map fun v => Page.base .ghOutL + outOff k (0x0C + 4 * v)) s t ∧ SameTab k s.gh.tx t.gh.tx ∧ t =
    { s with regs := t.regs, fab := t.fab, gh := { s.gh with tx := t.gh.tx } }) ∧ (good = true → live = true → newer
    x.creditSeq = false → Ends (.creditReceive k ws) s fun t => t.txLink k = { x with z := s.now } ∧ SameRegsBut [] s t ∧
    SameTab k s.gh.tx t.gh.tx ∧ t = { s with regs := t.regs, fab := t.fab, gh := { s.gh with tx := t.gh.tx } })

/-- TRAIN_RECEIVE: on a data lane a good TRAIN counts and names the peer, and retrains an UP link; on a sideband TRAIN READY readies the transmitter and TRAIN SEEK returns it to TRAIN (R234–R236, R242). -/
def trainReceiveDoes : Prop := ∀ (i : Nat) (l : Nat) (ws : List DWord) (s : State),
  let p := ws.getD 1 0
  let mine := decide (trainOk ws 0 = true ∧ dfld p 0 4 = i - l ∧ dfld p 4 4 = fld (s.inReg l 0) 1 2)
  let x := s.txLink i
  let rx := fun (t : State) => SameTab i s.gh.rx t.gh.rx ∧ t = { s with regs := t.regs, gh := { s.gh with rx := t.gh.rx } }
  i < 24 →
  (s.inLinkOf i = some l → s.inState l ≠ 3 → mine = true → Ends (.trainReceive false i ws) s fun t => t.rxLane i =
    { s.rxLane i with trains := min 8 ((s.rxLane i).trains + 1) } ∧ t.inReg l 8 = BitVec.ofNat 32 (dfld p 32 32) ∧ SameRegsBut
    [Page.base (inPage l) + inOff l 8] s t ∧ rx t) ∧ (s.inLinkOf i = some l → s.inState l ≠ 3 → mine = false → Ends
    (.trainReceive false i ws) s fun t => t.rxLane i = { s.rxLane i with trains := 0 } ∧ SameRegsBut [] s t ∧ rx t) ∧
    (s.inLinkOf i = some l → s.inState l = 3 → Ends (.trainReceive false i ws) s fun t => t.inState l = 1 ∧ (t.inReg l
    0x20).toNat = min ((s.inReg l 0x20).toNat + 1) (2 ^ 32 - 1) ∧ t.regF (inPage l) 0x20 (l % 8) 1 = 1) ∧ (s.outEn i = true → i
    < 4 → trainOk ws 1 = false → Ends (.trainReceive true i ws) s fun t => (t.reg (txPage i) (txOff i 8)).toNat = min ((s.reg
    (txPage i) (txOff i 8)).toNat + 1) (2 ^ 32 - 1) ∧ SameRegsBut [Page.base (txPage i) + txOff i 8] s t ∧ t =
    { s with regs := t.regs }) ∧ (s.outEn i = true → i < 4 → trainOk ws 1 = true → dfld p 8 4 = 1 → s.outState i = 1 → Ends
    (.trainReceive true i ws) s fun t => t.txLink i = { x with z := s.now, ready := true } ∧ t.outReg i 8 = BitVec.ofNat 32
    (dfld p 32 32)) ∧ (s.outEn i = true → i < 4 → trainOk ws 1 = true → dfld p 8 4 = 0 → s.outState i = 3 → s.sbExpired i =
    false → Ends (.trainReceive true i ws) s fun t => t.outState i = 1 ∧ (t.outReg i 0x30).toNat = min ((s.outReg i 0x30).toNat
    + 1) (2 ^ 32 - 1) ∧ t.regF .ghOutL 0x20 i 1 = 1)

/-- AM_RECEIVE: a good marker keeps or takes the lane's lock and counts a BIP mismatch; the fourth missing one in a row loses it, and that or a skew over 64 UI retrains the link (R229, R231, R232, R236). -/
def amReceiveDoes : Prop := ∀ (i : Nat) (l : Nat) (am : Option DWord) (bip : Bool) (skew : Nat) (c : Nat) (s : State),
  let x := s.rxLane i
  let pg := rxPage i
  let w := am.getD 0
  let good := decide (am.isSome = true ∧ dfld w 0 8 = 0x87 ∧ dfld w 8 8 = i - l ∧ dfld w 16 4 = fld (s.inReg l 0) 1 2 ∧ dfld w
    32 32 = (c + 1) % 2 ^ 32)
  let locked := bit (s.reg pg (rxOff i 4)) 4
  let lockIs := fun (t : State) (b : Bool) => bit (t.reg pg (rxOff i 4)) 4 = b ∧ t.regF pg (rxOff i 4) 8 7 = min skew 127
  let errs := fun (t : State) (off : Nat) => (t.reg pg (rxOff i off)).toNat = min ((s.reg pg (rxOff i off)).toNat + 1) (2 ^ 32
    - 1)
  let frame := fun (t : State) => SameTab i s.gh.rx t.gh.rx ∧ t = { s with regs := t.regs, gh := { s.gh with rx := t.gh.rx } }
  s.inLinkOf i = some l →
  x.amCnt = some c →
  i < 24 →
  (good = true → skew ≤ 64 → Ends (.amReceive i am bip skew) s fun t => t.rxLane i =
    { x with amCnt := some ((c + 1) % 2 ^ 32), amBad := 0 } ∧ lockIs t true ∧ (bip = false → (c + 1) % 2 ^ 32 ≠ 0 → errs t
    0x0C) ∧ (bip = true → t.reg pg (rxOff i 0x0C) = s.reg pg (rxOff i 0x0C)) ∧ SameRegsBut [Page.base pg + rxOff i 4, Page.base
    pg + rxOff i 0x0C] s t ∧ frame t) ∧ (am = none → locked = true → x.amBad < 3 → skew ≤ 64 → Ends (.amReceive i am bip skew)
    s fun t => t.rxLane i = { x with amCnt := some ((c + 1) % 2 ^ 32), amBad := x.amBad + 1 } ∧ lockIs t true ∧ errs t 0x10 ∧
    SameRegsBut [Page.base pg + rxOff i 4, Page.base pg + rxOff i 0x10] s t ∧ frame t) ∧ (am = none → locked = true → x.amBad =
    3 → skew ≤ 64 → s.inState l = 3 → Ends (.amReceive i am bip skew) s fun t => lockIs t false ∧ errs t 0x10 ∧ t.inState l =
    1) ∧ (good = true → 64 < skew → s.inState l = 3 → Ends (.amReceive i am bip skew) s fun t => bit (t.inReg l 4) 2 = true ∧
    t.inState l = 1)

/-- AM_SEND: every lane sends its marker with the lane, the width, the parity since the last, and the count (R229). -/
def amSendDoes : Prop := ∀ (k : Nat) (bips : List Nat) (s : State),
  let x := s.txLink k
  let w := fld (s.outReg k 0) 1 2
  s.outState k ≠ 0 →
  Ends (.amSend k bips) s fun t => t.txLink k =
    { x with amCnt := x.amCnt + 1,
             ams := (List.range (2 ^ w)).map fun j => BitVec.ofNat 64 (0x87 + j * 2 ^ 8 + w * 2 ^ 16 + (if x.amCnt = 0 then 0 else bips.getD j 0 % 256) * 2 ^ 24 + x.amCnt % 2 ^ 32 * 2 ^ 32) }
    ∧ SameTab k s.gh.tx t.gh.tx ∧ t = { s with gh := { s.gh with tx := t.gh.tx } }

/-- TRAIN_SEND: a transmitter in TRAIN sends a TRAIN packet on a lane, with the lane's next sequence number (R234, R240, R242). -/
def trainSendDoes : Prop := ∀ (k : Nat) (j : Nat) (s : State),
  let x := s.txLink k
  let q := x.trainSeq.getD j 0
  s.outState k = 1 →
  j < s.outW k →
  Ends (.trainSend k j) s fun t => t.txLink k =
    { x with trainSeq := listSet x.trainSeq j ((q + 1) % 2 ^ 16),
             trainLast := packet (BitVec.ofNat 64 (0x1E + q * 2 ^ 48)) (BitVec.ofNat 64 (j + fld (s.outReg k 0) 1 2 * 2 ^ 4 + (s.reg .ghOutL 0x40).toNat * 2 ^ 32)) [] }
    ∧ SameTab k s.gh.tx t.gh.tx ∧ t = { s with gh := { s.gh with tx := t.gh.tx } }

/-- TRAIN_SEEK_SEND: a receiver in TRAIN sends TRAIN SEEK on its sideband (R235, R242). -/
def trainSeekSendDoes : Prop := ∀ (l : Nat) (s : State),
  let x := s.inLink l
  s.inState l = 1 →
  Ends (.trainSeekSend l) s fun t => t.inLink l =
    { x with sbSeq := (x.sbSeq + 1) % 2 ^ 16,
             sbLast := packet (BitVec.ofNat 64 (0x1E + x.sbSeq * 2 ^ 48)) (BitVec.ofNat 64 (fld (s.inReg l 0) 1 2 * 2 ^ 4 + 2 ^ 16 + (s.reg .ghOutL 0x40).toNat * 2 ^ 32)) [] }
    ∧ SameTab l s.gh.inl t.gh.inl ∧ t = { s with gh := { s.gh with inl := t.gh.inl } }

/-- CREDIT_SEND: a receiver in READY sends TRAIN READY and its limits, in UP its limits: the buffer's credits with those returned (R235, R237, R240, R250). -/
def creditSendDoes : Prop := ∀ (l : Nat) (s : State),
  let x := s.inLink l
  let g := fun (v : Nat) => (x.freed.getD v 0 + (if v = 0 then 32 * s.inW l else 4)) % 2 ^ 32
  let cred := packet (BitVec.ofNat 64 (0x78 + 2 ^ 34 + x.crSeq * 2 ^ 48)) (BitVec.ofNat 64 (g 0 + g 1 * 2 ^ 32)) [0]
  (s.inState l = 2 → Ends (.creditSend l) s fun t => t.inLink l =
    { x with sbSeq := (x.sbSeq + 1) % 2 ^ 16,
             sbLast := packet (BitVec.ofNat 64 (0x1E + x.sbSeq * 2 ^ 48)) (BitVec.ofNat 64 (fld (s.inReg l 0) 1 2 * 2 ^ 4 + 2 ^ 8 + 2 ^ 16 + (s.reg .ghOutL 0x40).toNat * 2 ^ 32)) [],
             crSeq := (x.crSeq + 1) % 2 ^ 16, limit := [g 0, g 1], crLast := cred } ∧ SameTab l s.gh.inl t.gh.inl ∧ t =
    { s with gh := { s.gh with inl := t.gh.inl } }) ∧ (s.inState l = 3 → Ends (.creditSend l) s fun t => t.inLink l =
    { x with crSeq := (x.crSeq + 1) % 2 ^ 16, limit := [g 0, g 1], crLast := cred } ∧ SameTab l s.gh.inl t.gh.inl ∧ t =
    { s with gh := { s.gh with inl := t.gh.inl } })

/-- ROLLREC_SEND: up to 7 records leave in order and are consumed as the packet starts (R185, R245, R249, R251). -/
def rollrecSendDoes : Prop := ∀ (k : Nat) (s : State),
  let v := s.regF .rmap 0x40 4 2
  let n := min 7 s.rmFill
  let first := (s.reg .rmap 0x48).toNat
  let send := fun (k v type tspec : Nat) (param : DWord) (bs : List Nat) (t : State) => (t.txLink k).last = packet
    (BitVec.ofNat 64 (type + v * 2 ^ 10 + tspec * 2 ^ 12 + (8 * ((bs.length + 7) / 8) - bs.length) * 2 ^ 31 + (bs.length + 7) /
    8 * 2 ^ 34 + (s.txLink k).seq.getD v 0 * 2 ^ 48)) param (bytesWords ((bs.length + 7) / 8) bs) ∧ (t.txLink k).seq = listSet
    (s.txLink k).seq v (((s.txLink k).seq.getD v 0 + 1) % 2 ^ 16) ∧ (t.txLink k).lastVc = v ∧ t.outReg k (0x1C + 4 * v) =
    s.outReg k (0x1C + 4 * v) + BitVec.ofNat 32 (credits ((bs.length + 7) / 8)) ∧ t.outReg k 0x2C = s.outReg k 0x2C + 1 ∧
    SameTab k s.gh.tx t.gh.tx
  s.rollWaits k v = true →
  1 ≤ s.credit k v →
  (s.txLink k).upDue = false →
  s.maySend k v = true →
  Ends (.rollrecSend k) s fun t => send k v 0x55 0 (BitVec.ofNat 64 (first * 2 ^ 32)) ((List.range n).flatMap fun i =>
    readBytes s.mem (rmAddr (first + i)) 32) t ∧ t.reg .rmap 0x48 = s.reg .rmap 0x48 + BitVec.ofNat 32 n ∧ SameRegsBut
    [Page.base .ghOutL + outOff k (0x1C + 4 * v), Page.base .ghOutL + outOff k 0x2C, Page.base .rmap + 0x48] s t ∧ t =
    { s with regs := t.regs, gh := { s.gh with tx := t.gh.tx } }

/-- PATCH_ROW_SEND: the oldest row of the VC leaves (R211, R244, R251). -/
def patchRowSendDoes : Prop := ∀ (g : Nat) (r : PatchRow) (rest : List PatchRow) (s : State),
  let k := s.regF (.surfG g) 0x40 0 2
  let v := s.regF (.surfG g) 0x40 2 2
  let send := fun (k v type tspec : Nat) (param : DWord) (bs : List Nat) (t : State) => (t.txLink k).last = packet
    (BitVec.ofNat 64 (type + v * 2 ^ 10 + tspec * 2 ^ 12 + (8 * ((bs.length + 7) / 8) - bs.length) * 2 ^ 31 + (bs.length + 7) /
    8 * 2 ^ 34 + (s.txLink k).seq.getD v 0 * 2 ^ 48)) param (bytesWords ((bs.length + 7) / 8) bs) ∧ (t.txLink k).seq = listSet
    (s.txLink k).seq v (((s.txLink k).seq.getD v 0 + 1) % 2 ^ 16) ∧ (t.txLink k).lastVc = v ∧ t.outReg k (0x1C + 4 * v) =
    s.outReg k (0x1C + 4 * v) + BitVec.ofNat 32 (credits ((bs.length + 7) / 8)) ∧ t.outReg k 0x2C = s.outReg k 0x2C + 1 ∧
    SameTab k s.gh.tx t.gh.tx
  tabGet? s.surf.rows g = some (r :: rest) →
  credits ((r.bytes.length + 7) / 8) ≤ s.credit k v →
  (s.txLink k).upDue = false →
  s.maySend k v = true →
  s.oldestRow k v = some g →
  Ends (.patchRowSend g) s fun t => send k v 0x4B ((if r.p16 then 2 ^ 17 else 0) + r.row * 2 ^ 10 + (r.width - 1) * 2 ^ 3)
    (BitVec.ofNat 64 (r.line + r.x0 * 2 ^ 32 + r.win * 2 ^ 48)) r.bytes t ∧ tabGet? t.surf.rows g = some rest ∧ SameTab g
    s.surf.rows t.surf.rows ∧ SameRegsBut [Page.base .ghOutL + outOff k (0x1C + 4 * v), Page.base .ghOutL + outOff k 0x2C] s t
    ∧ t = { s with regs := t.regs, gh := { s.gh with tx := t.gh.tx }, surf := { s.surf with rows := t.surf.rows } }

/-- PATCH_TRAILER_SEND: once every row has left or been missed and the blob is done, the window's trailer leaves and the window is free (R212, R244). -/
def patchTrailerSendDoes : Prop := ∀ (id : Nat) (w : PatchWin) (b : Blob) (s : State),
  let k := s.regF (.surfG w.group) 0x40 0 2
  let v := s.regF (.surfG w.group) 0x40 2 2
  let send := fun (k v type tspec : Nat) (param : DWord) (bs : List Nat) (t : State) => (t.txLink k).last = packet
    (BitVec.ofNat 64 (type + v * 2 ^ 10 + tspec * 2 ^ 12 + (8 * ((bs.length + 7) / 8) - bs.length) * 2 ^ 31 + (bs.length + 7) /
    8 * 2 ^ 34 + (s.txLink k).seq.getD v 0 * 2 ^ 48)) param (bytesWords ((bs.length + 7) / 8) bs) ∧ (t.txLink k).seq = listSet
    (s.txLink k).seq v (((s.txLink k).seq.getD v 0 + 1) % 2 ^ 16) ∧ (t.txLink k).lastVc = v ∧ t.outReg k (0x1C + 4 * v) =
    s.outReg k (0x1C + 4 * v) + BitVec.ofNat 32 (credits ((bs.length + 7) / 8)) ∧ t.outReg k 0x2C = s.outReg k 0x2C + 1 ∧
    SameTab k s.gh.tx t.gh.tx
  s.win id = some w →
  w.done = some b →
  w.rows ≤ w.next →
  (∀ r ∈ tabGet [] s.surf.rows w.group, r.win ≠ w.id) →
  1 ≤ s.credit k v →
  (s.txLink k).upDue = false →
  s.maySend k v = true →
  Ends (.patchTrailerSend id) s fun t => send k v 0x4B (2 ^ 18 + (if s.regF (.surfG w.group) 0x40 4 1 = 0 then 2 ^ 17 else 0) +
    (w.rows - 1) * 2 ^ 10 + (w.width - 1) * 2 ^ 3) (BitVec.ofNat 64 (w.row0 % 2 ^ 32 + w.x0 * 2 ^ 32 + w.id * 2 ^ 48))
    (trailerBytes w b) t ∧ (∀ x, x ∈ t.surf.wins ↔ x ∈ s.surf.wins ∧ x.id ≠ id) ∧ SameRegsBut [Page.base .ghOutL + outOff k
    (0x1C + 4 * v), Page.base .ghOutL + outOff k 0x2C] s t ∧ t =
    { s with regs := t.regs, gh := { s.gh with tx := t.gh.tx }, surf := { s.surf with wins := t.surf.wins } }

/-- EVENT_PACKET_SEND: LINK_UP goes first, then the pending event, which is then no longer pending (R246, R261). -/
def eventPacketSendDoes : Prop := ∀ (k : Nat) (s : State),
  let v := fld (s.outReg k 0x34) 16 2
  let x := s.txLink k
  let send := fun (k v type tspec : Nat) (param : DWord) (bs : List Nat) (t : State) => (t.txLink k).last = packet
    (BitVec.ofNat 64 (type + v * 2 ^ 10 + tspec * 2 ^ 12 + (8 * ((bs.length + 7) / 8) - bs.length) * 2 ^ 31 + (bs.length + 7) /
    8 * 2 ^ 34 + (s.txLink k).seq.getD v 0 * 2 ^ 48)) param (bytesWords ((bs.length + 7) / 8) bs) ∧ (t.txLink k).seq = listSet
    (s.txLink k).seq v (((s.txLink k).seq.getD v 0 + 1) % 2 ^ 16) ∧ (t.txLink k).lastVc = v ∧ t.outReg k (0x1C + 4 * v) =
    s.outReg k (0x1C + 4 * v) + BitVec.ofNat 32 (credits ((bs.length + 7) / 8)) ∧ t.outReg k 0x2C = s.outReg k 0x2C + 1 ∧
    SameTab k s.gh.tx t.gh.tx
  1 ≤ s.credit k v →
  s.maySend k v = true →
  k < 4 →
  (x.upDue = true → Ends (.eventPacketSend k) s fun t => send k v 0x66 (0x8000 * 2 ^ 3) (BitVec.ofNat 64 s.now) (bytesLE 8 (k +
    s.outW k * 2 ^ 8 + (s.reg .ghOutL 0x40).toNat * 2 ^ 32)) t ∧ (t.txLink k).upDue = false ∧ SameRegsBut [Page.base .ghOutL +
    outOff k (0x1C + 4 * v), Page.base .ghOutL + outOff k 0x2C] s t ∧ t =
    { s with regs := t.regs, gh := { s.gh with tx := t.gh.tx } }) ∧ (x.upDue = false → bit (s.outReg k 0x44) 0 = true → Ends
    (.eventPacketSend k) s fun t => send k v 0x66 (fld (s.outReg k 0x34) 0 16 * 2 ^ 3) (BitVec.ofNat 64 s.now) (bytesLE 8
    ((s.outReg k 0x38).toNat + 2 ^ 32 * (s.outReg k 0x3C).toNat)) t ∧ t.outReg k 0x44 = 0 ∧ t.regF .ghOutL 0x20 (8 + k) 1 = 1 ∧
    SameRegsBut [Page.base .ghOutL + outOff k (0x1C + 4 * v), Page.base .ghOutL + outOff k 0x2C, Page.base .ghOutL + outOff k
    0x44, Page.base .ghOutL + 0x20] s t ∧ t = { s with regs := t.regs, fab := t.fab, gh := { s.gh with tx := t.gh.tx } })

/-! ### Ghery Link states -/

/-- RECEIVER_READY: a training link whose every lane is locked, aligned and trained is READY (R235). -/
def receiverReadyDoes : Prop := ∀ (l : Nat) (s : State),
  l < 24 →
  (s.inState l = 1 → s.inLanesGood l = true → Ends (.receiverReady l) s fun t => t.inState l = 2 ∧ t.regF (inPage l) 0x20 (l %
    8) 1 = 1 ∧ SameRegsBut [Page.base (inPage l) + inOff l 4, Page.base (inPage l) + 0x20] s t ∧ t =
    { s with regs := t.regs, fab := t.fab }) ∧ (s.inState l ≠ 1 ∨ s.inLanesGood l = false → Ends (.receiverReady l) s fun t =>
    t = s)

/-- RECEIVER_UP: a READY link is UP and expects sequence number 0 on each VC (R235, R240). -/
def receiverUpDoes : Prop := ∀ (l : Nat) (s : State),
  l < 24 →
  (s.inState l = 2 → Ends (.receiverUp l) s fun t => t.inState l = 3 ∧ t.inLink l = { s.inLink l with expect := [0, 0] } ∧
    t.regF (inPage l) 0x20 (l % 8) 1 = 1 ∧ SameRegsBut [Page.base (inPage l) + inOff l 4, Page.base (inPage l) + 0x20] s t ∧
    SameTab l s.gh.inl t.gh.inl ∧ t = { s with regs := t.regs, fab := t.fab, gh := { s.gh with inl := t.gh.inl } }) ∧
    (s.inState l ≠ 2 → Ends (.receiverUp l) s fun t => t = s)

/-- TRANSMITTER_UP: a training link that has received TRAIN READY is UP, its sequence numbers 0, and LINK_UP is owed (R234, R240, R246). -/
def transmitterUpDoes : Prop := ∀ (k : Nat) (s : State),
  k < 4 →
  (s.outState k = 1 → (s.txLink k).ready = true → Ends (.transmitterUp k) s fun t => t.outState k = 3 ∧ t.txLink k =
    { s.txLink k with seq := [0, 0, 0, 0], upDue := true } ∧ t.regF .ghOutL 0x20 k 1 = 1 ∧ SameRegsBut [Page.base .ghOutL +
    outOff k 4, Page.base .ghOutL + 0x20] s t ∧ SameTab k s.gh.tx t.gh.tx ∧ t =
    { s with regs := t.regs, fab := t.fab, gh := { s.gh with tx := t.gh.tx } }) ∧ (s.outState k ≠ 1 ∨ (s.txLink k).ready =
    false → Ends (.transmitterUp k) s fun t => t = s)

/-- LINK_RETRAIN: a receiver in READY or UP and a transmitter in UP return to TRAIN, limits and counts 0; a packet in progress is a FRAME_ERR (R234, R236, R249). -/
def linkRetrainDoes : Prop := ∀ (l : Nat) (b : Bool) (s : State),
  l < 24 →
  (2 ≤ s.inState l → Ends (.linkRetrain false l b) s fun t => t.inState l = 1 ∧ (t.inLink l).used = [0, 0] ∧ (t.inLink l).freed
    = [0, 0] ∧ (t.inLink l).limit = [0, 0] ∧ (∀ j, j < s.inW l → (t.rxLane (l + j)).trains = 0) ∧ t.regF (inPage l) 0x20 (l %
    8) 1 = 1 ∧ (s.inState l = 3 → (t.inReg l 0x20).toNat = min ((s.inReg l 0x20).toNat + 1) (2 ^ 32 - 1)) ∧ (s.inState l = 3 →
    b = true → (t.inReg l 0x18).toNat = min ((s.inReg l 0x18).toNat + 1) (2 ^ 32 - 1)) ∧ (b = false → t.inReg l 0x18 = s.inReg
    l 0x18) ∧ SameRegsBut [Page.base (inPage l) + inOff l 4, Page.base (inPage l) + inOff l 0x18, Page.base (inPage l) + inOff
    l 0x20, Page.base (inPage l) + 0x20] s t ∧ SameTab l s.gh.inl t.gh.inl ∧ t =
    { s with regs := t.regs, fab := t.fab, gh := { s.gh with inl := t.gh.inl, rx := t.gh.rx } }) ∧ (s.inState l ≤ 1 → Ends
    (.linkRetrain false l b) s fun t => t = s) ∧ (l < 4 → s.outState l = 3 → Ends (.linkRetrain true l b) s fun t => t.outState
    l = 1 ∧ bit (t.outReg l 4) 2 = false ∧ (t.outReg l 0x30).toNat = min ((s.outReg l 0x30).toNat + 1) (2 ^ 32 - 1) ∧ (∀ v, v <
    4 → t.outReg l (0x0C + 4 * v) = 0 ∧ t.outReg l (0x1C + 4 * v) = 0) ∧ t.regF .ghOutL 0x20 l 1 = 1) ∧ (s.outState l ≠ 3 →
    Ends (.linkRetrain true l b) s fun t => t = s)

/-- SIDEBAND_TIMEOUT: 8 µs without a valid sideband packet take an UP transmitter to TRAIN with CRED_LOST (R237). -/
def sidebandTimeoutDoes : Prop := ∀ (k : Nat) (s : State),
  k < 4 →
  (s.outState k = 3 → (s.txLink k).z + 64000 ≤ s.now → Ends (.sidebandTimeout k) s fun t => t.outState k = 1 ∧ bit (t.outReg k
    4) 2 = true ∧ t.regF .ghOutL 0x20 (4 + k) 1 = 1 ∧ (t.outReg k 0x30).toNat = min ((s.outReg k 0x30).toNat + 1) (2 ^ 32 - 1)
    ∧ (t.txLink k).ready = false ∧ SameTab k s.gh.tx t.gh.tx ∧ t =
    { s with regs := t.regs, fab := t.fab, gh := { s.gh with tx := t.gh.tx } }) ∧ (s.outState k ≠ 3 ∨ s.now < (s.txLink k).z +
    64000 → Ends (.sidebandTimeout k) s fun t => t = s)

/-- BLOCK_LOCK_CHANGE: the lane's status follows the clause 49 machine; losing block lock or meeting HI_BER retrains its link (R224, R226, R231, R236, R258). -/
def blockLockChangeDoes : Prop := ∀ (i : Nat) (quad : Nat) (signal : Bool) (cdr : Bool) (lock : Bool) (hi : Bool) (bad : Nat) (s : State),
  let pg := rxPage i
  let old := s.reg pg (rxOff i 4)
  let new := fun (t : State) => t.reg pg (rxOff i 4)
  let frame := fun (t : State) => t = { s with regs := t.regs, fab := t.fab, gh := t.gh }
  bit (s.reg pg (rxOff i 0)) 0 = true →
  i < 24 →
  Ends (.blockLockChange i quad signal cdr lock hi bad) s fun t => t.reg pg 0x40 = BitVec.ofNat 32 (quad % 4) ∧ bit (new t) 0 =
    signal ∧ bit (new t) 1 = cdr ∧ bit (new t) 2 = (lock && quad % 2 = 1) ∧ bit (new t) 3 = hi ∧ (bit (new t) 2 = true → bit
    (new t) 4 = bit old 4) ∧ (bit (new t) 2 = false → bit (new t) 4 = false) ∧ (t.reg pg (rxOff i 8)).toNat = min ((s.reg pg
    (rxOff i 8)).toNat + bad) (2 ^ 32 - 1) ∧ (bit old 2 = true → bit (new t) 2 = false → t.regF pg 0x20 (i % 4) 1 = 1 ∧
    (t.rxLane i).amCnt = none) ∧ (bit old 3 = false → hi = true → t.regF pg 0x20 (4 + i % 4) 1 = 1) ∧ ((bit old 2 = true ∧ bit
    (new t) 2 = false) ∨ (bit old 3 = false ∧ hi = true) → (∀ l, s.inLinkOf i = some l → 2 ≤ s.inState l → t.inState l = 1)) ∧
    frame t

/-- HI_BER_EXIT: HI_BER of the lane reads 0 (R226). -/
def hiBerExitDoes : Prop := ∀ (i : Nat) (s : State),
  let a := Page.base (rxPage i) + rxOff i 4
  Ends (.hiBerExit i) s fun t => t.rd a = s.rd a &&& 0xFFFFFFF7 ∧ SameRegsBut [a] s t ∧ t = { s with regs := t.regs }

/-- SIDEBAND_ALIGNMENT: the sideband's signal and alignment, an event where it is lost (R233, R259). -/
def sidebandAlignmentDoes : Prop := ∀ (k : Nat) (quad : Nat) (signal : Bool) (lock : Bool) (s : State),
  let pg := txPage k
  let a := txOff k 4
  k < 4 →
  Ends (.sidebandAlignment k quad signal lock) s fun t => t.reg pg 0x40 = BitVec.ofNat 32 (quad % 4) ∧ bit (t.reg pg a) 4 =
    signal ∧ bit (t.reg pg a) 5 = lock ∧ t.reg pg a &&& 0xFFFFFFCF = s.reg pg a &&& 0xFFFFFFCF ∧ (bit (s.reg pg a) 5 = true →
    lock = false → t.regF pg 0x20 (k % 2) 1 = 1) ∧ SameRegsBut [Page.base pg + 0x40, Page.base pg + a, Page.base pg + 0x20] s t
    ∧ t = { s with regs := t.regs, fab := t.fab }

/-! ### Ghery Link registers -/

/-- LINK_ENABLE: the link starts in TRAIN (R234, R235, R257). -/
def linkEnableDoes : Prop := ∀ (m : Master) (l : Nat) (w : Nat) (s : State),
  let v := 1 + 2 * w
  w < 4 →
  l < 24 →
  (s.inEn l = false → s.accepts (put32 m (inPage l) (inOff l 0) v) → Ends (.linkEnable m false l w) s fun t => t.inReg l 0 =
    BitVec.ofNat 32 v ∧ t.inState l = 1 ∧ t.inLink l = ⟨[0, 0], [], [0, 0], [0, 0], [0, 0], 0, [], 0, []⟩ ∧ (∀ j, j < 2 ^ w →
    t.rxLane (l + j) = ⟨none, 0, 0⟩) ∧ SameTab l s.gh.inl t.gh.inl ∧ SameRegsBut [Page.base (inPage l) + inOff l 0, Page.base
    (inPage l) + inOff l 4, Page.base (inPage l) + 0x20] s t ∧ Written m (Page.base (inPage l)) s t ∧ t =
    { s with regs := t.regs, fab := t.fab, gh := { s.gh with inl := t.gh.inl, rx := t.gh.rx } }) ∧ (l < 4 → s.outEn l = false →
    s.accepts (put32 m .ghOutL (outOff l 0) v) → Ends (.linkEnable m true l w) s fun t => t.outReg l 0 = BitVec.ofNat 32 v ∧
    t.outState l = 1 ∧ (t.txLink l).z = s.now ∧ (t.txLink l).ready = false ∧ (t.txLink l).seq = [0, 0, 0, 0] ∧ (∀ j, j < 4 →
    t.outReg l (0x0C + 4 * j) = 0 ∧ t.outReg l (0x1C + 4 * j) = 0) ∧ SameTab l s.gh.tx t.gh.tx ∧ Written m (Page.base .ghOutL)
    s t ∧ t = { s with regs := t.regs, fab := t.fab, gh := { s.gh with tx := t.gh.tx } })

/-- LINK_DISABLE: the link is DOWN (R234, R235, R257). -/
def linkDisableDoes : Prop := ∀ (m : Master) (l : Nat) (w : Nat) (s : State),
  let v := 2 * w
  w < 4 →
  l < 24 →
  (s.inEn l = true → s.accepts (put32 m (inPage l) (inOff l 0) v) → Ends (.linkDisable m false l w) s fun t => t.inReg l 0 =
    BitVec.ofNat 32 v ∧ t.inState l = 0 ∧ (t.inLink l).lines = [] ∧ (s.inState l = 3 → (t.inReg l 0x20).toNat = min ((s.inReg l
    0x20).toNat + 1) (2 ^ 32 - 1)) ∧ SameTab l s.gh.inl t.gh.inl ∧ SameRegsBut [Page.base (inPage l) + inOff l 0, Page.base
    (inPage l) + inOff l 4, Page.base (inPage l) + inOff l 0x20, Page.base (inPage l) + 0x20] s t ∧ Written m (Page.base
    (inPage l)) s t ∧ t = { s with regs := t.regs, fab := t.fab, gh := { s.gh with inl := t.gh.inl } }) ∧ (l < 4 → s.outEn l =
    true → s.accepts (put32 m .ghOutL (outOff l 0) v) → Ends (.linkDisable m true l w) s fun t => t.outReg l 0 = BitVec.ofNat
    32 v ∧ t.outState l = 0 ∧ SameTab l s.gh.tx t.gh.tx ∧ Written m (Page.base .ghOutL) s t ∧ t =
    { s with regs := t.regs, fab := t.fab, gh := { s.gh with tx := t.gh.tx } })

/-- EVT_SEND: the event is pending (R246, R261). -/
def evtSendDoes : Prop := ∀ (m : Master) (k : Nat) (s : State),
  s.accepts (put32 m .ghOutL (outOff k 0x40) 1) →
  k < 4 →
  Ends (.evtSend m k) s fun t => t.outReg k 0x44 = 1 ∧ SameRegsBut [(Page.base .ghOutL) + outOff k 0x44] s t ∧ Written m
    (Page.base .ghOutL) s t ∧ t = { s with regs := t.regs, fab := t.fab }

/-- EVT_ARR_READ: the arrival of the last EVENT; its other words are latched (R53, R260). -/
def evtArrReadDoes : Prop := ∀ (m : Master) (l : Nat) (wide : Bool) (s : State),
  s.serves (readOf m (inPage l) (inOff l 0x2C) wide) →
  l < 24 →
  Ends (.evtArrRead m l wide) s fun t => ReadBy m (if wide then (s.inReg l 0x2C).toNat + 2 ^ 32 * (s.inReg l 0x30).toNat else
    (s.inReg l 0x2C).toNat) s t ∧ Latched t m ((inPage l).base) ((Page.base (inPage l)) + (inOff l 0x2C) + 4) (s.inReg l 0x30)
    ∧ Latched t m ((inPage l).base) ((Page.base (inPage l)) + (inOff l 0x2C) + 8) (s.inReg l 0x34) ∧ Latched t m ((inPage
    l).base) ((Page.base (inPage l)) + (inOff l 0x2C) + 12) (s.inReg l 0x38) ∧ Latched t m ((inPage l).base) ((Page.base
    (inPage l)) + (inOff l 0x2C) + 16) (s.inReg l 0x3C) ∧ Latched t m ((inPage l).base) ((Page.base (inPage l)) + (inOff l
    0x2C) + 20) (s.inReg l 0x40) ∧ t = { s with fab := t.fab }

/-- GHERY_LANE_CLR: the lane's counters read 0 (R258). -/
def gheryLaneClrDoes : Prop := ∀ (m : Master) (l : Nat) (s : State),
  l < 24 →
  Clears (.gheryLaneClr m l) m (rxPage l) (rxOff l 0x18) 1 [rxOff l 0x08, rxOff l 0x0C, rxOff l 0x10, rxOff l 0x14] s

/-- TXL_CLR: SB_ERR reads 0 (R259). -/
def txlClrDoes : Prop := ∀ (m : Master) (k : Nat) (s : State),
  k < 4 →
  Clears (.txlClr m k) m (txPage k) (txOff k 0x0C) 1 [txOff k 8] s

/-- INGRESS_LINK_CLR: the link's counters and the count of events read 0 (R260). -/
def ingressLinkClrDoes : Prop := ∀ (m : Master) (l : Nat) (s : State),
  l < 24 →
  s.accepts (put32 m (inPage l) (inOff l 0x44) 1) →
  Ends (.ingressLinkClr m l) s fun t => (∀ j, j < 6 → t.inReg l (0x0C + 4 * j) = 0) ∧ t.inReg l 0x28 = s.inReg l 0x28 &&&
    0xFFFF ∧ SameRegsBut ((Page.base (inPage l) + inOff l 0x28) :: (List.range 6).map fun j => Page.base (inPage l) + inOff l
    (0x0C + 4 * j)) s t ∧ Written m (Page.base (inPage l)) s t ∧ t = { s with regs := t.regs, fab := t.fab }

/-- EGRESS_LINK_CLR: TX_PKTS and RETRAIN_CNT read 0 (R261). -/
def egressLinkClrDoes : Prop := ∀ (m : Master) (k : Nat) (s : State),
  k < 4 →
  Clears (.egressLinkClr m k) m .ghOutL (outOff k 0x48) 1 [outOff k 0x2C, outOff k 0x30] s

/-! ### Tidemark -/

/-- TIDEMARK_STROBE: at each whole microsecond a running Tidemark latches one sample, HW and TOTAL follow, and changed counting parameters set BASE to the coordinate and the counts to 0; else the strobe stays without a sample (R26, R265, R268, R269, R274, R284–R286, R298). -/
def tidemarkStrobeDoes : Prop := ∀ (s : State),
  let i := s.fieldNow / 8000 * 8000
  let x := s.tm
  let runs := s.tmUp && x.run && !x.stopped
  let changed := [1, 2, 3, 4, 5].any fun k => tabGet? x.live k ≠ tabGet? x.nv.params k
  let gap := match x.last with | some j => decide (i ≤ j ∨ (i - j) % 8000 ≠ 0) | none => true
  let latched := fun (t : State) (c : Int) => t.tm.strobe = some i ∧ t.tm.last = some i ∧ t.tm.seq = (x.seq + 1) % 2 ^ 32 ∧
    t.tm.live = x.nv.params ∧ t.tm.coord = c ∧ t.tm.hw = max x.hw (c / 10000) ∧ t.tm.total = (x.total + (c / 10000 -
    x.hw).toNat) % 10 ^ 12 ∧ t.tm.hist = (⟨i, c⟩ :: if gap then [] else x.hist).take 1001 ∧ t.tm.samples = x.samples ++
    [⟨x.seq, i, c, t.tm.speed, t.tm.status, !x.err && t.tm.err || x.entered⟩]
  s.fuses.tidemark = true →
  (x.strobe.all fun j => decide (j < i)) = true →
  (runs = true → changed = false → Ends .tidemarkStrobe s fun t => latched t x.coord ∧ t.tm.w0 = x.w0 ∧ t.tm.w1 = x.w1 ∧
    t.tm.base = x.base ∧ t = { s with tm := t.tm }) ∧ (runs = true → changed = true → Ends .tidemarkStrobe s fun t => latched t
    x.coord ∧ t.tm.base = x.coord ∧ t.tm.w0.count = 0 ∧ t.tm.w1.count = 0 ∧ t = { s with tm := t.tm }) ∧ (runs = false → Ends
    .tidemarkStrobe s fun t => t.tm = { x with strobe := some i } ∧ (t.reg .tml 0x48).toNat = min ((s.reg .tml 0x48).toNat + 1)
    (2 ^ 32 - 1) ∧ t.regF .tml 0x20 5 1 = 1 ∧ SameRegsBut [Page.base .tml + 0x48, Page.base .tml + 0x20] s t ∧ t =
    { s with tm := t.tm, regs := t.regs, fab := t.fab })

/-- Z_EDGE: the count at the rising Z edge is the new reference; with its check on, a revolution of another count without a reversal is a legal error (R267, R272). -/
def zEdgeDoes : Prop := ∀ (w : Nat) (s : State),
  let x := s.tm.wheel w
  let bad := decide (s.tm.option (2 + w) = true ∧ x.zRev = false ∧ (x.zRef.any fun r => decide ((x.count - r).natAbs ≠ s.tm.par
    (3 + w))) = true)
  w < 2 →
  s.fuses.tidemark = true →
  (s.tm.counts w = true → bad = false → Ends (.zEdge w) s fun t => t = s.setTm (s.tm.setWheel w
    { x with zRef := some x.count, zRev := false })) ∧ (s.tm.counts w = true → bad = true → s.tm.err = false → Ends (.zEdge w)
    s fun t => t.tm.wheel w = { x with zRef := some x.count, zRev := false } ∧ t.tm.err = true ∧ t.tm.cause = 4 + w ∧
    t.tm.errAgo = 0 ∧ Audited s t s.tm.nv.events s.tm.nv.sealed 6 0 (4 + w) 0 ∧ t = { s with tm := t.tm }) ∧ (s.tm.counts w =
    false → Ends (.zEdge w) s fun t => t = s)

/-- TIDEMARK_SAMPLE: the oldest sample becomes the broadcast and a sample of source 0x1000; one that fails its check is discarded, counted and reported (R22, R262, R274, R298). -/
def tidemarkSampleDoes : Prop := ∀ (x : TmSample) (rest : List TmSample) (s : State),
  let gone := fun (t : State) => t.tm = { s.tm with samples := rest }
  s.tm.samples = x :: rest →
  Ends (.tidemarkSample true) s (fun t => gone t ∧ tabGet? t.src 0x1000 = some ⟨x.inst, x.pos⟩ ∧ SameTab 0x1000 s.src t.src ∧
    t.rd 0x60000000 = BitVec.ofInt 32 x.pos ∧ t.rd 0x60000004 = BitVec.ofInt 32 (x.pos / 2 ^ 32) ∧ t.rd 0x60000008 =
    BitVec.ofInt 32 x.speed ∧ t.rd 0x6000000C = BitVec.ofNat 32 x.seq ∧ t.rd 0x60000010 = BitVec.ofNat 32 x.inst ∧ t.rd
    0x60000014 = BitVec.ofNat 32 (x.inst / 2 ^ 32) ∧ t.rd 0x60000018 = BitVec.ofNat 32 x.status ∧ (x.entered = true → t.regF
    .tml 0x20 2 1 = 1) ∧ SameRegsBut [0x60000000, 0x60000004, 0x60000008, 0x6000000C, 0x60000010, 0x60000014, 0x60000018,
    Page.base .tml + 0x20] s t ∧ t = { s with tm := t.tm, src := t.src, regs := t.regs, fab := t.fab }) ∧ Ends (.tidemarkSample
    false) s (fun t => gone t ∧ (t.reg .tml 0x44).toNat = min ((s.reg .tml 0x44).toNat + 1) (2 ^ 32 - 1) ∧ (t.reg .tml
    0x48).toNat = min ((s.reg .tml 0x48).toNat + 1) (2 ^ 32 - 1) ∧ (0x1C, 0) ∈ t.raised ∧ SameRegsBut [Page.base .tml + 0x44,
    Page.base .tml + 0x48, Page.base .tml + 0x20] s t ∧ t =
    { s with tm := t.tm, raised := t.raised, regs := t.regs, fab := t.fab })

/-- STATUS_TRANSFER: the mailbox holds TOTAL, EVENTS, the firmware, the roll, the boundary, the parameters and the next numbers (R262, R296). -/
def statusTransferDoes : Prop := ∀ (s : State),
  let m := s.tm
  let flag := fun (p : Bool) (k : Nat) => if p then 2 ^ k else 0
  s.tmUp = true →
  m.run = true →
  Ends (.statusTransfer true) s (fun t => t.rd (0x60000000 + 0x20) = BitVec.ofNat 32 (bcd 12 m.total) ∧ t.rd (0x60000000 +
    0x24) = BitVec.ofNat 32 (bcd 12 m.total / 2 ^ 32) ∧ t.rd (0x60000000 + 0x28) = BitVec.ofNat 32 m.nv.events ∧ t.rd
    (0x60000000 + 0x2C) = BitVec.ofNat 32 (m.nv.events / 2 ^ 32) ∧ t.rd (0x60000000 + 0x30) = BitVec.ofNat 32 s.fuses.tmFwVer ∧
    t.rd (0x60000000 + 0x34) = s.fuses.tmFwCrc ∧ t.rd (0x60000000 + 0x38) = (m.roll.map fun r => r.id).getD 0 ∧ t.rd
    (0x60000000 + 0x3C) = BitVec.ofNat 32 (flag m.roll.isSome 0 + flag m.bound.isSome 1 + ((m.bound.map fun p => p.mode).getD
    0) * 4 + m.cause * 16 + flag m.nv.sealed 8 + flag m.bypass 10) ∧ t.rd (0x60000000 + 0x40) = BitVec.ofInt 32 ((m.roll.map
    fun r => r.start).getD 0) ∧ t.rd (0x60000000 + 0x44) = BitVec.ofInt 32 ((m.roll.map fun r => r.start).getD 0 / 2 ^ 32) ∧
    t.rd (0x60000000 + 0x48) = BitVec.ofInt 32 ((m.bound.map fun p => p.b).getD 0) ∧ t.rd (0x60000000 + 0x4C) = BitVec.ofInt 32
    ((m.bound.map fun p => p.b).getD 0 / 2 ^ 32) ∧ t.rd (0x60000000 + 0x84) = BitVec.ofNat 32 m.nv.paramSet ∧ t.rd (0x60000000
    + 0x88) = BitVec.ofNat 32 m.nv.nextTicket ∧ t.rd (0x60000000 + 0x8C) = BitVec.ofNat 32 m.nv.nextRec ∧ (∀ i, i < 9 → t.rd
    (0x60000000 + 0x60 + 4 * i) = tabGet 0 m.nv.params (i + 1)) ∧ (bit (s.rd (0x60000000 + 0x3C)) 10 ≠ m.bypass → t.regF .tml
    0x20 7 1 = 1) ∧ SameRegsBut ((Page.base .tml + 0x20) :: ([0x20, 0x24, 0x28, 0x2C, 0x30, 0x34, 0x38, 0x3C, 0x40, 0x44, 0x48,
    0x4C, 0x84, 0x88, 0x8C] ++ (List.range 9).map (0x60 + 4 * ·)).map (0x60000000 + ·)) s t ∧ t =
    { s with regs := t.regs, fab := t.fab }) ∧ Ends (.statusTransfer false) s (fun t => (t.reg .tml 0x44).toNat = min ((s.reg
    .tml 0x44).toNat + 1) (2 ^ 32 - 1) ∧ (0x1C, 0) ∈ t.raised ∧ SameRegsBut [Page.base .tml + 0x44] s t ∧ t =
    { s with regs := t.regs, raised := t.raised })

/-- TICKET_TRANSFER: the ticket stands in its slot of the mirror and raises its event (R262, R264, R296). -/
def ticketTransferDoes : Prop := ∀ (a : List TmXfer) (n : Nat) (bs : List Nat) (rest : List TmXfer) (s : State),
  let left := a ++ rest
  s.tm.out = a ++ .ticket n :: rest →
  (a.any TmXfer.isTicket) = false →
  (s.tm.nv.tickets.find? fun e => e.1 = n) = some (n, bs) →
  bs.length ≤ 64 →
  Ends (.ticketTransfer true) s (fun t => t.tm.out = left ∧ t.tm.mirT = n :: s.tm.mirT.filter (fun k => k % 256 ≠ n % 256) ∧ (∀
    i, i < bs.length / 4 → t.rd (0x60001000 + n % 256 * 64 + 4 * i) = BitVec.ofNat 32 (ofBytesLE ((bs.drop (4 * i)).take 4))) ∧
    t.regF .tml 0x20 0 1 = 1 ∧ t.tm = { s.tm with out := t.tm.out, mirT := t.tm.mirT } ∧ (∀ r, r ∉ [Page.base .tml + 0x20,
    Page.base .tml + 0x40] → r < 0x60001000 + n % 256 * 64 ∨ 0x60001000 + n % 256 * 64 + 64 ≤ r → t.rd r = s.rd r) ∧ t =
    { s with tm := t.tm, regs := t.regs, fab := t.fab }) ∧ Ends (.ticketTransfer false) s (fun t => t.tm =
    { s.tm with out := left } ∧ (t.reg .tml 0x44).toNat = min ((s.reg .tml 0x44).toNat + 1) (2 ^ 32 - 1) ∧ (0x1C, 0) ∈ t.raised
    ∧ SameRegsBut [Page.base .tml + 0x44] s t ∧ t = { s with tm := t.tm, regs := t.regs, raised := t.raised })

/-- AUDIT_TRANSFER: the record stands in its slot of the mirror and raises its event (R262, R264, R283, R296). -/
def auditTransferDoes : Prop := ∀ (a : List TmXfer) (n : Nat) (bs : List Nat) (rest : List TmXfer) (s : State),
  let left := a ++ rest
  s.tm.out = a ++ .audit n :: rest →
  (a.any TmXfer.isAudit) = false →
  (s.tm.nv.audits.find? fun e => e.1 = n) = some (n, bs) →
  bs.length ≤ 32 →
  Ends (.auditTransfer true) s (fun t => t.tm.out = left ∧ t.tm.mirA = n :: s.tm.mirA.filter (fun k => k % 4096 ≠ n % 4096) ∧
    (∀ i, i < bs.length / 4 → t.rd (0x60010000 + n % 4096 * 32 + 4 * i) = BitVec.ofNat 32 (ofBytesLE ((bs.drop (4 * i)).take
    4))) ∧ t.regF .tml 0x20 3 1 = 1 ∧ t.tm = { s.tm with out := t.tm.out, mirA := t.tm.mirA } ∧ (∀ r, r ∉ [Page.base .tml +
    0x20, Page.base .tml + 0x40] → r < 0x60010000 + n % 4096 * 32 ∨ 0x60010000 + n % 4096 * 32 + 32 ≤ r → t.rd r = s.rd r) ∧ t
    = { s with tm := t.tm, regs := t.regs, fab := t.fab }) ∧ Ends (.auditTransfer false) s (fun t => t.tm =
    { s.tm with out := left } ∧ (t.reg .tml 0x44).toNat = min ((s.reg .tml 0x44).toNat + 1) (2 ^ 32 - 1) ∧ (0x1C, 0) ∈ t.raised
    ∧ SameRegsBut [Page.base .tml + 0x44] s t ∧ t = { s with tm := t.tm, regs := t.regs, raised := t.raised })

/-- GONE_TRANSFER: the mirror knows the item gone and counts it (R264). -/
def goneTransferDoes : Prop := ∀ (a : List TmXfer) (k : Bool) (n : Nat) (rest : List TmXfer) (s : State),
  let left := a ++ rest
  s.tm.out = a ++ .gone k n :: rest →
  (a.any TmXfer.isGone) = false →
  Ends (.goneTransfer true) s (fun t => t.tm =
    { s.tm with out := left, goneT := (if k then [n] else []) ++ s.tm.goneT, goneA := (if k then [] else [n]) ++ s.tm.goneA } ∧
    (t.reg .tml 0x58).toNat = min ((s.reg .tml 0x58).toNat + 1) (2 ^ 32 - 1) ∧ SameRegsBut [Page.base .tml + 0x58, Page.base
    .tml + 0x40] s t ∧ t = { s with tm := t.tm, regs := t.regs }) ∧ Ends (.goneTransfer false) s (fun t => t.tm =
    { s.tm with out := left } ∧ (t.reg .tml 0x44).toNat = min ((s.reg .tml 0x44).toNat + 1) (2 ^ 32 - 1) ∧ (0x1C, 0) ∈ t.raised
    ∧ SameRegsBut [Page.base .tml + 0x44] s t ∧ t = { s with tm := t.tm, regs := t.regs, raised := t.raised })

/-- PROP_DONE: the proposal is done with its reason and value, and no longer busy (R297). -/
def propDoneDoes : Prop := ∀ (a : List TmXfer) (r : Reason) (v : Word) (rest : List TmXfer) (s : State),
  let left := a ++ rest
  s.tm.out = a ++ .propDone r v :: rest →
  (a.any TmXfer.isDone) = false →
  Ends (.propDone true) s (fun t => t.tm = { s.tm with out := left } ∧ t.rd 0x60030100 = BitVec.ofNat 32 (r.code + 2 ^ 9 + fld
    (s.rd 0x60030100) 16 16 * 2 ^ 16 + fld (s.rd 0x60030100) 10 6 * 2 ^ 10) ∧ t.rd 0x60030104 = v ∧ t.regF .tml 0x20 4 1 = 1 ∧
    SameRegsBut [0x60030100, 0x60030104, Page.base .tml + 0x20] s t ∧ t = { s with tm := t.tm, regs := t.regs, fab := t.fab })
    ∧ Ends (.propDone false) s (fun t => t.tm = { s.tm with out := left } ∧ (t.reg .tml 0x44).toNat = min ((s.reg .tml
    0x44).toNat + 1) (2 ^ 32 - 1) ∧ (0x1C, 0) ∈ t.raised ∧ SameRegsBut [Page.base .tml + 0x44] s t ∧ t =
    { s with tm := t.tm, regs := t.regs, raised := t.raised })

/-- ROLL_EVENT: an opened or closed roll raises its event; with ROLL_CFG.EN a context opens and a record of the boundary is written (R162, R184, R289). -/
def rollEventDoes : Prop := ∀ (a : List TmXfer) (b : Int) (id : Word) (mode : Nat) (inst : Nat) (rest : List TmXfer) (s : State),
  let left := a ++ rest
  let cfg := s.reg .trk 0x74
  let ra := rmAddr (s.reg .rmap 0x44).toNat
  let flags := (s.slotOf 0x1000).getD 0 * 2 ^ 12 + 0x20 + (if (s.slotOf 0x1000).isNone then 0x10 else 0) + (if s.roll.ovf then
    0x80 else 0)
  s.tm.out = a ++ .rollEvent b id mode inst :: rest →
  (a.any TmXfer.isRoll) = false →
  (bit cfg 0 = false → Ends (.rollEvent true) s fun t => t.tm = { s.tm with out := left } ∧ t.regF .tml 0x20 1 1 = 1 ∧
    SameRegsBut [Page.base .tml + 0x20] s t ∧ t = { s with tm := t.tm, regs := t.regs, fab := t.fab }) ∧ (bit cfg 0 = true →
    s.rmFill < 65536 → Ends (.rollEvent true) s fun t => t.tm = { s.tm with out := left } ∧ t.regF .tml 0x20 1 1 = 1 ∧ t.reg
    .rmap 0x44 = s.reg .rmap 0x44 + 1 ∧ t.memN ra 8 = uns 64 b ∧ t.memN (ra + 8) 4 = 0 ∧ t.memN (ra + 12) 4 = id.toNat ∧ t.memN
    (ra + 16) 3 = 0 ∧ t.memN (ra + 19) 3 = 0 ∧ t.memN (ra + 22) 2 = fld cfg 24 8 ∧ t.memN (ra + 26) 2 = 0xFFFF ∧ t.memN (ra +
    30) 2 = (crc16 (readBytes t.mem ra 30)).toNat ∧ (t.memN (ra + 28) 2 = 0xFFFF ∧ t.memN (ra + 24) 2 = flags ∨ t.memN (ra +
    28) 2 < 16384 ∧ t.memN (ra + 24) 2 = flags + 0x800) ∧ SameMemoryBut ra (ra + 32) s t) ∧ Ends (.rollEvent false) s (fun t =>
    t.tm = { s.tm with out := left } ∧ (t.reg .tml 0x44).toNat = min ((s.reg .tml 0x44).toNat + 1) (2 ^ 32 - 1) ∧ (0x1C, 0) ∈
    t.raised ∧ SameRegsBut [Page.base .tml + 0x44] s t ∧ t = { s with tm := t.tm, regs := t.regs, raised := t.raised })

/-- READ_REQ: Tidemark answers each index with the item or GONE (R262, R264). -/
def readReqDoes : Prop := ∀ (k : Bool) (first : Nat) (last : Nat) (s : State),
  let held := if k then s.tm.nv.tickets else s.tm.nv.audits
  let n := min ((last + 2 ^ 32 - first) % 2 ^ 32 + 1) 4096
  s.tmUp = true →
  s.tm.run = true →
  Ends (.readReq k first last) s fun t => t.tm =
    { s.tm with out := s.tm.out ++ (List.range n).map fun i => if held.any (fun e => e.1 = (first + i) % 2 ^ 32) then (if k then TmXfer.ticket ((first + i) % 2 ^ 32) else .audit ((first + i) % 2 ^ 32)) else .gone k ((first + i) % 2 ^ 32) }
    ∧ t = { s with tm := t.tm }

/-- TM_LINK_UP: the link is up, the mirror keeps only the latest items, and the proposal count starts anew (R264, R297). -/
def tmLinkUpDoes : Prop := ∀ (s : State),
  s.fuses.tidemark = true →
  s.tmUp = false →
  Ends .tmLinkUp s fun t => t.tmUp = true ∧ fld (t.rd 0x60030100) 16 16 = 0 ∧ fld (t.rd 0x60030100) 0 16 = fld (s.rd
    0x60030100) 0 16 ∧ t.tm.goneT = [] ∧ t.tm.goneA = [] ∧ (∀ n ∈ t.tm.mirT, n < s.tm.nv.nextTicket ∧ s.tm.nv.nextTicket ≤ n +
    256) ∧ (∀ n ∈ t.tm.mirA, n < s.tm.nv.nextRec ∧ s.tm.nv.nextRec ≤ n + 4096) ∧ (t.regF .tml 0x40 1 1 = 1 ↔ (∀ i, i < min 256
    s.tm.nv.nextTicket → s.tm.nv.nextTicket - 1 - i ∈ t.tm.mirT) ∧ ∀ i, i < min 4096 s.tm.nv.nextRec → s.tm.nv.nextRec - 1 - i
    ∈ t.tm.mirA) ∧ t.tm = { s.tm with mirT := t.tm.mirT, mirA := t.tm.mirA, goneT := [], goneA := [] } ∧ t =
    { s with tm := t.tm, regs := t.regs }

/-- TM_LINK_DOWN: the link's fault is reported, what was on its way is lost, and a busy proposal ends with INTERNAL (R22, R264, R297, R298). -/
def tmLinkDownDoes : Prop := ∀ (s : State),
  let n := s.tm.samples.length
  s.tmUp = true →
  Ends .tmLinkDown s fun t => t.tmUp = false ∧ t.regF .tml 0x40 1 1 = 0 ∧ t.regF .tml 0x20 6 1 = 1 ∧ (0x1C, 0) ∈ t.raised ∧
    t.tm = { s.tm with samples := [], out := [], props := s.tm.props.map fun p => { p with awaited := false } } ∧ (t.reg .tml
    0x48).toNat = min ((s.reg .tml 0x48).toNat + n) (2 ^ 32 - 1) ∧ (bit (s.rd 0x60030100) 8 = true → fld (t.rd 0x60030100) 0 9
    = Reason.internal.code) ∧ (bit (s.rd 0x60030100) 8 = false → t.rd 0x60030100 = s.rd 0x60030100) ∧ SameRegsBut [Page.base
    .tml + 0x40, Page.base .tml + 0x20, Page.base .tml + 0x48, 0x60030100] s t ∧ t =
    { s with tm := t.tm, regs := t.regs, fab := t.fab, raised := t.raised }

/-! ### Tidemark -/

/-- PROPOSAL_PARAM: a proposal that passes its checks sets the parameter, counts an event, is audited and committed, and marks an open roll; else it is answered with its first failed check (R277–R279, R283, R293). -/
def proposalParamDoes : Prop := ∀ (p : TmProp) (rest : List TmProp) (s : State),
  let n := s.tm.nv
  let r := s.tm.propReason p
  s.tm.props = p :: rest →
  s.tm.run = true →
  s.tm.stopped = false →
  (p.kindN ≤ 1 ∨ 4 < p.kindN) →
  (r ≠ .none → Ends .proposalParam s fun t => t.tm = { s.tm with props := rest, out := s.tmAnswers p [] (.propDone r 0) } ∧ t =
    { s with tm := t.tm }) ∧ (r = .none → Ends .proposalParam s fun t => t.tm.props = rest ∧ t.tm.nv.events = n.events + 1 ∧
    tabGet? t.tm.nv.params p.id = some (BitVec.ofNat 32 p.val) ∧ SameTab p.id n.params t.tm.nv.params ∧ t.tm.nv.sealed =
    n.sealed ∧ Audited s t (n.events + 1) n.sealed 1 p.id (tabGet 0 n.params p.id).toNat (p.val % 2 ^ 32) ∧ Committed s t false
    ∧ t.tm.roll = s.tm.roll.map (fun r => { r with changed := true }) ∧ t.tm.out = s.tmAnswers p [.audit n.nextRec] (.propDone
    .none (BitVec.ofNat 32 (n.events + 1))) ∧ t.tm.w0 = s.tm.w0 ∧ t.tm.w1 = s.tm.w1 ∧ t.tm.base = s.tm.base ∧ t.tm.live =
    s.tm.live ∧ t.tm.err = s.tm.err ∧ t.tm.total = s.tm.total ∧ t.tm.hw = s.tm.hw ∧ t = { s with tm := t.tm })

/-- PROPOSAL_SEAL: with every parameter set Tidemark is sealed; the event is counted, audited and committed (R278–R280, R283). -/
def proposalSealDoes : Prop := ∀ (p : TmProp) (rest : List TmProp) (s : State),
  let n := s.tm.nv
  let r := s.tm.propReason p
  s.tm.props = p :: rest →
  s.tm.run = true →
  s.tm.stopped = false →
  p.kindN = 2 →
  (r ≠ .none → Ends .proposalSeal s fun t => t.tm = { s.tm with props := rest, out := s.tmAnswers p [] (.propDone r 0) } ∧ t =
    { s with tm := t.tm }) ∧ (r = .none → Ends .proposalSeal s fun t => t.tm.props = rest ∧ t.tm.nv.events = n.events + 1 ∧
    t.tm.nv.sealed = true ∧ t.tm.nv.params = n.params ∧ Audited s t (n.events + 1) true 2 0 0 0 ∧ Committed s t false ∧
    t.tm.roll = s.tm.roll.map (fun r => { r with changed := true }) ∧ t.tm.out = s.tmAnswers p [.audit n.nextRec] (.propDone
    .none (BitVec.ofNat 32 (n.events + 1))) ∧ t.tm.w0 = s.tm.w0 ∧ t.tm.w1 = s.tm.w1 ∧ t.tm.base = s.tm.base ∧ t.tm.live =
    s.tm.live ∧ t.tm.err = s.tm.err ∧ t.tm.total = s.tm.total ∧ t.tm.hw = s.tm.hw ∧ t = { s with tm := t.tm })

/-- PROPOSAL_ROLL: the boundary is pending, or cancelled, and committed (R287, R288). -/
def proposalRollDoes : Prop := ∀ (p : TmProp) (rest : List TmProp) (s : State),
  let n := s.tm.nv
  let r := s.tm.propReason p
  s.tm.props = p :: rest →
  s.tm.run = true →
  s.tm.stopped = false →
  p.kindN = 3 →
  (r ≠ .none → Ends .proposalRoll s fun t => t.tm = { s.tm with props := rest, out := s.tmAnswers p [] (.propDone r 0) } ∧ t =
    { s with tm := t.tm }) ∧ (r = .none → Ends .proposalRoll s fun t => t.tm.props = rest ∧ t.tm.bound = (if p.mode = 3 then
    none else some ⟨p.mode, sgn 64 p.val, p.aux⟩) ∧ Committed s t false ∧ t.tm.nv = { n with ckpts := t.tm.nv.ckpts } ∧
    t.tm.roll = s.tm.roll ∧ t.tm.out = s.tmAnswers p [] (.propDone .none 0) ∧ t.tm.w0 = s.tm.w0 ∧ t.tm.w1 = s.tm.w1 ∧ t.tm.base
    = s.tm.base ∧ t.tm.live = s.tm.live ∧ t.tm.err = s.tm.err ∧ t.tm.total = s.tm.total ∧ t.tm.hw = s.tm.hw ∧ t =
    { s with tm := t.tm })

/-- PROPOSAL_VERIFY: the MAC of the ticket or record is judged with the key, and nothing else of Tidemark changes (R291). -/
def proposalVerifyDoes : Prop := ∀ (p : TmProp) (rest : List TmProp) (s : State),
  let n := s.tm.nv
  let r := s.tm.propReason p
  let bs := p.data.flatMap fun w => bytesLE 4 w.toNat
  let ok := if p.mode = 0 then (bs.drop 56).take 8 == (hmacSha256 n.key (bs.take 56)).take 8 else (bs.drop 28).take 4 ==
    (hmacSha256 n.key (bs.take 28 ++ (bs.drop 32).take 4)).take 4
  s.tm.props = p :: rest →
  s.tm.run = true →
  s.tm.stopped = false →
  p.kindN = 4 →
  (r ≠ .none → Ends .proposalVerify s fun t => t.tm = { s.tm with props := rest, out := s.tmAnswers p [] (.propDone r 0) } ∧ t
    = { s with tm := t.tm }) ∧ (r = .none → Ends .proposalVerify s fun t => t.tm.props = rest ∧ t.tm =
    { s.tm with props := rest, out := s.tmAnswers p [] (.propDone .none (if ok then 1 else 0)) } ∧ t = { s with tm := t.tm })

/-- BYPASS_CHANGE: the debounced level is audited, and an open roll remembers a bypass (R281, R283). -/
def bypassChangeDoes : Prop := ∀ (on : Bool) (s : State),
  s.fuses.tidemark = true →
  s.tm.run = true →
  (s.tm.bypass ≠ on → Ends (.bypassChange on) s fun t => t.tm.bypass = on ∧ t.tm.roll = s.tm.roll.map (fun r =>
    { r with bypass := r.bypass || on }) ∧ Audited s t s.tm.nv.events s.tm.nv.sealed (if on then 3 else 4) 0 0 0 ∧
    t.tm.nv.events = s.tm.nv.events ∧ t.tm.out = s.tmSends [.audit s.tm.nv.nextRec] ∧ t.tm.w0 = s.tm.w0 ∧ t.tm.w1 = s.tm.w1 ∧
    t.tm.base = s.tm.base ∧ t.tm.live = s.tm.live ∧ t.tm.err = s.tm.err ∧ t.tm.total = s.tm.total ∧ t.tm.hw = s.tm.hw ∧ t =
    { s with tm := t.tm }) ∧ (s.tm.bypass = on → Ends (.bypassChange on) s fun t => t = s)

/-- PROP_SUBMIT: the staged words go to Tidemark and the window is busy; with the link down the proposal ends with INTERNAL (R262, R297). -/
def propSubmitDoes : Prop := ∀ (m : Master) (s : State),
  let w := s.rd 0x60030100
  let n := (fld w 16 16 + 1) % 2 ^ 16
  s.accepts ⟨m, 0x600300F0, 4, 1, true⟩ →
  (s.tmUp = true → Ends (.propSubmit m) s fun t => t.rd 0x60030100 = BitVec.ofNat 32 (0x100 + n * 2 ^ 16) ∧ t.tm =
    { s.tm with props := s.tm.props ++ [⟨s.rd 0x60030000, (s.rd 0x60030008).toNat + 2 ^ 32 * (s.rd 0x6003000C).toNat, s.rd 0x60030010, (List.range 16).map fun k => s.rd (0x60030040 + 4 * k), true⟩] }
    ∧ SameRegsBut [0x60030100] s t ∧ Written m 0x60030000 s t ∧ t = { s with tm := t.tm, regs := t.regs, fab := t.fab }) ∧
    (s.tmUp = false → Ends (.propSubmit m) s fun t => t.rd 0x60030100 = BitVec.ofNat 32 (Reason.internal.code + n * 2 ^ 16) ∧
    SameRegsBut [0x60030100] s t ∧ Written m 0x60030000 s t ∧ t = { s with regs := t.regs, fab := t.fab })

/-- MIRROR_REFILL: MIRROR_OK reads 0 and the mirror is empty until it is filled again (R264, R298). -/
def mirrorRefillDoes : Prop := ∀ (m : Master) (s : State),
  s.accepts (put32 m .tml 0x54 1) →
  Ends (.mirrorRefill m) s fun t => t.regF .tml 0x40 1 1 = 0 ∧ t.tm =
    { s.tm with mirT := [], mirA := [], goneT := [], goneA := [] } ∧ (∀ n ∈ s.tm.mirT, ∀ k, k < 16 → t.rd (0x60001000 + n % 256
    * 64 + 4 * k) = 0) ∧ (∀ n ∈ s.tm.mirA, ∀ k, k < 8 → t.rd (0x60010000 + n % 4096 * 32 + 4 * k) = 0) ∧ (∀ a, a < 0x60001000 ∨
    0x60005000 ≤ a ∧ a < 0x60010000 ∨ 0x60030000 ≤ a → a ≠ Page.base .tml + 0x40 → t.rd a = s.rd a) ∧ Written m (Page.base
    .tml) s t ∧ t = { s with tm := t.tm, regs := t.regs, fab := t.fab }

/-- TM_CNT_CLR: the link's counters read 0 (R298). -/
def tmCntClrDoes : Prop := ∀ (m : Master) (s : State),
  Clears (.tmCntClr m) m .tml 0x50 1 [0x44, 0x48, 0x58] s

/-- TM_ERR_CLR: PROP_ERR reads 0 (R298). -/
def tmErrClrDoes : Prop := ∀ (m : Master) (s : State),
  Clears (.tmErrClr m) m .tml 0x50 2 [0x4C] s

/-- POS_SNAPSHOT_READ: the coordinate's low word; the other words of the broadcast are latched (R53, R275). -/
def posSnapshotReadDoes : Prop := ∀ (m : Master) (wide : Bool) (s : State),
  s.serves ⟨m, 0x60000000, if wide then 8 else 4, 0, true⟩ →
  Ends (.posSnapshotRead m wide) s fun t => ReadBy m (if wide then (s.rd 0x60000000).toNat + 2 ^ 32 * (s.rd 0x60000004).toNat
    else (s.rd 0x60000000).toNat) s t ∧ Latched t m (0x60000000) (0x60000000 + 4) (s.rd 0x60000004) ∧ Latched t m (0x60000000)
    (0x60000000 + 8) (s.rd (0x60000000 + 8)) ∧ Latched t m (0x60000000) (0x60000000 + 12) (s.rd (0x60000000 + 12)) ∧ Latched t
    m (0x60000000) (0x60000000 + 16) (s.rd (0x60000000 + 16)) ∧ Latched t m (0x60000000) (0x60000000 + 20) (s.rd (0x60000000 +
    20)) ∧ Latched t m (0x60000000) (0x60000000 + 24) (s.rd (0x60000000 + 24)) ∧ t = { s with fab := t.fab }

/-- TOTAL_READ: TOTAL's low word, its high word latched (R53, R296). -/
def totalReadDoes : Prop := ∀ (m : Master) (wide : Bool) (s : State),
  s.serves ⟨m, 0x60000020, if wide then 8 else 4, 0, true⟩ →
  Ends (.totalRead m wide) s fun t => ReadBy m (if wide then (s.rd 0x60000020).toNat + 2 ^ 32 * (s.rd 0x60000024).toNat else
    (s.rd 0x60000020).toNat) s t ∧ Latched t m (0x60000000) (0x60000020 + 4) (s.rd 0x60000024) ∧ t = { s with fab := t.fab }

/-- EVENTS_READ: EVENTS' low word, its high word latched (R53, R296). -/
def eventsReadDoes : Prop := ∀ (m : Master) (wide : Bool) (s : State),
  s.serves ⟨m, 0x60000028, if wide then 8 else 4, 0, true⟩ →
  Ends (.eventsRead m wide) s fun t => ReadBy m (if wide then (s.rd 0x60000028).toNat + 2 ^ 32 * (s.rd 0x6000002c).toNat else
    (s.rd 0x60000028).toNat) s t ∧ Latched t m (0x60000000) (0x60000028 + 4) (s.rd 0x6000002c) ∧ t = { s with fab := t.fab }

/-! ### Tidemark -/

/-- TICKET_ISSUE: the oldest closed roll's ticket is written and sent; the legal-error state ends, and is entered again while its cause is active (R273, R285, R290, R292). -/
def ticketIssueDoes : Prop := ∀ (c : TmClosed) (rest : List TmClosed) (s : State),
  let n := s.tm.nv
  s.tm.closed = c :: rest →
  s.tm.run = true →
  Ends .ticketIssue s fun t => t.tm.closed = rest ∧ t.tm.nv.tickets = ((n.nextTicket, ticketBytes s.tm s.fuses.tmFwCrc c) ::
    n.tickets).take 256 ∧ t.tm.nv.nextTicket = (n.nextTicket + 1) % 2 ^ 32 ∧ t.tm.nv.rollover = false ∧ t.tm.err = (s.tm.err &&
    (s.tm.clockBad || s.tm.fwBad)) ∧ Committed s t false ∧ (t.tm.err = false → t.tm.nv.errOwed = false ∧ t.tm.out = s.tmSends
    [.ticket n.nextTicket] ∧ t.tm.nv.audits = n.audits) ∧ (t.tm.err = true → t.tm.cause = if s.tm.clockBad then 6 else 9) ∧ t =
    { s with tm := t.tm }

/-- HOLDUP_ENTRY: Tidemark knows the hold-up, and so does an open roll (R293). -/
def holdupEntryDoes : Prop := ∀ (s : State),
  s.fuses.tidemark = true →
  s.tm.run = true →
  Ends .holdupEntry s fun t => t.tm = { s.tm with holdup := true, roll := s.tm.roll.map fun r => { r with powerLoss := true } }
    ∧ t = { s with tm := t.tm }

/-- REST_COMMIT: in hold-up, 100 ms without a count commit once (R293). -/
def restCommitDoes : Prop := ∀ (s : State),
  let rests := s.tm.run && s.tm.holdup && !s.tm.stopped && !s.tm.rested && decide (s.tm.lastCount + 800000000 ≤ s.fieldNow)
  (rests = true → Ends .restCommit s fun t => Committed s t false ∧ t.tm =
    { s.tm with rested := true, nv := { s.tm.nv with ckpts := t.tm.nv.ckpts } } ∧ t = { s with tm := t.tm }) ∧ (rests = false →
    Ends .restCommit s fun t => t = s)

/-- FINAL_COMMIT: the counting state is committed and counting stops (R293). -/
def finalCommitDoes : Prop := ∀ (s : State),
  s.tm.run = true →
  s.tm.holdup = true →
  s.tm.stopped = false →
  Ends .finalCommit s fun t => Committed s t true ∧ t.tm =
    { s.tm with stopped := true, nv := { s.tm.nv with ckpts := t.tm.nv.ckpts } } ∧ t = { s with tm := t.tm }

/-- CHECKPOINT: the counting state is committed (R293). -/
def checkpointDoes : Prop := ∀ (s : State),
  s.tm.run = true →
  s.tm.stopped = false →
  Ends .checkpoint s fun t => Committed s t false ∧ t.tm = { s.tm with nv := { s.tm.nv with ckpts := t.tm.nv.ckpts } } ∧ t =
    { s with tm := t.tm }

/-- TIDEMARK_BOOT: the first boot makes a key; every other restores the newest valid checkpoint and audits the boot, and a lost count, a bad image or a watchdog restart is a legal error (R272, R290, R293–R295). -/
def tidemarkBootDoes : Prop := ∀ (bad : Nat) (fwOk : Bool) (c : TmCkpt) (s : State),
  let n := s.tm.nv
  let m := fun (t : State) => t.tm
  let power := decide (0 < bad) || (c.final && c.moving)
  s.fuses.tidemark = true →
  s.tm.run = false →
  (n.key = [] → Ends (.tidemarkBoot bad fwOk) s fun t => (m t).run = true ∧ (m t).nv.key.length = 32 ∧ (m t).w0.count = 0 ∧ (m
    t).total = 0 ∧ t.regF .tml 0x40 2 1 = 1 ∧ (m t).err = !fwOk ∧ (m t).nv.events = n.events ∧ t =
    { s with tm := t.tm, regs := t.regs, free := t.free }) ∧ (n.key ≠ [] → (n.ckpts.drop bad).head? = some c → Ends
    (.tidemarkBoot bad fwOk) s fun t => (m t).run = true ∧ (m t).stopped = false ∧ (m t).w0.count = c.count0 ∧ (m t).w1.count =
    c.count1 ∧ (m t).base = c.base ∧ (m t).hw = c.hw ∧ (m t).total = c.total ∧ (m t).bound = c.bound ∧ (m t).closed = c.closed
    ∧ (m t).roll = c.roll.map (fun r => { r with powerLoss := true }) ∧ (m t).live = n.params ∧ (m t).nv.ckpts = n.ckpts.drop
    bad ∧ (m t).nv.params = n.params ∧ (m t).nv.key = n.key ∧ (m t).nv.sealed = n.sealed ∧ (m t).nv.events = n.events ∧ (m
    t).err = (power || !fwOk || s.tm.wdRestart) ∧ ((m t).err = true → (m t).cause = if s.tm.wdRestart then 8 else if power then
    7 else 9) ∧ (power = false → fwOk = true → s.tm.wdRestart = false → Audited { s with tm := { s.tm with last := none } } t
    n.events n.sealed 7 0 0 0) ∧ t.regF .tml 0x40 2 1 = 1 ∧ SameRegsBut [Page.base .tml + 0x40] s t ∧ t =
    { s with tm := t.tm, regs := t.regs })

/-- TIDEMARK_WATCHDOG_EXPIRY: Tidemark stops without a commit, its non-volatile memory stands (R272, R294, R457). -/
def tidemarkWatchdogExpiryDoes : Prop := ∀ (s : State),
  s.tm.run = true →
  Ends .tidemarkWatchdogExpiry s fun t => t.tm.run = false ∧ t.tm.wdRestart = true ∧ t.tm.nv = s.tm.nv ∧ t.tm.bypass =
    s.tm.bypass ∧ t.tm.samples = s.tm.samples ∧ t.tm.props = s.tm.props ∧ t.regF .tml 0x40 2 1 = 0 ∧ SameRegsBut [Page.base
    .tml + 0x40] s t ∧ t = { s with tm := t.tm, regs := t.regs }

/-- TIDEMARK_CLOCK_FAULT: clocks out of tolerance are a legal error (R272). -/
def tidemarkClockFaultDoes : Prop := ∀ (bad : Bool) (s : State),
  s.tm.run = true →
  (bad = false ∨ s.tm.err = true → Ends (.tidemarkClockFault bad) s fun t => t = s.setTm { s.tm with clockBad := bad }) ∧ (bad
    = true → s.tm.err = false → Ends (.tidemarkClockFault bad) s fun t => t.tm.clockBad = true ∧ t.tm.err = true ∧ t.tm.cause =
    6 ∧ t.tm.nv.errOwed = true ∧ Audited s t s.tm.nv.events s.tm.nv.sealed 6 0 6 0 ∧ t.tm.w0 = s.tm.w0 ∧ t.tm.w1 = s.tm.w1 ∧
    t.tm.base = s.tm.base ∧ t.tm.live = s.tm.live ∧ t.tm.total = s.tm.total ∧ t.tm.hw = s.tm.hw ∧ t = { s with tm := t.tm })

/-! ### Swell engines -/

/-- SWELL_RUN: the engine runs from its entry (R363–R365). -/
def swellRunDoes : Prop := ∀ (m : Master) (e : Nat) (s : State),
  let x := s.sw e
  s.accepts (put32 m (.swell e) 0x40 1) →
  (s.swPaired e = false → Ends (.swellRun m e) s fun t => t.swState e = 1 ∧ t.swPc e = s.regF (.swell e) 0x44 0 14 ∧ t.sw e =
    { x with step := false, haltOwed := false } ∧ t.regF (.swell e) 0x48 8 8 = s.regF (.swell e) 0x48 8 8 ∧ SameTab e s.swell
    t.swell ∧ SameRegsBut [Page.base (.swell e) + 0x48] s t ∧ Written m (Page.base (.swell e)) s t ∧ t =
    { s with regs := t.regs, fab := t.fab, swell := t.swell }) ∧ (s.swPaired e = true → Ends (.swellRun m e) s fun t =>
    t.swState e = 1 ∧ t.swPc e = s.regF (.swell e) 0x44 0 14 ∧ t.sw e = { x with step := false, haltOwed := false } ∧ t.regF
    (.swell e) 0x48 8 8 = s.regF (.swell e) 0x48 8 8 ∧ (e % 2 = 0 → t.sw (e + 1) = t.sw e ∧ t.swState (e + 1) = 4 ∧ t.swPc (e +
    1) = t.swPc e) ∧ SameTabBut [e, e + 1] s.swell t.swell ∧ t = { s with regs := t.regs, fab := t.fab, swell := t.swell })

/-- SWELL_STOP: a running or waiting engine stops at the bundle boundary (R365). -/
def swellStopDoes : Prop := ∀ (m : Master) (e : Nat) (s : State),
  let x := s.sw e
  s.accepts (put32 m (.swell e) 0x40 2) →
  (s.swPaired e = false → Ends (.swellStop m e) s fun t => (s.swBusy e = true → t.swState e = 0 ∧ t.regF (.swell e) 0x48 8 8 =
    1) ∧ (s.swBusy e = false → t.swState e = s.swState e) ∧ t.swPc e = s.swPc e ∧ t.sw e = { x with step := false } ∧ SameTab e
    s.swell t.swell ∧ SameRegsBut [Page.base (.swell e) + 0x48] s t ∧ Written m (Page.base (.swell e)) s t ∧ t =
    { s with regs := t.regs, fab := t.fab, swell := t.swell }) ∧ (s.swPaired e = true → Ends (.swellStop m e) s fun t =>
    (s.swBusy e = true → t.swState e = 0 ∧ t.regF (.swell e) 0x48 8 8 = 1) ∧ (s.swBusy e = false → t.swState e = s.swState e) ∧
    t.swPc e = s.swPc e ∧ t.sw e = { x with step := false } ∧ (e % 2 = 0 → t.sw (e + 1) = t.sw e ∧ t.swState (e + 1) = 4 ∧
    t.swPc (e + 1) = t.swPc e) ∧ SameTabBut [e, e + 1] s.swell t.swell ∧ t =
    { s with regs := t.regs, fab := t.fab, swell := t.swell })

/-- SWELL_STEP: the engine executes one bundle (R365). -/
def swellStepDoes : Prop := ∀ (m : Master) (e : Nat) (s : State),
  let x := s.sw e
  s.accepts (put32 m (.swell e) 0x40 4) →
  (s.swPaired e = false → Ends (.swellStep m e) s fun t => t.swState e = 1 ∧ t.swPc e = s.swPc e ∧ t.sw e =
    { x with step := true, haltOwed := false } ∧ SameTab e s.swell t.swell ∧ SameRegsBut [Page.base (.swell e) + 0x48] s t ∧
    Written m (Page.base (.swell e)) s t ∧ t = { s with regs := t.regs, fab := t.fab, swell := t.swell }) ∧ (s.swPaired e =
    true → Ends (.swellStep m e) s fun t => t.swState e = 1 ∧ t.swPc e = s.swPc e ∧ t.sw e =
    { x with step := true, haltOwed := false } ∧ (e % 2 = 0 → t.sw (e + 1) = t.sw e ∧ t.swState (e + 1) = 4 ∧ t.swPc (e + 1) =
    t.swPc e) ∧ SameTabBut [e, e + 1] s.swell t.swell ∧ t = { s with regs := t.regs, fab := t.fab, swell := t.swell })

/-- SWELL_RESUME: the engine runs on from PC (R365). -/
def swellResumeDoes : Prop := ∀ (m : Master) (e : Nat) (s : State),
  let x := s.sw e
  s.accepts (put32 m (.swell e) 0x40 16) →
  (s.swPaired e = false → Ends (.swellResume m e) s fun t => t.swState e = 1 ∧ t.swPc e = s.swPc e ∧ t.sw e =
    { x with step := false, haltOwed := false } ∧ SameTab e s.swell t.swell ∧ SameRegsBut [Page.base (.swell e) + 0x48] s t ∧
    Written m (Page.base (.swell e)) s t ∧ t = { s with regs := t.regs, fab := t.fab, swell := t.swell }) ∧ (s.swPaired e =
    true → Ends (.swellResume m e) s fun t => t.swState e = 1 ∧ t.swPc e = s.swPc e ∧ t.sw e =
    { x with step := false, haltOwed := false } ∧ (e % 2 = 0 → t.sw (e + 1) = t.sw e ∧ t.swState (e + 1) = 4 ∧ t.swPc (e + 1) =
    t.swPc e) ∧ SameTabBut [e, e + 1] s.swell t.swell ∧ t = { s with regs := t.regs, fab := t.fab, swell := t.swell })

/-- SWELL_WAKE_CMD: a waiting engine goes on, or its STEP ends; else the wake is kept, and one that finds one kept is counted (R360, R365). -/
def swellWakeCmdDoes : Prop := ∀ (m : Master) (e : Nat) (s : State),
  let x := s.sw e
  s.accepts (put32 m (.swell e) 0x40 8) →
  s.swOn e = true →
  (s.swPaired e = false → Ends (.swellWakeCmd m e) s fun t => (s.swState e = 2 → x.step = false → t.swState e = 1 ∧ t.sw e = x
    ∧ t.reg64 (.swell e) 0x54 = (s.reg64 (.swell e) 0x54 + 1) % 2 ^ 64) ∧ (s.swState e = 2 → x.step = true → t.swState e = 0 ∧
    t.sw e = { x with step := false }) ∧ (s.swState e ≠ 2 → x.wake = false → t.swState e = s.swState e ∧ t.sw e =
    { x with wake := true }) ∧ (s.swState e ≠ 2 → x.wake = true → t.sw e = x ∧ (t.reg (.swell e) 0x60).toNat = min ((s.reg
    (.swell e) 0x60).toNat + 1) (2 ^ 32 - 1)) ∧ t.swPc e = s.swPc e ∧ SameTab e s.swell t.swell ∧ SameRegsBut [Page.base
    (.swell e) + 0x48, Page.base (.swell e) + 0x54, Page.base (.swell e) + 0x58, Page.base (.swell e) + 0x60] s t ∧ Written m
    (Page.base (.swell e)) s t ∧ t = { s with regs := t.regs, fab := t.fab, swell := t.swell }) ∧ (s.swPaired e = true → Ends
    (.swellWakeCmd m e) s fun t => (s.swState e = 2 → x.step = false → t.swState e = 1 ∧ t.sw e = x ∧ t.reg64 (.swell e) 0x54 =
    (s.reg64 (.swell e) 0x54 + 1) % 2 ^ 64) ∧ (s.swState e = 2 → x.step = true → t.swState e = 0 ∧ t.sw e =
    { x with step := false }) ∧ (s.swState e ≠ 2 → x.wake = false → t.swState e = s.swState e ∧ t.sw e =
    { x with wake := true }) ∧ (s.swState e ≠ 2 → x.wake = true → t.sw e = x ∧ (t.reg (.swell e) 0x60).toNat = min ((s.reg
    (.swell e) 0x60).toNat + 1) (2 ^ 32 - 1)) ∧ t.swPc e = s.swPc e ∧ (e % 2 = 0 → t.sw (e + 1) = t.sw e ∧ t.swState (e + 1) =
    4 ∧ t.swPc (e + 1) = t.swPc e) ∧ SameTabBut [e, e + 1] s.swell t.swell ∧ t =
    { s with regs := t.regs, fab := t.fab, swell := t.swell })

/-- PAIR_SET: the copy into the odd engine, now a checker, begins (R363). -/
def pairSetDoes : Prop := ∀ (m : Master) (e : Nat) (cfg : Word) (s : State),
  let v := cfg ||| 0x20000
  s.accepts (put32 m (.swell e) 0x44 v.toNat) →
  e % 2 = 0 →
  s.swPaired e = false →
  Ends (.pairSet m e cfg) s fun t => t.reg (.swell e) 0x44 = v ∧ t.swPaired e = true ∧ t.swCopying e = true ∧ bit (t.reg
    (.swell e) 0x6C) 0 = false ∧ t.swState (e + 1) = 4 ∧ t.swell = s.swell ∧ SameMemory s t ∧ SameRegsBut [Page.base (.swell e)
    + 0x44, Page.base (.swell e) + 0x6C, Page.base (.swell (e + 1)) + 0x48] s t ∧ Written m (Page.base (.swell e)) s t ∧ t =
    { s with regs := t.regs, fab := t.fab }

/-- PAIR_CLEAR: the odd engine is free, with the state that the even engine has (R363). -/
def pairClearDoes : Prop := ∀ (m : Master) (e : Nat) (cfg : Word) (s : State),
  let v := cfg &&& 0xFFFDFFFF
  s.accepts (put32 m (.swell e) 0x44 v.toNat) →
  e % 2 = 0 →
  s.swPaired e = true →
  Ends (.pairClear m e cfg) s fun t => t.reg (.swell e) 0x44 = v ∧ t.swPaired e = false ∧ t.reg (.swell e) 0x6C = 0 ∧ t.reg
    (.swell (e + 1)) 0x48 = s.reg (.swell e) 0x48 ∧ t.swell = s.swell ∧ SameRegsBut [Page.base (.swell e) + 0x44, Page.base
    (.swell e) + 0x6C, Page.base (.swell (e + 1)) + 0x48] s t ∧ Written m (Page.base (.swell e)) s t ∧ t =
    { s with regs := t.regs, fab := t.fab }

/-- PAIR_COPY_DONE: the odd engine's memories and state are those of the even engine (R363). -/
def pairCopyDoneDoes : Prop := ∀ (k : Nat) (s : State),
  let e := 2 * k
  e + 1 < s.fuses.swells →
  s.swPaired e = true →
  s.swCopying e = true →
  Ends (.pairCopyDone k) s fun t => (∀ a, 0x30000000 + (e + 1) * 0x100000 ≤ a → a < 0x30000000 + (e + 2) * 0x100000 → readByte
    t.mem a = readByte s.mem (a - 0x100000)) ∧ (∀ a, a < 0x30000000 + (e + 1) * 0x100000 ∨ 0x30000000 + (e + 2) * 0x100000 ≤ a
    → readByte t.mem a = readByte s.mem a) ∧ t.reg (.swell e) 0x6C = 1 ∧ t.sw (e + 1) = s.sw e ∧ t.swState (e + 1) = 4 ∧ t.swPc
    (e + 1) = s.swPc e ∧ SameTab (e + 1) s.swell t.swell ∧ SameRegsBut [Page.base (.swell e) + 0x6C, Page.base (.swell (e + 1))
    + 0x48] s t ∧ t = { s with regs := t.regs, mem := t.mem, tags := t.tags, swell := t.swell }

/-- SWELL_ERR_CLR: SW_ERR reads 0, on both engines of a pair (R364, R365). -/
def swellErrClrDoes : Prop := ∀ (m : Master) (e : Nat) (s : State),
  s.accepts (put32 m (.swell e) 0x68 1) →
  Ends (.swellErrClr m e) s fun t => t.reg (.swell e) 0x50 = 0 ∧ (e % 2 = 0 → s.swPaired e = true → t.reg (.swell (e + 1)) 0x50
    = 0) ∧ SameRegsBut [Page.base (.swell e) + 0x50, Page.base (.swell (e + 1)) + 0x50] s t ∧ (s.swPaired e = false →
    SameRegsBut [Page.base (.swell e) + 0x50] s t) ∧ Written m (Page.base (.swell e)) s t ∧ t =
    { s with regs := t.regs, fab := t.fab }

/-- SWELL_CNT_CLR: the counters read 0, on both engines of a pair (R364, R365). -/
def swellCntClrDoes : Prop := ∀ (m : Master) (e : Nat) (s : State),
  s.accepts (put32 m (.swell e) 0x68 2) →
  Ends (.swellCntClr m e) s fun t => t.reg (.swell e) 0x54 = 0 ∧ t.reg (.swell e) 0x58 = 0 ∧ t.reg (.swell e) 0x5C = 0 ∧ t.reg
    (.swell e) 0x60 = 0 ∧ (e % 2 = 0 → s.swPaired e = true → t.reg (.swell (e + 1)) 0x54 = 0 ∧ t.reg (.swell (e + 1)) 0x58 = 0
    ∧ t.reg (.swell (e + 1)) 0x5C = 0 ∧ t.reg (.swell (e + 1)) 0x60 = 0) ∧ SameRegsBut [Page.base (.swell e) + 0x54, Page.base
    (.swell e) + 0x58, Page.base (.swell e) + 0x5C, Page.base (.swell e) + 0x60, Page.base (.swell (e + 1)) + 0x54, Page.base
    (.swell (e + 1)) + 0x58, Page.base (.swell (e + 1)) + 0x5C, Page.base (.swell (e + 1)) + 0x60] s t ∧ (s.swPaired e = false
    → SameRegsBut [Page.base (.swell e) + 0x54, Page.base (.swell e) + 0x58, Page.base (.swell e) + 0x5C, Page.base (.swell e)
    + 0x60] s t) ∧ Written m (Page.base (.swell e)) s t ∧ t = { s with regs := t.regs, fab := t.fab }

/-- BUNDLES_READ: the bundles executed, the high word latched (R53, R365). -/
def bundlesReadDoes : Prop := ∀ (m : Master) (e : Nat) (wide : Bool) (s : State),
  s.serves (readOf m (.swell e) (0x54) wide) →
  Ends (.bundlesRead m e wide) s fun t => ReadBy m (if wide then (s.reg (.swell e) 0x54).toNat + 2 ^ 32 * (s.reg (.swell e)
    0x58).toNat else (s.reg (.swell e) 0x54).toNat) s t ∧ Latched t m ((Page.base (.swell e))) ((Page.base (.swell e)) + (0x54)
    + 4) (s.reg (.swell e) 0x58) ∧ t = { s with fab := t.fab }

/-- APERTURE_ACCESS: an engine's program or data memory is read or written (R34, R366). -/
def apertureAccessDoes : Prop := ∀ (m : Master) (e : Nat) (off : Nat) (size : Nat) (v : Nat) (s : State),
  let a := 0x30000000 + e * 0x100000 + off
  e < 16 →
  off < 0x100000 →
  s.swPaired e = false →
  (s.accepts ⟨m, a, size, v, true⟩ → Ends (.apertureAccess m e off size true v) s fun t => (∀ k, k < size → readByte t.mem (a +
    k) = BitVec.ofNat 8 (v / 256 ^ k)) ∧ SameMemoryBut a (a + size) s t ∧ SameRegsBut [] s t ∧ (t.lastResp m).reason = .none ∧
    t = { s with mem := t.mem, tags := t.tags, fab := t.fab }) ∧ (s.serves ⟨m, a, size, 0, true⟩ → Ends (.apertureAccess m e
    off size false v) s fun t => t.lastResp m = ⟨.none, s.memN a size⟩ ∧ t = { s with fab := t.fab })

/-- SWELL_FABRIC_RESPONSE: the oldest access is answered; a load has its value, an error is recorded and may halt the engine (R50, R355, R359). -/
def swellFabricResponseDoes : Prop := ∀ (e : Nat) (o : SwOut) (rest : List SwOut) (s : State),
  let x := s.sw e
  let ready := fun (l : SwLoad) => decide (l.acc = some o.id) || l.acc.isNone
  let halts := decide (o.reason ≠ .none ∧ s.swBusy e = true) && bit (s.reg (.swell e) 0x44) 16
  s.swOn e = true →
  x.outs = o :: rest →
  s.swPaired e = false →
  Ends (.swellFabricResponse e) s fun t => (t.sw e).outs = rest ∧ (t.sw e).haltOwed = (x.haltOwed || halts) ∧ (t.sw e).loads =
    (x.loads.filter fun l => !(l.left == 0 && ready l)).map (fun l => if l.acc = some o.id then { l with acc := none } else l)
    ∧ (∀ l, x.loads = [l] → l.left = 0 → l.acc = some o.id → l.reg ≠ 0 → (t.sw e).gr l.reg = l.val) ∧ (o.reason = .none →
    SameRegsBut [] s t) ∧ (o.reason ≠ .none → s.reg (.swell e) 0x50 = 0 → t.reg (.swell e) 0x50 = BitVec.ofNat 32
    (o.reason.code + o.bank * 2 ^ 8 + o.waddr * 2 ^ 12) ∧ t.regF (.swell e) 0x20 3 1 = 1) ∧ (o.reason ≠ .none → s.reg (.swell
    e) 0x50 ≠ 0 → bit (t.reg (.swell e) 0x50) 31 = true) ∧ SameTab e s.swell t.swell ∧ SameRegsBut [Page.base (.swell e) +
    0x50, Page.base (.swell e) + 0x20] s t ∧ t = { s with regs := t.regs, fab := t.fab, swell := t.swell }

/-- WAIT_WAKE: a waiting engine goes on, or its STEP ends; WAIT counts as executed (R360, R365). -/
def waitWakeDoes : Prop := ∀ (e : Nat) (s : State),
  let x := s.sw e
  s.swOn e = true →
  s.swPaired e = false →
  (s.swState e = 2 → x.step = false → Ends (.waitWake e) s fun t => t.swState e = 1 ∧ t.sw e = x ∧ t.reg64 (.swell e) 0x54 =
    (s.reg64 (.swell e) 0x54 + 1) % 2 ^ 64 ∧ SameRegsBut [Page.base (.swell e) + 0x48, Page.base (.swell e) + 0x54, Page.base
    (.swell e) + 0x58] s t ∧ SameTab e s.swell t.swell ∧ t = { s with regs := t.regs, swell := t.swell }) ∧ (s.swState e = 2 →
    x.step = true → Ends (.waitWake e) s fun t => t.swState e = 0 ∧ t.sw e = { x with step := false } ∧ SameTab e s.swell
    t.swell ∧ t = { s with regs := t.regs, swell := t.swell }) ∧ (s.swState e ≠ 2 → Ends (.waitWake e) s fun t => t = s)

/-- ROUTE_SWELL_WAKE: the route's wake reaches its engine (R360, R449). -/
def routeSwellWakeDoes : Prop := ∀ (e : Nat) (r : RouteDue) (u : State) (s : State),
  let x := s.sw e
  s.routeTake 6 e = some (r, u) →
  s.swOn e = true →
  s.swPaired e = false →
  (s.swState e = 2 → x.step = false → Ends (.routeSwellWake e) s fun t => t.swState e = 1 ∧ t.sw e = x ∧ t.routes = u.routes) ∧
    (s.swState e ≠ 2 → x.wake = false → Ends (.routeSwellWake e) s fun t => t.sw e = { x with wake := true } ∧ t.swState e =
    s.swState e ∧ t.routes = u.routes) ∧ (s.swState e ≠ 2 → x.wake = true → Ends (.routeSwellWake e) s fun t => (t.reg (.swell
    e) 0x60).toNat = min ((s.reg (.swell e) 0x60).toNat + 1) (2 ^ 32 - 1) ∧ t.sw e = x ∧ t.routes = u.routes)

/-! ### Swell bundles -/

/-- BUNDLE_EXECUTE where no bundle takes effect: an engine that does not run stays; a fabric halt, an illegal bundle, a fault in it and a mismatch of a pair halt it with their cause; a bundle that must wait counts a stall (R357–R359, R361, R364, R365). -/
def bundleExecuteDoes : Prop := ∀ (e : Nat) (mm : Bool) (s : State),
  let x := s.sw e
  let pc := s.swPc e
  let b := s.bundleAt e
  let fs := s.bundleFaults x e pc b.syls
  let goes := s.swIssues e && !x.haltOwed
  e < 16 →
  (s.swIssues e = false → Ends (.bundleExecute e mm) s fun t => t = s) ∧ (s.swIssues e = true → x.haltOwed = true → s.swPaired
    e = false → Ends (.bundleExecute e mm) s fun t => t.swState e = 3 ∧ t.regF (.swell e) 0x48 8 8 = 0x18 ∧ t.swPc e = pc ∧
    t.regF (.swell e) 0x20 0 1 = 1 ∧ (∀ r, r < 32 → (t.sw e).gr r = x.settle.gr r) ∧ (t.sw e).step = false ∧ SameMemory s t ∧
    (0x0E, Page.base (.swell e)) ∈ t.raised) ∧ (goes = true → s.swPaired e = false → b.code ≠ 0 → Ends (.bundleExecute e mm) s
    fun t => t.swState e = 3 ∧ t.regF (.swell e) 0x48 8 8 = b.code ∧ t.swPc e = pc ∧ t.regF (.swell e) 0x20 0 1 = 1 ∧ (∀ r, r <
    32 → (t.sw e).gr r = x.settle.gr r) ∧ (t.sw e).step = false ∧ SameMemory s t ∧ t.reg (.swell e) 0x4C = b.fsyl ∧ (0x0E,
    Page.base (.swell e)) ∈ t.raised) ∧ (goes = true → s.swPaired e = false → b.code = 0 → fs ≠ [] → Ends (.bundleExecute e mm)
    s fun t => t.swState e = 3 ∧ t.regF (.swell e) 0x48 8 8 = t.regF (.swell e) 0x48 8 8 ∧ t.swPc e = pc ∧ t.regF (.swell e)
    0x20 0 1 = 1 ∧ (∀ r, r < 32 → (t.sw e).gr r = x.settle.gr r) ∧ (t.sw e).step = false ∧ SameMemory s t ∧ t.regF (.swell e)
    0x48 8 8 ∈ fs ∧ t.reg (.swell e) 0x4C = 0 ∧ (0x0E, Page.base (.swell e)) ∈ t.raised) ∧ (goes = true → s.swPaired e = false
    → b.code = 0 → fs = [] → s.swStalls x b.syls = true → Ends (.bundleExecute e mm) s fun t => (t.reg (.swell e) 0x5C).toNat =
    min ((s.reg (.swell e) 0x5C).toNat + 1) (2 ^ 32 - 1) ∧ SameRegsBut [Page.base (.swell e) + 0x5C] s t ∧ t =
    { s with regs := t.regs }) ∧ (goes = true → mm = true → s.swPaired e = true → e % 2 = 0 → Ends (.bundleExecute e mm) s fun
    t => t.swState e = 3 ∧ t.regF (.swell e) 0x48 8 8 = 0x19 ∧ t.regF (.swell e) 0x6C 2 1 = 1 ∧ t.regF (.swell e) 0x20 4 1 = 1
    ∧ (0x0F, Page.base (.swell e)) ∈ t.raised)

/-- BUNDLE_EXECUTE of one syllable of the A or L slot: a false predicate does nothing; ADDI, ADD, PLT, a word load and a word store of bank 0 have their effects, a load's value three bundles later; PC goes on by the loop-end rule (R346–R350, R355, R356). -/
def bundleResultDoes : Prop := ∀ (e : Nat) (mm : Bool) (w : Word) (s : State),
  let x := s.sw e
  let pc := s.swPc e
  let le := fun (k : Nat) => (x.loop k).e.toNat
  let next := match x.innermost with | some k => if le k = pc then (if (x.loop k).c = 1 then (pc + 1) % 2 ^ 14 else (x.loop
    k).s.toNat % 2 ^ 14) else (pc + 1) % 2 ^ 14 | none => (pc + 1) % 2 ^ 14
  let ran := fun (t : State) => t.reg64 (.swell e) 0x54 = (s.reg64 (.swell e) 0x54 + 1) % 2 ^ 64
  let on := fun (t : State) => ran t ∧ t.swState e = 1 ∧ SameTab e s.swell t.swell
  let waits := fun (r : Nat) => x.loads.all fun l => decide (l.reg ≠ r ∧ 2 ≤ l.left)
  let v1 := x.gr (sylRs1 w)
  let v2 := x.gr (sylRs2 w)
  let rd := sylRd w
  let acts := x.pr (sylPred w)
  e < 16 →
  s.swIssues e = true →
  x.haltOwed = false →
  x.step = false →
  s.swPaired e = false →
  s.bundleAt e = ⟨0, 0, [w]⟩ →
  s.bundleFaults x e pc [w] = [] →
  s.swStalls x [w] = false →
  (x.pr (sylPred w) = false → Ends (.bundleExecute e mm) s fun t => (∀ r, r < 32 → waits r = true → (t.sw e).gr r = x.gr r) ∧
    (t.sw e).p = x.p ∧ t.swPc e = next ∧ on t ∧ SameMemory s t ∧ SameRegsBut [Page.base (.swell e) + 0x48, Page.base (.swell e)
    + 0x54, Page.base (.swell e) + 0x58] s t) ∧ (acts = true → sylSlot w = 2 → sylOp w = 0x24 → rd ≠ 0 → Ends (.bundleExecute e
    mm) s fun t => (t.sw e).gr rd = v1 + BitVec.ofInt 32 (sgn 9 w.toNat) ∧ (∀ r, r < 32 → r ≠ rd → waits r = true → (t.sw e).gr
    r = x.gr r) ∧ t.swPc e = next ∧ on t ∧ SameMemory s t ∧ SameRegsBut [Page.base (.swell e) + 0x48, Page.base (.swell e) +
    0x54, Page.base (.swell e) + 0x58] s t) ∧ (acts = true → sylSlot w = 2 → sylOp w = 0 → rd ≠ 0 → Ends (.bundleExecute e mm)
    s fun t => (t.sw e).gr rd = v1 + v2 ∧ (∀ r, r < 32 → r ≠ rd → waits r = true → (t.sw e).gr r = x.gr r) ∧ t.swPc e = next ∧
    on t ∧ SameMemory s t ∧ SameRegsBut [Page.base (.swell e) + 0x48, Page.base (.swell e) + 0x54, Page.base (.swell e) + 0x58]
    s t) ∧ (acts = true → sylSlot w = 2 → sylOp w = 0x2A → Ends (.bundleExecute e mm) s fun t => (t.sw e).pr rd = decide
    (v1.toInt < v2.toInt) ∧ (∀ k, k < 8 → k ≠ rd → (t.sw e).pr k = x.pr k) ∧ t.swPc e = next ∧ on t ∧ SameMemory s t ∧
    SameRegsBut [Page.base (.swell e) + 0x48, Page.base (.swell e) + 0x54, Page.base (.swell e) + 0x58] s t) ∧ (acts = true →
    sylSlot w = 3 → sylOp w = 0 → bit w 8 = false → Ends (.bundleExecute e mm) s fun t => (t.sw e).loads.getLast? = some ⟨rd,
    BitVec.ofNat 32 (s.memN (swData e + 4 * fld (v1 + BitVec.ofInt 32 (sgn 8 w.toNat)) 0 16) 4), 3, none⟩ ∧ (∀ r, r < 32 →
    waits r = true → (t.sw e).gr r = x.gr r) ∧ t.swPc e = next ∧ on t ∧ SameMemory s t ∧ SameRegsBut [Page.base (.swell e) +
    0x48, Page.base (.swell e) + 0x54, Page.base (.swell e) + 0x58] s t) ∧ (acts = true → sylSlot w = 3 → sylOp w = 1 → bit w 8
    = false → s.swPaired e = false → Ends (.bundleExecute e mm) s fun t => t.memN (swData e + 4 * fld (v1 + BitVec.ofInt 32
    (sgn 8 w.toNat)) 0 16) 4 = (x.gr rd).toNat ∧ SameMemoryBut (swData e + 4 * fld (v1 + BitVec.ofInt 32 (sgn 8 w.toNat)) 0 16)
    (swData e + 4 * fld (v1 + BitVec.ofInt 32 (sgn 8 w.toNat)) 0 16 + 4) s t ∧ t.swPc e = next ∧ on t)

/-- BUNDLE_EXECUTE of one syllable of the B slot: BR, CALL, RET, LOOPI, WAIT, HALT and IRQ (R351, R356, R360, R365). -/
def bundleControlDoes : Prop := ∀ (e : Nat) (mm : Bool) (w : Word) (s : State),
  let x := s.sw e
  let pc := s.swPc e
  let le := fun (k : Nat) => (x.loop k).e.toNat
  let next := match x.innermost with | some k => if le k = pc then (if (x.loop k).c = 1 then (pc + 1) % 2 ^ 14 else (x.loop
    k).s.toNat % 2 ^ 14) else (pc + 1) % 2 ^ 14 | none => (pc + 1) % 2 ^ 14
  let ran := fun (t : State) => t.reg64 (.swell e) 0x54 = (s.reg64 (.swell e) 0x54 + 1) % 2 ^ 64
  let on := fun (t : State) => ran t ∧ t.swState e = 1 ∧ SameTab e s.swell t.swell
  let acts := x.pr (sylPred w)
  e < 16 →
  s.swIssues e = true →
  x.haltOwed = false →
  x.step = false →
  s.swPaired e = false →
  s.bundleAt e = ⟨0, 0, [w]⟩ →
  s.bundleFaults x e pc [w] = [] →
  s.swStalls x [w] = false →
  (acts = true → sylSlot w = 4 → sylOp w = 0 → Ends (.bundleExecute e mm) s fun t => t.swPc e = (pc + uns 14 (sgn 16 w.toNat))
    % 2 ^ 14 ∧ on t ∧ SameMemory s t ∧ SameRegsBut [Page.base (.swell e) + 0x48, Page.base (.swell e) + 0x54, Page.base (.swell
    e) + 0x58] s t) ∧ (acts = true → sylSlot w = 4 → sylOp w = 1 → Ends (.bundleExecute e mm) s fun t => t.swPc e = (pc + uns
    14 (sgn 16 w.toNat)) % 2 ^ 14 ∧ (t.sw e).stack = (pc + 1) % 2 ^ 14 :: x.stack ∧ on t ∧ SameMemory s t ∧ SameRegsBut
    [Page.base (.swell e) + 0x48, Page.base (.swell e) + 0x54, Page.base (.swell e) + 0x58] s t) ∧ (acts = true → sylSlot w = 4
    → sylOp w = 2 → Ends (.bundleExecute e mm) s fun t => some (t.swPc e) = x.stack.head? ∧ (t.sw e).stack = x.stack.tail ∧ on
    t ∧ SameMemory s t ∧ SameRegsBut [Page.base (.swell e) + 0x48, Page.base (.swell e) + 0x54, Page.base (.swell e) + 0x58] s
    t) ∧ (acts = true → sylSlot w = 4 → sylOp w = 4 → fld w 8 9 ≠ 0 → Ends (.bundleExecute e mm) s fun t => (t.sw e).loop (fld
    w 17 2) = ⟨BitVec.ofNat 32 (pc + 1), BitVec.ofNat 32 (pc + fld w 0 8), BitVec.ofNat 32 (fld w 8 9)⟩ ∧ (t.sw e).active = fld
    w 17 2 :: x.active ∧ t.swPc e = next ∧ on t ∧ SameMemory s t ∧ SameRegsBut [Page.base (.swell e) + 0x48, Page.base (.swell
    e) + 0x54, Page.base (.swell e) + 0x58] s t) ∧ (acts = true → sylSlot w = 4 → sylOp w = 5 → x.wake = false → Ends
    (.bundleExecute e mm) s fun t => t.swState e = 2 ∧ t.swPc e = next ∧ t.reg64 (.swell e) 0x54 = s.reg64 (.swell e) 0x54 ∧
    SameMemory s t) ∧ (acts = true → sylSlot w = 4 → sylOp w = 5 → x.wake = true → Ends (.bundleExecute e mm) s fun t => t.swPc
    e = next ∧ (t.sw e).wake = false ∧ on t ∧ SameMemory s t ∧ SameRegsBut [Page.base (.swell e) + 0x48, Page.base (.swell e) +
    0x54, Page.base (.swell e) + 0x58] s t) ∧ (acts = true → sylSlot w = 4 → sylOp w = 6 → Ends (.bundleExecute e mm) s fun t
    => t.swState e = 3 ∧ t.regF (.swell e) 0x48 8 8 = 2 ∧ t.regF (.swell e) 0x20 1 1 = 1 ∧ t.swPc e = next ∧ ran t ∧ t.raised =
    s.raised ∧ SameMemory s t) ∧ (acts = true → sylSlot w = 4 → sylOp w = 7 → Ends (.bundleExecute e mm) s fun t => t.reg
    (.swell e) 0x64 = BitVec.ofNat 32 (fld w 0 8) ∧ t.regF (.swell e) 0x20 2 1 = 1 ∧ t.swPc e = next ∧ on t ∧ SameMemory s t)

/-- BUNDLE_EXECUTE: the syllables of a bundle act together; each reads the registers as they were before it (R346, R347). -/
def bundleParallelDoes : Prop := ∀ (e : Nat) (mm : Bool) (wm : Word) (wa : Word) (wl : Word) (s : State),
  let x := s.sw e
  let pc := s.swPc e
  let a := swData e + 4 * fld (x.gr (sylRs1 wl) + BitVec.ofInt 32 (sgn 8 wl.toNat)) 0 16
  e < 16 →
  s.swIssues e = true →
  x.haltOwed = false →
  x.step = false →
  s.swPaired e = false →
  s.bundleAt e = ⟨0, 0, [wm, wa, wl]⟩ →
  s.bundleFaults x e pc [wm, wa, wl] = [] →
  s.swStalls x [wm, wa, wl] = false →
  (∀ w ∈ [wm, wa, wl], x.pr (sylPred w) = true) →
  sylSlot wm = 0 →
  sylOp wm = 0x13 →
  sylSlot wa = 2 →
  sylOp wa = 0x24 →
  sylSlot wl = 3 →
  sylOp wl = 1 →
  bit wl 8 = false →
  x.active = [] →
  sylRd wm ≠ 0 →
  sylRd wa ≠ 0 →
  sylRd wm ≠ sylRd wa →
  Ends (.bundleExecute e mm) s fun t => (t.sw e).gr (sylRd wa) = x.gr (sylRs1 wa) + BitVec.ofInt 32 (sgn 9 wa.toNat) ∧ (t.sw
    e).gr (sylRd wm) = x.gr (sylRs1 wm) * x.gr (sylRs2 wm) ∧ t.memN a 4 = (x.gr (sylRd wl)).toNat ∧ SameMemoryBut a (a + 4) s t
    ∧ t.swPc e = (pc + 3) % 2 ^ 14 ∧ t.swState e = 1 ∧ SameTab e s.swell t.swell

/-! ### Timer events, routes, firing releases, and DMA transfers -/

/-- TIMER_MATCH: at the tick at which the count takes CMP0 or CMP1 the match is raised, once, with its routes (R440, R441, R449). -/
def timerMatchDoes : Prop := ∀ (k : Nat) (i : Nat) (s : State),
  let c := s.tmrCatch k
  let cm := if i = 0 then c.cmp0 else c.cmp1
  let last := if i = 0 then c.match0 else c.match1
  let n := s.tmrTicks k c s.now
  let x := c.at_ + (cm - c.count) * s.tmrUnit k
  let held := fun (t : State) => t.timer k = if i = 0 then { c with match0 := some x } else { c with match1 := some x }
  k < 32 →
  i < 2 →
  s.chainOdd k = false →
  c.load = none →
  cm ≤ c.period →
  ((cm = c.count ∧ c.taken = true) ∨ (c.count < cm ∧ cm ≤ c.count + n) → last ≠ some x → Ends (.timerMatch k i) s fun t => held
    t ∧ TimerEvent s t k i x ∧ SameTab k s.tmr t.tmr ∧ t =
    { s with tmr := t.tmr, routes := t.routes, regs := t.regs, fab := t.fab }) ∧ (cm < c.count ∨ (cm = c.count ∧ c.taken =
    false) ∨ c.count + n < cm → Ends (.timerMatch k i) s fun t => t = s)

/-- TIMER_WRAP: one tick after PERIOD the count is 0 and the preloads are live, unless IMM; a count beyond PERIOD is LATE (R441–R443). -/
def timerWrapDoes : Prop := ∀ (k : Nat) (s : State),
  let c := s.tmrCatch k
  let n := if c.period < c.count then 1 else c.period - c.count + 1
  let x := c.at_ + n * s.tmrUnit k
  let c1 : Tmr := { c with count := 0, at_ := x, taken := true }
  k < 32 →
  s.chainOdd k = false →
  s.tcfg k 1 = false →
  c.load = none →
  n ≤ s.tmrTicks k c s.now →
  Ends (.timerWrap k) s fun t => t.timer k = (if s.tcfg k 2 then c1 else
    { c1 with copy := false, period := s.tmrVal k 8, cmp0 := s.tmrVal k 0xC, cmp1 := s.tmrVal k 0x10 }) ∧ (c.period < c.count →
    bit (t.tmrWord k 0x18) 3 = true) ∧ (c.count ≤ c.period → t.tmrWord k 0x18 = s.tmrWord k 0x18) ∧ TimerEvent s t k 2 x ∧
    SameTab k s.tmr t.tmr ∧ t = { s with tmr := t.tmr, routes := t.routes, regs := t.regs, fab := t.fab }

/-- TIMER_TOP: in STOP mode the count holds at PERIOD (R441, R443). -/
def timerTopDoes : Prop := ∀ (k : Nat) (s : State),
  let c := s.tmrCatch k
  let n := if c.period < c.count then 1 else c.period - c.count
  let x := c.at_ + n * s.tmrUnit k
  k < 32 →
  s.chainOdd k = false →
  s.tcfg k 1 = true →
  c.load = none →
  c.count ≠ c.period →
  n ≤ s.tmrTicks k c s.now →
  Ends (.timerTop k) s fun t => t.timer k = { c with count := c.period, at_ := x, taken := true, run := false } ∧ (c.period <
    c.count → bit (t.tmrWord k 0x18) 3 = true) ∧ (c.count ≤ c.period → t.tmrWord k 0x18 = s.tmrWord k 0x18) ∧ TimerEvent s t k
    3 x ∧ SameTab k s.tmr t.tmr ∧ t = { s with tmr := t.tmr, routes := t.routes, regs := t.regs, fab := t.fab }

/-- ROUTE_TIMER_START: counting starts at the action's instant, unless a STOP arrives at it (R447, R449, R451). -/
def routeTimerStartDoes : Prop := ∀ (k : Nat) (a : RouteDue) (u : State) (s : State),
  let alone := !(s.routes.any fun b => b.kind = 3 && b.index = k && b.at_ = a.at_)
  s.routeTake 2 k = some (a, u) →
  k < 32 →
  (s.tcfg k 0 = true → s.chainOdd k = false → alone = true → (s.timer k).run = false → Ends (.routeTimerStart k) s fun t =>
    t.timer k = s.counting k a.at_ ∧ SameTab k s.tmr t.tmr ∧ t.routes = u.routes ∧ t.reg .tmx 0x40 = s.reg .tmx 0x40 + 1 ∧
    SameRegsBut [Page.base .tmx + 0x40] s t ∧ t = { s with tmr := t.tmr, routes := u.routes, regs := t.regs }) ∧ (s.tcfg k 0 =
    false ∨ s.chainOdd k = true ∨ alone = false ∨ (s.timer k).run = true → Ends (.routeTimerStart k) s fun t => t.tmr = s.tmr ∧
    t.routes = u.routes ∧ t.reg .tmx 0x40 = s.reg .tmx 0x40 + 1 ∧ SameRegsBut [Page.base .tmx + 0x40] s t ∧ t =
    { s with tmr := t.tmr, routes := u.routes, regs := t.regs })

/-- ROUTE_TIMER_STOP: the count is held as it is at the action's instant (R447, R449, R451). -/
def routeTimerStopDoes : Prop := ∀ (k : Nat) (a : RouteDue) (u : State) (s : State),
  let c := s.tmrSettle k (s.timer k) a.at_
  s.routeTake 3 k = some (a, u) →
  k < 32 →
  (s.chainOdd k = false → Ends (.routeTimerStop k) s fun t => t.timer k = { c with run := false } ∧ SameTab k s.tmr t.tmr ∧
    t.routes = u.routes ∧ t.reg .tmx 0x40 = s.reg .tmx 0x40 + 1 ∧ SameRegsBut [Page.base .tmx + 0x40] s t ∧ t =
    { s with tmr := t.tmr, routes := u.routes, regs := t.regs }) ∧ (s.chainOdd k = true → Ends (.routeTimerStop k) s fun t =>
    t.tmr = s.tmr ∧ t.routes = u.routes ∧ t.reg .tmx 0x40 = s.reg .tmx 0x40 + 1)

/-- ROUTE_TIMER_COUNT: a CSRC timer counts one at the action's instant, with the events of the new count (R441, R442, R447, R449). -/
def routeTimerCountDoes : Prop := ∀ (k : Nat) (a : RouteDue) (u : State) (s : State),
  let c := s.timer k
  s.routeTake 4 k = some (a, u) →
  k < 32 →
  (s.chainOdd k = true ∨ c.run = false ∨ s.tcfg k 5 = false → Ends (.routeTimerCount k) s fun t => t.tmr = s.tmr ∧ t.routes =
    u.routes ∧ t.reg .tmx 0x40 = s.reg .tmx 0x40 + 1) ∧ (s.chainOdd k = false → c.run = true → s.tcfg k 5 = true → c.count <
    c.period → (c.count + 1 ≠ c.period ∨ s.tcfg k 1 = false) → Ends (.routeTimerCount k) s fun t => t.timer k =
    { c with count := c.count + 1, at_ := a.at_, taken := true } ∧ (c.count + 1 = c.cmp0 → TimerEvent u t k 0 a.at_ ∨ c.cmp0 =
    c.cmp1) ∧ (c.count + 1 ≠ c.cmp0 → c.count + 1 ≠ c.cmp1 → t.routes = u.routes ∧ t.reg .tmx 0x40 = s.reg .tmx 0x40 + 1) ∧
    SameTab k s.tmr t.tmr) ∧ (s.chainOdd k = false → c.run = true → s.tcfg k 5 = true → s.tcfg k 1 = false → c.count = c.period
    → Ends (.routeTimerCount k) s fun t => (t.timer k).count = 0 ∧ (t.timer k).at_ = a.at_ ∧ t.regF (.tmr (k / 8)) 0x20 (4 * (k
    % 8) + 2) 1 = 1 ∧ (s.tcfg k 2 = false → (t.timer k).period = s.tmrVal k 8) ∧ SameTab k s.tmr t.tmr)

/-- RELEASE_FIRE: the queue's armed release becomes an action at the event plus its offset, if its admission checks pass (R92, R98, R449). -/
def releaseFireDoes : Prop := ∀ (q : Nat) (a : RouteDue) (u : State) (i : Nat) (e : Entry) (s : State),
  let inst := a.event + e.inst
  let rep := bit (wordOf e.metaW.toNat) 11
  s.routeTake 5 q = some (a, u) →
  (s.qEntries q).find? (fun e => e.2.kind = .release) = some (i, e) →
  (s.preempted && holdUpPort (s.qPort q)) = false →
  (inst < s.tqfNow + s.qLead q → Ends (.releaseFire q) s fun t => (rep = false → tabGet? t.tqf.pool i = none) ∧ (rep = true →
    t.tqf.pool = s.tqf.pool) ∧ t.routes = u.routes) ∧ (s.tqfNow + s.qLead q ≤ inst → inst ≤ s.tqfNow + 2 ^ 33 → rep = false →
    u.slotReason q inst = .none → Ends (.releaseFire q) s fun t => tabGet? t.tqf.pool i = some ⟨q, .act, inst % 2 ^ 64,
    e.payload, BitVec.ofNat 16 (e.metaW.toNat % 256), entryCrc (inst % 2 ^ 64) e.payload (e.metaW.toNat % 256), s.tqfNow, true,
    false, false⟩ ∧ SameTab i s.tqf.pool t.tqf.pool ∧ t.routes = u.routes ∧ t.reg .tmx 0x40 = s.reg .tmx 0x40 + 1)

/-- DMA_START: the channel is active, with nothing done (R453). -/
def dmaStartDoes : Prop := ∀ (m : Master) (c : Nat) (s : State),
  c < 32 →
  s.accepts (put32 m (dmaPage c) (dmaOff c 0x10) 1) →
  Ends (.dmaStart m c) s fun t => t.dmaState c = 1 ∧ t.dmaWord c 0x14 = 1 ∧ t.dmaWord c 0x18 = 0 ∧ t.dmaWord c 0x1C = 0 ∧ t.dma
    = s.dma ∧ SameRegsBut [Page.base (dmaPage c) + dmaOff c 0x14, Page.base (dmaPage c) + dmaOff c 0x18, Page.base (dmaPage c)
    + dmaOff c 0x1C] s t ∧ Written m (Page.base (dmaPage c)) s t ∧ t = { s with dma := t.dma, regs := t.regs, fab := t.fab }

/-- DMA_ABORT: an active channel is STOPPED without a reason (R454). -/
def dmaAbortDoes : Prop := ∀ (m : Master) (c : Nat) (s : State),
  c < 32 →
  s.accepts (put32 m (dmaPage c) (dmaOff c 0x10) 2) →
  (s.dmaState c = 1 → Ends (.dmaAbort m c) s fun t => t.dmaState c = 3 ∧ fld (t.dmaWord c 0x14) 8 9 = 0 ∧ t.dmaWord c 0x18 =
    s.dmaWord c 0x18 ∧ t.dmaWord c 0x1C = 0 ∧ t.dmaBurst c = 0 ∧ SameTab c s.dma.burst t.dma.burst ∧ t.regF (dmaPage c) 0x20 (8
    + c % 8) 1 = 1 ∧ SameRegsBut [Page.base (dmaPage c) + dmaOff c 0x14, Page.base (dmaPage c) + dmaOff c 0x1C, Page.base
    (dmaPage c) + 0x20] s t ∧ Written m (Page.base (dmaPage c)) s t ∧ t =
    { s with dma := t.dma, regs := t.regs, fab := t.fab }) ∧ (s.dmaState c ≠ 1 → Ends (.dmaAbort m c) s fun t => SameRegsBut []
    s t ∧ Written m (Page.base (dmaPage c)) s t ∧ t = { s with regs := t.regs, fab := t.fab })

/-- DMA_REQUEST: a request moves one burst of a paced, active channel; a second one is held and a third is dropped; a route's request counts in TM_FIRED, a converter's own does not (R449, R451, R453, R466). -/
def dmaRequestDoes : Prop := ∀ (c : Nat) (a : RouteDue) (u : State) (s : State),
  let same := fun (t : State) => t.routes = u.routes ∧ t.reg .tmx 0x40 = s.reg .tmx 0x40 + (if a.event = a.at_ then 0 else 1) ∧
    t = { s with dma := t.dma, routes := t.routes, regs := t.regs, fab := t.fab }
  let takes := s.dmaPaced c && decide (s.dmaState c = 1)
  s.routeTake 1 c = some (a, u) →
  c < 32 →
  (takes = false → Ends (.dmaRequest c) s fun t => same t ∧ t.dma = s.dma ∧ SameRegsBut [Page.base .tmx + 0x40] s t) ∧ (takes =
    true → s.dmaBurst c = 0 → Ends (.dmaRequest c) s fun t => same t ∧ t.dmaBurst c = min (4 * fld (s.dmaWord c 0xC) 8 5)
    (s.dmaLeft c) ∧ SameTab c s.dma.burst t.dma.burst ∧ SameRegsBut [Page.base .tmx + 0x40] s t) ∧ (takes = true → s.dmaBurst c
    ≠ 0 → bit (s.dmaWord c 0x14) 16 = false → Ends (.dmaRequest c) s fun t => same t ∧ bit (t.dmaWord c 0x14) 16 = true ∧ t.dma
    = s.dma ∧ SameRegsBut [Page.base .tmx + 0x40, Page.base (dmaPage c) + dmaOff c 0x14] s t) ∧ (takes = true → s.dmaBurst c ≠
    0 → bit (s.dmaWord c 0x14) 16 = true → Ends (.dmaRequest c) s fun t => same t ∧ fld (t.dmaWord c 0x14) 24 8 = min (fld
    (s.dmaWord c 0x14) 24 8 + 1) 255 ∧ t.regF (dmaPage c) 0x20 (16 + c % 8) 1 = 1 ∧ t.dma = s.dma ∧ SameRegsBut [Page.base .tmx
    + 0x40, Page.base (dmaPage c) + dmaOff c 0x14, Page.base (dmaPage c) + 0x20] s t)

/-- DMA_TRANSACTION: the channel whose turn it is moves its bytes; a forbidden byte stops it; the last bytes make it DONE (R399, R402, R453, R454). -/
def dmaTransactionDoes : Prop := ∀ (c : Nat) (f : AccessKind × Nat) (bs : List Nat) (u : State) (v : State) (s : State),
  let n := s.dmaSize c
  let done := fld (s.dmaWord c 0x18) 0 24
  let src := if bit (s.dmaWord c 0xC) 0 then ((s.dmaWord c 0).toNat + done) % 2 ^ 32 else (s.dmaWord c 0).toNat
  let dst := if bit (s.dmaWord c 0xC) 1 then ((s.dmaWord c 4).toNat + done) % 2 ^ 32 else (s.dmaWord c 4).toNat
  let left := fld (s.dmaWord c 8) 0 24 - (done + n)
  s.dmaNext = some c →
  c < 32 →
  done + n < 2 ^ 24 →
  (s.dmaForbidden c n = some f → Ends .dmaTransaction s fun t => t.dmaState c = 3 ∧ fld (t.dmaWord c 0x14) 8 8 =
    Reason.guardDeny.code ∧ t.dmaWord c 0x1C = BitVec.ofNat 32 f.2 ∧ t.dmaWord c 0x18 = s.dmaWord c 0x18 ∧ SameMemory s t ∧
    t.regF (dmaPage c) 0x20 (8 + c % 8) 1 = 1) ∧ (s.dmaForbidden c n = none → (s.dmaServed c).partsRead .dma (s.dmaParts c 0
    src n) = (.none, bs, u) → u.partsWrite .dma (u.dmaParts c 1 dst n) bs = (.none, v) → Ends .dmaTransaction s fun t => t.mem
    = v.mem ∧ fld (t.dmaWord c 0x18) 0 24 = done + n ∧ (left = 0 → t.dmaState c = 2 ∧ t.regF (dmaPage c) 0x20 (c % 8) 1 = 1) ∧
    (left ≠ 0 → t.dmaState c = s.dmaState c)) ∧ (s.dmaForbidden c n = none → s.dmaPaced c = false → bit (s.dmaWord c 0xC) 0 =
    true → bit (s.dmaWord c 0xC) 1 = true → (∀ k, k < 2 → 0x20000000 ≤ [src, dst].getD k 0 ∧ [src, dst].getD k 0 + n ≤
    0x20100000) → (s.dmaServed c).partsRead .dma (s.dmaParts c 0 src n) = (.none, bs, u) → (u.partsWrite .dma (u.dmaParts c 1
    dst n) bs).1 = .none → Ends .dmaTransaction s fun t => (∀ k, k < n → readByte t.mem (dst + k) = readByte s.mem (src + k)) ∧
    SameMemoryBut dst (dst + n) s t)

/-! ### Timer registers -/

/-- TIMER_ENABLE: counting starts at the write with the preloads live, unless ARM waits for a start (R442, R447). -/
def timerEnableDoes : Prop := ∀ (m : Master) (k : Nat) (cfg : Word) (s : State),
  k < 32 →
  s.accepts (put32 m (.tmr (k / 8)) (tmrOff k 0x14) (cfg ||| 1).toNat) →
  (s.tcfg k 0 = false → bit cfg 4 = false → (s.timer k).run = false → Ends (.timerEnable m k cfg) s fun t => t.timer k =
    { s.counting k s.now with period := t.tmrVal k 8, cmp0 := t.tmrVal k 0xC, cmp1 := t.tmrVal k 0x10 } ∧ t.tmrWord k 0x14 =
    cfg ||| 1 ∧ SameTab k s.tmr t.tmr ∧ SameRegsBut [Page.base (.tmr (k / 8)) + tmrOff k 0x14] s t ∧ Written m (Page.base (.tmr
    (k / 8))) s t ∧ t = { s with tmr := t.tmr, regs := t.regs, fab := t.fab }) ∧ (s.tcfg k 0 = true ∨ bit cfg 4 = true → Ends
    (.timerEnable m k cfg) s fun t => t.tmr = s.tmr ∧ t.tmrWord k 0x14 = cfg ||| 1 ∧ SameRegsBut [Page.base (.tmr (k / 8)) +
    tmrOff k 0x14] s t ∧ Written m (Page.base (.tmr (k / 8))) s t ∧ t = { s with tmr := t.tmr, regs := t.regs, fab := t.fab })

/-- TIMER_START_CMD: an enabled timer that is held counts on (R447, R448). -/
def timerStartCmdDoes : Prop := ∀ (m : Master) (k : Nat) (s : State),
  k < 32 →
  s.accepts (put32 m (.tmr (k / 8)) (tmrOff k 0x1C) 1) →
  (s.tcfg k 0 = true → (s.timer k).run = false → Ends (.timerStartCmd m k) s fun t => t.timer k = s.counting k s.now ∧ SameTab
    k s.tmr t.tmr ∧ SameRegsBut [] s t ∧ Written m (Page.base (.tmr (k / 8))) s t ∧ t =
    { s with tmr := t.tmr, regs := t.regs, fab := t.fab }) ∧ (s.tcfg k 0 = false ∨ (s.timer k).run = true → Ends
    (.timerStartCmd m k) s fun t => t.tmr = s.tmr ∧ SameRegsBut [] s t ∧ Written m (Page.base (.tmr (k / 8))) s t ∧ t =
    { s with tmr := t.tmr, regs := t.regs, fab := t.fab })

/-- TIMER_STOP_CMD: the count is held (R447, R448). -/
def timerStopCmdDoes : Prop := ∀ (m : Master) (k : Nat) (s : State),
  k < 32 →
  s.accepts (put32 m (.tmr (k / 8)) (tmrOff k 0x1C) 2) →
  Ends (.timerStopCmd m k) s fun t => t.timer k = { s.tmrSettle k (s.timer k) s.now with run := false } ∧ SameTab k s.tmr t.tmr
    ∧ SameRegsBut [] s t ∧ Written m (Page.base (.tmr (k / 8))) s t ∧ t = { s with tmr := t.tmr, regs := t.regs, fab := t.fab }

/-- TIMER_LOAD_CMD: the preloads are live at the next tick, or at once where the timer does not count by itself (R442, R448). -/
def timerLoadCmdDoes : Prop := ∀ (m : Master) (k : Nat) (s : State),
  let c := s.tmrSettle k (s.timer k) s.now
  k < 32 →
  s.accepts (put32 m (.tmr (k / 8)) (tmrOff k 0x1C) 4) →
  Ends (.timerLoadCmd m k) s fun t => t.timer k = (if c.run ∧ s.tcfg k 5 = false then { c with copy := true } else
    { c with copy := false, period := s.tmrVal k 8, cmp0 := s.tmrVal k 0xC, cmp1 := s.tmrVal k 0x10 }) ∧ SameTab k s.tmr t.tmr
    ∧ SameRegsBut [] s t ∧ Written m (Page.base (.tmr (k / 8))) s t ∧ t = { s with tmr := t.tmr, regs := t.regs, fab := t.fab }

/-- TIMER_LATE_CLR: LATE reads 0 (R443, R448). -/
def timerLateClrDoes : Prop := ∀ (m : Master) (k : Nat) (s : State),
  k < 32 →
  s.accepts (put32 m (.tmr (k / 8)) (tmrOff k 0x1C) 8) →
  Ends (.timerLateClr m k) s fun t => t.tmrWord k 0x18 = s.tmrWord k 0x18 &&& 0xFFFFFFF7 ∧ t.tmr = s.tmr ∧ SameRegsBut
    [Page.base (.tmr (k / 8)) + tmrOff k 0x18] s t ∧ Written m (Page.base (.tmr (k / 8))) s t ∧ t =
    { s with tmr := t.tmr, regs := t.regs, fab := t.fab }

/-- TIMER_COUNT_LOAD: the count is loaded at the next tick, or at once where the timer does not count by itself; a pair is loaded as one 64-bit count (R444, R445). -/
def timerCountLoadDoes : Prop := ∀ (m : Master) (k : Nat) (v : Nat) (s : State),
  let c := s.tmrSettle k (s.timer k) s.now
  let top := s.tcfg k 0 && s.tcfg k 1 && c.taken && decide (c.count = c.period)
  k < 32 →
  s.chainOdd k = false →
  (s.chainHead k = false → v < 2 ^ 32 → s.accepts (put32 m (.tmr (k / 8)) (tmrOff k 0) v) → Ends (.timerCountLoad m k false v)
    s fun t => t.timer k = (if c.run ∧ s.tcfg k 5 = false then { c with load := some v } else if s.tcfg k 1 then
    { c with count := v, taken := false, at_ := s.now, run := c.run || top, copy := false, period := s.tmrVal k 8,
             cmp0 := s.tmrVal k 0xC, cmp1 := s.tmrVal k 0x10 } else { c with count := v, taken := false, at_ := s.now }) ∧
    SameTab k s.tmr t.tmr ∧ SameRegsBut [] s t ∧ Written m (Page.base (.tmr (k / 8))) s t ∧ t =
    { s with tmr := t.tmr, regs := t.regs, fab := t.fab }) ∧ (s.chainHead k = true → v < 2 ^ 64 → s.accepts (put64 m (.tmr (k /
    8)) (tmrOff k 0) v) → Ends (.timerCountLoad m k true v) s fun t => t.timer k = (if c.run ∧ s.tcfg k 5 = false then
    { c with load := some v } else if s.tcfg k 1 then
    { c with count := v, taken := false, at_ := s.now, run := c.run || top, copy := false, period := s.tmrVal k 8,
             cmp0 := s.tmrVal k 0xC, cmp1 := s.tmrVal k 0x10 } else { c with count := v, taken := false, at_ := s.now }) ∧
    SameTab k s.tmr t.tmr ∧ SameRegsBut [] s t ∧ Written m (Page.base (.tmr (k / 8))) s t ∧ t =
    { s with tmr := t.tmr, regs := t.regs, fab := t.fab })

/-- TIMER_COUNT_READ: the count at the instant, a pair's high word latched (R53, R444–R446). -/
def timerCountReadDoes : Prop := ∀ (m : Master) (k : Nat) (wide : Bool) (s : State),
  let c := s.countAt k (s.timer k) s.now
  s.serves (readOf m (.tmr (k / 8)) (tmrOff k 0) wide) →
  k < 32 →
  s.chainOdd k = false →
  Ends (.timerCountRead m k wide) s fun t => ReadBy m (if wide then (BitVec.ofNat 32 c).toNat + 2 ^ 32 * (BitVec.ofNat 32 (if
    s.chainHead k then c / 2 ^ 32 else 0)).toNat else (BitVec.ofNat 32 c).toNat) s t ∧ (wide = false → Latched t m ((Page.base
    (.tmr (k / 8)))) ((Page.base (.tmr (k / 8))) + (tmrOff k 0) + 4) (BitVec.ofNat 32 (if s.chainHead k then c / 2 ^ 32 else
    0))) ∧ (wide = false → t.tmr = s.tmr) ∧ t = { s with fab := t.fab, tmr := t.tmr }

/-- TM_FIRED_CLR: TM_FIRED reads 0 (R451). -/
def tmFiredClrDoes : Prop := ∀ (m : Master) (s : State),
  Clears (.tmFiredClr m) m .tmx 0x44 1 [0x40] s

/-! ### Watchdogs and converters -/

/-- WATCHDOG_START: the watchdog counts from 0 (R456, R458). -/
def watchdogStartDoes : Prop := ∀ (m : Master) (w : Nat) (p : Nat) (s : State),
  w ≤ 8 →
  s.accepts (put32 m (wdtPage w) 0x40 p) →
  Ends (.watchdogStart m w p) s fun t => t.wdtRun w = true ∧ t.reg (wdtPage w) 0x40 = BitVec.ofNat 32 p ∧ t.wdog w = ⟨s.now,
    false, false, false, 0⟩ ∧ SameTab w s.wdt t.wdt ∧ SameRegsBut [Page.base (wdtPage w) + 0x40, Page.base (wdtPage w) + 0x50]
    s t ∧ Written m (Page.base (wdtPage w)) s t ∧ t = { s with wdt := t.wdt, regs := t.regs, fab := t.fab }

/-- WDT_KEY1: in the window with every task checked in, KEY2 is expected; before the window opens it is a violation (R459, R461). -/
def wdtKey1Does : Prop := ∀ (m : Master) (w : Nat) (s : State),
  w ≤ 8 →
  (s.accepts (put32 m (wdtPage w) 0x48 0x5EA1) → Ends (.wdtKey1 m w) s fun t => t.key1Seen w = true ∧ t.wdt = s.wdt ∧
    SameRegsBut [Page.base (wdtPage w) + 0x50] s t ∧ Written m (Page.base (wdtPage w)) s t ∧ t =
    { s with wdt := t.wdt, regs := t.regs, fab := t.fab }) ∧ (m = .headland → s.wdtRun w = true → s.key1Seen w = false →
    (s.wdog w).tripped = false → s.wdtCount w < s.wdtOpenThr w → (s.accWrite (put32 .headland (wdtPage w) 0x48 0x5EA1)).1 =
    .sequence → Ends (.wdtKey1 m w) s fun t => (t.wdog w).tripped = true ∧ (t.wdog w).viol = true ∧ (t.lastResp m).reason =
    .sequence)

/-- WDT_KEY2: the service is complete: the count and the check-ins begin anew (R459, R460). -/
def wdtKey2Does : Prop := ∀ (m : Master) (w : Nat) (s : State),
  w ≤ 8 →
  s.accepts (put32 m (wdtPage w) 0x48 0xC0A5) →
  Ends (.wdtKey2 m w) s fun t => t.key1Seen w = false ∧ t.reg (wdtPage w) 0x54 = 0 ∧ t.reg (wdtPage w) 0x58 = 0 ∧ t.wdog w =
    ⟨s.now, false, false, false, 0⟩ ∧ SameTab w s.wdt t.wdt ∧ t.wdtRun w = s.wdtRun w ∧ SameRegsBut [Page.base (wdtPage w) +
    0x50, Page.base (wdtPage w) + 0x54, Page.base (wdtPage w) + 0x58] s t ∧ Written m (Page.base (wdtPage w)) s t ∧ t =
    { s with wdt := t.wdt, regs := t.regs, fab := t.fab }

/-- WDT_CHECKIN: the task has checked in, or has checked in too often (R460). -/
def wdtCheckinDoes : Prop := ∀ (m : Master) (w : Nat) (task : Nat) (s : State),
  w ≤ 8 →
  task < 32 →
  s.accepts (put32 m (wdtPage w) 0x4C task) →
  (bit (s.reg (wdtPage w) 0x54) task = false → Ends (.wdtCheckin m w task) s fun t => t.reg (wdtPage w) 0x54 = setBit (s.reg
    (wdtPage w) 0x54) task true ∧ t.wdt = s.wdt ∧ SameRegsBut [Page.base (wdtPage w) + 0x54] s t ∧ Written m (Page.base
    (wdtPage w)) s t ∧ t = { s with wdt := t.wdt, regs := t.regs, fab := t.fab }) ∧ (bit (s.reg (wdtPage w) 0x54) task = true →
    Ends (.wdtCheckin m w task) s fun t => t.reg (wdtPage w) 0x58 = setBit (s.reg (wdtPage w) 0x58) task true ∧ (s.reg (wdtPage
    w) 0x58 = 0 → t.regF (wdtPage w) 0x20 1 1 = 1) ∧ t.wdt = s.wdt ∧ SameRegsBut [Page.base (wdtPage w) + 0x58, Page.base
    (wdtPage w) + 0x20] s t ∧ Written m (Page.base (wdtPage w)) s t ∧ t =
    { s with wdt := t.wdt, regs := t.regs, fab := t.fab })

/-- WATCHDOG_WINDOW_OPEN: the count reaches OPEN_THR (R458, R463). -/
def watchdogWindowOpenDoes : Prop := ∀ (w : Nat) (s : State),
  let opens := s.wdtRun w && !(s.wdog w).opened && !(s.wdog w).tripped && decide (s.wdtOpenThr w ≤ s.wdtCount w)
  w ≤ 8 →
  (opens = true → Ends (.watchdogWindowOpen w) s fun t => t.wdog w = { s.wdog w with opened := true } ∧ t.regF (wdtPage w) 0x20
    0 1 = 1 ∧ SameTab w s.wdt t.wdt ∧ SameRegsBut [Page.base (wdtPage w) + 0x20] s t ∧ t =
    { s with wdt := t.wdt, regs := t.regs, fab := t.fab }) ∧ (opens = false → Ends (.watchdogWindowOpen w) s fun t => t = s)

/-- WATCHDOG_EXPIRY: at PERIOD the watchdog trips and its source is raised (R458, R462). -/
def watchdogExpiryDoes : Prop := ∀ (w : Nat) (s : State),
  let ends := s.wdtRun w && !(s.wdog w).tripped && decide (s.wdtPeriod w ≤ s.wdtCount w)
  w ≤ 8 →
  (ends = true → Ends (.watchdogExpiry w) s fun t => (t.wdog w).tripped = true ∧ (t.wdog w).viol = false ∧ (w < 8 → (t.wdog
    w).tasks = (s.reg (wdtPage w) 0x44 &&& ~~~(s.reg (wdtPage w) 0x54)) ||| s.reg (wdtPage w) 0x58) ∧ (if w < 8 then (0x06, w)
    else (0x07, 0)) ∈ t.raised ∧ SameTab w s.wdt t.wdt ∧ t = { s with wdt := t.wdt, raised := t.raised }) ∧ (ends = false →
    Ends (.watchdogExpiry w) s fun t => t = s)

/-- CONVERTER_START: a triggered converter starts at the action's instant; a start while it converts is dropped and counted (R449, R451, R465). -/
def converterStartDoes : Prop := ∀ (c : Nat) (a : RouteDue) (u : State) (s : State),
  let fired := fun (t : State) => t.routes = u.routes ∧ t.reg .tmx 0x40 = s.reg .tmx 0x40 + 1
  s.routeTake 0 c = some (a, u) →
  c < 16 →
  (s.cvRuns c = false ∨ bit (s.cvCfg c) 6 = true → Ends (.converterStart c) s fun t => fired t ∧ t.conv = s.conv ∧ SameRegsBut
    [Page.base .tmx + 0x40] s t) ∧ (s.cvRuns c = true → bit (s.cvCfg c) 6 = false → (s.cv c).start = none → Ends
    (.converterStart c) s fun t => fired t ∧ t.cv c = { s.cv c with start := some a.at_ } ∧ SameTab c s.conv t.conv ∧
    SameRegsBut [Page.base .tmx + 0x40] s t) ∧ (s.cvRuns c = true → bit (s.cvCfg c) 6 = false → (s.cv c).start ≠ none → Ends
    (.converterStart c) s fun t => fired t ∧ t.conv = s.conv ∧ t.regF (.cv c) 0x58 0 16 = min (s.regF (.cv c) 0x58 0 16 + 1)
    65535 ∧ t.regF (.cv c) 0x20 2 1 = 1 ∧ SameRegsBut [Page.base .tmx + 0x40, Page.base (.cv c) + 0x58, Page.base (.cv c) +
    0x20] s t)

/-- CONVERSION_RESULT: the code nearest to the ratio, clamped, with its SEQ and the middle of its window, goes to the FIFO and the bank; a full FIFO loses it (R464–R466). -/
def conversionResultDoes : Prop := ∀ (c : Nat) (vin : Int) (vexc : Nat) (ok : Bool) (t0 : Nat) (s : State),
  let x := s.cv c
  let w := 125000 * 2 ^ fld (s.cvCfg c) 3 3
  let cont := bit (s.cvCfg c) 6
  let begun := if cont then some (x.window * w) else x.start
  let q := vin * 2 ^ fld (s.cvCfg c) 0 3 * 2 ^ 23
  s.cvRuns c = true →
  begun = some t0 →
  t0 + w + 32000 ≤ s.now →
  vexc ≠ 0 →
  c < 16 →
  Ends (.conversionResult c vin vexc ok) s fun t => (t.cv c).start = none ∧ (t.cv c).seq = (x.seq + 1) % 2 ^ 32 ∧ (t.cv
    c).window = x.window + 1 ∧ (t.cv c).open_ = (if ok then 0 else x.open_ + 1) ∧ (x.fifo.length < 16 → ∀ k, (t.cv
    c).fifo.getLast? = some k → k.seq = x.seq ∧ k.inst = (t0 + w / 2) % 2 ^ 64 ∧ (-2 ^ 23 ≤ k.code ∧ k.code ≤ 2 ^ 23 - 1) ∧ (-2
    ^ 24 * (vexc : Int) ≤ 2 * q → 2 * q < (2 ^ 24 - 1) * vexc → 2 * (k.code * vexc - q).natAbs ≤ vexc)) ∧ (x.fifo.length < 16 →
    (t.cv c).fifo.length = x.fifo.length + 1 ∧ (t.cv c).fifo.dropLast = x.fifo) ∧ (16 ≤ x.fifo.length → (t.cv c).fifo = x.fifo
    ∧ t.regF (.cv c) 0x58 16 16 = min (s.regF (.cv c) 0x58 16 16 + 1) 65535 ∧ t.regF (.cv c) 0x20 1 1 = 1) ∧ (bit (s.cvCfg c) 9
    = true → (t.cv c).bank2.seq = x.seq) ∧ (bit (s.cvCfg c) 9 = false → (t.cv c).bank2 = x.bank2) ∧ t.regF (.cv c) 0x20 0 1 = 1
    ∧ SameTab c s.conv t.conv ∧ t = { s with conv := t.conv, regs := t.regs, fab := t.fab, routes := t.routes, free := t.free }

/-- CONVERTER_FAULT: an excitation, input or supply fault raises the source and its event (R467, R468). -/
def converterFaultDoes : Prop := ∀ (c : Nat) (exc : Bool) (s : State),
  let op := decide (8 ≤ (s.cv c).open_)
  let fault := exc || op || bit (s.reg .bwMon 0x4C) 7
  c < s.fuses.cells →
  (fault = true → Ends (.converterFault c exc) s fun t => (0x3C, Page.base (.cv c)) ∈ t.raised ∧ t.regF (.cv c) 0x20 3 1 = 1 ∧
    t.regF (.cv c) 0x44 2 1 = (if op then 1 else s.regF (.cv c) 0x44 2 1) ∧ t.regF (.cv c) 0x44 1 1 = (if exc then 0 else
    s.regF (.cv c) 0x44 1 1) ∧ SameRegsBut [Page.base (.cv c) + 0x44, Page.base (.cv c) + 0x20] s t ∧ t =
    { s with raised := t.raised, regs := t.regs, fab := t.fab }) ∧ (fault = false → Ends (.converterFault c exc) s fun t => t =
    s)

/-- CV_DATA_POP: the oldest sample leaves the FIFO; its other words are latched (R53, R466). -/
def cvDataPopDoes : Prop := ∀ (m : Master) (c : Nat) (x : CvSample) (rest : List CvSample) (wide : Bool) (s : State),
  s.serves (readOf m (.cv c) (0x48) wide) →
  (s.cv c).fifo = x :: rest →
  Ends (.cvDataPop m c wide) s fun t => ReadBy m (if wide then (BitVec.ofInt 32 x.code).toNat + 2 ^ 32 * (BitVec.ofNat 32
    x.seq).toNat else (BitVec.ofInt 32 x.code).toNat) s t ∧ Latched t m ((Page.base (.cv c))) ((Page.base (.cv c)) + (0x48) +
    4) (BitVec.ofNat 32 x.seq) ∧ Latched t m ((Page.base (.cv c))) ((Page.base (.cv c)) + (0x48) + 8) (BitVec.ofNat 32 x.inst)
    ∧ Latched t m ((Page.base (.cv c))) ((Page.base (.cv c)) + (0x48) + 12) (BitVec.ofNat 32 (x.inst / 2 ^ 32)) ∧ t.cv c =
    { s.cv c with fifo := rest } ∧ SameTab c s.conv t.conv ∧ t = { s with fab := t.fab, conv := t.conv }

/-- CV_CNT_CLR: the converter's counts read 0 (R468). -/
def cvCntClrDoes : Prop := ∀ (m : Master) (c : Nat) (s : State),
  Clears (.cvCntClr m c) m (.cv c) 0x5C 1 [0x58] s

/-- CV_FLUSH: the FIFO is empty (R468). -/
def cvFlushDoes : Prop := ∀ (m : Master) (c : Nat) (s : State),
  s.accepts (put32 m (.cv c) 0x5C 2) →
  Ends (.cvFlush m c) s fun t => t.cv c = { s.cv c with fifo := [] } ∧ SameTab c s.conv t.conv ∧ SameRegsBut [] s t ∧ Written m
    (Page.base (.cv c)) s t ∧ t = { s with regs := t.regs, fab := t.fab, conv := t.conv }

/-! ### Lockstep -/

/-- LOCKSTEP_MISMATCH: an outvoted core is masked and its resync begins, or, within 1 ms of its last one, retired; any other disagreement stops the cluster (R407–R410). -/
def lockstepMismatchDoes : Prop := ∀ (point : Nat) (c : Nat) (s : State),
  let again := s.bw.ls.joined.any fun j => decide (j.1 = c) && decide (s.now < j.2 + 8000000)
  s.sv.hold = false →
  s.computeRuns = true →
  (s.lsForm = 0 → c < 3 → again = false → Ends (.lockstepMismatch point (some c)) s fun t => t.lsForm = 2 ∧ fld (t.reg .lks
    0x40) 2 2 = c ∧ t.bw =
    { s.bw with ls := { s.bw.ls with out := some (c, .copy), since := s.now, rotated := false, pairSince := some s.now } } ∧
    t.regF .lks 0x20 0 1 = 1 ∧ t.regF .bwCtl 0x20 4 1 = 1 ∧ t.reg .lks 0x48 = BitVec.ofNat 32 (c + 4 * (point % 6)) ∧ t.regF
    .lks 0x44 0 16 = min (s.regF .lks 0x44 0 16 + 1) 65535 ∧ (0x00, c) ∈ t.raised ∧ SameRegsBut [Page.base .lks + 0x40,
    Page.base .lks + 0x44, Page.base .lks + 0x48, Page.base .lks + 0x20, Page.base .bwCtl + 0x20] s t ∧ t =
    { s with bw := t.bw, raised := t.raised, regs := t.regs, fab := t.fab }) ∧ (s.lsForm = 0 → c < 3 → again = true → Ends
    (.lockstepMismatch point (some c)) s fun t => t.lsForm = 1 ∧ fld (t.reg .lks 0x40) 2 2 = c ∧ bit (t.reg .lks 0x40) 4 = true
    ∧ t.bw.ls.out = none ∧ (0x02, 0) ∈ t.raised ∧ t.regF .lks 0x20 2 1 = 1 ∧ t.reg .lks 0x48 = BitVec.ofNat 32 (c + 4 * (point
    % 6)) ∧ t.regF .lks 0x44 0 16 = min (s.regF .lks 0x44 0 16 + 1) 65535 ∧ (0x00, c) ∈ t.raised ∧ SameRegsBut [Page.base .lks
    + 0x40, Page.base .lks + 0x44, Page.base .lks + 0x48, Page.base .lks + 0x20] s t ∧ t =
    { s with bw := t.bw, raised := t.raised, regs := t.regs, fab := t.fab }) ∧ (s.lsForm ≠ 0 → Ends (.lockstepMismatch point
    (some c)) s fun t => t = { s with sv := { s.sv with hold := true }, raised := t.raised } ∧ (0x01, 0) ∈ t.raised) ∧ Ends
    (.lockstepMismatch point none) s fun t => t = { s with sv := { s.sv with hold := true }, raised := t.raised } ∧ (0x01, 0) ∈
    t.raised

/-- RESYNC_COPY_DONE: the join follows the copy (R408). -/
def resyncCopyDoneDoes : Prop := ∀ (c : Nat) (s : State),
  (s.bw.ls.out = some (c, .copy) → Ends .resyncCopyDone s fun t => t =
    { s with bw := { s.bw with ls := { s.bw.ls with out := some (c, .join) } } }) ∧ (s.bw.ls.out ≠ some (c, .copy) → c =
    (s.bw.ls.out.getD (0, .test)).1 → Ends .resyncCopyDone s fun t => t = s)

/-- RESYNC_JOIN_DONE: triple voting resumes, with the resync counted and timed; a failed join retires the core (R408, R410, R437). -/
def resyncJoinDoneDoes : Prop := ∀ (c : Nat) (s : State),
  s.bw.ls.out = some (c, .join) →
  (Ends (.resyncJoinDone true) s fun t => t.lsForm = 0 ∧ t.bw.ls.out = none ∧ t.bw.ls.joined = some (c, s.now) ∧
    t.bw.ls.pairSince = none ∧ t.regF .lks 0x44 16 16 = min (s.regF .lks 0x44 16 16 + 1) 65535 ∧ t.reg .lks 0x58 = BitVec.ofNat
    32 (min ((s.now - s.bw.ls.since) / 8) 65535) ∧ t.regF .lks 0x20 1 1 = 1 ∧ (s.bw.ls.rotated = true → t.regF .lks 0x20 3 1 =
    1) ∧ t.raised = s.raised ∧ SameRegsBut [Page.base .lks + 0x40, Page.base .lks + 0x44, Page.base .lks + 0x58, Page.base .lks
    + 0x20] s t ∧ t = { s with bw := t.bw, raised := t.raised, regs := t.regs, fab := t.fab }) ∧ Ends (.resyncJoinDone false) s
    fun t => t.lsForm = 1 ∧ fld (t.reg .lks 0x40) 2 2 = c ∧ bit (t.reg .lks 0x40) 4 = true ∧ t.bw.ls.out = none ∧ (0x02, 0) ∈
    t.raised ∧ t.regF .lks 0x20 2 1 = 1 ∧ SameRegsBut [Page.base .lks + 0x40, Page.base .lks + 0x20] s t ∧ t =
    { s with bw := t.bw, raised := t.raised, regs := t.regs, fab := t.fab }

/-- DEGRADED_TIMEOUT: a pair that has lasted DEG_TMO is reported (R411). -/
def degradedTimeoutDoes : Prop := ∀ (x : Nat) (s : State),
  s.bw.ls.pairSince = some x →
  (s.fuses.cores = 3 → x + s.regF .lks 0x4C 0 27 * 8000000 ≤ s.now → Ends .degradedTimeout s fun t => (0x03, 0) ∈ t.raised ∧ t
    = { s with raised := t.raised, bw := { s.bw with ls := { s.bw.ls with pairSince := none } } }) ∧ (s.now < x + s.regF .lks
    0x4C 0 27 * 8000000 → Ends .degradedTimeout s fun t => t = s)

/-- ROTATION_START: each INTERVAL the next core in turn is taken out for its self-test, while voting is triple (R412). -/
def rotationStartDoes : Prop := ∀ (s : State),
  let due := s.bw.ls.rotLast + fld (s.reg .lks 0x50) 8 16 * 8000000000
  s.bw.ls.rotNext < 3 →
  (s.fuses.cores = 3 → bit (s.reg .lks 0x50) 0 = true → s.lsForm = 0 → due ≤ s.now → Ends .rotationStart s fun t => t.lsForm =
    3 ∧ fld (t.reg .lks 0x40) 2 2 = s.bw.ls.rotNext % 4 ∧ t.bw =
    { s.bw with ls := { s.bw.ls with out := some (s.bw.ls.rotNext, .test), since := s.now, rotated := true, rotLast := s.now, rotNext := (s.bw.ls.rotNext + 1) % 3 } }
    ∧ t.regF .lks 0x20 0 1 = 1 ∧ SameRegsBut [Page.base .lks + 0x40, Page.base .lks + 0x20] s t ∧ t =
    { s with bw := t.bw, regs := t.regs, fab := t.fab }) ∧ (bit (s.reg .lks 0x50) 0 = false ∨ s.lsForm ≠ 0 ∨ s.now < due → Ends
    .rotationStart s fun t => t = s)

/-- ROTATION_TEST_DONE: the resync of the core that passed begins; a failure is reported (R412). -/
def rotationTestDoneDoes : Prop := ∀ (c : Nat) (s : State),
  s.bw.ls.out = some (c, .test) →
  (Ends (.rotationTestDone true) s fun t => t.bw = { s.bw with ls := { s.bw.ls with out := some (c, .copy) } } ∧ t.regF .bwCtl
    0x20 4 1 = 1 ∧ SameRegsBut [Page.base .bwCtl + 0x20] s t ∧ t = { s with bw := t.bw, regs := t.regs, fab := t.fab }) ∧ Ends
    (.rotationTestDone false) s fun t => (0x3B, 0) ∈ t.raised ∧ t = { s with raised := t.raised }

/-- ROT_REQ: a rotation starts now (R437). -/
def rotReqDoes : Prop := ∀ (m : Master) (s : State),
  s.accepts (put32 m .lks 0x54 1) →
  s.bw.ls.rotNext < 3 →
  Ends (.rotReq m) s fun t => t.lsForm = 3 ∧ fld (t.reg .lks 0x40) 2 2 = s.bw.ls.rotNext % 4 ∧ t.bw =
    { s.bw with ls := { s.bw.ls with out := some (s.bw.ls.rotNext, .test), since := s.now, rotated := true, rotLast := s.now, rotNext := (s.bw.ls.rotNext + 1) % 3 } }
    ∧ t.regF .lks 0x20 0 1 = 1 ∧ SameRegsBut [Page.base .lks + 0x40, Page.base .lks + 0x20] s t ∧ Written m (Page.base .lks) s
    t ∧ t = { s with bw := t.bw, regs := t.regs, fab := t.fab }

/-! ### The Slack plan -/

/-- PLAN_KEY: the two keys, one after the other, open the sequence; any other value between them closes it (R423). -/
def planKeyDoes : Prop := ∀ (v : Nat) (s : State),
  (s.bw.key1 = false → v = 0xA5C3 → s.accepts (put32 .headland .slk 0x40 v) → Ends (.planKey .headland v) s fun t => t.bw =
    { s.bw with key1 := true } ∧ SameRegsBut [] s t ∧ Written .headland (Page.base .slk) s t ∧ t =
    { s with bw := t.bw, regs := t.regs, fab := t.fab }) ∧ (s.bw.key1 = true → v = 0x3C5A → s.accepts (put32 .headland .slk
    0x40 v) → Ends (.planKey .headland v) s fun t => t.planOpen = true ∧ t.bw =
    { s.bw with key1 := false, openAt := some s.now } ∧ SameRegsBut [Page.base .slk + 0x4C] s t ∧ Written .headland (Page.base
    .slk) s t ∧ t = { s with bw := t.bw, regs := t.regs, fab := t.fab }) ∧ (s.bw.key1 = true → s.sends .headland = true →
    (s.accWrite (put32 .headland .slk 0x40 v)).1 = .sequence → s.guardFault .headland .store (Page.base .slk + 0x40) 4 = none →
    Ends (.planKey .headland v) s fun t => t.bw.key1 = false ∧ t.planOpen = s.planOpen ∧ (t.lastResp .headland).reason =
    .sequence)

/-- PLAN_MEMORY_WRITE: Headland alone writes plan memory, the inactive copy alone, inside the open sequence (R423). -/
def planMemoryWriteDoes : Prop := ∀ (m : Master) (off : Nat) (size : Nat) (v : Nat) (s : State),
  off < 0x100000 →
  s.accepts ⟨m, 0x70000000 + off, size, v, true⟩ →
  m = .headland ∧ s.planOpen = true ∧ s.planValidating = false ∧ off / 0x80000 ≠ s.planActive ∧ Ends (.planMemoryWrite m off
    size v) s fun t => (∀ k, k < size → readByte t.mem (0x70000000 + off + k) = BitVec.ofNat 8 (v / 2 ^ (8 * k))) ∧
    SameMemoryBut (0x70000000 + off) (0x70000000 + off + size) s t ∧ (t.lastResp m).reason = .none ∧ t =
    { s with mem := t.mem, tags := t.tags, fab := t.fab }

/-- PLAN_HEADER_WRITE: a word of a profile header is written (R423, R436). -/
def planHeaderWriteDoes : Prop := ∀ (m : Master) (c : Nat) (p : Nat) (word : Nat) (v : Nat) (s : State),
  c < 2 →
  p < 8 →
  word < 3 →
  s.accepts (put32 m .slk (hdrOff c p + 4 * word) v) →
  Ends (.planHeaderWrite m c p word v) s fun t => t.reg .slk (hdrOff c p + 4 * word) = (if word = 0 then BitVec.ofNat 32 v &&&
    0xFFFF1FFF else BitVec.ofNat 32 v) ∧ t.bw = s.bw ∧ SameRegsBut [Page.base .slk + (hdrOff c p + 4 * word)] s t ∧ Written m
    (Page.base .slk) s t ∧ t = { s with bw := t.bw, regs := t.regs, fab := t.fab }

/-- PLAN_COMMIT with GO: the sequence closes and validation begins (R423). -/
def planCommitGoDoes : Prop := ∀ (m : Master) (prof : Nat) (s : State),
  s.accepts (put32 m .slk 0x44 (prof % 8 + 8)) →
  Ends (.planCommitGo m prof) s fun t => t.planValidating = true ∧ t.planOpen = false ∧ t.bw =
    { s.bw with openAt := none, staged := prof % 8 } ∧ t.reg .slk 0x4C = setFld (setFld (s.reg .slk 0x4C) 0 1 0) 1 1 1 ∧
    SameRegsBut [Page.base .slk + 0x4C] s t ∧ Written m (Page.base .slk) s t ∧ t =
    { s with bw := t.bw, regs := t.regs, fab := t.fab }

/-- PLAN_COMMIT with ABORT: the sequence closes without change (R423, R436). -/
def planCommitAbortDoes : Prop := ∀ (m : Master) (s : State),
  s.accepts (put32 m .slk 0x44 16) →
  Ends (.planCommitAbort m) s fun t => t.planOpen = false ∧ t.regF .slk 0x4C 13 4 = 8 ∧ t.planActive = s.planActive ∧
    t.planValidating = s.planValidating ∧ t.regF .slk 0x20 0 1 = 1 ∧ t.bw = { s.bw with openAt := none } ∧ SameRegsBut
    [Page.base .slk + 0x4C, Page.base .slk + 0x20] s t ∧ Written m (Page.base .slk) s t ∧ t =
    { s with bw := t.bw, regs := t.regs, fab := t.fab }

/-- PLAN_VALIDATION_DONE: a copy that passes becomes the active one at K, unless a SLACK fault was latched at K; a failure is reported with its place (R424). -/
def planValidationDoneDoes : Prop := ∀ (code : Nat) (i : Nat) (p : Nat) (s : State),
  let c := 1 - s.planActive
  let k := s.now / 40 * 40
  let taken := bit (s.reg .bwCtl 0x58) 9 && decide (s.regF .bwCtl 0x58 6 3 = 5) && decide (s.reg64 .bwCtl 0x5C = k)
  let done := fun (t : State) (r : Nat) => t.planValidating = false ∧ t.regF .slk 0x4C 13 4 = r ∧ t.regF .slk 0x20 0 1 = 1 ∧ t
    = { s with regs := t.regs, fab := t.fab }
  s.planValidating = true →
  s.planValidate c s.bw.staged = (code, i, p) →
  i < 4096 →
  p < 8 →
  s.bw.staged < 8 →
  (code = 0 → taken = false → Ends .planValidationDone s fun t => t.planActive = c ∧ t.planCommitted = true ∧ t.regF .slk 0x4C
    17 3 = s.bw.staged ∧ t.regF .slk 0x4C 5 8 = 0 ∧ t.validUntil = (k + s.regF .slk 0x5C 0 14 * 8000000) % 2 ^ 64 ∧ done t 1 ∧
    SameRegsBut [Page.base .slk + 0x4C, Page.base .slk + 0x54, Page.base .slk + 0x58, Page.base .slk + 0x20] s t) ∧ (code = 0 →
    taken = true → Ends .planValidationDone s fun t => t.planActive = s.planActive ∧ t.validUntil = s.validUntil ∧ done t 10 ∧
    SameRegsBut [Page.base .slk + 0x4C, Page.base .slk + 0x20] s t) ∧ (code ≠ 0 → Ends .planValidationDone s fun t =>
    t.planActive = s.planActive ∧ t.reg .slk 0x50 = BitVec.ofNat 32 (i + p * 2 ^ 12) ∧ t.regF .slk 0x4C 13 4 = code % 16 ∧ done
    t (code % 16) ∧ SameRegsBut [Page.base .slk + 0x4C, Page.base .slk + 0x50, Page.base .slk + 0x20] s t)

/-- PLAN_SEQUENCE_TIMEOUT: 100 ms after it opened without a commit the sequence closes (R423). -/
def planSequenceTimeoutDoes : Prop := ∀ (x : Nat) (s : State),
  s.bw.openAt = some x →
  (x + 800000000 ≤ s.now → Ends .planSequenceTimeout s fun t => t.planOpen = false ∧ t.regF .slk 0x4C 13 4 = 9 ∧ t.regF .slk
    0x20 0 1 = 1 ∧ t.bw = { s.bw with openAt := none } ∧ SameRegsBut [Page.base .slk + 0x4C, Page.base .slk + 0x20] s t ∧ t =
    { s with bw := t.bw, raised := t.raised, regs := t.regs, fab := t.fab } ∧ t.raised = s.raised) ∧ (s.now < x + 800000000 →
    Ends .planSequenceTimeout s fun t => t = s)

/-- PLAN_REFRESH: the active copy is valid for PLAN_TTL from now (R425). -/
def planRefreshDoes : Prop := ∀ (m : Master) (s : State),
  s.accepts (put32 m .slk 0x48 1) →
  Ends (.planRefresh m) s fun t => t.validUntil = (s.now + s.regF .slk 0x5C 0 14 * 8000000) % 2 ^ 64 ∧ t.reg .slk 0x4C = setFld
    (s.reg .slk 0x4C) 4 1 0 ∧ t.bw = s.bw ∧ SameRegsBut [Page.base .slk + 0x4C, Page.base .slk + 0x54, Page.base .slk + 0x58] s
    t ∧ Written m (Page.base .slk) s t ∧ t = { s with bw := t.bw, regs := t.regs, fab := t.fab }

/-- PLAN_STALE: the active copy is stale from VALID_UNTIL on (R425). -/
def planStaleDoes : Prop := ∀ (s : State),
  (s.planCommitted = true → s.validUntil ≤ s.now → bit (s.reg .slk 0x4C) 4 = false → Ends .planStale s fun t => bit (t.reg .slk
    0x4C) 4 = true ∧ (0x23, 0) ∈ t.raised ∧ t.regF .bwCtl 0x20 5 1 = 1 ∧ t.bw = s.bw ∧ SameRegsBut [Page.base .slk + 0x4C,
    Page.base .bwCtl + 0x20] s t ∧ t = { s with bw := t.bw, raised := t.raised, regs := t.regs, fab := t.fab }) ∧
    (s.planCommitted = false ∨ s.now < s.validUntil → Ends .planStale s fun t => t = s)

/-- PLAN_SCRUB: a profile of the active copy that fails its CRC is BAD (R425). -/
def planScrubDoes : Prop := ∀ (errs : List Nat) (s : State),
  let c := s.planActive
  let bad := fun (p : Nat) => errs.contains p || !s.hdrCrcOk c p || (s.planEntries c p).any fun e => !e.crcOk
  let all := (List.range 8).any bad
  s.planCommitted = true →
  (all = true → Ends (.planScrub errs) s fun t => (∀ p, p < 8 → bit (t.reg .slk 0x4C) (5 + p) = (bit (s.reg .slk 0x4C) (5 + p)
    || bad p)) ∧ (0x22, 0) ∈ t.raised ∧ t.regF .slk 0x20 1 1 = 1 ∧ t.bw = s.bw ∧ SameRegsBut [Page.base .slk + 0x4C, Page.base
    .slk + 0x20] s t ∧ t = { s with bw := t.bw, raised := t.raised, regs := t.regs, fab := t.fab }) ∧ (all = false → Ends
    (.planScrub errs) s fun t => t = s)

/-- VALID_UNTIL_READ: VALID_UNTIL, its high word latched (R53, R436). -/
def validUntilReadDoes : Prop := ∀ (m : Master) (wide : Bool) (s : State),
  s.serves (readOf m .slk (0x54) wide) →
  Ends (.validUntilRead m wide) s fun t => ReadBy m (if wide then (s.reg .slk 0x54).toNat + 2 ^ 32 * (s.reg .slk 0x58).toNat
    else (s.reg .slk 0x54).toNat) s t ∧ (wide = false → Latched t m ((Page.base .slk)) ((Page.base .slk) + (0x54) + 4) (s.reg
    .slk 0x58)) ∧ t = { s with fab := t.fab }

/-- SPEED_SOURCE_SAMPLE: every 100th sample commits the speed over 100 samples without a gap, at least 0 (R426). -/
def speedSourceSampleDoes : Prop := ∀ (id : Nat) (x : Sample) (s : State),
  let e := s.bw.spd
  let dup := e.hist.head?.any fun y => decide (y.inst = x.inst)
  let joined := e.hist.head?.any fun y => decide (y.inst + 8000 = x.inst)
  let h := (x :: (if joined then e.hist else [])).take 101
  id = s.regF .slk 0x64 0 16 →
  tabGet? s.src id = some x →
  (id = 0 ∨ dup = true → Ends .speedSourceSample s fun t => t = s) ∧ (id ≠ 0 → dup = false → Ends .speedSourceSample s fun t =>
    t.bw.spd.hist = h ∧ t.bw.spd.last = s.now ∧ t.bw.spd.lost = false ∧ t.bw.spd.count = (e.count + 1) % 100 ∧ ((e.count + 1) %
    100 ≠ 0 ∨ h.length < 101 → t.regs = s.regs ∧ t.bw.spd.commit = e.commit) ∧ ((e.count + 1) % 100 = 0 → h.length = 101 →
    ((t.reg .slk 0x74).toNat : Int) = min (max ((x.coord - (h.getD 100 x).coord) * 65536 / 100) 0) (2 ^ 32 - 1) ∧
    t.bw.spd.commit = some s.now ∧ SameRegsBut [Page.base .slk + 0x74] s t) ∧ t =
    { s with bw := { s.bw with spd := t.bw.spd }, regs := t.regs })

/-- SPEED_LOST: no sample of the source for 4 µs (R427). -/
def speedLostDoes : Prop := ∀ (s : State),
  let gone := decide (s.regF .slk 0x64 0 16 ≠ 0) && !s.bw.spd.lost && decide (s.bw.spd.last + 32000 ≤ s.now)
  (gone = true → Ends .speedLost s fun t => (0x21, 0) ∈ t.raised ∧ t.regF .slk 0x20 2 1 = 1 ∧ t.bw =
    { s.bw with spd := { s.bw.spd with lost := true } } ∧ SameRegsBut [Page.base .slk + 0x20] s t ∧ t =
    { s with bw := t.bw, raised := t.raised, regs := t.regs, fab := t.fab }) ∧ (gone = false → Ends .speedLost s fun t => t =
    s)

/-! ### Slack stops, pre-emption and playback, monitors, scrubs and self-tests -/

/-- SLACK_REQ: FW_SLACK is raised with the profile written (R432). -/
def slackReqDoes : Prop := ∀ (m : Master) (v : Nat) (s : State),
  s.accepts (put32 m .bwCtl 0x44 v) →
  Ends (.slackReq m v) s fun t => t.reg .bwCtl 0x44 = BitVec.ofNat 32 v &&& 0x1E ∧ (v % 2 = 1 → (0x26, 0) ∈ t.raised) ∧ (v % 2
    = 0 → t.raised = s.raised) ∧ SameRegsBut [Page.base .bwCtl + 0x44] s t ∧ Written m (Page.base .bwCtl) s t ∧ t =
    { s with raised := t.raised, regs := t.regs, fab := t.fab }

/-- SLACK_REL: after DONE and without a pre-emption the hold-up ports return (R430). -/
def slackRelDoes : Prop := ∀ (m : Master) (s : State),
  s.accepts (put32 m .bwCtl 0x48 1) →
  s.bwState = 2 ∧ s.preempted = false ∧ Ends (.slackRel m) s fun t => t.bwState = 0 ∧ t.bw = { s.bw with play := none } ∧
    SameRegsBut [Page.base .bwCtl + 0x40] s t ∧ Written m (Page.base .bwCtl) s t ∧ t =
    { s with bw := t.bw, regs := t.regs, fab := t.fab }

/-- PREEMPTION: at P the entries of the hold-up ports from P on are lost, and the scale speed is fixed (R104, R428, R429). -/
def preemptionDoes : Prop := ∀ (y : Play) (s : State),
  let v := if s.spdAge ≤ s.regF .slk 0x70 0 16 * 1000 then min (max (s.reg .slk 0x74).toNat (s.reg .slk 0x68).toNat) (s.reg
    .slk 0x6C).toNat else (s.reg .slk 0x6C).toNat
  let stale := !decide (s.spdAge ≤ s.regF .slk 0x70 0 16 * 1000)
  let hits := s.tqf.pool.filter fun x => decide (x.2.kind = .act) && !x.2.lost && decide (y.p ≤ x.2.inst) && holdUpPort
    (s.qPort x.2.queue)
  s.bw.play = some y →
  (y.begun = false → y.p ≤ s.now → s.preempted = false → y.p < 2 ^ 64 → y.prof < 8 → Ends .preemption s fun t => t.preempted =
    true ∧ t.reg64 .tqs 0x4C = y.p ∧ t.bw = { s.bw with play := some { y with begun := true, scale := v } } ∧ (t.reg .slk
    0x80).toNat = v ∧ bit (t.reg .slk 0x7C) 13 = true ∧ fld (t.reg .slk 0x7C) 15 3 = y.prof ∧ bit (t.reg .slk 0x7C) 18 =
    y.fallback ∧ bit (t.reg .slk 0x7C) 19 = stale ∧ fld (t.reg .slk 0x7C) 0 13 = 0 ∧ t.regF .bwCtl 0x20 0 1 = 1 ∧ t.regF .tqs
    0x20 0 1 = 1 ∧ (∀ x ∈ hits, (tabGet? t.tqf.pool x.1).any (fun e => e.lost) = true) ∧ SameTabBut (hits.map Prod.fst)
    s.tqf.pool t.tqf.pool ∧ (t.reg .tqs 0x54).toNat = min ((s.reg .tqs 0x54).toNat + hits.length) (2 ^ 32 - 1) ∧ t.box.waiting
    = s.box.waiting.filter (fun x => x.slack || decide (x.inst < y.p) || !holdUpPort x.port) ∧ t.box.due = s.box.due) ∧
    (y.begun = true ∨ s.now < y.p → Ends .preemption s fun t => t = s)

/-- SLACK_ENTRY_DELIVERY: an entry goes to its port at I − H, scaled unless FIXED; a T1S channel without a descriptor performs none (R428, R429). -/
def slackEntryDeliveryDoes : Prop := ∀ (i : Nat) (y : Play) (port : Nat) (s : State),
  let e := s.planEntry y.copy y.prof i
  let x := y.z + e.offset y.scale (s.vRef y.copy y.prof)
  let pe : PortEntry := ⟨i, 0, port, e.chan, x, e.payload, true, true, true, false⟩
  let sent := fun (t : State) => t.bw = { s.bw with play := some { y with handed := y.handed ++ [i] } } ∧ t.regF .slk 0x7C 0 13
    = min (s.regF .slk 0x7C 0 13 + 1) 8191
  s.bw.play = some y →
  e.port = some port →
  y.begun = true →
  i < s.nent y.copy y.prof →
  y.handed.contains i = false →
  (s.now + s.handoffLead port < x → Ends (.slackEntryDelivery i) s fun t => t = s) ∧ (x ≤ s.now + s.handoffLead port → port <
    448 → Ends (.slackEntryDelivery i) s fun t => sent t ∧ t.box = { s.box with due := s.box.due ++ [pe] } ∧ SameRegsBut
    [Page.base .slk + 0x7C] s t ∧ t = { s with bw := t.bw, box := t.box, regs := t.regs }) ∧ (x ≤ s.now + s.handoffLead port →
    448 ≤ port → s.chanValid port e.chan = true → Ends (.slackEntryDelivery i) s fun t => sent t ∧ t.box =
    { s.box with waiting := s.box.waiting ++ [pe] } ∧ SameRegsBut [Page.base .slk + 0x7C] s t ∧ t =
    { s with bw := t.bw, box := t.box, regs := t.regs }) ∧ (x ≤ s.now + s.handoffLead port → 448 ≤ port → s.chanValid port
    e.chan = false → Ends (.slackEntryDelivery i) s fun t => sent t ∧ t.box = s.box)

/-- SLACK_DONE: DONE at the last entry's instant (R429). -/
def slackDoneDoes : Prop := ∀ (y : Play) (s : State),
  let n := s.nent y.copy y.prof
  let ends := y.begun && !bit (s.reg .slk 0x7C) 14 && decide (y.handed.length = n) && (List.range n).all (fun i => decide
    (s.slackInstant y i ≤ s.now)) && decide (y.z ≤ s.now)
  s.bw.play = some y →
  (ends = true → Ends .slackDone s fun t => t.bwState = 2 ∧ bit (t.reg .slk 0x7C) 13 = false ∧ bit (t.reg .slk 0x7C) 14 = true
    ∧ t.regF .bwCtl 0x20 1 1 = 1 ∧ SameRegsBut [Page.base .slk + 0x7C, Page.base .bwCtl + 0x40, Page.base .bwCtl + 0x20] s t ∧
    t = { s with box := { s.box with waiting := t.box.waiting }, regs := t.regs, fab := t.fab }) ∧ (ends = false → Ends
    .slackDone s fun t => t = s)

/-- MONITOR_EXCURSION of a rail: outside its window its source is raised and its bit reads 1; above 60 V the part is damaged (R416, R435, R519). -/
def monitorExcursionDoes : Prop := ∀ (k : Nat) (bank : Nat) (v33 : Bool) (mV : Int) (s : State),
  let out := s.railOut k v33 mV
  let src := if k = 8 ∧ mV < 4300 then 0x35 else railSource k
  let unit := if k = 4 then Page.base (.tio bank) else 0
  k < 10 →
  s.bwRuns = true →
  (k = 8 → 60000 < mV → exec (.monitorExcursion (.rail k bank v33 mV)) s = .fault .absoluteMaximum) ∧ (k ≠ 8 ∨ mV ≤ 60000 → out
    = true → Ends (.monitorExcursion (.rail k bank v33 mV)) s fun t => bit (t.reg .bwMon 0x4C) k = true ∧ (src, unit) ∈
    t.raised ∧ src ∈ t.bw.present ∧ (bit (s.reg .bwMon 0x4C) k = false → t.regF .bwMon 0x20 0 1 = 1) ∧ SameRegsBut [Page.base
    .bwMon + 0x4C, Page.base .bwMon + 0x20] s t ∧ t =
    { s with bw := { s.bw with present := t.bw.present }, raised := t.raised, regs := t.regs, fab := t.fab }) ∧ (k ≠ 8 ∨ mV ≤
    60000 → out = false → Ends (.monitorExcursion (.rail k bank v33 mV)) s fun t => bit (t.reg .bwMon 0x4C) k = false ∧ src ∉
    t.bw.present ∧ (k = 8 → 0x35 ∉ t.bw.present) ∧ t.raised = s.raised ∧ SameRegsBut [Page.base .bwMon + 0x4C] s t ∧ t =
    { s with bw := { s.bw with present := t.bw.present }, regs := t.regs, fab := t.fab })

/-- MONITOR_EXCURSION of a clock: beyond 5 % of nominal, or stopped, its source is raised (R416, R435). -/
def clockExcursion : Prop := ∀ (src : Nat) (quad : Nat) (ppm : Option Int) (s : State),
  let out := match ppm with | some d => decide (d < -50000 ∨ 50000 < d) | none => true
  let unit := if src = 0x29 then Page.base (if quad < 6 then .ghIn quad else .ghOut 0) else 0
  0x27 ≤ src →
  src ≤ 0x2D →
  s.bwRuns = true →
  Ends (.monitorExcursion (.clock src quad ppm)) s fun t => bit (t.reg .bwMon 0x50) (src - 0x27) = out ∧ (out = true → (src,
    unit) ∈ t.raised ∧ src ∈ t.bw.present) ∧ (out = false → src ∉ t.bw.present ∧ t.raised = s.raised) ∧ SameRegsBut [Page.base
    .bwMon + 0x50, Page.base .bwMon + 0x20] s t ∧ t =
    { s with bw := { s.bw with present := t.bw.present }, raised := t.raised, regs := t.regs, fab := t.fab }

/-- MONITOR_EXCURSION of a temperature: it is shown, and above TEMP_WARN or TEMP_CRIT its source is raised (R416, R435). -/
def temperatureExcursion : Prop := ∀ (i : Nat) (x : Int) (s : State),
  let warn := sgn 8 (fld (s.reg .bwMon 0x44) 0 8)
  let crit := sgn 8 (fld (s.reg .bwMon 0x44) 8 8)
  let at_ := fun (t : State) (j : Nat) => sgn 8 (t.regF .bwMon (0x800 + 4 * j) 0 8)
  i < 10 →
  -128 ≤ x →
  x < 128 →
  s.bwRuns = true →
  Ends (.monitorExcursion (.temp i x)) s fun t => at_ t i = x ∧ ((∃ j, j < 10 ∧ warn < at_ t j) → (0x38, 0) ∈ t.raised) ∧ ((∃
    j, j < 10 ∧ crit < at_ t j) → (0x39, 0) ∈ t.raised) ∧ ((∀ j, j < 10 → at_ t j ≤ warn) → 0x38 ∉ t.bw.present) ∧ ((∀ j, j <
    10 → at_ t j ≤ crit) → 0x39 ∉ t.bw.present) ∧ SameRegsBut [Page.base .bwMon + (0x800 + 4 * i), Page.base .bwMon + 0x20] s t
    ∧ t = { s with bw := { s.bw with present := t.bw.present }, raised := t.raised, regs := t.regs, fab := t.fab }

/-- MEMORY_SCRUB: a correctable error is counted toward CE_RATE and reported, an uncorrectable one raises the memory's source (R413, R420). -/
def memoryScrubDoes : Prop := ∀ (k : MemKind) (s : State),
  let id := (memFacts k).1
  let ce := (memFacts k).2.1
  let ue := (memFacts k).2.2.1
  let unit := (memFacts k).2.2.2
  let who := match k with | .tcm c => c | _ => unit
  let sec := s.now / 8000000000
  let old := tabGet (sec, 0) s.bw.ce id
  let n := if old.1 = sec then old.2 + 1 else 1
  let MF := fun (t : State) => t = { s with bw := { s.bw with ce := t.bw.ce }, raised := t.raised }
  (Ends (.memoryScrub k .clean) s fun t => t = s) ∧ (Ends (.memoryScrub k .uncorrectable) s fun t => (ue, who) ∈ t.raised ∧ t =
    { s with raised := t.raised }) ∧ Ends (.memoryScrub k .corrected) s fun t => (ce.all fun x => t.raised.contains (x, 0)) =
    true ∧ tabGet? t.bw.ce id = some (sec, n) ∧ SameTab id s.bw.ce t.bw.ce ∧ (n = s.regF .bwMon 0x40 0 16 + 1 → (0x0C, unit) ∈
    t.raised) ∧ MF t

/-- BREAKWATER_SELF_TEST: a failure raises BW_SELF (R420). -/
def breakwaterSelfTestDoes : Prop := ∀ (s : State),
  (Ends (.breakwaterSelfTest true) s fun t => t = s) ∧ Ends (.breakwaterSelfTest false) s fun t => (0x24, 0) ∈ t.raised ∧ t =
    { s with raised := t.raised }

/-- FUSE_SHADOW_CHECK: a failure clears CRC_OK and raises FUSE_CRC (R420, R498). -/
def fuseShadowCheckDoes : Prop := ∀ (s : State),
  (Ends (.fuseShadowCheck true) s fun t => t.regF .fuse 0x48 0 1 = 1 ∧ SameRegsBut [Page.base .fuse + 0x48] s t ∧ t =
    { s with regs := t.regs }) ∧ Ends (.fuseShadowCheck false) s fun t => t.regF .fuse 0x48 0 1 = 0 ∧ (0x3E, 0) ∈ t.raised ∧
    SameRegsBut [Page.base .fuse + 0x48] s t ∧ t = { s with regs := t.regs, raised := t.raised }

/-! ### The fault collector -/

/-- REC_CLR: the record reads 0 (R432). -/
def recClrDoes : Prop := ∀ (m : Master) (s : State),
  s.accepts (put32 m .bwCtl 0x68 1) →
  Ends (.recClr m) s fun t => t.reg .bwCtl 0x58 = 0 ∧ t.reg64 .bwCtl 0x5C = 0 ∧ t.reg .bwCtl 0x64 = 0 ∧ SameRegsBut [(Page.base
    .bwCtl) + 0x58, (Page.base .bwCtl) + 0x5C, (Page.base .bwCtl) + 0x60, (Page.base .bwCtl) + 0x64] s t ∧ Written m (Page.base
    .bwCtl) s t ∧ t = { s with regs := t.regs, fab := t.fab }

/-- ISO_REL: every unit isolated under the source is released, while the source is gone (R432). -/
def isoRelDoes : Prop := ∀ (m : Master) (src : Nat) (s : State),
  let off := if src < 32 then 0x70 else 0x74
  src < 64 →
  s.accepts (put32 m .bwCtl 0x78 src) →
  s.bw.present.contains src = false ∧ Ends (.isoRel m src) s fun t => t.bw =
    { s.bw with iso := s.bw.iso.filter fun x => x.1 ≠ src } ∧ bit (t.reg .bwCtl off) (src % 32) = false ∧ (∀ k, k < 32 → k ≠
    src % 32 → bit (t.reg .bwCtl off) k = bit (s.reg .bwCtl off) k) ∧ SameRegsBut [Page.base .bwCtl + off] s t ∧ Written m
    (Page.base .bwCtl) s t ∧ t = { s with bw := t.bw, regs := t.regs, fab := t.fab }

/-- FC_CLR: FC_FIRST and the counts read 0 (R433). -/
def fcClrDoes : Prop := ∀ (m : Master) (s : State),
  s.accepts (put32 m .bwFc 0x54 1) →
  Ends (.fcClr m) s fun t => t.reg .bwFc 0x48 = 0 ∧ t.reg64 .bwFc 0x4C = 0 ∧ (∀ k, k < 64 → t.reg .bwFc (0x800 + 4 * k) = 0) ∧
    SameRegsBut ([Page.base .bwFc + 0x48, Page.base .bwFc + 0x4C, Page.base .bwFc + 0x50] ++ (List.range 64).map fun k =>
    Page.base .bwFc + (0x800 + 4 * k)) s t ∧ Written m (Page.base .bwFc) s t ∧ t = { s with regs := t.regs, fab := t.fab }

/-- FC_INJECT: the source is raised (R433). -/
def fcInjectDoes : Prop := ∀ (m : Master) (src : Nat) (s : State),
  s.accepts (put32 m .bwFc 0x58 src) →
  Ends (.fcInject m src) s fun t => (src % 64, 0) ∈ t.raised ∧ (∀ x ∈ t.raised, x ∈ s.raised ∨ x = (src % 64, 0)) ∧ SameRegsBut
    [] s t ∧ Written m (Page.base .bwFc) s t ∧ t = { s with regs := t.regs, fab := t.fab, raised := t.raised }

/-- FC_FIRST_READ: t_f of the first source, its high word latched (R53, R433). -/
def fcFirstReadDoes : Prop := ∀ (m : Master) (wide : Bool) (s : State),
  s.serves (readOf m .bwFc (0x4C) wide) →
  Ends (.fcFirstRead m wide) s fun t => ReadBy m (if wide then (s.reg .bwFc 0x4C).toNat + 2 ^ 32 * (s.reg .bwFc 0x50).toNat
    else (s.reg .bwFc 0x4C).toNat) s t ∧ (wide = false → Latched t m ((Page.base .bwFc)) ((Page.base .bwFc) + (0x4C) + 4)
    (s.reg .bwFc 0x50)) ∧ t = { s with fab := t.fab }

/-- FAULT_LATCH of one source: it is latched and counted, the first names t_f, and the class of its map entry is carried out (R415, R417, R418). -/
def faultLatchDoes : Prop := ∀ (src : Nat) (unit : Nat) (s : State),
  let cls := s.reactClass false src unit
  let tf := s.now / 40 * 40
  let off := if src < 32 then 0x40 else 0x44
  let latched := fun (t : State) => t.raised = [] ∧ bit (t.reg .bwFc off) (src % 32) = true ∧ t.regF .bwFc (0x800 + 4 * src) 0
    16 = min (s.regF .bwFc (0x800 + 4 * src) 0 16 + 1) 65535 ∧ (bit (s.reg .bwFc 0x48) 6 = false → t.reg .bwFc 0x48 =
    BitVec.ofNat 32 (src + 64) ∧ t.reg64 .bwFc 0x4C = tf % 2 ^ 64) ∧ (bit (s.reg .bwFc 0x48) 6 = true → t.reg .bwFc 0x48 =
    s.reg .bwFc 0x48 ∧ t.reg64 .bwFc 0x4C = s.reg64 .bwFc 0x4C) ∧ t.regF .bwFc 0x20 0 1 = 1
  let record := fun (t : State) (k : Nat) => fld (t.reg .bwCtl 0x58) 0 6 = src ∧ fld (t.reg .bwCtl 0x58) 6 3 = k ∧ bit (t.reg
    .bwCtl 0x58) 9 = true ∧ t.reg64 .bwCtl 0x5C = tf % 2 ^ 64
  let collected := [Page.base .bwFc + off, Page.base .bwFc + (0x800 + 4 * src), Page.base .bwFc + 0x48, Page.base .bwFc + 0x4C,
    Page.base .bwFc + 0x50, Page.base .bwFc + 0x20]
  let quiet := fun (t : State) (l : List Nat) => SameRegsBut (collected ++ l) s t ∧ t =
    { s with raised := [], bw := t.bw, regs := t.regs, fab := t.fab } ∧ t.bw = { s.bw with lossLatched := false }
  s.bwRuns = true →
  s.raised = [] →
  src < 64 →
  neverRaised s.fuses src = false →
  s.supply.loss = none →
  s.bw.dev = none →
  s.now < 2 ^ 64 →
  (cls = 0 → Ends (.faultLatch [(src, unit)]) s fun t => latched t ∧ t.regF .bwCtl 0x20 3 1 = 1 ∧ quiet t [Page.base .bwCtl +
    0x20]) ∧ (cls = 1 ∨ cls = 2 ∨ (cls = 4 ∧ (s.lsForm ≠ 0 ∨ src ≠ 9)) ∨ (cls = 5 ∧ (s.bwState = 1 ∨ s.bwState = 2)) → Ends
    (.faultLatch [(src, unit)]) s fun t => latched t ∧ quiet t []) ∧ (cls = 3 → Ends (.faultLatch [(src, unit)]) s fun t =>
    latched t ∧ (∀ p ∈ unitPages src unit, p.present s.fuses = true → t.isFenced p = true) ∧ (∀ x ∈ s.bw.iso, x ∈ t.bw.iso) ∧
    bit (t.reg .bwCtl (if src < 32 then 0x70 else 0x74)) (src % 32) = true ∧ t.regF .bwCtl 0x20 2 1 = 1 ∧ t.tqf = s.tqf) ∧ (cls
    = 4 → s.lsForm = 0 → src = 9 → Ends (.faultLatch [(src, unit)]) s fun t => latched t ∧ t.lsForm = 2 ∧ t.bw.ls.out = some
    (unit % 3, .copy)) ∧ (6 ≤ cls → Ends (.faultLatch [(src, unit)]) s fun t => latched t ∧ record t cls ∧ t.bw.defaults = true
    ∧ t.bw.play = none ∧ t.bw.dev = some (tf, cls, src) ∧ t.regF .bwCtl 0x6C 16 16 = min (s.regF .bwCtl 0x6C 16 16 + 1) 65535 ∧
    t.box.waiting = s.box.waiting.filter (fun e => !holdUpPort e.port) ∧ (cls = 7 → t.bwState = 3 ∧ t.regF .lee 0x50 0 1 = 1))

/-- FAULT_LATCH of a SLACK source: the profile and P are fixed; without a fit profile the fallback plays, and without a plan the reaction is DEVICE (R429). -/
def slackStopBegins : Prop := ∀ (src : Nat) (unit : Nat) (prof : Nat) (s : State),
  let tf := s.now / 40 * 40
  let p := (tf + 8000 + 7999) / 8000 * 8000
  let c := s.planActive
  let bad := fun (k : Nat) => bit (s.reg .slk 0x4C) (5 + k)
  let fb := s.regF .slk 0x60 0 3
  let want := if src = 0x26 then s.regF .bwCtl 0x44 1 4 else fld (s.mapOf src) 6 4
  let unfit := decide (s.validUntil ≤ tf) || bad prof || decide (s.nent c prof = 0)
  let plays := fun (t : State) (k : Nat) => t.bwState = 1 ∧ t.bw.play = some ⟨p, false, c, k, unfit, p + s.zLead c k, 0, [],
    true⟩ ∧ t.reg64 .bwCtl 0x4C = p % 2 ^ 64 ∧ t.regF .bwCtl 0x6C 0 16 = min (s.regF .bwCtl 0x6C 0 16 + 1) 65535 ∧ fld (t.reg
    .bwCtl 0x58) 0 6 = src ∧ fld (t.reg .bwCtl 0x58) 6 3 = 5 ∧ t.reg64 .bwCtl 0x5C = tf % 2 ^ 64 ∧ t.box = s.box ∧ t.tqf =
    s.tqf
  s.bwRuns = true →
  s.raised = [] →
  src < 64 →
  neverRaised s.fuses src = false →
  s.supply.loss = none →
  s.bw.dev = none →
  s.bwState = 0 →
  s.reactClass false src unit = 5 →
  prof = (if want = 8 then s.regF .slk 0x4C 17 3 else want) →
  (s.planCommitted = true → unfit = false → Ends (.faultLatch [(src, unit)]) s fun t => plays t prof) ∧ (s.planCommitted = true
    → unfit = true → bad fb = false → Ends (.faultLatch [(src, unit)]) s fun t => plays t fb) ∧ (s.planCommitted = false ∨
    (unfit = true ∧ bad fb = true) → Ends (.faultLatch [(src, unit)]) s fun t => t.bw.dev = some (tf, 6, src) ∧ t.bw.defaults =
    true ∧ fld (t.reg .bwCtl 0x58) 6 3 = 6)

/-- FAULT_LATCH of several sources: every one is latched and counted, FC_FIRST names the lowest, and the most severe class is carried out (R418). -/
def faultsTogether : Prop := ∀ (hits : List (Nat × Nat)) (src : Nat) (unit : Nat) (s : State),
  let cls := fun (x : Nat × Nat) => s.reactClass false x.1 x.2
  s.bwRuns = true →
  s.raised = [] →
  (∀ x ∈ hits, x.1 < 64 ∧ neverRaised s.fuses x.1 = false) →
  hits ≠ [] →
  s.supply.loss = none →
  s.bw.dev = none →
  lowestSource hits = some (src, unit) →
  Ends (.faultLatch hits) s fun t => (∀ x ∈ hits, bit (t.reg .bwFc (if x.1 < 32 then 0x40 else 0x44)) (x.1 % 32) = true ∧
    t.regF .bwFc (0x800 + 4 * x.1) 0 16 = min (s.regF .bwFc (0x800 + 4 * x.1) 0 16 + 1) 65535) ∧ (∀ x ∈ hits, src ≤ x.1) ∧ (bit
    (s.reg .bwFc 0x48) 6 = false → t.reg .bwFc 0x48 = BitVec.ofNat 32 (src + 64)) ∧ t.raised = [] ∧ ((∃ x ∈ hits, 6 ≤ cls x) →
    t.bw.defaults = true ∧ (t.bw.dev.any fun d => hits.all fun x => decide (cls x ≤ d.2.1)) = true) ∧ ((∀ x ∈ hits, cls x < 5)
    → t.bw.dev = none ∧ t.bw.play = s.bw.play ∧ t.box = s.box)

/-! ### Power domains, power states, DORMANT and its wakes -/

/-- DOMAIN_STARTED: the domain is on, its Swell engines as reset leaves them (R345, R469). -/
def domainStartedDoes : Prop := ∀ (d : Nat) (s : State),
  (s.domain d = .starting → Ends (.domainStarted d) s fun t => t.domain d = .on ∧ SameTab d s.domains t.domains ∧ (20 ≤ d → d ≤
    23 → ∀ e, 4 * (d - 20) ≤ e → e < 4 * (d - 19) → t.sw e = swellFresh) ∧ (∀ e, e < 16 → e / 4 + 20 ≠ d → t.sw e = s.sw e) ∧ t
    = { s with domains := t.domains, swell := t.swell }) ∧ (s.domain d ≠ .starting → Ends (.domainStarted d) s fun t => t = s)

/-- DOMAIN_POWERED_DOWN: the domain loses its contents, and starts again if a request came meanwhile (R470). -/
def domainPoweredDownDoes : Prop := ∀ (d : Nat) (a : Bool) (s : State),
  d < 100 →
  (s.domain d = .stopping a → Ends (.domainPoweredDown d) s fun t => t.domain d = (if a then .starting else .off) ∧ SameTab d
    s.domains t.domains ∧ DomainLost s t d) ∧ (s.domain d = .on ∨ s.domain d = .off ∨ s.domain d = .starting ∨ s.domain d =
    .keptOff → Ends (.domainPoweredDown d) s fun t => t = s)

/-- POWER_STATE_CHANGE_DONE: the module is in SPRING or NEAP, as the requests ask (R471). -/
def powerStateChangeDoneDoes : Prop := ∀ (up : Bool) (s : State),
  (s.power = .changing up → Ends .powerStateChangeDone s fun t => t.power = (if up then (if s.springWanted then .spring else
    .changing false) else if s.springWanted then .changing true else .neap) ∧ t.regF .pwr 0x20 0 1 = 1 ∧ t.sv =
    { s.sv with cycles := s.svCycles, cycleAt := s.now } ∧ SameRegsBut [Page.base .pwr + 0x20] s t ∧ SameTabBut [17, 18, 19]
    s.domains t.domains ∧ t = { s with power := t.power, sv := t.sv, domains := t.domains, regs := t.regs, fab := t.fab }) ∧
    (s.power = .spring ∨ s.power = .neap → Ends .powerStateChangeDone s fun t => t = s)

/-- PWR_CTRL: a System SRAM bank starts or stops as SRAM_EN says (R469, R494). -/
def sramEnableWriteDoes : Prop := ∀ (m : Master) (v : Nat) (s : State),
  s.accepts (put32 m .pwr 0x40 v) →
  Ends (.sramEnableWrite m v) s fun t => t.reg .pwr 0x40 = BitVec.ofNat 32 v &&& 0xF ∧ (∀ k, 1 ≤ k → k ≤ 3 → (v.testBit k =
    true → (s.domain (16 + k) = .off → t.domain (16 + k) = .starting) ∧ (s.domain (16 + k) = .on → t.domain (16 + k) = .on) ∧
    (∀ a, s.domain (16 + k) = .stopping a → t.domain (16 + k) = .stopping true)) ∧ (v.testBit k = false → s.domain (16 + k) =
    .on ∨ s.domain (16 + k) = .starting → t.domain (16 + k) = .stopping false)) ∧ SameTabBut [17, 18, 19] s.domains t.domains ∧
    SameRegsBut [Page.base .pwr + 0x40] s t ∧ Written m (Page.base .pwr) s t ∧ t =
    { s with domains := t.domains, power := t.power, regs := t.regs, fab := t.fab }

/-- DORMANT_GO: accepted at rest in NEAP with a wake source enabled, it begins the entry (R472, R473). -/
def dormantGoDoes : Prop := ∀ (m : Master) (s : State),
  s.accepts (put32 m .pwr 0x44 1) →
  s.power = .neap ∧ s.bwState = 0 ∧ s.poolFree = 262144 ∧ (s.regF .slk 0x64 0 16 = 0 ∨ s.reg .slk 0x74 = 0) ∧ s.reg .lee 0x40 ≠
    0 ∧ Ends (.dormantGo m) s fun t => t.dormant = .entering s.now s.tm.w0.count s.tm.w1.count ∧ t.reg .pwr 0x44 = 0 ∧
    SameRegsBut [Page.base .pwr + 0x44] s t ∧ Written m (Page.base .pwr) s t ∧ t =
    { s with dormant := t.dormant, regs := t.regs, fab := t.fab }

/-- DORMANT_ENTERED: levels are retained, Lee keeps the instant and the watchdogs, everything but Lee and Tidemark is lost and time stops (R473). -/
def dormantEnteredDoes : Prop := ∀ (a : Nat) (c0 : Int) (c1 : Int) (s : State),
  let held := (List.range 9).filterMap fun w => if s.wdtRun w then some (w, s.wdtCount w) else none
  s.dormant = .entering a c0 c1 →
  Ends .dormantEntered s fun t => t.dormant = .asleep s.now held c0 c1 ∧ t.timeRuns = false ∧ t.boot.retained = (List.range
    32).map s.ball ∧ t.mem = s.flash ∧ t.tags = [] ∧ t.wdt = s.wdt ∧ (∀ w, w < 8 → t.reg (.wdt w) 0x40 = s.reg (.wdt w) 0x40 ∧
    t.reg (.wdt w) 0x44 = s.reg (.wdt w) 0x44 ∧ t.reg (.wdt w) 0x50 = s.reg (.wdt w) 0x50) ∧ (∀ x, x < 0x1000 → 0x40 ≤ x →
    t.reg .lee x = s.reg .lee x) ∧ t.fuses = s.fuses ∧ t.tm.w0 = s.tm.w0 ∧ t.tm.nv = s.tm.nv ∧ t.tqf.pool = []

/-- WAKE_TIMER_EXPIRY: WAKE_TIME after D the module starts up with cause DORMANT_WAKE and this source (R474, R491, R495). -/
def wakeTimerExpiryDoes : Prop := ∀ (f : StartFacts) (s : State),
  let entering := match s.dormant with | .entering _ _ _ => true | _ => false
  let u : State := (((({ s with dormant := .awake }.setRegF .pwr 0x48 4 2 1).setReg .lee 0x48 1).setReg .lee 0x4C (BitVec.ofNat
    32 (min (s.reg .lee 0x44).toNat (2 ^ 32 - 1)))).setReg .sys 0x70 5)
  (s.isAsleep = true → bit (s.reg .lee 0x40) 0 = true → Ends (.wakeTimerExpiry f) s fun t => t = u.startUp f s.fuses.wakeBist)
    ∧ (entering = true → Ends (.wakeTimerExpiry f) s fun t => t = s) ∧ (bit (s.reg .lee 0x40) 0 = false ∨ s.dormant = .awake →
    Ends (.wakeTimerExpiry f) s fun t => t = s)

/-- WAKE_PIN: asleep, the module starts up with cause DORMANT_WAKE and this source; before D the entry is aborted (R473, R474, R491). -/
def wakePinDoes : Prop := ∀ (periods : Nat) (f : StartFacts) (s : State),
  let entering := match s.dormant with | .entering _ _ _ => true | _ => false
  let u : State := (((({ s with dormant := .awake }.setRegF .pwr 0x48 4 2 1).setReg .lee 0x48 4).setReg .lee 0x4C (BitVec.ofNat
    32 (min periods (2 ^ 32 - 1)))).setReg .sys 0x70 5)
  (s.isAsleep = true → bit (s.reg .lee 0x40) 2 = true → Ends (.wakePin periods f) s fun t => t = u.startUp f s.fuses.wakeBist)
    ∧ (entering = true → bit (s.reg .lee 0x40) 2 = true → Ends (.wakePin periods f) s fun t => t.dormant = .awake ∧ t.regF .pwr
    0x48 4 2 = 2 ∧ SameRegsBut [Page.base .pwr + 0x48] s t ∧ t = { s with dormant := .awake, regs := t.regs }) ∧ (bit (s.reg
    .lee 0x40) 2 = false ∨ s.dormant = .awake → Ends (.wakePin periods f) s fun t => t = s)

/-- HOST_WAKE: asleep, the module starts up with cause DORMANT_WAKE and this source; before D the entry is aborted (R473, R474, R491). -/
def hostWakeDoes : Prop := ∀ (periods : Nat) (f : StartFacts) (s : State),
  let entering := match s.dormant with | .entering _ _ _ => true | _ => false
  let u : State := (((({ s with dormant := .awake }.setRegF .pwr 0x48 4 2 1).setReg .lee 0x48 8).setReg .lee 0x4C (BitVec.ofNat
    32 (min periods (2 ^ 32 - 1)))).setReg .sys 0x70 5)
  (s.isAsleep = true → bit (s.reg .lee 0x40) 3 = true → Ends (.hostWake periods f) s fun t => t = u.startUp f s.fuses.wakeBist)
    ∧ (entering = true → bit (s.reg .lee 0x40) 3 = true → Ends (.hostWake periods f) s fun t => t.dormant = .awake ∧ t.regF
    .pwr 0x48 4 2 = 2 ∧ SameRegsBut [Page.base .pwr + 0x48] s t ∧ t = { s with dormant := .awake, regs := t.regs }) ∧ (bit
    (s.reg .lee 0x40) 3 = false ∨ s.dormant = .awake → Ends (.hostWake periods f) s fun t => t = s)

/-- LEGAL_ENCODER_EDGE: one quadrature edge counts one, two at once none; in DORMANT the fourth count from D wakes the module (R266, R271, R474). -/
def legalEncoderEdgeDoes : Prop := ∀ (a : Bool) (b : Bool) (p : Nat) (f : StartFacts) (d : Nat) (h : List (Nat × Nat)) (s : State),
  let x := s.tm.w0
  let ph := fun (a b : Bool) => if a then (if b then 2 else 1) else if b then (3 : Int) else 0
  let up := decide ((ph a b - ph x.a x.b) % 4 = 1) != s.tm.option 0
  let v := s.legalEdge 0 a b s.fieldNow
  let u : State := (((({ v with dormant := .awake }.setRegF .pwr 0x48 4 2 1).setReg .lee 0x48 2).setReg .lee 0x4C (BitVec.ofNat
    32 (min p (2 ^ 32 - 1)))).setReg .sys 0x70 5)
  let slept := decide (s.dormant = .asleep d h (x.count - (if up then 3 else -3)) s.tm.w1.count)
  let near := fun (o : Option Nat) => o.any fun j => decide (s.fieldNow < j + 160)
  s.fuses.tidemark = true →
  s.tm.run = true →
  s.tm.stopped = false →
  -2 ^ 63 < x.count →
  x.count < 2 ^ 63 - 1 →
  (x.lastA.getD 0 ≤ s.fieldNow ∧ x.lastB.getD 0 ≤ s.fieldNow) →
  (a = x.a → b = x.b → s.dormant = .awake → Ends (.legalEncoderEdge 0 a b p f) s fun t => t = s) ∧ (a ≠ x.a → b ≠ x.b →
    s.dormant = .awake → Ends (.legalEncoderEdge 0 a b p f) s fun t => t.tm.w0.count = x.count ∧ t.tm.w0.a = a ∧ t.tm.w0.b = b)
    ∧ (((a ≠ x.a ∧ b = x.b ∧ near x.lastB = false) ∨ (a = x.a ∧ b ≠ x.b ∧ near x.lastA = false)) → s.dormant = .awake → Ends
    (.legalEncoderEdge 0 a b p f) s fun t => t.tm.w0.count = x.count + (if up then 1 else -1) ∧ t.tm.w0.a = a ∧ t.tm.w0.b = b ∧
    t.tm.lastCount = s.fieldNow ∧ t.tm.rested = false ∧ t.tm.w1 = s.tm.w1 ∧ t = { s with tm := t.tm }) ∧ (a ≠ x.a → b = x.b →
    near x.lastB = false → slept = true → bit (s.reg .lee 0x40) 1 = true → Ends (.legalEncoderEdge 0 a b p f) s fun t => t =
    u.startUp f s.fuses.wakeBist ∧ u.tm.w0.count = x.count + (if up then 1 else -1) ∧ u.mem = s.mem)

/-! ### Resets, rails, supplies and brown-outs -/

/-- POWER_ON: everything but non-volatile memory starts anew, the timebase at 0, with cause POWER_ON (R476, R491). -/
def powerOnDoes : Prop := ∀ (f : StartFacts) (s : State),
  let u : State := ({ s.fullReset 0 s.flash with regs := [], supply := ⟨true, none, false, false, true, 0, 0, false⟩ }).setReg
    .sys 0x70 1
  (s.supply.off = true ∨ s.boot.running = false → BothFresh s u 0 ∧ u.regs = tabSet (resetWord u.fuses (Page.base .sys + 0x70))
    [] (Page.base .sys + 0x70) 1 ∧ Ends (.powerOn f) s fun t => t = u.startUp f true) ∧ (s.supply.off = false → s.boot.running
    = true → Ends (.powerOn f) s fun t => t = s)

/-- DEVICE_RESET: 2 µs after t_f both dies are reset with cause DEVICE or HOLD, the Lee record kept (R417, R491). -/
def deviceResetDoes : Prop := ∀ (f : StartFacts) (tf : Nat) (cls : Nat) (src : Nat) (s : State),
  let v := if cls = 7 then s.setRegF .lee 0x50 0 1 1 else s
  let u := (v.fullReset 0 v.flash).resetCause (if cls = 7 then 3 else 2) src
  s.bw.dev = some (tf, cls, src) →
  src < 64 →
  (tf + 16000 ≤ s.now → BothFresh s u 0 ∧ CauseSet s u (if cls = 7 then 3 else 2) src false true ∧ LeeKept [Page.base .lee +
    0x50] s u ∧ (cls = 7 → u.holdLatch = true) ∧ Ends (.deviceReset f) s fun t => t = u.startUp f true) ∧ (s.now < tf + 16000 →
    Ends (.deviceReset f) s fun t => t = s)

/-- APPLICATION_RESET: at P + 24 µs the compute die is reset, the field die, memory and time go on; in a supply loss the rails go down (R107, R429, R491, R510). -/
def applicationResetDoes : Prop := ∀ (f : StartFacts) (y : Play) (s : State),
  let u := (s.appReset (y.p + 192000)).resetCause 4 (s.regF .bwCtl 0x58 0 6)
  s.bw.play = some y →
  (y.resetDue = true → y.p + 192000 ≤ s.now → ComputeFresh s u ∧ FieldStands s u ∧ u.bw.iso = [] ∧ u.bw.ls = (bwFresh s.now).ls
    ∧ SameMemoryBut 0x30000000 0x38000000 s u ∧ u.box.waiting = s.box.waiting.filter (fun e => e.port < 496) ∧ u.now = s.now ∧
    u.pins = s.pins ∧ CauseSet s u 4 (s.regF .bwCtl 0x58 0 6) true false ∧ (s.supply.loss = none → Ends (.applicationReset f) s
    fun t => t = u.romBoot f.took) ∧ (s.supply.loss.isSome = true → Ends (.applicationReset f) s fun t => t =
    { u with supply := { u.supply with rails := false } })) ∧ (y.resetDue = false ∨ s.now < y.p + 192000 → Ends
    (.applicationReset f) s fun t => t = s)

/-- DEBUG_RESET: where debug is enabled the compute die is reset, the field die goes on (R490, R491). -/
def debugResetDoes : Prop := ∀ (f : StartFacts) (s : State),
  let u := (s.appReset s.now).resetCause 6 0
  (s.fuses.lifeCycle ≠ .field → s.computeRuns = true → ComputeFresh s u ∧ FieldStands s u ∧ u.bw.iso = [] ∧ u.bw.ls = (bwFresh
    s.now).ls ∧ SameMemoryBut 0x30000000 0x38000000 s u ∧ u.box.waiting = s.box.waiting.filter (fun e => e.port < 496) ∧ u.now
    = s.now ∧ u.pins = s.pins ∧ CauseSet s u 6 0 true false ∧ Ends (.debugReset f) s fun t => t = u.romBoot f.took) ∧
    (s.fuses.lifeCycle = .field ∨ s.computeRuns = false → Ends (.debugReset f) s fun t => t = s)

/-- RESET_PIN: both dies are reset with cause DEVICE, the Lee record kept (R491). -/
def resetPinDoes : Prop := ∀ (f : StartFacts) (s : State),
  let u := (s.fullReset 0 s.flash).resetCause 2 0
  (s.supply.off = false → s.supply.railDead = false → BothFresh s u 0 ∧ CauseSet s u 2 0 false true ∧ LeeKept [] s u ∧ Ends
    (.resetPin f) s fun t => t = { u.startUp f true with dormant := .awake }) ∧ (s.supply.off = true ∨ s.supply.railDead = true
    → Ends (.resetPin f) s fun t => t = s)

/-- RAIL_FAILURE: every rail is dropped and both dies reset with cause RAIL_FAIL; a second failure is for good (R475, R491). -/
def railFailureDoes : Prop := ∀ (s : State),
  let runs := s.supply.rails && !s.supply.off && !s.bw.lossLatched && !s.isAsleep
  (runs = true → Ends .railFailure s fun t => BothFresh s t 0 ∧ CauseSet s t 7 0 false true ∧ t.supply =
    { s.supply with rails := false, railFails := s.supply.railFails + 1, railAt := s.now,
                    railDead := decide (2 ≤ s.supply.railFails + 1) }) ∧ (runs = false → Ends .railFailure s fun t => t = s)

/-- RAIL_RETRY: the whole sequence is tried once more (R475). -/
def railRetryDoes : Prop := ∀ (f : StartFacts) (s : State),
  let tries := !s.supply.rails && !s.supply.railDead && !s.supply.off && s.supply.loss.isNone
  (tries = true → Ends (.railRetry f) s fun t => t = { s with now := 0, fieldNow := 0 }.startUp ⟨true, f.rails, f.bist,
    f.bistTime, f.spares, f.took⟩ true) ∧ (tries = false → Ends (.railRetry f) s fun t => t = s)

/-- SUPPLY_LOSS: VHOLD feeds the device, Tidemark goes into HOLDUP and VSUP_FAIL is raised (R293, R508, R510). -/
def supplyLossDoes : Prop := ∀ (s : State),
  (s.supply.off = false → s.supply.loss = none → s.dormant = .awake → Ends .supplyLoss s fun t => t.supply =
    { s.supply with valid := false, loss := some s.now } ∧ (0x35, 0) ∈ t.raised ∧ 0x35 ∈ t.bw.present ∧ (s.fuses.tidemark =
    true → s.tm.run = true → t.tm.holdup = true ∧ t.tm.w0 = s.tm.w0) ∧ (s.fuses.tidemark = false ∨ s.tm.run = false → t.tm =
    s.tm) ∧ t = { s with supply := t.supply, tm := t.tm, raised := t.raised, bw := { s.bw with present := t.bw.present } }) ∧
    (s.supply.off = true ∨ s.supply.loss ≠ none → Ends .supplyLoss s fun t => t = s)

/-- SUPPLY_RETURN: above the brown-out the Slack stop goes on and, once X has passed, the compute die boots; below it the device starts with cause DEVICE and source 0x35 (R512). -/
def supplyReturnDoes : Prop := ∀ (f : StartFacts) (s : State),
  let v : State :=
    { (({ s with supply := { s.supply with valid := true, loss := none, brown := false } }).tmReturn.setPresent 0x35 0 false) with raised := s.raised.filter fun x => x.1 ≠ 0x35 }
  let u := v.setBw { v.bw with lossLatched := false }
  s.supply.off = false →
  s.supply.loss.isSome = true →
  (s.supply.brown = false → s.supply.rails = true → Ends (.supplyReturn f) s fun t => t.supply =
    { s.supply with valid := true, loss := none, brown := false } ∧ 0x35 ∉ t.bw.present ∧ t.bw.lossLatched = false ∧ t.bw.play
    = s.bw.play ∧ t.tm.holdup = false ∧ (s.tm.stopped = false → t.tm.w0 = s.tm.w0 ∧ t.regs = s.regs) ∧ t.mem = s.mem) ∧
    (s.supply.brown = false → s.supply.rails = false → s.isAsleep = false → s.supply.railDead = false → f.rails = true → Ends
    (.supplyReturn f) s fun t => t = { u with supply := { u.supply with rails := true } }.romBoot f.took) ∧ (s.supply.brown =
    true → Ends (.supplyReturn f) s fun t => t =
    { (((u.fullReset 0 u.flash).resetCause 2 0x35).startUp f true) with dormant := .awake })

/-- BREAKWATER_BROWNOUT: Breakwater stops, the hold-up ports are at their defaults and nothing more is delivered to them (R431, R513). -/
def breakwaterBrownoutDoes : Prop := ∀ (s : State),
  let falls := !s.supply.off && s.supply.loss.isSome
  (falls = true → Ends .breakwaterBrownout s fun t => t.supply = { s.supply with brown := true } ∧ t.bw =
    { s.bw with defaults := true, play := none, stopped := true } ∧ (∀ p, p < 32 → t.pin p = pinFresh (idleDrive (tabGet 0
    s.fuses.idle p)) (s.pin p).input) ∧ t.box.waiting = s.box.waiting.filter (fun e => !holdUpPort e.port) ∧ t.box.due =
    s.box.due.filter (fun e => !holdUpPort e.port) ∧ t =
    { s with supply := t.supply, bw := t.bw, pins := t.pins, box := t.box }) ∧ (falls = false → Ends .breakwaterBrownout s fun
    t => t = s)

/-- LEE_BROWNOUT: OFF; only non-volatile memory remains (R34, R508). -/
def leeBrownoutDoes : Prop := ∀ (s : State),
  let falls := !s.supply.off && s.supply.loss.isSome
  (falls = true → Ends .leeBrownout s fun t => t.supply.off = true ∧ t.supply.rails = false ∧ t.timeRuns = false ∧ t.regs = []
    ∧ t.mem = s.flash ∧ t.tqf.pool = [] ∧ t.tm.nv = s.tm.nv ∧ t.tm.run = false ∧ t.boot.running = false) ∧ (falls = false →
    Ends .leeBrownout s fun t => t = s)

/-! ### The host reporting port -/

/-- HRP_READ32: one read through the HRP guard; a frame whose CRC fails makes no access (R482). -/
def hrpRead32Does : Prop := ∀ (tag : Nat) (a : Nat) (r : Reason) (v : Nat) (u : State) (s : State),
  let bad := s.satInc .hrp 0x48
  (s.hrpRuns = true → s.guardFault .host .load a 4 = none → s.accRead ⟨.host, a, 4, 0, true⟩ = (r, v, u) → Ends (.hrpRead32 tag
    a true) s fun t => HrpDone tag r v u t) ∧ (s.hrpRuns = true → Ends (.hrpRead32 tag a false) s fun t => HrpDone tag .e2e 0
    bad t) ∧ (s.hrpRuns = false → Ends (.hrpRead32 tag a true) s fun t => t = s)

/-- HRP_WRITE32: one write as master 0x00, answered with its reason (R482). -/
def hrpWrite32Does : Prop := ∀ (tag : Nat) (a : Nat) (v : Nat) (u : State) (s : State),
  let bad := s.satInc .hrp 0x48
  u = s.busWrite ⟨.host, a, 4, v, true⟩ →
  (s.hrpRuns = true → Ends (.hrpWrite32 tag a v true) s fun t => HrpDone tag (u.lastResp .host).reason 0 u t) ∧ (s.hrpRuns =
    true → Ends (.hrpWrite32 tag a v false) s fun t => HrpDone tag .e2e 0 bad t) ∧ (s.hrpRuns = false → Ends (.hrpWrite32 tag a
    v true) s fun t => t = s)

/-- HRP_READ64: one read through the HRP guard; a frame whose CRC fails makes no access (R482). -/
def hrpRead64Does : Prop := ∀ (tag : Nat) (a : Nat) (r : Reason) (v : Nat) (u : State) (s : State),
  let bad := s.satInc .hrp 0x48
  (s.hrpRuns = true → s.guardFault .host .load a 8 = none → s.accRead ⟨.host, a, 8, 0, true⟩ = (r, v, u) → Ends (.hrpRead64 tag
    a true) s fun t => HrpDone tag r v u t) ∧ (s.hrpRuns = true → Ends (.hrpRead64 tag a false) s fun t => HrpDone tag .e2e 0
    bad t) ∧ (s.hrpRuns = false → Ends (.hrpRead64 tag a true) s fun t => t = s)

/-- HRP_WRITE64: one write as master 0x00, answered with its reason (R482). -/
def hrpWrite64Does : Prop := ∀ (tag : Nat) (a : Nat) (v : Nat) (u : State) (s : State),
  let bad := s.satInc .hrp 0x48
  u = s.busWrite ⟨.host, a, 8, v, true⟩ →
  (s.hrpRuns = true → Ends (.hrpWrite64 tag a v true) s fun t => HrpDone tag (u.lastResp .host).reason 0 u t) ∧ (s.hrpRuns =
    true → Ends (.hrpWrite64 tag a v false) s fun t => HrpDone tag .e2e 0 bad t) ∧ (s.hrpRuns = false → Ends (.hrpWrite64 tag a
    v true) s fun t => t = s)

/-- HRP_RMW32: the word becomes (old AND NOT MASK) OR (VALUE AND MASK), as one write (R482). -/
def hrpRmw32Does : Prop := ∀ (tag : Nat) (a : Nat) (mask : Word) (v : Word) (u : State) (s : State),
  let bad := s.satInc .hrp 0x48
  let old := BitVec.ofNat 32 (s.accRead ⟨.host, a, 4, 0, true⟩).2.1
  u = s.busWrite ⟨.host, a, 4, ((old &&& ~~~mask) ||| (v &&& mask)).toNat, true⟩ →
  (s.hrpRuns = true → Ends (.hrpRmw32 tag a mask.toNat v.toNat true) s fun t => HrpDone tag (u.lastResp .host).reason 0 u t) ∧
    (s.hrpRuns = true → Ends (.hrpRmw32 tag a mask.toNat v.toNat false) s fun t => HrpDone tag .e2e 0 bad t) ∧ (s.hrpRuns =
    false → Ends (.hrpRmw32 tag a mask.toNat v.toNat true) s fun t => t = s)

/-- HRP_BURST_READ: 4 to 256 bytes of one region at once; registers are not reached (R482). -/
def hrpBurstReadDoes : Prop := ∀ (tag : Nat) (a : Nat) (n : Nat) (s : State),
  let bad := s.satInc .hrp 0x48
  (s.hrpRuns = true → (n < 4 ∨ 256 < n ∨ n % 4 ≠ 0) → Ends (.hrpBurstRead tag a n true) s fun t => HrpDone tag .range 0 s t) ∧
    (s.hrpRuns = true → s.guardFault .host .load a n = none → 0x20000000 ≤ a → a + n ≤ 0x20200000 → a % 4 = 0 → 4 ≤ n → n ≤ 256
    → n % 4 = 0 → Ends (.hrpBurstRead tag a n true) s fun t => HrpDone tag .none (ofBytesLE (readBytes s.mem a n)) s t) ∧
    (s.hrpRuns = true → s.guardFault .host .load a n = none → a % 4 = 0 → 4 ≤ n → n ≤ 256 → n % 4 = 0 → 0x40000000 ≤ a → a + n
    ≤ 0x40001000 → Ends (.hrpBurstRead tag a n true) s fun t => HrpDone tag .width 0 s t) ∧ (s.hrpRuns = true → Ends
    (.hrpBurstRead tag a n false) s fun t => HrpDone tag .e2e 0 bad t) ∧ (s.hrpRuns = false → Ends (.hrpBurstRead tag a n true)
    s fun t => t = s)

/-- HRP_BURST_WRITE: 4 to 256 bytes of one region at once; registers are not reached (R482). -/
def hrpBurstWriteDoes : Prop := ∀ (tag : Nat) (a : Nat) (bs : List Nat) (s : State),
  let bad := s.satInc .hrp 0x48
  let n := bs.length
  (s.hrpRuns = true → (n < 4 ∨ 256 < n ∨ n % 4 ≠ 0) → Ends (.hrpBurstWrite tag a bs true) s fun t => HrpDone tag .range 0 s t)
    ∧ (s.hrpRuns = true → s.guardFault .host .store a n = none → 0x20000000 ≤ a → a + n ≤ 0x20200000 → a % 4 = 0 → 4 ≤ n → n ≤
    256 → n % 4 = 0 → bs.all (fun b => decide (b < 256)) = true → Ends (.hrpBurstWrite tag a bs true) s fun t => (t.lastResp
    .host).reason = .none ∧ readBytes t.mem a n = bs ∧ SameMemoryBut a (a + n) s t ∧ t.regF .hrp 0x40 8 8 = tag % 256 ∧ t.reg
    .hrp 0x44 = s.reg .hrp 0x44 + 1) ∧ (s.hrpRuns = true → s.guardFault .host .store a n = none → a % 4 = 0 → 4 ≤ n → n ≤ 256 →
    n % 4 = 0 → 0x40000000 ≤ a → a + n ≤ 0x40001000 → Ends (.hrpBurstWrite tag a bs true) s fun t => HrpDone tag .width 0 s t)
    ∧ (s.hrpRuns = true → Ends (.hrpBurstWrite tag a bs false) s fun t => HrpDone tag .e2e 0 bad t) ∧ (s.hrpRuns = false → Ends
    (.hrpBurstWrite tag a bs true) s fun t => t = s)

/-- HRP_STATUS: HRP_STAT as it was, without a fabric access (R482). -/
def hrpStatusDoes : Prop := ∀ (tag : Nat) (s : State),
  let bad := s.satInc .hrp 0x48
  (s.hrpRuns = true → Ends (.hrpStatus tag true) s fun t => HrpDone tag .none s.hrpStat.toNat s t) ∧ (s.hrpRuns = true → Ends
    (.hrpStatus tag false) s fun t => HrpDone tag .e2e 0 bad t) ∧ (s.hrpRuns = false → Ends (.hrpStatus tag true) s fun t => t
    = s)

/-- HRP_FRAME_ABORT: the frame is counted; what it wrote stands (R482, R499). -/
def hrpFrameAbortDoes : Prop := ∀ (s : State),
  (s.hrpRuns = true → Ends .hrpFrameAbort s fun t => (t.reg .hrp 0x4C).toNat = min ((s.reg .hrp 0x4C).toNat + 1) (2 ^ 32 - 1) ∧
    t.regF .hrp 0x20 1 1 = 1 ∧ SameRegsBut [Page.base .hrp + 0x4C, Page.base .hrp + 0x20] s t ∧ t =
    { s with regs := t.regs, fab := t.fab }) ∧ (s.hrpRuns = false → Ends .hrpFrameAbort s fun t => t = s)

/-- HRP_CLR: the counts of frames with an error read 0 (R499). -/
def hrpClrDoes : Prop := ∀ (m : Master) (s : State),
  Clears (.hrpClr m) m .hrp 0x54 1 [0x48, 0x4C] s

/-- BOOT_GO: a stream whose length differs or whose checks fail leaves the boot ROM waiting with memory cleared; one that passes is handed over to (R483). -/
def bootGoDoes : Prop := ∀ (m : Master) (len : Nat) (s : State),
  let bs := s.boot.stream
  let u := s.fabricWrite (put32 m .hrp 0x50 len)
  let fails := fun (r : Nat) (t : State) => t.boot.wait = true ∧ t.boot.stream = [] ∧ t.boot.firmware = s.boot.firmware ∧ t.reg
    .sboot 0x40 = BitVec.ofNat 32 (r + 32) ∧ RamCleared t ∧ SameMemoryBut 0 0x50000000 s t
  s.accepts (put32 m .hrp 0x50 len) →
  len < 2 ^ 24 →
  s.boot.wait = true ∧ (bs.length ≠ len → Ends (.bootGo m len) s fun t => fails 1 t) ∧ (bs.length = len → (u.bootTry bs
    true).result ≠ 0 → Ends (.bootGo m len) s fun t => fails (u.bootTry bs true).result t) ∧ (bs.length = len → (u.bootTry bs
    true).result = 0 → Ends (.bootGo m len) s fun t => HandedOver (u.bootTry bs true).loaded t)

/-! ### Self-test sequences, register scrub, life cycle, rollback and key revocation -/

/-- BIST_SRAM_MARCH: the march on a powered System SRAM bank begins, and BIST_STAT says so (R485, R496). -/
def bistSramMarchDoes : Prop := ∀ (m : Master) (bank : Nat) (s : State),
  bank < 256 →
  s.accepts (put32 m .bistC 0x44 (1 + bank * 256)) →
  bank ≤ 3 ∧ s.sramOn bank = true ∧ bit (s.reg .bistC 0x48) 0 = false ∧ Ends (.bistSramMarch m bank) s fun t => t.reg .bistC
    0x48 = BitVec.ofNat 32 (1 + 1 * 2 ^ 8 + bank * 2 ^ 16) ∧ SameRegsBut [Page.base .bistC + 0x48] s t ∧ Written m (Page.base
    .bistC) s t ∧ t = { s with regs := t.regs, fab := t.fab }

/-- BIST_TRACKER_MARCH: the march on tracker RAM begins, and BIST_STAT says so (R485, R496). -/
def bistTrackerMarchDoes : Prop := ∀ (m : Master) (s : State),
  s.accepts (put32 m .bistC 0x44 (2 + 0 * 256)) →
  bit (s.reg .bistC 0x48) 0 = false ∧ Ends (.bistTrackerMarch m) s fun t => t.reg .bistC 0x48 = BitVec.ofNat 32 (1 + 2 * 2 ^ 8
    + 0 * 2 ^ 16) ∧ SameRegsBut [Page.base .bistC + 0x48] s t ∧ Written m (Page.base .bistC) s t ∧ t =
    { s with regs := t.regs, fab := t.fab }

/-- BIST_TQF_MARCH: the march on the TQF pool and queue table begins, and BIST_STAT says so (R485, R496). -/
def bistTqfMarchDoes : Prop := ∀ (m : Master) (s : State),
  s.accepts (put32 m .bistC 0x44 (3 + 0 * 256)) →
  bit (s.reg .bistC 0x48) 0 = false ∧ Ends (.bistTqfMarch m) s fun t => t.reg .bistC 0x48 = BitVec.ofNat 32 (1 + 3 * 2 ^ 8 + 0
    * 2 ^ 16) ∧ SameRegsBut [Page.base .bistC + 0x48] s t ∧ Written m (Page.base .bistC) s t ∧ t =
    { s with regs := t.regs, fab := t.fab }

/-- BIST_SWELL_ENGINE: the test of an engine that stands and is in no pair begins, and BIST_STAT says so (R485, R496). -/
def bistSwellEngineDoes : Prop := ∀ (m : Master) (e : Nat) (s : State),
  e < 256 →
  s.accepts (put32 m .bistC 0x44 (4 + e * 256)) →
  e < s.fuses.swells ∧ s.swIdle e = true ∧ s.swPaired e = false ∧ bit (s.reg .bistC 0x48) 0 = false ∧ Ends (.bistSwellEngine m
    e) s fun t => t.reg .bistC 0x48 = BitVec.ofNat 32 (1 + 4 * 2 ^ 8 + e * 2 ^ 16) ∧ SameRegsBut [Page.base .bistC + 0x48] s t
    ∧ Written m (Page.base .bistC) s t ∧ t = { s with regs := t.regs, fab := t.fab }

/-- BIST_SURF_GROUP: the test of a Surf group begins, and BIST_STAT says so (R485, R496). -/
def bistSurfGroupDoes : Prop := ∀ (m : Master) (g : Nat) (s : State),
  g < 256 →
  s.accepts (put32 m .bistC 0x44 (5 + g * 256)) →
  8 * g < s.fuses.surfs ∧ bit (s.reg .bistC 0x48) 0 = false ∧ Ends (.bistSurfGroup m g) s fun t => t.reg .bistC 0x48 =
    BitVec.ofNat 32 (1 + 5 * 2 ^ 8 + g * 2 ^ 16) ∧ SameRegsBut [Page.base .bistC + 0x48] s t ∧ Written m (Page.base .bistC) s t
    ∧ t = { s with regs := t.regs, fab := t.fab }

/-- BIST_GHERY_QUAD: the test of a Ghery quad begins, and BIST_STAT says so (R485, R496). -/
def bistGheryQuadDoes : Prop := ∀ (m : Master) (q : Nat) (s : State),
  q < 256 →
  s.accepts (put32 m .bistC 0x44 (6 + q * 256)) →
  q ≤ 6 ∧ bit (s.reg .bistC 0x48) 0 = false ∧ Ends (.bistGheryQuad m q) s fun t => t.reg .bistC 0x48 = BitVec.ofNat 32 (1 + 6 *
    2 ^ 8 + q * 2 ^ 16) ∧ SameRegsBut [Page.base .bistC + 0x48] s t ∧ Written m (Page.base .bistC) s t ∧ t =
    { s with regs := t.regs, fab := t.fab }

/-- BIST_DOMAIN_STARTUP: outside FIELD the start-up test of a domain with no page enabled begins; its contents are lost (R486). -/
def bistDomainStartupDoes : Prop := ∀ (m : Master) (d : Nat) (s : State),
  1 ≤ d →
  d < 128 →
  d ≠ 15 →
  s.accepts (put32 m .bistC 0x44 (0x80 + d)) →
  d ≤ 0x24 ∧ s.fuses.lifeCycle ≠ .field ∧ (∀ p ∈ allPages, p.present s.fuses = true → (pageDomains p).contains d = true →
    s.enabled p = false) ∧ Ends (.bistDomainStartup m d) s fun t => t.reg .bistC 0x48 = BitVec.ofNat 32 (1 + (0x80 + d) * 2 ^
    8) ∧ (t.lastResp m).reason = .none ∧ DomainLost (s.setReg .bistC 0x48 (BitVec.ofNat 32 (1 + (0x80 + d) * 2 ^ 8))) t d

/-- BIST_SEQUENCE_DONE: the sequence ends with its result; a failure raises BIST_RT (R485, R496, R497). -/
def bistSequenceDoneDoes : Prop := ∀ (pass : Bool) (s : State),
  let st := s.reg .bistC 0x48
  let d := bistDomain (fld st 8 8) (fld st 16 8)
  d < 37 →
  (bit st 0 = true → Ends (.bistSequenceDone pass) s fun t => t.regF .bistC 0x48 0 3 = (if pass then 2 else 4) ∧ t.regF .bistR
    (0x800 + 4 * d) 2 2 = (if pass then 1 else 3) ∧ t.regF .bistC 0x20 0 1 = 1 ∧ (pass = false → (0x3A, 0) ∈ t.raised ∧ t.regF
    .bistC 0x20 1 1 = 1) ∧ (pass = true → t.raised = s.raised) ∧ SameRegsBut [Page.base .bistC + 0x48, Page.base .bistC + 0x20,
    Page.base .bistR + (0x800 + 4 * d)] s t ∧ t = { s with raised := t.raised, regs := t.regs, fab := t.fab }) ∧ (bit st 0 =
    false → Ends (.bistSequenceDone pass) s fun t => t = s)

/-- REGISTER_SCRUB: a parity error is counted on its page and reported, of guard regions and interrupt levels under their own source (R72, R413, R420). -/
def registerScrubDoes : Prop := ∀ (p : Page) (bad : List Page) (s : State),
  let src := fun (q : Page) => match q with | .guard _ => 0x17 | .guardS _ => 0x17 | .icl => 0x17 | _ => 0x15
  bad ≠ [] →
  (Ends (.registerScrub []) s fun t => t = s) ∧ (p.valid = true → p.present s.fuses = true → Ends (.registerScrub [p]) s fun t
    => t.regF p 0x30 8 8 = min (s.regF p 0x30 8 8 + 1) 255 ∧ SameRegsBut [p.base + 0x30] s t ∧ t =
    { s with raised := t.raised, regs := t.regs }) ∧ Ends (.registerScrub bad) s fun t => ∀ q ∈ bad, (src q, q.base) ∈ t.raised

/-- LC_REQ: the state moves forward, to RETURN with a token alone, and is in force from the next reset (R489). -/
def lcReqDoes : Prop := ∀ (m : Master) (target : Nat) (s : State),
  let to_ := LifeCycle.ofCode target
  target < 4 →
  s.accepts (put32 m .lc 0x44 target) →
  s.burned.moves to_ = true ∧ (to_ = .return_ → s.tokenOk = true) ∧ Ends (.lcReq m target) s fun t => t.boot =
    { s.boot with lcNext := some to_ } ∧ t.fuses = s.fuses ∧ t.reg .lc 0x44 = BitVec.ofNat 32 target ∧ SameRegsBut [Page.base
    .lc + 0x44] s t ∧ Written m (Page.base .lc) s t ∧ t = { s with boot := t.boot, regs := t.regs, fab := t.fab }

/-- RB_ADVANCE: the rollback counter advances, no further than the running image (R481). -/
def rbAdvanceDoes : Prop := ∀ (m : Master) (v : Nat) (s : State),
  v < 128 →
  s.accepts (put32 m .sboot 0x4C v) →
  s.fuses.rbCnt < v ∧ v ≤ 64 ∧ v ≤ (s.reg .sboot 0x44).toNat ∧ Ends (.rbAdvance m v) s fun t => t.fuses =
    { s.fuses with rbCnt := v } ∧ SameRegsOutside (Page.base .sboot) (Page.base .sboot + 0x1000) s t ∧ (t.lastResp m).reason =
    .none ∧ t = { s with fuses := t.fuses, regs := t.regs, fab := t.fab }

/-- KEY_REVOKE_SET: key slots are revoked, but not that of the running image (R481). -/
def keyRevokeSetDoes : Prop := ∀ (m : Master) (v : Nat) (s : State),
  v < 16 →
  s.accepts (put32 m .sboot 0x54 v) →
  (s.boot.firmware = true → bit (s.reg .sboot 0x40) 6 = false → v.testBit (fld (s.reg .sboot 0x40) 8 2) = false) ∧ Ends
    (.keyRevokeSet m v) s fun t => t.fuses = { s.fuses with keyRevoke := s.fuses.keyRevoke ||| (BitVec.ofNat 32 v &&& 0xF) } ∧
    SameRegsOutside (Page.base .sboot) (Page.base .sboot + 0x1000) s t ∧ (t.lastResp m).reason = .none ∧ t =
    { s with fuses := t.fuses, regs := t.regs, fab := t.fab }

end Sys2Proof.Claims

open Sys2Proof

/-- A step runs exactly the command at the front of the queue, on the state with the queue's rest.
Rests on the model's choices of notes/assumptions: 3. Derived from Block: the queue of waiting commands, 95_what_each_step_holds.md. -/
def Obligations.CommandsRunInOrder : Prop :=
  Claims.commandStep

/-- On an empty queue a step is one cycle of the timebase (the model's choice, log entry 2): 8 ticks, or 7 or 9 by TB_RATE, or nothing where time stands.
Rests on the model's choices of notes/assumptions: 2, 35. Derived from R24, R74, R75, R473. -/
def Obligations.EmptyQueueIsOneCycle : Prop :=
  Claims.idleStep

/-- Every step that answers a next state takes exactly the front command from the queue, and none adds a command.
Rests on the model's choices of notes/assumptions: 1. Derived from Block: the queue of waiting commands. -/
def Obligations.OneCommandEachStep : Prop :=
  Claims.oneCommandEachStep

/-- Every step keeps memory in canonical form: addresses strictly rising, no byte listed at what an unlisted one reads.
Rests on the model's choices of notes/assumptions: 8. Derived from R34, R36. -/
def Obligations.MemoryStaysCanonical : Prop :=
  Claims.everyStepKeepsMemory

/-- What reset leaves in State: memory, registers, the units and the core, the reset cause; values the spec does not give are log entries 8 to 12.
Rests on the model's choices of notes/assumptions: 8, 9, 10, 11, 12. Derived from R300, R373, R491, R43. -/
def Obligations.ResetState : Prop :=
  Claims.resetState

/-- Core registers and their banks: g0 and c0, a write of one register, and what an entry through a vector leaves in the next bank. Derived from R299, R387. -/
def Obligations.BanksAndEntries : Prop :=
  Claims.coreRegisters ∧ Claims.entrySaves

/-- An SV-32 instruction whose condition does not hold has no effect but the loop-end rule. Formalises R303. -/
def Obligations.ConditionFalse : Prop :=
  Claims.conditionFalse

/-- An undefined SV-32 encoding raises ILLEGAL_OPCODE before its condition is looked at, with its word in EADDR.
Rests on the model's choices of notes/assumptions: 69, 70. Derived from R306, R376, R378, R381, R387. -/
def Obligations.UndefinedForms : Prop :=
  Claims.undefinedForm

/-- An entry at depth 3 or more spills the oldest context into the 512-byte frame of R390 below csp. Formalises R390. -/
def Obligations.SpillFrame : Prop :=
  Claims.spillWritesFrame

/-- TRAP and the ERET that follows return after the TRAP with every register, CSTAT and DEPTH as they were.
Rests on the model's choices of notes/assumptions: 68. Derived from R386, R387, R391. -/
def Obligations.TrapAndReturn : Prop :=
  Claims.trapReturns

/-- No capability operation widens authority: a result is untagged or lies within its source's bounds and permissions.
Rests on the model's choices of notes/assumptions: 75. Derived from R372, R371, R368. -/
def Obligations.CapabilitiesOnlyNarrow : Prop :=
  Claims.capabilitiesOnlyNarrow

/-- The load delay: the next instruction reads the old register, its own result stands, an interrupt between commits the value.
Rests on the model's choices of notes/assumptions: 71. Derived from R322. -/
def Obligations.LoadDelay : Prop :=
  Claims.loadDelay

/-- A rejected write of a page register has no effect but its answer and PAGE_ERR. Derived from R54, R56, R57. -/
def Obligations.RejectedWrites : Prop :=
  Claims.rejectedWrite

/-- A System SRAM write and the read after it: the bytes written, no other byte, and the granule's tag cleared. Derived from R34, R36, R369, R58. -/
def Obligations.MemoryRoundTrip : Prop :=
  Claims.ramRoundTrip

/-- The start-up sequence, which image the boot ROM boots, and what its checks let boot.
Rests on the model's choices of notes/assumptions: 101, 102, 105, 106, 109. Derived from R475, R476, R477, R479, R488. -/
def Obligations.StartUpAndBoot : Prop :=
  Claims.startUpRuns ∧ Claims.bootRuns ∧ Claims.bootChecks

/-- A Slack plan that passes validation has the headers, CRCs, entries and order that R424 asks; the first failure is reported.
Rests on the model's choices of notes/assumptions: 91. Derived from R421, R422, R424. -/
def Obligations.PlanValidation : Prop :=
  Claims.planPasses

/-- ADD, ADC, SUB, SBC, AND, OR, XOR and BIC: result, flags with S, and frame. Derived from R309, R304. -/
def Obligations.SumsAndLogic : Prop :=
  Claims.addDoes ∧ Claims.adcDoes ∧ Claims.subDoes ∧ Claims.sbcDoes ∧ Claims.andDoes ∧ Claims.orDoes ∧ Claims.xorDoes ∧
    Claims.bicDoes

/-- Shifts and rotates by k = 0 to 255: result, C with S = 1, and frame. Formalises R310. -/
def Obligations.ShiftRules : Prop :=
  Claims.shlDoes ∧ Claims.shrDoes ∧ Claims.sarDoes ∧ Claims.rorDoes ∧ Claims.shliDoes ∧ Claims.shriDoes ∧ Claims.sariDoes ∧
    Claims.roriDoes

/-- Multiply, divide, minimum, maximum, count, reverse and extend: result, flags with S, and frame. Derived from R309, R311. -/
def Obligations.ProductsAndQuotients : Prop :=
  Claims.mulDoes ∧ Claims.mulhDoes ∧ Claims.mulhuDoes ∧ Claims.divDoes ∧ Claims.divuDoes ∧ Claims.remDoes ∧ Claims.remuDoes ∧
    Claims.minDoes ∧ Claims.maxDoes ∧ Claims.minuDoes ∧ Claims.maxuDoes ∧ Claims.revDoes ∧ Claims.sxtbDoes ∧ Claims.sxthDoes ∧
    Claims.zxtbDoes ∧ Claims.zxthDoes ∧ Claims.clzDoes

/-- Compares, tests and immediate forms: result, flags and frame. Derived from R305, R309. -/
def Obligations.ComparesAndImmediates : Prop :=
  Claims.cmpDoes ∧ Claims.tstDoes ∧ Claims.cmpiDoes ∧ Claims.tstiDoes ∧ Claims.addiDoes ∧ Claims.addisDoes ∧ Claims.andiDoes ∧
    Claims.oriDoes ∧ Claims.xoriDoes ∧ Claims.movlDoes ∧ Claims.movhDoes

/-- Fixed-point operations: saturation, rounding by RM or the field, Q, and frame. Derived from R313, R314. -/
def Obligations.FixedPointRules : Prop :=
  Claims.qaddDoes ∧ Claims.qsubDoes ∧ Claims.qnegDoes ∧ Claims.qabsDoes ∧ Claims.qmulDoes ∧ Claims.qadd2Does ∧ Claims.qsub2Does
    ∧ Claims.qmul2Does ∧ Claims.qshlDoes ∧ Claims.qshrDoes ∧ Claims.qpackDoes

/-- Multiply-accumulate, CLRA and MTA: the accumulator exactly, and frame. Derived from R316. -/
def Obligations.AccumulatorWrites : Prop :=
  Claims.macDoes ∧ Claims.msuDoes ∧ Claims.mulaDoes ∧ Claims.mac2Does ∧ Claims.msu2Does ∧ Claims.mula2Does ∧ Claims.clraDoes ∧
    Claims.mtaDoes

/-- Accumulator parts written and read, with rounding and saturation, and frame. Derived from R316. -/
def Obligations.AccumulatorReads : Prop :=
  Claims.wralDoes ∧ Claims.wrahDoes ∧ Claims.wragDoes ∧ Claims.rdaDoes ∧ Claims.rda16Does ∧ Claims.rdalDoes ∧ Claims.rdahDoes ∧
    Claims.rdagDoes

/-- Decimal operations: digits, D and C flags, invalid digits, and frame. Derived from R318, R319. -/
def Obligations.DecimalRules : Prop :=
  Claims.daddDoes ∧ Claims.daddcDoes ∧ Claims.dsubDoes ∧ Claims.dsubcDoes ∧ Claims.dcmpDoes ∧ Claims.dadjDoes ∧
    Claims.bcd2binDoes ∧ Claims.bin2bcdDoes

/-- Loads and stores under a capability: the address, the bytes, the delayed register, and every other byte unchanged.
Rests on the model's choices of notes/assumptions: 7, 77. Derived from R321, R370, R322. -/
def Obligations.LoadsAndStores : Prop :=
  Claims.ldwDoes ∧ Claims.ldhDoes ∧ Claims.ldhuDoes ∧ Claims.ldbDoes ∧ Claims.ldbuDoes ∧ Claims.cldwDoes ∧ Claims.stwDoes ∧
    Claims.sthDoes ∧ Claims.stbDoes ∧ Claims.cstwDoes ∧ Claims.cldcDoes ∧ Claims.cstcDoes

/-- Capability operations: fields, derivation, sealing and comparison, and frame.
Rests on the model's choices of notes/assumptions: 75, 76. Derived from R371, R372, R367. -/
def Obligations.CapabilityRules : Prop :=
  Claims.capqDoes ∧ Claims.capdistDoes ∧ Claims.capptrDoes ∧ Claims.capadvDoes ∧ Claims.capnarrowDoes ∧ Claims.capmaskDoes ∧
    Claims.capmovDoes ∧ Claims.capdropDoes ∧ Claims.caplockDoes ∧ Claims.capopenDoes ∧ Claims.capwithinDoes

/-- Branches, calls, returns, loops, TRAP, ERET, CTXSW, FENCE and WFI: pcc, what they save or restore, and frame.
Rests on the model's choices of notes/assumptions: 68, 69, 81, 116. Derived from R326, R323, R324, R330, R325, R391, R392, R401, R381, R386, R387, R327. -/
def Obligations.ControlTransfers : Prop :=
  Claims.bDoes ∧ Claims.callDoes ∧ Claims.jrDoes ∧ Claims.callrDoes ∧ Claims.retDoes ∧ Claims.eretDoes ∧ Claims.ctxswDoes ∧
    Claims.fenceDoes ∧ Claims.wfiDoes ∧ Claims.trapDoes ∧ Claims.loopDoes

/-- System registers, custom instructions, entries by fault and interrupt, the interrupt controller and guard registers.
Rests on the model's choices of notes/assumptions: 69, 70, 80, 83. Derived from R376, R387, R379, R384, R333, R334, R320, R335, R337, R306, R377, R378. -/
def Obligations.SystemRegisters : Prop :=
  Claims.mfsDoes ∧ Claims.mtsDoes ∧ Claims.cmfsDoes ∧ Claims.cmtsDoes ∧ Claims.customInstructionDoes ∧ Claims.faultEntryDoes ∧
    Claims.interruptAcceptDoes ∧ Claims.arithImpreciseDoes ∧ Claims.icSwsetDoes ∧ Claims.icSwclrDoes ∧ Claims.gselWriteDoes ∧
    Claims.gclrDoes

/-- Fabric accesses and header registers: enables, soft reset, locks, keys, PAGE_ERR, flags and E2E counters.
Rests on the model's choices of notes/assumptions: 5, 6, 19, 25. Derived from R46, R47, R69, R43, R50, R58, R398, R470, R471, R66, R67, R57. -/
def Obligations.FabricCommands : Prop :=
  Claims.registerWriteDoes ∧ Claims.pageCtrlWriteDoes ∧ Claims.softResetDoes ∧ Claims.lockWriteDoes ∧ Claims.keyWriteDoes ∧
    Claims.keySequenceTimeoutDoes ∧ Claims.pageErrClearDoes ∧ Claims.irqSetDoes ∧ Claims.e2eStatClrDoes ∧
    Claims.softResetDoneDoes

/-- Timebase: reads and modes, Sync and holdover, skew, link timeout and transfer retry.
Rests on the model's choices of notes/assumptions: 33, 34, 17. Derived from R78, R80, R53, R76, R77, R79, R22, R414. -/
def Obligations.TimebaseCommands : Prop :=
  Claims.tbNowReadDoes ∧ Claims.tbModeWriteDoes ∧ Claims.skewClrDoes ∧ Claims.syncReceiveDoes ∧ Claims.syncTimeoutDoes ∧
    Claims.skewMeasurementDoes ∧ Claims.linkTimeoutDoes ∧ Claims.registerTransferRetryDoes

/-- Queue table, submission checks and admission, commit, handoff, arrival and delivery of entries.
Rests on the model's choices of notes/assumptions: 6, 36, 39, 40, 41. Derived from R110, R81, R90, R92, R88, R95, R96, R97, R82, R83, R87, R86. -/
def Obligations.QueuesAndEntries : Prop :=
  Claims.queueTableWriteDoes ∧ Claims.queueBindWriteDoes ∧ Claims.submitStageDoes ∧ Claims.submitActDoes ∧
    Claims.releaseArmDoes ∧ Claims.subResReadDoes ∧ Claims.logConfigWriteDoes ∧ Claims.tqfStatClrDoes ∧ Claims.delivReadDoes ∧
    Claims.entryCommitDoes ∧ Claims.entryHandoffDoes ∧ Claims.linkEntryReceiveDoes ∧ Claims.entryDeliveryDoes

/-- Ebbs by handle, queue and group: staging, execution, which entries go, and the result.
Rests on the model's choices of notes/assumptions: 6, 37, 38. Derived from R99, R102, R81, R108, R109. -/
def Obligations.Ebbs : Prop :=
  Claims.ebbCutStageDoes ∧ Claims.ebbCmdLowStageDoes ∧ Claims.ebbHandleDoes ∧ Claims.ebbQueueDoes ∧ Claims.ebbGroupDoes ∧
    Claims.qtErrClrDoes ∧ Claims.ebbResultDoneDoes

/-- Pin functions: levels, pulses, PWM and step/direction edges at their instants.
Rests on the model's choices of notes/assumptions: 4, 42. Derived from R118, R117, R119, R115, R116, R127, R129. -/
def Obligations.PinFunctions : Prop :=
  Claims.levelActionDoes ∧ Claims.pulseStartDoes ∧ Claims.pulseEndDoes ∧ Claims.triggerPulseEndDoes ∧ Claims.pwmDutyEntryDoes ∧
    Claims.pwmPeriodEntryDoes ∧ Claims.pwmRunEntryDoes ∧ Claims.pwmPeriodStartDoes ∧ Claims.pwmDutyEndDoes ∧
    Claims.stepdirSegmentDoes ∧ Claims.stepEdgeDoes ∧ Claims.stepPulseEndDoes

/-- Pin registers: configuration, offsets, captures, counters and coordinates.
Rests on the model's choices of notes/assumptions: 42, 43. Derived from R129, R53, R111, R112, R534, R124, R121. -/
def Obligations.PinRegisters : Prop :=
  Claims.pinCfgWriteDoes ∧ Claims.offsetWriteDoes ∧ Claims.capturePopDoes ∧ Claims.pinCountReadDoes ∧ Claims.coordReadDoes ∧
    Claims.bankCntClrDoes ∧ Claims.captureFlushDoes

/-- Captures, quadrature and SSI encoders, and coordinate generators.
Rests on the model's choices of notes/assumptions: 44, 45, 46. Derived from R127, R129, R122, R123, R125, R126, R121, R29, R131, R132. -/
def Obligations.EncodersAndGenerators : Prop :=
  Claims.captureEdgeDoes ∧ Claims.quadEdgeDoes ∧ Claims.quadSampleDoes ∧ Claims.ssiReadDoes ∧ Claims.ssiReadDoneDoes ∧
    Claims.generatorStartDoes ∧ Claims.generatorStopDoes ∧ Claims.tlogQueryDoes ∧ Claims.generatorSampleDoes ∧
    Claims.triggerEdgeDoes ∧ Claims.generatorStallDoes

/-- Network sending: cyclic, acyclic and TSN frames, Sync, peer delay, and counters cleared.
Rests on the model's choices of notes/assumptions: 49, 50, 125. Derived from R138, R144, R142, R134, R137, R152, R140, R143, R145, R147, R146, R136. -/
def Obligations.NetworkSending : Prop :=
  Claims.cyclicFrameDoes ∧ Claims.acyclicFrameDoes ∧ Claims.tsnFrameDoes ∧ Claims.acyclicFrameOverdue ∧ Claims.tsnFrameOverdue
    ∧ Claims.syncSendDoes ∧ Claims.tsnMasterSyncSendDoes ∧ Claims.peerDelayExchangeDoes ∧ Claims.t1sCntClrDoes ∧
    Claims.tsnCntClrDoes

/-- Network receiving: ACK, EVENT, SAFE frames and connections, discards and link changes.
Rests on the model's choices of notes/assumptions: 48, 40. Derived from R142, R139, R141, R147, R148, R140, R137, R151, R152. -/
def Obligations.NetworkReceiving : Prop :=
  Claims.ackReceiveDoes ∧ Claims.ackTimeoutDoes ∧ Claims.eventFrameReceiveDoes ∧ Claims.rxFrameDiscardDoes ∧
    Claims.safeFrameReceiveDoes ∧ Claims.safeKeepaliveDoes ∧ Claims.safeConnectionLostDoes ∧ Claims.safeConnectionOpenDoes ∧
    Claims.segmentLinkChangeDoes ∧ Claims.tsnLinkChangeDoes

/-- Mark Tracker: samples and stalls, deferred opens, evaluation, re-prediction, freezing and the end of visits.
Rests on the model's choices of notes/assumptions: 51, 52, 54, 55. Derived from R173, R169, R165, R154, R155, R163, R164, R178, R170, R171, R175. -/
def Obligations.TrackerEvents : Prop :=
  Claims.trackerSourceSampleDoes ∧ Claims.sourceStallDoes ∧ Claims.contextOpenDeferredDoes ∧ Claims.visitEvaluateDoes ∧
    Claims.repredictionResultDoes ∧ Claims.visitFreezeDoes ∧ Claims.visitDoneDoes

/-- Mark Tracker: slots, firmware sources, stations, templates, opens, cancels and clears.
Rests on the model's choices of notes/assumptions: 51, 53. Derived from R156, R182, R153, R161, R179, R180, R162, R163, R165, R175. -/
def Obligations.TrackerCommands : Prop :=
  Claims.sourceSlotWriteDoes ∧ Claims.fwInstStageDoes ∧ Claims.fwSampleCommitDoes ∧ Claims.stationWriteDoes ∧
    Claims.templateWriteDoes ∧ Claims.openCmdDoes ∧ Claims.contextCancelDoes ∧ Claims.trErrClrDoes ∧ Claims.trackerStatClrDoes

/-- Roll-map appends and records, and the registers of Surf.
Rests on the model's choices of notes/assumptions: 56. Derived from R186, R184, R185, R188, R162, R183, R215, R200, R202, R218, R219, R221. -/
def Obligations.RollMapAndSurfRegisters : Prop :=
  Claims.appendWordDoes ∧ Claims.appendCommitDoes ∧ Claims.rmRdWriteDoes ∧ Claims.rollmapClrDoes ∧
    Claims.rollmapRecordWriteDoes ∧ Claims.ffDataAccessDoes ∧ Claims.kcommitDoes ∧ Claims.surfGroupClrDoes ∧
    Claims.cameraClrDoes ∧ Claims.surfLaneClrDoes

/-- Surf: cameras start and drain, lines are taken in and completed, kernels change.
Rests on the model's choices of notes/assumptions: 57, 58. Derived from R198, R202, R217, R204, R193, R218, R196, R250, R195, R203, R207, R213. -/
def Obligations.SurfLines : Prop :=
  Claims.cameraEnableDoes ∧ Claims.cameraDisableDoes ∧ Claims.cameraDrainDoneDoes ∧ Claims.lineIntakeDoes ∧
    Claims.lineIntakeTogether ∧ Claims.laneLineCompleteDoes ∧ Claims.laneLineOpens ∧ Claims.kernelShadowCopyDoes

/-- Ghery Link packets received and sent: lines, events, credit, training, records and patches.
Rests on the model's choices of notes/assumptions: 59. Derived from R250, R242, R252, R246, R237, R249, R234, R236, R229, R240, R235, R251. -/
def Obligations.GheryPackets : Prop :=
  Claims.linePacketReceiveDoes ∧ Claims.gheryEventReceiveDoes ∧ Claims.creditReceiveDoes ∧ Claims.trainReceiveDoes ∧
    Claims.amReceiveDoes ∧ Claims.amSendDoes ∧ Claims.trainSendDoes ∧ Claims.trainSeekSendDoes ∧ Claims.creditSendDoes ∧
    Claims.rollrecSendDoes ∧ Claims.patchRowSendDoes ∧ Claims.patchTrailerSendDoes ∧ Claims.eventPacketSendDoes

/-- Ghery Link states: lanes, readiness, retraining, timeouts, block lock and sideband.
Rests on the model's choices of notes/assumptions: 59. Derived from R235, R240, R234, R236, R226, R246, R249, R237, R224, R231, R258, R233. -/
def Obligations.GheryLinkStates : Prop :=
  Claims.receiverReadyDoes ∧ Claims.receiverUpDoes ∧ Claims.transmitterUpDoes ∧ Claims.linkRetrainDoes ∧
    Claims.sidebandTimeoutDoes ∧ Claims.blockLockChangeDoes ∧ Claims.hiBerExitDoes ∧ Claims.sidebandAlignmentDoes

/-- Ghery Link registers: enable, disable, events and counters.
Rests on the model's choices of notes/assumptions: 6, 60. Derived from R234, R235, R257, R261, R260, R246, R53, R258, R259. -/
def Obligations.GheryRegisters : Prop :=
  Claims.linkEnableDoes ∧ Claims.linkDisableDoes ∧ Claims.evtSendDoes ∧ Claims.evtArrReadDoes ∧ Claims.gheryLaneClrDoes ∧
    Claims.txlClrDoes ∧ Claims.ingressLinkClrDoes ∧ Claims.egressLinkClrDoes

/-- Tidemark: strobe and Z edge, transfers into the mailbox, and its link.
Rests on the model's choices of notes/assumptions: 61, 62, 63, 65. Derived from R264, R262, R298, R296, R297, R274, R22, R26, R265, R268, R269, R284. -/
def Obligations.TidemarkMirror : Prop :=
  Claims.tidemarkStrobeDoes ∧ Claims.zEdgeDoes ∧ Claims.tidemarkSampleDoes ∧ Claims.statusTransferDoes ∧
    Claims.ticketTransferDoes ∧ Claims.auditTransferDoes ∧ Claims.goneTransferDoes ∧ Claims.propDoneDoes ∧ Claims.rollEventDoes
    ∧ Claims.readReqDoes ∧ Claims.tmLinkUpDoes ∧ Claims.tmLinkDownDoes

/-- Tidemark: proposals with their audit records, and the mailbox registers.
Rests on the model's choices of notes/assumptions: 61, 65, 66. Derived from R283, R298, R53, R296, R277, R279, R293, R278, R280, R287, R288, R291. -/
def Obligations.TidemarkProposals : Prop :=
  Claims.proposalParamDoes ∧ Claims.proposalSealDoes ∧ Claims.proposalRollDoes ∧ Claims.proposalVerifyDoes ∧
    Claims.bypassChangeDoes ∧ Claims.propSubmitDoes ∧ Claims.mirrorRefillDoes ∧ Claims.tmCntClrDoes ∧ Claims.tmErrClrDoes ∧
    Claims.posSnapshotReadDoes ∧ Claims.totalReadDoes ∧ Claims.eventsReadDoes

/-- Tidemark: tickets, hold-up, checkpoints, boot and its own faults.
Rests on the model's choices of notes/assumptions: 64, 66, 117. Derived from R293, R272, R290, R273, R285, R292, R295, R294, R457. -/
def Obligations.TidemarkPower : Prop :=
  Claims.ticketIssueDoes ∧ Claims.holdupEntryDoes ∧ Claims.restCommitDoes ∧ Claims.finalCommitDoes ∧ Claims.checkpointDoes ∧
    Claims.tidemarkBootDoes ∧ Claims.tidemarkWatchdogExpiryDoes ∧ Claims.tidemarkClockFaultDoes

/-- Swell engines: run, stop, step, resume, wake, pairs, counters, aperture and responses.
Rests on the model's choices of notes/assumptions: 84, 88. Derived from R365, R363, R360, R364, R53, R34, R366, R50, R355, R359, R449. -/
def Obligations.SwellEngines : Prop :=
  Claims.swellRunDoes ∧ Claims.swellStopDoes ∧ Claims.swellStepDoes ∧ Claims.swellResumeDoes ∧ Claims.swellWakeCmdDoes ∧
    Claims.pairSetDoes ∧ Claims.pairClearDoes ∧ Claims.pairCopyDoneDoes ∧ Claims.swellErrClrDoes ∧ Claims.swellCntClrDoes ∧
    Claims.bundlesReadDoes ∧ Claims.apertureAccessDoes ∧ Claims.swellFabricResponseDoes ∧ Claims.waitWakeDoes ∧
    Claims.routeSwellWakeDoes

/-- Swell bundles: slots, results, control, local and fabric accesses, checks and faults.
Rests on the model's choices of notes/assumptions: 85, 86, 87, 88. Derived from R365, R346, R356, R357, R359, R361, R364, R350, R355, R351, R360, R347. -/
def Obligations.SwellBundles : Prop :=
  Claims.bundleExecuteDoes ∧ Claims.bundleResultDoes ∧ Claims.bundleControlDoes ∧ Claims.bundleParallelDoes

/-- Timer events, routes, firing releases, and DMA transfers.
Rests on the model's choices of notes/assumptions: 4, 96, 97, 122. Derived from R449, R441, R447, R451, R453, R443, R454, R440, R442, R92, R98, R466. -/
def Obligations.TimersAndDma : Prop :=
  Claims.timerMatchDoes ∧ Claims.timerWrapDoes ∧ Claims.timerTopDoes ∧ Claims.routeTimerStartDoes ∧ Claims.routeTimerStopDoes ∧
    Claims.routeTimerCountDoes ∧ Claims.releaseFireDoes ∧ Claims.dmaStartDoes ∧ Claims.dmaAbortDoes ∧ Claims.dmaRequestDoes ∧
    Claims.dmaTransactionDoes

/-- Timer registers: enable, start, stop, load, late flags and counts.
Rests on the model's choices of notes/assumptions: 96. Derived from R448, R447, R442, R444, R443, R445, R53, R446, R451. -/
def Obligations.TimerRegisters : Prop :=
  Claims.timerEnableDoes ∧ Claims.timerStartCmdDoes ∧ Claims.timerStopCmdDoes ∧ Claims.timerLoadCmdDoes ∧
    Claims.timerLateClrDoes ∧ Claims.timerCountLoadDoes ∧ Claims.timerCountReadDoes ∧ Claims.tmFiredClrDoes

/-- Watchdogs and converters: start, keys, check-ins, windows, expiry, results and faults.
Rests on the model's choices of notes/assumptions: 98, 99, 100. Derived from R458, R468, R459, R460, R466, R456, R461, R463, R462, R449, R451, R465. -/
def Obligations.WatchdogsAndConverters : Prop :=
  Claims.watchdogStartDoes ∧ Claims.wdtKey1Does ∧ Claims.wdtKey2Does ∧ Claims.wdtCheckinDoes ∧ Claims.watchdogWindowOpenDoes ∧
    Claims.watchdogExpiryDoes ∧ Claims.converterStartDoes ∧ Claims.conversionResultDoes ∧ Claims.converterFaultDoes ∧
    Claims.cvDataPopDoes ∧ Claims.cvCntClrDoes ∧ Claims.cvFlushDoes

/-- Lockstep: mismatch, resynchronisation, degraded operation and rotation tests.
Rests on the model's choices of notes/assumptions: 67, 94. Derived from R410, R408, R437, R412, R407, R411. -/
def Obligations.LockstepCluster : Prop :=
  Claims.lockstepMismatchDoes ∧ Claims.resyncCopyDoneDoes ∧ Claims.resyncJoinDoneDoes ∧ Claims.degradedTimeoutDoes ∧
    Claims.rotationStartDoes ∧ Claims.rotationTestDoneDoes ∧ Claims.rotReqDoes

/-- The Slack plan: sequence, memory, commit, validation, staleness, scrub and speed source.
Rests on the model's choices of notes/assumptions: 91, 92. Derived from R423, R436, R425, R424, R53, R426, R427. -/
def Obligations.SlackPlan : Prop :=
  Claims.planKeyDoes ∧ Claims.planMemoryWriteDoes ∧ Claims.planHeaderWriteDoes ∧ Claims.planCommitGoDoes ∧
    Claims.planCommitAbortDoes ∧ Claims.planValidationDoneDoes ∧ Claims.planSequenceTimeoutDoes ∧ Claims.planRefreshDoes ∧
    Claims.planStaleDoes ∧ Claims.planScrubDoes ∧ Claims.validUntilReadDoes ∧ Claims.speedSourceSampleDoes ∧
    Claims.speedLostDoes

/-- Slack stops, pre-emption and playback, monitors, scrubs and self-tests.
Rests on the model's choices of notes/assumptions: 89, 90, 93, 95. Derived from R429, R416, R435, R420, R428, R432, R430, R104, R519, R413, R498. -/
def Obligations.StopsAndMonitors : Prop :=
  Claims.slackReqDoes ∧ Claims.slackRelDoes ∧ Claims.preemptionDoes ∧ Claims.slackEntryDeliveryDoes ∧ Claims.slackDoneDoes ∧
    Claims.monitorExcursionDoes ∧ Claims.clockExcursion ∧ Claims.temperatureExcursion ∧ Claims.memoryScrubDoes ∧
    Claims.breakwaterSelfTestDoes ∧ Claims.fuseShadowCheckDoes

/-- The fault collector: latching, reactions, records, isolation and injection.
Rests on the model's choices of notes/assumptions: 89, 90, 95, 118. Derived from R433, R432, R418, R53, R415, R417, R429. -/
def Obligations.FaultCollection : Prop :=
  Claims.recClrDoes ∧ Claims.isoRelDoes ∧ Claims.fcClrDoes ∧ Claims.fcInjectDoes ∧ Claims.fcFirstReadDoes ∧
    Claims.faultLatchDoes ∧ Claims.slackStopBegins ∧ Claims.faultsTogether

/-- Power domains, power states, DORMANT and its wakes.
Rests on the model's choices of notes/assumptions: 26, 103. Derived from R473, R474, R491, R469, R345, R470, R471, R494, R472, R495, R266, R271. -/
def Obligations.DomainsAndDormant : Prop :=
  Claims.domainStartedDoes ∧ Claims.domainPoweredDownDoes ∧ Claims.powerStateChangeDoneDoes ∧ Claims.sramEnableWriteDoes ∧
    Claims.dormantGoDoes ∧ Claims.dormantEnteredDoes ∧ Claims.wakeTimerExpiryDoes ∧ Claims.wakePinDoes ∧ Claims.hostWakeDoes ∧
    Claims.legalEncoderEdgeDoes

/-- Resets, rails, supplies and brown-outs: what each keeps, its cause and its counts.
Rests on the model's choices of notes/assumptions: 25, 27, 28, 102, 104. Derived from R491, R510, R475, R508, R476, R417, R107, R429, R490, R293, R512, R431. -/
def Obligations.ResetCommands : Prop :=
  Claims.powerOnDoes ∧ Claims.deviceResetDoes ∧ Claims.applicationResetDoes ∧ Claims.debugResetDoes ∧ Claims.resetPinDoes ∧
    Claims.railFailureDoes ∧ Claims.railRetryDoes ∧ Claims.supplyLossDoes ∧ Claims.supplyReturnDoes ∧
    Claims.breakwaterBrownoutDoes ∧ Claims.leeBrownoutDoes

/-- The host reporting port: frames, bursts, status, aborts and the boot stream.
Rests on the model's choices of notes/assumptions: 112, 113. Derived from R482, R499, R483. -/
def Obligations.HostPort : Prop :=
  Claims.hrpRead32Does ∧ Claims.hrpWrite32Does ∧ Claims.hrpRead64Does ∧ Claims.hrpWrite64Does ∧ Claims.hrpRmw32Does ∧
    Claims.hrpBurstReadDoes ∧ Claims.hrpBurstWriteDoes ∧ Claims.hrpStatusDoes ∧ Claims.hrpFrameAbortDoes ∧ Claims.hrpClrDoes ∧
    Claims.bootGoDoes

/-- Self-test sequences, register scrub, life cycle, rollback and key revocation.
Rests on the model's choices of notes/assumptions: 28, 111, 114. Derived from R485, R496, R481, R486, R497, R72, R413, R420, R489. -/
def Obligations.SelfTestAndLifeCycle : Prop :=
  Claims.bistSramMarchDoes ∧ Claims.bistTrackerMarchDoes ∧ Claims.bistTqfMarchDoes ∧ Claims.bistSwellEngineDoes ∧
    Claims.bistSurfGroupDoes ∧ Claims.bistGheryQuadDoes ∧ Claims.bistDomainStartupDoes ∧ Claims.bistSequenceDoneDoes ∧
    Claims.registerScrubDoes ∧ Claims.lcReqDoes ∧ Claims.rbAdvanceDoes ∧ Claims.keyRevokeSetDoes
end

