-- ==== Sys2Proof/Laws/Tables.lean ====
section
/-! SUPPORT. Sparse tables: what a store, a deletion and a clearing leave at every number. -/
set_option Elab.async false
namespace Sys2Proof.Machine

variable {α : Type}

@[simp] theorem tabGet?_put (t : Tab α) (k : Nat) (v : α) : tabGet? (tabPut t k v) k = some v := by
  induction t with
  | nil => simp [tabPut, tabGet?]
  | cons e t ih =>
    simp only [tabPut]
    split
    · simp [tabGet?]
    · split
      · simp [tabGet?]
      · simp [tabGet?, ih, ‹¬ k = e.1›]

theorem tabGet?_put_ne (t : Tab α) {k j : Nat} (v : α) (h : j ≠ k) : tabGet? (tabPut t k v) j = tabGet? t j := by
  induction t with
  | nil => simp [tabPut, tabGet?, h]
  | cons e t ih =>
    simp only [tabPut]
    split
    · simp [tabGet?, h]
    · split
      · rename_i hk; simp [tabGet?, h, ← hk]
      · simp [tabGet?, ih]

@[simp] theorem tabGet?_del (t : Tab α) (k : Nat) : tabGet? (tabDel t k) k = none := by
  induction t with
  | nil => simp [tabDel, tabGet?]
  | cons e t ih =>
    simp only [tabDel, List.filter_cons] at ih ⊢
    split
    · simp_all [tabGet?]; intro h; exact absurd h.symm ‹_›
    · exact ih

theorem tabGet?_del_ne (t : Tab α) {k j : Nat} (h : j ≠ k) : tabGet? (tabDel t k) j = tabGet? t j := by
  induction t with
  | nil => simp [tabDel, tabGet?]
  | cons e t ih =>
    simp only [tabDel, List.filter_cons] at ih ⊢
    split
    · simp only [tabGet?, ih]
    · rw [ih]; simp_all [tabGet?]

@[simp] theorem tabGet_put (d : α) (t : Tab α) (k : Nat) (v : α) : tabGet d (tabPut t k v) k = v := by simp [tabGet]

theorem tabGet_put_ne (d : α) (t : Tab α) {k j : Nat} (v : α) (h : j ≠ k) : tabGet d (tabPut t k v) j = tabGet d t j := by
  simp [tabGet, tabGet?_put_ne t v h]

@[simp] theorem tabGet_set [DecidableEq α] (d : α) (t : Tab α) (k : Nat) (v : α) : tabGet d (tabSet d t k v) k = v := by
  unfold tabSet; split
  · simp_all [tabGet]
  · simp

theorem tabGet_set_ne [DecidableEq α] (d d' : α) (t : Tab α) {k j : Nat} (v : α) (h : j ≠ k) :
    tabGet d' (tabSet d t k v) j = tabGet d' t j := by
  unfold tabSet; split
  · simp [tabGet, tabGet?_del_ne t h]
  · exact tabGet_put_ne d' t v h

/-- A clearing of [lo, hi): a number inside it lists nothing, one outside it what it listed. -/
theorem tabGet?_clear (t : Tab α) (lo hi j : Nat) :
    tabGet? (tabClear t lo hi) j = if lo ≤ j ∧ j < hi then none else tabGet? t j := by
  induction t with
  | nil => simp [tabClear, tabGet?]
  | cons e t ih =>
    simp only [tabClear, List.filter_cons] at ih ⊢
    split <;> rename_i h <;> simp only [Bool.or_eq_true, decide_eq_true_eq, not_or, Nat.not_lt] at h
    · simp only [tabGet?, ih]; split
      · subst_vars; rw [if_neg (by omega)]
      · rfl
    · rw [ih]; split
      · rfl
      · simp only [tabGet?]; rw [if_neg]; intro hj; subst hj; omega

/-! ### Registers -/

@[simp] theorem State.rd_wr (s : State) (a : Nat) (w : Word) : (s.wr a w).rd a = w := by simp [State.rd, State.wr]

theorem State.rd_wr_ne (s : State) {a b : Nat} (w : Word) (h : b ≠ a) : (s.wr a w).rd b = s.rd b := by
  simp [State.rd, State.wr, tabGet_set_ne _ _ _ _ h]

@[simp] theorem State.reg_setReg (s : State) (p : Page) (off : Nat) (w : Word) : (s.setReg p off w).reg p off = w := by
  simp [State.reg, State.setReg]

theorem State.rd_setReg_ne (s : State) {p : Page} {off b : Nat} (w : Word) (h : b ≠ p.base + off) :
    (s.setReg p off w).rd b = s.rd b := State.rd_wr_ne s w h

/-! ### Memory -/

@[simp] theorem readByte_writeByte (m : List Host.Cell) (a : Nat) (b : Byte) : readByte (writeByte m a b) a = b := by
  simp [readByte, writeByte]

theorem readByte_writeByte_ne (m : List Host.Cell) {a x : Nat} (b : Byte) (h : x ≠ a) :
    readByte (writeByte m a b) x = readByte m x := by
  simp [readByte, writeByte, tabGet_set_ne _ _ _ _ h]

/-- Bytes written from `a` upward leave every byte outside [a, a + n) as it was. -/
theorem readByte_writeBytes_out (bs : List Nat) (m : List Host.Cell) (a x : Nat) (h : x < a ∨ a + bs.length ≤ x) :
    readByte (writeBytes m a bs) x = readByte m x := by
  induction bs generalizing m a with
  | nil => rfl
  | cons b bs ih =>
    rw [writeBytes, ih _ _ (by simp only [List.length_cons] at h; omega), readByte_writeByte_ne]
    simp only [List.length_cons] at h; omega

/-- Bytes written from `a` upward: byte i of them stands at a + i. -/
theorem readByte_writeBytes_in (bs : List Nat) (m : List Host.Cell) (a i : Nat) (h : i < bs.length) :
    readByte (writeBytes m a bs) (a + i) = BitVec.ofNat 8 (bs[i]) := by
  induction bs generalizing m a i with
  | nil => simp at h
  | cons b bs ih =>
    cases i with
    | zero => rw [writeBytes, readByte_writeBytes_out _ _ _ _ (by omega)]; simp
    | succ i =>
      rw [writeBytes, show a + (i + 1) = (a + 1) + i by omega, ih _ _ _ (by simpa using h)]; simp

end Sys2Proof.Machine
end

