-- ==== Sys2Proof/Laws/State.lean ====
section
/-! SUPPORT. What each update of the state leaves of each part of it. -/
set_option Elab.async false
namespace Sys2Proof.Machine

/-! `wr` writes regs alone. -/

@[simp] theorem State.wr_now (s : State) (a : Nat) (w : Word) : (s.wr a w).now = s.now := rfl
@[simp] theorem State.wr_fieldNow (s : State) (a : Nat) (w : Word) : (s.wr a w).fieldNow = s.fieldNow := rfl
@[simp] theorem State.wr_free (s : State) (a : Nat) (w : Word) : (s.wr a w).free = s.free := rfl
@[simp] theorem State.wr_fuses (s : State) (a : Nat) (w : Word) : (s.wr a w).fuses = s.fuses := rfl
@[simp] theorem State.wr_mem (s : State) (a : Nat) (w : Word) : (s.wr a w).mem = s.mem := rfl
@[simp] theorem State.wr_tags (s : State) (a : Nat) (w : Word) : (s.wr a w).tags = s.tags := rfl
@[simp] theorem State.wr_fab (s : State) (a : Nat) (w : Word) : (s.wr a w).fab = s.fab := rfl
@[simp] theorem State.wr_tbs (s : State) (a : Nat) (w : Word) : (s.wr a w).tbs = s.tbs := rfl
@[simp] theorem State.wr_tqf (s : State) (a : Nat) (w : Word) : (s.wr a w).tqf = s.tqf := rfl
@[simp] theorem State.wr_box (s : State) (a : Nat) (w : Word) : (s.wr a w).box = s.box := rfl
@[simp] theorem State.wr_src (s : State) (a : Nat) (w : Word) : (s.wr a w).src = s.src := rfl
@[simp] theorem State.wr_pins (s : State) (a : Nat) (w : Word) : (s.wr a w).pins = s.pins := rfl
@[simp] theorem State.wr_banks (s : State) (a : Nat) (w : Word) : (s.wr a w).banks = s.banks := rfl
@[simp] theorem State.wr_gens (s : State) (a : Nat) (w : Word) : (s.wr a w).gens = s.gens := rfl
@[simp] theorem State.wr_tlog (s : State) (a : Nat) (w : Word) : (s.wr a w).tlog = s.tlog := rfl
@[simp] theorem State.wr_net (s : State) (a : Nat) (w : Word) : (s.wr a w).net = s.net := rfl
@[simp] theorem State.wr_trk (s : State) (a : Nat) (w : Word) : (s.wr a w).trk = s.trk := rfl
@[simp] theorem State.wr_roll (s : State) (a : Nat) (w : Word) : (s.wr a w).roll = s.roll := rfl
@[simp] theorem State.wr_gh (s : State) (a : Nat) (w : Word) : (s.wr a w).gh = s.gh := rfl
@[simp] theorem State.wr_surf (s : State) (a : Nat) (w : Word) : (s.wr a w).surf = s.surf := rfl
@[simp] theorem State.wr_tm (s : State) (a : Nat) (w : Word) : (s.wr a w).tm = s.tm := rfl
@[simp] theorem State.wr_domains (s : State) (a : Nat) (w : Word) : (s.wr a w).domains = s.domains := rfl
@[simp] theorem State.wr_power (s : State) (a : Nat) (w : Word) : (s.wr a w).power = s.power := rfl
@[simp] theorem State.wr_raised (s : State) (a : Nat) (w : Word) : (s.wr a w).raised = s.raised := rfl
@[simp] theorem State.wr_sv (s : State) (a : Nat) (w : Word) : (s.wr a w).sv = s.sv := rfl
@[simp] theorem State.wr_swell (s : State) (a : Nat) (w : Word) : (s.wr a w).swell = s.swell := rfl
@[simp] theorem State.wr_bw (s : State) (a : Nat) (w : Word) : (s.wr a w).bw = s.bw := rfl
@[simp] theorem State.wr_tmr (s : State) (a : Nat) (w : Word) : (s.wr a w).tmr = s.tmr := rfl
@[simp] theorem State.wr_routes (s : State) (a : Nat) (w : Word) : (s.wr a w).routes = s.routes := rfl
@[simp] theorem State.wr_dma (s : State) (a : Nat) (w : Word) : (s.wr a w).dma = s.dma := rfl
@[simp] theorem State.wr_wdt (s : State) (a : Nat) (w : Word) : (s.wr a w).wdt = s.wdt := rfl
@[simp] theorem State.wr_conv (s : State) (a : Nat) (w : Word) : (s.wr a w).conv = s.conv := rfl
@[simp] theorem State.wr_supply (s : State) (a : Nat) (w : Word) : (s.wr a w).supply = s.supply := rfl
@[simp] theorem State.wr_dormant (s : State) (a : Nat) (w : Word) : (s.wr a w).dormant = s.dormant := rfl
@[simp] theorem State.wr_boot (s : State) (a : Nat) (w : Word) : (s.wr a w).boot = s.boot := rfl
@[simp] theorem State.wr_pending (s : State) (a : Nat) (w : Word) : (s.wr a w).pending = s.pending := rfl

/-! `setReg` writes regs alone. -/

@[simp] theorem State.setReg_now (s : State) (p : Page) (off : Nat) (w : Word) : (s.setReg p off w).now = s.now := State.wr_now s _ _
@[simp] theorem State.setReg_fieldNow (s : State) (p : Page) (off : Nat) (w : Word) : (s.setReg p off w).fieldNow = s.fieldNow := State.wr_fieldNow s _ _
@[simp] theorem State.setReg_free (s : State) (p : Page) (off : Nat) (w : Word) : (s.setReg p off w).free = s.free := State.wr_free s _ _
@[simp] theorem State.setReg_fuses (s : State) (p : Page) (off : Nat) (w : Word) : (s.setReg p off w).fuses = s.fuses := State.wr_fuses s _ _
@[simp] theorem State.setReg_mem (s : State) (p : Page) (off : Nat) (w : Word) : (s.setReg p off w).mem = s.mem := State.wr_mem s _ _
@[simp] theorem State.setReg_tags (s : State) (p : Page) (off : Nat) (w : Word) : (s.setReg p off w).tags = s.tags := State.wr_tags s _ _
@[simp] theorem State.setReg_fab (s : State) (p : Page) (off : Nat) (w : Word) : (s.setReg p off w).fab = s.fab := State.wr_fab s _ _
@[simp] theorem State.setReg_tbs (s : State) (p : Page) (off : Nat) (w : Word) : (s.setReg p off w).tbs = s.tbs := State.wr_tbs s _ _
@[simp] theorem State.setReg_tqf (s : State) (p : Page) (off : Nat) (w : Word) : (s.setReg p off w).tqf = s.tqf := State.wr_tqf s _ _
@[simp] theorem State.setReg_box (s : State) (p : Page) (off : Nat) (w : Word) : (s.setReg p off w).box = s.box := State.wr_box s _ _
@[simp] theorem State.setReg_src (s : State) (p : Page) (off : Nat) (w : Word) : (s.setReg p off w).src = s.src := State.wr_src s _ _
@[simp] theorem State.setReg_pins (s : State) (p : Page) (off : Nat) (w : Word) : (s.setReg p off w).pins = s.pins := State.wr_pins s _ _
@[simp] theorem State.setReg_banks (s : State) (p : Page) (off : Nat) (w : Word) : (s.setReg p off w).banks = s.banks := State.wr_banks s _ _
@[simp] theorem State.setReg_gens (s : State) (p : Page) (off : Nat) (w : Word) : (s.setReg p off w).gens = s.gens := State.wr_gens s _ _
@[simp] theorem State.setReg_tlog (s : State) (p : Page) (off : Nat) (w : Word) : (s.setReg p off w).tlog = s.tlog := State.wr_tlog s _ _
@[simp] theorem State.setReg_net (s : State) (p : Page) (off : Nat) (w : Word) : (s.setReg p off w).net = s.net := State.wr_net s _ _
@[simp] theorem State.setReg_trk (s : State) (p : Page) (off : Nat) (w : Word) : (s.setReg p off w).trk = s.trk := State.wr_trk s _ _
@[simp] theorem State.setReg_roll (s : State) (p : Page) (off : Nat) (w : Word) : (s.setReg p off w).roll = s.roll := State.wr_roll s _ _
@[simp] theorem State.setReg_gh (s : State) (p : Page) (off : Nat) (w : Word) : (s.setReg p off w).gh = s.gh := State.wr_gh s _ _
@[simp] theorem State.setReg_surf (s : State) (p : Page) (off : Nat) (w : Word) : (s.setReg p off w).surf = s.surf := State.wr_surf s _ _
@[simp] theorem State.setReg_tm (s : State) (p : Page) (off : Nat) (w : Word) : (s.setReg p off w).tm = s.tm := State.wr_tm s _ _
@[simp] theorem State.setReg_domains (s : State) (p : Page) (off : Nat) (w : Word) : (s.setReg p off w).domains = s.domains := State.wr_domains s _ _
@[simp] theorem State.setReg_power (s : State) (p : Page) (off : Nat) (w : Word) : (s.setReg p off w).power = s.power := State.wr_power s _ _
@[simp] theorem State.setReg_raised (s : State) (p : Page) (off : Nat) (w : Word) : (s.setReg p off w).raised = s.raised := State.wr_raised s _ _
@[simp] theorem State.setReg_sv (s : State) (p : Page) (off : Nat) (w : Word) : (s.setReg p off w).sv = s.sv := State.wr_sv s _ _
@[simp] theorem State.setReg_swell (s : State) (p : Page) (off : Nat) (w : Word) : (s.setReg p off w).swell = s.swell := State.wr_swell s _ _
@[simp] theorem State.setReg_bw (s : State) (p : Page) (off : Nat) (w : Word) : (s.setReg p off w).bw = s.bw := State.wr_bw s _ _
@[simp] theorem State.setReg_tmr (s : State) (p : Page) (off : Nat) (w : Word) : (s.setReg p off w).tmr = s.tmr := State.wr_tmr s _ _
@[simp] theorem State.setReg_routes (s : State) (p : Page) (off : Nat) (w : Word) : (s.setReg p off w).routes = s.routes := State.wr_routes s _ _
@[simp] theorem State.setReg_dma (s : State) (p : Page) (off : Nat) (w : Word) : (s.setReg p off w).dma = s.dma := State.wr_dma s _ _
@[simp] theorem State.setReg_wdt (s : State) (p : Page) (off : Nat) (w : Word) : (s.setReg p off w).wdt = s.wdt := State.wr_wdt s _ _
@[simp] theorem State.setReg_conv (s : State) (p : Page) (off : Nat) (w : Word) : (s.setReg p off w).conv = s.conv := State.wr_conv s _ _
@[simp] theorem State.setReg_supply (s : State) (p : Page) (off : Nat) (w : Word) : (s.setReg p off w).supply = s.supply := State.wr_supply s _ _
@[simp] theorem State.setReg_dormant (s : State) (p : Page) (off : Nat) (w : Word) : (s.setReg p off w).dormant = s.dormant := State.wr_dormant s _ _
@[simp] theorem State.setReg_boot (s : State) (p : Page) (off : Nat) (w : Word) : (s.setReg p off w).boot = s.boot := State.wr_boot s _ _
@[simp] theorem State.setReg_pending (s : State) (p : Page) (off : Nat) (w : Word) : (s.setReg p off w).pending = s.pending := State.wr_pending s _ _

/-! `setRegF` writes regs alone. -/

@[simp] theorem State.setRegF_now (s : State) (p : Page) (off lo n v : Nat) : (s.setRegF p off lo n v).now = s.now := State.setReg_now s _ _ _
@[simp] theorem State.setRegF_fieldNow (s : State) (p : Page) (off lo n v : Nat) : (s.setRegF p off lo n v).fieldNow = s.fieldNow := State.setReg_fieldNow s _ _ _
@[simp] theorem State.setRegF_free (s : State) (p : Page) (off lo n v : Nat) : (s.setRegF p off lo n v).free = s.free := State.setReg_free s _ _ _
@[simp] theorem State.setRegF_fuses (s : State) (p : Page) (off lo n v : Nat) : (s.setRegF p off lo n v).fuses = s.fuses := State.setReg_fuses s _ _ _
@[simp] theorem State.setRegF_mem (s : State) (p : Page) (off lo n v : Nat) : (s.setRegF p off lo n v).mem = s.mem := State.setReg_mem s _ _ _
@[simp] theorem State.setRegF_tags (s : State) (p : Page) (off lo n v : Nat) : (s.setRegF p off lo n v).tags = s.tags := State.setReg_tags s _ _ _
@[simp] theorem State.setRegF_fab (s : State) (p : Page) (off lo n v : Nat) : (s.setRegF p off lo n v).fab = s.fab := State.setReg_fab s _ _ _
@[simp] theorem State.setRegF_tbs (s : State) (p : Page) (off lo n v : Nat) : (s.setRegF p off lo n v).tbs = s.tbs := State.setReg_tbs s _ _ _
@[simp] theorem State.setRegF_tqf (s : State) (p : Page) (off lo n v : Nat) : (s.setRegF p off lo n v).tqf = s.tqf := State.setReg_tqf s _ _ _
@[simp] theorem State.setRegF_box (s : State) (p : Page) (off lo n v : Nat) : (s.setRegF p off lo n v).box = s.box := State.setReg_box s _ _ _
@[simp] theorem State.setRegF_src (s : State) (p : Page) (off lo n v : Nat) : (s.setRegF p off lo n v).src = s.src := State.setReg_src s _ _ _
@[simp] theorem State.setRegF_pins (s : State) (p : Page) (off lo n v : Nat) : (s.setRegF p off lo n v).pins = s.pins := State.setReg_pins s _ _ _
@[simp] theorem State.setRegF_banks (s : State) (p : Page) (off lo n v : Nat) : (s.setRegF p off lo n v).banks = s.banks := State.setReg_banks s _ _ _
@[simp] theorem State.setRegF_gens (s : State) (p : Page) (off lo n v : Nat) : (s.setRegF p off lo n v).gens = s.gens := State.setReg_gens s _ _ _
@[simp] theorem State.setRegF_tlog (s : State) (p : Page) (off lo n v : Nat) : (s.setRegF p off lo n v).tlog = s.tlog := State.setReg_tlog s _ _ _
@[simp] theorem State.setRegF_net (s : State) (p : Page) (off lo n v : Nat) : (s.setRegF p off lo n v).net = s.net := State.setReg_net s _ _ _
@[simp] theorem State.setRegF_trk (s : State) (p : Page) (off lo n v : Nat) : (s.setRegF p off lo n v).trk = s.trk := State.setReg_trk s _ _ _
@[simp] theorem State.setRegF_roll (s : State) (p : Page) (off lo n v : Nat) : (s.setRegF p off lo n v).roll = s.roll := State.setReg_roll s _ _ _
@[simp] theorem State.setRegF_gh (s : State) (p : Page) (off lo n v : Nat) : (s.setRegF p off lo n v).gh = s.gh := State.setReg_gh s _ _ _
@[simp] theorem State.setRegF_surf (s : State) (p : Page) (off lo n v : Nat) : (s.setRegF p off lo n v).surf = s.surf := State.setReg_surf s _ _ _
@[simp] theorem State.setRegF_tm (s : State) (p : Page) (off lo n v : Nat) : (s.setRegF p off lo n v).tm = s.tm := State.setReg_tm s _ _ _
@[simp] theorem State.setRegF_domains (s : State) (p : Page) (off lo n v : Nat) : (s.setRegF p off lo n v).domains = s.domains := State.setReg_domains s _ _ _
@[simp] theorem State.setRegF_power (s : State) (p : Page) (off lo n v : Nat) : (s.setRegF p off lo n v).power = s.power := State.setReg_power s _ _ _
@[simp] theorem State.setRegF_raised (s : State) (p : Page) (off lo n v : Nat) : (s.setRegF p off lo n v).raised = s.raised := State.setReg_raised s _ _ _
@[simp] theorem State.setRegF_sv (s : State) (p : Page) (off lo n v : Nat) : (s.setRegF p off lo n v).sv = s.sv := State.setReg_sv s _ _ _
@[simp] theorem State.setRegF_swell (s : State) (p : Page) (off lo n v : Nat) : (s.setRegF p off lo n v).swell = s.swell := State.setReg_swell s _ _ _
@[simp] theorem State.setRegF_bw (s : State) (p : Page) (off lo n v : Nat) : (s.setRegF p off lo n v).bw = s.bw := State.setReg_bw s _ _ _
@[simp] theorem State.setRegF_tmr (s : State) (p : Page) (off lo n v : Nat) : (s.setRegF p off lo n v).tmr = s.tmr := State.setReg_tmr s _ _ _
@[simp] theorem State.setRegF_routes (s : State) (p : Page) (off lo n v : Nat) : (s.setRegF p off lo n v).routes = s.routes := State.setReg_routes s _ _ _
@[simp] theorem State.setRegF_dma (s : State) (p : Page) (off lo n v : Nat) : (s.setRegF p off lo n v).dma = s.dma := State.setReg_dma s _ _ _
@[simp] theorem State.setRegF_wdt (s : State) (p : Page) (off lo n v : Nat) : (s.setRegF p off lo n v).wdt = s.wdt := State.setReg_wdt s _ _ _
@[simp] theorem State.setRegF_conv (s : State) (p : Page) (off lo n v : Nat) : (s.setRegF p off lo n v).conv = s.conv := State.setReg_conv s _ _ _
@[simp] theorem State.setRegF_supply (s : State) (p : Page) (off lo n v : Nat) : (s.setRegF p off lo n v).supply = s.supply := State.setReg_supply s _ _ _
@[simp] theorem State.setRegF_dormant (s : State) (p : Page) (off lo n v : Nat) : (s.setRegF p off lo n v).dormant = s.dormant := State.setReg_dormant s _ _ _
@[simp] theorem State.setRegF_boot (s : State) (p : Page) (off lo n v : Nat) : (s.setRegF p off lo n v).boot = s.boot := State.setReg_boot s _ _ _
@[simp] theorem State.setRegF_pending (s : State) (p : Page) (off lo n v : Nat) : (s.setRegF p off lo n v).pending = s.pending := State.setReg_pending s _ _ _

/-! `setReg64` writes regs alone. -/

@[simp] theorem State.setReg64_now (s : State) (p : Page) (off v : Nat) : (s.setReg64 p off v).now = s.now := (State.setReg_now _ _ _ _).trans (State.setReg_now s _ _ _)
@[simp] theorem State.setReg64_fieldNow (s : State) (p : Page) (off v : Nat) : (s.setReg64 p off v).fieldNow = s.fieldNow := (State.setReg_fieldNow _ _ _ _).trans (State.setReg_fieldNow s _ _ _)
@[simp] theorem State.setReg64_free (s : State) (p : Page) (off v : Nat) : (s.setReg64 p off v).free = s.free := (State.setReg_free _ _ _ _).trans (State.setReg_free s _ _ _)
@[simp] theorem State.setReg64_fuses (s : State) (p : Page) (off v : Nat) : (s.setReg64 p off v).fuses = s.fuses := (State.setReg_fuses _ _ _ _).trans (State.setReg_fuses s _ _ _)
@[simp] theorem State.setReg64_mem (s : State) (p : Page) (off v : Nat) : (s.setReg64 p off v).mem = s.mem := (State.setReg_mem _ _ _ _).trans (State.setReg_mem s _ _ _)
@[simp] theorem State.setReg64_tags (s : State) (p : Page) (off v : Nat) : (s.setReg64 p off v).tags = s.tags := (State.setReg_tags _ _ _ _).trans (State.setReg_tags s _ _ _)
@[simp] theorem State.setReg64_fab (s : State) (p : Page) (off v : Nat) : (s.setReg64 p off v).fab = s.fab := (State.setReg_fab _ _ _ _).trans (State.setReg_fab s _ _ _)
@[simp] theorem State.setReg64_tbs (s : State) (p : Page) (off v : Nat) : (s.setReg64 p off v).tbs = s.tbs := (State.setReg_tbs _ _ _ _).trans (State.setReg_tbs s _ _ _)
@[simp] theorem State.setReg64_tqf (s : State) (p : Page) (off v : Nat) : (s.setReg64 p off v).tqf = s.tqf := (State.setReg_tqf _ _ _ _).trans (State.setReg_tqf s _ _ _)
@[simp] theorem State.setReg64_box (s : State) (p : Page) (off v : Nat) : (s.setReg64 p off v).box = s.box := (State.setReg_box _ _ _ _).trans (State.setReg_box s _ _ _)
@[simp] theorem State.setReg64_src (s : State) (p : Page) (off v : Nat) : (s.setReg64 p off v).src = s.src := (State.setReg_src _ _ _ _).trans (State.setReg_src s _ _ _)
@[simp] theorem State.setReg64_pins (s : State) (p : Page) (off v : Nat) : (s.setReg64 p off v).pins = s.pins := (State.setReg_pins _ _ _ _).trans (State.setReg_pins s _ _ _)
@[simp] theorem State.setReg64_banks (s : State) (p : Page) (off v : Nat) : (s.setReg64 p off v).banks = s.banks := (State.setReg_banks _ _ _ _).trans (State.setReg_banks s _ _ _)
@[simp] theorem State.setReg64_gens (s : State) (p : Page) (off v : Nat) : (s.setReg64 p off v).gens = s.gens := (State.setReg_gens _ _ _ _).trans (State.setReg_gens s _ _ _)
@[simp] theorem State.setReg64_tlog (s : State) (p : Page) (off v : Nat) : (s.setReg64 p off v).tlog = s.tlog := (State.setReg_tlog _ _ _ _).trans (State.setReg_tlog s _ _ _)
@[simp] theorem State.setReg64_net (s : State) (p : Page) (off v : Nat) : (s.setReg64 p off v).net = s.net := (State.setReg_net _ _ _ _).trans (State.setReg_net s _ _ _)
@[simp] theorem State.setReg64_trk (s : State) (p : Page) (off v : Nat) : (s.setReg64 p off v).trk = s.trk := (State.setReg_trk _ _ _ _).trans (State.setReg_trk s _ _ _)
@[simp] theorem State.setReg64_roll (s : State) (p : Page) (off v : Nat) : (s.setReg64 p off v).roll = s.roll := (State.setReg_roll _ _ _ _).trans (State.setReg_roll s _ _ _)
@[simp] theorem State.setReg64_gh (s : State) (p : Page) (off v : Nat) : (s.setReg64 p off v).gh = s.gh := (State.setReg_gh _ _ _ _).trans (State.setReg_gh s _ _ _)
@[simp] theorem State.setReg64_surf (s : State) (p : Page) (off v : Nat) : (s.setReg64 p off v).surf = s.surf := (State.setReg_surf _ _ _ _).trans (State.setReg_surf s _ _ _)
@[simp] theorem State.setReg64_tm (s : State) (p : Page) (off v : Nat) : (s.setReg64 p off v).tm = s.tm := (State.setReg_tm _ _ _ _).trans (State.setReg_tm s _ _ _)
@[simp] theorem State.setReg64_domains (s : State) (p : Page) (off v : Nat) : (s.setReg64 p off v).domains = s.domains := (State.setReg_domains _ _ _ _).trans (State.setReg_domains s _ _ _)
@[simp] theorem State.setReg64_power (s : State) (p : Page) (off v : Nat) : (s.setReg64 p off v).power = s.power := (State.setReg_power _ _ _ _).trans (State.setReg_power s _ _ _)
@[simp] theorem State.setReg64_raised (s : State) (p : Page) (off v : Nat) : (s.setReg64 p off v).raised = s.raised := (State.setReg_raised _ _ _ _).trans (State.setReg_raised s _ _ _)
@[simp] theorem State.setReg64_sv (s : State) (p : Page) (off v : Nat) : (s.setReg64 p off v).sv = s.sv := (State.setReg_sv _ _ _ _).trans (State.setReg_sv s _ _ _)
@[simp] theorem State.setReg64_swell (s : State) (p : Page) (off v : Nat) : (s.setReg64 p off v).swell = s.swell := (State.setReg_swell _ _ _ _).trans (State.setReg_swell s _ _ _)
@[simp] theorem State.setReg64_bw (s : State) (p : Page) (off v : Nat) : (s.setReg64 p off v).bw = s.bw := (State.setReg_bw _ _ _ _).trans (State.setReg_bw s _ _ _)
@[simp] theorem State.setReg64_tmr (s : State) (p : Page) (off v : Nat) : (s.setReg64 p off v).tmr = s.tmr := (State.setReg_tmr _ _ _ _).trans (State.setReg_tmr s _ _ _)
@[simp] theorem State.setReg64_routes (s : State) (p : Page) (off v : Nat) : (s.setReg64 p off v).routes = s.routes := (State.setReg_routes _ _ _ _).trans (State.setReg_routes s _ _ _)
@[simp] theorem State.setReg64_dma (s : State) (p : Page) (off v : Nat) : (s.setReg64 p off v).dma = s.dma := (State.setReg_dma _ _ _ _).trans (State.setReg_dma s _ _ _)
@[simp] theorem State.setReg64_wdt (s : State) (p : Page) (off v : Nat) : (s.setReg64 p off v).wdt = s.wdt := (State.setReg_wdt _ _ _ _).trans (State.setReg_wdt s _ _ _)
@[simp] theorem State.setReg64_conv (s : State) (p : Page) (off v : Nat) : (s.setReg64 p off v).conv = s.conv := (State.setReg_conv _ _ _ _).trans (State.setReg_conv s _ _ _)
@[simp] theorem State.setReg64_supply (s : State) (p : Page) (off v : Nat) : (s.setReg64 p off v).supply = s.supply := (State.setReg_supply _ _ _ _).trans (State.setReg_supply s _ _ _)
@[simp] theorem State.setReg64_dormant (s : State) (p : Page) (off v : Nat) : (s.setReg64 p off v).dormant = s.dormant := (State.setReg_dormant _ _ _ _).trans (State.setReg_dormant s _ _ _)
@[simp] theorem State.setReg64_boot (s : State) (p : Page) (off v : Nat) : (s.setReg64 p off v).boot = s.boot := (State.setReg_boot _ _ _ _).trans (State.setReg_boot s _ _ _)
@[simp] theorem State.setReg64_pending (s : State) (p : Page) (off v : Nat) : (s.setReg64 p off v).pending = s.pending := (State.setReg_pending _ _ _ _).trans (State.setReg_pending s _ _ _)

/-! `satInc` writes regs alone. -/

@[simp] theorem State.satInc_now (s : State) (p : Page) (off n : Nat) : (s.satInc p off n).now = s.now := State.setReg_now s _ _ _
@[simp] theorem State.satInc_fieldNow (s : State) (p : Page) (off n : Nat) : (s.satInc p off n).fieldNow = s.fieldNow := State.setReg_fieldNow s _ _ _
@[simp] theorem State.satInc_free (s : State) (p : Page) (off n : Nat) : (s.satInc p off n).free = s.free := State.setReg_free s _ _ _
@[simp] theorem State.satInc_fuses (s : State) (p : Page) (off n : Nat) : (s.satInc p off n).fuses = s.fuses := State.setReg_fuses s _ _ _
@[simp] theorem State.satInc_mem (s : State) (p : Page) (off n : Nat) : (s.satInc p off n).mem = s.mem := State.setReg_mem s _ _ _
@[simp] theorem State.satInc_tags (s : State) (p : Page) (off n : Nat) : (s.satInc p off n).tags = s.tags := State.setReg_tags s _ _ _
@[simp] theorem State.satInc_fab (s : State) (p : Page) (off n : Nat) : (s.satInc p off n).fab = s.fab := State.setReg_fab s _ _ _
@[simp] theorem State.satInc_tbs (s : State) (p : Page) (off n : Nat) : (s.satInc p off n).tbs = s.tbs := State.setReg_tbs s _ _ _
@[simp] theorem State.satInc_tqf (s : State) (p : Page) (off n : Nat) : (s.satInc p off n).tqf = s.tqf := State.setReg_tqf s _ _ _
@[simp] theorem State.satInc_box (s : State) (p : Page) (off n : Nat) : (s.satInc p off n).box = s.box := State.setReg_box s _ _ _
@[simp] theorem State.satInc_src (s : State) (p : Page) (off n : Nat) : (s.satInc p off n).src = s.src := State.setReg_src s _ _ _
@[simp] theorem State.satInc_pins (s : State) (p : Page) (off n : Nat) : (s.satInc p off n).pins = s.pins := State.setReg_pins s _ _ _
@[simp] theorem State.satInc_banks (s : State) (p : Page) (off n : Nat) : (s.satInc p off n).banks = s.banks := State.setReg_banks s _ _ _
@[simp] theorem State.satInc_gens (s : State) (p : Page) (off n : Nat) : (s.satInc p off n).gens = s.gens := State.setReg_gens s _ _ _
@[simp] theorem State.satInc_tlog (s : State) (p : Page) (off n : Nat) : (s.satInc p off n).tlog = s.tlog := State.setReg_tlog s _ _ _
@[simp] theorem State.satInc_net (s : State) (p : Page) (off n : Nat) : (s.satInc p off n).net = s.net := State.setReg_net s _ _ _
@[simp] theorem State.satInc_trk (s : State) (p : Page) (off n : Nat) : (s.satInc p off n).trk = s.trk := State.setReg_trk s _ _ _
@[simp] theorem State.satInc_roll (s : State) (p : Page) (off n : Nat) : (s.satInc p off n).roll = s.roll := State.setReg_roll s _ _ _
@[simp] theorem State.satInc_gh (s : State) (p : Page) (off n : Nat) : (s.satInc p off n).gh = s.gh := State.setReg_gh s _ _ _
@[simp] theorem State.satInc_surf (s : State) (p : Page) (off n : Nat) : (s.satInc p off n).surf = s.surf := State.setReg_surf s _ _ _
@[simp] theorem State.satInc_tm (s : State) (p : Page) (off n : Nat) : (s.satInc p off n).tm = s.tm := State.setReg_tm s _ _ _
@[simp] theorem State.satInc_domains (s : State) (p : Page) (off n : Nat) : (s.satInc p off n).domains = s.domains := State.setReg_domains s _ _ _
@[simp] theorem State.satInc_power (s : State) (p : Page) (off n : Nat) : (s.satInc p off n).power = s.power := State.setReg_power s _ _ _
@[simp] theorem State.satInc_raised (s : State) (p : Page) (off n : Nat) : (s.satInc p off n).raised = s.raised := State.setReg_raised s _ _ _
@[simp] theorem State.satInc_sv (s : State) (p : Page) (off n : Nat) : (s.satInc p off n).sv = s.sv := State.setReg_sv s _ _ _
@[simp] theorem State.satInc_swell (s : State) (p : Page) (off n : Nat) : (s.satInc p off n).swell = s.swell := State.setReg_swell s _ _ _
@[simp] theorem State.satInc_bw (s : State) (p : Page) (off n : Nat) : (s.satInc p off n).bw = s.bw := State.setReg_bw s _ _ _
@[simp] theorem State.satInc_tmr (s : State) (p : Page) (off n : Nat) : (s.satInc p off n).tmr = s.tmr := State.setReg_tmr s _ _ _
@[simp] theorem State.satInc_routes (s : State) (p : Page) (off n : Nat) : (s.satInc p off n).routes = s.routes := State.setReg_routes s _ _ _
@[simp] theorem State.satInc_dma (s : State) (p : Page) (off n : Nat) : (s.satInc p off n).dma = s.dma := State.setReg_dma s _ _ _
@[simp] theorem State.satInc_wdt (s : State) (p : Page) (off n : Nat) : (s.satInc p off n).wdt = s.wdt := State.setReg_wdt s _ _ _
@[simp] theorem State.satInc_conv (s : State) (p : Page) (off n : Nat) : (s.satInc p off n).conv = s.conv := State.setReg_conv s _ _ _
@[simp] theorem State.satInc_supply (s : State) (p : Page) (off n : Nat) : (s.satInc p off n).supply = s.supply := State.setReg_supply s _ _ _
@[simp] theorem State.satInc_dormant (s : State) (p : Page) (off n : Nat) : (s.satInc p off n).dormant = s.dormant := State.setReg_dormant s _ _ _
@[simp] theorem State.satInc_boot (s : State) (p : Page) (off n : Nat) : (s.satInc p off n).boot = s.boot := State.setReg_boot s _ _ _
@[simp] theorem State.satInc_pending (s : State) (p : Page) (off n : Nat) : (s.satInc p off n).pending = s.pending := State.setReg_pending s _ _ _

/-! `wrapInc` writes regs alone. -/

@[simp] theorem State.wrapInc_now (s : State) (p : Page) (off n : Nat) : (s.wrapInc p off n).now = s.now := State.setReg_now s _ _ _
@[simp] theorem State.wrapInc_fieldNow (s : State) (p : Page) (off n : Nat) : (s.wrapInc p off n).fieldNow = s.fieldNow := State.setReg_fieldNow s _ _ _
@[simp] theorem State.wrapInc_free (s : State) (p : Page) (off n : Nat) : (s.wrapInc p off n).free = s.free := State.setReg_free s _ _ _
@[simp] theorem State.wrapInc_fuses (s : State) (p : Page) (off n : Nat) : (s.wrapInc p off n).fuses = s.fuses := State.setReg_fuses s _ _ _
@[simp] theorem State.wrapInc_mem (s : State) (p : Page) (off n : Nat) : (s.wrapInc p off n).mem = s.mem := State.setReg_mem s _ _ _
@[simp] theorem State.wrapInc_tags (s : State) (p : Page) (off n : Nat) : (s.wrapInc p off n).tags = s.tags := State.setReg_tags s _ _ _
@[simp] theorem State.wrapInc_fab (s : State) (p : Page) (off n : Nat) : (s.wrapInc p off n).fab = s.fab := State.setReg_fab s _ _ _
@[simp] theorem State.wrapInc_tbs (s : State) (p : Page) (off n : Nat) : (s.wrapInc p off n).tbs = s.tbs := State.setReg_tbs s _ _ _
@[simp] theorem State.wrapInc_tqf (s : State) (p : Page) (off n : Nat) : (s.wrapInc p off n).tqf = s.tqf := State.setReg_tqf s _ _ _
@[simp] theorem State.wrapInc_box (s : State) (p : Page) (off n : Nat) : (s.wrapInc p off n).box = s.box := State.setReg_box s _ _ _
@[simp] theorem State.wrapInc_src (s : State) (p : Page) (off n : Nat) : (s.wrapInc p off n).src = s.src := State.setReg_src s _ _ _
@[simp] theorem State.wrapInc_pins (s : State) (p : Page) (off n : Nat) : (s.wrapInc p off n).pins = s.pins := State.setReg_pins s _ _ _
@[simp] theorem State.wrapInc_banks (s : State) (p : Page) (off n : Nat) : (s.wrapInc p off n).banks = s.banks := State.setReg_banks s _ _ _
@[simp] theorem State.wrapInc_gens (s : State) (p : Page) (off n : Nat) : (s.wrapInc p off n).gens = s.gens := State.setReg_gens s _ _ _
@[simp] theorem State.wrapInc_tlog (s : State) (p : Page) (off n : Nat) : (s.wrapInc p off n).tlog = s.tlog := State.setReg_tlog s _ _ _
@[simp] theorem State.wrapInc_net (s : State) (p : Page) (off n : Nat) : (s.wrapInc p off n).net = s.net := State.setReg_net s _ _ _
@[simp] theorem State.wrapInc_trk (s : State) (p : Page) (off n : Nat) : (s.wrapInc p off n).trk = s.trk := State.setReg_trk s _ _ _
@[simp] theorem State.wrapInc_roll (s : State) (p : Page) (off n : Nat) : (s.wrapInc p off n).roll = s.roll := State.setReg_roll s _ _ _
@[simp] theorem State.wrapInc_gh (s : State) (p : Page) (off n : Nat) : (s.wrapInc p off n).gh = s.gh := State.setReg_gh s _ _ _
@[simp] theorem State.wrapInc_surf (s : State) (p : Page) (off n : Nat) : (s.wrapInc p off n).surf = s.surf := State.setReg_surf s _ _ _
@[simp] theorem State.wrapInc_tm (s : State) (p : Page) (off n : Nat) : (s.wrapInc p off n).tm = s.tm := State.setReg_tm s _ _ _
@[simp] theorem State.wrapInc_domains (s : State) (p : Page) (off n : Nat) : (s.wrapInc p off n).domains = s.domains := State.setReg_domains s _ _ _
@[simp] theorem State.wrapInc_power (s : State) (p : Page) (off n : Nat) : (s.wrapInc p off n).power = s.power := State.setReg_power s _ _ _
@[simp] theorem State.wrapInc_raised (s : State) (p : Page) (off n : Nat) : (s.wrapInc p off n).raised = s.raised := State.setReg_raised s _ _ _
@[simp] theorem State.wrapInc_sv (s : State) (p : Page) (off n : Nat) : (s.wrapInc p off n).sv = s.sv := State.setReg_sv s _ _ _
@[simp] theorem State.wrapInc_swell (s : State) (p : Page) (off n : Nat) : (s.wrapInc p off n).swell = s.swell := State.setReg_swell s _ _ _
@[simp] theorem State.wrapInc_bw (s : State) (p : Page) (off n : Nat) : (s.wrapInc p off n).bw = s.bw := State.setReg_bw s _ _ _
@[simp] theorem State.wrapInc_tmr (s : State) (p : Page) (off n : Nat) : (s.wrapInc p off n).tmr = s.tmr := State.setReg_tmr s _ _ _
@[simp] theorem State.wrapInc_routes (s : State) (p : Page) (off n : Nat) : (s.wrapInc p off n).routes = s.routes := State.setReg_routes s _ _ _
@[simp] theorem State.wrapInc_dma (s : State) (p : Page) (off n : Nat) : (s.wrapInc p off n).dma = s.dma := State.setReg_dma s _ _ _
@[simp] theorem State.wrapInc_wdt (s : State) (p : Page) (off n : Nat) : (s.wrapInc p off n).wdt = s.wdt := State.setReg_wdt s _ _ _
@[simp] theorem State.wrapInc_conv (s : State) (p : Page) (off n : Nat) : (s.wrapInc p off n).conv = s.conv := State.setReg_conv s _ _ _
@[simp] theorem State.wrapInc_supply (s : State) (p : Page) (off n : Nat) : (s.wrapInc p off n).supply = s.supply := State.setReg_supply s _ _ _
@[simp] theorem State.wrapInc_dormant (s : State) (p : Page) (off n : Nat) : (s.wrapInc p off n).dormant = s.dormant := State.setReg_dormant s _ _ _
@[simp] theorem State.wrapInc_boot (s : State) (p : Page) (off n : Nat) : (s.wrapInc p off n).boot = s.boot := State.setReg_boot s _ _ _
@[simp] theorem State.wrapInc_pending (s : State) (p : Page) (off n : Nat) : (s.wrapInc p off n).pending = s.pending := State.setReg_pending s _ _ _

/-! `satIncF` writes regs alone. -/

@[simp] theorem State.satIncF_now (s : State) (p : Page) (off lo n v : Nat) : (s.satIncF p off lo n v).now = s.now := State.setRegF_now s _ _ _ _ _
@[simp] theorem State.satIncF_fieldNow (s : State) (p : Page) (off lo n v : Nat) : (s.satIncF p off lo n v).fieldNow = s.fieldNow := State.setRegF_fieldNow s _ _ _ _ _
@[simp] theorem State.satIncF_free (s : State) (p : Page) (off lo n v : Nat) : (s.satIncF p off lo n v).free = s.free := State.setRegF_free s _ _ _ _ _
@[simp] theorem State.satIncF_fuses (s : State) (p : Page) (off lo n v : Nat) : (s.satIncF p off lo n v).fuses = s.fuses := State.setRegF_fuses s _ _ _ _ _
@[simp] theorem State.satIncF_mem (s : State) (p : Page) (off lo n v : Nat) : (s.satIncF p off lo n v).mem = s.mem := State.setRegF_mem s _ _ _ _ _
@[simp] theorem State.satIncF_tags (s : State) (p : Page) (off lo n v : Nat) : (s.satIncF p off lo n v).tags = s.tags := State.setRegF_tags s _ _ _ _ _
@[simp] theorem State.satIncF_fab (s : State) (p : Page) (off lo n v : Nat) : (s.satIncF p off lo n v).fab = s.fab := State.setRegF_fab s _ _ _ _ _
@[simp] theorem State.satIncF_tbs (s : State) (p : Page) (off lo n v : Nat) : (s.satIncF p off lo n v).tbs = s.tbs := State.setRegF_tbs s _ _ _ _ _
@[simp] theorem State.satIncF_tqf (s : State) (p : Page) (off lo n v : Nat) : (s.satIncF p off lo n v).tqf = s.tqf := State.setRegF_tqf s _ _ _ _ _
@[simp] theorem State.satIncF_box (s : State) (p : Page) (off lo n v : Nat) : (s.satIncF p off lo n v).box = s.box := State.setRegF_box s _ _ _ _ _
@[simp] theorem State.satIncF_src (s : State) (p : Page) (off lo n v : Nat) : (s.satIncF p off lo n v).src = s.src := State.setRegF_src s _ _ _ _ _
@[simp] theorem State.satIncF_pins (s : State) (p : Page) (off lo n v : Nat) : (s.satIncF p off lo n v).pins = s.pins := State.setRegF_pins s _ _ _ _ _
@[simp] theorem State.satIncF_banks (s : State) (p : Page) (off lo n v : Nat) : (s.satIncF p off lo n v).banks = s.banks := State.setRegF_banks s _ _ _ _ _
@[simp] theorem State.satIncF_gens (s : State) (p : Page) (off lo n v : Nat) : (s.satIncF p off lo n v).gens = s.gens := State.setRegF_gens s _ _ _ _ _
@[simp] theorem State.satIncF_tlog (s : State) (p : Page) (off lo n v : Nat) : (s.satIncF p off lo n v).tlog = s.tlog := State.setRegF_tlog s _ _ _ _ _
@[simp] theorem State.satIncF_net (s : State) (p : Page) (off lo n v : Nat) : (s.satIncF p off lo n v).net = s.net := State.setRegF_net s _ _ _ _ _
@[simp] theorem State.satIncF_trk (s : State) (p : Page) (off lo n v : Nat) : (s.satIncF p off lo n v).trk = s.trk := State.setRegF_trk s _ _ _ _ _
@[simp] theorem State.satIncF_roll (s : State) (p : Page) (off lo n v : Nat) : (s.satIncF p off lo n v).roll = s.roll := State.setRegF_roll s _ _ _ _ _
@[simp] theorem State.satIncF_gh (s : State) (p : Page) (off lo n v : Nat) : (s.satIncF p off lo n v).gh = s.gh := State.setRegF_gh s _ _ _ _ _
@[simp] theorem State.satIncF_surf (s : State) (p : Page) (off lo n v : Nat) : (s.satIncF p off lo n v).surf = s.surf := State.setRegF_surf s _ _ _ _ _
@[simp] theorem State.satIncF_tm (s : State) (p : Page) (off lo n v : Nat) : (s.satIncF p off lo n v).tm = s.tm := State.setRegF_tm s _ _ _ _ _
@[simp] theorem State.satIncF_domains (s : State) (p : Page) (off lo n v : Nat) : (s.satIncF p off lo n v).domains = s.domains := State.setRegF_domains s _ _ _ _ _
@[simp] theorem State.satIncF_power (s : State) (p : Page) (off lo n v : Nat) : (s.satIncF p off lo n v).power = s.power := State.setRegF_power s _ _ _ _ _
@[simp] theorem State.satIncF_raised (s : State) (p : Page) (off lo n v : Nat) : (s.satIncF p off lo n v).raised = s.raised := State.setRegF_raised s _ _ _ _ _
@[simp] theorem State.satIncF_sv (s : State) (p : Page) (off lo n v : Nat) : (s.satIncF p off lo n v).sv = s.sv := State.setRegF_sv s _ _ _ _ _
@[simp] theorem State.satIncF_swell (s : State) (p : Page) (off lo n v : Nat) : (s.satIncF p off lo n v).swell = s.swell := State.setRegF_swell s _ _ _ _ _
@[simp] theorem State.satIncF_bw (s : State) (p : Page) (off lo n v : Nat) : (s.satIncF p off lo n v).bw = s.bw := State.setRegF_bw s _ _ _ _ _
@[simp] theorem State.satIncF_tmr (s : State) (p : Page) (off lo n v : Nat) : (s.satIncF p off lo n v).tmr = s.tmr := State.setRegF_tmr s _ _ _ _ _
@[simp] theorem State.satIncF_routes (s : State) (p : Page) (off lo n v : Nat) : (s.satIncF p off lo n v).routes = s.routes := State.setRegF_routes s _ _ _ _ _
@[simp] theorem State.satIncF_dma (s : State) (p : Page) (off lo n v : Nat) : (s.satIncF p off lo n v).dma = s.dma := State.setRegF_dma s _ _ _ _ _
@[simp] theorem State.satIncF_wdt (s : State) (p : Page) (off lo n v : Nat) : (s.satIncF p off lo n v).wdt = s.wdt := State.setRegF_wdt s _ _ _ _ _
@[simp] theorem State.satIncF_conv (s : State) (p : Page) (off lo n v : Nat) : (s.satIncF p off lo n v).conv = s.conv := State.setRegF_conv s _ _ _ _ _
@[simp] theorem State.satIncF_supply (s : State) (p : Page) (off lo n v : Nat) : (s.satIncF p off lo n v).supply = s.supply := State.setRegF_supply s _ _ _ _ _
@[simp] theorem State.satIncF_dormant (s : State) (p : Page) (off lo n v : Nat) : (s.satIncF p off lo n v).dormant = s.dormant := State.setRegF_dormant s _ _ _ _ _
@[simp] theorem State.satIncF_boot (s : State) (p : Page) (off lo n v : Nat) : (s.satIncF p off lo n v).boot = s.boot := State.setRegF_boot s _ _ _ _ _
@[simp] theorem State.satIncF_pending (s : State) (p : Page) (off lo n v : Nat) : (s.satIncF p off lo n v).pending = s.pending := State.setRegF_pending s _ _ _ _ _

/-! `clearRegs` writes regs alone. -/

@[simp] theorem State.clearRegs_now (s : State) (lo hi : Nat) : (s.clearRegs lo hi).now = s.now := rfl
@[simp] theorem State.clearRegs_fieldNow (s : State) (lo hi : Nat) : (s.clearRegs lo hi).fieldNow = s.fieldNow := rfl
@[simp] theorem State.clearRegs_free (s : State) (lo hi : Nat) : (s.clearRegs lo hi).free = s.free := rfl
@[simp] theorem State.clearRegs_fuses (s : State) (lo hi : Nat) : (s.clearRegs lo hi).fuses = s.fuses := rfl
@[simp] theorem State.clearRegs_mem (s : State) (lo hi : Nat) : (s.clearRegs lo hi).mem = s.mem := rfl
@[simp] theorem State.clearRegs_tags (s : State) (lo hi : Nat) : (s.clearRegs lo hi).tags = s.tags := rfl
@[simp] theorem State.clearRegs_fab (s : State) (lo hi : Nat) : (s.clearRegs lo hi).fab = s.fab := rfl
@[simp] theorem State.clearRegs_tbs (s : State) (lo hi : Nat) : (s.clearRegs lo hi).tbs = s.tbs := rfl
@[simp] theorem State.clearRegs_tqf (s : State) (lo hi : Nat) : (s.clearRegs lo hi).tqf = s.tqf := rfl
@[simp] theorem State.clearRegs_box (s : State) (lo hi : Nat) : (s.clearRegs lo hi).box = s.box := rfl
@[simp] theorem State.clearRegs_src (s : State) (lo hi : Nat) : (s.clearRegs lo hi).src = s.src := rfl
@[simp] theorem State.clearRegs_pins (s : State) (lo hi : Nat) : (s.clearRegs lo hi).pins = s.pins := rfl
@[simp] theorem State.clearRegs_banks (s : State) (lo hi : Nat) : (s.clearRegs lo hi).banks = s.banks := rfl
@[simp] theorem State.clearRegs_gens (s : State) (lo hi : Nat) : (s.clearRegs lo hi).gens = s.gens := rfl
@[simp] theorem State.clearRegs_tlog (s : State) (lo hi : Nat) : (s.clearRegs lo hi).tlog = s.tlog := rfl
@[simp] theorem State.clearRegs_net (s : State) (lo hi : Nat) : (s.clearRegs lo hi).net = s.net := rfl
@[simp] theorem State.clearRegs_trk (s : State) (lo hi : Nat) : (s.clearRegs lo hi).trk = s.trk := rfl
@[simp] theorem State.clearRegs_roll (s : State) (lo hi : Nat) : (s.clearRegs lo hi).roll = s.roll := rfl
@[simp] theorem State.clearRegs_gh (s : State) (lo hi : Nat) : (s.clearRegs lo hi).gh = s.gh := rfl
@[simp] theorem State.clearRegs_surf (s : State) (lo hi : Nat) : (s.clearRegs lo hi).surf = s.surf := rfl
@[simp] theorem State.clearRegs_tm (s : State) (lo hi : Nat) : (s.clearRegs lo hi).tm = s.tm := rfl
@[simp] theorem State.clearRegs_domains (s : State) (lo hi : Nat) : (s.clearRegs lo hi).domains = s.domains := rfl
@[simp] theorem State.clearRegs_power (s : State) (lo hi : Nat) : (s.clearRegs lo hi).power = s.power := rfl
@[simp] theorem State.clearRegs_raised (s : State) (lo hi : Nat) : (s.clearRegs lo hi).raised = s.raised := rfl
@[simp] theorem State.clearRegs_sv (s : State) (lo hi : Nat) : (s.clearRegs lo hi).sv = s.sv := rfl
@[simp] theorem State.clearRegs_swell (s : State) (lo hi : Nat) : (s.clearRegs lo hi).swell = s.swell := rfl
@[simp] theorem State.clearRegs_bw (s : State) (lo hi : Nat) : (s.clearRegs lo hi).bw = s.bw := rfl
@[simp] theorem State.clearRegs_tmr (s : State) (lo hi : Nat) : (s.clearRegs lo hi).tmr = s.tmr := rfl
@[simp] theorem State.clearRegs_routes (s : State) (lo hi : Nat) : (s.clearRegs lo hi).routes = s.routes := rfl
@[simp] theorem State.clearRegs_dma (s : State) (lo hi : Nat) : (s.clearRegs lo hi).dma = s.dma := rfl
@[simp] theorem State.clearRegs_wdt (s : State) (lo hi : Nat) : (s.clearRegs lo hi).wdt = s.wdt := rfl
@[simp] theorem State.clearRegs_conv (s : State) (lo hi : Nat) : (s.clearRegs lo hi).conv = s.conv := rfl
@[simp] theorem State.clearRegs_supply (s : State) (lo hi : Nat) : (s.clearRegs lo hi).supply = s.supply := rfl
@[simp] theorem State.clearRegs_dormant (s : State) (lo hi : Nat) : (s.clearRegs lo hi).dormant = s.dormant := rfl
@[simp] theorem State.clearRegs_boot (s : State) (lo hi : Nat) : (s.clearRegs lo hi).boot = s.boot := rfl
@[simp] theorem State.clearRegs_pending (s : State) (lo hi : Nat) : (s.clearRegs lo hi).pending = s.pending := rfl

/-! `draw` writes free alone. -/

@[simp] theorem State.draw_now (s : State) : (s.draw).now = s.now := rfl
@[simp] theorem State.draw_fieldNow (s : State) : (s.draw).fieldNow = s.fieldNow := rfl
@[simp] theorem State.draw_fuses (s : State) : (s.draw).fuses = s.fuses := rfl
@[simp] theorem State.draw_regs (s : State) : (s.draw).regs = s.regs := rfl
@[simp] theorem State.draw_mem (s : State) : (s.draw).mem = s.mem := rfl
@[simp] theorem State.draw_tags (s : State) : (s.draw).tags = s.tags := rfl
@[simp] theorem State.draw_fab (s : State) : (s.draw).fab = s.fab := rfl
@[simp] theorem State.draw_tbs (s : State) : (s.draw).tbs = s.tbs := rfl
@[simp] theorem State.draw_tqf (s : State) : (s.draw).tqf = s.tqf := rfl
@[simp] theorem State.draw_box (s : State) : (s.draw).box = s.box := rfl
@[simp] theorem State.draw_src (s : State) : (s.draw).src = s.src := rfl
@[simp] theorem State.draw_pins (s : State) : (s.draw).pins = s.pins := rfl
@[simp] theorem State.draw_banks (s : State) : (s.draw).banks = s.banks := rfl
@[simp] theorem State.draw_gens (s : State) : (s.draw).gens = s.gens := rfl
@[simp] theorem State.draw_tlog (s : State) : (s.draw).tlog = s.tlog := rfl
@[simp] theorem State.draw_net (s : State) : (s.draw).net = s.net := rfl
@[simp] theorem State.draw_trk (s : State) : (s.draw).trk = s.trk := rfl
@[simp] theorem State.draw_roll (s : State) : (s.draw).roll = s.roll := rfl
@[simp] theorem State.draw_gh (s : State) : (s.draw).gh = s.gh := rfl
@[simp] theorem State.draw_surf (s : State) : (s.draw).surf = s.surf := rfl
@[simp] theorem State.draw_tm (s : State) : (s.draw).tm = s.tm := rfl
@[simp] theorem State.draw_domains (s : State) : (s.draw).domains = s.domains := rfl
@[simp] theorem State.draw_power (s : State) : (s.draw).power = s.power := rfl
@[simp] theorem State.draw_raised (s : State) : (s.draw).raised = s.raised := rfl
@[simp] theorem State.draw_sv (s : State) : (s.draw).sv = s.sv := rfl
@[simp] theorem State.draw_swell (s : State) : (s.draw).swell = s.swell := rfl
@[simp] theorem State.draw_bw (s : State) : (s.draw).bw = s.bw := rfl
@[simp] theorem State.draw_tmr (s : State) : (s.draw).tmr = s.tmr := rfl
@[simp] theorem State.draw_routes (s : State) : (s.draw).routes = s.routes := rfl
@[simp] theorem State.draw_dma (s : State) : (s.draw).dma = s.dma := rfl
@[simp] theorem State.draw_wdt (s : State) : (s.draw).wdt = s.wdt := rfl
@[simp] theorem State.draw_conv (s : State) : (s.draw).conv = s.conv := rfl
@[simp] theorem State.draw_supply (s : State) : (s.draw).supply = s.supply := rfl
@[simp] theorem State.draw_dormant (s : State) : (s.draw).dormant = s.dormant := rfl
@[simp] theorem State.draw_boot (s : State) : (s.draw).boot = s.boot := rfl
@[simp] theorem State.draw_pending (s : State) : (s.draw).pending = s.pending := rfl

/-! `setKeys` writes fab alone. -/

@[simp] theorem State.setKeys_now (s : State) (p : Page) (k : Option KeySeq) : (s.setKeys p k).now = s.now := rfl
@[simp] theorem State.setKeys_fieldNow (s : State) (p : Page) (k : Option KeySeq) : (s.setKeys p k).fieldNow = s.fieldNow := rfl
@[simp] theorem State.setKeys_free (s : State) (p : Page) (k : Option KeySeq) : (s.setKeys p k).free = s.free := rfl
@[simp] theorem State.setKeys_fuses (s : State) (p : Page) (k : Option KeySeq) : (s.setKeys p k).fuses = s.fuses := rfl
@[simp] theorem State.setKeys_regs (s : State) (p : Page) (k : Option KeySeq) : (s.setKeys p k).regs = s.regs := rfl
@[simp] theorem State.setKeys_mem (s : State) (p : Page) (k : Option KeySeq) : (s.setKeys p k).mem = s.mem := rfl
@[simp] theorem State.setKeys_tags (s : State) (p : Page) (k : Option KeySeq) : (s.setKeys p k).tags = s.tags := rfl
@[simp] theorem State.setKeys_tbs (s : State) (p : Page) (k : Option KeySeq) : (s.setKeys p k).tbs = s.tbs := rfl
@[simp] theorem State.setKeys_tqf (s : State) (p : Page) (k : Option KeySeq) : (s.setKeys p k).tqf = s.tqf := rfl
@[simp] theorem State.setKeys_box (s : State) (p : Page) (k : Option KeySeq) : (s.setKeys p k).box = s.box := rfl
@[simp] theorem State.setKeys_src (s : State) (p : Page) (k : Option KeySeq) : (s.setKeys p k).src = s.src := rfl
@[simp] theorem State.setKeys_pins (s : State) (p : Page) (k : Option KeySeq) : (s.setKeys p k).pins = s.pins := rfl
@[simp] theorem State.setKeys_banks (s : State) (p : Page) (k : Option KeySeq) : (s.setKeys p k).banks = s.banks := rfl
@[simp] theorem State.setKeys_gens (s : State) (p : Page) (k : Option KeySeq) : (s.setKeys p k).gens = s.gens := rfl
@[simp] theorem State.setKeys_tlog (s : State) (p : Page) (k : Option KeySeq) : (s.setKeys p k).tlog = s.tlog := rfl
@[simp] theorem State.setKeys_net (s : State) (p : Page) (k : Option KeySeq) : (s.setKeys p k).net = s.net := rfl
@[simp] theorem State.setKeys_trk (s : State) (p : Page) (k : Option KeySeq) : (s.setKeys p k).trk = s.trk := rfl
@[simp] theorem State.setKeys_roll (s : State) (p : Page) (k : Option KeySeq) : (s.setKeys p k).roll = s.roll := rfl
@[simp] theorem State.setKeys_gh (s : State) (p : Page) (k : Option KeySeq) : (s.setKeys p k).gh = s.gh := rfl
@[simp] theorem State.setKeys_surf (s : State) (p : Page) (k : Option KeySeq) : (s.setKeys p k).surf = s.surf := rfl
@[simp] theorem State.setKeys_tm (s : State) (p : Page) (k : Option KeySeq) : (s.setKeys p k).tm = s.tm := rfl
@[simp] theorem State.setKeys_domains (s : State) (p : Page) (k : Option KeySeq) : (s.setKeys p k).domains = s.domains := rfl
@[simp] theorem State.setKeys_power (s : State) (p : Page) (k : Option KeySeq) : (s.setKeys p k).power = s.power := rfl
@[simp] theorem State.setKeys_raised (s : State) (p : Page) (k : Option KeySeq) : (s.setKeys p k).raised = s.raised := rfl
@[simp] theorem State.setKeys_sv (s : State) (p : Page) (k : Option KeySeq) : (s.setKeys p k).sv = s.sv := rfl
@[simp] theorem State.setKeys_swell (s : State) (p : Page) (k : Option KeySeq) : (s.setKeys p k).swell = s.swell := rfl
@[simp] theorem State.setKeys_bw (s : State) (p : Page) (k : Option KeySeq) : (s.setKeys p k).bw = s.bw := rfl
@[simp] theorem State.setKeys_tmr (s : State) (p : Page) (k : Option KeySeq) : (s.setKeys p k).tmr = s.tmr := rfl
@[simp] theorem State.setKeys_routes (s : State) (p : Page) (k : Option KeySeq) : (s.setKeys p k).routes = s.routes := rfl
@[simp] theorem State.setKeys_dma (s : State) (p : Page) (k : Option KeySeq) : (s.setKeys p k).dma = s.dma := rfl
@[simp] theorem State.setKeys_wdt (s : State) (p : Page) (k : Option KeySeq) : (s.setKeys p k).wdt = s.wdt := rfl
@[simp] theorem State.setKeys_conv (s : State) (p : Page) (k : Option KeySeq) : (s.setKeys p k).conv = s.conv := rfl
@[simp] theorem State.setKeys_supply (s : State) (p : Page) (k : Option KeySeq) : (s.setKeys p k).supply = s.supply := rfl
@[simp] theorem State.setKeys_dormant (s : State) (p : Page) (k : Option KeySeq) : (s.setKeys p k).dormant = s.dormant := rfl
@[simp] theorem State.setKeys_boot (s : State) (p : Page) (k : Option KeySeq) : (s.setKeys p k).boot = s.boot := rfl
@[simp] theorem State.setKeys_pending (s : State) (p : Page) (k : Option KeySeq) : (s.setKeys p k).pending = s.pending := rfl

/-! `setLatch` writes fab alone. -/

@[simp] theorem State.setLatch_now (s : State) (m w : Nat) (v : Option (Tab Word)) : (s.setLatch m w v).now = s.now := rfl
@[simp] theorem State.setLatch_fieldNow (s : State) (m w : Nat) (v : Option (Tab Word)) : (s.setLatch m w v).fieldNow = s.fieldNow := rfl
@[simp] theorem State.setLatch_free (s : State) (m w : Nat) (v : Option (Tab Word)) : (s.setLatch m w v).free = s.free := rfl
@[simp] theorem State.setLatch_fuses (s : State) (m w : Nat) (v : Option (Tab Word)) : (s.setLatch m w v).fuses = s.fuses := rfl
@[simp] theorem State.setLatch_regs (s : State) (m w : Nat) (v : Option (Tab Word)) : (s.setLatch m w v).regs = s.regs := rfl
@[simp] theorem State.setLatch_mem (s : State) (m w : Nat) (v : Option (Tab Word)) : (s.setLatch m w v).mem = s.mem := rfl
@[simp] theorem State.setLatch_tags (s : State) (m w : Nat) (v : Option (Tab Word)) : (s.setLatch m w v).tags = s.tags := rfl
@[simp] theorem State.setLatch_tbs (s : State) (m w : Nat) (v : Option (Tab Word)) : (s.setLatch m w v).tbs = s.tbs := rfl
@[simp] theorem State.setLatch_tqf (s : State) (m w : Nat) (v : Option (Tab Word)) : (s.setLatch m w v).tqf = s.tqf := rfl
@[simp] theorem State.setLatch_box (s : State) (m w : Nat) (v : Option (Tab Word)) : (s.setLatch m w v).box = s.box := rfl
@[simp] theorem State.setLatch_src (s : State) (m w : Nat) (v : Option (Tab Word)) : (s.setLatch m w v).src = s.src := rfl
@[simp] theorem State.setLatch_pins (s : State) (m w : Nat) (v : Option (Tab Word)) : (s.setLatch m w v).pins = s.pins := rfl
@[simp] theorem State.setLatch_banks (s : State) (m w : Nat) (v : Option (Tab Word)) : (s.setLatch m w v).banks = s.banks := rfl
@[simp] theorem State.setLatch_gens (s : State) (m w : Nat) (v : Option (Tab Word)) : (s.setLatch m w v).gens = s.gens := rfl
@[simp] theorem State.setLatch_tlog (s : State) (m w : Nat) (v : Option (Tab Word)) : (s.setLatch m w v).tlog = s.tlog := rfl
@[simp] theorem State.setLatch_net (s : State) (m w : Nat) (v : Option (Tab Word)) : (s.setLatch m w v).net = s.net := rfl
@[simp] theorem State.setLatch_trk (s : State) (m w : Nat) (v : Option (Tab Word)) : (s.setLatch m w v).trk = s.trk := rfl
@[simp] theorem State.setLatch_roll (s : State) (m w : Nat) (v : Option (Tab Word)) : (s.setLatch m w v).roll = s.roll := rfl
@[simp] theorem State.setLatch_gh (s : State) (m w : Nat) (v : Option (Tab Word)) : (s.setLatch m w v).gh = s.gh := rfl
@[simp] theorem State.setLatch_surf (s : State) (m w : Nat) (v : Option (Tab Word)) : (s.setLatch m w v).surf = s.surf := rfl
@[simp] theorem State.setLatch_tm (s : State) (m w : Nat) (v : Option (Tab Word)) : (s.setLatch m w v).tm = s.tm := rfl
@[simp] theorem State.setLatch_domains (s : State) (m w : Nat) (v : Option (Tab Word)) : (s.setLatch m w v).domains = s.domains := rfl
@[simp] theorem State.setLatch_power (s : State) (m w : Nat) (v : Option (Tab Word)) : (s.setLatch m w v).power = s.power := rfl
@[simp] theorem State.setLatch_raised (s : State) (m w : Nat) (v : Option (Tab Word)) : (s.setLatch m w v).raised = s.raised := rfl
@[simp] theorem State.setLatch_sv (s : State) (m w : Nat) (v : Option (Tab Word)) : (s.setLatch m w v).sv = s.sv := rfl
@[simp] theorem State.setLatch_swell (s : State) (m w : Nat) (v : Option (Tab Word)) : (s.setLatch m w v).swell = s.swell := rfl
@[simp] theorem State.setLatch_bw (s : State) (m w : Nat) (v : Option (Tab Word)) : (s.setLatch m w v).bw = s.bw := rfl
@[simp] theorem State.setLatch_tmr (s : State) (m w : Nat) (v : Option (Tab Word)) : (s.setLatch m w v).tmr = s.tmr := rfl
@[simp] theorem State.setLatch_routes (s : State) (m w : Nat) (v : Option (Tab Word)) : (s.setLatch m w v).routes = s.routes := rfl
@[simp] theorem State.setLatch_dma (s : State) (m w : Nat) (v : Option (Tab Word)) : (s.setLatch m w v).dma = s.dma := rfl
@[simp] theorem State.setLatch_wdt (s : State) (m w : Nat) (v : Option (Tab Word)) : (s.setLatch m w v).wdt = s.wdt := rfl
@[simp] theorem State.setLatch_conv (s : State) (m w : Nat) (v : Option (Tab Word)) : (s.setLatch m w v).conv = s.conv := rfl
@[simp] theorem State.setLatch_supply (s : State) (m w : Nat) (v : Option (Tab Word)) : (s.setLatch m w v).supply = s.supply := rfl
@[simp] theorem State.setLatch_dormant (s : State) (m w : Nat) (v : Option (Tab Word)) : (s.setLatch m w v).dormant = s.dormant := rfl
@[simp] theorem State.setLatch_boot (s : State) (m w : Nat) (v : Option (Tab Word)) : (s.setLatch m w v).boot = s.boot := rfl
@[simp] theorem State.setLatch_pending (s : State) (m w : Nat) (v : Option (Tab Word)) : (s.setLatch m w v).pending = s.pending := rfl

/-! `answer` writes fab alone. -/

@[simp] theorem State.answer_now (s : State) (m : Master) (r : Reason) (d : Nat) : (s.answer m r d).now = s.now := rfl
@[simp] theorem State.answer_fieldNow (s : State) (m : Master) (r : Reason) (d : Nat) : (s.answer m r d).fieldNow = s.fieldNow := rfl
@[simp] theorem State.answer_free (s : State) (m : Master) (r : Reason) (d : Nat) : (s.answer m r d).free = s.free := rfl
@[simp] theorem State.answer_fuses (s : State) (m : Master) (r : Reason) (d : Nat) : (s.answer m r d).fuses = s.fuses := rfl
@[simp] theorem State.answer_regs (s : State) (m : Master) (r : Reason) (d : Nat) : (s.answer m r d).regs = s.regs := rfl
@[simp] theorem State.answer_mem (s : State) (m : Master) (r : Reason) (d : Nat) : (s.answer m r d).mem = s.mem := rfl
@[simp] theorem State.answer_tags (s : State) (m : Master) (r : Reason) (d : Nat) : (s.answer m r d).tags = s.tags := rfl
@[simp] theorem State.answer_tbs (s : State) (m : Master) (r : Reason) (d : Nat) : (s.answer m r d).tbs = s.tbs := rfl
@[simp] theorem State.answer_tqf (s : State) (m : Master) (r : Reason) (d : Nat) : (s.answer m r d).tqf = s.tqf := rfl
@[simp] theorem State.answer_box (s : State) (m : Master) (r : Reason) (d : Nat) : (s.answer m r d).box = s.box := rfl
@[simp] theorem State.answer_src (s : State) (m : Master) (r : Reason) (d : Nat) : (s.answer m r d).src = s.src := rfl
@[simp] theorem State.answer_pins (s : State) (m : Master) (r : Reason) (d : Nat) : (s.answer m r d).pins = s.pins := rfl
@[simp] theorem State.answer_banks (s : State) (m : Master) (r : Reason) (d : Nat) : (s.answer m r d).banks = s.banks := rfl
@[simp] theorem State.answer_gens (s : State) (m : Master) (r : Reason) (d : Nat) : (s.answer m r d).gens = s.gens := rfl
@[simp] theorem State.answer_tlog (s : State) (m : Master) (r : Reason) (d : Nat) : (s.answer m r d).tlog = s.tlog := rfl
@[simp] theorem State.answer_net (s : State) (m : Master) (r : Reason) (d : Nat) : (s.answer m r d).net = s.net := rfl
@[simp] theorem State.answer_trk (s : State) (m : Master) (r : Reason) (d : Nat) : (s.answer m r d).trk = s.trk := rfl
@[simp] theorem State.answer_roll (s : State) (m : Master) (r : Reason) (d : Nat) : (s.answer m r d).roll = s.roll := rfl
@[simp] theorem State.answer_gh (s : State) (m : Master) (r : Reason) (d : Nat) : (s.answer m r d).gh = s.gh := rfl
@[simp] theorem State.answer_surf (s : State) (m : Master) (r : Reason) (d : Nat) : (s.answer m r d).surf = s.surf := rfl
@[simp] theorem State.answer_tm (s : State) (m : Master) (r : Reason) (d : Nat) : (s.answer m r d).tm = s.tm := rfl
@[simp] theorem State.answer_domains (s : State) (m : Master) (r : Reason) (d : Nat) : (s.answer m r d).domains = s.domains := rfl
@[simp] theorem State.answer_power (s : State) (m : Master) (r : Reason) (d : Nat) : (s.answer m r d).power = s.power := rfl
@[simp] theorem State.answer_raised (s : State) (m : Master) (r : Reason) (d : Nat) : (s.answer m r d).raised = s.raised := rfl
@[simp] theorem State.answer_sv (s : State) (m : Master) (r : Reason) (d : Nat) : (s.answer m r d).sv = s.sv := rfl
@[simp] theorem State.answer_swell (s : State) (m : Master) (r : Reason) (d : Nat) : (s.answer m r d).swell = s.swell := rfl
@[simp] theorem State.answer_bw (s : State) (m : Master) (r : Reason) (d : Nat) : (s.answer m r d).bw = s.bw := rfl
@[simp] theorem State.answer_tmr (s : State) (m : Master) (r : Reason) (d : Nat) : (s.answer m r d).tmr = s.tmr := rfl
@[simp] theorem State.answer_routes (s : State) (m : Master) (r : Reason) (d : Nat) : (s.answer m r d).routes = s.routes := rfl
@[simp] theorem State.answer_dma (s : State) (m : Master) (r : Reason) (d : Nat) : (s.answer m r d).dma = s.dma := rfl
@[simp] theorem State.answer_wdt (s : State) (m : Master) (r : Reason) (d : Nat) : (s.answer m r d).wdt = s.wdt := rfl
@[simp] theorem State.answer_conv (s : State) (m : Master) (r : Reason) (d : Nat) : (s.answer m r d).conv = s.conv := rfl
@[simp] theorem State.answer_supply (s : State) (m : Master) (r : Reason) (d : Nat) : (s.answer m r d).supply = s.supply := rfl
@[simp] theorem State.answer_dormant (s : State) (m : Master) (r : Reason) (d : Nat) : (s.answer m r d).dormant = s.dormant := rfl
@[simp] theorem State.answer_boot (s : State) (m : Master) (r : Reason) (d : Nat) : (s.answer m r d).boot = s.boot := rfl
@[simp] theorem State.answer_pending (s : State) (m : Master) (r : Reason) (d : Nat) : (s.answer m r d).pending = s.pending := rfl

/-! `arbitrate` writes fab alone. -/

@[simp] theorem State.arbitrate_now (s : State) (m : Master) (a n : Nat) : (s.arbitrate m a n).now = s.now := rfl
@[simp] theorem State.arbitrate_fieldNow (s : State) (m : Master) (a n : Nat) : (s.arbitrate m a n).fieldNow = s.fieldNow := rfl
@[simp] theorem State.arbitrate_free (s : State) (m : Master) (a n : Nat) : (s.arbitrate m a n).free = s.free := rfl
@[simp] theorem State.arbitrate_fuses (s : State) (m : Master) (a n : Nat) : (s.arbitrate m a n).fuses = s.fuses := rfl
@[simp] theorem State.arbitrate_regs (s : State) (m : Master) (a n : Nat) : (s.arbitrate m a n).regs = s.regs := rfl
@[simp] theorem State.arbitrate_mem (s : State) (m : Master) (a n : Nat) : (s.arbitrate m a n).mem = s.mem := rfl
@[simp] theorem State.arbitrate_tags (s : State) (m : Master) (a n : Nat) : (s.arbitrate m a n).tags = s.tags := rfl
@[simp] theorem State.arbitrate_tbs (s : State) (m : Master) (a n : Nat) : (s.arbitrate m a n).tbs = s.tbs := rfl
@[simp] theorem State.arbitrate_tqf (s : State) (m : Master) (a n : Nat) : (s.arbitrate m a n).tqf = s.tqf := rfl
@[simp] theorem State.arbitrate_box (s : State) (m : Master) (a n : Nat) : (s.arbitrate m a n).box = s.box := rfl
@[simp] theorem State.arbitrate_src (s : State) (m : Master) (a n : Nat) : (s.arbitrate m a n).src = s.src := rfl
@[simp] theorem State.arbitrate_pins (s : State) (m : Master) (a n : Nat) : (s.arbitrate m a n).pins = s.pins := rfl
@[simp] theorem State.arbitrate_banks (s : State) (m : Master) (a n : Nat) : (s.arbitrate m a n).banks = s.banks := rfl
@[simp] theorem State.arbitrate_gens (s : State) (m : Master) (a n : Nat) : (s.arbitrate m a n).gens = s.gens := rfl
@[simp] theorem State.arbitrate_tlog (s : State) (m : Master) (a n : Nat) : (s.arbitrate m a n).tlog = s.tlog := rfl
@[simp] theorem State.arbitrate_net (s : State) (m : Master) (a n : Nat) : (s.arbitrate m a n).net = s.net := rfl
@[simp] theorem State.arbitrate_trk (s : State) (m : Master) (a n : Nat) : (s.arbitrate m a n).trk = s.trk := rfl
@[simp] theorem State.arbitrate_roll (s : State) (m : Master) (a n : Nat) : (s.arbitrate m a n).roll = s.roll := rfl
@[simp] theorem State.arbitrate_gh (s : State) (m : Master) (a n : Nat) : (s.arbitrate m a n).gh = s.gh := rfl
@[simp] theorem State.arbitrate_surf (s : State) (m : Master) (a n : Nat) : (s.arbitrate m a n).surf = s.surf := rfl
@[simp] theorem State.arbitrate_tm (s : State) (m : Master) (a n : Nat) : (s.arbitrate m a n).tm = s.tm := rfl
@[simp] theorem State.arbitrate_domains (s : State) (m : Master) (a n : Nat) : (s.arbitrate m a n).domains = s.domains := rfl
@[simp] theorem State.arbitrate_power (s : State) (m : Master) (a n : Nat) : (s.arbitrate m a n).power = s.power := rfl
@[simp] theorem State.arbitrate_raised (s : State) (m : Master) (a n : Nat) : (s.arbitrate m a n).raised = s.raised := rfl
@[simp] theorem State.arbitrate_sv (s : State) (m : Master) (a n : Nat) : (s.arbitrate m a n).sv = s.sv := rfl
@[simp] theorem State.arbitrate_swell (s : State) (m : Master) (a n : Nat) : (s.arbitrate m a n).swell = s.swell := rfl
@[simp] theorem State.arbitrate_bw (s : State) (m : Master) (a n : Nat) : (s.arbitrate m a n).bw = s.bw := rfl
@[simp] theorem State.arbitrate_tmr (s : State) (m : Master) (a n : Nat) : (s.arbitrate m a n).tmr = s.tmr := rfl
@[simp] theorem State.arbitrate_routes (s : State) (m : Master) (a n : Nat) : (s.arbitrate m a n).routes = s.routes := rfl
@[simp] theorem State.arbitrate_dma (s : State) (m : Master) (a n : Nat) : (s.arbitrate m a n).dma = s.dma := rfl
@[simp] theorem State.arbitrate_wdt (s : State) (m : Master) (a n : Nat) : (s.arbitrate m a n).wdt = s.wdt := rfl
@[simp] theorem State.arbitrate_conv (s : State) (m : Master) (a n : Nat) : (s.arbitrate m a n).conv = s.conv := rfl
@[simp] theorem State.arbitrate_supply (s : State) (m : Master) (a n : Nat) : (s.arbitrate m a n).supply = s.supply := rfl
@[simp] theorem State.arbitrate_dormant (s : State) (m : Master) (a n : Nat) : (s.arbitrate m a n).dormant = s.dormant := rfl
@[simp] theorem State.arbitrate_boot (s : State) (m : Master) (a n : Nat) : (s.arbitrate m a n).boot = s.boot := rfl
@[simp] theorem State.arbitrate_pending (s : State) (m : Master) (a n : Nat) : (s.arbitrate m a n).pending = s.pending := rfl

/-! `setDomain` writes domains alone. -/

@[simp] theorem State.setDomain_now (s : State) (d : Nat) (v : DomState) : (s.setDomain d v).now = s.now := rfl
@[simp] theorem State.setDomain_fieldNow (s : State) (d : Nat) (v : DomState) : (s.setDomain d v).fieldNow = s.fieldNow := rfl
@[simp] theorem State.setDomain_free (s : State) (d : Nat) (v : DomState) : (s.setDomain d v).free = s.free := rfl
@[simp] theorem State.setDomain_fuses (s : State) (d : Nat) (v : DomState) : (s.setDomain d v).fuses = s.fuses := rfl
@[simp] theorem State.setDomain_regs (s : State) (d : Nat) (v : DomState) : (s.setDomain d v).regs = s.regs := rfl
@[simp] theorem State.setDomain_mem (s : State) (d : Nat) (v : DomState) : (s.setDomain d v).mem = s.mem := rfl
@[simp] theorem State.setDomain_tags (s : State) (d : Nat) (v : DomState) : (s.setDomain d v).tags = s.tags := rfl
@[simp] theorem State.setDomain_fab (s : State) (d : Nat) (v : DomState) : (s.setDomain d v).fab = s.fab := rfl
@[simp] theorem State.setDomain_tbs (s : State) (d : Nat) (v : DomState) : (s.setDomain d v).tbs = s.tbs := rfl
@[simp] theorem State.setDomain_tqf (s : State) (d : Nat) (v : DomState) : (s.setDomain d v).tqf = s.tqf := rfl
@[simp] theorem State.setDomain_box (s : State) (d : Nat) (v : DomState) : (s.setDomain d v).box = s.box := rfl
@[simp] theorem State.setDomain_src (s : State) (d : Nat) (v : DomState) : (s.setDomain d v).src = s.src := rfl
@[simp] theorem State.setDomain_pins (s : State) (d : Nat) (v : DomState) : (s.setDomain d v).pins = s.pins := rfl
@[simp] theorem State.setDomain_banks (s : State) (d : Nat) (v : DomState) : (s.setDomain d v).banks = s.banks := rfl
@[simp] theorem State.setDomain_gens (s : State) (d : Nat) (v : DomState) : (s.setDomain d v).gens = s.gens := rfl
@[simp] theorem State.setDomain_tlog (s : State) (d : Nat) (v : DomState) : (s.setDomain d v).tlog = s.tlog := rfl
@[simp] theorem State.setDomain_net (s : State) (d : Nat) (v : DomState) : (s.setDomain d v).net = s.net := rfl
@[simp] theorem State.setDomain_trk (s : State) (d : Nat) (v : DomState) : (s.setDomain d v).trk = s.trk := rfl
@[simp] theorem State.setDomain_roll (s : State) (d : Nat) (v : DomState) : (s.setDomain d v).roll = s.roll := rfl
@[simp] theorem State.setDomain_gh (s : State) (d : Nat) (v : DomState) : (s.setDomain d v).gh = s.gh := rfl
@[simp] theorem State.setDomain_surf (s : State) (d : Nat) (v : DomState) : (s.setDomain d v).surf = s.surf := rfl
@[simp] theorem State.setDomain_tm (s : State) (d : Nat) (v : DomState) : (s.setDomain d v).tm = s.tm := rfl
@[simp] theorem State.setDomain_power (s : State) (d : Nat) (v : DomState) : (s.setDomain d v).power = s.power := rfl
@[simp] theorem State.setDomain_raised (s : State) (d : Nat) (v : DomState) : (s.setDomain d v).raised = s.raised := rfl
@[simp] theorem State.setDomain_sv (s : State) (d : Nat) (v : DomState) : (s.setDomain d v).sv = s.sv := rfl
@[simp] theorem State.setDomain_swell (s : State) (d : Nat) (v : DomState) : (s.setDomain d v).swell = s.swell := rfl
@[simp] theorem State.setDomain_bw (s : State) (d : Nat) (v : DomState) : (s.setDomain d v).bw = s.bw := rfl
@[simp] theorem State.setDomain_tmr (s : State) (d : Nat) (v : DomState) : (s.setDomain d v).tmr = s.tmr := rfl
@[simp] theorem State.setDomain_routes (s : State) (d : Nat) (v : DomState) : (s.setDomain d v).routes = s.routes := rfl
@[simp] theorem State.setDomain_dma (s : State) (d : Nat) (v : DomState) : (s.setDomain d v).dma = s.dma := rfl
@[simp] theorem State.setDomain_wdt (s : State) (d : Nat) (v : DomState) : (s.setDomain d v).wdt = s.wdt := rfl
@[simp] theorem State.setDomain_conv (s : State) (d : Nat) (v : DomState) : (s.setDomain d v).conv = s.conv := rfl
@[simp] theorem State.setDomain_supply (s : State) (d : Nat) (v : DomState) : (s.setDomain d v).supply = s.supply := rfl
@[simp] theorem State.setDomain_dormant (s : State) (d : Nat) (v : DomState) : (s.setDomain d v).dormant = s.dormant := rfl
@[simp] theorem State.setDomain_boot (s : State) (d : Nat) (v : DomState) : (s.setDomain d v).boot = s.boot := rfl
@[simp] theorem State.setDomain_pending (s : State) (d : Nat) (v : DomState) : (s.setDomain d v).pending = s.pending := rfl

end Sys2Proof.Machine
end

