-- ==== Sys2Proof/Laws/Access.lean ====
section
/-! SUPPORT. A write or read of a page register that passes every check: what the fabric makes of it. -/
set_option Elab.async false
namespace Sys2Proof.Machine

/-- An address inside a page that R42 lists is that page's. -/
theorem Page.ofAddr_base {p : Page} {off : Nat} (hv : p.valid = true) (ho : off < 0x1000) :
    Page.ofAddr (p.base + off) = some p := by
  have key : ∀ b k, p.slot = (b, k) → k < 16 → b < 256 → Page.ofSlot b k = some p → Page.ofAddr (p.base + off) = some p := by
    intro b k hs hk hb h
    have hbase : p.base = 0x40000000 + b * 0x10000 + k * 0x1000 := by unfold Page.base; rw [hs]
    have h1 : p.base + off - 0x40000000 = b * 0x10000 + (k * 0x1000 + off) := by omega
    unfold Page.ofAddr
    rw [if_pos (by rw [hbase]; simp; omega), h1]
    have h2 : (b * 0x10000 + (k * 0x1000 + off)) / 0x10000 = b := by omega
    have h3 : (b * 0x10000 + (k * 0x1000 + off)) / 0x1000 % 16 = k := by omega
    rw [h2, h3, h]
  cases p <;> simp only [Page.valid, decide_eq_true_eq] at hv <;>
    first
      | exact key _ _ rfl (by decide) (by decide) rfl
      | (refine key _ _ rfl (by omega) (by decide) ?_; simp only [Page.ofSlot]; interval_cases ‹Nat› <;> rfl)

theorem Page.base_range {p : Page} (hv : p.valid = true) : 0x40000000 ≤ p.base ∧ p.base + 0x1000 ≤ 0x41000000 := by
  cases p <;> simp only [Page.valid, decide_eq_true_eq] at hv <;> simp only [Page.base, Page.slot] <;> omega

theorem regionAt_page (s : State) {p : Page} {off : Nat} (hv : p.valid = true) (ho : off < 0x1000) :
    s.regionAt (p.base + off) = some (.page p) := by
  have hb := Page.base_range hv
  have ha := Page.ofAddr_base hv ho
  have hr : 0x40000000 ≤ p.base + off ∧ p.base + off < 0x41000000 := by omega
  generalize p.base + off = a at *
  have h40 : (decide (0x40000000 ≤ a) && decide (a < 0x41000000)) = true := by simp; omega
  have no : ∀ lo hi, hi ≤ 0x40000000 → (decide (lo ≤ a) && decide (a < hi)) = false := by intro lo hi h; simp; omega
  unfold State.regionAt
  rw [if_neg (by omega)]
  repeat rw [no _ _ (by decide)]
  rw [h40, ha]
  have h2 : (decide (0x3C000000 ≤ a) && decide (a < 0x3D000000)) = false := no _ _ (by decide)
  simp

/-- What the fabric makes of a page write that passes every check. -/
theorem fabricWrite_page {s : State} {m : Master} {p : Page} {off n v : Nat} (hv : p.valid = true) (ho : off < 0x1000)
    (h : s.accepts ⟨m, p.base + off, n, v, true⟩) :
    p.present s.fuses = true
      ∧ (s.arbitrate m (p.base + off) n).pageReason ⟨m, p, off, n = 8, v % 2 ^ (8 * n)⟩ = .none
      ∧ (n ≠ 0 → off % n = 0) ∧ (n = 4 ∨ n = 8)
      ∧ s.fabricWrite ⟨m, p.base + off, n, v, true⟩
        = ((s.arbitrate m (p.base + off) n).pageWrite ⟨m, p, off, n = 8, v % 2 ^ (8 * n)⟩).2.answer m .none 0 := by
  obtain ⟨_, hg, hr⟩ := h
  have hmatch : (if unguarded m (p.base + off) then none else s.guardFault m .store (p.base + off) n) = none := by
    rcases hg with hg | hg
    · rw [hg]; rfl
    · split
      · rfl
      · exact hg
  have hd : s.decode m (p.base + off) n = some (.page p) := by
    have h0 : s.decode m (p.base + off) n ≠ none := by
      intro h0; simp [State.accWrite, h0] at hr
    unfold State.decode at h0 ⊢
    rw [regionAt_page s hv ho] at h0 ⊢
    simp only at h0 ⊢
    split at h0
    · rw [if_pos ‹_›]
    · exact absurd rfl h0
  have hf : s.fabricWrite ⟨m, p.base + off, n, v, true⟩ =
      (s.accWrite ⟨m, p.base + off, n, v, true⟩).2.answer m (s.accWrite ⟨m, p.base + off, n, v, true⟩).1 0 := by
    unfold State.fabricWrite
    simp only [hmatch]
  rw [hr] at hf
  rw [hf]
  unfold State.accWrite at hr ⊢
  simp only [hd, Bool.not_true, Bool.false_eq_true, if_false] at hr ⊢
  split at hr
  · exact absurd hr ‹_›
  · rename_i he
    rw [if_neg he]
    simp only [ne_eq, Decidable.not_not, firstReason] at he
    unfold State.regionWrite at hr ⊢
    simp only at hr ⊢
    split at hr
    · rename_i hp
      have hp' : p.present s.fuses = true := hp
      rw [if_pos hp]
      have e : p.base + off - p.base = off := by omega
      rw [e] at hr ⊢
      have hq : (s.arbitrate m (p.base + off) n).pageReason ⟨m, p, off, n = 8, v % 2 ^ (8 * n)⟩ = .none := by
        unfold State.pageWrite at hr
        simp only at hr
        split at hr <;> simp_all
      refine ⟨hp', hq, ?_, ?_, rfl⟩
      all_goals
        revert he
        split
        · simp
        split
        · simp
        split
        · simp
        · rename_i h1 h2 h3
          intro _
          have h7 : n = 4 ∨ n = 8 := by
            simp [widthOk, Region.wordWide] at h3
            omega
          first
            | exact h7
            | intro hn
              have h5 : (p.base + off) % n = 0 := by simpa [hn] using h2
              have h6 : p.base % n = 0 := by rcases h7 with h7 | h7 <;> subst h7 <;> simp only [Page.base] <;> omega
              have h8 := Nat.add_mod p.base off n
              rw [h5, h6] at h8
              simpa using h8.symm
    · simp at hr

/-- The state that an accepted page write leaves (R54): the effect of the write, the page's keyed sequence after it, the
answer. -/
def State.tookPage (s : State) (m : Master) (p : Page) (off n v : Nat) : State :=
  let w : Wr := ⟨m, p, off, n = 8, v % 2 ^ (8 * n)⟩
  let s0 := s.arbitrate m (p.base + off) n
  let s1 := s0.pageApply w
  ((if p = .slk ∧ m = .headland then State.planKeyed s0 true w s1 else s1).setKeys p (s0.keyAfter w true)).answer m .none 0

theorem busWrite_page {s : State} {m : Master} {p : Page} {off n v : Nat} (hv : p.valid = true) (ho : off < 0x1000)
    (hg : p ≠ .hrp) (h : s.accepts ⟨m, p.base + off, n, v, true⟩) :
    s.busWrite ⟨m, p.base + off, n, v, true⟩ = s.tookPage m p off n v := by
  obtain ⟨hp, hq, ha, hn, hf⟩ := fabricWrite_page hv ho h
  have hs := h.1
  simp only at hs
  unfold State.busWrite
  simp only [hs, Bool.not_true, Bool.false_eq_true, if_false]
  rw [hf]
  have hne : ∀ o, o < 0x1000 → p.base + off ≠ Page.base .hrp + o := by
    intro o ho' he
    have h1 := Page.ofAddr_base hv ho
    rw [he, Page.ofAddr_base (p := .hrp) rfl ho'] at h1
    exact hg (Option.some.inj h1).symm
  have h1 := hne 0x50 (by decide)
  have h2 := hne 0x4C (by decide)
  rw [if_neg (by simp only [Bool.and_eq_true, Bool.or_eq_true, decide_eq_true_eq]; omega)]
  unfold State.pageWrite State.tookPage
  simp only [hq, if_true]
  by_cases hk : p = .slk ∧ m = .headland <;> simp [hk]

end Sys2Proof.Machine
end

