-- ==== Sys2Proof/Laws/Kept.lean ====
section
/-! SUPPORT. What every operation keeps, and the memory operations' part of it: memory stays in canonical form under every write of
bytes and every clearing of a range, and the queue of commands stands. -/
set_option Elab.async false
namespace Sys2Proof.Machine

/-- `t` keeps what every operation of the block keeps of `s`: the canonical form of memory, and the queue of waiting commands. -/
structure Kept (s t : State) : Prop where
  mem : s.memOk → t.memOk
  queue : t.pending = s.pending

/-- The state that an instruction's execution hands on. -/
def Exe.after : Exe → State
  | .go s | .jump _ _ s | .arith s | .fault _ s | .trap _ _ s | .back s => s

theorem Kept.refl (s : State) : Kept s s := ⟨id, rfl⟩

theorem Kept.mk' {s0 t : State} (h : Kept s0 t) {now fieldNow free fuses regs tags fab tbs tqf box src pins banks gens tlog net trk roll gh surf tm domains power raised sv swell bw tmr routes dma wdt conv supply dormant boot} :
  Kept s0 ⟨now, fieldNow, free, fuses, regs, t.mem, tags, fab, tbs, tqf, box, src, pins, banks, gens, tlog, net, trk, roll, gh, surf, tm, domains, power, raised, sv, swell, bw, tmr, routes, dma, wdt, conv, supply, dormant, boot, t.pending⟩ := ⟨h.mem, h.queue⟩

theorem Kept.ite {r a b : State} {c : Prop} {inst : Decidable c} (ha : c → Kept r a) (hb : ¬ c → Kept r b) : Kept r (@ite State c inst a b) := by
  split
  · exact ha ‹_›
  · exact hb ‹_›
/-- keys rising above a bound, none at default -/
def Sorted (lo : Nat) : Tab Byte → Prop
  | [] => True
  | (a, v) :: t => lo ≤ a ∧ v ≠ 0 ∧ Sorted (a + 1) t

theorem Sorted.mono {lo lo' : Nat} (h : lo ≤ lo') : ∀ {t : Tab Byte}, Sorted lo' t → Sorted lo t
  | [], _ => trivial
  | (a, v) :: t, ⟨x, y, z⟩ => ⟨Nat.le_trans h x, y, z⟩

theorem wf_iff_sorted : ∀ {t : Tab Byte}, Memory.wf t = true ↔ Sorted 0 t
  | [] => by simp [Memory.wf, tabWf, Sorted]
  | [(a, v)] => by simp [Memory.wf, tabWf, Sorted]
  | (a, v) :: (b, w) :: t => by
    have ih := @wf_iff_sorted ((b, w) :: t)
    simp only [Memory.wf, tabWf, Sorted, Bool.and_eq_true, decide_eq_true_eq] at ih ⊢
    constructor
    · rintro ⟨⟨hv, hab⟩, hr⟩
      obtain ⟨_, h2, h3⟩ := ih.mp hr
      exact ⟨Nat.zero_le _, hv, hab, h2, h3⟩
    · rintro ⟨_, hv, hab, h2, h3⟩
      exact ⟨⟨hv, hab⟩, ih.mpr ⟨Nat.zero_le _, h2, h3⟩⟩

theorem tabPut_sorted {v : Byte} (hv : v ≠ 0) : ∀ {lo k : Nat} {t : Tab Byte}, lo ≤ k → Sorted lo t → Sorted lo (tabPut t k v)
  | _, _, [], hk, _ => ⟨hk, hv, trivial⟩
  | lo, k, (a, w) :: t, hk, ⟨ha, hw, ht⟩ => by
    unfold tabPut
    split
    · exact ⟨hk, hv, by omega, hw, ht⟩
    · split
      · subst_vars; exact ⟨ha, hv, ht⟩
      · exact ⟨ha, hw, tabPut_sorted hv (by omega) ht⟩

theorem filter_sorted {p : Nat × Byte → Bool} : ∀ {lo : Nat} {t : Tab Byte}, Sorted lo t → Sorted lo (t.filter p)
  | _, [], _ => trivial
  | lo, (a, w) :: t, ⟨ha, hw, ht⟩ => by
    rw [List.filter_cons]
    split
    · exact ⟨ha, hw, filter_sorted ht⟩
    · exact Sorted.mono (by omega) (filter_sorted ht)

theorem writeByte_wf {m : List Host.Cell} {a : Nat} {b : Byte} (h : Memory.wf m = true) : Memory.wf (writeByte m a b) = true := by
  rw [wf_iff_sorted] at *
  unfold writeByte tabSet
  split
  · exact filter_sorted h
  · exact tabPut_sorted ‹_› (Nat.zero_le _) h

theorem writeBytes_wf : ∀ {bs : List Nat} {m : List Host.Cell} {a : Nat}, Memory.wf m = true → Memory.wf (writeBytes m a bs) = true
  | [], _, _, h => h
  | b :: bs, m, a, h => by
    unfold writeBytes
    exact writeBytes_wf (bs := bs) (writeByte_wf h)

theorem filter_wf {m : List Host.Cell} {p : Host.Cell → Bool} (h : Memory.wf m = true) : Memory.wf (m.filter p) = true := by
  rw [wf_iff_sorted] at *
  exact filter_sorted h

theorem Kept.mem' {s0 t : State} (h : Kept s0 t) {now fieldNow free fuses regs mem tags fab tbs tqf box src pins banks gens tlog net trk roll gh surf tm domains power raised sv swell bw tmr routes dma wdt conv supply dormant boot} (hm : Memory.wf t.mem = true → Memory.wf mem = true) :
  Kept s0 ⟨now, fieldNow, free, fuses, regs, mem, tags, fab, tbs, tqf, box, src, pins, banks, gens, tlog, net, trk, roll, gh, surf, tm, domains, power, raised, sv, swell, bw, tmr, routes, dma, wdt, conv, supply, dormant, boot, t.pending⟩ := ⟨fun x => hm (h.mem x), h.queue⟩

theorem Kept.snd {α : Type} {r t : State} {a : α} {p : α × State} (e : p = (a, t)) (h : Kept r p.2) : Kept r t := by subst e; exact h

theorem Kept.fst {α : Type} {r t : State} {a : α} {p : State × α} (e : p = (t, a)) (h : Kept r p.1) : Kept r t := by subst e; exact h

theorem Kept.trd {α β : Type} {r t : State} {a : α} {b : β} {p : α × β × State} (e : p = (a, b, t)) (h : Kept r p.2.2) : Kept r t := by subst e; exact h

theorem Kept.frt {α β γ : Type} {r t : State} {a : α} {b : β} {c : γ} {p : α × β × γ × State} (e : p = (a, b, c, t)) (h : Kept r p.2.2.2) : Kept r t := by subst e; exact h

theorem Kept.foldl {α : Type} {r s : State} {f : State → α → State} {l : List α} (hf : ∀ s x, Kept r s → Kept r (f s x)) (h : Kept r s) : Kept r (l.foldl f s) := by
  induction l generalizing s with
  | nil => exact h
  | cons x xs ih => exact ih (hf s x h)

theorem Exe.kept_ite {r : State} {a b : Exe} {c : Prop} {inst : Decidable c} (ha : Kept r a.after) (hb : Kept r b.after) : Kept r (Exe.after (@ite Exe c inst a b)) := by
  split
  · exact ha
  · exact hb

theorem BootTry.kept_ite {r : State} {a b : BootTry} {c : Prop} {inst : Decidable c} (ha : Kept r a.loaded) (hb : Kept r b.loaded) : Kept r (BootTry.loaded (@ite BootTry c inst a b)) := by
  split
  · exact ha
  · exact hb

end Sys2Proof.Machine
end

