-- ==== Sys2Proof/Laws/KeptA.lean ====
section
/-! SUPPORT. One lemma per operation of the block, from State.setDomain to State.sendGroup: it keeps the canonical form of
memory and the queue (Kept). -/
set_option Elab.async false
namespace Sys2Proof.Machine

theorem State_setDomain_kept {r s : State} {a1 a2} (h : Kept r s) :
    Kept r (State.setDomain s a1 a2) := by
  unfold State.setDomain
  with_reducible refine Kept.mk' ?_
  assumption

theorem State_wr_kept {r s : State} {a1 a2} (h : Kept r s) :
    Kept r (State.wr s a1 a2) := by
  unfold State.wr
  with_reducible refine Kept.mk' ?_
  assumption

theorem State_setReg_kept {r s : State} {a1 a2 a3} (h : Kept r s) :
    Kept r (State.setReg s a1 a2 a3) := by
  unfold State.setReg
  with_reducible refine State_wr_kept ?_
  assumption

theorem State_setRegF_kept {r s : State} {a1 a2 a3 a4 a5} (h : Kept r s) :
    Kept r (State.setRegF s a1 a2 a3 a4 a5) := by
  unfold State.setRegF
  with_reducible refine State_setReg_kept ?_
  assumption

theorem State_setReg64_kept {r s : State} {a1 a2 a3} (h : Kept r s) :
    Kept r (State.setReg64 s a1 a2 a3) := by
  unfold State.setReg64
  with_reducible refine State_setReg_kept ?_
  with_reducible refine State_setReg_kept ?_
  assumption

theorem State_satInc_kept {r s : State} {a1 a2 a3} (h : Kept r s) :
    Kept r (State.satInc s a1 a2 a3) := by
  unfold State.satInc
  with_reducible refine State_setReg_kept ?_
  assumption

theorem State_wrapInc_kept {r s : State} {a1 a2 a3} (h : Kept r s) :
    Kept r (State.wrapInc s a1 a2 a3) := by
  unfold State.wrapInc
  with_reducible refine State_setReg_kept ?_
  assumption

theorem State_satIncF_kept {r s : State} {a1 a2 a3 a4 a5} (h : Kept r s) :
    Kept r (State.satIncF s a1 a2 a3 a4 a5) := by
  unfold State.satIncF
  with_reducible refine State_setRegF_kept ?_
  assumption

theorem State_clearRegs_kept {r s : State} {a1 a2} (h : Kept r s) :
    Kept r (State.clearRegs s a1 a2) := by
  unfold State.clearRegs
  with_reducible refine Kept.mk' ?_
  assumption

theorem State_irq_kept {r s : State} {a1 a2} (h : Kept r s) :
    Kept r (State.irq s a1 a2) := by
  unfold State.irq
  extract_lets l0_0 l0_1
  clear_value l0_0
  have hl0_1 : Kept r l0_1 := by
    unfold l0_1
    with_reducible refine State_setReg_kept ?_
    assumption
  clear_value l0_1
  with_reducible refine Kept.mk' ?_
  assumption

theorem State_irqBit_kept {r s : State} {a1 a2} (h : Kept r s) :
    Kept r (State.irqBit s a1 a2) := by
  unfold State.irqBit
  with_reducible refine State_irq_kept ?_
  assumption

theorem State_raiseFault_kept {r s : State} {a1 a2} (h : Kept r s) :
    Kept r (State.raiseFault s a1 a2) := by
  unfold State.raiseFault
  refine Kept.ite (fun _ => ?_) (fun _ => ?_)
  · assumption
  · with_reducible refine Kept.mk' ?_
    assumption

theorem State_writeMem_kept {r s : State} (h : Kept r s) {a0 a1} : Kept r (State.writeMem s a0 a1) := by
  unfold State.writeMem
  split
  · exact h
  · exact Kept.mem' h writeBytes_wf

theorem State_setMem_kept {r s : State} {a1 a2 a3} (h : Kept r s) :
    Kept r (State.setMem s a1 a2 a3) := by
  unfold State.setMem
  with_reducible refine State_writeMem_kept ?_
  assumption

theorem State_putBytes_kept {r s : State} {a1 a2} (h : Kept r s) :
    Kept r (State.putBytes s a1 a2) := by
  unfold State.putBytes
  with_reducible refine State_writeMem_kept ?_
  assumption

theorem State_clearMem_kept {r s : State} (h : Kept r s) {a0 a1} : Kept r (State.clearMem s a0 a1) := Kept.mem' h filter_wf

theorem State_draw_kept {r s : State} (h : Kept r s) :
    Kept r (State.draw s) := by
  unfold State.draw
  with_reducible refine Kept.mk' ?_
  assumption

theorem State_ringLog_kept {r s : State} {a1 a2 a3 a4} (h : Kept r s) :
    Kept r (State.ringLog s a1 a2 a3 a4).1 := by
  unfold State.ringLog
  split
  · split
    · show Kept _ _
      with_reducible refine State_setMem_kept ?_
      assumption
    · show Kept _ _
      assumption
  · extract_lets l1_0
    clear_value l1_0
    show Kept _ _
    with_reducible refine State_setMem_kept ?_
    with_reducible refine State_setMem_kept ?_
    assumption

theorem State_store_kept {r s : State} {a1} (h : Kept r s) :
    Kept r (State.store s a1) := by
  unfold State.store
  refine Kept.foldl (fun t0 x0 h0 => ?_) ?_
  · with_reducible refine State_setReg_kept ?_
    assumption
  · assumption

theorem State_guardDeny_kept {r s : State} {a1 a2 a3} (h : Kept r s) :
    Kept r (State.guardDeny s a1 a2 a3) := by
  unfold State.guardDeny
  split
  · assumption
  · extract_lets l1_0 l1_1 l1_2
    clear_value l1_0
    have hl1_1 : Kept r l1_1 := by
      unfold l1_1
      refine Kept.ite (fun _ => ?_) (fun _ => ?_)
      · with_reducible refine State_setReg_kept ?_
        assumption
      · with_reducible refine State_setReg_kept ?_
        with_reducible refine State_setReg_kept ?_
        assumption
    clear_value l1_1
    clear_value l1_2
    with_reducible refine State_irqBit_kept ?_
    with_reducible refine State_satInc_kept ?_
    assumption

theorem effGuard_kept {r s : State} {a0} (h : Kept r s) :
    Kept r (effGuard a0 s) := by
  unfold effGuard
  extract_lets l0_0
  have hl0_0 : ∀ y0 y1, Kept r y0 → Kept r (l0_0 y0 y1) := by
    intro y0_0 y0_1 hy0
    unfold l0_0
    refine Kept.ite (fun _ => ?_) (fun _ => ?_)
    · with_reducible refine State_setReg_kept ?_
      with_reducible refine State_setReg_kept ?_
      with_reducible refine State_setReg_kept ?_
      assumption
    · assumption
  clear_value l0_0
  split
  · refine hl0_0 _ _ ?_
    refine hl0_0 _ _ ?_
    assumption
  · refine hl0_0 _ _ ?_
    assumption

theorem effIcc_kept {r s : State} {a0} (h : Kept r s) :
    Kept r (effIcc a0 s) := by
  unfold effIcc
  extract_lets l0_0 l0_1
  have hl0_0 : ∀ y0 y1 y2, Kept r y0 → Kept r (l0_0 y0 y1 y2) := by
    intro y0_0 y0_1 y0_2 hy0
    unfold l0_0
    with_reducible refine State_setReg_kept ?_
    assumption
  clear_value l0_0
  have hl0_1 : Kept r l0_1 := by
    unfold l0_1
    refine Kept.ite (fun _ => ?_) (fun _ => ?_)
    · refine hl0_0 _ _ _ ?_
      assumption
    · assumption
  clear_value l0_1
  refine Kept.ite (fun _ => ?_) (fun _ => ?_)
  · refine hl0_0 _ _ _ ?_
    assumption
  · assumption

theorem State_setPin_kept {r s : State} {a1 a2} (h : Kept r s) :
    Kept r (State.setPin s a1 a2) := by
  unfold State.setPin
  with_reducible refine Kept.mk' ?_
  assumption

theorem State_setBank_kept {r s : State} {a1 a2} (h : Kept r s) :
    Kept r (State.setBank s a1 a2) := by
  unfold State.setBank
  with_reducible refine Kept.mk' ?_
  assumption

theorem State_setGen_kept {r s : State} {a1 a2} (h : Kept r s) :
    Kept r (State.setGen s a1 a2) := by
  unfold State.setGen
  with_reducible refine Kept.mk' ?_
  assumption

theorem State_setNet_kept {r s : State} {a1 a2} (h : Kept r s) :
    Kept r (State.setNet s a1 a2) := by
  unfold State.setNet
  with_reducible refine Kept.mk' ?_
  assumption

theorem State_setSrc_kept {r s : State} {a1 a2} (h : Kept r s) :
    Kept r (State.setSrc s a1 a2) := by
  unfold State.setSrc
  with_reducible refine Kept.mk' ?_
  assumption

theorem State_freeEntry_kept {r s : State} {a1} (h : Kept r s) :
    Kept r (State.freeEntry s a1) := by
  unfold State.freeEntry
  with_reducible refine Kept.mk' ?_
  assumption

theorem State_countRej_kept {r s : State} {a1} (h : Kept r s) :
    Kept r (State.countRej s a1) := by
  unfold State.countRej
  split
  · with_reducible refine State_satInc_kept ?_
    assumption
  · assumption

theorem State_poolLow_kept {r s : State} {a1} (h : Kept r s) :
    Kept r (State.poolLow s a1) := by
  unfold State.poolLow
  extract_lets l0_0
  clear_value l0_0
  refine Kept.ite (fun _ => ?_) (fun _ => ?_)
  · with_reducible refine State_irqBit_kept ?_
    assumption
  · assumption

theorem State_putEntry_kept {r s : State} {i e} (h : Kept r s) : Kept r (State.putEntry s i e) := by
  unfold State.putEntry
  refine State_poolLow_kept ?_
  split
  · refine Kept.ite (fun _ => ?_) (fun _ => ?_)
    · exact State_setRegF_kept (Kept.mk' h)
    · exact Kept.mk' h
  · exact Kept.mk' h

theorem State_setSubRes_kept {r s : State} {a1 a2} (h : Kept r s) :
    Kept r (State.setSubRes s a1 a2) := by
  unfold State.setSubRes
  with_reducible refine Kept.mk' ?_
  assumption

theorem State_setStage_kept {r s : State} {a1 a2} (h : Kept r s) :
    Kept r (State.setStage s a1 a2) := by
  unfold State.setStage
  with_reducible refine Kept.mk' ?_
  assumption

theorem State_admit_kept {r s : State} {a1 a2 a3} (h : Kept r s) :
    Kept r (State.admitTo s a1 a2 a3).2.2.2 := by
  unfold State.admitTo
  extract_lets l0_0 l0_1 l0_2
  clear_value l0_0
  clear_value l0_1
  clear_value l0_2
  split
  · show Kept _ _
    show Kept _ _
    show Kept _ _
    with_reducible refine State_putEntry_kept ?_
    with_reducible refine State_draw_kept ?_
    assumption
  · show Kept _ _
    show Kept _ _
    show Kept _ _
    with_reducible refine State_countRej_kept ?_
    assumption

theorem State_submit_kept {r s : State} {a1 a2 a3} (h : Kept r s) :
    Kept r (State.submit s a1 a2 a3) := by
  unfold State.submit
  extract_lets l0_0 l0_1
  clear_value l0_0
  have hl0_1 : Kept r l0_1 := by
    unfold l0_1
    with_reducible refine State_setStage_kept ?_
    assumption
  clear_value l0_1
  split
  · with_reducible refine State_setSubRes_kept ?_
    assumption
  · split
    · with_reducible refine State_setSubRes_kept ?_
      refine Kept.frt (by assumption) ?_
      with_reducible refine State_admit_kept ?_
      assumption

theorem State_slotWrite_kept {r s : State} {a1 a2 a3 a4 a5} (h : Kept r s) :
    Kept r (State.slotWrite s a1 a2 a3 a4 a5) := by
  unfold State.slotWrite
  extract_lets l0_0 l0_1 l0_2 l0_3
  clear_value l0_0
  clear_value l0_1
  clear_value l0_2
  have hl0_3 : Kept r l0_3 := by
    unfold l0_3
    with_reducible refine State_setStage_kept ?_
    assumption
  clear_value l0_3
  refine Kept.ite (fun _ => ?_) (fun _ => ?_)
  · with_reducible refine State_setStage_kept ?_
    assumption
  · refine Kept.ite (fun _ => ?_) (fun _ => ?_)
    · with_reducible refine State_setStage_kept ?_
      assumption
    · refine Kept.ite (fun _ => ?_) (fun _ => ?_)
      · refine Kept.ite (fun _ => ?_) (fun _ => ?_)
        · with_reducible refine State_submit_kept ?_
          assumption
        · assumption
      · with_reducible refine State_submit_kept ?_
        assumption

theorem State_setEntry_kept {r s : State} {a1 a2} (h : Kept r s) :
    Kept r (State.setEntry s a1 a2) := by
  unfold State.setEntry
  with_reducible refine Kept.mk' ?_
  assumption

theorem State_logUndelivered_kept {r s : State} {a1 a2 a3 a4 a5 a6} (h : Kept r s) :
    Kept r (State.logUndelivered s a1 a2 a3 a4 a5 a6) := by
  unfold State.logUndelivered
  extract_lets l0_0
  clear_value l0_0
  split
  · refine Kept.ite (fun _ => ?_) (fun _ => ?_)
    · refine Kept.fst (by assumption) ?_
      with_reducible refine State_ringLog_kept ?_
      assumption
    · with_reducible refine State_irqBit_kept ?_
      refine Kept.fst (by assumption) ?_
      with_reducible refine State_ringLog_kept ?_
      assumption

theorem State_loseEntry_kept {r s : State} {a1 a2 a3} (h : Kept r s) :
    Kept r (State.loseEntry s a1 a2 a3) := by
  unfold State.loseEntry
  extract_lets l0_0 l0_1 l0_2 l0_3 l0_4
  clear_value l0_0
  have hl0_1 : Kept r l0_1 := by
    unfold l0_1
    with_reducible refine State_setEntry_kept ?_
    assumption
  clear_value l0_1
  clear_value l0_2
  have hl0_3 : Kept r l0_3 := by
    unfold l0_3
    with_reducible refine Kept.mk' ?_
    assumption
  clear_value l0_3
  have hl0_4 : Kept r l0_4 := by
    unfold l0_4
    with_reducible refine State_irqBit_kept ?_
    with_reducible refine State_satInc_kept ?_
    with_reducible refine State_logUndelivered_kept ?_
    assumption
  clear_value l0_4
  with_reducible refine State_raiseFault_kept ?_
  assumption

theorem State_entryCommit_kept {r s : State} {a1} (h : Kept r s) :
    Kept r (State.entryCommit s a1) := by
  unfold State.entryCommit
  split
  · refine Kept.ite (fun _ => ?_) (fun _ => ?_)
    · with_reducible refine State_setEntry_kept ?_
      assumption
    · assumption
  · assumption

theorem State_entryHandoff_kept {r s : State} {a1 a2} (h : Kept r s) :
    Kept r (State.entryHandoff s a1 a2) := by
  unfold State.entryHandoff
  split
  · refine Kept.ite (fun _ => ?_) (fun _ => ?_)
    · refine Kept.ite (fun _ => ?_) (fun _ => ?_)
      · extract_lets l3_0 l3_1
        have hl3_0 : Kept r l3_0 := by
          unfold l3_0
          with_reducible refine State_setEntry_kept ?_
          assumption
        clear_value l3_0
        clear_value l3_1
        with_reducible refine Kept.mk' ?_
        assumption
      · with_reducible refine State_loseEntry_kept ?_
        assumption
    · assumption
  · assumption

theorem State_linkReceive_kept {r s : State} {a1 a2} (h : Kept r s) :
    Kept r (State.linkReceive s a1 a2) := by
  unfold State.linkReceive
  refine Kept.ite (fun _ => ?_) (fun _ => ?_)
  · split
    · extract_lets l2_0 l2_1
      clear_value l2_0
      clear_value l2_1
      with_reducible refine Kept.mk' ?_
      assumption
    · split
      · with_reducible refine State_loseEntry_kept ?_
        assumption
      · extract_lets l3_0 l3_1
        have hl3_0 : Kept r l3_0 := by
          unfold l3_0
          with_reducible refine State_raiseFault_kept ?_
          assumption
        clear_value l3_0
        clear_value l3_1
        with_reducible refine Kept.mk' ?_
        assumption
  · assumption

theorem State_entryDelivery_kept {r s : State} {a1 a2} (h : Kept r s) :
    Kept r (State.entryDelivery s a1 a2) := by
  unfold State.entryDelivery
  split
  · refine Kept.ite (fun _ => ?_) (fun _ => ?_)
    · refine Kept.ite (fun _ => ?_) (fun _ => ?_)
      · with_reducible refine State_freeEntry_kept ?_
        with_reducible refine State_loseEntry_kept ?_
        assumption
      · refine Kept.ite (fun _ => ?_) (fun _ => ?_)
        · with_reducible refine State_freeEntry_kept ?_
          assumption
        · extract_lets l4_0 l4_1
          have hl4_0 : Kept r l4_0 := by
            unfold l4_0
            with_reducible refine State_freeEntry_kept ?_
            assumption
          clear_value l4_0
          clear_value l4_1
          with_reducible refine Kept.mk' ?_
          assumption
    · assumption
  · refine Kept.ite (fun _ => ?_) (fun _ => ?_)
    · with_reducible refine Kept.mk' ?_
      assumption
    · assumption
  · refine Kept.ite (fun _ => ?_) (fun _ => ?_)
    · with_reducible refine State_freeEntry_kept ?_
      assumption
    · assumption
  · assumption

theorem State_relErr_kept {r s : State} {a1 a2} (h : Kept r s) :
    Kept r (State.relErr s a1 a2) := by
  unfold State.relErr
  with_reducible refine State_irqBit_kept ?_
  with_reducible refine State_setReg_kept ?_
  assumption

theorem State_releaseFire_kept {r s : State} {a1 a2} (h : Kept r s) :
    Kept r (State.releaseFire s a1 a2) := by
  unfold State.releaseFire
  split
  · with_reducible refine State_relErr_kept ?_
    assumption
  · extract_lets l1_0 l1_1 l1_2 l1_3 l1_4 l1_5 l1_6 l1_7 l1_8 l1_9
    clear_value l1_0
    clear_value l1_1
    clear_value l1_2
    clear_value l1_3
    clear_value l1_4
    clear_value l1_5
    clear_value l1_6
    clear_value l1_7
    clear_value l1_8
    have hl1_9 : Kept r l1_9 := by
      unfold l1_9
      refine Kept.ite (fun _ => ?_) (fun _ => ?_)
      · assumption
      · with_reducible refine State_freeEntry_kept ?_
        assumption
    clear_value l1_9
    refine Kept.ite (fun _ => ?_) (fun _ => ?_)
    · refine Kept.ite (fun _ => ?_) (fun _ => ?_)
      · with_reducible refine State_putEntry_kept ?_
        with_reducible refine State_draw_kept ?_
        assumption
      · with_reducible refine State_putEntry_kept ?_
        assumption
    · with_reducible refine State_relErr_kept ?_
      assumption

theorem State_setEbb_kept {r s : State} {a1 a2} (h : Kept r s) :
    Kept r (State.setEbb s a1 a2) := by
  unfold State.setEbb
  with_reducible refine Kept.mk' ?_
  assumption

theorem State_raiseEpoch_kept {r s : State} {a1 a2} (h : Kept r s) :
    Kept r (State.raiseEpoch s a1 a2) := by
  unfold State.raiseEpoch
  extract_lets l0_0
  have hl0_0 : Kept r l0_0 := by
    unfold l0_0
    with_reducible refine State_wr_kept ?_
    assumption
  clear_value l0_0
  with_reducible refine State_wr_kept ?_
  assumption

theorem State_ebbApply_kept {r s : State} {a1 a2} (h : Kept r s) :
    Kept r (State.ebbApply s a1 a2) := by
  unfold State.ebbApply
  extract_lets l0_0 l0_1 l0_2 l0_3 l0_4 l0_5 l0_6 l0_7 l0_8 l0_9 l0_10 l0_11 l0_12 l0_13
  clear_value l0_0
  clear_value l0_1
  clear_value l0_2
  clear_value l0_3
  clear_value l0_4
  clear_value l0_5
  clear_value l0_6
  clear_value l0_7
  clear_value l0_8
  clear_value l0_9
  clear_value l0_10
  have hl0_11 : Kept r l0_11 := by
    unfold l0_11
    refine Kept.foldl (fun t1 x1 h1 => ?_) ?_
    · with_reducible refine State_freeEntry_kept ?_
      assumption
    · assumption
  clear_value l0_11
  have hl0_12 : Kept r l0_12 := by
    unfold l0_12
    with_reducible refine Kept.mk' ?_
    assumption
  clear_value l0_12
  have hl0_13 : Kept r l0_13 := by
    unfold l0_13
    refine Kept.ite (fun _ => ?_) (fun _ => ?_)
    · refine Kept.foldl (fun t2 x2 h2 => ?_) ?_
      · with_reducible refine State_raiseEpoch_kept ?_
        assumption
      · assumption
    · assumption
  clear_value l0_13
  with_reducible refine State_wrapInc_kept ?_
  with_reducible refine State_setEbb_kept ?_
  assumption

theorem State_ebbDone_kept {r s : State} {a1} (h : Kept r s) :
    Kept r (State.ebbDone s a1) := by
  unfold State.ebbDone
  extract_lets l0_0 l0_1
  clear_value l0_0
  have hl0_1 : Kept r l0_1 := by
    unfold l0_1
    with_reducible refine State_irqBit_kept ?_
    with_reducible refine State_setEbb_kept ?_
    assumption
  clear_value l0_1
  refine Kept.ite (fun _ => ?_) (fun _ => ?_)
  · refine Kept.ite (fun _ => ?_) (fun _ => ?_)
    · assumption
    · with_reducible refine State_satInc_kept ?_
      with_reducible refine State_irqBit_kept ?_
      assumption
  · assumption

theorem State_ebbWrite_kept {r s : State} {a1 a2 a3 a4} (h : Kept r s) :
    Kept r (State.ebbWrite s a1 a2 a3 a4).2 := by
  unfold State.ebbWrite
  extract_lets l0_0 l0_1 l0_2 l0_3 l0_4 l0_5
  clear_value l0_0
  clear_value l0_1
  clear_value l0_2
  clear_value l0_3
  clear_value l0_4
  clear_value l0_5
  split
  · show Kept _ _
    with_reducible refine State_setEbb_kept ?_
    assumption
  · split
    · show Kept _ _
      with_reducible refine State_setEbb_kept ?_
      assumption
    · split
      · show Kept _ _
        with_reducible refine State_setEbb_kept ?_
        assumption
      · show Kept _ _
        refine Kept.ite (fun _ => ?_) (fun _ => ?_)
        · with_reducible refine State_ebbApply_kept ?_
          assumption
        · assumption

theorem State_preempt_kept {r s : State} {a1} (h : Kept r s) :
    Kept r (State.preempt s a1) := by
  unfold State.preempt
  refine Kept.ite (fun _ => ?_) (fun _ => ?_)
  · assumption
  · extract_lets l1_0 l1_1 l1_2 l1_3 l1_4 l1_5 l1_6 l1_7
    clear_value l1_0
    clear_value l1_1
    have hl1_2 : Kept r l1_2 := by
      unfold l1_2
      with_reducible refine State_irqBit_kept ?_
      with_reducible refine State_setReg_kept ?_
      with_reducible refine State_setReg_kept ?_
      with_reducible refine State_setReg_kept ?_
      assumption
    clear_value l1_2
    have hl1_3 : Kept r l1_3 := by
      unfold l1_3
      refine Kept.ite (fun _ => ?_) (fun _ => ?_)
      · with_reducible refine State_setMem_kept ?_
        assumption
      · assumption
    clear_value l1_3
    have hl1_4 : Kept r l1_4 := by
      unfold l1_4
      refine Kept.foldl (fun t2 x2 h2 => ?_) ?_
      · extract_lets l3_0 l3_1 l3_2
        clear_value l3_0
        have hl3_1 : Kept r l3_1 := by
          unfold l3_1
          with_reducible refine State_logUndelivered_kept ?_
          assumption
        clear_value l3_1
        have hl3_2 : Kept r l3_2 := by
          unfold l3_2
          with_reducible refine State_setEntry_kept ?_
          assumption
        clear_value l3_2
        with_reducible refine State_wr_kept ?_
        assumption
      · assumption
    clear_value l1_4
    have hl1_5 : Kept r l1_5 := by
      unfold l1_5
      with_reducible refine State_satInc_kept ?_
      assumption
    clear_value l1_5
    clear_value l1_6
    clear_value l1_7
    with_reducible refine Kept.mk' ?_
    assumption

theorem State_qtabStore_kept {r s : State} {a1 a2 a3} (h : Kept r s) :
    Kept r (State.qtabStore s a1 a2 a3) := by
  unfold State.qtabStore
  extract_lets l0_0
  have hl0_0 : Kept r l0_0 := by
    unfold l0_0
    with_reducible refine State_wr_kept ?_
    assumption
  clear_value l0_0
  refine Kept.ite (fun _ => ?_) (fun _ => ?_)
  · with_reducible refine State_wr_kept ?_
    assumption
  · assumption

theorem State_qtErr_kept {r s : State} {a1 a2 a3} (h : Kept r s) :
    Kept r (State.qtErr s a1 a2 a3) := by
  unfold State.qtErr
  extract_lets l0_0 l0_1
  clear_value l0_0
  have hl0_1 : Kept r l0_1 := by
    unfold l0_1
    refine Kept.ite (fun _ => ?_) (fun _ => ?_)
    · with_reducible refine State_setReg_kept ?_
      assumption
    · with_reducible refine State_setReg_kept ?_
      assumption
  clear_value l0_1
  with_reducible refine State_irqBit_kept ?_
  assumption

theorem effTqf_kept {r s : State} {a1} (h : Kept r s) :
    Kept r (effTqf s a1) := by
  unfold effTqf
  refine Kept.ite (fun _ => ?_) (fun _ => ?_)
  · with_reducible refine State_setReg_kept ?_
    assumption
  · assumption

theorem State_logAnew_kept {r s : State} {a1} (h : Kept r s) :
    Kept r (State.logAnew s a1) := by
  unfold State.logAnew
  with_reducible refine State_setMem_kept ?_
  with_reducible refine State_setMem_kept ?_
  assumption

theorem effTqs_kept {r s : State} {a1} (h : Kept r s) :
    Kept r (effTqs s a1) := by
  unfold effTqs
  extract_lets l0_0 l0_1 l0_2
  have hl0_0 : Kept r l0_0 := by
    unfold l0_0
    refine Kept.ite (fun _ => ?_) (fun _ => ?_)
    · with_reducible refine State_logAnew_kept ?_
      assumption
    · assumption
  clear_value l0_0
  have hl0_1 : Kept r l0_1 := by
    unfold l0_1
    with_reducible refine State_setReg_kept ?_
    with_reducible refine State_clearRegs_kept ?_
    assumption
  clear_value l0_1
  clear_value l0_2
  refine Kept.ite (fun _ => ?_) (fun _ => ?_)
  · with_reducible refine Kept.mk' ?_
    assumption
  · assumption

theorem State_freshPin_kept {r s : State} {a1 a2} (h : Kept r s) :
    Kept r (State.freshPin s a1 a2) := by
  unfold State.freshPin
  with_reducible refine State_setPin_kept ?_
  assumption

theorem State_pinConfigured_kept {r s : State} {a1 a2} (h : Kept r s) :
    Kept r (State.pinConfigured s a1 a2) := by
  unfold State.pinConfigured
  extract_lets l0_0 l0_1 l0_2 l0_3 l0_4 l0_5 l0_6 l0_7 l0_8
  clear_value l0_0
  clear_value l0_1
  clear_value l0_2
  have hl0_3 : Kept r l0_3 := by
    unfold l0_3
    refine Kept.foldl (fun t1 x1 h1 => ?_) ?_
    · extract_lets l2_0
      have hl2_0 : Kept r l2_0 := by
        unfold l2_0
        with_reducible refine State_setRegF_kept ?_
        assumption
      clear_value l2_0
      with_reducible refine State_freshPin_kept ?_
      assumption
    · assumption
  clear_value l0_3
  clear_value l0_4
  have hl0_5 : Kept r l0_5 := by
    unfold l0_5
    refine Kept.foldl (fun t1 x1 h1 => ?_) ?_
    · with_reducible refine State_setRegF_kept ?_
      assumption
    · assumption
  clear_value l0_5
  clear_value l0_6
  clear_value l0_7
  clear_value l0_8
  refine Kept.ite (fun _ => ?_) (fun _ => ?_)
  · refine Kept.foldl (fun t2 x2 h2 => ?_) ?_
    · with_reducible refine State_freshPin_kept ?_
      assumption
    · assumption
  · refine Kept.ite (fun _ => ?_) (fun _ => ?_)
    · with_reducible refine State_freshPin_kept ?_
      assumption
    · refine Kept.ite (fun _ => ?_) (fun _ => ?_)
      · with_reducible refine State_setPin_kept ?_
        assumption
      · assumption

theorem effTio_kept {r s : State} {a0 a1 a2} (h : Kept r s) :
    Kept r (effTio a0 a1 a2 s) := by
  unfold effTio
  extract_lets l0_0 l0_1 l0_2
  have hl0_0 : Kept r l0_0 := by
    unfold l0_0
    refine Kept.foldl (fun t1 x1 h1 => ?_) ?_
    · refine Kept.ite (fun _ => ?_) (fun _ => ?_)
      · with_reducible refine State_pinConfigured_kept ?_
        assumption
      · assumption
    · assumption
  clear_value l0_0
  have hl0_1 : Kept r l0_1 := by
    unfold l0_1
    refine Kept.ite (fun _ => ?_) (fun _ => ?_)
    · with_reducible refine State_setReg_kept ?_
      with_reducible refine State_setRegF_kept ?_
      assumption
    · assumption
  clear_value l0_1
  clear_value l0_2
  refine Kept.ite (fun _ => ?_) (fun _ => ?_)
  · refine Kept.ite (fun _ => ?_) (fun _ => ?_)
    · with_reducible refine State_setBank_kept ?_
      assumption
    · assumption
  · assumption

theorem State_takeDue_kept {r s t : State} {a0 a1 e} (e : State.takeDue s a0 a1 = some (e, t)) (h : Kept r s) : Kept r t := by
  unfold State.takeDue at e
  split at e
  · simp only [Option.some.injEq, Prod.mk.injEq] at e
    obtain ⟨_, rfl⟩ := e
    exact Kept.mk' h
  · simp at e

theorem State_badPayload_kept {r s : State} {a1} (h : Kept r s) :
    Kept r (State.badPayload s a1) := by
  unfold State.badPayload
  with_reducible refine State_irqBit_kept ?_
  with_reducible refine State_setReg_kept ?_
  with_reducible refine State_satInc_kept ?_
  assumption

theorem State_drivePin_kept {r s : State} {a1 a2} (h : Kept r s) :
    Kept r (State.drivePin s a1 a2) := by
  unfold State.drivePin
  with_reducible refine State_setPin_kept ?_
  assumption

theorem State_levelAction_kept {r s : State} {a1 a2} (h : Kept r s) :
    Kept r (State.levelAction s a1 a2) := by
  unfold State.levelAction
  extract_lets l0_0
  clear_value l0_0
  refine Kept.ite (fun _ => ?_) (fun _ => ?_)
  · with_reducible refine State_drivePin_kept ?_
    assumption
  · refine Kept.ite (fun _ => ?_) (fun _ => ?_)
    · with_reducible refine State_drivePin_kept ?_
      assumption
    · refine Kept.ite (fun _ => ?_) (fun _ => ?_)
      · with_reducible refine State_drivePin_kept ?_
        assumption
      · refine Kept.ite (fun _ => ?_) (fun _ => ?_)
        · with_reducible refine State_drivePin_kept ?_
          assumption
        · with_reducible refine State_badPayload_kept ?_
          assumption

theorem State_pulseAt_kept {r s : State} {a1 a2 a3 a4} (h : Kept r s) :
    Kept r (State.pulseAt s a1 a2 a3 a4) := by
  unfold State.pulseAt
  extract_lets l0_0
  clear_value l0_0
  split
  · with_reducible refine State_setPin_kept ?_
    assumption
  · with_reducible refine State_setPin_kept ?_
    assumption

theorem State_pulseStart_kept {r s : State} {a1 a2 a3} (h : Kept r s) :
    Kept r (State.pulseStart s a1 a2 a3) := by
  unfold State.pulseStart
  extract_lets l0_0
  clear_value l0_0
  refine Kept.ite (fun _ => ?_) (fun _ => ?_)
  · with_reducible refine State_badPayload_kept ?_
    assumption
  · with_reducible refine State_pulseAt_kept ?_
    assumption

theorem State_pulseEnd_kept {r s : State} {a1} (h : Kept r s) :
    Kept r (State.pulseEnd s a1) := by
  unfold State.pulseEnd
  extract_lets l0_0
  clear_value l0_0
  split
  · refine Kept.ite (fun _ => ?_) (fun _ => ?_)
    · with_reducible refine State_setPin_kept ?_
      assumption
    · assumption
  · assumption

theorem State_pwmPeriod_kept {r s : State} {a1 a2} (h : Kept r s) :
    Kept r (State.pwmPeriod s a1 a2) := by
  unfold State.pwmPeriod
  extract_lets l0_0 l0_1 l0_2
  clear_value l0_0
  clear_value l0_2
  with_reducible refine State_setPin_kept ?_
  assumption

theorem State_pwmEntry_kept {r s : State} {a1 a2 a3 a4} (h : Kept r s) :
    Kept r (State.pwmEntry s a1 a2 a3 a4) := by
  unfold State.pwmEntry
  extract_lets l0_0 l0_1 l0_2
  clear_value l0_0
  clear_value l0_1
  clear_value l0_2
  refine Kept.ite (fun _ => ?_) (fun _ => ?_)
  · refine Kept.ite (fun _ => ?_) (fun _ => ?_)
    · with_reducible refine State_badPayload_kept ?_
      assumption
    · with_reducible refine State_setPin_kept ?_
      assumption
  · refine Kept.ite (fun _ => ?_) (fun _ => ?_)
    · refine Kept.ite (fun _ => ?_) (fun _ => ?_)
      · with_reducible refine State_badPayload_kept ?_
        assumption
      · with_reducible refine State_setPin_kept ?_
        assumption
    · refine Kept.ite (fun _ => ?_) (fun _ => ?_)
      · with_reducible refine State_badPayload_kept ?_
        assumption
      · refine Kept.ite (fun _ => ?_) (fun _ => ?_)
        · refine Kept.ite (fun _ => ?_) (fun _ => ?_)
          · assumption
          · refine Kept.ite (fun _ => ?_) (fun _ => ?_)
            · with_reducible refine State_badPayload_kept ?_
              assumption
            · with_reducible refine State_pwmPeriod_kept ?_
              assumption
        · with_reducible refine State_setPin_kept ?_
          assumption

theorem State_pwmPeriodStart_kept {r s : State} {a1} (h : Kept r s) :
    Kept r (State.pwmPeriodStart s a1) := by
  unfold State.pwmPeriodStart
  extract_lets l0_0
  clear_value l0_0
  refine Kept.ite (fun _ => ?_) (fun _ => ?_)
  · with_reducible refine State_pwmPeriod_kept ?_
    assumption
  · assumption

theorem State_pwmDutyEnd_kept {r s : State} {a1} (h : Kept r s) :
    Kept r (State.pwmDutyEnd s a1) := by
  unfold State.pwmDutyEnd
  extract_lets l0_0 l0_1
  clear_value l0_0
  clear_value l0_1
  refine Kept.ite (fun _ => ?_) (fun _ => ?_)
  · with_reducible refine State_setPin_kept ?_
    assumption
  · assumption

theorem State_stepSegment_kept {r s : State} {a1 a2 a3} (h : Kept r s) :
    Kept r (State.stepSegment s a1 a2 a3) := by
  unfold State.stepSegment
  extract_lets l0_0 l0_1 l0_2 l0_3 l0_4 l0_5 l0_6
  clear_value l0_0
  clear_value l0_1
  clear_value l0_2
  clear_value l0_3
  clear_value l0_4
  clear_value l0_5
  have hl0_6 : Kept r l0_6 := by
    unfold l0_6
    with_reducible refine State_setPin_kept ?_
    assumption
  clear_value l0_6
  refine Kept.ite (fun _ => ?_) (fun _ => ?_)
  · with_reducible refine State_badPayload_kept ?_
    assumption
  · refine Kept.ite (fun _ => ?_) (fun _ => ?_)
    · with_reducible refine State_drivePin_kept ?_
      assumption
    · assumption

theorem State_stepEdge_kept {r s : State} {a1} (h : Kept r s) :
    Kept r (State.stepEdge s a1) := by
  unfold State.stepEdge
  extract_lets l0_0
  clear_value l0_0
  split
  · refine Kept.ite (fun _ => ?_) (fun _ => ?_)
    · with_reducible refine State_setPin_kept ?_
      assumption
    · assumption
  · assumption

theorem State_stepPulseEnd_kept {r s : State} {a1} (h : Kept r s) :
    Kept r (State.stepPulseEnd s a1) := by
  unfold State.stepPulseEnd
  extract_lets l0_0
  clear_value l0_0
  split
  · refine Kept.ite (fun _ => ?_) (fun _ => ?_)
    · with_reducible refine State_setPin_kept ?_
      assumption
    · assumption
  · assumption

theorem State_captureEdge_kept {r s : State} {a1 a2 a3} (h : Kept r s) :
    Kept r (State.captureEdge s a1 a2 a3) := by
  unfold State.captureEdge
  extract_lets l0_0 l0_1 l0_2 l0_3 l0_4 l0_5
  clear_value l0_0
  clear_value l0_1
  have hl0_2 : Kept r l0_2 := by
    unfold l0_2
    with_reducible refine State_setPin_kept ?_
    assumption
  clear_value l0_2
  clear_value l0_3
  clear_value l0_4
  have hl0_5 : Kept r l0_5 := by
    unfold l0_5
    with_reducible refine State_setPin_kept ?_
    assumption
  clear_value l0_5
  refine Kept.ite (fun _ => ?_) (fun _ => ?_)
  · refine Kept.ite (fun _ => ?_) (fun _ => ?_)
    · with_reducible refine State_irqBit_kept ?_
      with_reducible refine State_satIncF_kept ?_
      with_reducible refine State_setBank_kept ?_
      assumption
    · with_reducible refine State_irqBit_kept ?_
      with_reducible refine State_setBank_kept ?_
      assumption
  · assumption

theorem State_quadEdge_kept {r s : State} {a1 a2 a3 a4} (h : Kept r s) :
    Kept r (State.quadEdge s a1 a2 a3 a4) := by
  unfold State.quadEdge
  refine Kept.ite (fun _ => ?_) (fun _ => ?_)
  · extract_lets l1_0 l1_1 l1_2 l1_3 l1_4 l1_5 l1_6 l1_7 l1_8 l1_9 l1_10
    clear_value l1_0
    clear_value l1_1
    have hl1_2 : Kept r l1_2 := by
      unfold l1_2
      refine Kept.ite (fun _ => ?_) (fun _ => ?_)
      · with_reducible refine State_setPin_kept ?_
        assumption
      · with_reducible refine State_setPin_kept ?_
        assumption
    clear_value l1_2
    clear_value l1_3
    clear_value l1_4
    clear_value l1_5
    clear_value l1_6
    clear_value l1_7
    clear_value l1_8
    clear_value l1_9
    clear_value l1_10
    refine Kept.ite (fun _ => ?_) (fun _ => ?_)
    · with_reducible refine State_irqBit_kept ?_
      with_reducible refine State_setReg_kept ?_
      with_reducible refine State_setPin_kept ?_
      assumption
    · refine Kept.ite (fun _ => ?_) (fun _ => ?_)
      · with_reducible refine State_setPin_kept ?_
        assumption
      · with_reducible refine State_setPin_kept ?_
        assumption
  · assumption

theorem State_pinSample_kept {r s : State} {a1 a2 a3} (h : Kept r s) :
    Kept r (State.pinSample s a1 a2 a3) := by
  unfold State.pinSample
  with_reducible refine State_setSrc_kept ?_
  with_reducible refine State_setPin_kept ?_
  assumption

theorem State_quadSample_kept {r s : State} {a1 a2} (h : Kept r s) :
    Kept r (State.quadSample s a1 a2) := by
  unfold State.quadSample
  refine Kept.ite (fun _ => ?_) (fun _ => ?_)
  · with_reducible refine State_pinSample_kept ?_
    assumption
  · assumption

theorem State_ssiRead_kept {r s : State} {a1 a2} (h : Kept r s) :
    Kept r (State.ssiRead s a1 a2) := by
  unfold State.ssiRead
  extract_lets l0_0 l0_1 l0_2
  clear_value l0_0
  clear_value l0_1
  clear_value l0_2
  refine Kept.ite (fun _ => ?_) (fun _ => ?_)
  · with_reducible refine State_drivePin_kept ?_
    with_reducible refine State_setPin_kept ?_
    with_reducible refine State_draw_kept ?_
    assumption
  · assumption

theorem State_ssiReadDone_kept {r s : State} {a1 a2 a3 a4} (h : Kept r s) :
    Kept r (State.ssiReadDone s a1 a2 a3 a4) := by
  unfold State.ssiReadDone
  extract_lets l0_0 l0_1 l0_2 l0_3 l0_4 l0_5 l0_6 l0_7 l0_8 l0_9 l0_10 l0_11
  clear_value l0_0
  clear_value l0_1
  clear_value l0_2
  clear_value l0_3
  have hl0_4 : Kept r l0_4 := by
    unfold l0_4
    with_reducible refine State_drivePin_kept ?_
    with_reducible refine State_setPin_kept ?_
    assumption
  clear_value l0_4
  clear_value l0_5
  have hl0_6 : Kept r l0_6 := by
    unfold l0_6
    with_reducible refine State_setPin_kept ?_
    assumption
  clear_value l0_6
  clear_value l0_7
  clear_value l0_8
  clear_value l0_9
  clear_value l0_10
  have hl0_11 : Kept r l0_11 := by
    unfold l0_11
    with_reducible refine State_setPin_kept ?_
    assumption
  clear_value l0_11
  split
  · refine Kept.ite (fun _ => ?_) (fun _ => ?_)
    · with_reducible refine State_irqBit_kept ?_
      with_reducible refine State_setReg_kept ?_
      assumption
    · with_reducible refine State_pinSample_kept ?_
      assumption
  · assumption

theorem State_genBegin_kept {r s : State} {a1} (h : Kept r s) :
    Kept r (State.genBegin s a1) := by
  unfold State.genBegin
  extract_lets l0_0 l0_1
  clear_value l0_0
  have hl0_1 : Kept r l0_1 := by
    unfold l0_1
    with_reducible refine State_setGen_kept ?_
    assumption
  clear_value l0_1
  with_reducible refine State_setReg_kept ?_
  with_reducible refine State_setReg_kept ?_
  with_reducible refine State_setReg_kept ?_
  assumption

theorem State_genEnd_kept {r s : State} {a1} (h : Kept r s) :
    Kept r (State.genEnd s a1) := by
  unfold State.genEnd
  with_reducible refine State_setReg_kept ?_
  with_reducible refine State_setGen_kept ?_
  assumption

theorem State_genSkip_kept {r s : State} {a1 a2} (h : Kept r s) :
    Kept r (State.genSkip s a1 a2) := by
  unfold State.genSkip
  refine Kept.ite (fun _ => ?_) (fun _ => ?_)
  · assumption
  · with_reducible refine State_irqBit_kept ?_
    with_reducible refine State_satInc_kept ?_
    assumption

theorem State_genPlan_kept {r s : State} (h : Kept r s) {a0 a1 a2 a3 a4} : Kept r (State.genPlan s a0 a1 a2 a3 a4) := by
  induction a4 generalizing s with
  | zero => exact h
  | succ n ih =>
    unfold State.genPlan
    extract_lets l0
    split
    · exact h
    · split
      · exact State_setGen_kept h
      · extract_lets l1 l2
        clear_value l1 l2
        split
        · exact State_setGen_kept h
        · split
          · exact ih (State_genSkip_kept (State_setGen_kept h))
          · exact ih (State_setGen_kept h)

theorem State_genPassed_kept {r s : State} {a1 a2 a3} (h : Kept r s) :
    Kept r (State.genPassed s a1 a2 a3) := by
  unfold State.genPassed
  extract_lets l0_0 l0_1 l0_2 l0_3
  clear_value l0_0
  clear_value l0_1
  clear_value l0_2
  clear_value l0_3
  refine Kept.ite (fun _ => ?_) (fun _ => ?_)
  · with_reducible refine State_genSkip_kept ?_
    with_reducible refine State_setGen_kept ?_
    assumption
  · with_reducible refine State_genSkip_kept ?_
    with_reducible refine State_setGen_kept ?_
    assumption

theorem State_genStat_kept {r s : State} {a1 a2 a3} (h : Kept r s) :
    Kept r (State.genStat s a1 a2 a3) := by
  unfold State.genStat
  with_reducible refine State_setReg_kept ?_
  assumption

theorem State_generatorSample_kept {r s : State} {a1} (h : Kept r s) :
    Kept r (State.generatorSample s a1) := by
  unfold State.generatorSample
  refine Kept.ite (fun _ => ?_) (fun _ => ?_)
  · split
    · assumption
    · extract_lets l2_0 l2_1 l2_2 l2_3 l2_4 l2_5 l2_6 l2_7
      clear_value l2_0
      clear_value l2_1
      clear_value l2_2
      clear_value l2_3
      clear_value l2_4
      have hl2_5 : Kept r l2_5 := by
        unfold l2_5
        with_reducible refine State_setGen_kept ?_
        assumption
      clear_value l2_5
      have hl2_6 : Kept r l2_6 := by
        unfold l2_6
        with_reducible refine State_genStat_kept ?_
        assumption
      clear_value l2_6
      have hl2_7 : Kept r l2_7 := by
        unfold l2_7
        refine Kept.ite (fun _ => ?_) (fun _ => ?_)
        · with_reducible refine State_genPassed_kept ?_
          assumption
        · assumption
      clear_value l2_7
      refine Kept.ite (fun _ => ?_) (fun _ => ?_)
      · assumption
      · split
        · assumption
        · refine Kept.ite (fun _ => ?_) (fun _ => ?_)
          · assumption
          · extract_lets l6_0 l6_1
            clear_value l6_0
            clear_value l6_1
            with_reducible refine State_genPlan_kept ?_
            assumption
  · assumption

theorem State_generatorStall_kept {r s : State} {a1} (h : Kept r s) :
    Kept r (State.generatorStall s a1) := by
  unfold State.generatorStall
  extract_lets l0_0 l0_1
  clear_value l0_0
  refine Kept.ite (fun _ => ?_) (fun _ => ?_)
  · with_reducible refine State_irqBit_kept ?_
    with_reducible refine State_genStat_kept ?_
    with_reducible refine State_setGen_kept ?_
    assumption
  · assumption

theorem State_triggerEdge_kept {r s : State} {a1} (h : Kept r s) :
    Kept r (State.triggerEdge s a1) := by
  unfold State.triggerEdge
  extract_lets l0_0 l0_1 l0_2
  clear_value l0_0
  clear_value l0_1
  clear_value l0_2
  split
  · refine Kept.ite (fun _ => ?_) (fun _ => ?_)
    · extract_lets l3_0 l3_1 l3_2 l3_3
      have hl3_0 : Kept r l3_0 := by
        unfold l3_0
        with_reducible refine State_setGen_kept ?_
        assumption
      clear_value l3_0
      have hl3_1 : Kept r l3_1 := by
        unfold l3_1
        with_reducible refine State_setReg_kept ?_
        assumption
      clear_value l3_1
      have hl3_2 : Kept r l3_2 := by
        unfold l3_2
        with_reducible refine State_pulseAt_kept ?_
        assumption
      clear_value l3_2
      clear_value l3_3
      with_reducible refine State_setPin_kept ?_
      assumption
    · assumption
  · assumption

theorem State_tlogWrite_kept {r s : State} {a1} (h : Kept r s) :
    Kept r (State.tlogWrite s a1) := by
  unfold State.tlogWrite
  extract_lets l0_0 l0_1
  clear_value l0_0
  clear_value l0_1
  refine Kept.ite (fun _ => ?_) (fun _ => ?_)
  · split
    · with_reducible refine Kept.mk' ?_
      assumption
  · with_reducible refine Kept.mk' ?_
    assumption

theorem effTioc_kept {r s : State} {a0 a1} (h : Kept r s) :
    Kept r (effTioc a0 a1 s) := by
  unfold effTioc
  extract_lets l0_0
  have hl0_0 : Kept r l0_0 := by
    unfold l0_0
    refine Kept.foldl (fun t1 x1 h1 => ?_) ?_
    · refine Kept.ite (fun _ => ?_) (fun _ => ?_)
      · extract_lets l3_0
        clear_value l3_0
        refine Kept.ite (fun _ => ?_) (fun _ => ?_)
        · with_reducible refine State_genBegin_kept ?_
          assumption
        · refine Kept.ite (fun _ => ?_) (fun _ => ?_)
          · with_reducible refine State_genEnd_kept ?_
            assumption
          · assumption
      · assumption
    · assumption
  clear_value l0_0
  refine Kept.ite (fun _ => ?_) (fun _ => ?_)
  · with_reducible refine State_tlogWrite_kept ?_
    assumption
  · assumption

theorem State_actOn_kept {r s : State} {a1 a2 a3 a4} (h : Kept r s) (hf4 : ∀ x0 x1, Kept r x0 → Kept r (a4 x0 x1)) :
    Kept r (State.actOn s a1 a2 a3 a4) := by
  unfold State.actOn
  split
  · refine Kept.ite (fun _ => ?_) (fun _ => ?_)
    · refine State_takeDue_kept (by assumption) ?_
      assumption
    · refine Kept.ite (fun _ => ?_) (fun _ => ?_)
      · refine hf4 _ _ ?_
        refine State_takeDue_kept (by assumption) ?_
        assumption
      · refine Kept.ite (fun _ => ?_) (fun _ => ?_)
        · assumption
        · refine State_takeDue_kept (by assumption) ?_
          assumption
  · assumption

theorem State_tbEnter_kept {r s : State} {a1} (h : Kept r s) :
    Kept r (State.tbEnter s a1) := by
  unfold State.tbEnter
  extract_lets l0_0 l0_1
  clear_value l0_0
  have hl0_1 : Kept r l0_1 := by
    unfold l0_1
    with_reducible refine State_setRegF_kept ?_
    assumption
  clear_value l0_1
  refine Kept.ite (fun _ => ?_) (fun _ => ?_)
  · with_reducible refine State_irqBit_kept ?_
    assumption
  · refine Kept.ite (fun _ => ?_) (fun _ => ?_)
    · with_reducible refine State_irqBit_kept ?_
      assumption
    · assumption

theorem effTb_kept {r s : State} {a1} (h : Kept r s) :
    Kept r (effTb s a1) := by
  unfold effTb
  extract_lets l0_0 l0_1 l0_2
  have hl0_0 : Kept r l0_0 := by
    unfold l0_0
    with_reducible refine State_tbEnter_kept ?_
    assumption
  clear_value l0_0
  clear_value l0_1
  have hl0_2 : Kept r l0_2 := by
    unfold l0_2
    refine Kept.ite (fun _ => ?_) (fun _ => ?_)
    · with_reducible refine Kept.mk' ?_
      assumption
    · assumption
  clear_value l0_2
  refine Kept.ite (fun _ => ?_) (fun _ => ?_)
  · with_reducible refine State_setRegF_kept ?_
    assumption
  · assumption

theorem State_syncReceive_kept {r s : State} {a1 a2} (h : Kept r s) :
    Kept r (State.syncReceive s a1 a2) := by
  unfold State.syncReceive
  refine Kept.ite (fun _ => ?_) (fun _ => ?_)
  · extract_lets l1_0 l1_1 l1_2 l1_3 l1_4 l1_5 l1_6 l1_7 l1_8 l1_9 l1_10 l1_11 l1_12
    clear_value l1_0
    clear_value l1_1
    clear_value l1_2
    clear_value l1_3
    clear_value l1_4
    clear_value l1_5
    have hl1_6 : Kept r l1_6 := by
      unfold l1_6
      refine Kept.ite (fun _ => ?_) (fun _ => ?_)
      · with_reducible refine State_setReg64_kept ?_
        assumption
      · assumption
    clear_value l1_6
    have hl1_7 : Kept r l1_7 := by
      unfold l1_7
      refine Kept.ite (fun _ => ?_) (fun _ => ?_)
      · with_reducible refine State_irqBit_kept ?_
        assumption
      · assumption
    clear_value l1_7
    have hl1_8 : Kept r l1_8 := by
      unfold l1_8
      with_reducible refine State_setReg_kept ?_
      assumption
    clear_value l1_8
    have hl1_9 : Kept r l1_9 := by
      unfold l1_9
      with_reducible refine State_draw_kept ?_
      with_reducible refine State_setReg_kept ?_
      assumption
    clear_value l1_9
    clear_value l1_10
    clear_value l1_11
    have hl1_12 : Kept r l1_12 := by
      unfold l1_12
      with_reducible refine Kept.mk' ?_
      assumption
    clear_value l1_12
    refine Kept.ite (fun _ => ?_) (fun _ => ?_)
    · with_reducible refine State_tbEnter_kept ?_
      assumption
    · assumption
  · assumption

theorem State_syncLost_kept {r s : State} (h : Kept r s) :
    Kept r (State.syncLost s) := by
  unfold State.syncLost
  refine Kept.ite (fun _ => ?_) (fun _ => ?_)
  · extract_lets l1_0 l1_1
    have hl1_0 : Kept r l1_0 := by
      unfold l1_0
      with_reducible refine State_tbEnter_kept ?_
      assumption
    clear_value l1_0
    clear_value l1_1
    with_reducible refine Kept.mk' ?_
    assumption
  · assumption

theorem State_skewMeasured_kept {r s : State} {a1} (h : Kept r s) :
    Kept r (State.skewMeasured s a1) := by
  unfold State.skewMeasured
  extract_lets l0_0 l0_1 l0_2 l0_3
  clear_value l0_0
  have hl0_1 : Kept r l0_1 := by
    unfold l0_1
    with_reducible refine State_setRegF_kept ?_
    with_reducible refine State_setRegF_kept ?_
    assumption
  clear_value l0_1
  have hl0_2 : Kept r l0_2 := by
    unfold l0_2
    with_reducible refine State_setRegF_kept ?_
    assumption
  clear_value l0_2
  have hl0_3 : Kept r l0_3 := by
    unfold l0_3
    refine Kept.ite (fun _ => ?_) (fun _ => ?_)
    · with_reducible refine State_irqBit_kept ?_
      assumption
    · assumption
  clear_value l0_3
  refine Kept.ite (fun _ => ?_) (fun _ => ?_)
  · with_reducible refine State_raiseFault_kept ?_
    assumption
  · assumption

theorem State_tick_kept {r s : State} (h : Kept r s) :
    Kept r (State.tick s) := by
  unfold State.tick
  split
  · with_reducible refine Kept.mk' ?_
    assumption

theorem State_rxLog_kept {r s : State} {a1 a2 a3 a4 a5} (h : Kept r s) :
    Kept r (State.rxLog s a1 a2 a3 a4 a5) := by
  unfold State.rxLog
  extract_lets l0_0
  clear_value l0_0
  split
  · refine Kept.ite (fun _ => ?_) (fun _ => ?_)
    · refine Kept.fst (by assumption) ?_
      with_reducible refine State_ringLog_kept ?_
      assumption
    · with_reducible refine State_irqBit_kept ?_
      refine Kept.fst (by assumption) ?_
      with_reducible refine State_ringLog_kept ?_
      assumption

theorem State_reportLate_kept {r s : State} {a1} (h : Kept r s) :
    Kept r (State.reportLate s a1) := by
  unfold State.reportLate
  extract_lets l0_0
  clear_value l0_0
  with_reducible refine State_rxLog_kept ?_
  with_reducible refine State_irqBit_kept ?_
  with_reducible refine State_satInc_kept ?_
  assumption

theorem State_reportNoack_kept {r s : State} {a1 a2} (h : Kept r s) :
    Kept r (State.reportNoack s a1 a2) := by
  unfold State.reportNoack
  with_reducible refine State_rxLog_kept ?_
  with_reducible refine State_irqBit_kept ?_
  with_reducible refine State_satInc_kept ?_
  assumption

theorem State_rxErr_kept {r s : State} {a1} (h : Kept r s) :
    Kept r (State.rxErr s a1) := by
  unfold State.rxErr
  with_reducible refine State_satInc_kept ?_
  assumption

theorem State_markSent_kept {r s : State} {a1} (h : Kept r s) :
    Kept r (State.markSent s a1) := by
  unfold State.markSent
  extract_lets l0_0 l0_1
  clear_value l0_0
  clear_value l0_1
  with_reducible refine Kept.mk' ?_
  assumption

theorem State_sendFrame_kept {r s : State} {a1 a2 a3 a4} (h : Kept r s) :
    Kept r (State.sendFrame s a1 a2 a3 a4) := by
  unfold State.sendFrame
  extract_lets l0_0
  clear_value l0_0
  with_reducible refine State_wrapInc_kept ?_
  with_reducible refine State_setNet_kept ?_
  assumption

theorem State_cyclicFrame_kept {r s : State} {a1 a2 a3} (h : Kept r s) :
    Kept r (State.cyclicFrame s a1 a2 a3) := by
  unfold State.cyclicFrame
  extract_lets l0_0 l0_1 l0_2 l0_3
  clear_value l0_0
  clear_value l0_1
  clear_value l0_2
  clear_value l0_3
  refine Kept.ite (fun _ => ?_) (fun _ => ?_)
  · split
    · extract_lets l3_0 l3_1 l3_2 l3_3
      clear_value l3_0
      have hl3_1 : Kept r l3_1 := by
        unfold l3_1
        with_reducible refine State_markSent_kept ?_
        with_reducible refine State_sendFrame_kept ?_
        assumption
      clear_value l3_1
      clear_value l3_2
      have hl3_3 : Kept r l3_3 := by
        unfold l3_3
        with_reducible refine State_setNet_kept ?_
        assumption
      clear_value l3_3
      refine Kept.foldl (fun t4 x4 h4 => ?_) ?_
      · with_reducible refine State_reportLate_kept ?_
        assumption
      · assumption
  · assumption

theorem State_safeSend_kept {r s : State} {a1 a2 a3 a4 a5} (h : Kept r s) :
    Kept r (State.safeSend s a1 a2 a3 a4 a5) := by
  unfold State.safeSend
  extract_lets l0_0
  clear_value l0_0
  split
  · assumption
  · extract_lets l2_0 l2_1 l2_2
    clear_value l2_0
    clear_value l2_1
    have hl2_2 : Kept r l2_2 := by
      unfold l2_2
      with_reducible refine State_setNet_kept ?_
      assumption
    clear_value l2_2
    with_reducible refine State_sendFrame_kept ?_
    assumption

theorem State_sendGroup_kept {r s : State} {a1 a2 a3} (h : Kept r s) :
    Kept r (State.sendGroup s a1 a2 a3) := by
  unfold State.sendGroup
  split
  · extract_lets l1_0 l1_1 l1_2
    have hl1_0 : ∀ y0, Kept r y0 → Kept r (l1_0 y0) := by
      intro y1_0 hy1
      unfold l1_0
      refine Kept.foldl (fun t2 x2 h2 => ?_) ?_
      · with_reducible refine State_reportLate_kept ?_
        assumption
      · assumption
    clear_value l1_0
    clear_value l1_1
    clear_value l1_2
    split
    · refine hl1_0 _ ?_
      with_reducible refine State_markSent_kept ?_
      assumption
    · extract_lets l3_0 l3_1 l3_2 l3_3 l3_4 l3_5
      clear_value l3_0
      clear_value l3_1
      clear_value l3_2
      clear_value l3_3
      have hl3_4 : Kept r l3_4 := by
        unfold l3_4
        with_reducible refine State_markSent_kept ?_
        with_reducible refine State_sendFrame_kept ?_
        assumption
      clear_value l3_4
      clear_value l3_5
      refine Kept.ite (fun _ => ?_) (fun _ => ?_)
      · refine hl1_0 _ ?_
        with_reducible refine State_markSent_kept ?_
        with_reducible refine State_safeSend_kept ?_
        assumption
      · refine hl1_0 _ ?_
        with_reducible refine State_setNet_kept ?_
        assumption

end Sys2Proof.Machine
end

