-- ==== Sys2Proof/Laws/KeptB.lean ====
section
/-! SUPPORT. One lemma per operation of the block, from State.acyclicFrame to State.receiverUp: it keeps the canonical form of
memory and the queue (Kept). -/
set_option Elab.async false
namespace Sys2Proof.Machine

theorem State_dropOverdue_kept {r s : State} {a1} (h : Kept r s) :
    Kept r (State.dropOverdue s a1) := by
  unfold State.dropOverdue
  refine Kept.foldl (fun t1 x1 h1 => ?_) ?_
  · with_reducible refine State_reportLate_kept ?_
    assumption
  · with_reducible refine State_markSent_kept ?_
    assumption

theorem State_acyclicFrame_kept {r s : State} {a1 a2} (h : Kept r s) :
    Kept r (State.acyclicFrame s a1 a2) := by
  unfold State.acyclicFrame
  extract_lets l0_0 l0_1
  clear_value l0_0
  clear_value l0_1
  refine Kept.ite (fun _ => ?_) (fun _ => ?_)
  · with_reducible refine State_sendGroup_kept ?_
    assumption
  · refine Kept.ite (fun _ => ?_) (fun _ => ?_)
    · assumption
    · with_reducible refine State_dropOverdue_kept ?_
      assumption

theorem State_tsnFrame_kept {r s : State} {a1 a2} (h : Kept r s) :
    Kept r (State.tsnFrame s a1 a2) := by
  unfold State.tsnFrame
  extract_lets l0_0 l0_1
  clear_value l0_0
  clear_value l0_1
  refine Kept.ite (fun _ => ?_) (fun _ => ?_)
  · split
    · assumption
    · extract_lets l3_0
      clear_value l3_0
      refine Kept.ite (fun _ => ?_) (fun _ => ?_)
      · with_reducible refine State_sendGroup_kept ?_
        assumption
      · refine Kept.ite (fun _ => ?_) (fun _ => ?_)
        · refine Kept.foldl (fun t6 x6 h6 => ?_) ?_
          · with_reducible refine State_reportLate_kept ?_
            assumption
          · with_reducible refine State_markSent_kept ?_
            assumption
        · assumption
  · refine Kept.ite (fun _ => ?_) (fun _ => ?_)
    · assumption
    · with_reducible refine State_dropOverdue_kept ?_
      assumption

theorem State_eventFrame_kept {r s : State} {a1 a2} (h : Kept r s) :
    Kept r (State.eventFrame s a1 a2) := by
  unfold State.eventFrame
  refine Kept.ite (fun _ => ?_) (fun _ => ?_)
  · with_reducible refine State_rxErr_kept ?_
    assumption
  · refine Kept.foldl (fun t1 x1 h1 => ?_) ?_
    · with_reducible refine State_rxLog_kept ?_
      assumption
    · assumption

theorem State_ackFrame_kept {r s : State} {a1 a2} (h : Kept r s) :
    Kept r (State.ackFrame s a1 a2) := by
  unfold State.ackFrame
  refine Kept.ite (fun _ => ?_) (fun _ => ?_)
  · with_reducible refine State_rxErr_kept ?_
    assumption
  · extract_lets l1_0 l1_1 l1_2 l1_3 l1_4 l1_5
    clear_value l1_0
    clear_value l1_1
    clear_value l1_2
    have hl1_3 : Kept r l1_3 := by
      unfold l1_3
      refine Kept.foldl (fun t2 x2 h2 => ?_) ?_
      · split
        · with_reducible refine State_rxLog_kept ?_
          assumption
        · assumption
      · assumption
    clear_value l1_3
    clear_value l1_4
    clear_value l1_5
    with_reducible refine State_setNet_kept ?_
    assumption

theorem State_ackTimeout_kept {r s : State} {a1 a2} (h : Kept r s) :
    Kept r (State.ackTimeout s a1 a2) := by
  unfold State.ackTimeout
  extract_lets l0_0 l0_1 l0_2 l0_3
  clear_value l0_0
  clear_value l0_1
  clear_value l0_2
  clear_value l0_3
  split
  · assumption
  · extract_lets l2_0 l2_1 l2_2
    clear_value l2_0
    clear_value l2_1
    clear_value l2_2
    split
    · extract_lets l4_0 l4_1 l4_2 l4_3 l4_4
      clear_value l4_0
      clear_value l4_1
      have hl4_2 : Kept r l4_2 := by
        unfold l4_2
        refine Kept.ite (fun _ => ?_) (fun _ => ?_)
        · assumption
        · with_reducible refine State_sendFrame_kept ?_
          assumption
      clear_value l4_2
      clear_value l4_3
      have hl4_4 : Kept r l4_4 := by
        unfold l4_4
        with_reducible refine State_setNet_kept ?_
        assumption
      clear_value l4_4
      refine Kept.foldl (fun t5 x5 h5 => ?_) ?_
      · with_reducible refine State_reportNoack_kept ?_
        assumption
      · assumption

theorem State_safeFrame_kept {r s : State} {a1 a2 a3} (h : Kept r s) :
    Kept r (State.safeFrame s a1 a2 a3) := by
  unfold State.safeFrame
  extract_lets l0_0 l0_1
  clear_value l0_0
  clear_value l0_1
  split
  · extract_lets l2_0
    clear_value l2_0
    refine Kept.ite (fun _ => ?_) (fun _ => ?_)
    · with_reducible refine State_setNet_kept ?_
      assumption
    · with_reducible refine State_rxErr_kept ?_
      assumption
  · with_reducible refine State_rxErr_kept ?_
    assumption

theorem State_safeKeepalive_kept {r s : State} {a1 a2} (h : Kept r s) :
    Kept r (State.safeKeepalive s a1 a2) := by
  unfold State.safeKeepalive
  split
  · refine Kept.ite (fun _ => ?_) (fun _ => ?_)
    · with_reducible refine State_safeSend_kept ?_
      assumption
    · assumption
  · assumption

theorem State_safeOpen_kept {r s : State} {a1 a2} (h : Kept r s) :
    Kept r (State.safeOpen s a1 a2) := by
  unfold State.safeOpen
  extract_lets l0_0
  clear_value l0_0
  with_reducible refine State_setNet_kept ?_
  assumption

theorem State_safeLost_kept {r s : State} {a1 a2} (h : Kept r s) :
    Kept r (State.safeLost s a1 a2) := by
  unfold State.safeLost
  split
  · refine Kept.ite (fun _ => ?_) (fun _ => ?_)
    · with_reducible refine State_safeOpen_kept ?_
      with_reducible refine State_rxLog_kept ?_
      with_reducible refine State_irqBit_kept ?_
      with_reducible refine State_raiseFault_kept ?_
      assumption
    · assumption
  · assumption

theorem State_safeConnect_kept {r s : State} {a1 a2} (h : Kept r s) :
    Kept r (State.safeConnect s a1 a2) := by
  unfold State.safeConnect
  refine Kept.ite (fun _ => ?_) (fun _ => ?_)
  · with_reducible refine State_safeOpen_kept ?_
    assumption
  · assumption

theorem State_safeRefresh_kept {r s : State} {a1} (h : Kept r s) :
    Kept r (State.safeRefresh s a1) := by
  unfold State.safeRefresh
  extract_lets l0_0 l0_1
  clear_value l0_0
  have hl0_1 : Kept r l0_1 := by
    unfold l0_1
    with_reducible refine State_setNet_kept ?_
    assumption
  clear_value l0_1
  refine Kept.foldl (fun t1 x1 h1 => ?_) ?_
  · with_reducible refine State_safeConnect_kept ?_
    assumption
  · assumption

theorem State_segLink_kept {r s : State} {a1 a2} (h : Kept r s) :
    Kept r (State.segLink s a1 a2) := by
  unfold State.segLink
  extract_lets l0_0 l0_1
  clear_value l0_0
  clear_value l0_1
  with_reducible refine State_safeRefresh_kept ?_
  with_reducible refine State_setReg_kept ?_
  assumption

theorem State_tsnLink_kept {r s : State} {a1 a2} (h : Kept r s) :
    Kept r (State.tsnLink s a1 a2) := by
  unfold State.tsnLink
  extract_lets l0_0 l0_1 l0_2
  clear_value l0_0
  have hl0_1 : Kept r l0_1 := by
    unfold l0_1
    with_reducible refine State_safeRefresh_kept ?_
    with_reducible refine State_setReg_kept ?_
    assumption
  clear_value l0_1
  have hl0_2 : Kept r l0_2 := by
    unfold l0_2
    refine Kept.ite (fun _ => ?_) (fun _ => ?_)
    · with_reducible refine State_irqBit_kept ?_
      assumption
    · assumption
  clear_value l0_2
  refine Kept.ite (fun _ => ?_) (fun _ => ?_)
  · with_reducible refine State_syncLost_kept ?_
    assumption
  · assumption

theorem State_syncSend_kept {r s : State} {a1} (h : Kept r s) :
    Kept r (State.syncSend s a1) := by
  unfold State.syncSend
  extract_lets l0_0 l0_1
  clear_value l0_0
  clear_value l0_1
  refine Kept.ite (fun _ => ?_) (fun _ => ?_)
  · with_reducible refine State_setNet_kept ?_
    assumption
  · assumption

theorem State_tsnSync_kept {r s : State} {a1} (h : Kept r s) :
    Kept r (State.tsnSync s a1) := by
  unfold State.tsnSync
  extract_lets l0_0 l0_1
  clear_value l0_0
  clear_value l0_1
  refine Kept.ite (fun _ => ?_) (fun _ => ?_)
  · with_reducible refine State_setNet_kept ?_
    assumption
  · assumption

theorem effT1sc_kept {r s : State} {a1} (h : Kept r s) :
    Kept r (effT1sc s a1) := by
  unfold effT1sc
  refine Kept.ite (fun _ => ?_) (fun _ => ?_)
  · with_reducible refine State_logAnew_kept ?_
    assumption
  · assumption

theorem effT1s_kept {r s : State} {a1 a2} (h : Kept r s) :
    Kept r (effT1s s a1 a2) := by
  unfold effT1s
  refine Kept.foldl (fun t0 x0 h0 => ?_) ?_
  · refine Kept.ite (fun _ => ?_) (fun _ => ?_)
    · extract_lets l2_0 l2_1 l2_2
      clear_value l2_0
      clear_value l2_1
      clear_value l2_2
      refine Kept.ite (fun _ => ?_) (fun _ => ?_)
      · with_reducible refine State_clearRegs_kept ?_
        assumption
      · refine Kept.ite (fun _ => ?_) (fun _ => ?_)
        · with_reducible refine State_safeRefresh_kept ?_
          with_reducible refine State_setRegF_kept ?_
          assumption
        · assumption
    · refine Kept.ite (fun _ => ?_) (fun _ => ?_)
      · with_reducible refine State_safeRefresh_kept ?_
        assumption
      · assumption
  · assumption

theorem effTsn_kept {r s : State} {a1 a2} (h : Kept r s) :
    Kept r (effTsn s a1 a2) := by
  unfold effTsn
  extract_lets l0_0
  have hl0_0 : Kept r l0_0 := by
    unfold l0_0
    refine Kept.ite (fun _ => ?_) (fun _ => ?_)
    · with_reducible refine State_clearRegs_kept ?_
      assumption
    · assumption
  clear_value l0_0
  refine Kept.ite (fun _ => ?_) (fun _ => ?_)
  · with_reducible refine State_safeRefresh_kept ?_
    assumption
  · assumption

theorem State_setVstate_kept {r s : State} {a1 a2 a3} (h : Kept r s) :
    Kept r (State.setVstate s a1 a2 a3) := by
  unfold State.setVstate
  with_reducible refine State_wr_kept ?_
  assumption

theorem State_setVisit_kept {r s : State} {a1 a2 a3} (h : Kept r s) :
    Kept r (State.setVisit s a1 a2 a3) := by
  unfold State.setVisit
  with_reducible refine Kept.mk' ?_
  assumption

theorem State_setSlot_kept {r s : State} {a1 a2} (h : Kept r s) :
    Kept r (State.setSlot s a1 a2) := by
  unfold State.setSlot
  with_reducible refine Kept.mk' ?_
  assumption

theorem State_slotReport_kept {r s : State} {a1 a2} (h : Kept r s) :
    Kept r (State.slotReport s a1 a2) := by
  unfold State.slotReport
  extract_lets l0_0
  clear_value l0_0
  split
  · with_reducible refine State_setReg_kept ?_
    assumption
  · with_reducible refine State_setReg_kept ?_
    with_reducible refine State_setReg_kept ?_
    with_reducible refine State_setReg_kept ?_
    assumption

theorem State_trkEvent_kept {r s : State} {a1 a2 a3 a4 a5 a6} (h : Kept r s) :
    Kept r (State.trkEvent s a1 a2 a3 a4 a5 a6) := by
  unfold State.trkEvent
  extract_lets l0_0 l0_1
  clear_value l0_0
  clear_value l0_1
  split
  · extract_lets l2_0
    have hl2_0 : Kept r l2_0 := by
      unfold l2_0
      refine Kept.ite (fun _ => ?_) (fun _ => ?_)
      · refine Kept.fst (by assumption) ?_
        with_reducible refine State_ringLog_kept ?_
        assumption
      · with_reducible refine State_irqBit_kept ?_
        refine Kept.fst (by assumption) ?_
        with_reducible refine State_ringLog_kept ?_
        assumption
    clear_value l2_0
    refine Kept.ite (fun _ => ?_) (fun _ => ?_)
    · with_reducible refine State_irqBit_kept ?_
      with_reducible refine State_satInc_kept ?_
      assumption
    · refine Kept.ite (fun _ => ?_) (fun _ => ?_)
      · with_reducible refine State_irqBit_kept ?_
        with_reducible refine State_satInc_kept ?_
        assumption
      · refine Kept.ite (fun _ => ?_) (fun _ => ?_)
        · with_reducible refine State_irqBit_kept ?_
          assumption
        · assumption

theorem State_trkSettle_kept {r s : State} {a1} (h : Kept r s) :
    Kept r (State.trkSettle s a1) := by
  unfold State.trkSettle
  refine Kept.ite (fun _ => ?_) (fun _ => ?_)
  · extract_lets l1_0 l1_1 l1_2 l1_3 l1_4 l1_5 l1_6
    clear_value l1_0
    clear_value l1_1
    have hl1_2 : Kept r l1_2 := by
      unfold l1_2
      with_reducible refine State_wr_kept ?_
      assumption
    clear_value l1_2
    have hl1_3 : Kept r l1_3 := by
      unfold l1_3
      with_reducible refine State_wr_kept ?_
      assumption
    clear_value l1_3
    have hl1_4 : Kept r l1_4 := by
      unfold l1_4
      with_reducible refine State_setReg_kept ?_
      assumption
    clear_value l1_4
    clear_value l1_5
    have hl1_6 : Kept r l1_6 := by
      unfold l1_6
      with_reducible refine Kept.mk' ?_
      assumption
    clear_value l1_6
    with_reducible refine State_trkEvent_kept ?_
    assumption
  · assumption

theorem State_visEnd_kept {r s : State} {a1 a2 a3} (h : Kept r s) :
    Kept r (State.visEnd s a1 a2 a3) := by
  unfold State.visEnd
  with_reducible refine State_wr_kept ?_
  with_reducible refine State_setVstate_kept ?_
  assumption

theorem State_visEndEvent_kept {r s : State} {a1 a2 a3 a4 a5 a6 a7} (h : Kept r s) :
    Kept r (State.visEndEvent s a1 a2 a3 a4 a5 a6 a7) := by
  unfold State.visEndEvent
  with_reducible refine State_trkEvent_kept ?_
  with_reducible refine State_visEnd_kept ?_
  assumption

theorem State_waitEval_kept {r s : State} {a1 a2 a3} (h : Kept r s) :
    Kept r (State.waitEval s a1 a2 a3) := by
  unfold State.waitEval
  extract_lets l0_0 l0_1 l0_2 l0_3
  clear_value l0_0
  clear_value l0_1
  clear_value l0_2
  have hl0_3 : Kept r l0_3 := by
    unfold l0_3
    with_reducible refine State_wr_kept ?_
    assumption
  clear_value l0_3
  split
  · assumption
  · with_reducible refine State_visEndEvent_kept ?_
    assumption
  · refine Kept.ite (fun _ => ?_) (fun _ => ?_)
    · with_reducible refine State_visEndEvent_kept ?_
      assumption
    · refine Kept.ite (fun _ => ?_) (fun _ => ?_)
      · assumption
      · extract_lets l4_0
        clear_value l4_0
        split
        · split
          · with_reducible refine State_setVisit_kept ?_
            with_reducible refine State_wr_kept ?_
            with_reducible refine State_setVstate_kept ?_
            refine Kept.frt (by assumption) ?_
            with_reducible refine State_admit_kept ?_
            assumption
          · with_reducible refine State_visEndEvent_kept ?_
            refine Kept.frt (by assumption) ?_
            with_reducible refine State_admit_kept ?_
            assumption
          · with_reducible refine State_setVisit_kept ?_
            refine Kept.frt (by assumption) ?_
            with_reducible refine State_admit_kept ?_
            assumption
          · with_reducible refine State_setVisit_kept ?_
            refine Kept.frt (by assumption) ?_
            with_reducible refine State_admit_kept ?_
            assumption
          · with_reducible refine State_setVisit_kept ?_
            refine Kept.frt (by assumption) ?_
            with_reducible refine State_admit_kept ?_
            assumption
          · refine Kept.frt (by assumption) ?_
            with_reducible refine State_admit_kept ?_
            assumption
          · with_reducible refine State_visEndEvent_kept ?_
            refine Kept.frt (by assumption) ?_
            with_reducible refine State_admit_kept ?_
            assumption

theorem State_trkEbb_kept {r s : State} {a1 a2} (h : Kept r s) :
    Kept r (State.trkEbb s a1 a2).2 := by
  unfold State.trkEbb
  extract_lets l0_0 l0_1 l0_2 l0_3
  clear_value l0_0
  clear_value l0_1
  have hl0_2 : Kept r l0_2 := by
    unfold l0_2
    with_reducible refine State_setEbb_kept ?_
    assumption
  clear_value l0_2
  clear_value l0_3
  show Kept _ _
  refine Kept.ite (fun _ => ?_) (fun _ => ?_)
  · with_reducible refine State_ebbApply_kept ?_
    assumption
  · assumption

theorem State_ebbOutcome_kept {r s : State} {a1 a2 a3 a4 a5} (h : Kept r s) (hf5 : ∀ x0, Kept r x0 → Kept r (a5 x0)) :
    Kept r (State.ebbOutcome s a1 a2 a3 a4 a5) := by
  unfold State.ebbOutcome
  extract_lets l0_0
  clear_value l0_0
  refine Kept.ite (fun _ => ?_) (fun _ => ?_)
  · with_reducible refine State_visEndEvent_kept ?_
    assumption
  · refine Kept.ite (fun _ => ?_) (fun _ => ?_)
    · with_reducible refine State_visEndEvent_kept ?_
      assumption
    · refine hf5 _ ?_
      assumption

theorem State_visFreeze_kept {r s : State} {a1 a2} (h : Kept r s) :
    Kept r (State.visFreeze s a1 a2) := by
  unfold State.visFreeze
  extract_lets l0_0
  have hl0_0 : Kept r l0_0 := by
    unfold l0_0
    with_reducible refine State_setVstate_kept ?_
    assumption
  clear_value l0_0
  refine Kept.ite (fun _ => ?_) (fun _ => ?_)
  · with_reducible refine State_irqBit_kept ?_
    with_reducible refine State_satInc_kept ?_
    assumption
  · assumption

theorem State_visWithdraw_kept {r s : State} {a1 a2 a3} (h : Kept r s) :
    Kept r (State.visWithdraw s a1 a2 a3) := by
  unfold State.visWithdraw
  refine Kept.ite (fun _ => ?_) (fun _ => ?_)
  · refine Kept.ite (fun _ => ?_) (fun _ => ?_)
    · assumption
    · with_reducible refine State_visEnd_kept ?_
      assumption
  · refine Kept.ite (fun _ => ?_) (fun _ => ?_)
    · split
      · refine Kept.ite (fun _ => ?_) (fun _ => ?_)
        · with_reducible refine Kept.mk' ?_
          assumption
        · refine Kept.ite (fun _ => ?_) (fun _ => ?_)
          · with_reducible refine State_visFreeze_kept ?_
            assumption
          · extract_lets l5_0
            clear_value l5_0
            split
            · refine Kept.ite (fun _ => ?_) (fun _ => ?_)
              · with_reducible refine State_visEndEvent_kept ?_
                assumption
              · extract_lets l8_0
                clear_value l8_0
                with_reducible refine State_ebbOutcome_kept ?_ ?_
                · with_reducible refine State_setEbb_kept ?_
                  with_reducible refine State_ebbDone_kept ?_
                  refine Kept.snd (by assumption) ?_
                  with_reducible refine State_trkEbb_kept ?_
                  assumption
                · intro z9_0 z9_1
                  with_reducible refine State_visEnd_kept ?_
                  assumption
      · refine Kept.ite (fun _ => ?_) (fun _ => ?_)
        · with_reducible refine State_visFreeze_kept ?_
          assumption
        · split
          · refine Kept.ite (fun _ => ?_) (fun _ => ?_)
            · with_reducible refine State_visEndEvent_kept ?_
              assumption
            · extract_lets l6_0
              clear_value l6_0
              with_reducible refine State_ebbOutcome_kept ?_ ?_
              · with_reducible refine State_ebbDone_kept ?_
                refine Kept.snd (by assumption) ?_
                with_reducible refine State_trkEbb_kept ?_
                assumption
              · intro z7_0 z7_1
                with_reducible refine State_visEnd_kept ?_
                assumption
    · assumption

theorem State_ctxWithdraw_kept {r s : State} {a1 a2 a3} (h : Kept r s) :
    Kept r (State.ctxWithdraw s a1 a2 a3) := by
  unfold State.ctxWithdraw
  with_reducible refine State_trkSettle_kept ?_
  refine Kept.foldl (fun t1 x1 h1 => ?_) ?_
  · refine Kept.ite (fun _ => ?_) (fun _ => ?_)
    · with_reducible refine State_visWithdraw_kept ?_
      assumption
    · assumption
  · assumption

theorem State_srcWithdraw_kept {r s : State} {a1} (h : Kept r s) :
    Kept r (State.srcWithdraw s a1) := by
  unfold State.srcWithdraw
  refine Kept.foldl (fun t0 x0 h0 => ?_) ?_
  · with_reducible refine State_ctxWithdraw_kept ?_
    assumption
  · assumption

theorem State_openVisit_kept {r s : State} {a1 a2 a3} (h : Kept r s) :
    Kept r (State.openVisit s a1 a2 a3) := by
  unfold State.openVisit
  extract_lets l0_0 l0_1 l0_2 l0_3 l0_4 l0_5 l0_6
  clear_value l0_0
  clear_value l0_1
  clear_value l0_2
  clear_value l0_3
  clear_value l0_4
  clear_value l0_5
  clear_value l0_6
  refine Kept.ite (fun _ => ?_) (fun _ => ?_)
  · with_reducible refine State_setVstate_kept ?_
    assumption
  · refine Kept.ite (fun _ => ?_) (fun _ => ?_)
    · with_reducible refine State_visEndEvent_kept ?_
      assumption
    · refine Kept.ite (fun _ => ?_) (fun _ => ?_)
      · with_reducible refine State_setVstate_kept ?_
        assumption
      · refine Kept.ite (fun _ => ?_) (fun _ => ?_)
        · with_reducible refine State_setVstate_kept ?_
          assumption
        · with_reducible refine State_setVisit_kept ?_
          with_reducible refine State_setVstate_kept ?_
          assumption

theorem State_setOpenStage_kept {r s : State} {a1 a2} (h : Kept r s) :
    Kept r (State.setOpenStage s a1 a2) := by
  unfold State.setOpenStage
  with_reducible refine Kept.mk' ?_
  assumption

theorem State_ctxBegin_kept {r s : State} {a1 a2} (h : Kept r s) :
    Kept r (State.ctxBegin s a1 a2) := by
  unfold State.ctxBegin
  extract_lets l0_0 l0_1 l0_2 l0_3 l0_4 l0_5
  clear_value l0_0
  have hl0_1 : Kept r l0_1 := by
    unfold l0_1
    with_reducible refine State_wr_kept ?_
    with_reducible refine State_wr_kept ?_
    with_reducible refine State_wr_kept ?_
    with_reducible refine State_wr_kept ?_
    with_reducible refine State_wr_kept ?_
    with_reducible refine State_clearRegs_kept ?_
    assumption
  clear_value l0_1
  have hl0_2 : Kept r l0_2 := by
    unfold l0_2
    with_reducible refine State_wr_kept ?_
    with_reducible refine State_wr_kept ?_
    assumption
  clear_value l0_2
  have hl0_3 : Kept r l0_3 := by
    unfold l0_3
    with_reducible refine State_setReg_kept ?_
    with_reducible refine State_wr_kept ?_
    assumption
  clear_value l0_3
  have hl0_4 : Kept r l0_4 := by
    unfold l0_4
    refine Kept.foldl (fun t1 x1 h1 => ?_) ?_
    · with_reducible refine State_openVisit_kept ?_
      assumption
    · assumption
  clear_value l0_4
  have hl0_5 : Kept r l0_5 := by
    unfold l0_5
    split
    · extract_lets l2_0
      clear_value l2_0
      with_reducible refine State_setSlot_kept ?_
      assumption
    · assumption
  clear_value l0_5
  with_reducible refine State_trkSettle_kept ?_
  assumption

theorem State_openDecide_kept {r s : State} {a1} (h : Kept r s) :
    Kept r (State.openDecide s a1) := by
  unfold State.openDecide
  split
  · with_reducible refine State_ctxBegin_kept ?_
    assumption
  · refine Kept.ite (fun _ => ?_) (fun _ => ?_)
    · extract_lets l2_0 l2_1
      have hl2_0 : Kept r l2_0 := by
        unfold l2_0
        with_reducible refine State_irqBit_kept ?_
        with_reducible refine State_satInc_kept ?_
        assumption
      clear_value l2_0
      clear_value l2_1
      refine Kept.ite (fun _ => ?_) (fun _ => ?_)
      · with_reducible refine State_setOpenStage_kept ?_
        assumption
      · with_reducible refine State_trkEvent_kept ?_
        assumption
    · extract_lets l2_0 l2_1 l2_2
      clear_value l2_0
      have hl2_1 : Kept r l2_1 := by
        unfold l2_1
        with_reducible refine State_ctxBegin_kept ?_
        with_reducible refine State_draw_kept ?_
        assumption
      clear_value l2_1
      clear_value l2_2
      refine Kept.ite (fun _ => ?_) (fun _ => ?_)
      · with_reducible refine State_setOpenStage_kept ?_
        assumption
      · assumption

theorem State_openArrive_kept {r s : State} {a1} (h : Kept r s) :
    Kept r (State.openArrive s a1) := by
  unfold State.openArrive
  refine Kept.ite (fun _ => ?_) (fun _ => ?_)
  · with_reducible refine State_openDecide_kept ?_
    with_reducible refine Kept.mk' ?_
    assumption
  · with_reducible refine Kept.mk' ?_
    assumption

theorem State_openDeferred_kept {r s : State} (h : Kept r s) :
    Kept r (State.openDeferred s) := by
  unfold State.openDeferred
  split
  · refine Kept.ite (fun _ => ?_) (fun _ => ?_)
    · with_reducible refine State_openDecide_kept ?_
      with_reducible refine Kept.mk' ?_
      assumption
    · assumption
  · assumption

theorem State_openFor_kept {r s : State} {a1 a2} (h : Kept r s) :
    Kept r (State.openFor s a1 a2).2 := by
  unfold State.openFor
  extract_lets l0_0 l0_1
  clear_value l0_0
  clear_value l0_1
  split
  · show Kept _ _
    with_reducible refine State_trkEvent_kept ?_
    assumption
  · split
    · show Kept _ _
      with_reducible refine State_trkEvent_kept ?_
      with_reducible refine State_irqBit_kept ?_
      with_reducible refine State_satInc_kept ?_
      assumption
    · show Kept _ _
      with_reducible refine State_openArrive_kept ?_
      with_reducible refine State_draw_kept ?_
      assumption

theorem State_ctxTimeout_kept {r s : State} {a1 a2} (h : Kept r s) :
    Kept r (State.ctxTimeout s a1 a2) := by
  unfold State.ctxTimeout
  extract_lets l0_0 l0_1
  clear_value l0_0
  clear_value l0_1
  refine Kept.ite (fun _ => ?_) (fun _ => ?_)
  · with_reducible refine State_ctxWithdraw_kept ?_
    with_reducible refine Kept.mk' ?_
    assumption
  · assumption

theorem State_slotSample_kept {r s : State} {a1} (h : Kept r s) :
    Kept r (State.slotSample s a1) := by
  unfold State.slotSample
  extract_lets l0_0 l0_1
  clear_value l0_0
  clear_value l0_1
  split
  · assumption
  · refine Kept.ite (fun _ => ?_) (fun _ => ?_)
    · assumption
    · extract_lets l3_0 l3_1 l3_2 l3_3 l3_4
      have hl3_0 : Kept r l3_0 := by
        unfold l3_0
        with_reducible refine State_slotReport_kept ?_
        with_reducible refine State_setSlot_kept ?_
        assumption
      clear_value l3_0
      clear_value l3_1
      have hl3_2 : Kept r l3_2 := by
        unfold l3_2
        refine Kept.foldl (fun t4 x4 h4 => ?_) ?_
        · with_reducible refine State_ctxTimeout_kept ?_
          assumption
        · assumption
      clear_value l3_2
      clear_value l3_3
      clear_value l3_4
      refine Kept.ite (fun _ => ?_) (fun _ => ?_)
      · with_reducible refine State_srcWithdraw_kept ?_
        assumption
      · refine Kept.ite (fun _ => ?_) (fun _ => ?_)
        · assumption
        · with_reducible refine State_setSlot_kept ?_
          assumption

theorem State_slotStall_kept {r s : State} {a1} (h : Kept r s) :
    Kept r (State.slotStall s a1) := by
  unfold State.slotStall
  extract_lets l0_0 l0_1 l0_2
  clear_value l0_0
  clear_value l0_2
  refine Kept.ite (fun _ => ?_) (fun _ => ?_)
  · with_reducible refine State_srcWithdraw_kept ?_
    with_reducible refine State_slotReport_kept ?_
    with_reducible refine State_setSlot_kept ?_
    assumption
  · assumption

theorem State_visRepredict_kept {r s : State} {a1 a2 a3} (h : Kept r s) :
    Kept r (State.visRepredict s a1 a2 a3) := by
  unfold State.visRepredict
  split
  · refine Kept.ite (fun _ => ?_) (fun _ => ?_)
    · with_reducible refine State_trkSettle_kept ?_
      with_reducible refine State_visEndEvent_kept ?_
      assumption
    · extract_lets l2_0 l2_1
      have hl2_0 : Kept r l2_0 := by
        unfold l2_0
        with_reducible refine State_wrapInc_kept ?_
        refine Kept.snd (by assumption) ?_
        with_reducible refine State_trkEbb_kept ?_
        assumption
      clear_value l2_0
      clear_value l2_1
      with_reducible refine Kept.mk' ?_
      assumption

theorem State_provEval_kept {r s : State} {a1 a2 a3} (h : Kept r s) :
    Kept r (State.provEval s a1 a2 a3) := by
  unfold State.provEval
  extract_lets l0_0 l0_1 l0_2 l0_3
  clear_value l0_0
  clear_value l0_1
  clear_value l0_2
  have hl0_3 : Kept r l0_3 := by
    unfold l0_3
    with_reducible refine State_visFreeze_kept ?_
    assumption
  clear_value l0_3
  refine Kept.ite (fun _ => ?_) (fun _ => ?_)
  · split
    · refine Kept.ite (fun _ => ?_) (fun _ => ?_)
      · with_reducible refine State_trkEvent_kept ?_
        assumption
      · assumption
    · assumption
  · split
    · with_reducible refine State_visWithdraw_kept ?_
      assumption
    · with_reducible refine State_visRepredict_kept ?_
      assumption
    · refine Kept.ite (fun _ => ?_) (fun _ => ?_)
      · with_reducible refine State_visRepredict_kept ?_
        assumption
      · assumption

theorem State_visitEvaluate_kept {r s : State} (h : Kept r s) :
    Kept r (State.visitEvaluate s) := by
  unfold State.visitEvaluate
  split
  · assumption
  · extract_lets l1_0 l1_1 l1_2 l1_3 l1_4 l1_5 l1_6
    clear_value l1_0
    have hl1_1 : Kept r l1_1 := by
      unfold l1_1
      with_reducible refine State_setSlot_kept ?_
      assumption
    clear_value l1_1
    clear_value l1_2
    clear_value l1_3
    clear_value l1_4
    have hl1_5 : ∀ y0, Kept r y0 → Kept r (l1_5 y0) := by
      intro y1_0 hy1
      unfold l1_5
      with_reducible refine State_setVisit_kept ?_
      assumption
    clear_value l1_5
    clear_value l1_6
    refine Kept.ite (fun _ => ?_) (fun _ => ?_)
    · assumption
    · refine Kept.ite (fun _ => ?_) (fun _ => ?_)
      · assumption
      · refine Kept.ite (fun _ => ?_) (fun _ => ?_)
        · with_reducible refine State_trkSettle_kept ?_
          with_reducible refine State_waitEval_kept ?_
          with_reducible refine State_setVisit_kept ?_
          assumption
        · refine Kept.ite (fun _ => ?_) (fun _ => ?_)
          · refine Kept.ite (fun _ => ?_) (fun _ => ?_)
            · assumption
            · refine Kept.ite (fun _ => ?_) (fun _ => ?_)
              · with_reducible refine State_trkSettle_kept ?_
                with_reducible refine State_provEval_kept ?_
                refine hl1_5 _ ?_
                assumption
              · with_reducible refine State_trkSettle_kept ?_
                with_reducible refine State_provEval_kept ?_
                assumption
          · assumption

theorem State_repredResult_kept {r s : State} (h : Kept r s) :
    Kept r (State.repredResult s) := by
  unfold State.repredResult
  split
  · assumption
  · extract_lets l1_0 l1_1 l1_2 l1_3 l1_4 l1_5
    clear_value l1_0
    have hl1_1 : Kept r l1_1 := by
      unfold l1_1
      with_reducible refine State_ebbDone_kept ?_
      assumption
    clear_value l1_1
    clear_value l1_2
    have hl1_3 : Kept r l1_3 := by
      unfold l1_3
      with_reducible refine Kept.mk' ?_
      assumption
    clear_value l1_3
    clear_value l1_4
    have hl1_5 : Kept r l1_5 := by
      unfold l1_5
      with_reducible refine State_ebbOutcome_kept ?_ ?_
      · assumption
      · intro z2_0 z2_1
        extract_lets l3_0
        have hl3_0 : Kept r l3_0 := by
          unfold l3_0
          with_reducible refine State_visEnd_kept ?_
          assumption
        clear_value l3_0
        refine Kept.ite (fun _ => ?_) (fun _ => ?_)
        · with_reducible refine State_visEnd_kept ?_
          assumption
        · refine Kept.ite (fun _ => ?_) (fun _ => ?_)
          · assumption
          · with_reducible refine State_waitEval_kept ?_
            assumption
    clear_value l1_5
    with_reducible refine State_trkSettle_kept ?_
    assumption

theorem State_freezeDue_kept {r s : State} {a1 a2} (h : Kept r s) :
    Kept r (State.freezeDue s a1 a2) := by
  unfold State.freezeDue
  extract_lets l0_0
  clear_value l0_0
  refine Kept.ite (fun _ => ?_) (fun _ => ?_)
  · with_reducible refine State_visFreeze_kept ?_
    assumption
  · assumption

theorem State_visitDone_kept {r s : State} {a1 a2} (h : Kept r s) :
    Kept r (State.visitDone s a1 a2) := by
  unfold State.visitDone
  extract_lets l0_0
  clear_value l0_0
  refine Kept.ite (fun _ => ?_) (fun _ => ?_)
  · with_reducible refine State_trkSettle_kept ?_
    with_reducible refine State_visEnd_kept ?_
    assumption
  · assumption

theorem State_ctxCancel_kept {r s : State} {a1} (h : Kept r s) :
    Kept r (State.ctxCancel s a1) := by
  unfold State.ctxCancel
  with_reducible refine State_ctxWithdraw_kept ?_
  with_reducible refine Kept.mk' ?_
  assumption

theorem State_trkRegionStore_kept {r s : State} {a1} (h : Kept r s) :
    Kept r (State.trkRegionStore s a1) := by
  unfold State.trkRegionStore
  extract_lets l0_0
  have hl0_0 : Kept r l0_0 := by
    unfold l0_0
    refine Kept.foldl (fun t1 x1 h1 => ?_) ?_
    · with_reducible refine State_wr_kept ?_
      assumption
    · assumption
  clear_value l0_0
  split
  · refine Kept.ite (fun _ => ?_) (fun _ => ?_)
    · refine Kept.foldl (fun t3 x3 h3 => ?_) ?_
      · with_reducible refine State_ctxWithdraw_kept ?_
        assumption
      · assumption
    · assumption
  · assumption

theorem State_trkErr_kept {r s : State} {a1 a2 a3} (h : Kept r s) :
    Kept r (State.trkErr s a1 a2 a3) := by
  unfold State.trkErr
  split
  · extract_lets l1_0
    clear_value l1_0
    with_reducible refine State_irqBit_kept ?_
    refine Kept.ite (fun _ => ?_) (fun _ => ?_)
    · with_reducible refine State_setReg_kept ?_
      assumption
    · with_reducible refine State_setReg_kept ?_
      assumption
  · assumption

theorem State_openCmd_kept {r s : State} {a1 a2} (h : Kept r s) :
    Kept r (State.openCmd s a1 a2) := by
  unfold State.openCmd
  extract_lets l0_0 l0_1
  clear_value l0_0
  clear_value l0_1
  with_reducible refine State_openArrive_kept ?_
  with_reducible refine State_setOpenStage_kept ?_
  assumption

theorem State_openStageWord_kept {r s : State} {a1 a2 a3} (h : Kept r s) :
    Kept r (State.openStageWord s a1 a2 a3) := by
  unfold State.openStageWord
  extract_lets l0_0
  clear_value l0_0
  refine Kept.ite (fun _ => ?_) (fun _ => ?_)
  · with_reducible refine State_setOpenStage_kept ?_
    assumption
  · refine Kept.ite (fun _ => ?_) (fun _ => ?_)
    · with_reducible refine State_setOpenStage_kept ?_
      assumption
    · refine Kept.ite (fun _ => ?_) (fun _ => ?_)
      · with_reducible refine State_setOpenStage_kept ?_
        assumption
      · refine Kept.ite (fun _ => ?_) (fun _ => ?_)
        · with_reducible refine State_setOpenStage_kept ?_
          assumption
        · assumption

theorem State_fwWrite_kept {r s : State} {a1 a2 a3 a4} (h : Kept r s) :
    Kept r (State.fwWrite s a1 a2 a3 a4) := by
  unfold State.fwWrite
  extract_lets l0_0 l0_1
  clear_value l0_0
  clear_value l0_1
  refine Kept.ite (fun _ => ?_) (fun _ => ?_)
  · split
    · with_reducible refine State_setReg64_kept ?_
      extract_lets l4_0
      have hl4_0 : Kept r l4_0 := by
        unfold l4_0
        with_reducible refine State_setSrc_kept ?_
        assumption
      clear_value l4_0
      with_reducible refine Kept.mk' ?_
      assumption
    · assumption
  · with_reducible refine Kept.mk' ?_
    assumption

theorem effTrk_kept {r s : State} {a0 a1} (h : Kept r s) (h0 : Kept r a0) :
    Kept r (effTrk a0 a1 s) := by
  unfold effTrk
  refine Kept.ite (fun _ => ?_) (fun _ => ?_)
  · with_reducible refine State_fwWrite_kept ?_
    assumption
  · extract_lets l1_0 l1_1 l1_2 l1_3 l1_4 l1_5
    have hl1_0 : Kept r l1_0 := by
      unfold l1_0
      refine Kept.ite (fun _ => ?_) (fun _ => ?_)
      · with_reducible refine State_logAnew_kept ?_
        assumption
      · assumption
    clear_value l1_0
    have hl1_1 : Kept r l1_1 := by
      unfold l1_1
      refine Kept.ite (fun _ => ?_) (fun _ => ?_)
      · with_reducible refine State_setReg_kept ?_
        assumption
      · assumption
    clear_value l1_1
    have hl1_2 : Kept r l1_2 := by
      unfold l1_2
      refine Kept.foldl (fun t2 x2 h2 => ?_) ?_
      · refine Kept.ite (fun _ => ?_) (fun _ => ?_)
        · with_reducible refine State_openStageWord_kept ?_
          with_reducible refine State_setReg_kept ?_
          assumption
        · assumption
      · assumption
    clear_value l1_2
    have hl1_3 : Kept r l1_3 := by
      unfold l1_3
      refine Kept.ite (fun _ => ?_) (fun _ => ?_)
      · with_reducible refine State_openCmd_kept ?_
        assumption
      · assumption
    clear_value l1_3
    have hl1_4 : Kept r l1_4 := by
      unfold l1_4
      refine Kept.ite (fun _ => ?_) (fun _ => ?_)
      · with_reducible refine State_ctxCancel_kept ?_
        assumption
      · assumption
    clear_value l1_4
    have hl1_5 : Kept r l1_5 := by
      unfold l1_5
      refine Kept.ite (fun _ => ?_) (fun _ => ?_)
      · with_reducible refine State_clearRegs_kept ?_
        assumption
      · assumption
    clear_value l1_5
    refine Kept.foldl (fun t2 x2 h2 => ?_) ?_
    · refine Kept.ite (fun _ => ?_) (fun _ => ?_)
      · with_reducible refine State_clearRegs_kept ?_
        with_reducible refine State_setSlot_kept ?_
        assumption
      · assumption
    · assumption

theorem State_rmRoom_kept {r s : State} {a1} (h : Kept r s) :
    Kept r (State.rmRoom s a1).2 := by
  unfold State.rmRoom
  extract_lets l0_0 l0_1 l0_2 l0_3
  clear_value l0_0
  clear_value l0_1
  have hl0_2 : Kept r l0_2 := by
    unfold l0_2
    with_reducible refine State_irqBit_kept ?_
    with_reducible refine State_satIncF_kept ?_
    with_reducible refine State_satInc_kept ?_
    assumption
  clear_value l0_2
  clear_value l0_3
  split
  · show Kept _ _
    assumption
  · split
    · show Kept _ _
      with_reducible refine State_irqBit_kept ?_
      with_reducible refine State_satIncF_kept ?_
      with_reducible refine State_satInc_kept ?_
      with_reducible refine State_wrapInc_kept ?_
      assumption
    · show Kept _ _
      with_reducible refine Kept.mk' ?_
      assumption

theorem State_rmPut_kept {r s : State} {a1} (h : Kept r s) :
    Kept r (State.rmPut s a1) := by
  unfold State.rmPut
  extract_lets l0_0 l0_1 l0_2 l0_3 l0_4
  clear_value l0_0
  have hl0_1 : Kept r l0_1 := by
    unfold l0_1
    with_reducible refine State_wrapInc_kept ?_
    with_reducible refine State_putBytes_kept ?_
    assumption
  clear_value l0_1
  clear_value l0_2
  have hl0_3 : Kept r l0_3 := by
    unfold l0_3
    with_reducible refine Kept.mk' ?_
    assumption
  clear_value l0_3
  clear_value l0_4
  refine Kept.ite (fun _ => ?_) (fun _ => ?_)
  · with_reducible refine State_irqBit_kept ?_
    assumption
  · assumption

theorem State_setAppend_kept {r s : State} {a1 a2} (h : Kept r s) :
    Kept r (State.setAppend s a1 a2) := by
  unfold State.setAppend
  with_reducible refine Kept.mk' ?_
  assumption

theorem State_appendCommit_kept {r s : State} {a1} (h : Kept r s) :
    Kept r (State.appendCommit s a1) := by
  unfold State.appendCommit
  extract_lets l0_0
  clear_value l0_0
  split
  · split
    · with_reducible refine State_setAppend_kept ?_
      with_reducible refine State_rmPut_kept ?_
      refine Kept.snd (by assumption) ?_
      with_reducible refine State_rmRoom_kept ?_
      assumption
    · with_reducible refine State_setAppend_kept ?_
      refine Kept.snd (by assumption) ?_
      with_reducible refine State_rmRoom_kept ?_
      assumption

theorem effRmap_kept {r s : State} {a0} (h : Kept r s) :
    Kept r (effRmap a0 s) := by
  unfold effRmap
  extract_lets l0_0 l0_1
  have hl0_0 : Kept r l0_0 := by
    unfold l0_0
    refine Kept.foldl (fun t1 x1 h1 => ?_) ?_
    · refine Kept.ite (fun _ => ?_) (fun _ => ?_)
      · extract_lets l3_0
        clear_value l3_0
        with_reducible refine State_setAppend_kept ?_
        assumption
      · assumption
    · assumption
  clear_value l0_0
  have hl0_1 : Kept r l0_1 := by
    unfold l0_1
    refine Kept.ite (fun _ => ?_) (fun _ => ?_)
    · with_reducible refine State_appendCommit_kept ?_
      assumption
    · assumption
  clear_value l0_1
  refine Kept.ite (fun _ => ?_) (fun _ => ?_)
  · with_reducible refine State_clearRegs_kept ?_
    with_reducible refine State_clearRegs_kept ?_
    assumption
  · assumption

theorem State_setIn_kept {r s : State} {a1 a2} (h : Kept r s) :
    Kept r (State.setIn s a1 a2) := by
  unfold State.setIn
  with_reducible refine Kept.mk' ?_
  assumption

theorem State_setTx_kept {r s : State} {a1 a2} (h : Kept r s) :
    Kept r (State.setTx s a1 a2) := by
  unfold State.setTx
  with_reducible refine Kept.mk' ?_
  assumption

theorem State_setRx_kept {r s : State} {a1 a2} (h : Kept r s) :
    Kept r (State.setRx s a1 a2) := by
  unfold State.setRx
  with_reducible refine Kept.mk' ?_
  assumption

theorem State_inEnter_kept {r s : State} {a1 a2} (h : Kept r s) :
    Kept r (State.inEnter s a1 a2) := by
  unfold State.inEnter
  extract_lets l0_0 l0_1 l0_2 l0_3 l0_4
  clear_value l0_0
  have hl0_1 : Kept r l0_1 := by
    unfold l0_1
    with_reducible refine State_setRegF_kept ?_
    assumption
  clear_value l0_1
  have hl0_2 : Kept r l0_2 := by
    unfold l0_2
    refine Kept.ite (fun _ => ?_) (fun _ => ?_)
    · assumption
    · with_reducible refine State_irqBit_kept ?_
      assumption
  clear_value l0_2
  have hl0_3 : Kept r l0_3 := by
    unfold l0_3
    refine Kept.ite (fun _ => ?_) (fun _ => ?_)
    · with_reducible refine State_satInc_kept ?_
      assumption
    · assumption
  clear_value l0_3
  clear_value l0_4
  refine Kept.ite (fun _ => ?_) (fun _ => ?_)
  · with_reducible refine State_setIn_kept ?_
    assumption
  · assumption

theorem State_outEnter_kept {r s : State} {a1 a2} (h : Kept r s) :
    Kept r (State.outEnter s a1 a2) := by
  unfold State.outEnter
  extract_lets l0_0 l0_1 l0_2 l0_3 l0_4 l0_5
  clear_value l0_0
  have hl0_1 : Kept r l0_1 := by
    unfold l0_1
    with_reducible refine State_setRegF_kept ?_
    assumption
  clear_value l0_1
  have hl0_2 : Kept r l0_2 := by
    unfold l0_2
    refine Kept.ite (fun _ => ?_) (fun _ => ?_)
    · assumption
    · with_reducible refine State_irqBit_kept ?_
      assumption
  clear_value l0_2
  have hl0_3 : Kept r l0_3 := by
    unfold l0_3
    refine Kept.ite (fun _ => ?_) (fun _ => ?_)
    · with_reducible refine State_satInc_kept ?_
      assumption
    · assumption
  clear_value l0_3
  have hl0_4 : Kept r l0_4 := by
    unfold l0_4
    with_reducible refine State_clearRegs_kept ?_
    assumption
  clear_value l0_4
  clear_value l0_5
  refine Kept.ite (fun _ => ?_) (fun _ => ?_)
  · with_reducible refine State_setTx_kept ?_
    assumption
  · assumption

theorem State_inErr_kept {r s : State} {a1 a2 a3} (h : Kept r s) :
    Kept r (State.inErr s a1 a2 a3) := by
  unfold State.inErr
  with_reducible refine State_irqBit_kept ?_
  with_reducible refine State_satInc_kept ?_
  assumption

theorem State_inReturn_kept {r s : State} {a1 a2 a3} (h : Kept r s) :
    Kept r (State.inReturn s a1 a2 a3) := by
  unfold State.inReturn
  extract_lets l0_0
  clear_value l0_0
  with_reducible refine State_setIn_kept ?_
  assumption

theorem State_takeLine_kept {r s : State} {a1 a2} (h : Kept r s) :
    Kept r (State.takeLine s a1 a2) := by
  unfold State.takeLine
  extract_lets l0_0 l0_1 l0_2 l0_3 l0_4 l0_5
  clear_value l0_0
  clear_value l0_1
  clear_value l0_2
  clear_value l0_3
  clear_value l0_4
  clear_value l0_5
  split
  · with_reducible refine State_inReturn_kept ?_
    assumption
  · with_reducible refine State_setIn_kept ?_
    assumption

theorem State_takeEvent_kept {r s : State} {a1 a2} (h : Kept r s) :
    Kept r (State.takeEvent s a1 a2) := by
  unfold State.takeEvent
  extract_lets l0_0 l0_1 l0_2 l0_3 l0_4 l0_5
  clear_value l0_0
  clear_value l0_1
  clear_value l0_2
  clear_value l0_3
  have hl0_4 : Kept r l0_4 := by
    unfold l0_4
    with_reducible refine State_setReg64_kept ?_
    with_reducible refine State_satIncF_kept ?_
    with_reducible refine State_setRegF_kept ?_
    assumption
  clear_value l0_4
  have hl0_5 : Kept r l0_5 := by
    unfold l0_5
    with_reducible refine State_setReg64_kept ?_
    with_reducible refine State_setReg64_kept ?_
    assumption
  clear_value l0_5
  with_reducible refine State_inReturn_kept ?_
  with_reducible refine State_irqBit_kept ?_
  assumption

theorem State_packetReceive_kept {r s : State} {a1 a2 a3} (h : Kept r s) :
    Kept r (State.packetReceive s a1 a2 a3) := by
  unfold State.packetReceive
  refine Kept.ite (fun _ => ?_) (fun _ => ?_)
  · assumption
  · refine Kept.ite (fun _ => ?_) (fun _ => ?_)
    · with_reducible refine State_inErr_kept ?_
      assumption
    · extract_lets l2_0 l2_1 l2_2 l2_3 l2_4 l2_5 l2_6 l2_7 l2_8 l2_9
      clear_value l2_0
      clear_value l2_1
      clear_value l2_2
      clear_value l2_3
      have hl2_4 : ∀ y0, Kept r y0 → Kept r (l2_4 y0) := by
        intro y2_0 hy2
        unfold l2_4
        extract_lets l3_0
        clear_value l3_0
        refine Kept.ite (fun _ => ?_) (fun _ => ?_)
        · with_reducible refine State_setIn_kept ?_
          assumption
        · assumption
      clear_value l2_4
      clear_value l2_5
      clear_value l2_6
      have hl2_7 : Kept r l2_7 := by
        unfold l2_7
        with_reducible refine State_setIn_kept ?_
        refine hl2_4 _ ?_
        assumption
      clear_value l2_7
      have hl2_8 : Kept r l2_8 := by
        unfold l2_8
        refine Kept.ite (fun _ => ?_) (fun _ => ?_)
        · assumption
        · with_reducible refine State_inErr_kept ?_
          assumption
      clear_value l2_8
      have hl2_9 : Kept r l2_9 := by
        unfold l2_9
        with_reducible refine State_wrapInc_kept ?_
        assumption
      clear_value l2_9
      refine Kept.ite (fun _ => ?_) (fun _ => ?_)
      · with_reducible refine State_inErr_kept ?_
        with_reducible refine State_inReturn_kept ?_
        refine hl2_4 _ ?_
        assumption
      · refine Kept.ite (fun _ => ?_) (fun _ => ?_)
        · with_reducible refine State_inErr_kept ?_
          with_reducible refine State_inReturn_kept ?_
          refine hl2_4 _ ?_
          assumption
        · refine Kept.ite (fun _ => ?_) (fun _ => ?_)
          · with_reducible refine State_inErr_kept ?_
            with_reducible refine State_inReturn_kept ?_
            refine hl2_4 _ ?_
            assumption
          · refine Kept.ite (fun _ => ?_) (fun _ => ?_)
            · with_reducible refine State_takeLine_kept ?_
              assumption
            · with_reducible refine State_takeEvent_kept ?_
              assumption

theorem State_inRetrain_kept {r s : State} {a1 a2} (h : Kept r s) :
    Kept r (State.inRetrain s a1 a2) := by
  unfold State.inRetrain
  refine Kept.ite (fun _ => ?_) (fun _ => ?_)
  · extract_lets l1_0 l1_1
    have hl1_0 : Kept r l1_0 := by
      unfold l1_0
      refine Kept.ite (fun _ => ?_) (fun _ => ?_)
      · with_reducible refine State_inErr_kept ?_
        assumption
      · assumption
    clear_value l1_0
    have hl1_1 : Kept r l1_1 := by
      unfold l1_1
      with_reducible refine State_inEnter_kept ?_
      assumption
    clear_value l1_1
    refine Kept.foldl (fun t2 x2 h2 => ?_) ?_
    · with_reducible refine State_setRx_kept ?_
      assumption
    · assumption
  · assumption

theorem State_outRetrain_kept {r s : State} {a1} (h : Kept r s) :
    Kept r (State.outRetrain s a1) := by
  unfold State.outRetrain
  refine Kept.ite (fun _ => ?_) (fun _ => ?_)
  · with_reducible refine State_outEnter_kept ?_
    with_reducible refine State_setRegF_kept ?_
    assumption
  · assumption

theorem State_sidebandTimeout_kept {r s : State} {a1} (h : Kept r s) :
    Kept r (State.sidebandTimeout s a1) := by
  unfold State.sidebandTimeout
  refine Kept.ite (fun _ => ?_) (fun _ => ?_)
  · with_reducible refine State_irqBit_kept ?_
    with_reducible refine State_setRegF_kept ?_
    with_reducible refine State_outEnter_kept ?_
    assumption
  · assumption

theorem State_sbErr_kept {r s : State} {a1} (h : Kept r s) :
    Kept r (State.sbErr s a1) := by
  unfold State.sbErr
  with_reducible refine State_satInc_kept ?_
  assumption

theorem State_trainIn_kept {r s : State} {a1 a2} (h : Kept r s) :
    Kept r (State.trainIn s a1 a2) := by
  unfold State.trainIn
  split
  · assumption
  · extract_lets l1_0 l1_1 l1_2 l1_3
    clear_value l1_0
    clear_value l1_1
    clear_value l1_2
    have hl1_3 : Kept r l1_3 := by
      unfold l1_3
      with_reducible refine State_setRx_kept ?_
      assumption
    clear_value l1_3
    refine Kept.ite (fun _ => ?_) (fun _ => ?_)
    · with_reducible refine State_inRetrain_kept ?_
      assumption
    · refine Kept.ite (fun _ => ?_) (fun _ => ?_)
      · with_reducible refine State_setReg_kept ?_
        assumption
      · assumption

theorem State_trainSb_kept {r s : State} {a1 a2} (h : Kept r s) :
    Kept r (State.trainSb s a1 a2) := by
  unfold State.trainSb
  refine Kept.ite (fun _ => ?_) (fun _ => ?_)
  · assumption
  · refine Kept.ite (fun _ => ?_) (fun _ => ?_)
    · with_reducible refine State_sbErr_kept ?_
      assumption
    · refine Kept.ite (fun _ => ?_) (fun _ => ?_)
      · assumption
      · extract_lets l3_0 l3_1 l3_2 l3_3
        clear_value l3_0
        clear_value l3_1
        have hl3_2 : Kept r l3_2 := by
          unfold l3_2
          with_reducible refine State_setReg_kept ?_
          with_reducible refine State_setTx_kept ?_
          assumption
        clear_value l3_2
        clear_value l3_3
        refine Kept.ite (fun _ => ?_) (fun _ => ?_)
        · refine Kept.ite (fun _ => ?_) (fun _ => ?_)
          · with_reducible refine State_setTx_kept ?_
            assumption
          · assumption
        · with_reducible refine State_outRetrain_kept ?_
          assumption

theorem State_creditReceive_kept {r s : State} {a1 a2} (h : Kept r s) :
    Kept r (State.creditReceive s a1 a2) := by
  unfold State.creditReceive
  extract_lets l0_0 l0_1 l0_2 l0_3 l0_4 l0_5 l0_6 l0_7
  clear_value l0_0
  clear_value l0_1
  clear_value l0_2
  clear_value l0_3
  have hl0_4 : Kept r l0_4 := by
    unfold l0_4
    with_reducible refine State_setTx_kept ?_
    assumption
  clear_value l0_4
  clear_value l0_5
  have hl0_6 : Kept r l0_6 := by
    unfold l0_6
    with_reducible refine State_setTx_kept ?_
    assumption
  clear_value l0_6
  clear_value l0_7
  refine Kept.ite (fun _ => ?_) (fun _ => ?_)
  · assumption
  · refine Kept.ite (fun _ => ?_) (fun _ => ?_)
    · with_reducible refine State_sbErr_kept ?_
      assumption
    · refine Kept.ite (fun _ => ?_) (fun _ => ?_)
      · assumption
      · refine Kept.ite (fun _ => ?_) (fun _ => ?_)
        · assumption
        · refine Kept.foldl (fun t5 x5 h5 => ?_) ?_
          · extract_lets l6_0
            clear_value l6_0
            refine Kept.ite (fun _ => ?_) (fun _ => ?_)
            · with_reducible refine State_setReg_kept ?_
              assumption
            · assumption
          · assumption

theorem State_receiverReady_kept {r s : State} {a1} (h : Kept r s) :
    Kept r (State.receiverReady s a1) := by
  unfold State.receiverReady
  refine Kept.ite (fun _ => ?_) (fun _ => ?_)
  · with_reducible refine State_inEnter_kept ?_
    assumption
  · assumption

theorem State_receiverUp_kept {r s : State} {a1} (h : Kept r s) :
    Kept r (State.receiverUp s a1) := by
  unfold State.receiverUp
  refine Kept.ite (fun _ => ?_) (fun _ => ?_)
  · with_reducible refine State_setIn_kept ?_
    with_reducible refine State_inEnter_kept ?_
    assumption
  · assumption

end Sys2Proof.Machine
end

