-- ==== Sys2Proof/Laws/KeptC.lean ====
section
/-! SUPPORT. One lemma per operation of the block, from State.transmitterUp to State.swWake: it keeps the canonical form of
memory and the queue (Kept). -/
set_option Elab.async false
namespace Sys2Proof.Machine

theorem State_transmitterUp_kept {r s : State} {a1} (h : Kept r s) :
    Kept r (State.transmitterUp s a1) := by
  unfold State.transmitterUp
  refine Kept.ite (fun _ => ?_) (fun _ => ?_)
  · extract_lets l1_0 l1_1
    have hl1_0 : Kept r l1_0 := by
      unfold l1_0
      with_reducible refine State_outEnter_kept ?_
      assumption
    clear_value l1_0
    clear_value l1_1
    with_reducible refine State_setTx_kept ?_
    assumption
  · assumption

theorem State_amReceive_kept {r s : State} {a1 a2 a3 a4} (h : Kept r s) :
    Kept r (State.amReceive s a1 a2 a3 a4) := by
  unfold State.amReceive
  split
  · assumption
  · extract_lets l1_0 l1_1 l1_2 l1_3 l1_4 l1_5 l1_6 l1_7 l1_8 l1_9 l1_10 l1_11 l1_12 l1_13 l1_14 l1_15 l1_16
    clear_value l1_0
    clear_value l1_1
    clear_value l1_2
    clear_value l1_3
    clear_value l1_4
    clear_value l1_5
    clear_value l1_6
    clear_value l1_7
    clear_value l1_8
    clear_value l1_9
    clear_value l1_10
    have hl1_11 : Kept r l1_11 := by
      unfold l1_11
      with_reducible refine State_setRx_kept ?_
      assumption
    clear_value l1_11
    have hl1_12 : Kept r l1_12 := by
      unfold l1_12
      refine Kept.ite (fun _ => ?_) (fun _ => ?_)
      · with_reducible refine State_satInc_kept ?_
        assumption
      · assumption
    clear_value l1_12
    have hl1_13 : Kept r l1_13 := by
      unfold l1_13
      refine Kept.ite (fun _ => ?_) (fun _ => ?_)
      · with_reducible refine State_satInc_kept ?_
        assumption
      · assumption
    clear_value l1_13
    have hl1_14 : Kept r l1_14 := by
      unfold l1_14
      with_reducible refine State_setRegF_kept ?_
      with_reducible refine State_setRegF_kept ?_
      assumption
    clear_value l1_14
    have hl1_15 : Kept r l1_15 := by
      unfold l1_15
      refine Kept.ite (fun _ => ?_) (fun _ => ?_)
      · with_reducible refine State_setRegF_kept ?_
        assumption
      · assumption
    clear_value l1_15
    have hl1_16 : Kept r l1_16 := by
      unfold l1_16
      refine Kept.ite (fun _ => ?_) (fun _ => ?_)
      · with_reducible refine State_setRegF_kept ?_
        assumption
      · assumption
    clear_value l1_16
    refine Kept.ite (fun _ => ?_) (fun _ => ?_)
    · with_reducible refine State_inRetrain_kept ?_
      assumption
    · assumption

theorem State_amSend_kept {r s : State} {a1 a2} (h : Kept r s) :
    Kept r (State.amSend s a1 a2) := by
  unfold State.amSend
  refine Kept.ite (fun _ => ?_) (fun _ => ?_)
  · assumption
  · extract_lets l1_0 l1_1
    clear_value l1_0
    clear_value l1_1
    with_reducible refine State_setTx_kept ?_
    assumption

theorem State_trainSend_kept {r s : State} {a1 a2} (h : Kept r s) :
    Kept r (State.trainSend s a1 a2) := by
  unfold State.trainSend
  refine Kept.ite (fun _ => ?_) (fun _ => ?_)
  · extract_lets l1_0 l1_1
    clear_value l1_0
    clear_value l1_1
    with_reducible refine State_setTx_kept ?_
    assumption
  · assumption

theorem State_sbTrain_kept {r s : State} {a1 a2} (h : Kept r s) :
    Kept r (State.sbTrain s a1 a2) := by
  unfold State.sbTrain
  exact State_setIn_kept h

theorem State_seekSend_kept {r s : State} {a1} (h : Kept r s) :
    Kept r (State.seekSend s a1) := by
  unfold State.seekSend
  exact Kept.ite (fun _ => State_sbTrain_kept h) (fun _ => h)

theorem State_creditSend_kept {r s : State} {a1} (h : Kept r s) :
    Kept r (State.creditSend s a1) := by
  unfold State.creditSend
  refine Kept.ite (fun _ => ?_) (fun _ => h)
  extract_lets s1 g x
  have h1 : Kept r s1 := Kept.ite (fun _ => State_sbTrain_kept h) (fun _ => h)
  clear_value s1
  exact State_setIn_kept h1

theorem State_blockLock_kept {r s : State} {a1 a2 a3 a4 a5 a6 a7} (h : Kept r s) :
    Kept r (State.blockLock s a1 a2 a3 a4 a5 a6 a7) := by
  unfold State.blockLock
  extract_lets l0_0 l0_1 l0_2 l0_3 l0_4 l0_5 l0_6 l0_7 l0_8
  clear_value l0_0
  have hl0_1 : Kept r l0_1 := by
    unfold l0_1
    with_reducible refine State_setReg_kept ?_
    assumption
  clear_value l0_1
  clear_value l0_2
  clear_value l0_3
  clear_value l0_4
  clear_value l0_5
  have hl0_6 : Kept r l0_6 := by
    unfold l0_6
    with_reducible refine State_satInc_kept ?_
    with_reducible refine State_setReg_kept ?_
    assumption
  clear_value l0_6
  have hl0_7 : Kept r l0_7 := by
    unfold l0_7
    refine Kept.ite (fun _ => ?_) (fun _ => ?_)
    · with_reducible refine State_setRx_kept ?_
      with_reducible refine State_irqBit_kept ?_
      assumption
    · assumption
  clear_value l0_7
  have hl0_8 : Kept r l0_8 := by
    unfold l0_8
    refine Kept.ite (fun _ => ?_) (fun _ => ?_)
    · with_reducible refine State_irqBit_kept ?_
      assumption
    · assumption
  clear_value l0_8
  refine Kept.ite (fun _ => ?_) (fun _ => ?_)
  · assumption
  · refine Kept.ite (fun _ => ?_) (fun _ => ?_)
    · split
      · with_reducible refine State_inRetrain_kept ?_
        assumption
      · assumption
    · assumption

theorem State_hiBerExit_kept {r s : State} {a1} (h : Kept r s) :
    Kept r (State.hiBerExit s a1) := by
  unfold State.hiBerExit
  with_reducible refine State_setRegF_kept ?_
  assumption

theorem State_sbAlign_kept {r s : State} {a1 a2 a3 a4} (h : Kept r s) :
    Kept r (State.sbAlign s a1 a2 a3 a4) := by
  unfold State.sbAlign
  extract_lets l0_0 l0_1 l0_2 l0_3
  clear_value l0_0
  have hl0_1 : Kept r l0_1 := by
    unfold l0_1
    with_reducible refine State_setReg_kept ?_
    assumption
  clear_value l0_1
  clear_value l0_2
  have hl0_3 : Kept r l0_3 := by
    unfold l0_3
    with_reducible refine State_setReg_kept ?_
    assumption
  clear_value l0_3
  refine Kept.ite (fun _ => ?_) (fun _ => ?_)
  · with_reducible refine State_irqBit_kept ?_
    assumption
  · assumption

theorem State_linkRetrain_kept {r s : State} {a1 a2 a3} (h : Kept r s) :
    Kept r (State.linkRetrain s a1 a2 a3) := by
  unfold State.linkRetrain
  refine Kept.ite (fun _ => ?_) (fun _ => ?_)
  · with_reducible refine State_outRetrain_kept ?_
    assumption
  · with_reducible refine State_inRetrain_kept ?_
    assumption

theorem effGhIn_kept {r s : State} {a0 a1} (h : Kept r s) :
    Kept r (effGhIn a0 a1 s) := by
  unfold effGhIn
  refine Kept.foldl (fun t0 x0 h0 => ?_) ?_
  · extract_lets l1_0
    clear_value l1_0
    refine Kept.ite (fun _ => ?_) (fun _ => ?_)
    · with_reducible refine State_clearRegs_kept ?_
      assumption
    · refine Kept.ite (fun _ => ?_) (fun _ => ?_)
      · with_reducible refine State_setRx_kept ?_
        with_reducible refine State_setReg_kept ?_
        assumption
      · assumption
  · assumption

theorem effGhOut_kept {r s : State} {a0 a1} (h : Kept r s) :
    Kept r (effGhOut a0 a1 s) := by
  unfold effGhOut
  refine Kept.foldl (fun t0 x0 h0 => ?_) ?_
  · refine Kept.ite (fun _ => ?_) (fun _ => ?_)
    · with_reducible refine State_setReg_kept ?_
      assumption
    · assumption
  · assumption

theorem effGhInL_kept {r s : State} {a0 a1 a2} (h : Kept r s) :
    Kept r (effGhInL a0 a1 a2 s) := by
  unfold effGhInL
  refine Kept.foldl (fun t0 x0 h0 => ?_) ?_
  · extract_lets l1_0 l1_1 l1_2 l1_3
    clear_value l1_0
    clear_value l1_1
    have hl1_2 : Kept r l1_2 := by
      unfold l1_2
      with_reducible refine State_setIn_kept ?_
      with_reducible refine State_setReg_kept ?_
      assumption
    clear_value l1_2
    have hl1_3 : Kept r l1_3 := by
      unfold l1_3
      refine Kept.foldl (fun t2 x2 h2 => ?_) ?_
      · with_reducible refine State_setRx_kept ?_
        assumption
      · assumption
    clear_value l1_3
    refine Kept.ite (fun _ => ?_) (fun _ => ?_)
    · assumption
    · refine Kept.ite (fun _ => ?_) (fun _ => ?_)
      · refine Kept.ite (fun _ => ?_) (fun _ => ?_)
        · with_reducible refine State_inEnter_kept ?_
          assumption
        · refine Kept.ite (fun _ => ?_) (fun _ => ?_)
          · with_reducible refine State_inEnter_kept ?_
            assumption
          · assumption
      · refine Kept.ite (fun _ => ?_) (fun _ => ?_)
        · with_reducible refine State_setRegF_kept ?_
          with_reducible refine State_clearRegs_kept ?_
          assumption
        · assumption
  · assumption

theorem effGhOutL_kept {r s : State} {s0 w} (h : Kept r s) : Kept r (effGhOutL s0 w s) := by
  unfold effGhOutL
  refine Kept.foldl (fun t o ht => ?_) h
  dsimp only
  generalize (o - 0x800) / 0x80 = k
  generalize (o - 0x800) % 0x80 = q
  refine Kept.ite (fun _ => ht) fun _ => Kept.ite (fun _ => ?_) fun _ => Kept.ite (fun _ => State_setReg_kept ht) fun _ =>
    Kept.ite (fun _ => State_setReg_kept (State_setReg_kept ht)) fun _ => ht
  exact Kept.ite (fun _ => State_outEnter_kept (State_setReg_kept ht)) fun _ => Kept.ite (fun _ => State_outEnter_kept ht) fun _ => ht

theorem State_setBwState_kept {r s : State} {a1} (h : Kept r s) :
    Kept r (State.setBwState s a1) := by
  unfold State.setBwState
  with_reducible refine State_setRegF_kept ?_
  assumption

theorem State_setBw_kept {r s : State} {a1} (h : Kept r s) :
    Kept r (State.setBw s a1) := by
  unfold State.setBw
  with_reducible refine Kept.mk' ?_
  assumption

theorem State_setLs_kept {r s : State} {a1 a2 a3} (h : Kept r s) :
    Kept r (State.setLs s a1 a2 a3) := by
  unfold State.setLs
  with_reducible refine State_setReg_kept ?_
  assumption

theorem State_setLock_kept {r s : State} {a1} (h : Kept r s) :
    Kept r (State.setLock s a1) := by
  unfold State.setLock
  with_reducible refine State_setBw_kept ?_
  assumption

theorem State_maskCore_kept {r s : State} {a1} (h : Kept r s) :
    Kept r (State.maskCore s a1) := by
  unfold State.maskCore
  extract_lets l0_0 l0_1
  clear_value l0_0
  have hl0_1 : Kept r l0_1 := by
    unfold l0_1
    with_reducible refine State_setLock_kept ?_
    with_reducible refine State_setLs_kept ?_
    assumption
  clear_value l0_1
  with_reducible refine State_irqBit_kept ?_
  with_reducible refine State_irqBit_kept ?_
  assumption

theorem State_retireCore_kept {r s : State} {a1} (h : Kept r s) :
    Kept r (State.retireCore s a1) := by
  unfold State.retireCore
  extract_lets l0_0 l0_1
  clear_value l0_0
  have hl0_1 : Kept r l0_1 := by
    unfold l0_1
    with_reducible refine State_setLock_kept ?_
    with_reducible refine State_setLs_kept ?_
    assumption
  clear_value l0_1
  with_reducible refine State_irqBit_kept ?_
  with_reducible refine State_raiseFault_kept ?_
  assumption

theorem State_lsStop_kept {r s : State} (h : Kept r s) :
    Kept r (State.lsStop s) := by
  unfold State.lsStop
  with_reducible refine State_raiseFault_kept ?_
  with_reducible refine Kept.mk' ?_
  assumption

theorem State_lockstepMismatch_kept {r s : State} {a1 a2} (h : Kept r s) :
    Kept r (State.lockstepMismatch s a1 a2) := by
  unfold State.lockstepMismatch
  refine Kept.ite (fun _ => ?_) (fun _ => ?_)
  · assumption
  · split
    · refine Kept.ite (fun _ => ?_) (fun _ => ?_)
      · extract_lets l3_0 l3_1 l3_2
        have hl3_0 : Kept r l3_0 := by
          unfold l3_0
          with_reducible refine State_satIncF_kept ?_
          with_reducible refine State_setReg_kept ?_
          assumption
        clear_value l3_0
        have hl3_1 : Kept r l3_1 := by
          unfold l3_1
          with_reducible refine State_raiseFault_kept ?_
          assumption
        clear_value l3_1
        clear_value l3_2
        refine Kept.ite (fun _ => ?_) (fun _ => ?_)
        · with_reducible refine State_retireCore_kept ?_
          with_reducible refine State_irqBit_kept ?_
          assumption
        · with_reducible refine State_maskCore_kept ?_
          assumption
      · with_reducible refine State_lsStop_kept ?_
        assumption
    · with_reducible refine State_lsStop_kept ?_
      assumption

theorem State_resyncCopied_kept {r s : State} (h : Kept r s) :
    Kept r (State.resyncCopied s) := by
  unfold State.resyncCopied
  split
  · with_reducible refine State_setLock_kept ?_
    assumption
  · assumption

theorem State_resyncJoined_kept {r s : State} {a1} (h : Kept r s) :
    Kept r (State.resyncJoined s a1) := by
  unfold State.resyncJoined
  split
  · refine Kept.ite (fun _ => ?_) (fun _ => ?_)
    · extract_lets l2_0 l2_1 l2_2
      clear_value l2_0
      have hl2_1 : Kept r l2_1 := by
        unfold l2_1
        with_reducible refine State_setLock_kept ?_
        with_reducible refine State_setLs_kept ?_
        assumption
      clear_value l2_1
      have hl2_2 : Kept r l2_2 := by
        unfold l2_2
        with_reducible refine State_irqBit_kept ?_
        with_reducible refine State_setReg_kept ?_
        with_reducible refine State_satIncF_kept ?_
        assumption
      clear_value l2_2
      refine Kept.ite (fun _ => ?_) (fun _ => ?_)
      · with_reducible refine State_irqBit_kept ?_
        assumption
      · assumption
    · with_reducible refine State_retireCore_kept ?_
      assumption
  · assumption

theorem State_degraded_kept {r s : State} (h : Kept r s) :
    Kept r (State.degraded s) := by
  unfold State.degraded
  split
  · refine Kept.ite (fun _ => ?_) (fun _ => ?_)
    · with_reducible refine State_raiseFault_kept ?_
      with_reducible refine State_setLock_kept ?_
      assumption
    · assumption
  · assumption

theorem State_rotate_kept {r s : State} (h : Kept r s) :
    Kept r (State.rotate s) := by
  unfold State.rotate
  extract_lets l0_0 l0_1 l0_2
  clear_value l0_0
  clear_value l0_1
  have hl0_2 : Kept r l0_2 := by
    unfold l0_2
    with_reducible refine State_setLock_kept ?_
    with_reducible refine State_setLs_kept ?_
    assumption
  clear_value l0_2
  with_reducible refine State_irqBit_kept ?_
  assumption

theorem State_rotationStart_kept {r s : State} (h : Kept r s) :
    Kept r (State.rotationStart s) := by
  unfold State.rotationStart
  extract_lets l0_0
  clear_value l0_0
  refine Kept.ite (fun _ => ?_) (fun _ => ?_)
  · with_reducible refine State_rotate_kept ?_
    assumption
  · assumption

theorem State_rotationTested_kept {r s : State} {a1} (h : Kept r s) :
    Kept r (State.rotationTested s a1) := by
  unfold State.rotationTested
  split
  · refine Kept.ite (fun _ => ?_) (fun _ => ?_)
    · with_reducible refine State_irqBit_kept ?_
      with_reducible refine State_setLock_kept ?_
      assumption
    · with_reducible refine State_raiseFault_kept ?_
      assumption
  · assumption

theorem effLks_kept {r s : State} {a0 a1} (h : Kept r s) :
    Kept r (effLks a0 a1 s) := by
  unfold effLks
  extract_lets l0_0 l0_1
  clear_value l0_0
  have hl0_1 : Kept r l0_1 := by
    unfold l0_1
    refine Kept.ite (fun _ => ?_) (fun _ => ?_)
    · with_reducible refine State_setLock_kept ?_
      assumption
    · assumption
  clear_value l0_1
  refine Kept.ite (fun _ => ?_) (fun _ => ?_)
  · with_reducible refine State_rotate_kept ?_
    assumption
  · assumption

theorem State_commitRes_kept {r s : State} {a1} (h : Kept r s) :
    Kept r (State.commitRes s a1) := by
  unfold State.commitRes
  with_reducible refine State_irqBit_kept ?_
  with_reducible refine State_setRegF_kept ?_
  assumption

theorem State_planClose_kept {r s : State} (h : Kept r s) :
    Kept r (State.planClose s) := by
  unfold State.planClose
  with_reducible refine State_setBw_kept ?_
  with_reducible refine State_setRegF_kept ?_
  assumption

theorem State_planValidated_kept {r s : State} (h : Kept r s) :
    Kept r (State.planValidated s) := by
  unfold State.planValidated
  refine Kept.ite (fun _ => ?_) (fun _ => ?_)
  · assumption
  · extract_lets l1_0 l1_1 l1_2 l1_3
    clear_value l1_0
    have hl1_1 : Kept r l1_1 := by
      unfold l1_1
      with_reducible refine State_setRegF_kept ?_
      assumption
    clear_value l1_1
    clear_value l1_2
    have hl1_3 : Kept r l1_3 := by
      unfold l1_3
      with_reducible refine State_setRegF_kept ?_
      with_reducible refine State_setRegF_kept ?_
      with_reducible refine State_setRegF_kept ?_
      assumption
    clear_value l1_3
    split
    · refine Kept.ite (fun _ => ?_) (fun _ => ?_)
      · with_reducible refine State_commitRes_kept ?_
        with_reducible refine State_setReg_kept ?_
        assumption
      · refine Kept.ite (fun _ => ?_) (fun _ => ?_)
        · with_reducible refine State_commitRes_kept ?_
          assumption
        · with_reducible refine State_commitRes_kept ?_
          with_reducible refine State_setReg64_kept ?_
          with_reducible refine State_setRegF_kept ?_
          with_reducible refine State_setRegF_kept ?_
          assumption

theorem State_planTimeout_kept {r s : State} (h : Kept r s) :
    Kept r (State.planTimeout s) := by
  unfold State.planTimeout
  split
  · refine Kept.ite (fun _ => ?_) (fun _ => ?_)
    · with_reducible refine State_commitRes_kept ?_
      with_reducible refine State_planClose_kept ?_
      assumption
    · assumption
  · assumption

theorem State_planPasses_kept {r s : State} (h : Kept r s) :
    Kept r (State.planPasses s) := by
  unfold State.planPasses
  refine Kept.ite (fun _ => ?_) (fun _ => ?_)
  · with_reducible refine State_irqBit_kept ?_
    with_reducible refine State_raiseFault_kept ?_
    with_reducible refine State_setRegF_kept ?_
    assumption
  · assumption

theorem State_planScrub_kept {r s : State} {a1} (h : Kept r s) :
    Kept r (State.planScrub s a1) := by
  unfold State.planScrub
  refine Kept.ite (fun _ => ?_) (fun _ => ?_)
  · assumption
  · extract_lets l1_0 l1_1 l1_2
    clear_value l1_0
    clear_value l1_1
    have hl1_2 : Kept r l1_2 := by
      unfold l1_2
      refine Kept.foldl (fun t2 x2 h2 => ?_) ?_
      · with_reducible refine State_setRegF_kept ?_
        assumption
      · assumption
    clear_value l1_2
    refine Kept.ite (fun _ => ?_) (fun _ => ?_)
    · assumption
    · with_reducible refine State_irqBit_kept ?_
      with_reducible refine State_raiseFault_kept ?_
      assumption

theorem State_planKeyed_kept {r s : State} {a0 a1 a2} (h : Kept r s) :
    Kept r (State.planKeyed a0 a1 a2 s) := by
  unfold State.planKeyed
  refine Kept.ite (fun _ => ?_) (fun _ => ?_)
  · refine Kept.ite (fun _ => ?_) (fun _ => ?_)
    · with_reducible refine State_setBw_kept ?_
      with_reducible refine State_setRegF_kept ?_
      assumption
    · with_reducible refine State_setBw_kept ?_
      assumption
  · refine Kept.ite (fun _ => ?_) (fun _ => ?_)
    · with_reducible refine State_setBw_kept ?_
      assumption
    · assumption

theorem effSlk_kept {r s : State} {a0 a1} (h : Kept r s) :
    Kept r (effSlk a0 a1 s) := by
  unfold effSlk
  extract_lets l0_0 l0_1 l0_2 l0_3
  clear_value l0_0
  have hl0_1 : Kept r l0_1 := by
    unfold l0_1
    refine Kept.ite (fun _ => ?_) (fun _ => ?_)
    · with_reducible refine State_setBw_kept ?_
      with_reducible refine State_setRegF_kept ?_
      with_reducible refine State_planClose_kept ?_
      assumption
    · refine Kept.ite (fun _ => ?_) (fun _ => ?_)
      · with_reducible refine State_commitRes_kept ?_
        with_reducible refine State_planClose_kept ?_
        assumption
      · assumption
  clear_value l0_1
  have hl0_2 : Kept r l0_2 := by
    unfold l0_2
    refine Kept.ite (fun _ => ?_) (fun _ => ?_)
    · with_reducible refine State_setRegF_kept ?_
      with_reducible refine State_setReg64_kept ?_
      assumption
    · assumption
  clear_value l0_2
  clear_value l0_3
  refine Kept.ite (fun _ => ?_) (fun _ => ?_)
  · with_reducible refine State_setBw_kept ?_
    with_reducible refine State_setReg_kept ?_
    assumption
  · assumption

theorem State_speedSample_kept {r s : State} (h : Kept r s) :
    Kept r (State.speedSample s) := by
  unfold State.speedSample
  extract_lets l0_0 l0_1 l0_2 l0_3
  clear_value l0_0
  clear_value l0_1
  clear_value l0_2
  clear_value l0_3
  split
  · refine Kept.ite (fun _ => ?_) (fun _ => ?_)
    · assumption
    · extract_lets l3_0 l3_1 l3_2 l3_3 l3_4
      clear_value l3_0
      clear_value l3_1
      have hl3_2 : Kept r l3_2 := by
        unfold l3_2
        with_reducible refine State_setBw_kept ?_
        assumption
      clear_value l3_2
      clear_value l3_3
      clear_value l3_4
      split
      · extract_lets l5_0
        clear_value l5_0
        with_reducible refine State_setBw_kept ?_
        with_reducible refine State_setReg_kept ?_
        assumption
      · assumption
  · assumption

theorem State_speedLost_kept {r s : State} (h : Kept r s) :
    Kept r (State.speedLost s) := by
  unfold State.speedLost
  extract_lets l0_0 l0_1
  clear_value l0_0
  clear_value l0_1
  refine Kept.ite (fun _ => ?_) (fun _ => ?_)
  · with_reducible refine State_irqBit_kept ?_
    with_reducible refine State_raiseFault_kept ?_
    with_reducible refine State_setBw_kept ?_
    assumption
  · assumption

theorem State_dropLinks_kept {r s : State} {a1} (h : Kept r s) :
    Kept r (State.dropLinks s a1) := by
  unfold State.dropLinks
  split
  · with_reducible refine State_tsnLink_kept ?_
    assumption
  · refine Kept.foldl (fun t1 x1 h1 => ?_) ?_
    · refine Kept.ite (fun _ => ?_) (fun _ => ?_)
      · with_reducible refine State_inEnter_kept ?_
        assumption
      · assumption
    · assumption
  · refine Kept.foldl (fun t1 x1 h1 => ?_) ?_
    · refine Kept.ite (fun _ => ?_) (fun _ => ?_)
      · with_reducible refine State_outEnter_kept ?_
        assumption
      · assumption
    · assumption
  · assumption

theorem State_isolate_kept {r s : State} {a1 a2} (h : Kept r s) :
    Kept r (State.isolate s a1 a2) := by
  unfold State.isolate
  extract_lets l0_0 l0_1 l0_2 l0_3 l0_4
  clear_value l0_0
  clear_value l0_1
  clear_value l0_2
  clear_value l0_3
  have hl0_4 : Kept r l0_4 := by
    unfold l0_4
    with_reducible refine State_setReg_kept ?_
    with_reducible refine State_setBw_kept ?_
    assumption
  clear_value l0_4
  with_reducible refine State_irqBit_kept ?_
  refine Kept.foldl (fun t2 x2 h2 => ?_) ?_
  · with_reducible refine State_dropLinks_kept ?_
    assumption
  · assumption

theorem State_record_kept {r s : State} {a1 a2 a3 a4} (h : Kept r s) :
    Kept r (State.record s a1 a2 a3 a4) := by
  unfold State.record
  extract_lets l0_0 l0_1 l0_2
  clear_value l0_0
  clear_value l0_2
  with_reducible refine State_setReg_kept ?_
  with_reducible refine State_setReg64_kept ?_
  with_reducible refine State_setReg_kept ?_
  assumption

theorem State_pinDefault_kept {r s : State} {a1} (h : Kept r s) :
    Kept r (State.pinDefault s a1) := by
  unfold State.pinDefault
  with_reducible refine State_setPin_kept ?_
  assumption

theorem State_holdUpDefaults_kept {r s : State} (h : Kept r s) :
    Kept r (State.holdUpDefaults s) := by
  unfold State.holdUpDefaults
  extract_lets l0_0 l0_1 l0_2
  have hl0_0 : Kept r l0_0 := by
    unfold l0_0
    refine Kept.foldl (fun t1 x1 h1 => ?_) ?_
    · with_reducible refine State_pinDefault_kept ?_
      assumption
    · assumption
  clear_value l0_0
  clear_value l0_1
  clear_value l0_2
  with_reducible refine Kept.mk' ?_
  assumption

theorem State_deviceReact_kept {r s : State} {a1 a2 a3 a4} (h : Kept r s) :
    Kept r (State.deviceReact s a1 a2 a3 a4) := by
  unfold State.deviceReact
  extract_lets l0_0 l0_1 l0_2 l0_3 l0_4 l0_5
  clear_value l0_0
  have hl0_1 : Kept r l0_1 := by
    unfold l0_1
    with_reducible refine State_satIncF_kept ?_
    with_reducible refine State_record_kept ?_
    assumption
  clear_value l0_1
  have hl0_2 : Kept r l0_2 := by
    unfold l0_2
    with_reducible refine State_holdUpDefaults_kept ?_
    assumption
  clear_value l0_2
  clear_value l0_3
  have hl0_4 : Kept r l0_4 := by
    unfold l0_4
    with_reducible refine State_setBw_kept ?_
    assumption
  clear_value l0_4
  have hl0_5 : Kept r l0_5 := by
    unfold l0_5
    with_reducible refine State_setRegF_kept ?_
    assumption
  clear_value l0_5
  refine Kept.ite (fun _ => ?_) (fun _ => ?_)
  · with_reducible refine State_setBwState_kept ?_
    with_reducible refine State_setRegF_kept ?_
    assumption
  · assumption

theorem State_slackStop_kept {r s : State} {a1 a2 a3} (h : Kept r s) :
    Kept r (State.slackStop s a1 a2 a3) := by
  unfold State.slackStop
  extract_lets l0_0 l0_1 l0_2 l0_3 l0_4 l0_5 l0_6 l0_7 l0_8 l0_9
  clear_value l0_0
  clear_value l0_1
  clear_value l0_2
  clear_value l0_3
  clear_value l0_4
  clear_value l0_5
  clear_value l0_6
  clear_value l0_7
  have hl0_8 : Kept r l0_8 := by
    unfold l0_8
    with_reducible refine State_setReg64_kept ?_
    with_reducible refine State_setBwState_kept ?_
    with_reducible refine State_satIncF_kept ?_
    with_reducible refine State_record_kept ?_
    assumption
  clear_value l0_8
  clear_value l0_9
  refine Kept.ite (fun _ => ?_) (fun _ => ?_)
  · with_reducible refine State_deviceReact_kept ?_
    assumption
  · with_reducible refine State_setBw_kept ?_
    assumption

theorem State_latchSource_kept {r s : State} {a1} (h : Kept r s) :
    Kept r (State.latchSource s a1) := by
  unfold State.latchSource
  extract_lets l0_0
  clear_value l0_0
  with_reducible refine State_satIncF_kept ?_
  with_reducible refine State_setReg_kept ?_
  assumption

theorem State_react_kept {r s : State} {a1 a2 a3} (h : Kept r s) :
    Kept r (State.react s a1 a2 a3) := by
  unfold State.react
  extract_lets l0_0 l0_1 l0_2
  clear_value l0_0
  clear_value l0_1
  have hl0_2 : Kept r l0_2 := by
    unfold l0_2
    refine Kept.ite (fun _ => ?_) (fun _ => ?_)
    · with_reducible refine State_irqBit_kept ?_
      assumption
    · assumption
  clear_value l0_2
  split
  · assumption
  · refine Kept.ite (fun _ => ?_) (fun _ => ?_)
    · refine Kept.foldl (fun t3 x3 h3 => ?_) ?_
      · with_reducible refine State_isolate_kept ?_
        assumption
      · assumption
    · refine Kept.ite (fun _ => ?_) (fun _ => ?_)
      · refine Kept.ite (fun _ => ?_) (fun _ => ?_)
        · with_reducible refine State_maskCore_kept ?_
          assumption
        · assumption
      · refine Kept.ite (fun _ => ?_) (fun _ => ?_)
        · refine Kept.ite (fun _ => ?_) (fun _ => ?_)
          · assumption
          · with_reducible refine State_slackStop_kept ?_
            assumption
        · refine Kept.ite (fun _ => ?_) (fun _ => ?_)
          · refine Kept.ite (fun _ => ?_) (fun _ => ?_)
            · assumption
            · with_reducible refine State_deviceReact_kept ?_
              assumption
          · assumption

theorem State_faultLatch_kept {r s : State} {a1} (h : Kept r s) :
    Kept r (State.faultLatch s a1) := by
  unfold State.faultLatch
  refine Kept.ite (fun _ => ?_) (fun _ => ?_)
  · assumption
  · extract_lets l1_0 l1_1 l1_2 l1_3 l1_4 l1_5
    clear_value l1_0
    clear_value l1_1
    clear_value l1_2
    clear_value l1_3
    clear_value l1_4
    have hl1_5 : Kept r l1_5 := by
      unfold l1_5
      refine Kept.foldl (fun t2 x2 h2 => ?_) ?_
      · with_reducible refine State_latchSource_kept ?_
        assumption
      · with_reducible refine Kept.mk' ?_
        assumption
    clear_value l1_5
    split
    · with_reducible refine Kept.mk' ?_
      assumption
    · extract_lets l3_0
      have hl3_0 : Kept r l3_0 := by
        unfold l3_0
        refine Kept.ite (fun _ => ?_) (fun _ => ?_)
        · assumption
        · with_reducible refine State_setReg64_kept ?_
          with_reducible refine State_setReg_kept ?_
          assumption
      clear_value l3_0
      with_reducible refine State_react_kept ?_
      with_reducible refine State_irqBit_kept ?_
      assumption

theorem State_slackBegins_kept {r s : State} (h : Kept r s) :
    Kept r (State.slackBegins s) := by
  unfold State.slackBegins
  split
  · refine Kept.ite (fun _ => ?_) (fun _ => ?_)
    · assumption
    · split
      · extract_lets l3_0 l3_1 l3_2 l3_3
        have hl3_0 : Kept r l3_0 := by
          unfold l3_0
          with_reducible refine State_preempt_kept ?_
          assumption
        clear_value l3_0
        clear_value l3_1
        have hl3_2 : Kept r l3_2 := by
          unfold l3_2
          with_reducible refine State_irqBit_kept ?_
          with_reducible refine State_setReg_kept ?_
          with_reducible refine State_setReg_kept ?_
          assumption
        clear_value l3_2
        clear_value l3_3
        with_reducible refine State_setBw_kept ?_
        assumption
  · assumption

theorem State_slackDeliver_kept {r s : State} {a1} (h : Kept r s) :
    Kept r (State.slackDeliver s a1) := by
  unfold State.slackDeliver
  split
  · extract_lets l1_0 l1_1 l1_2 l1_3 l1_4
    clear_value l1_0
    clear_value l1_1
    clear_value l1_2
    have hl1_3 : Kept r l1_3 := by
      unfold l1_3
      with_reducible refine State_satIncF_kept ?_
      with_reducible refine State_setBw_kept ?_
      assumption
    clear_value l1_3
    clear_value l1_4
    split
    · refine Kept.ite (fun _ => ?_) (fun _ => ?_)
      · extract_lets l4_0
        clear_value l4_0
        refine Kept.ite (fun _ => ?_) (fun _ => ?_)
        · with_reducible refine Kept.mk' ?_
          assumption
        · refine Kept.ite (fun _ => ?_) (fun _ => ?_)
          · with_reducible refine Kept.mk' ?_
            assumption
          · with_reducible refine State_rxLog_kept ?_
            with_reducible refine State_satInc_kept ?_
            assumption
      · assumption
    · assumption
  · assumption

theorem State_slackDone_kept {r s : State} (h : Kept r s) :
    Kept r (State.slackDone s) := by
  unfold State.slackDone
  split
  · extract_lets l1_0 l1_1 l1_2 l1_3
    clear_value l1_0
    clear_value l1_1
    have hl1_2 : Kept r l1_2 := by
      unfold l1_2
      with_reducible refine State_irqBit_kept ?_
      with_reducible refine State_setBwState_kept ?_
      with_reducible refine State_setRegF_kept ?_
      assumption
    clear_value l1_2
    clear_value l1_3
    refine Kept.ite (fun _ => ?_) (fun _ => ?_)
    · with_reducible refine Kept.mk' ?_
      assumption
    · assumption
  · assumption

theorem effBwCtl_kept {r s : State} {a0} (h : Kept r s) :
    Kept r (effBwCtl a0 s) := by
  unfold effBwCtl
  extract_lets l0_0 l0_1 l0_2 l0_3 l0_4 l0_5 l0_6
  have hl0_0 : Kept r l0_0 := by
    unfold l0_0
    refine Kept.ite (fun _ => ?_) (fun _ => ?_)
    · with_reducible refine State_raiseFault_kept ?_
      with_reducible refine State_setRegF_kept ?_
      assumption
    · assumption
  clear_value l0_0
  clear_value l0_1
  have hl0_2 : Kept r l0_2 := by
    unfold l0_2
    refine Kept.ite (fun _ => ?_) (fun _ => ?_)
    · with_reducible refine State_setBw_kept ?_
      with_reducible refine State_setBwState_kept ?_
      assumption
    · assumption
  clear_value l0_2
  have hl0_3 : Kept r l0_3 := by
    unfold l0_3
    refine Kept.ite (fun _ => ?_) (fun _ => ?_)
    · with_reducible refine State_setReg_kept ?_
      with_reducible refine State_setReg64_kept ?_
      with_reducible refine State_setReg_kept ?_
      assumption
    · assumption
  clear_value l0_3
  clear_value l0_4
  clear_value l0_5
  clear_value l0_6
  refine Kept.ite (fun _ => ?_) (fun _ => ?_)
  · with_reducible refine State_setBw_kept ?_
    with_reducible refine State_setReg_kept ?_
    assumption
  · assumption

theorem effBwFc_kept {r s : State} {a0} (h : Kept r s) :
    Kept r (effBwFc a0 s) := by
  unfold effBwFc
  extract_lets l0_0
  have hl0_0 : Kept r l0_0 := by
    unfold l0_0
    refine Kept.ite (fun _ => ?_) (fun _ => ?_)
    · with_reducible refine State_clearRegs_kept ?_
      with_reducible refine State_setReg64_kept ?_
      with_reducible refine State_setReg_kept ?_
      assumption
    · assumption
  clear_value l0_0
  refine Kept.ite (fun _ => ?_) (fun _ => ?_)
  · with_reducible refine State_raiseFault_kept ?_
    assumption
  · assumption

theorem State_setPresent_kept {r s : State} {a1 a2 a3} (h : Kept r s) :
    Kept r (State.setPresent s a1 a2 a3) := by
  unfold State.setPresent
  refine Kept.ite (fun _ => ?_) (fun _ => ?_)
  · refine Kept.ite (fun _ => ?_) (fun _ => ?_)
    · with_reducible refine State_raiseFault_kept ?_
      assumption
    · with_reducible refine State_raiseFault_kept ?_
      with_reducible refine State_setBw_kept ?_
      assumption
  · with_reducible refine State_setBw_kept ?_
    assumption

theorem State_monitored_kept {r s : State} {a1} (h : Kept r s) :
    Kept r (State.monitored s a1) := by
  unfold State.monitored
  split
  · refine Kept.ite (fun _ => ?_) (fun _ => ?_)
    · assumption
    · extract_lets l2_0 l2_1 l2_2 l2_s l2_3
      clear_value l2_0
      clear_value l2_1
      clear_value l2_2
      have hl2_s : Kept r l2_s := by
        unfold l2_s
        refine Kept.ite (fun _ => ?_) (fun _ => ?_)
        · with_reducible refine State_setPresent_kept ?_
          assumption
        · assumption
      clear_value l2_s
      have hl2_3 : Kept r l2_3 := by
        unfold l2_3
        with_reducible refine State_setPresent_kept ?_
        with_reducible refine State_setReg_kept ?_
        assumption
      clear_value l2_3
      refine Kept.ite (fun _ => ?_) (fun _ => ?_)
      · with_reducible refine State_irqBit_kept ?_
        assumption
      · assumption
  · refine Kept.ite (fun _ => ?_) (fun _ => ?_)
    · assumption
    · extract_lets l2_0 l2_1 l2_2 l2_3
      clear_value l2_0
      clear_value l2_1
      clear_value l2_2
      have hl2_3 : Kept r l2_3 := by
        unfold l2_3
        with_reducible refine State_setPresent_kept ?_
        with_reducible refine State_setReg_kept ?_
        assumption
      clear_value l2_3
      refine Kept.ite (fun _ => ?_) (fun _ => ?_)
      · with_reducible refine State_irqBit_kept ?_
        assumption
      · assumption
  · refine Kept.ite (fun _ => ?_) (fun _ => ?_)
    · assumption
    · extract_lets l2_0 l2_1 l2_2 l2_3 l2_4 l2_5
      have hl2_0 : Kept r l2_0 := by
        unfold l2_0
        with_reducible refine State_setReg_kept ?_
        assumption
      clear_value l2_0
      clear_value l2_1
      clear_value l2_2
      clear_value l2_4
      have hl2_5 : Kept r l2_5 := by
        unfold l2_5
        with_reducible refine State_setPresent_kept ?_
        with_reducible refine State_setPresent_kept ?_
        assumption
      clear_value l2_5
      refine Kept.ite (fun _ => ?_) (fun _ => ?_)
      · with_reducible refine State_irqBit_kept ?_
        with_reducible refine State_irqBit_kept ?_
        assumption
      · assumption

theorem State_monitor_kept {r s : State} {a1} (h : Kept r s) :
    Kept r (State.monitor s a1) := by
  unfold State.monitor
  refine Kept.ite (fun _ => State_monitored_kept h) (fun _ => h)

theorem State_memoryScrub_kept {r s : State} {a1 a2} (h : Kept r s) :
    Kept r (State.memoryScrub s a1 a2) := by
  unfold State.memoryScrub
  split
  · split
    · assumption
    · with_reducible refine State_raiseFault_kept ?_
      assumption
    · extract_lets l2_0 l2_1 l2_2
      have hl2_0 : Kept r l2_0 := by
        unfold l2_0
        split
        · with_reducible refine State_raiseFault_kept ?_
          assumption
        · assumption
      clear_value l2_0
      clear_value l2_1
      clear_value l2_2
      split
      · extract_lets l4_0 l4_1
        clear_value l4_0
        have hl4_1 : Kept r l4_1 := by
          unfold l4_1
          with_reducible refine State_setBw_kept ?_
          assumption
        clear_value l4_1
        refine Kept.ite (fun _ => ?_) (fun _ => ?_)
        · with_reducible refine State_raiseFault_kept ?_
          assumption
        · assumption

theorem State_setTimer_kept {r s : State} {a1 a2} (h : Kept r s) :
    Kept r (State.setTimer s a1 a2) := by
  unfold State.setTimer
  with_reducible refine Kept.mk' ?_
  assumption

theorem State_dmaDrop_kept {r s : State} {a1} (h : Kept r s) :
    Kept r (State.dmaDrop s a1) := by
  unfold State.dmaDrop
  with_reducible refine State_irqBit_kept ?_
  with_reducible refine State_satIncF_kept ?_
  assumption

theorem State_cvDropStart_kept {r s : State} {a1} (h : Kept r s) :
    Kept r (State.cvDropStart s a1) := by
  unfold State.cvDropStart
  with_reducible refine State_irqBit_kept ?_
  with_reducible refine State_satIncF_kept ?_
  assumption

theorem State_routePush_kept {r s : State} {a1} (h : Kept r s) :
    Kept r (State.routePush s a1) := by
  unfold State.routePush
  refine Kept.ite (fun _ => ?_) (fun _ => ?_)
  · refine Kept.ite (fun _ => ?_) (fun _ => ?_)
    · with_reducible refine State_cvDropStart_kept ?_
      assumption
    · with_reducible refine State_dmaDrop_kept ?_
      assumption
  · with_reducible refine Kept.mk' ?_
    assumption

theorem State_timerEvent_kept {r s : State} {a1 a2 a3} (h : Kept r s) :
    Kept r (State.timerEvent s a1 a2 a3) := by
  unfold State.timerEvent
  extract_lets l0_0
  have hl0_0 : Kept r l0_0 := by
    unfold l0_0
    with_reducible refine State_irqBit_kept ?_
    assumption
  clear_value l0_0
  refine Kept.foldl (fun t1 x1 h1 => ?_) ?_
  · extract_lets l2_0 l2_1
    clear_value l2_0
    clear_value l2_1
    refine Kept.ite (fun _ => ?_) (fun _ => ?_)
    · with_reducible refine State_routePush_kept ?_
      assumption
    · assumption
  · assumption

theorem State_routeTake_kept {r s t : State} {a0 a1 e} (e : State.routeTake s a0 a1 = some (e, t)) (h : Kept r s) : Kept r t := by
  unfold State.routeTake at e
  split at e
  · simp only [Option.some.injEq, Prod.mk.injEq] at e
    obtain ⟨_, rfl⟩ := e
    refine Kept.ite (fun _ => Kept.mk' h) (fun _ => State_wrapInc_kept (Kept.mk' h))
  · simp at e

theorem State_setLate_kept {r s : State} {a1 a2} (h : Kept r s) :
    Kept r (State.setLate s a1 a2) := by
  unfold State.setLate
  refine Kept.ite (fun _ => ?_) (fun _ => ?_)
  · with_reducible refine State_setRegF_kept ?_
    assumption
  · assumption

theorem State_timerMatch_kept {r s : State} {a1 a2} (h : Kept r s) :
    Kept r (State.timerMatch s a1 a2) := by
  unfold State.timerMatch
  extract_lets l0_0 l0_1 l0_2 l0_3
  clear_value l0_0
  clear_value l0_1
  clear_value l0_2
  clear_value l0_3
  refine Kept.ite (fun _ => ?_) (fun _ => ?_)
  · assumption
  · split
    · refine Kept.ite (fun _ => ?_) (fun _ => ?_)
      · assumption
      · with_reducible refine State_timerEvent_kept ?_
        with_reducible refine State_setTimer_kept ?_
        assumption
    · assumption

theorem State_timerWrap_kept {r s : State} {a1} (h : Kept r s) :
    Kept r (State.timerWrap s a1) := by
  unfold State.timerWrap
  extract_lets l0_0 l0_1 l0_2 l0_3
  clear_value l0_0
  clear_value l0_1
  clear_value l0_2
  clear_value l0_3
  refine Kept.ite (fun _ => ?_) (fun _ => ?_)
  · assumption
  · with_reducible refine State_timerEvent_kept ?_
    with_reducible refine State_setLate_kept ?_
    with_reducible refine State_setTimer_kept ?_
    assumption

theorem State_timerTop_kept {r s : State} {a1} (h : Kept r s) :
    Kept r (State.timerTop s a1) := by
  unfold State.timerTop
  extract_lets l0_0 l0_1 l0_2
  clear_value l0_0
  clear_value l0_1
  clear_value l0_2
  refine Kept.ite (fun _ => ?_) (fun _ => ?_)
  · assumption
  · with_reducible refine State_timerEvent_kept ?_
    with_reducible refine State_setLate_kept ?_
    with_reducible refine State_setTimer_kept ?_
    assumption

theorem State_timerRun_kept {r s : State} {a1 a2} (h : Kept r s) :
    Kept r (State.timerRun s a1 a2) := by
  unfold State.timerRun
  extract_lets l0_0
  clear_value l0_0
  refine Kept.ite (fun _ => ?_) (fun _ => ?_)
  · assumption
  · with_reducible refine State_setTimer_kept ?_
    assumption

theorem State_timerHalt_kept {r s : State} {a1 a2} (h : Kept r s) :
    Kept r (State.timerHalt s a1 a2) := by
  unfold State.timerHalt
  extract_lets l0_0
  clear_value l0_0
  with_reducible refine State_setTimer_kept ?_
  assumption

theorem State_timerCount_kept {r s : State} {a1 a2} (h : Kept r s) :
    Kept r (State.timerCount s a1 a2) := by
  unfold State.timerCount
  extract_lets l0_0 l0_1 l0_2 l0_3 l0_4 l0_5 l0_6 l0_7 l0_8 l0_9
  clear_value l0_0
  clear_value l0_1
  clear_value l0_2
  clear_value l0_3
  clear_value l0_4
  clear_value l0_5
  clear_value l0_6
  have hl0_7 : Kept r l0_7 := by
    unfold l0_7
    with_reducible refine State_setLate_kept ?_
    with_reducible refine State_setTimer_kept ?_
    assumption
  clear_value l0_7
  have hl0_8 : Kept r l0_8 := by
    unfold l0_8
    refine Kept.ite (fun _ => ?_) (fun _ => ?_)
    · with_reducible refine State_timerEvent_kept ?_
      assumption
    · assumption
  clear_value l0_8
  have hl0_9 : Kept r l0_9 := by
    unfold l0_9
    refine Kept.ite (fun _ => ?_) (fun _ => ?_)
    · with_reducible refine State_timerEvent_kept ?_
      assumption
    · assumption
  clear_value l0_9
  refine Kept.ite (fun _ => ?_) (fun _ => ?_)
  · assumption
  · refine Kept.ite (fun _ => ?_) (fun _ => ?_)
    · assumption
    · refine Kept.ite (fun _ => ?_) (fun _ => ?_)
      · with_reducible refine State_timerEvent_kept ?_
        assumption
      · refine Kept.ite (fun _ => ?_) (fun _ => ?_)
        · with_reducible refine State_timerEvent_kept ?_
          assumption
        · assumption

theorem State_routeStart_kept {r s : State} {a1} (h : Kept r s) :
    Kept r (State.routeStart s a1) := by
  unfold State.routeStart
  split
  · refine Kept.ite (fun _ => ?_) (fun _ => ?_)
    · with_reducible refine State_timerRun_kept ?_
      refine State_routeTake_kept (by assumption) ?_
      assumption
    · refine State_routeTake_kept (by assumption) ?_
      assumption
  · assumption

theorem State_routeStop_kept {r s : State} {a1} (h : Kept r s) :
    Kept r (State.routeStop s a1) := by
  unfold State.routeStop
  split
  · refine Kept.ite (fun _ => ?_) (fun _ => ?_)
    · refine State_routeTake_kept (by assumption) ?_
      assumption
    · with_reducible refine State_timerHalt_kept ?_
      refine State_routeTake_kept (by assumption) ?_
      assumption
  · assumption

theorem State_routeCount_kept {r s : State} {a1} (h : Kept r s) :
    Kept r (State.routeCount s a1) := by
  unfold State.routeCount
  split
  · refine Kept.ite (fun _ => ?_) (fun _ => ?_)
    · refine State_routeTake_kept (by assumption) ?_
      assumption
    · with_reducible refine State_timerCount_kept ?_
      refine State_routeTake_kept (by assumption) ?_
      assumption
  · assumption

theorem State_timerLoad_kept {r s : State} {a1 a2} (h : Kept r s) :
    Kept r (State.timerLoad s a1 a2) := by
  unfold State.timerLoad
  extract_lets l0_0 l0_1 l0_2
  clear_value l0_0
  clear_value l0_1
  clear_value l0_2
  refine Kept.ite (fun _ => ?_) (fun _ => ?_)
  · with_reducible refine State_setTimer_kept ?_
    assumption
  · with_reducible refine State_setTimer_kept ?_
    assumption

theorem State_timerWord_kept {r s : State} {a0 a2 a3 a4 a5 a6} (h : Kept r s) :
    Kept r (State.timerWord a0 s a2 a3 a4 a5 a6) := by
  unfold State.timerWord
  extract_lets l0_0 l0_1 l0_2 l0_3 l0_4 l0_5
  clear_value l0_0
  clear_value l0_1
  clear_value l0_2
  clear_value l0_3
  clear_value l0_4
  clear_value l0_5
  refine Kept.ite (fun _ => ?_) (fun _ => ?_)
  · refine Kept.ite (fun _ => ?_) (fun _ => ?_)
    · with_reducible refine State_setReg_kept ?_
      assumption
    · split
      · with_reducible refine State_timerLoad_kept ?_
        with_reducible refine State_setReg_kept ?_
        assumption
      · assumption
  · refine Kept.ite (fun _ => ?_) (fun _ => ?_)
    · refine Kept.ite (fun _ => ?_) (fun _ => ?_)
      · with_reducible refine State_setTimer_kept ?_
        assumption
      · assumption
    · refine Kept.ite (fun _ => ?_) (fun _ => ?_)
      · refine Kept.ite (fun _ => ?_) (fun _ => ?_)
        · refine Kept.ite (fun _ => ?_) (fun _ => ?_)
          · assumption
          · with_reducible refine State_timerRun_kept ?_
            assumption
        · refine Kept.ite (fun _ => ?_) (fun _ => ?_)
          · with_reducible refine State_setTimer_kept ?_
            assumption
          · assumption
      · refine Kept.ite (fun _ => ?_) (fun _ => ?_)
        · refine Kept.ite (fun _ => ?_) (fun _ => ?_)
          · with_reducible refine State_timerRun_kept ?_
            assumption
          · refine Kept.ite (fun _ => ?_) (fun _ => ?_)
            · with_reducible refine State_timerHalt_kept ?_
              assumption
            · refine Kept.ite (fun _ => ?_) (fun _ => ?_)
              · with_reducible refine State_setTimer_kept ?_
                assumption
              · refine Kept.ite (fun _ => ?_) (fun _ => ?_)
                · with_reducible refine State_setRegF_kept ?_
                  assumption
                · assumption
        · assumption

theorem effTmr_kept {r s : State} {a0 a1 a2} (h : Kept r s) :
    Kept r (effTmr a0 a1 a2 s) := by
  unfold effTmr
  refine Kept.foldl (fun t0 x0 h0 => ?_) ?_
  · with_reducible refine State_timerWord_kept ?_
    assumption
  · assumption

theorem effTmx_kept {r s : State} {a0} (h : Kept r s) :
    Kept r (effTmx a0 s) := by
  unfold effTmx
  refine Kept.ite (fun _ => ?_) (fun _ => ?_)
  · with_reducible refine State_setReg_kept ?_
    assumption
  · assumption

theorem State_setSw_kept {r s : State} {a1 a2} (h : Kept r s) :
    Kept r (State.setSw s a1 a2) := by
  unfold State.setSw
  with_reducible refine Kept.mk' ?_
  assumption

theorem State_setSwPc_kept {r s : State} {a1 a2} (h : Kept r s) :
    Kept r (State.setSwPc s a1 a2) := by
  unfold State.setSwPc
  with_reducible refine State_setRegF_kept ?_
  assumption

theorem State_swMirror_kept {r s : State} {a1} (h : Kept r s) :
    Kept r (State.swMirror s a1) := by
  unfold State.swMirror
  refine Kept.ite (fun _ => ?_) (fun _ => ?_)
  · with_reducible refine State_setRegF_kept ?_
    with_reducible refine State_setReg_kept ?_
    with_reducible refine State_setSw_kept ?_
    assumption
  · assumption

theorem State_swEach_kept {r s : State} {a1 a2} (h : Kept r s) (hf2 : ∀ x0 x1, Kept r x0 → Kept r (a2 x0 x1)) :
    Kept r (State.swEach s a1 a2) := by
  unfold State.swEach
  refine Kept.ite (fun _ => ?_) (fun _ => ?_)
  · refine hf2 _ _ ?_
    refine hf2 _ _ ?_
    assumption
  · refine hf2 _ _ ?_
    assumption

theorem State_swEnter_kept {r s : State} {a1 a2 a3} (h : Kept r s) :
    Kept r (State.swEnter s a1 a2 a3) := by
  unfold State.swEnter
  with_reducible refine State_setRegF_kept ?_
  with_reducible refine State_setRegF_kept ?_
  assumption

theorem State_swCount_kept {r s : State} {a1} (h : Kept r s) :
    Kept r (State.swCount s a1) := by
  unfold State.swCount
  with_reducible refine State_swEach_kept ?_ ?_
  · assumption
  · intro z0_0 z0_1 z0_2
    with_reducible refine State_setReg64_kept ?_
    assumption

theorem State_swStart_kept {r s : State} {a1 a2 a3} (h : Kept r s) :
    Kept r (State.swStart s a1 a2 a3) := by
  unfold State.swStart
  extract_lets l0_0 l0_1
  have hl0_0 : Kept r l0_0 := by
    unfold l0_0
    with_reducible refine State_setSwPc_kept ?_
    with_reducible refine State_setRegF_kept ?_
    assumption
  clear_value l0_0
  clear_value l0_1
  with_reducible refine State_swMirror_kept ?_
  with_reducible refine State_setSw_kept ?_
  assumption

theorem State_swStop_kept {r s : State} {a1} (h : Kept r s) :
    Kept r (State.swStop s a1) := by
  unfold State.swStop
  refine Kept.ite (fun _ => ?_) (fun _ => ?_)
  · with_reducible refine State_swMirror_kept ?_
    with_reducible refine State_setSw_kept ?_
    with_reducible refine State_swEnter_kept ?_
    assumption
  · assumption

theorem State_swHalt_kept {r s : State} {a1 a2} (h : Kept r s) :
    Kept r (State.swHalt s a1 a2) := by
  unfold State.swHalt
  extract_lets l0_0 l0_1 l0_2 l0_3
  clear_value l0_0
  have hl0_1 : Kept r l0_1 := by
    unfold l0_1
    with_reducible refine State_setSw_kept ?_
    assumption
  clear_value l0_1
  have hl0_2 : Kept r l0_2 := by
    unfold l0_2
    with_reducible refine State_swEach_kept ?_ ?_
    · with_reducible refine State_swEnter_kept ?_
      assumption
    · intro z1_0 z1_1 z1_2
      with_reducible refine State_setReg_kept ?_
      assumption
  clear_value l0_2
  have hl0_3 : Kept r l0_3 := by
    unfold l0_3
    refine Kept.ite (fun _ => ?_) (fun _ => ?_)
    · with_reducible refine State_irqBit_kept ?_
      assumption
    · with_reducible refine State_raiseFault_kept ?_
      with_reducible refine State_irqBit_kept ?_
      assumption
  clear_value l0_3
  with_reducible refine State_swMirror_kept ?_
  assumption

theorem State_swWaitDone_kept {r s : State} {a1} (h : Kept r s) :
    Kept r (State.swWaitDone s a1) := by
  unfold State.swWaitDone
  extract_lets l0_0 l0_1
  have hl0_0 : Kept r l0_0 := by
    unfold l0_0
    with_reducible refine State_swCount_kept ?_
    assumption
  clear_value l0_0
  clear_value l0_1
  refine Kept.ite (fun _ => ?_) (fun _ => ?_)
  · with_reducible refine State_swMirror_kept ?_
    with_reducible refine State_swEnter_kept ?_
    with_reducible refine State_setSw_kept ?_
    assumption
  · with_reducible refine State_swMirror_kept ?_
    with_reducible refine State_setRegF_kept ?_
    assumption

theorem State_swWake_kept {r s : State} {a1} (h : Kept r s) :
    Kept r (State.swWake s a1) := by
  unfold State.swWake
  refine Kept.ite (fun _ => ?_) (fun _ => ?_)
  · assumption
  · refine Kept.ite (fun _ => ?_) (fun _ => ?_)
    · with_reducible refine State_swWaitDone_kept ?_
      assumption
    · refine Kept.ite (fun _ => ?_) (fun _ => ?_)
      · with_reducible refine State_swEach_kept ?_ ?_
        · assumption
        · intro z3_0 z3_1 z3_2
          with_reducible refine State_satInc_kept ?_
          assumption
      · with_reducible refine State_swMirror_kept ?_
        with_reducible refine State_setSw_kept ?_
        assumption

end Sys2Proof.Machine
end

