-- ==== Sys2Proof/Laws/KeptD.lean ====
section
/-! SUPPORT. One lemma per operation of the block, from State.swReset to State.propArrive: it keeps the canonical form of
memory and the queue (Kept). -/
set_option Elab.async false
namespace Sys2Proof.Machine

theorem State_swReset_kept {r s : State} {a1} (h : Kept r s) :
    Kept r (State.swReset s a1) := by
  unfold State.swReset
  with_reducible refine State_setSw_kept ?_
  assumption

theorem effSwell_kept {r s : State} {a0 a1 a2} (h : Kept r s) :
    Kept r (effSwell a0 a1 a2 s) := by
  unfold effSwell
  refine Kept.ite (fun _ => ?_) (fun _ => ?_)
  · extract_lets l1_0 l1_1 l1_2
    clear_value l1_0
    have hl1_1 : Kept r l1_1 := by
      unfold l1_1
      with_reducible refine State_setReg_kept ?_
      assumption
    clear_value l1_1
    have hl1_2 : Kept r l1_2 := by
      unfold l1_2
      refine Kept.ite (fun _ => ?_) (fun _ => ?_)
      · with_reducible refine State_swStart_kept ?_
        assumption
      · refine Kept.ite (fun _ => ?_) (fun _ => ?_)
        · with_reducible refine State_swStop_kept ?_
          assumption
        · refine Kept.ite (fun _ => ?_) (fun _ => ?_)
          · with_reducible refine State_swStart_kept ?_
            assumption
          · refine Kept.ite (fun _ => ?_) (fun _ => ?_)
            · with_reducible refine State_swWake_kept ?_
              assumption
            · refine Kept.ite (fun _ => ?_) (fun _ => ?_)
              · with_reducible refine State_swStart_kept ?_
                assumption
              · assumption
    clear_value l1_2
    assumption
  · refine Kept.ite (fun _ => ?_) (fun _ => ?_)
    · extract_lets l2_0 l2_1
      clear_value l2_0
      clear_value l2_1
      refine Kept.ite (fun _ => ?_) (fun _ => ?_)
      · with_reducible refine State_setRegF_kept ?_
        with_reducible refine State_setReg_kept ?_
        assumption
      · refine Kept.ite (fun _ => ?_) (fun _ => ?_)
        · with_reducible refine State_setReg_kept ?_
          with_reducible refine State_setReg_kept ?_
          assumption
        · assumption
    · refine Kept.ite (fun _ => ?_) (fun _ => ?_)
      · extract_lets l3_0 l3_1
        have hl3_0 : Kept r l3_0 := by
          unfold l3_0
          with_reducible refine State_setReg_kept ?_
          assumption
        clear_value l3_0
        have hl3_1 : Kept r l3_1 := by
          unfold l3_1
          refine Kept.ite (fun _ => ?_) (fun _ => ?_)
          · with_reducible refine State_swEach_kept ?_ ?_
            · assumption
            · intro z5_0 z5_1 z5_2
              with_reducible refine State_setReg_kept ?_
              assumption
          · assumption
        clear_value l3_1
        refine Kept.ite (fun _ => ?_) (fun _ => ?_)
        · with_reducible refine State_swEach_kept ?_ ?_
          · assumption
          · intro z5_0 z5_1 z5_2
            with_reducible refine State_setReg_kept ?_
            with_reducible refine State_setReg_kept ?_
            with_reducible refine State_setReg_kept ?_
            with_reducible refine State_setReg_kept ?_
            assumption
        · assumption
      · assumption

theorem State_pairCopyDone_kept {r s : State} {k} (h : Kept r s) : Kept r (State.pairCopyDone s k) := by
  unfold State.pairCopyDone
  extract_lets l0 l1 l2 l3
  clear_value l1
  split
  · refine State_swMirror_kept (State_setReg_kept ?_)
    refine Kept.foldl (fun t x ht => ?_) ?_
    · exact Kept.mem' ht writeByte_wf
    · exact State_clearMem_kept h
  · exact h

theorem State_setCam_kept {r s : State} {a1 a2} (h : Kept r s) :
    Kept r (State.setCam s a1 a2) := by
  unfold State.setCam
  with_reducible refine Kept.mk' ?_
  assumption

theorem State_setLane_kept {r s : State} {a1 a2} (h : Kept r s) :
    Kept r (State.setLane s a1 a2) := by
  unfold State.setLane
  with_reducible refine Kept.mk' ?_
  assumption

theorem State_setWin_kept {r s : State} {a1} (h : Kept r s) :
    Kept r (State.setWin s a1) := by
  unfold State.setWin
  with_reducible refine Kept.mk' ?_
  assumption

theorem State_winDone_kept {r s : State} {a1 a2} (h : Kept r s) :
    Kept r (State.winDone s a1 a2) := by
  unfold State.winDone
  split
  · split
    · with_reducible refine State_setWin_kept ?_
      assumption
    · assumption
  · assumption

theorem State_joinComp_kept {r s : State} {a1 a2} (h : Kept r s) :
    Kept r (State.joinComp s a1 a2).2 := by
  unfold State.joinComp
  split
  · extract_lets l1_0 l1_1
    clear_value l1_0
    clear_value l1_1
    show Kept _ _
    with_reducible refine State_winDone_kept ?_
    assumption

theorem State_blobDone_kept {r s : State} {a1 a2 a3} (h : Kept r s) :
    Kept r (State.blobDone s a1 a2 a3) := by
  unfold State.blobDone
  refine Kept.ite (fun _ => ?_) (fun _ => ?_)
  · with_reducible refine State_winDone_kept ?_
    assumption
  · split
    · extract_lets l2_0 l2_1 l2_2 l2_3
      clear_value l2_0
      clear_value l2_1
      have hl2_2 : Kept r l2_2 := by
        unfold l2_2
        with_reducible refine State_winDone_kept ?_
        assumption
      clear_value l2_2
      clear_value l2_3
      refine Kept.ite (fun _ => ?_) (fun _ => ?_)
      · with_reducible refine State_winDone_kept ?_
        assumption
      · refine Kept.ite (fun _ => ?_) (fun _ => ?_)
        · with_reducible refine State_irqBit_kept ?_
          with_reducible refine State_satInc_kept ?_
          with_reducible refine State_winDone_kept ?_
          assumption
        · with_reducible refine Kept.mk' ?_
          assumption

theorem State_joinAll_kept {r s : State} {x l} (h : Kept r s) : Kept r (State.joinAll s x l).2 := by
  induction l generalizing s x with
  | nil => exact h
  | cons y ys ih =>
    unfold State.joinAll
    exact ih (State_joinComp_kept h)

theorem State_seamFlush_kept {r s : State} {n} (h : Kept r s) : Kept r (State.seamFlush s n) := by
  induction n generalizing s with
  | zero => exact h
  | succ n ih =>
    unfold State.seamFlush
    extract_lets l0 l1 l2
    clear_value l2
    split
    · exact h
    · exact ih (State_blobDone_kept (State_joinAll_kept (Kept.mk' h)))

theorem State_closeComp_kept {r s : State} {a1} (h : Kept r s) :
    Kept r (State.closeComp s a1) := by
  unfold State.closeComp
  refine Kept.ite (fun _ => ?_) (fun _ => ?_)
  · with_reducible refine State_blobDone_kept ?_
    assumption
  · extract_lets l1_0 l1_1
    clear_value l1_0
    clear_value l1_1
    refine Kept.ite (fun _ => ?_) (fun _ => ?_)
    · with_reducible refine State_blobDone_kept ?_
      with_reducible refine State_irqBit_kept ?_
      with_reducible refine State_satInc_kept ?_
      assumption
    · with_reducible refine Kept.mk' ?_
      assumption

theorem State_winRows_kept {r s : State} {i n} (h : Kept r s) : Kept r (State.winRows s i n) := by
  induction n generalizing s with
  | zero => exact h
  | succ n ih =>
    unfold State.winRows
    split
    · exact h
    · rename_i w _
      refine Kept.ite (fun _ => h) fun _ => ?_
      dsimp only
      generalize s.camLine w.cam (max (w.row0 + w.next) (s.surfCam w.cam).first) = q
      cases q with
      | none => exact ih (State_setWin_kept h)
      | some x =>
        refine Kept.ite (fun _ => ih (State_irqBit_kept (State_satInc_kept (State_setWin_kept h)))) fun _ => ?_
        exact ih (Kept.mk' (State_setWin_kept h))

theorem State_openWin_kept {r s : State} {a1 a2 a3 a4} (h : Kept r s) :
    Kept r (State.openWin s a1 a2 a3 a4).2 := by
  unfold State.openWin
  extract_lets l0_0 l0_1 l0_2 l0_3 l0_4 l0_5 l0_6
  clear_value l0_0
  clear_value l0_1
  clear_value l0_2
  clear_value l0_3
  clear_value l0_4
  clear_value l0_5
  clear_value l0_6
  split
  · show Kept _ _
    assumption
  · split
    · show Kept _ _
      with_reducible refine State_irqBit_kept ?_
      with_reducible refine State_satInc_kept ?_
      assumption
    · show Kept _ _
      with_reducible refine Kept.mk' ?_
      assumption

theorem State_addRun_kept {r s : State} {a1 a2 a3 a4 a5 a6 a7} (h : Kept r s) :
    Kept r (State.addRun s a1 a2 a3 a4 a5 a6 a7).2.2 := by
  unfold State.addRun
  extract_lets l0_0 l0_1 l0_2 l0_3 l0_4 l0_5 l0_6 l0_7
  clear_value l0_0
  clear_value l0_1
  clear_value l0_2
  clear_value l0_3
  clear_value l0_4
  clear_value l0_5
  clear_value l0_6
  clear_value l0_7
  split
  · split
    · show Kept _ _
      show Kept _ _
      with_reducible refine State_irqBit_kept ?_
      with_reducible refine State_satInc_kept ?_
      assumption
    · split
      · show Kept _ _
        show Kept _ _
        refine Kept.snd (by assumption) ?_
        split
        · with_reducible refine State_openWin_kept ?_
          assumption
        · show Kept _ _
          assumption
  · extract_lets l2_0 l2_1 l2_2 l2_3
    clear_value l2_0
    clear_value l2_1
    clear_value l2_2
    clear_value l2_3
    split
    · extract_lets l4_0
      clear_value l4_0
      split
      · extract_lets l6_0
        clear_value l6_0
        split
        · extract_lets l8_0
          clear_value l8_0
          show Kept _ _
          show Kept _ _
          refine Kept.snd (by assumption) ?_
          split
          · split
            · show Kept _ _
              refine Kept.snd (by assumption) ?_
              with_reducible refine State_joinComp_kept ?_
              refine Kept.snd (by assumption) ?_
              with_reducible refine State_joinAll_kept ?_
              assumption
            · with_reducible refine State_openWin_kept ?_
              refine Kept.snd (by assumption) ?_
              with_reducible refine State_joinComp_kept ?_
              refine Kept.snd (by assumption) ?_
              with_reducible refine State_joinAll_kept ?_
              assumption
          · show Kept _ _
            refine Kept.snd (by assumption) ?_
            with_reducible refine State_joinComp_kept ?_
            refine Kept.snd (by assumption) ?_
            with_reducible refine State_joinAll_kept ?_
            assumption

theorem State_addRuns_kept {r s : State} {c l m ends rs o k} (h : Kept r s) : Kept r (State.addRuns s c l m ends rs o k).2.2 := by
  induction rs generalizing s o k with
  | nil => exact h
  | cons y ys ih =>
    unfold State.addRuns
    exact ih (State_addRun_kept h)

theorem State_settleComps_kept {r s : State} {a1 a2 a3 a4} (h : Kept r s) :
    Kept r (State.settleComps s a1 a2 a3 a4) := by
  unfold State.settleComps
  extract_lets l0_0 l0_1 l0_2 l0_3 l0_4 l0_5 l0_6
  clear_value l0_0
  clear_value l0_1
  clear_value l0_2
  clear_value l0_3
  have hl0_4 : Kept r l0_4 := by
    unfold l0_4
    with_reducible refine State_setLane_kept ?_
    assumption
  clear_value l0_4
  have hl0_5 : Kept r l0_5 := by
    unfold l0_5
    refine Kept.foldl (fun t1 x1 h1 => ?_) ?_
    · with_reducible refine State_closeComp_kept ?_
      assumption
    · assumption
  clear_value l0_5
  have hl0_6 : Kept r l0_6 := by
    unfold l0_6
    refine Kept.ite (fun _ => ?_) (fun _ => ?_)
    · assumption
    · with_reducible refine State_irqBit_kept ?_
      with_reducible refine State_satInc_kept ?_
      assumption
  clear_value l0_6
  with_reducible refine State_seamFlush_kept ?_
  assumption

theorem State_correctLines_kept {r s : State} {a1 a2 a3} (h : Kept r s) :
    Kept r (State.correctLines s a1 a2 a3) := by
  unfold State.correctLines
  with_reducible refine State_setCam_kept ?_
  assumption

theorem State_correctFor_kept {r s : State} {a1 a2 a3} (h : Kept r s) :
    Kept r (State.correctFor s a1 a2 a3) := by
  unfold State.correctFor
  extract_lets l0_0 l0_1 l0_2 l0_3 l0_4
  have hl0_3 : Kept r l0_3 := State_correctLines_kept h
  have hl0_4 : Kept r l0_4 := by
    unfold l0_4
    split
    · exact State_correctLines_kept hl0_3
    · exact hl0_3
  clear_value l0_3 l0_4
  split
  · exact State_correctLines_kept hl0_4
  · exact hl0_4

theorem State_laneLine_kept {r s : State} {a1 a2 a3} (h : Kept r s) :
    Kept r (State.laneLine s a1 a2 a3) := by
  unfold State.laneLine
  extract_lets l0_0 l0_1 l0_2 l0_3 l0_4
  have hl0_0 : Kept r l0_0 := by
    unfold l0_0
    with_reducible refine State_correctFor_kept ?_
    assumption
  clear_value l0_0
  clear_value l0_1
  clear_value l0_2
  clear_value l0_3
  clear_value l0_4
  split
  · extract_lets l2_0 l2_1 l2_2 l2_3
    clear_value l2_0
    have hl2_1 : Kept r l2_1 := by
      unfold l2_1
      with_reducible refine State_setLane_kept ?_
      refine Kept.trd (by assumption) ?_
      with_reducible refine State_addRuns_kept ?_
      assumption
    clear_value l2_1
    have hl2_2 : Kept r l2_2 := by
      unfold l2_2
      with_reducible refine State_setReg_kept ?_
      assumption
    clear_value l2_2
    have hl2_3 : Kept r l2_3 := by
      unfold l2_3
      with_reducible refine State_settleComps_kept ?_
      assumption
    clear_value l2_3
    refine Kept.foldl (fun t3 x3 h3 => ?_) ?_
    · with_reducible refine State_winRows_kept ?_
      assumption
    · assumption

theorem State_pruneLines_kept {r s : State} {a1} (h : Kept r s) :
    Kept r (State.pruneLines s a1) := by
  unfold State.pruneLines
  extract_lets l0_0 l0_1
  clear_value l0_0
  clear_value l0_1
  with_reducible refine State_setCam_kept ?_
  assumption

theorem State_laneComplete_kept {r s : State} {a1} (h : Kept r s) :
    Kept r (State.laneComplete s a1) := by
  unfold State.laneComplete
  split
  · assumption
  · refine Kept.ite (fun _ => ?_) (fun _ => ?_)
    · assumption
    · with_reducible refine State_pruneLines_kept ?_
      with_reducible refine State_laneLine_kept ?_
      assumption

theorem State_laneFlush_kept {r s : State} {c l n} (h : Kept r s) : Kept r (State.laneFlush s c l n) := by
  induction n generalizing s with
  | zero => exact h
  | succ n ih =>
    unfold State.laneFlush
    split
    · exact h
    · exact ih (State_laneLine_kept h)

theorem State_camFlush_kept {r s : State} {a1} (h : Kept r s) :
    Kept r (State.camFlush s a1) := by
  unfold State.camFlush
  extract_lets l0_0 l0_1 l0_2 l0_3
  clear_value l0_0
  clear_value l0_1
  have hl0_2 : Kept r l0_2 := by
    unfold l0_2
    refine Kept.foldl (fun t1 x1 h1 => ?_) ?_
    · with_reducible refine State_laneFlush_kept ?_
      assumption
    · assumption
  clear_value l0_2
  have hl0_3 : Kept r l0_3 := by
    unfold l0_3
    refine Kept.foldl (fun t1 x1 h1 => ?_) ?_
    · with_reducible refine State_settleComps_kept ?_
      assumption
    · assumption
  clear_value l0_3
  refine Kept.ite (fun _ => ?_) (fun _ => ?_)
  · assumption
  · with_reducible refine Kept.mk' ?_
    assumption

theorem State_camStart_kept {r s : State} {a1 a2} (h : Kept r s) :
    Kept r (State.camStart s a1 a2) := by
  unfold State.camStart
  extract_lets l0_0 l0_1
  have hl0_0 : Kept r l0_0 := by
    unfold l0_0
    refine Kept.foldl (fun t1 x1 h1 => ?_) ?_
    · with_reducible refine State_setLane_kept ?_
      assumption
    · assumption
  clear_value l0_0
  clear_value l0_1
  with_reducible refine State_setCam_kept ?_
  assumption

theorem State_winSkip_kept {r s : State} {a1 a2} (h : Kept r s) :
    Kept r (State.winSkip s a1 a2) := by
  unfold State.winSkip
  with_reducible refine Kept.mk' ?_
  assumption

theorem State_lineTake_kept {r s : State} {a1} (h : Kept r s) :
    Kept r (State.lineTake s a1) := by
  unfold State.lineTake
  extract_lets l0_0
  split
  · exact h
  · exact State_inReturn_kept (State_setIn_kept h)

theorem State_lineAccept_kept {r s : State} {a1} (h : Kept r s) :
    Kept r (State.lineAccept s a1) := by
  unfold State.lineAccept
  split
  · exact h
  · extract_lets took k n d num gap s1 s2 k2 s3
    have htook : Kept r took := State_lineTake_kept h
    clear_value took
    have hs1 : Kept r s1 := by
      unfold s1
      refine Kept.ite (fun _ => ?_) (fun _ => Kept.ite (fun _ => htook) (fun _ => State_camStart_kept htook))
      exact State_satInc_kept (State_winSkip_kept (State_camStart_kept (State_camFlush_kept htook)))
    clear_value s1
    have hs2 : Kept r s2 := by
      unfold s2
      exact Kept.ite (fun _ => State_irqBit_kept (State_satInc_kept hs1)) (fun _ => hs1)
    clear_value s2
    exact State_wrapInc_kept (State_setReg_kept (State_setCam_kept hs2))

theorem State_lineIntake_kept {r s : State} {a1} (h : Kept r s) :
    Kept r (State.lineIntake s a1) := by
  unfold State.lineIntake
  split
  · exact h
  · extract_lets n due mates
    clear_value n due mates
    refine Kept.ite (fun _ => Kept.ite (fun _ => State_lineTake_kept h) (fun _ => h)) (fun _ => ?_)
    refine Kept.ite (fun _ => State_irqBit_kept (State_satInc_kept (State_lineTake_kept h))) (fun _ => ?_)
    refine Kept.ite (fun _ => h) (fun _ => ?_)
    exact Kept.foldl (fun _ _ h1 => State_lineAccept_kept h1) h

theorem State_linkDrop_kept {r s : State} {a1} (h : Kept r s) :
    Kept r (State.linkDrop s a1) := by
  unfold State.linkDrop
  extract_lets l0_0
  clear_value l0_0
  with_reducible refine State_inReturn_kept ?_
  with_reducible refine State_setIn_kept ?_
  assumption

theorem State_camFinish_kept {r s : State} {a1} (h : Kept r s) :
    Kept r (State.camFinish s a1) := by
  unfold State.camFinish
  exact State_setCam_kept (State_winSkip_kept (State_camFlush_kept h))

theorem State_camBegin_kept {r s : State} {a1} (h : Kept r s) :
    Kept r (State.camBegin s a1) := by
  unfold State.camBegin
  extract_lets mine s0 s1
  have hs0 : Kept r s0 := Kept.foldl (fun _ _ h1 => State_camFinish_kept h1) h
  clear_value s0
  have hs1 : Kept r s1 := State_setCam_kept hs0
  clear_value s1
  exact Kept.foldl (fun _ _ h1 => State_setLane_kept h1) hs1

theorem State_drainDone_kept {r s : State} {a1} (h : Kept r s) :
    Kept r (State.drainDone s a1) := by
  unfold State.drainDone
  refine Kept.ite (fun _ => ?_) (fun _ => ?_)
  · assumption
  · extract_lets l1_0 l1_1 l1_2 l1_3
    have hl1_0 : Kept r l1_0 := State_camFinish_kept h
    clear_value l1_0 l1_1 l1_2 l1_3
    refine Kept.ite (fun _ => ?_) (fun _ => ?_)
    · assumption
    · with_reducible refine State_irqBit_kept ?_
      with_reducible refine State_setCam_kept ?_
      assumption

theorem State_shadowCopy_kept {r s : State} {a1} (h : Kept r s) :
    Kept r (State.shadowCopy s a1) := by
  unfold State.shadowCopy
  refine Kept.ite (fun _ => ?_) (fun _ => ?_)
  · with_reducible refine State_setLane_kept ?_
    assumption
  · assumption

theorem State_recordWrite_kept {r s : State} (h : Kept r s) :
    Kept r (State.recordWrite s) := by
  unfold State.recordWrite
  extract_lets l0_0 l0_1
  clear_value l0_0
  clear_value l0_1
  split
  · assumption
  · split
    · assumption
    · extract_lets l3_0 l3_1 l3_2 l3_3
      have hl3_0 : Kept r l3_0 := by
        unfold l3_0
        with_reducible refine Kept.mk' ?_
        assumption
      clear_value l3_0
      clear_value l3_1
      clear_value l3_2
      clear_value l3_3
      split
      · extract_lets l5_0
        clear_value l5_0
        split
        · split
          · refine Kept.snd (by assumption) ?_
            split
            · with_reducible refine State_openFor_kept ?_
              refine Kept.snd (by assumption) ?_
              with_reducible refine State_rmRoom_kept ?_
              assumption
            · show Kept _ _
              refine Kept.snd (by assumption) ?_
              with_reducible refine State_rmRoom_kept ?_
              assumption
          · with_reducible refine State_rmPut_kept ?_
            refine Kept.snd (by assumption) ?_
            split
            · with_reducible refine State_openFor_kept ?_
              refine Kept.snd (by assumption) ?_
              with_reducible refine State_rmRoom_kept ?_
              assumption
            · show Kept _ _
              refine Kept.snd (by assumption) ?_
              with_reducible refine State_rmRoom_kept ?_
              assumption

theorem effSurfG_kept {r s : State} {a0 a1 a2} (h : Kept r s) :
    Kept r (effSurfG a0 a1 a2 s) := by
  unfold effSurfG
  refine Kept.foldl (fun t0 x0 h0 => ?_) ?_
  · refine Kept.ite (fun _ => ?_) (fun _ => ?_)
    · with_reducible refine State_clearRegs_kept ?_
      assumption
    · refine Kept.ite (fun _ => ?_) (fun _ => ?_)
      · extract_lets l3_0 l3_1 l3_2
        clear_value l3_0
        clear_value l3_1
        clear_value l3_2
        refine Kept.ite (fun _ => ?_) (fun _ => ?_)
        · refine Kept.ite (fun _ => ?_) (fun _ => ?_)
          · with_reducible refine State_camBegin_kept ?_
            assumption
          · refine Kept.ite (fun _ => ?_) (fun _ => ?_)
            · with_reducible refine State_linkDrop_kept ?_
              with_reducible refine State_setCam_kept ?_
              assumption
            · assumption
        · refine Kept.ite (fun _ => ?_) (fun _ => ?_)
          · with_reducible refine State_clearRegs_kept ?_
            assumption
          · assumption
      · assumption
  · assumption

theorem State_ffAdvance_kept {r s : State} {a1} (h : Kept r s) :
    Kept r (State.ffAdvance s a1) := by
  unfold State.ffAdvance
  refine Kept.ite (fun _ => ?_) (fun _ => ?_)
  · with_reducible refine State_setRegF_kept ?_
    assumption
  · assumption

theorem effSurfL_kept {r s : State} {a0 a1 a2} (h : Kept r s) :
    Kept r (effSurfL a0 a1 a2 s) := by
  unfold effSurfL
  refine Kept.foldl (fun t0 x0 h0 => ?_) ?_
  · extract_lets l1_0 l1_1 l1_2 l1_3 l1_4
    clear_value l1_0
    clear_value l1_1
    have hl1_2 : Kept r l1_2 := by
      unfold l1_2
      with_reducible refine State_setReg_kept ?_
      assumption
    clear_value l1_2
    clear_value l1_3
    clear_value l1_4
    refine Kept.ite (fun _ => ?_) (fun _ => ?_)
    · with_reducible refine State_ffAdvance_kept ?_
      with_reducible refine Kept.mk' ?_
      assumption
    · refine Kept.ite (fun _ => ?_) (fun _ => ?_)
      · assumption
      · refine Kept.ite (fun _ => ?_) (fun _ => ?_)
        · with_reducible refine State_setLane_kept ?_
          assumption
        · refine Kept.ite (fun _ => ?_) (fun _ => ?_)
          · with_reducible refine State_setReg_kept ?_
            with_reducible refine State_setReg_kept ?_
            assumption
          · assumption
  · assumption

theorem State_egressSend_kept {r s : State} {a1 a2 a3 a4 a5 a6} (h : Kept r s) :
    Kept r (State.egressSend s a1 a2 a3 a4 a5 a6) := by
  unfold State.egressSend
  extract_lets l0_0 l0_1
  clear_value l0_0
  clear_value l0_1
  split
  · extract_lets l2_0 l2_1
    clear_value l2_0
    have hl2_1 : Kept r l2_1 := by
      unfold l2_1
      with_reducible refine State_setTx_kept ?_
      assumption
    clear_value l2_1
    with_reducible refine State_wrapInc_kept ?_
    with_reducible refine State_wrapInc_kept ?_
    assumption

theorem State_rollSend_kept {r s : State} {a1} (h : Kept r s) :
    Kept r (State.rollSend s a1) := by
  unfold State.rollSend
  extract_lets l0_0 l0_1 l0_2 l0_3
  clear_value l0_0
  clear_value l0_1
  clear_value l0_2
  clear_value l0_3
  refine Kept.ite (fun _ => ?_) (fun _ => ?_)
  · with_reducible refine State_wrapInc_kept ?_
    with_reducible refine State_egressSend_kept ?_
    assumption
  · assumption

theorem State_patchRowSend_kept {r s : State} {a1} (h : Kept r s) :
    Kept r (State.patchRowSend s a1) := by
  unfold State.patchRowSend
  extract_lets l0_0 l0_1 l0_2
  clear_value l0_0
  clear_value l0_1
  clear_value l0_2
  split
  · assumption
  · refine Kept.ite (fun _ => ?_) (fun _ => ?_)
    · extract_lets l3_0 l3_1 l3_2
      clear_value l3_0
      clear_value l3_1
      have hl3_2 : Kept r l3_2 := by
        unfold l3_2
        with_reducible refine State_egressSend_kept ?_
        assumption
      clear_value l3_2
      with_reducible refine Kept.mk' ?_
      assumption
    · assumption

theorem State_trailerSend_kept {r s : State} {a1} (h : Kept r s) :
    Kept r (State.trailerSend s a1) := by
  unfold State.trailerSend
  split
  · assumption
  · extract_lets l1_0 l1_1 l1_2 l1_3 l1_4
    clear_value l1_0
    clear_value l1_1
    clear_value l1_3
    clear_value l1_4
    split
    · assumption
    · refine Kept.ite (fun _ => ?_) (fun _ => ?_)
      · extract_lets l4_0 l4_1
        have hl4_0 : Kept r l4_0 := by
          unfold l4_0
          with_reducible refine State_egressSend_kept ?_
          assumption
        clear_value l4_0
        clear_value l4_1
        with_reducible refine Kept.mk' ?_
        assumption
      · assumption

theorem State_eventSend_kept {r s : State} {a1} (h : Kept r s) :
    Kept r (State.eventSend s a1) := by
  unfold State.eventSend
  extract_lets l0_0 l0_1 l0_2 l0_3 l0_4 l0_5
  clear_value l0_0
  clear_value l0_1
  clear_value l0_2
  have hl0_3 : Kept r l0_3 := by
    unfold l0_3
    with_reducible refine State_egressSend_kept ?_
    assumption
  clear_value l0_3
  clear_value l0_4
  clear_value l0_5
  refine Kept.ite (fun _ => ?_) (fun _ => ?_)
  · refine Kept.ite (fun _ => ?_) (fun _ => ?_)
    · with_reducible refine State_setTx_kept ?_
      assumption
    · with_reducible refine State_irqBit_kept ?_
      with_reducible refine State_setReg_kept ?_
      with_reducible refine State_egressSend_kept ?_
      assumption
  · assumption

theorem State_setTm_kept {r s : State} {a1} (h : Kept r s) :
    Kept r (State.setTm s a1) := by
  unfold State.setTm
  with_reducible refine Kept.mk' ?_
  assumption

theorem State_wr64_kept {r s : State} {a1 a2} (h : Kept r s) :
    Kept r (State.wr64 s a1 a2) := by
  unfold State.wr64
  with_reducible refine State_wr_kept ?_
  with_reducible refine State_wr_kept ?_
  assumption

theorem State_tmSend_kept {r s : State} {a1} (h : Kept r s) :
    Kept r (State.tmSend s a1) := by
  unfold State.tmSend
  refine Kept.ite (fun _ => ?_) (fun _ => ?_)
  · with_reducible refine State_setTm_kept ?_
    assumption
  · assumption

theorem State_audit_kept {r s : State} {a1 a2 a3 a4} (h : Kept r s) :
    Kept r (State.audit s a1 a2 a3 a4) := by
  unfold State.audit
  extract_lets l0_0 l0_1 l0_2 l0_3
  clear_value l0_0
  clear_value l0_1
  clear_value l0_2
  clear_value l0_3
  with_reducible refine State_tmSend_kept ?_
  with_reducible refine State_setTm_kept ?_
  assumption

theorem State_legalErr_kept {r s : State} {a1} (h : Kept r s) :
    Kept r (State.legalErr s a1) := by
  unfold State.legalErr
  refine Kept.ite (fun _ => ?_) (fun _ => ?_)
  · assumption
  · with_reducible refine State_audit_kept ?_
    with_reducible refine State_setTm_kept ?_
    assumption

theorem State_encErr_kept {r s : State} {a1} (h : Kept r s) :
    Kept r (State.encErr s a1) := by
  unfold State.encErr
  with_reducible refine State_legalErr_kept ?_
  with_reducible refine State_setTm_kept ?_
  assumption

theorem State_tmCommit_kept {r s : State} {a1} (h : Kept r s) :
    Kept r (State.tmCommit s a1) := by
  unfold State.tmCommit
  extract_lets l0_0 l0_1 l0_2
  clear_value l0_0
  clear_value l0_1
  clear_value l0_2
  with_reducible refine State_setTm_kept ?_
  assumption

theorem State_legalEdge_kept {r s : State} {a1 a2 a3 a4} (h : Kept r s) :
    Kept r (State.legalEdge s a1 a2 a3 a4) := by
  unfold State.legalEdge
  extract_lets l0_0 l0_1 l0_2 l0_3 l0_4 l0_5 l0_6 l0_7 l0_8 l0_9 l0_10 l0_11
  clear_value l0_0
  clear_value l0_1
  clear_value l0_4
  clear_value l0_5
  clear_value l0_6
  clear_value l0_7
  clear_value l0_8
  clear_value l0_9
  clear_value l0_10
  refine Kept.ite (fun _ => ?_) (fun _ => ?_)
  · assumption
  · refine Kept.ite (fun _ => ?_) (fun _ => ?_)
    · with_reducible refine State_encErr_kept ?_
      with_reducible refine State_setTm_kept ?_
      assumption
    · with_reducible refine State_setTm_kept ?_
      assumption

theorem State_zEdge_kept {r s : State} {a1} (h : Kept r s) :
    Kept r (State.zEdge s a1) := by
  unfold State.zEdge
  extract_lets l0_0 l0_1 l0_2 l0_3
  clear_value l0_0
  clear_value l0_1
  have hl0_2 : Kept r l0_2 := by
    unfold l0_2
    with_reducible refine State_setTm_kept ?_
    assumption
  clear_value l0_2
  clear_value l0_3
  refine Kept.ite (fun _ => ?_) (fun _ => ?_)
  · assumption
  · refine Kept.ite (fun _ => ?_) (fun _ => ?_)
    · with_reducible refine State_encErr_kept ?_
      assumption
    · assumption

theorem State_totalize_kept {r s : State} {a1} (h : Kept r s) :
    Kept r (State.totalize s a1) := by
  unfold State.totalize
  extract_lets l0_0 l0_1 l0_2 l0_3 l0_4 l0_5
  clear_value l0_0
  clear_value l0_1
  clear_value l0_2
  have hl0_3 : Kept r l0_3 := by
    unfold l0_3
    with_reducible refine State_setTm_kept ?_
    assumption
  clear_value l0_3
  clear_value l0_4
  clear_value l0_5
  refine Kept.ite (fun _ => ?_) (fun _ => ?_)
  · assumption
  · refine Kept.ite (fun _ => ?_) (fun _ => ?_)
    · with_reducible refine State_audit_kept ?_
      with_reducible refine State_setTm_kept ?_
      assumption
    · assumption

theorem State_slipWindow_kept {r s : State} (h : Kept r s) :
    Kept r (State.slipWindow s) := by
  unfold State.slipWindow
  extract_lets l0_0 l0_1 l0_2
  clear_value l0_0
  clear_value l0_1
  clear_value l0_2
  refine Kept.ite (fun _ => ?_) (fun _ => ?_)
  · with_reducible refine State_setTm_kept ?_
    assumption
  · split
    · with_reducible refine State_setTm_kept ?_
      assumption
    · extract_lets l3_0 l3_1 l3_2 l3_3 l3_4
      clear_value l3_0
      clear_value l3_1
      clear_value l3_2
      have hl3_4 : Kept r l3_4 := by
        unfold l3_4
        with_reducible refine State_setTm_kept ?_
        assumption
      clear_value l3_4
      refine Kept.ite (fun _ => ?_) (fun _ => ?_)
      · with_reducible refine State_setTm_kept ?_
        assumption
      · refine Kept.ite (fun _ => ?_) (fun _ => ?_)
        · with_reducible refine State_legalErr_kept ?_
          assumption
        · assumption

theorem State_boundary_kept {r s : State} {a1} (h : Kept r s) :
    Kept r (State.boundary s a1) := by
  unfold State.boundary
  extract_lets l0_0
  clear_value l0_0
  split
  · assumption
  · refine Kept.ite (fun _ => ?_) (fun _ => ?_)
    · assumption
    · extract_lets l3_0 l3_1 l3_2 l3_3
      clear_value l3_1
      clear_value l3_2
      clear_value l3_3
      with_reducible refine State_tmSend_kept ?_
      with_reducible refine State_setTm_kept ?_
      assumption

theorem State_tmStrobe_kept {r s : State} {a1} (h : Kept r s) :
    Kept r (State.tmStrobe s a1) := by
  unfold State.tmStrobe
  extract_lets l0_0 l0_1 l0_2 l0_3 l0_4 l0_5 l0_6 l0_7
  clear_value l0_0
  clear_value l0_1
  clear_value l0_2
  have hl0_3 : Kept r l0_3 := by
    unfold l0_3
    with_reducible refine State_totalize_kept ?_
    with_reducible refine State_setTm_kept ?_
    assumption
  clear_value l0_3
  clear_value l0_4
  have hl0_5 : Kept r l0_5 := by
    unfold l0_5
    with_reducible refine State_setTm_kept ?_
    assumption
  clear_value l0_5
  have hl0_6 : Kept r l0_6 := by
    unfold l0_6
    with_reducible refine State_boundary_kept ?_
    with_reducible refine State_slipWindow_kept ?_
    assumption
  clear_value l0_6
  clear_value l0_7
  with_reducible refine State_setTm_kept ?_
  assumption

theorem State_sampleGap_kept {r s : State} {a1} (h : Kept r s) :
    Kept r (State.sampleGap s a1) := by
  unfold State.sampleGap
  refine Kept.ite (fun _ => ?_) (fun _ => ?_)
  · assumption
  · with_reducible refine State_irqBit_kept ?_
    with_reducible refine State_satInc_kept ?_
    assumption

theorem State_strobe_kept {r s : State} (h : Kept r s) :
    Kept r (State.strobe s) := by
  unfold State.strobe
  extract_lets l0_0 l0_1 l0_2
  clear_value l0_0
  clear_value l0_1
  have hl0_2 : Kept r l0_2 := by
    unfold l0_2
    with_reducible refine State_setTm_kept ?_
    assumption
  clear_value l0_2
  refine Kept.ite (fun _ => ?_) (fun _ => ?_)
  · assumption
  · refine Kept.ite (fun _ => ?_) (fun _ => ?_)
    · with_reducible refine State_tmStrobe_kept ?_
      assumption
    · with_reducible refine State_sampleGap_kept ?_
      assumption

theorem State_propEval_kept {r s : State} {a1 a2} (h : Kept r s) (hf2 : ∀ x0 x1, Kept r x0 → Kept r (a2 x0 x1).2) :
    Kept r (State.propEval s a1 a2) := by
  unfold State.propEval
  split
  · assumption
  · refine Kept.ite (fun _ => h) (fun _ => ?_)
    extract_lets src s1 answer reason
    have hs1 : Kept r s1 := State_setTm_kept h
    have hanswer : ∀ t x v, Kept r t → Kept r (answer t x v) := by
      intro t x v ht
      unfold answer
      exact Kept.ite (fun _ => State_tmSend_kept ht) (fun _ => ht)
    clear_value s1 answer reason
    refine Kept.ite (fun _ => ?_) (fun _ => hanswer _ _ _ hs1)
    split
    refine hanswer _ _ _ ?_
    refine Kept.snd (by assumption) ?_
    exact hf2 _ _ hs1

theorem State_countEvent_kept {r s : State} (h : Kept r s) :
    Kept r (State.countEvent s) := by
  unfold State.countEvent
  with_reducible refine State_setTm_kept ?_
  assumption

theorem State_propParam_kept {r s : State} (h : Kept r s) :
    Kept r (State.propParam s) := by
  unfold State.propParam
  with_reducible refine State_propEval_kept ?_ ?_
  · assumption
  · intro z0_0 z0_1 z0_2
    extract_lets l1_0 l1_1 l1_2 l1_3 l1_4 l1_5
    clear_value l1_0
    have hl1_1 : Kept r l1_1 := by
      unfold l1_1
      with_reducible refine State_countEvent_kept ?_
      assumption
    clear_value l1_1
    clear_value l1_2
    clear_value l1_3
    have hl1_4 : Kept r l1_4 := by
      unfold l1_4
      with_reducible refine State_setTm_kept ?_
      assumption
    clear_value l1_4
    have hl1_5 : Kept r l1_5 := by
      unfold l1_5
      with_reducible refine State_tmCommit_kept ?_
      with_reducible refine State_audit_kept ?_
      assumption
    clear_value l1_5
    show Kept _ _
    assumption

theorem State_propSeal_kept {r s : State} (h : Kept r s) :
    Kept r (State.propSeal s) := by
  unfold State.propSeal
  with_reducible refine State_propEval_kept ?_ ?_
  · assumption
  · intro z0_0 z0_1 z0_2
    extract_lets l1_0 l1_1 l1_2 l1_3 l1_4
    have hl1_0 : Kept r l1_0 := by
      unfold l1_0
      with_reducible refine State_countEvent_kept ?_
      assumption
    clear_value l1_0
    clear_value l1_1
    clear_value l1_2
    have hl1_3 : Kept r l1_3 := by
      unfold l1_3
      with_reducible refine State_setTm_kept ?_
      assumption
    clear_value l1_3
    have hl1_4 : Kept r l1_4 := by
      unfold l1_4
      with_reducible refine State_tmCommit_kept ?_
      with_reducible refine State_audit_kept ?_
      assumption
    clear_value l1_4
    show Kept _ _
    assumption

theorem State_propRoll_kept {r s : State} (h : Kept r s) :
    Kept r (State.propRoll s) := by
  unfold State.propRoll
  with_reducible refine State_propEval_kept ?_ ?_
  · assumption
  · intro z0_0 z0_1 z0_2
    show Kept _ _
    with_reducible refine State_tmCommit_kept ?_
    with_reducible refine State_setTm_kept ?_
    assumption

theorem State_propVerify_kept {r s : State} (h : Kept r s) :
    Kept r (State.propVerify s) := by
  unfold State.propVerify
  with_reducible refine State_propEval_kept ?_ ?_
  · assumption
  · intro z0_0 z0_1 z0_2
    extract_lets l1_0 l1_1 l1_2
    clear_value l1_0
    clear_value l1_1
    clear_value l1_2
    show Kept _ _
    assumption

theorem State_bypassChange_kept {r s : State} {a1} (h : Kept r s) :
    Kept r (State.bypassChange s a1) := by
  unfold State.bypassChange
  refine Kept.ite (fun _ => ?_) (fun _ => ?_)
  · assumption
  · with_reducible refine State_audit_kept ?_
    with_reducible refine State_setTm_kept ?_
    assumption

theorem State_ticketIssue_kept {r s : State} (h : Kept r s) :
    Kept r (State.ticketIssue s) := by
  unfold State.ticketIssue
  extract_lets l0_0 l0_1
  clear_value l0_0
  clear_value l0_1
  split
  · assumption
  · refine Kept.ite (fun _ => ?_) (fun _ => ?_)
    · assumption
    · extract_lets l3_0 l3_1 l3_2
      clear_value l3_0
      have hl3_1 : Kept r l3_1 := by
        unfold l3_1
        with_reducible refine State_setTm_kept ?_
        assumption
      clear_value l3_1
      have hl3_2 : Kept r l3_2 := by
        unfold l3_2
        with_reducible refine State_tmCommit_kept ?_
        with_reducible refine State_tmSend_kept ?_
        assumption
      clear_value l3_2
      refine Kept.ite (fun _ => ?_) (fun _ => ?_)
      · with_reducible refine State_legalErr_kept ?_
        assumption
      · refine Kept.ite (fun _ => ?_) (fun _ => ?_)
        · with_reducible refine State_legalErr_kept ?_
          assumption
        · assumption

theorem State_tmHoldup_kept {r s : State} (h : Kept r s) :
    Kept r (State.tmHoldup s) := by
  unfold State.tmHoldup
  with_reducible refine State_setTm_kept ?_
  assumption

theorem State_restCommit_kept {r s : State} (h : Kept r s) :
    Kept r (State.restCommit s) := by
  unfold State.restCommit
  extract_lets l0_0 l0_1
  clear_value l0_0
  clear_value l0_1
  refine Kept.ite (fun _ => ?_) (fun _ => ?_)
  · with_reducible refine State_setTm_kept ?_
    with_reducible refine State_tmCommit_kept ?_
    assumption
  · assumption

theorem State_finalCommit_kept {r s : State} (h : Kept r s) :
    Kept r (State.finalCommit s) := by
  unfold State.finalCommit
  refine Kept.ite (fun _ => ?_) (fun _ => ?_)
  · with_reducible refine State_setTm_kept ?_
    with_reducible refine State_tmCommit_kept ?_
    assumption
  · assumption

theorem State_checkpoint_kept {r s : State} (h : Kept r s) :
    Kept r (State.checkpoint s) := by
  unfold State.checkpoint
  refine Kept.ite (fun _ => ?_) (fun _ => ?_)
  · with_reducible refine State_tmCommit_kept ?_
    assumption
  · assumption

theorem State_tmBoot_kept {r s : State} {a1 a2} (h : Kept r s) :
    Kept r (State.tmBoot s a1 a2) := by
  unfold State.tmBoot
  refine Kept.ite (fun _ => ?_) (fun _ => ?_)
  · assumption
  · extract_lets l1_0 l1_1 l1_2 l1_3 l1_4 l1_5 l1_6 l1_7 l1_8 l1_9 l1_10 l1_11 l1_12 l1_13
    clear_value l1_0
    clear_value l1_1
    have hl1_2 : ∀ y0, Kept r y0 → Kept r (l1_2 y0) := by
      intro y1_0 hy1
      unfold l1_2
      with_reducible refine State_setRegF_kept ?_
      assumption
    clear_value l1_2
    clear_value l1_3
    clear_value l1_4
    have hl1_5 : Kept r l1_5 := by
      unfold l1_5
      with_reducible refine State_audit_kept ?_
      refine hl1_2 _ ?_
      with_reducible refine State_setTm_kept ?_
      with_reducible refine State_draw_kept ?_
      assumption
    clear_value l1_5
    clear_value l1_6
    clear_value l1_7
    clear_value l1_8
    clear_value l1_9
    clear_value l1_10
    have hl1_11 : Kept r l1_11 := by
      unfold l1_11
      with_reducible refine State_audit_kept ?_
      refine hl1_2 _ ?_
      with_reducible refine State_setTm_kept ?_
      assumption
    clear_value l1_11
    have hl1_12 : Kept r l1_12 := by
      unfold l1_12
      refine Kept.ite (fun _ => ?_) (fun _ => ?_)
      · with_reducible refine State_legalErr_kept ?_
        assumption
      · assumption
    clear_value l1_12
    have hl1_13 : Kept r l1_13 := by
      unfold l1_13
      refine Kept.ite (fun _ => ?_) (fun _ => ?_)
      · with_reducible refine State_legalErr_kept ?_
        assumption
      · assumption
    clear_value l1_13
    refine Kept.ite (fun _ => ?_) (fun _ => ?_)
    · refine Kept.ite (fun _ => ?_) (fun _ => ?_)
      · assumption
      · with_reducible refine State_legalErr_kept ?_
        assumption
    · refine Kept.ite (fun _ => ?_) (fun _ => ?_)
      · assumption
      · with_reducible refine State_legalErr_kept ?_
        assumption

theorem State_tmStop_kept {r s : State} {a1} (h : Kept r s) :
    Kept r (State.tmStop s a1) := by
  unfold State.tmStop
  with_reducible refine State_setRegF_kept ?_
  with_reducible refine State_setTm_kept ?_
  assumption

theorem State_tmWatchdog_kept {r s : State} (h : Kept r s) :
    Kept r (State.tmWatchdog s) := by
  unfold State.tmWatchdog
  refine Kept.ite (fun _ => ?_) (fun _ => ?_)
  · with_reducible refine State_tmStop_kept ?_
    assumption
  · assumption

theorem State_tmClock_kept {r s : State} {a1} (h : Kept r s) :
    Kept r (State.tmClock s a1) := by
  unfold State.tmClock
  refine Kept.ite (fun _ => ?_) (fun _ => ?_)
  · assumption
  · extract_lets l1_0 l1_1
    clear_value l1_0
    have hl1_1 : Kept r l1_1 := by
      unfold l1_1
      with_reducible refine State_setTm_kept ?_
      assumption
    clear_value l1_1
    refine Kept.ite (fun _ => ?_) (fun _ => ?_)
    · with_reducible refine State_legalErr_kept ?_
      assumption
    · assumption

theorem State_mirrorCheck_kept {r s : State} (h : Kept r s) :
    Kept r (State.mirrorCheck s) := by
  unfold State.mirrorCheck
  extract_lets l0_0 l0_1
  clear_value l0_0
  clear_value l0_1
  refine Kept.ite (fun _ => ?_) (fun _ => ?_)
  · with_reducible refine State_setRegF_kept ?_
    assumption
  · assumption

theorem State_storeBytes_kept {r s : State} {a1 a2} (h : Kept r s) :
    Kept r (State.storeBytes s a1 a2) := by
  unfold State.storeBytes
  refine Kept.foldl (fun t0 x0 h0 => ?_) ?_
  · with_reducible refine State_wr_kept ?_
    assumption
  · assumption

theorem State_mirrorStale_kept {r s : State} {a1} (h : Kept r s) :
    Kept r (State.mirrorStale s a1) := by
  unfold State.mirrorStale
  extract_lets l0_0 l0_1 l0_2 l0_3 l0_4
  clear_value l0_0
  clear_value l0_1
  clear_value l0_2
  have hl0_3 : Kept r l0_3 := by
    unfold l0_3
    refine Kept.foldl (fun t1 x1 h1 => ?_) ?_
    · with_reducible refine State_clearRegs_kept ?_
      assumption
    · assumption
  clear_value l0_3
  clear_value l0_4
  with_reducible refine State_setTm_kept ?_
  assumption

theorem State_linkUp_kept {r s : State} (h : Kept r s) :
    Kept r (State.linkUp s) := by
  unfold State.linkUp
  refine Kept.ite (fun _ => ?_) (fun _ => ?_)
  · assumption
  · with_reducible refine State_mirrorCheck_kept ?_
    with_reducible refine State_wr_kept ?_
    with_reducible refine State_mirrorStale_kept ?_
    with_reducible refine State_setRegF_kept ?_
    assumption

theorem State_linkDown_kept {r s : State} (h : Kept r s) :
    Kept r (State.linkDown s) := by
  unfold State.linkDown
  refine Kept.ite (fun _ => ?_) (fun _ => ?_)
  · assumption
  · extract_lets l1_0 l1_1 l1_2
    have hl1_0 : Kept r l1_0 := by
      unfold l1_0
      with_reducible refine State_raiseFault_kept ?_
      with_reducible refine State_irqBit_kept ?_
      with_reducible refine State_setRegF_kept ?_
      assumption
    clear_value l1_0
    clear_value l1_1
    have hl1_2 : Kept r l1_2 := by
      unfold l1_2
      with_reducible refine State_setTm_kept ?_
      with_reducible refine State_sampleGap_kept ?_
      assumption
    clear_value l1_2
    refine Kept.ite (fun _ => ?_) (fun _ => ?_)
    · with_reducible refine State_wr_kept ?_
      assumption
    · assumption

theorem State_tmDiscard_kept {r s : State} (h : Kept r s) :
    Kept r (State.tmDiscard s) := by
  unfold State.tmDiscard
  with_reducible refine State_raiseFault_kept ?_
  with_reducible refine State_satInc_kept ?_
  assumption

theorem State_sampleArrive_kept {r s : State} {a1} (h : Kept r s) :
    Kept r (State.sampleArrive s a1) := by
  unfold State.sampleArrive
  split
  · assumption
  · extract_lets l1_0 l1_1 l1_2 l1_3 l1_4 l1_5
    clear_value l1_0
    have hl1_1 : Kept r l1_1 := by
      unfold l1_1
      with_reducible refine State_setTm_kept ?_
      assumption
    clear_value l1_1
    clear_value l1_2
    have hl1_3 : Kept r l1_3 := by
      unfold l1_3
      with_reducible refine State_setSrc_kept ?_
      assumption
    clear_value l1_3
    have hl1_4 : Kept r l1_4 := by
      unfold l1_4
      with_reducible refine State_wr64_kept ?_
      with_reducible refine State_wr_kept ?_
      with_reducible refine State_wr_kept ?_
      with_reducible refine State_wr64_kept ?_
      assumption
    clear_value l1_4
    have hl1_5 : Kept r l1_5 := by
      unfold l1_5
      with_reducible refine State_wr_kept ?_
      assumption
    clear_value l1_5
    refine Kept.ite (fun _ => ?_) (fun _ => ?_)
    · with_reducible refine State_sampleGap_kept ?_
      with_reducible refine State_tmDiscard_kept ?_
      assumption
    · refine Kept.ite (fun _ => ?_) (fun _ => ?_)
      · with_reducible refine State_irqBit_kept ?_
        assumption
      · assumption

theorem State_statusArrive_kept {r s : State} {a1} (h : Kept r s) :
    Kept r (State.statusArrive s a1) := by
  unfold State.statusArrive
  refine Kept.ite (fun _ => ?_) (fun _ => ?_)
  · assumption
  · refine Kept.ite (fun _ => ?_) (fun _ => ?_)
    · with_reducible refine State_tmDiscard_kept ?_
      assumption
    · extract_lets l2_0 l2_1 l2_2 l2_3 l2_4 l2_5 l2_6 l2_7 l2_8 l2_9
      clear_value l2_0
      clear_value l2_1
      clear_value l2_2
      clear_value l2_3
      have hl2_5 : Kept r l2_5 := by
        unfold l2_5
        with_reducible refine State_wr_kept ?_
        with_reducible refine State_wr64_kept ?_
        with_reducible refine State_wr64_kept ?_
        assumption
      clear_value l2_5
      have hl2_6 : Kept r l2_6 := by
        unfold l2_6
        with_reducible refine State_wr_kept ?_
        with_reducible refine State_wr_kept ?_
        with_reducible refine State_wr_kept ?_
        assumption
      clear_value l2_6
      have hl2_7 : Kept r l2_7 := by
        unfold l2_7
        with_reducible refine State_wr64_kept ?_
        with_reducible refine State_wr64_kept ?_
        assumption
      clear_value l2_7
      have hl2_8 : Kept r l2_8 := by
        unfold l2_8
        refine Kept.foldl (fun t3 x3 h3 => ?_) ?_
        · with_reducible refine State_wr_kept ?_
          assumption
        · assumption
      clear_value l2_8
      have hl2_9 : Kept r l2_9 := by
        unfold l2_9
        with_reducible refine State_wr_kept ?_
        with_reducible refine State_wr_kept ?_
        with_reducible refine State_wr_kept ?_
        assumption
      clear_value l2_9
      refine Kept.ite (fun _ => ?_) (fun _ => ?_)
      · with_reducible refine State_irqBit_kept ?_
        assumption
      · assumption

theorem State_takeXfer_kept {r s : State} {a1 a2 a3} (h : Kept r s) (hf3 : ∀ x0 x1, Kept r x0 → Kept r (a3 x0 x1)) :
    Kept r (State.takeXfer s a1 a2 a3) := by
  unfold State.takeXfer
  split
  · assumption
  · extract_lets l1_0 l1_1
    clear_value l1_0
    have hl1_1 : Kept r l1_1 := by
      unfold l1_1
      with_reducible refine State_setTm_kept ?_
      assumption
    clear_value l1_1
    refine Kept.ite (fun _ => ?_) (fun _ => ?_)
    · refine hf3 _ _ ?_
      assumption
    · with_reducible refine State_tmDiscard_kept ?_
      assumption

theorem State_ticketArrive_kept {r s : State} {a1} (h : Kept r s) :
    Kept r (State.ticketArrive s a1) := by
  unfold State.ticketArrive
  with_reducible refine State_takeXfer_kept ?_ ?_
  · assumption
  · intro z0_0 z0_1 z0_2
    split
    · split
      · extract_lets l3_0 l3_1
        have hl3_0 : Kept r l3_0 := by
          unfold l3_0
          with_reducible refine State_storeBytes_kept ?_
          assumption
        clear_value l3_0
        clear_value l3_1
        with_reducible refine State_mirrorCheck_kept ?_
        with_reducible refine State_irqBit_kept ?_
        with_reducible refine State_setTm_kept ?_
        assumption
      · assumption
    · assumption

theorem State_auditArrive_kept {r s : State} {a1} (h : Kept r s) :
    Kept r (State.auditArrive s a1) := by
  unfold State.auditArrive
  with_reducible refine State_takeXfer_kept ?_ ?_
  · assumption
  · intro z0_0 z0_1 z0_2
    split
    · split
      · extract_lets l3_0 l3_1
        have hl3_0 : Kept r l3_0 := by
          unfold l3_0
          with_reducible refine State_storeBytes_kept ?_
          assumption
        clear_value l3_0
        clear_value l3_1
        with_reducible refine State_mirrorCheck_kept ?_
        with_reducible refine State_irqBit_kept ?_
        with_reducible refine State_setTm_kept ?_
        assumption
      · assumption
    · assumption

theorem State_goneArrive_kept {r s : State} {a1} (h : Kept r s) :
    Kept r (State.goneArrive s a1) := by
  unfold State.goneArrive
  with_reducible refine State_takeXfer_kept ?_ ?_
  · assumption
  · intro z0_0 z0_1 z0_2
    split
    · extract_lets l2_0 l2_1
      clear_value l2_0
      have hl2_1 : Kept r l2_1 := by
        unfold l2_1
        refine Kept.ite (fun _ => ?_) (fun _ => ?_)
        · with_reducible refine State_setTm_kept ?_
          assumption
        · with_reducible refine State_setTm_kept ?_
          assumption
      clear_value l2_1
      with_reducible refine State_mirrorCheck_kept ?_
      with_reducible refine State_satInc_kept ?_
      assumption
    · assumption

theorem State_propArrive_kept {r s : State} {a1} (h : Kept r s) :
    Kept r (State.propArrive s a1) := by
  unfold State.propArrive
  with_reducible refine State_takeXfer_kept ?_ ?_
  · assumption
  · intro z0_0 z0_1 z0_2
    split
    · extract_lets l2_0
      clear_value l2_0
      with_reducible refine State_irqBit_kept ?_
      with_reducible refine State_wr_kept ?_
      with_reducible refine State_wr_kept ?_
      assumption
    · assumption

end Sys2Proof.Machine
end

