-- ==== Sys2Proof/Laws/KeptE.lean ====
section
/-! SUPPORT. One lemma per operation of the block, from State.readReq to State.dmaTransaction: it keeps the canonical form of
memory and the queue (Kept). -/
set_option Elab.async false
namespace Sys2Proof.Machine

theorem State_readReq_kept {r s : State} {a1 a2 a3} (h : Kept r s) :
    Kept r (State.readReq s a1 a2 a3) := by
  unfold State.readReq
  refine Kept.ite (fun _ => ?_) (fun _ => ?_)
  · assumption
  · extract_lets l1_0 l1_1 l1_2 l1_3
    clear_value l1_0
    clear_value l1_1
    clear_value l1_2
    clear_value l1_3
    with_reducible refine State_setTm_kept ?_
    assumption

theorem State_rollEventArrive_kept {r s : State} {a1} (h : Kept r s) :
    Kept r (State.rollEventArrive s a1) := by
  unfold State.rollEventArrive
  with_reducible refine State_takeXfer_kept ?_ ?_
  · assumption
  · intro z0_0 z0_1 z0_2
    split
    · extract_lets l2_0 l2_1 l2_2 l2_3
      have hl2_0 : Kept r l2_0 := by
        unfold l2_0
        with_reducible refine State_irqBit_kept ?_
        assumption
      clear_value l2_0
      clear_value l2_1
      clear_value l2_2
      clear_value l2_3
      refine Kept.ite (fun _ => ?_) (fun _ => ?_)
      · assumption
      · split
        · split
          · extract_lets l6_0
            clear_value l6_0
            split
            · refine Kept.snd (by assumption) ?_
              with_reducible refine State_openFor_kept ?_
              refine Kept.snd (by assumption) ?_
              with_reducible refine State_rmRoom_kept ?_
              assumption
            · with_reducible refine State_rmPut_kept ?_
              refine Kept.snd (by assumption) ?_
              with_reducible refine State_openFor_kept ?_
              refine Kept.snd (by assumption) ?_
              with_reducible refine State_rmRoom_kept ?_
              assumption
    · assumption

theorem State_propSubmit_kept {r s : State} (h : Kept r s) :
    Kept r (State.propSubmit s) := by
  unfold State.propSubmit
  extract_lets l0_0 l0_1 l0_2 l0_3
  clear_value l0_0
  clear_value l0_1
  clear_value l0_2
  clear_value l0_3
  refine Kept.ite (fun _ => ?_) (fun _ => ?_)
  · with_reducible refine State_setTm_kept ?_
    with_reducible refine State_wr_kept ?_
    assumption
  · with_reducible refine State_wr_kept ?_
    assumption

theorem State_propStore_kept {r s : State} {a1} (h : Kept r s) :
    Kept r (State.propStore s a1) := by
  unfold State.propStore
  refine Kept.foldl (fun t0 x0 h0 => ?_) ?_
  · refine Kept.ite (fun _ => ?_) (fun _ => ?_)
    · refine Kept.ite (fun _ => ?_) (fun _ => ?_)
      · with_reducible refine State_propSubmit_kept ?_
        assumption
      · assumption
    · with_reducible refine State_wr_kept ?_
      assumption
  · assumption

theorem State_propErr_kept {r s : State} {a1 a2 a3} (h : Kept r s) :
    Kept r (State.propErr s a1 a2 a3) := by
  unfold State.propErr
  extract_lets l0_0
  clear_value l0_0
  refine Kept.ite (fun _ => ?_) (fun _ => ?_)
  · with_reducible refine State_setReg_kept ?_
    assumption
  · with_reducible refine State_setReg_kept ?_
    assumption

theorem effTml_kept {r s : State} {a0} (h : Kept r s) :
    Kept r (effTml a0 s) := by
  unfold effTml
  extract_lets l0_0 l0_1
  have hl0_0 : Kept r l0_0 := by
    unfold l0_0
    refine Kept.ite (fun _ => ?_) (fun _ => ?_)
    · with_reducible refine State_setReg_kept ?_
      with_reducible refine State_setReg_kept ?_
      with_reducible refine State_setReg_kept ?_
      assumption
    · assumption
  clear_value l0_0
  have hl0_1 : Kept r l0_1 := by
    unfold l0_1
    refine Kept.ite (fun _ => ?_) (fun _ => ?_)
    · with_reducible refine State_setReg_kept ?_
      assumption
    · assumption
  clear_value l0_1
  refine Kept.ite (fun _ => ?_) (fun _ => ?_)
  · with_reducible refine State_mirrorStale_kept ?_
    with_reducible refine State_setRegF_kept ?_
    assumption
  · assumption

theorem State_setBurst_kept {r s : State} {a1 a2} (h : Kept r s) :
    Kept r (State.setBurst s a1 a2) := by
  unfold State.setBurst
  with_reducible refine Kept.mk' ?_
  assumption

theorem State_dmaEnd_kept {r s : State} {a1 a2 a3 a4} (h : Kept r s) :
    Kept r (State.dmaEnd s a1 a2 a3 a4) := by
  unfold State.dmaEnd
  extract_lets l0_0
  have hl0_0 : Kept r l0_0 := by
    unfold l0_0
    with_reducible refine State_setReg_kept ?_
    with_reducible refine State_setRegF_kept ?_
    with_reducible refine State_setRegF_kept ?_
    assumption
  clear_value l0_0
  with_reducible refine State_irqBit_kept ?_
  with_reducible refine State_setRegF_kept ?_
  with_reducible refine State_setBurst_kept ?_
  assumption

theorem State_dmaBegin_kept {r s : State} {a1} (h : Kept r s) :
    Kept r (State.dmaBegin s a1) := by
  unfold State.dmaBegin
  with_reducible refine State_setBurst_kept ?_
  assumption

theorem State_dmaRequest_kept {r s : State} {a1} (h : Kept r s) :
    Kept r (State.dmaRequest s a1) := by
  unfold State.dmaRequest
  split
  · refine Kept.ite (fun _ => ?_) (fun _ => ?_)
    · refine State_routeTake_kept (by assumption) ?_
      assumption
    · refine Kept.ite (fun _ => ?_) (fun _ => ?_)
      · with_reducible refine State_dmaBegin_kept ?_
        refine State_routeTake_kept (by assumption) ?_
        assumption
      · refine Kept.ite (fun _ => ?_) (fun _ => ?_)
        · with_reducible refine State_dmaDrop_kept ?_
          refine State_routeTake_kept (by assumption) ?_
          assumption
        · with_reducible refine State_setRegF_kept ?_
          refine State_routeTake_kept (by assumption) ?_
          assumption
  · assumption

theorem State_dmaStart_kept {r s : State} {a1} (h : Kept r s) :
    Kept r (State.dmaStart s a1) := by
  unfold State.dmaStart
  with_reducible refine State_setReg_kept ?_
  with_reducible refine State_setReg_kept ?_
  with_reducible refine State_setReg_kept ?_
  assumption

theorem effDma_kept {r s : State} {a0 a1} (h : Kept r s) :
    Kept r (effDma a0 a1 s) := by
  unfold effDma
  refine Kept.foldl (fun t0 x0 h0 => ?_) ?_
  · split
    · refine Kept.ite (fun _ => ?_) (fun _ => ?_)
      · extract_lets l3_0
        have hl3_0 : Kept r l3_0 := by
          unfold l3_0
          refine Kept.ite (fun _ => ?_) (fun _ => ?_)
          · with_reducible refine State_dmaStart_kept ?_
            assumption
          · assumption
        clear_value l3_0
        refine Kept.ite (fun _ => ?_) (fun _ => ?_)
        · with_reducible refine State_dmaEnd_kept ?_
          assumption
        · assumption
      · assumption
  · assumption

theorem State_setWdog_kept {r s : State} {a1 a2} (h : Kept r s) :
    Kept r (State.setWdog s a1 a2) := by
  unfold State.setWdog
  with_reducible refine Kept.mk' ?_
  assumption

theorem State_wdtTrip_kept {r s : State} {a1 a2} (h : Kept r s) :
    Kept r (State.wdtTrip s a1 a2) := by
  unfold State.wdtTrip
  extract_lets l0_0 l0_1
  clear_value l0_0
  have hl0_1 : Kept r l0_1 := by
    unfold l0_1
    with_reducible refine State_setWdog_kept ?_
    assumption
  clear_value l0_1
  with_reducible refine State_raiseFault_kept ?_
  assumption

theorem State_wdtOpens_kept {r s : State} {a1} (h : Kept r s) :
    Kept r (State.wdtOpens s a1) := by
  unfold State.wdtOpens
  refine Kept.ite (fun _ => ?_) (fun _ => ?_)
  · with_reducible refine State_irqBit_kept ?_
    with_reducible refine State_setWdog_kept ?_
    assumption
  · assumption

theorem State_wdtExpires_kept {r s : State} {a1} (h : Kept r s) :
    Kept r (State.wdtExpires s a1) := by
  unfold State.wdtExpires
  refine Kept.ite (fun _ => ?_) (fun _ => ?_)
  · with_reducible refine State_wdtTrip_kept ?_
    assumption
  · assumption

theorem State_wdtRejected_kept {r s : State} {a1 a2} (h : Kept r s) :
    Kept r (State.wdtRejected s a1 a2) := by
  unfold State.wdtRejected
  refine Kept.ite (fun _ => ?_) (fun _ => ?_)
  · with_reducible refine State_wdtTrip_kept ?_
    with_reducible refine State_setRegF_kept ?_
    assumption
  · assumption

theorem effWdt_kept {r s : State} {a0 a1} (h : Kept r s) :
    Kept r (effWdt a0 a1 s) := by
  unfold effWdt
  extract_lets l0_0 l0_1 l0_2 l0_3 l0_4 l0_5
  clear_value l0_0
  have hl0_1 : Kept r l0_1 := by
    unfold l0_1
    refine Kept.ite (fun _ => ?_) (fun _ => ?_)
    · with_reducible refine State_setRegF_kept ?_
      with_reducible refine State_setWdog_kept ?_
      assumption
    · assumption
  clear_value l0_1
  have hl0_2 : Kept r l0_2 := by
    unfold l0_2
    refine Kept.ite (fun _ => ?_) (fun _ => ?_)
    · refine Kept.ite (fun _ => ?_) (fun _ => ?_)
      · with_reducible refine State_setWdog_kept ?_
        with_reducible refine State_setReg_kept ?_
        with_reducible refine State_setReg_kept ?_
        with_reducible refine State_setRegF_kept ?_
        assumption
      · with_reducible refine State_setRegF_kept ?_
        assumption
    · assumption
  clear_value l0_2
  clear_value l0_3
  clear_value l0_4
  have hl0_5 : Kept r l0_5 := by
    unfold l0_5
    with_reducible refine State_setReg_kept ?_
    assumption
  clear_value l0_5
  refine Kept.ite (fun _ => ?_) (fun _ => ?_)
  · refine Kept.ite (fun _ => ?_) (fun _ => ?_)
    · refine Kept.ite (fun _ => ?_) (fun _ => ?_)
      · with_reducible refine State_irqBit_kept ?_
        assumption
      · assumption
    · with_reducible refine State_setReg_kept ?_
      assumption
  · assumption

theorem State_setCv_kept {r s : State} {a1 a2} (h : Kept r s) :
    Kept r (State.setCv s a1 a2) := by
  unfold State.setCv
  with_reducible refine Kept.mk' ?_
  assumption

theorem State_cvStart_kept {r s : State} {a1} (h : Kept r s) :
    Kept r (State.cvStart s a1) := by
  unfold State.cvStart
  split
  · refine Kept.ite (fun _ => ?_) (fun _ => ?_)
    · refine State_routeTake_kept (by assumption) ?_
      assumption
    · refine Kept.ite (fun _ => ?_) (fun _ => ?_)
      · with_reducible refine State_cvDropStart_kept ?_
        refine State_routeTake_kept (by assumption) ?_
        assumption
      · with_reducible refine State_setCv_kept ?_
        refine State_routeTake_kept (by assumption) ?_
        assumption
  · assumption

theorem State_cvResult_kept {r s : State} {a1 a2 a3 a4} (h : Kept r s) :
    Kept r (State.cvResult s a1 a2 a3 a4) := by
  unfold State.cvResult
  split
  · refine Kept.ite (fun _ => ?_) (fun _ => ?_)
    · assumption
    · extract_lets l2_0 l2_1 l2_2
      clear_value l2_0
      clear_value l2_1
      split
      · extract_lets l4_0 l4_1 l4_2 l4_3 l4_4 l4_5
        clear_value l4_0
        clear_value l4_1
        clear_value l4_2
        clear_value l4_3
        have hl4_4 : Kept r l4_4 := by
          unfold l4_4
          with_reducible refine State_irqBit_kept ?_
          with_reducible refine State_setRegF_kept ?_
          with_reducible refine State_setCv_kept ?_
          with_reducible refine State_draw_kept ?_
          assumption
        clear_value l4_4
        have hl4_5 : Kept r l4_5 := by
          unfold l4_5
          refine Kept.ite (fun _ => ?_) (fun _ => ?_)
          · with_reducible refine State_irqBit_kept ?_
            with_reducible refine State_satIncF_kept ?_
            assumption
          · assumption
        clear_value l4_5
        refine Kept.ite (fun _ => ?_) (fun _ => ?_)
        · with_reducible refine State_routePush_kept ?_
          assumption
        · assumption
  · assumption

theorem State_cvFault_kept {r s : State} {a1 a2} (h : Kept r s) :
    Kept r (State.cvFault s a1 a2) := by
  unfold State.cvFault
  extract_lets l0_0 l0_1 l0_2
  have hl0_1 : Kept r l0_1 := by
    unfold l0_1
    refine Kept.ite (fun _ => ?_) (fun _ => ?_)
    · with_reducible refine State_setRegF_kept ?_
      assumption
    · assumption
  clear_value l0_1
  have hl0_2 : Kept r l0_2 := by
    unfold l0_2
    refine Kept.ite (fun _ => ?_) (fun _ => ?_)
    · with_reducible refine State_setRegF_kept ?_
      assumption
    · assumption
  clear_value l0_2
  refine Kept.ite (fun _ => ?_) (fun _ => ?_)
  · with_reducible refine State_irqBit_kept ?_
    with_reducible refine State_raiseFault_kept ?_
    assumption
  · assumption

theorem State_cvPop_kept {r s : State} {a1} (h : Kept r s) :
    Kept r (State.cvPop s a1).2 := by
  unfold State.cvPop
  split
  · show Kept _ _
    with_reducible refine State_setCv_kept ?_
    assumption
  · show Kept _ _
    assumption

theorem effCv_kept {r s : State} {a0 a1} (h : Kept r s) :
    Kept r (effCv a0 a1 s) := by
  unfold effCv
  refine Kept.ite (fun _ => ?_) (fun _ => ?_)
  · extract_lets l1_0 l1_1
    have hl1_0 : Kept r l1_0 := by
      unfold l1_0
      refine Kept.ite (fun _ => ?_) (fun _ => ?_)
      · with_reducible refine State_setReg_kept ?_
        assumption
      · assumption
    clear_value l1_0
    clear_value l1_1
    refine Kept.ite (fun _ => ?_) (fun _ => ?_)
    · with_reducible refine State_setCv_kept ?_
      assumption
    · assumption
  · assumption

theorem State_cvEnable_kept {r s : State} {a1 a2} (h : Kept r s) :
    Kept r (State.cvEnable s a1 a2) := by
  unfold State.cvEnable
  extract_lets l0_0
  clear_value l0_0
  refine Kept.ite (fun _ => ?_) (fun _ => ?_)
  · with_reducible refine State_setRegF_kept ?_
    with_reducible refine State_setRegF_kept ?_
    with_reducible refine State_setCv_kept ?_
    assumption
  · with_reducible refine State_setCv_kept ?_
    assumption

theorem State_putCap_kept {r s : State} {a1 a2} (h : Kept r s) :
    Kept r (State.putCap s a1 a2) := by
  unfold State.putCap
  extract_lets l0_0
  have hl0_0 : Kept r l0_0 := by
    unfold l0_0
    with_reducible refine State_writeMem_kept ?_
    assumption
  clear_value l0_0
  refine Kept.ite (fun _ => ?_) (fun _ => ?_)
  · with_reducible refine Kept.mk' ?_
    assumption
  · assumption

theorem State_pinsReset_kept {r s : State} {a1} (h : Kept r s) :
    Kept r (State.pinsReset s a1) := by
  unfold State.pinsReset
  extract_lets l0_0
  have hl0_0 : Kept r l0_0 := by
    unfold l0_0
    with_reducible refine Kept.mk' ?_
    assumption
  clear_value l0_0
  with_reducible refine Kept.mk' ?_
  assumption

theorem State_innerReset_kept {r s : State} {a1} (h : Kept r s) :
    Kept r (State.innerReset s a1) := by
  unfold State.innerReset
  split
  · with_reducible refine Kept.mk' ?_
    assumption
  · with_reducible refine Kept.mk' ?_
    assumption
  · with_reducible refine State_pinsReset_kept ?_
    assumption
  · with_reducible refine Kept.mk' ?_
    assumption
  · with_reducible refine Kept.mk' ?_
    assumption
  · with_reducible refine Kept.mk' ?_
    assumption
  · with_reducible refine Kept.mk' ?_
    assumption
  · with_reducible refine Kept.mk' ?_
    assumption
  · extract_lets l1_0
    clear_value l1_0
    with_reducible refine Kept.mk' ?_
    assumption
  · with_reducible refine Kept.mk' ?_
    assumption
  · with_reducible refine Kept.mk' ?_
    assumption
  · with_reducible refine Kept.mk' ?_
    assumption
  · with_reducible refine Kept.mk' ?_
    assumption
  · with_reducible refine State_swReset_kept ?_
    assumption
  · with_reducible refine Kept.mk' ?_
    assumption
  · with_reducible refine Kept.mk' ?_
    assumption
  · with_reducible refine Kept.mk' ?_
    assumption
  · with_reducible refine Kept.mk' ?_
    assumption
  · with_reducible refine Kept.mk' ?_
    assumption
  · with_reducible refine Kept.mk' ?_
    assumption
  · with_reducible refine State_setBw_kept ?_
    assumption
  · assumption

theorem State_blockReset_kept {r s : State} {a1} (h : Kept r s) :
    Kept r (State.blockReset s a1) := by
  unfold State.blockReset
  refine Kept.ite (fun _ => ?_) (fun _ => ?_)
  · assumption
  · extract_lets l1_0
    have hl1_0 : Kept r l1_0 := by
      unfold l1_0
      split
      · with_reducible refine Kept.mk' ?_
        assumption
      · with_reducible refine State_clearRegs_kept ?_
        assumption
      · with_reducible refine State_clearRegs_kept ?_
        assumption
      · with_reducible refine State_clearRegs_kept ?_
        assumption
    clear_value l1_0
    with_reducible refine State_innerReset_kept ?_
    assumption

theorem State_softReset_kept {r s : State} {a1} (h : Kept r s) :
    Kept r (State.softReset s a1) := by
  unfold State.softReset
  extract_lets l0_0 l0_1 l0_2
  have hl0_0 : Kept r l0_0 := by
    unfold l0_0
    split
    · refine Kept.ite (fun _ => ?_) (fun _ => ?_)
      · with_reducible refine State_setRegF_kept ?_
        assumption
      · assumption
    · assumption
  clear_value l0_0
  have hl0_1 : Kept r l0_1 := by
    unfold l0_1
    with_reducible refine State_setReg_kept ?_
    with_reducible refine State_blockReset_kept ?_
    assumption
  clear_value l0_1
  clear_value l0_2
  with_reducible refine Kept.mk' ?_
  assumption

theorem State_softDone_kept {r s : State} {a1} (h : Kept r s) :
    Kept r (State.softDone s a1) := by
  unfold State.softDone
  with_reducible refine Kept.mk' ?_
  assumption

theorem State_pageReset_kept {r s : State} {a1} (h : Kept r s) :
    Kept r (State.pageReset s a1) := by
  unfold State.pageReset
  extract_lets l0_0 l0_1
  have hl0_0 : Kept r l0_0 := by
    unfold l0_0
    with_reducible refine State_clearRegs_kept ?_
    with_reducible refine State_blockReset_kept ?_
    assumption
  clear_value l0_0
  clear_value l0_1
  with_reducible refine Kept.mk' ?_
  assumption

theorem State_domFollow_kept {r s : State} {k} (h : Kept r s) : Kept r (State.domFollow s k) := by
  unfold State.domFollow
  dsimp only
  repeat' first | exact h | exact State_setDomain_kept h | split

theorem State_powerFollow_kept {r s : State} (h : Kept r s) :
    Kept r (State.powerFollow s) := by
  unfold State.powerFollow
  extract_lets l0_0
  have hl0_0 : Kept r l0_0 := by
    unfold l0_0
    refine Kept.foldl (fun t1 x1 h1 => ?_) ?_
    · with_reducible refine State_domFollow_kept ?_
      assumption
    · assumption
  clear_value l0_0
  split
  · refine Kept.ite (fun _ => ?_) (fun _ => ?_)
    · assumption
    · with_reducible refine Kept.mk' ?_
      assumption
  · refine Kept.ite (fun _ => ?_) (fun _ => ?_)
    · with_reducible refine Kept.mk' ?_
      assumption
    · assumption
  · assumption

theorem State_requestsChanged_kept {r s : State} {a1} (h : Kept r s) :
    Kept r (State.requestsChanged s a1) := by
  unfold State.requestsChanged
  with_reducible refine State_powerFollow_kept ?_
  refine Kept.foldl (fun t1 x1 h1 => ?_) ?_
  · with_reducible refine State_domFollow_kept ?_
    assumption
  · assumption

theorem State_domStarted_kept {r s : State} {a1} (h : Kept r s) :
    Kept r (State.domStarted s a1) := by
  unfold State.domStarted
  split
  · extract_lets l1_0
    have hl1_0 : Kept r l1_0 := by
      unfold l1_0
      with_reducible refine State_setDomain_kept ?_
      assumption
    clear_value l1_0
    refine Kept.ite (fun _ => ?_) (fun _ => ?_)
    · refine Kept.foldl (fun t3 x3 h3 => ?_) ?_
      · with_reducible refine State_swReset_kept ?_
        assumption
      · assumption
    · assumption
  · assumption

theorem State_pageLost_kept {r s : State} {a1 a2} (h : Kept r s) :
    Kept r (State.pageLost s a1 a2) := by
  unfold State.pageLost
  extract_lets l0_0 l0_1 l0_2 l0_3 l0_4 l0_5 l0_6
  clear_value l0_1
  have hl0_2 : Kept r l0_2 := by
    unfold l0_2
    with_reducible refine Kept.mk' ?_
    assumption
  clear_value l0_2
  clear_value l0_3
  have hl0_4 : Kept r l0_4 := by
    unfold l0_4
    with_reducible refine State_clearRegs_kept ?_
    assumption
  clear_value l0_4
  clear_value l0_5
  clear_value l0_6
  refine Kept.ite (fun _ => ?_) (fun _ => ?_)
  · split
    · refine Kept.foldl (fun t3 x3 h3 => ?_) ?_
      · with_reducible refine Kept.mk' ?_
        assumption
      · assumption
    · with_reducible refine Kept.mk' ?_
      assumption
    · assumption
  · with_reducible refine State_setReg_kept ?_
    with_reducible refine State_pageReset_kept ?_
    assumption

theorem State_domLost_kept {r s : State} {a1} (h : Kept r s) :
    Kept r (State.domLost s a1) := by
  unfold State.domLost
  refine Kept.ite (fun _ => ?_) (fun _ => ?_)
  · assumption
  · extract_lets l1_0 l1_1
    have hl1_0 : Kept r l1_0 := by
      unfold l1_0
      refine Kept.foldl (fun t2 x2 h2 => ?_) ?_
      · with_reducible refine State_pageLost_kept ?_
        assumption
      · assumption
    clear_value l1_0
    clear_value l1_1
    refine Kept.ite (fun _ => ?_) (fun _ => ?_)
    · with_reducible refine State_clearMem_kept ?_
      assumption
    · refine Kept.ite (fun _ => ?_) (fun _ => ?_)
      · with_reducible refine Kept.mk' ?_
        assumption
      · refine Kept.ite (fun _ => ?_) (fun _ => ?_)
        · with_reducible refine State_clearMem_kept ?_
          assumption
        · assumption

theorem State_domDown_kept {r s : State} {a1} (h : Kept r s) :
    Kept r (State.domDown s a1) := by
  unfold State.domDown
  split
  · with_reducible refine State_setDomain_kept ?_
    with_reducible refine State_domLost_kept ?_
    assumption
  · assumption

theorem State_svSettle_kept {r s : State} (h : Kept r s) :
    Kept r (State.svSettle s) := by
  unfold State.svSettle
  with_reducible refine Kept.mk' ?_
  assumption

theorem State_powerChanged_kept {r s : State} (h : Kept r s) :
    Kept r (State.powerChanged s) := by
  unfold State.powerChanged
  split
  · with_reducible refine State_powerFollow_kept ?_
    with_reducible refine State_irqBit_kept ?_
    extract_lets l3_0
    have hl3_0 : Kept r l3_0 := by
      unfold l3_0
      with_reducible refine State_svSettle_kept ?_
      assumption
    clear_value l3_0
    with_reducible refine Kept.mk' ?_
    assumption
  · assumption

theorem State_gensReset_kept {r s : State} (h : Kept r s) :
    Kept r (State.gensReset s) := by
  unfold State.gensReset
  extract_lets l0_0
  have hl0_0 : Kept r l0_0 := by
    unfold l0_0
    with_reducible refine State_clearRegs_kept ?_
    assumption
  clear_value l0_0
  with_reducible refine Kept.mk' ?_
  assumption

theorem State_computeReset_kept {r s : State} (h : Kept r s) : Kept r (State.computeReset s) := by
  unfold State.computeReset
  exact Kept.mem' h filter_wf

theorem State_appReset_kept {r s : State} {a1} (h : Kept r s) :
    Kept r (State.appReset s a1) := by
  unfold State.appReset
  extract_lets l0_0 l0_1 l0_2 l0_3 l0_4
  have hl0_0 : Kept r l0_0 := by
    unfold l0_0
    with_reducible refine State_clearRegs_kept ?_
    with_reducible refine State_gensReset_kept ?_
    with_reducible refine State_computeReset_kept ?_
    assumption
  clear_value l0_0
  have hl0_1 : Kept r l0_1 := by
    unfold l0_1
    with_reducible refine State_setReg_kept ?_
    with_reducible refine State_setReg_kept ?_
    assumption
  clear_value l0_1
  clear_value l0_2
  have hl0_3 : Kept r l0_3 := by
    unfold l0_3
    with_reducible refine State_setBw_kept ?_
    assumption
  clear_value l0_3
  clear_value l0_4
  with_reducible refine Kept.mk' ?_
  assumption

theorem State_resetCause_kept {r s : State} {a1 a2} (h : Kept r s) :
    Kept r (State.resetCause s a1 a2) := by
  unfold State.resetCause
  extract_lets l0_0
  have hl0_0 : Kept r l0_0 := by
    unfold l0_0
    with_reducible refine State_setReg_kept ?_
    assumption
  clear_value l0_0
  refine Kept.ite (fun _ => ?_) (fun _ => ?_)
  · with_reducible refine State_satIncF_kept ?_
    assumption
  · refine Kept.ite (fun _ => ?_) (fun _ => ?_)
    · with_reducible refine State_satIncF_kept ?_
      assumption
    · assumption

theorem State_fullReset_kept {r s : State} {now} (h : Kept r s) : Kept r (State.fullReset s now s.flash) := by
  unfold State.fullReset
  exact ⟨fun x => filter_wf (h.mem x), h.queue⟩

theorem State_portsFollow_kept {r s : State} (h : Kept r s) :
    Kept r (State.portsFollow s) := by
  unfold State.portsFollow
  split
  · assumption
  · extract_lets l1_0 l1_1 l1_2 l1_3 l1_4 l1_5 l1_6 l1_7 l1_8
    clear_value l1_0
    have hl1_1 : Kept r l1_1 := by
      unfold l1_1
      refine Kept.ite (fun _ => ?_) (fun _ => ?_)
      · refine Kept.foldl (fun t3 x3 h3 => ?_) ?_
        · refine Kept.ite (fun _ => ?_) (fun _ => ?_)
          · with_reducible refine State_requestsChanged_kept ?_
            with_reducible refine State_pageReset_kept ?_
            assumption
          · assumption
        · assumption
      · assumption
    clear_value l1_1
    clear_value l1_2
    have hl1_3 : Kept r l1_3 := by
      unfold l1_3
      refine Kept.foldl (fun t2 x2 h2 => ?_) ?_
      · extract_lets l3_0 l3_1
        clear_value l3_0
        have hl3_1 : Kept r l3_1 := by
          unfold l3_1
          with_reducible refine Kept.mk' ?_
          assumption
        clear_value l3_1
        with_reducible refine Kept.mk' ?_
        assumption
      · assumption
    clear_value l1_3
    clear_value l1_4
    clear_value l1_5
    clear_value l1_6
    have hl1_7 : Kept r l1_7 := by
      unfold l1_7
      refine Kept.foldl (fun t2 x2 h2 => ?_) ?_
      · with_reducible refine State_requestsChanged_kept ?_
        with_reducible refine State_pageReset_kept ?_
        assumption
      · assumption
    clear_value l1_7
    clear_value l1_8
    with_reducible refine Kept.mk' ?_
    assumption

theorem State_idle_kept {r s : State} (h : Kept r s) :
    Kept r (State.idle s) := by
  unfold State.idle
  refine Kept.ite (fun _ => ?_) (fun _ => ?_)
  · with_reducible refine State_portsFollow_kept ?_
    with_reducible refine State_tick_kept ?_
    assumption
  · assumption

theorem State_dormantEntered_kept {r s : State} (h : Kept r s) :
    Kept r (State.dormantEntered s) := by
  unfold State.dormantEntered
  split
  · extract_lets l1_0 l1_1 l1_2 l1_3 l1_4 l1_5 l1_6 l1_7
    clear_value l1_0
    clear_value l1_1
    clear_value l1_2
    clear_value l1_3
    clear_value l1_4
    have hl1_5 : Kept r l1_5 := by
      unfold l1_5
      with_reducible refine State_fullReset_kept ?_
      assumption
    clear_value l1_5
    clear_value l1_6
    clear_value l1_7
    with_reducible refine Kept.mk' ?_
    assumption
  · assumption

theorem effPwr_kept {r s : State} {a0} (h : Kept r s) :
    Kept r (effPwr a0 s) := by
  unfold effPwr
  extract_lets l0_0 l0_1
  have hl0_0 : Kept r l0_0 := by
    unfold l0_0
    refine Kept.ite (fun _ => ?_) (fun _ => ?_)
    · with_reducible refine State_powerFollow_kept ?_
      assumption
    · assumption
  clear_value l0_0
  have hl0_1 : Kept r l0_1 := by
    unfold l0_1
    with_reducible refine State_setReg_kept ?_
    assumption
  clear_value l0_1
  refine Kept.ite (fun _ => ?_) (fun _ => ?_)
  · refine Kept.ite (fun _ => ?_) (fun _ => ?_)
    · with_reducible refine Kept.mk' ?_
      assumption
    · assumption
  · assumption

theorem effBist_kept {r s : State} {a0} (h : Kept r s) :
    Kept r (effBist a0 s) := by
  unfold effBist
  refine Kept.ite (fun _ => ?_) (fun _ => ?_)
  · extract_lets l1_0 l1_1
    clear_value l1_0
    have hl1_1 : Kept r l1_1 := by
      unfold l1_1
      with_reducible refine State_setReg_kept ?_
      assumption
    clear_value l1_1
    refine Kept.ite (fun _ => ?_) (fun _ => ?_)
    · with_reducible refine State_domLost_kept ?_
      assumption
    · assumption
  · assumption

theorem effLc_kept {r s : State} {a0} (h : Kept r s) :
    Kept r (effLc a0 s) := by
  unfold effLc
  refine Kept.ite (fun _ => ?_) (fun _ => ?_)
  · with_reducible refine Kept.mk' ?_
    assumption
  · assumption

theorem effSboot_kept {r s : State} {a0} (h : Kept r s) :
    Kept r (effSboot a0 s) := by
  unfold effSboot
  extract_lets l0_0 l0_1 l0_2
  clear_value l0_0
  have hl0_1 : Kept r l0_1 := by
    unfold l0_1
    refine Kept.ite (fun _ => ?_) (fun _ => ?_)
    · with_reducible refine Kept.mk' ?_
      assumption
    · assumption
  clear_value l0_1
  clear_value l0_2
  refine Kept.ite (fun _ => ?_) (fun _ => ?_)
  · with_reducible refine Kept.mk' ?_
    assumption
  · assumption

theorem effHrp_kept {r s : State} {a0} (h : Kept r s) :
    Kept r (effHrp a0 s) := by
  unfold effHrp
  refine Kept.ite (fun _ => ?_) (fun _ => ?_)
  · with_reducible refine State_setReg_kept ?_
    with_reducible refine State_setReg_kept ?_
    assumption
  · assumption

theorem State_pageEff_kept {r s s0 : State} {w} (h : Kept r s) (h0 : Kept r s0) : Kept r (State.pageEff s0 w s) := by
  unfold State.pageEff
  generalize w.p = p
  cases p with
  | pwr => exact effPwr_kept h
  | tml => exact effTml_kept h
  | bwCtl => exact effBwCtl_kept h
  | bwFc => exact effBwFc_kept h
  | slk => exact effSlk_kept h
  | lks => exact effLks_kept h
  | tb => exact effTb_kept h
  | tqf => exact effTqf_kept h
  | tqs => exact effTqs_kept h
  | tio k => exact effTio_kept h
  | tioc => exact effTioc_kept h
  | t1sc => exact effT1sc_kept h
  | t1s q => exact effT1s_kept h
  | tsn n => exact effTsn_kept h
  | trk => exact effTrk_kept h h0
  | rmap => exact effRmap_kept h
  | surfG g => exact effSurfG_kept h
  | surfL g => exact effSurfL_kept h
  | ghIn q => exact effGhIn_kept h
  | ghOut p => exact effGhOut_kept h
  | ghInL i => exact effGhInL_kept h
  | ghOutL => exact effGhOutL_kept h
  | swell e => exact effSwell_kept h
  | tmr k => exact effTmr_kept h
  | tmx => exact effTmx_kept h
  | wdt n => exact effWdt_kept h
  | swdt => exact effWdt_kept h
  | cv c => exact effCv_kept h
  | guard _ => exact effGuard_kept h
  | guardS _ => exact effGuard_kept h
  | bistC => exact effBist_kept h
  | lc => exact effLc_kept h
  | sboot => exact effSboot_kept h
  | hrp => exact effHrp_kept h
  | dma k => exact effDma_kept h
  | icc => exact effIcc_kept h
  | sys => exact h
  | clk => exact h
  | lee => exact h
  | bwMap => exact h
  | bwMon => exact h
  | ebb => exact h
  | bistR => exact h
  | rep => exact h
  | fuse => exact h
  | dmac => exact h
  | icl => exact h
  | icp => exact h

theorem State_setKeys_kept {r s : State} {a1 a2} (h : Kept r s) :
    Kept r (State.setKeys s a1 a2) := by
  unfold State.setKeys
  with_reducible refine Kept.mk' ?_
  assumption

theorem State_headerWord_kept {r s : State} {a1 a2} (h : Kept r s) :
    Kept r (State.headerWord s a1 a2) := by
  unfold State.headerWord
  extract_lets l0_0 l0_1 l0_2 l0_3 l0_4
  clear_value l0_0
  clear_value l0_1
  clear_value l0_2
  have hl0_3 : Kept r l0_3 := by
    unfold l0_3
    with_reducible refine State_requestsChanged_kept ?_
    with_reducible refine State_setReg_kept ?_
    assumption
  clear_value l0_3
  have hl0_4 : Kept r l0_4 := by
    unfold l0_4
    refine Kept.ite (fun _ => ?_) (fun _ => ?_)
    · with_reducible refine State_powerFollow_kept ?_
      with_reducible refine State_softReset_kept ?_
      assumption
    · assumption
  clear_value l0_4
  refine Kept.ite (fun _ => ?_) (fun _ => ?_)
  · split
    · refine Kept.ite (fun _ => ?_) (fun _ => ?_)
      · with_reducible refine State_cvEnable_kept ?_
        assumption
      · assumption
    · assumption
  · refine Kept.ite (fun _ => ?_) (fun _ => ?_)
    · refine Kept.ite (fun _ => ?_) (fun _ => ?_)
      · with_reducible refine State_setReg_kept ?_
        assumption
      · assumption
    · refine Kept.ite (fun _ => ?_) (fun _ => ?_)
      · refine Kept.ite (fun _ => ?_) (fun _ => ?_)
        · with_reducible refine State_setReg_kept ?_
          assumption
        · assumption
      · refine Kept.ite (fun _ => ?_) (fun _ => ?_)
        · with_reducible refine State_setReg_kept ?_
          assumption
        · refine Kept.ite (fun _ => ?_) (fun _ => ?_)
          · with_reducible refine State_setReg_kept ?_
            assumption
          · refine Kept.ite (fun _ => ?_) (fun _ => ?_)
            · refine Kept.ite (fun _ => ?_) (fun _ => ?_)
              · with_reducible refine State_setReg_kept ?_
                assumption
              · assumption
            · with_reducible refine State_setReg_kept ?_
              assumption

theorem State_spend_kept {r s : State} {a1} (h : Kept r s) :
    Kept r (State.spend s a1) := by
  unfold State.spend
  extract_lets l0_0
  clear_value l0_0
  refine Kept.foldl (fun t1 x1 h1 => ?_) ?_
  · with_reducible refine Kept.mk' ?_
    assumption
  · assumption

theorem State_pageApply_kept {r s : State} {a1} (h : Kept r s) :
    Kept r (State.pageApply s a1) := by
  unfold State.pageApply
  extract_lets l0_0
  have hl0_0 : Kept r l0_0 := by
    unfold l0_0
    refine Kept.ite (fun _ => ?_) (fun _ => ?_)
    · with_reducible refine State_pageEff_kept ?_ ?_
      · with_reducible refine State_store_kept ?_
        assumption
      · assumption
    · refine Kept.foldl (fun t2 x2 h2 => ?_) ?_
      · with_reducible refine State_headerWord_kept ?_
        assumption
      · assumption
  clear_value l0_0
  with_reducible refine State_spend_kept ?_
  assumption

theorem State_pageErr_kept {r s : State} {a1 a2 a3 a4} (h : Kept r s) :
    Kept r (State.pageErr s a1 a2 a3 a4) := by
  unfold State.pageErr
  extract_lets l0_0 l0_1 l0_2 l0_3
  clear_value l0_0
  clear_value l0_1
  clear_value l0_2
  have hl0_3 : Kept r l0_3 := by
    unfold l0_3
    with_reducible refine State_setReg_kept ?_
    assumption
  clear_value l0_3
  with_reducible refine Kept.mk' ?_
  assumption

theorem State_pageRejected_kept {r s : State} {a1} (h : Kept r s) :
    Kept r (State.pageRejected s a1) := by
  unfold State.pageRejected
  split
  · with_reducible refine State_wdtRejected_kept ?_
    assumption
  · with_reducible refine State_wdtRejected_kept ?_
    assumption
  · with_reducible refine State_planKeyed_kept ?_
    assumption
  · assumption

theorem State_pageWrite_kept {r s : State} {a1} (h : Kept r s) :
    Kept r (State.pageWrite s a1).2 := by
  unfold State.pageWrite
  extract_lets l0_0 l0_1 l0_2 l0_3
  clear_value l0_0
  clear_value l0_1
  have hl0_2 : Kept r l0_2 := by
    unfold l0_2
    with_reducible refine State_pageApply_kept ?_
    assumption
  clear_value l0_2
  have hl0_3 : Kept r l0_3 := by
    unfold l0_3
    refine Kept.ite (fun _ => ?_) (fun _ => ?_)
    · with_reducible refine State_planKeyed_kept ?_
      assumption
    · assumption
  clear_value l0_3
  split
  · show Kept _ _
    with_reducible refine State_setKeys_kept ?_
    assumption
  · show Kept _ _
    with_reducible refine State_setKeys_kept ?_
    with_reducible refine State_pageErr_kept ?_
    with_reducible refine State_pageRejected_kept ?_
    assumption

theorem State_setLatch_kept {r s : State} {a1 a2 a3} (h : Kept r s) :
    Kept r (State.setLatch s a1 a2 a3) := by
  unfold State.setLatch
  extract_lets l0_0 l0_1
  clear_value l0_0
  clear_value l0_1
  with_reducible refine Kept.mk' ?_
  assumption

theorem State_latchRead_kept {r s : State} {a1 a2 a3 a4 a5 a6} (h : Kept r s) :
    Kept r (State.latchRead s a1 a2 a3 a4 a5 a6).2 := by
  unfold State.latchRead
  split
  · show Kept _ _
    with_reducible refine State_setLatch_kept ?_
    assumption
  · split
    · show Kept _ _
      refine Kept.ite (fun _ => ?_) (fun _ => ?_)
      · with_reducible refine State_setLatch_kept ?_
        assumption
      · assumption
    · show Kept _ _
      with_reducible refine State_setLatch_kept ?_
      assumption

theorem State_capPop_kept {r s : State} {a1} (h : Kept r s) :
    Kept r (State.capPop s a1).2 := by
  unfold State.capPop
  extract_lets l0_0
  clear_value l0_0
  split
  · show Kept _ _
    assumption
  · show Kept _ _
    with_reducible refine State_setBank_kept ?_
    assumption

theorem State_pageReadWord_kept {r s : State} {a1 a2 a3} (h : Kept r s) :
    Kept r (State.pageReadWord s a1 a2 a3).2 := by
  unfold State.pageReadWord
  extract_lets l0_0 l0_1 l0_2 l0_3 l0_4 l0_5
  clear_value l0_0
  clear_value l0_1
  clear_value l0_2
  clear_value l0_3
  clear_value l0_4
  clear_value l0_5
  split
  · with_reducible refine State_latchRead_kept ?_
    assumption
  · split
    · split
      · split
        · with_reducible refine State_latchRead_kept ?_
          refine Kept.snd (by assumption) ?_
          with_reducible refine State_capPop_kept ?_
          assumption
      · split
        · with_reducible refine State_latchRead_kept ?_
          assumption
        · with_reducible refine State_latchRead_kept ?_
          assumption
    · split
      · split
        · with_reducible refine State_latchRead_kept ?_
          refine Kept.snd (by assumption) ?_
          with_reducible refine State_cvPop_kept ?_
          assumption
      · with_reducible refine State_latchRead_kept ?_
        assumption
    · extract_lets l3_0
      clear_value l3_0
      split
      · with_reducible refine State_latchRead_kept ?_
        assumption
      · split
        · split
          · extract_lets l7_0 l7_1
            clear_value l7_0
            clear_value l7_1
            show Kept _ _
            with_reducible refine State_setTimer_kept ?_
            refine Kept.snd (by assumption) ?_
            with_reducible refine State_latchRead_kept ?_
            assumption
        · with_reducible refine State_latchRead_kept ?_
          assumption
    · split
      · show Kept _ _
        refine Kept.ite (fun _ => ?_) (fun _ => ?_)
        · with_reducible refine State_ffAdvance_kept ?_
          refine Kept.snd (by assumption) ?_
          with_reducible refine State_latchRead_kept ?_
          assumption
        · refine Kept.snd (by assumption) ?_
          with_reducible refine State_latchRead_kept ?_
          assumption
    · with_reducible refine State_latchRead_kept ?_
      assumption

theorem State_arbitrate_kept {r s : State} {a1 a2 a3} (h : Kept r s) :
    Kept r (State.arbitrate s a1 a2 a3) := by
  unfold State.arbitrate
  extract_lets l0_0 l0_1
  clear_value l0_0
  clear_value l0_1
  with_reducible refine Kept.mk' ?_
  assumption

theorem State_answer_kept {r s : State} {a1 a2 a3} (h : Kept r s) :
    Kept r (State.answer s a1 a2 a3) := by
  unfold State.answer
  with_reducible refine Kept.mk' ?_
  assumption

theorem State_e2eFail_kept {r s : State} {a1} (h : Kept r s) :
    Kept r (State.e2eFail s a1) := by
  unfold State.e2eFail
  split
  · with_reducible refine State_raiseFault_kept ?_
    refine Kept.ite (fun _ => ?_) (fun _ => ?_)
    · with_reducible refine State_satIncF_kept ?_
      assumption
    · assumption
  · with_reducible refine State_raiseFault_kept ?_
    assumption

theorem State_reportWrite_kept {r s : State} {a1 a2 a3 a4} (h : Kept r s) :
    Kept r (State.reportWrite s a1 a2 a3 a4) := by
  unfold State.reportWrite
  split
  · refine Kept.ite (fun _ => ?_) (fun _ => ?_)
    · with_reducible refine State_pageErr_kept ?_
      assumption
    · assumption
  · with_reducible refine State_qtErr_kept ?_
    assumption
  · with_reducible refine State_trkErr_kept ?_
    assumption
  · with_reducible refine State_propErr_kept ?_
    assumption
  · assumption

theorem State_qtabWrite_kept {r s : State} {a1 a2 a3 a4} (h : Kept r s) :
    Kept r (State.qtabWrite s a1 a2 a3 a4).2 := by
  unfold State.qtabWrite
  extract_lets l0_0 l0_1 l0_2 l0_3 l0_4 l0_5
  clear_value l0_0
  clear_value l0_1
  clear_value l0_2
  clear_value l0_3
  have hl0_4 : Kept r l0_4 := by
    unfold l0_4
    refine Kept.foldl (fun t1 x1 h1 => ?_) ?_
    · with_reducible refine State_qtabStore_kept ?_
      assumption
    · assumption
  clear_value l0_4
  have hl0_5 : ∀ y0 y1, Kept r y0 → Kept r (l0_5 y0 y1) := by
    intro y0_0 y0_1 hy0
    unfold l0_5
    refine Kept.ite (fun _ => ?_) (fun _ => ?_)
    · with_reducible refine State_safeRefresh_kept ?_
      assumption
    · assumption
  clear_value l0_5
  split
  · show Kept _ _
    refine Kept.ite (fun _ => ?_) (fun _ => ?_)
    · refine hl0_5 _ _ ?_
      refine hl0_5 _ _ ?_
      assumption
    · assumption
  · show Kept _ _
    with_reducible refine State_qtErr_kept ?_
    assumption

theorem State_trkWrite_kept {r s : State} {a1 a2 a3 a4} (h : Kept r s) :
    Kept r (State.trkWrite s a1 a2 a3 a4).2 := by
  unfold State.trkWrite
  extract_lets l0_0 l0_1
  clear_value l0_0
  clear_value l0_1
  split
  · show Kept _ _
    with_reducible refine State_trkRegionStore_kept ?_
    assumption
  · show Kept _ _
    with_reducible refine State_trkErr_kept ?_
    assumption

theorem State_propWrite_kept {r s : State} {a1 a2 a3 a4} (h : Kept r s) :
    Kept r (State.propWrite s a1 a2 a3 a4).2 := by
  unfold State.propWrite
  extract_lets l0_0 l0_1
  clear_value l0_0
  clear_value l0_1
  split
  · show Kept _ _
    with_reducible refine State_propStore_kept ?_
    assumption
  · show Kept _ _
    with_reducible refine State_propErr_kept ?_
    assumption

theorem State_swellWrite_kept {r s : State} {a1 a2 a3 a4 a5} (h : Kept r s) :
    Kept r (State.swellWrite s a1 a2 a3 a4 a5).2 := by
  unfold State.swellWrite
  extract_lets l0_0 l0_1
  clear_value l0_0
  have hl0_1 : Kept r l0_1 := by
    unfold l0_1
    with_reducible refine State_setMem_kept ?_
    assumption
  clear_value l0_1
  split
  · show Kept _ _
    refine Kept.ite (fun _ => ?_) (fun _ => ?_)
    · with_reducible refine State_setMem_kept ?_
      assumption
    · assumption
  · show Kept _ _
    assumption

theorem State_regionWrite_kept {r s : State} {a1 a2 a3 a4 a5} (h : Kept r s) :
    Kept r (State.regionWrite s a1 a2 a3 a4 a5).2 := by
  unfold State.regionWrite
  split
  · show Kept _ _
    assumption
  · show Kept _ _
    assumption
  · show Kept _ _
    assumption
  · show Kept _ _
    assumption
  · show Kept _ _
    assumption
  · show Kept _ _
    assumption
  · show Kept _ _
    assumption
  · show Kept _ _
    with_reducible refine State_setMem_kept ?_
    assumption
  · split
    · show Kept _ _
      with_reducible refine State_setMem_kept ?_
      assumption
    · show Kept _ _
      assumption
  · show Kept _ _
    with_reducible refine Kept.mk' ?_
    assumption
  · with_reducible refine State_swellWrite_kept ?_
    assumption
  · with_reducible refine State_swellWrite_kept ?_
    assumption
  · show Kept _ _
    assumption
  · show Kept _ _
    with_reducible refine State_slotWrite_kept ?_
    assumption
  · with_reducible refine State_ebbWrite_kept ?_
    assumption
  · with_reducible refine State_qtabWrite_kept ?_
    assumption
  · with_reducible refine State_trkWrite_kept ?_
    assumption
  · split
    · with_reducible refine State_pageWrite_kept ?_
      assumption
    · show Kept _ _
      assumption
  · with_reducible refine State_propWrite_kept ?_
    assumption
  · extract_lets l1_0
    clear_value l1_0
    show Kept _ _
    refine Kept.ite (fun _ => ?_) (fun _ => ?_)
    · with_reducible refine State_setMem_kept ?_
      assumption
    · assumption

theorem State_accWrite_kept {r s : State} {a1} (h : Kept r s) :
    Kept r (State.accWrite s a1).2 := by
  unfold State.accWrite
  extract_lets l0_0 l0_1
  clear_value l0_0
  have hl0_1 : Kept r l0_1 := by
    unfold l0_1
    with_reducible refine State_arbitrate_kept ?_
    assumption
  clear_value l0_1
  split
  · show Kept _ _
    assumption
  · split
    · show Kept _ _
      with_reducible refine State_reportWrite_kept ?_
      with_reducible refine State_e2eFail_kept ?_
      assumption
    · extract_lets l3_0
      clear_value l3_0
      split
      · show Kept _ _
        with_reducible refine State_reportWrite_kept ?_
        assumption
      · with_reducible refine State_regionWrite_kept ?_
        assumption

theorem State_fabricWrite_kept {r s : State} {a1} (h : Kept r s) :
    Kept r (State.fabricWrite s a1) := by
  unfold State.fabricWrite
  split
  · with_reducible refine State_answer_kept ?_
    with_reducible refine State_guardDeny_kept ?_
    assumption
  · split
    · with_reducible refine State_answer_kept ?_
      refine Kept.snd (by assumption) ?_
      with_reducible refine State_accWrite_kept ?_
      assumption

theorem State_regionWord_kept {r s : State} {a1 a2 a3} (h : Kept r s) :
    Kept r (State.regionWord s a1 a2 a3).2 := by
  unfold State.regionWord
  split
  · split
    · with_reducible refine State_pageReadWord_kept ?_
      assumption
    · show Kept _ _
      assumption
  · extract_lets l1_0 l1_1
    clear_value l1_0
    clear_value l1_1
    split
    · split
      · show Kept _ _
        with_reducible refine State_setSubRes_kept ?_
        refine Kept.snd (by assumption) ?_
        with_reducible refine State_latchRead_kept ?_
        assumption
    · with_reducible refine State_latchRead_kept ?_
      assumption
  · extract_lets l1_0 l1_1
    clear_value l1_0
    clear_value l1_1
    with_reducible refine State_latchRead_kept ?_
    assumption
  · with_reducible refine State_latchRead_kept ?_
    assumption
  · with_reducible refine State_latchRead_kept ?_
    assumption
  · with_reducible refine State_latchRead_kept ?_
    assumption
  · with_reducible refine State_latchRead_kept ?_
    assumption
  · show Kept _ _
    assumption
  · extract_lets l1_0
    clear_value l1_0
    with_reducible refine State_latchRead_kept ?_
    assumption
  · show Kept _ _
    assumption
  · show Kept _ _
    assumption

theorem State_regionRead_kept {r s : State} {a1 a2 a3 a4} (h : Kept r s) :
    Kept r (State.regionRead s a1 a2 a3 a4).2.2 := by
  unfold State.regionRead
  split
  · show Kept _ _
    show Kept _ _
    assumption
  · show Kept _ _
    show Kept _ _
    assumption
  · show Kept _ _
    show Kept _ _
    assumption
  · show Kept _ _
    show Kept _ _
    assumption
  · show Kept _ _
    show Kept _ _
    assumption
  · split
    · show Kept _ _
      show Kept _ _
      assumption
    · show Kept _ _
      show Kept _ _
      assumption
  · show Kept _ _
    show Kept _ _
    assumption
  · show Kept _ _
    show Kept _ _
    assumption
  · show Kept _ _
    show Kept _ _
    assumption
  · show Kept _ _
    show Kept _ _
    assumption
  · split
    · split
      · show Kept _ _
        show Kept _ _
        refine Kept.snd (by assumption) ?_
        with_reducible refine State_regionWord_kept ?_
        assumption
      · split
        · show Kept _ _
          show Kept _ _
          refine Kept.snd (by assumption) ?_
          with_reducible refine State_regionWord_kept ?_
          refine Kept.snd (by assumption) ?_
          with_reducible refine State_regionWord_kept ?_
          assumption

theorem State_accRead_kept {r s : State} {a1} (h : Kept r s) :
    Kept r (State.accRead s a1).2.2 := by
  unfold State.accRead
  split
  · show Kept _ _
    show Kept _ _
    assumption
  · split
    · show Kept _ _
      show Kept _ _
      with_reducible refine State_e2eFail_kept ?_
      assumption
    · extract_lets l2_0
      clear_value l2_0
      split
      · show Kept _ _
        show Kept _ _
        assumption
      · with_reducible refine State_regionRead_kept ?_
        assumption

theorem State_fabricRead_kept {r s : State} {a1} (h : Kept r s) :
    Kept r (State.fabricRead s a1) := by
  unfold State.fabricRead
  split
  · with_reducible refine State_answer_kept ?_
    with_reducible refine State_guardDeny_kept ?_
    assumption
  · split
    · with_reducible refine State_answer_kept ?_
      refine Kept.trd (by assumption) ?_
      with_reducible refine State_accRead_kept ?_
      assumption

theorem State_partsRead_kept {r s : State} {m ps} (h : Kept r s) : Kept r (State.partsRead s m ps).2.2 := by
  induction ps generalizing s with
  | nil => exact h
  | cons p ps ih =>
    unfold State.partsRead
    have h1 := State_accRead_kept (a1 := ⟨m, p.1, p.2, 0, true⟩) h
    generalize State.accRead s ⟨m, p.1, p.2, 0, true⟩ = q at h1 ⊢
    obtain ⟨a, b, t⟩ := q
    dsimp only at h1 ⊢
    split
    · exact h1
    · exact ih h1

theorem State_partsTry_kept {r s : State} {m ps bs} (h : Kept r s) : Kept r (State.partsTry s m ps bs).2.2.2 := by
  induction ps generalizing s bs with
  | nil => exact h
  | cons p ps ih =>
    unfold State.partsTry
    have h1 := State_accWrite_kept (a1 := ⟨m, p.1, p.2, ofBytesLE (bs.take p.2), true⟩) h
    dsimp only
    generalize State.accWrite s ⟨m, p.1, p.2, ofBytesLE (bs.take p.2), true⟩ = q at h1 ⊢
    obtain ⟨a, t⟩ := q
    dsimp only at h1 ⊢
    split
    · exact h1
    · exact ih h1

theorem State_partsWrite_kept {r s : State} {a1 a2 a3} (h : Kept r s) :
    Kept r (State.partsWrite s a1 a2 a3).2 := by
  unfold State.partsWrite
  split
  · split
    · show Kept _ _
      refine Kept.frt (by assumption) ?_
      with_reducible refine State_partsTry_kept ?_
      assumption
    · split
      · show Kept _ _
        with_reducible refine State_reportWrite_kept ?_
        assumption
      · show Kept _ _
        assumption

theorem State_dmaServed_kept {r s : State} {a1} (h : Kept r s) :
    Kept r (State.dmaServed s a1) := by
  unfold State.dmaServed
  with_reducible refine Kept.mk' ?_
  assumption

theorem State_dmaMoved_kept {r s : State} {a1 a2} (h : Kept r s) :
    Kept r (State.dmaMoved s a1 a2) := by
  unfold State.dmaMoved
  extract_lets l0_0 l0_1 l0_2
  clear_value l0_0
  have hl0_1 : Kept r l0_1 := by
    unfold l0_1
    with_reducible refine State_setReg_kept ?_
    assumption
  clear_value l0_1
  have hl0_2 : Kept r l0_2 := by
    unfold l0_2
    with_reducible refine State_setBurst_kept ?_
    assumption
  clear_value l0_2
  refine Kept.ite (fun _ => ?_) (fun _ => ?_)
  · with_reducible refine State_dmaEnd_kept ?_
    assumption
  · refine Kept.ite (fun _ => ?_) (fun _ => ?_)
    · assumption
    · refine Kept.ite (fun _ => ?_) (fun _ => ?_)
      · with_reducible refine State_dmaBegin_kept ?_
        with_reducible refine State_setRegF_kept ?_
        assumption
      · assumption

theorem State_dmaTransaction_kept {r s : State} (h : Kept r s) :
    Kept r (State.dmaTransaction s) := by
  unfold State.dmaTransaction
  split
  · assumption
  · extract_lets l1_0 l1_1 l1_2 l1_3 l1_4 l1_5
    clear_value l1_0
    have hl1_1 : Kept r l1_1 := by
      unfold l1_1
      with_reducible refine State_dmaServed_kept ?_
      assumption
    clear_value l1_1
    clear_value l1_2
    clear_value l1_3
    clear_value l1_4
    clear_value l1_5
    split
    · with_reducible refine State_dmaEnd_kept ?_
      with_reducible refine State_guardDeny_kept ?_
      assumption
    · split
      · refine Kept.ite (fun _ => ?_) (fun _ => ?_)
        · with_reducible refine State_dmaEnd_kept ?_
          refine Kept.trd (by assumption) ?_
          with_reducible refine State_partsRead_kept ?_
          assumption
        · split
          · refine Kept.ite (fun _ => ?_) (fun _ => ?_)
            · with_reducible refine State_dmaEnd_kept ?_
              refine Kept.snd (by assumption) ?_
              with_reducible refine State_partsWrite_kept ?_
              refine Kept.trd (by assumption) ?_
              with_reducible refine State_partsRead_kept ?_
              assumption
            · with_reducible refine State_dmaMoved_kept ?_
              refine Kept.snd (by assumption) ?_
              with_reducible refine State_partsWrite_kept ?_
              refine Kept.trd (by assumption) ?_
              with_reducible refine State_partsRead_kept ?_
              assumption

end Sys2Proof.Machine
end

