-- ==== Sys2Proof/Laws/KeptF.lean ====
section
/-! SUPPORT. One lemma per operation of the block, from State.romWrite to State.swResponse: it keeps the canonical form of
memory and the queue (Kept). -/
set_option Elab.async false
namespace Sys2Proof.Machine

theorem State_romWrite_kept {r s : State} {a1 a2} (h : Kept r s) :
    Kept r (State.romWrite s a1 a2).2 := by
  unfold State.romWrite
  extract_lets l0_0
  have hl0_0 : Kept r l0_0 := by
    unfold l0_0
    with_reducible refine State_fabricWrite_kept ?_
    assumption
  clear_value l0_0
  show Kept _ _
  assumption

theorem State_romWrites_kept {r s : State} {ws} (h : Kept r s) : Kept r (State.romWrites s ws).2 := by
  induction ws generalizing s with
  | nil => exact h
  | cons p ps ih => exact ih (State_romWrite_kept h)

theorem State_blockWrite_kept {r s : State} {a1} (h : Kept r s) :
    Kept r (State.blockWrite s a1).2 := by
  unfold State.blockWrite
  split
  · show Kept _ _
    assumption
  · extract_lets l1_0 l1_1
    clear_value l1_0
    clear_value l1_1
    with_reducible refine State_romWrites_kept ?_
    assumption

theorem State_bootTry_kept {r s : State} {bs hrp} (h : Kept r s) : Kept r (State.bootTry s bs hrp).loaded := by
  have h1 : Kept r (((imgSections bs).filter fun x => x.type ≤ 3).foldl (fun s x => s.putBytes x.dest (secBytes bs x)) s) :=
    Kept.foldl (fun t x ht => State_putBytes_kept ht) h
  have hb : ∀ {b : Bool} {a : Nat} {u : State} {lc : LifeCycle}, Kept r u →
      Kept r (match if u.bwLocked then (true, u) else u.blockWrite bs with
        | (ok, s3) => if !ok && lc ≠ LifeCycle.test then (⟨8, false, s⟩ : BootTry) else ⟨a, b, s3⟩).loaded := by
    intro b a u lc hu
    have h3 : Kept r (if u.bwLocked then (true, u) else u.blockWrite bs).2 := by
      split
      · exact hu
      · exact State_blockWrite_kept hu
    generalize (if u.bwLocked then (true, u) else u.blockWrite bs) = q at h3 ⊢
    obtain ⟨ok, s3⟩ := q
    exact BootTry.kept_ite h h3
  unfold State.bootTry
  refine BootTry.kept_ite h (BootTry.kept_ite h ?_)
  dsimp only
  refine BootTry.kept_ite h ?_
  refine BootTry.kept_ite h (hb ?_)
  split
  · refine Kept.ite (fun _ => ?_) fun _ => State_setReg_kept (Kept.mk' h1)
    exact Kept.foldl (fun t x ht => State_setReg_kept ht) (State_setReg_kept (Kept.mk' h1))
  · exact h1

theorem State_rootBreach_kept {r s : State} (h : Kept r s) :
    Kept r (State.rootBreach s) := by
  unfold State.rootBreach
  split
  · extract_lets l1_0 l1_1
    clear_value l1_0
    clear_value l1_1
    split
    · with_reducible refine Kept.mk' ?_
      refine Kept.snd (by assumption) ?_
      with_reducible refine State_romWrites_kept ?_
      assumption

theorem State_rootFirmware_kept {r s : State} {a1} (h : Kept r s) :
    Kept r (State.rootFirmware s a1) := by
  unfold State.rootFirmware
  split
  · assumption
  · extract_lets l1_0 l1_1 l1_2
    clear_value l1_0
    clear_value l1_1
    clear_value l1_2
    with_reducible refine Kept.mk' ?_
    assumption

theorem State_lockBreakwater_kept {r s : State} (h : Kept r s) :
    Kept r (State.lockBreakwater s) := by
  unfold State.lockBreakwater
  extract_lets l0_0
  clear_value l0_0
  with_reducible refine State_romWrites_kept ?_
  assumption

theorem State_resumeWatchdogs_kept {r s : State} (h : Kept r s) :
    Kept r (State.resumeWatchdogs s) := by
  unfold State.resumeWatchdogs
  extract_lets l0_0 l0_1
  have hl0_0 : Kept r l0_0 := by
    unfold l0_0
    refine Kept.foldl (fun t1 x1 h1 => ?_) ?_
    · with_reducible refine State_setWdog_kept ?_
      assumption
    · assumption
  clear_value l0_0
  clear_value l0_1
  with_reducible refine Kept.mk' ?_
  assumption

theorem State_clearRam_kept {r s : State} (h : Kept r s) :
    Kept r (State.clearRam s) := by
  unfold State.clearRam
  with_reducible refine State_clearMem_kept ?_
  with_reducible refine State_clearMem_kept ?_
  with_reducible refine State_clearMem_kept ?_
  assumption

theorem State_bootFails_kept {r s : State} {a1 a2 a3} (h : Kept r s) :
    Kept r (State.bootFails s a1 a2 a3) := by
  unfold State.bootFails
  extract_lets l0_0 l0_1
  have hl0_0 : Kept r l0_0 := by
    unfold l0_0
    with_reducible refine State_setReg_kept ?_
    assumption
  clear_value l0_0
  clear_value l0_1
  with_reducible refine Kept.mk' ?_
  assumption

theorem State_bootDone_kept {r : State} {t bs src} (h : Kept r (BootTry.loaded t)) : Kept r (State.bootDone t bs src) := by
  unfold State.bootDone
  dsimp only
  have h4 := State_rootBreach_kept (Kept.foldl (f := fun (s : State) (e : Word × Nat) => s.setReg .sboot (0x60 + 4 * e.2) e.1)
    (l := (hashWords (sha256 (bs.take (imgLen bs)))).zipIdx) (fun t x ht => State_setReg_kept ht) (State_setReg_kept
      (a1 := .sboot) (a2 := 0x44) (a3 := wordOf (imgN bs 8 4)) (State_setReg_kept (a1 := .sboot) (a2 := 0x40)
        (a3 := wordOf (src * 16 + (if t.unsigned then 64 else 0) + imgN bs 12 1 * 256)) h)))
  generalize State.rootBreach _ = s4 at h4 ⊢
  have h5 : Kept r (if s4.bwLocked then s4 else s4.lockBreakwater) := Kept.ite (fun _ => h4) fun _ => State_lockBreakwater_kept h4
  generalize (if s4.bwLocked then s4 else s4.lockBreakwater) = s5 at h5 ⊢
  exact Kept.ite (fun _ => Kept.mk' h5) fun _ => Kept.mk' (State_resumeWatchdogs_kept (State_rootFirmware_kept (Kept.mk' h5)))

theorem State_secureBoot_kept {r s : State} (h : Kept r s) : Kept r (State.secureBoot s) := by
  unfold State.secureBoot
  extract_lets cfg ia ib ta tb useB
  have ha : Kept r ta.loaded := State_bootTry_kept h
  have hb : Kept r tb.loaded := State_bootTry_kept h
  clear_value ta tb useB
  split
  · exact State_bootFails_kept h
  · split
    · exact State_bootDone_kept hb
    · split
      · exact State_bootDone_kept ha
      · exact State_bootFails_kept h

theorem State_bootStream_kept {r s : State} {len} (h : Kept r s) : Kept r (State.bootStream s len) := by
  unfold State.bootStream
  split
  · exact h
  · extract_lets bs t
    have ht : Kept r t.loaded := by
      unfold t
      split
      · exact State_bootTry_kept h
      · exact h
    clear_value t
    split
    · exact State_bootDone_kept ht
    · exact State_bootFails_kept (State_clearRam_kept h)

theorem State_romBoot_kept {r s : State} {a1} (h : Kept r s) :
    Kept r (State.romBoot s a1) := by
  unfold State.romBoot
  extract_lets l0_0 l0_1
  clear_value l0_0
  have hl0_1 : Kept r l0_1 := by
    unfold l0_1
    with_reducible refine Kept.mk' ?_
    assumption
  clear_value l0_1
  with_reducible refine State_secureBoot_kept ?_
  refine Kept.ite (fun _ => ?_) (fun _ => ?_)
  · with_reducible refine State_clearRam_kept ?_
    assumption
  · assumption

theorem State_busWrite_kept {r s : State} {a1} (h : Kept r s) :
    Kept r (State.busWrite s a1) := by
  unfold State.busWrite
  refine Kept.ite (fun _ => ?_) (fun _ => ?_)
  · assumption
  · extract_lets l1_0 l1_1
    have hl1_0 : Kept r l1_0 := by
      unfold l1_0
      with_reducible refine State_fabricWrite_kept ?_
      assumption
    clear_value l1_0
    clear_value l1_1
    refine Kept.ite (fun _ => ?_) (fun _ => ?_)
    · with_reducible refine State_bootStream_kept ?_
      assumption
    · assumption

theorem State_busRead_kept {r s : State} {a1} (h : Kept r s) :
    Kept r (State.busRead s a1) := by
  unfold State.busRead
  refine Kept.ite (fun _ => ?_) (fun _ => ?_)
  · with_reducible refine State_fabricRead_kept ?_
    assumption
  · assumption

theorem State_startBist_kept {r s : State} {a1} (h : Kept r s) :
    Kept r (State.startBist s a1) := by
  unfold State.startBist
  extract_lets l0_0 l0_1 l0_2 l0_3
  clear_value l0_0
  have hl0_1 : Kept r l0_1 := by
    unfold l0_1
    refine Kept.foldl (fun t1 x1 h1 => ?_) ?_
    · split
      · extract_lets l3_0
        have hl3_0 : Kept r l3_0 := by
          unfold l3_0
          with_reducible refine State_setReg_kept ?_
          assumption
        clear_value l3_0
        refine Kept.ite (fun _ => ?_) (fun _ => ?_)
        · with_reducible refine State_irqBit_kept ?_
          with_reducible refine State_setDomain_kept ?_
          assumption
        · assumption
    · assumption
  clear_value l0_1
  clear_value l0_2
  have hl0_3 : Kept r l0_3 := by
    unfold l0_3
    with_reducible refine State_setReg_kept ?_
    with_reducible refine State_setRegF_kept ?_
    with_reducible refine State_setReg_kept ?_
    assumption
  clear_value l0_3
  refine Kept.ite (fun _ => ?_) (fun _ => ?_)
  · with_reducible refine State_setRegF_kept ?_
    assumption
  · assumption

theorem State_railDown_kept {r s : State} (h : Kept r s) :
    Kept r (State.railDown s) := by
  unfold State.railDown
  extract_lets l0_0 l0_1 l0_2
  clear_value l0_0
  have hl0_1 : Kept r l0_1 := by
    unfold l0_1
    with_reducible refine State_resetCause_kept ?_
    with_reducible refine State_fullReset_kept ?_
    assumption
  clear_value l0_1
  clear_value l0_2
  with_reducible refine Kept.mk' ?_
  assumption

theorem State_startUp_kept {r s : State} {a1 a2} (h : Kept r s) :
    Kept r (State.startUp s a1 a2) := by
  unfold State.startUp
  extract_lets l0_0 l0_1 l0_2 l0_3
  have hl0_0 : Kept r l0_0 := by
    unfold l0_0
    refine Kept.ite (fun _ => ?_) (fun _ => ?_)
    · assumption
    · with_reducible refine State_setRegF_kept ?_
      assumption
  clear_value l0_0
  clear_value l0_1
  have hl0_2 : Kept r l0_2 := by
    unfold l0_2
    with_reducible refine Kept.mk' ?_
    assumption
  clear_value l0_2
  have hl0_3 : Kept r l0_3 := by
    unfold l0_3
    with_reducible refine State_setRegF_kept ?_
    assumption
  clear_value l0_3
  refine Kept.ite (fun _ => ?_) (fun _ => ?_)
  · with_reducible refine State_railDown_kept ?_
    assumption
  · with_reducible refine State_romBoot_kept ?_
    refine Kept.ite (fun _ => ?_) (fun _ => ?_)
    · with_reducible refine State_startBist_kept ?_
      assumption
    · assumption

theorem State_powerOn_kept {r s : State} {a1} (h : Kept r s) :
    Kept r (State.powerOn s a1) := by
  unfold State.powerOn
  refine Kept.ite (fun _ => ?_) (fun _ => ?_)
  · assumption
  · extract_lets l1_0
    have hl1_0 : Kept r l1_0 := by
      unfold l1_0
      with_reducible refine State_fullReset_kept ?_
      assumption
    clear_value l1_0
    with_reducible refine State_startUp_kept ?_
    with_reducible refine State_resetCause_kept ?_
    with_reducible refine Kept.mk' ?_
    assumption

theorem State_deviceReset_kept {r s : State} {a1 a2 a3} (h : Kept r s) :
    Kept r (State.deviceReset s a1 a2 a3) := by
  unfold State.deviceReset
  with_reducible refine State_startUp_kept ?_
  with_reducible refine State_resetCause_kept ?_
  with_reducible refine State_fullReset_kept ?_
  assumption

theorem State_deviceDue_kept {r s : State} {a1} (h : Kept r s) :
    Kept r (State.deviceDue s a1) := by
  unfold State.deviceDue
  split
  · refine Kept.ite (fun _ => ?_) (fun _ => ?_)
    · extract_lets l2_0
      have hl2_0 : Kept r l2_0 := by
        unfold l2_0
        refine Kept.ite (fun _ => ?_) (fun _ => ?_)
        · with_reducible refine State_setRegF_kept ?_
          assumption
        · assumption
      clear_value l2_0
      with_reducible refine State_deviceReset_kept ?_
      assumption
    · assumption
  · assumption

theorem State_resetPin_kept {r s : State} {a1} (h : Kept r s) :
    Kept r (State.resetPin s a1) := by
  unfold State.resetPin
  refine Kept.ite (fun _ => ?_) (fun _ => ?_)
  · assumption
  · extract_lets l1_0
    have hl1_0 : Kept r l1_0 := by
      unfold l1_0
      with_reducible refine State_deviceReset_kept ?_
      assumption
    clear_value l1_0
    with_reducible refine Kept.mk' ?_
    assumption

theorem State_applicationReset_kept {r s : State} {a1} (h : Kept r s) :
    Kept r (State.applicationReset s a1) := by
  unfold State.applicationReset
  split
  · refine Kept.ite (fun _ => ?_) (fun _ => ?_)
    · extract_lets l2_0 l2_1
      have hl2_0 : Kept r l2_0 := by
        unfold l2_0
        with_reducible refine State_resetCause_kept ?_
        with_reducible refine State_appReset_kept ?_
        assumption
      clear_value l2_0
      clear_value l2_1
      refine Kept.ite (fun _ => ?_) (fun _ => ?_)
      · with_reducible refine Kept.mk' ?_
        assumption
      · with_reducible refine State_romBoot_kept ?_
        assumption
    · assumption
  · assumption

theorem State_debugReset_kept {r s : State} {a1} (h : Kept r s) :
    Kept r (State.debugReset s a1) := by
  unfold State.debugReset
  refine Kept.ite (fun _ => ?_) (fun _ => ?_)
  · assumption
  · with_reducible refine State_romBoot_kept ?_
    with_reducible refine State_resetCause_kept ?_
    with_reducible refine State_appReset_kept ?_
    assumption

theorem State_railFailure_kept {r s : State} (h : Kept r s) :
    Kept r (State.railFailure s) := by
  unfold State.railFailure
  extract_lets l0_0
  clear_value l0_0
  refine Kept.ite (fun _ => ?_) (fun _ => ?_)
  · with_reducible refine State_railDown_kept ?_
    assumption
  · assumption

theorem State_railRetry_kept {r s : State} {a1} (h : Kept r s) :
    Kept r (State.railRetry s a1) := by
  unfold State.railRetry
  refine Kept.ite (fun _ => ?_) (fun _ => ?_)
  · with_reducible refine State_startUp_kept ?_
    with_reducible refine Kept.mk' ?_
    assumption
  · assumption

theorem State_wake_kept {r s : State} {a1 a2 a3} (h : Kept r s) :
    Kept r (State.wake s a1 a2 a3) := by
  unfold State.wake
  refine Kept.ite (fun _ => ?_) (fun _ => ?_)
  · assumption
  · split
    · assumption
    · extract_lets l2_0
      have hl2_0 : Kept r l2_0 := by
        unfold l2_0
        with_reducible refine State_setRegF_kept ?_
        assumption
      clear_value l2_0
      with_reducible refine Kept.mk' ?_
      assumption
    · extract_lets l2_0
      have hl2_0 : Kept r l2_0 := by
        unfold l2_0
        with_reducible refine State_setReg_kept ?_
        with_reducible refine State_setReg_kept ?_
        with_reducible refine State_setRegF_kept ?_
        with_reducible refine Kept.mk' ?_
        assumption
      clear_value l2_0
      with_reducible refine State_startUp_kept ?_
      with_reducible refine State_resetCause_kept ?_
      assumption

theorem State_wakeTimer_kept {r s : State} {a1} (h : Kept r s) :
    Kept r (State.wakeTimer s a1) := by
  unfold State.wakeTimer
  split
  · with_reducible refine State_wake_kept ?_
    assumption
  · assumption

theorem State_legalInput_kept {r s : State} {a1 a2 a3 a4 a5} (h : Kept r s) :
    Kept r (State.legalInput s a1 a2 a3 a4 a5) := by
  unfold State.legalInput
  extract_lets l0_0 l0_1
  have hl0_0 : Kept r l0_0 := by
    unfold l0_0
    with_reducible refine State_legalEdge_kept ?_
    assumption
  clear_value l0_0
  clear_value l0_1
  split
  · assumption
  · refine Kept.ite (fun _ => ?_) (fun _ => ?_)
    · with_reducible refine State_wake_kept ?_
      assumption
    · assumption
  · refine Kept.ite (fun _ => ?_) (fun _ => ?_)
    · with_reducible refine State_wake_kept ?_
      assumption
    · assumption

theorem State_supplyLoss_kept {r s : State} (h : Kept r s) :
    Kept r (State.supplyLoss s) := by
  unfold State.supplyLoss
  refine Kept.ite (fun _ => ?_) (fun _ => ?_)
  · assumption
  · extract_lets l1_0 l1_1 l1_2
    clear_value l1_0
    have hl1_1 : Kept r l1_1 := by
      unfold l1_1
      with_reducible refine Kept.mk' ?_
      assumption
    clear_value l1_1
    have hl1_2 : Kept r l1_2 := by
      unfold l1_2
      refine Kept.ite (fun _ => ?_) (fun _ => ?_)
      · with_reducible refine State_tmHoldup_kept ?_
        assumption
      · assumption
    clear_value l1_2
    refine Kept.ite (fun _ => ?_) (fun _ => ?_)
    · assumption
    · with_reducible refine State_setPresent_kept ?_
      assumption

theorem State_tmReturn_kept {r s : State} (h : Kept r s) :
    Kept r (State.tmReturn s) := by
  unfold State.tmReturn
  extract_lets l0_0 l0_1
  have hl0_0 : Kept r l0_0 := by
    unfold l0_0
    refine Kept.ite (fun _ => ?_) (fun _ => ?_)
    · with_reducible refine State_tmStop_kept ?_
      assumption
    · assumption
  clear_value l0_0
  clear_value l0_1
  with_reducible refine State_setTm_kept ?_
  assumption

theorem State_supplyReturn_kept {r s : State} {a1} (h : Kept r s) :
    Kept r (State.supplyReturn s a1) := by
  unfold State.supplyReturn
  refine Kept.ite (fun _ => ?_) (fun _ => ?_)
  · assumption
  · extract_lets l1_0 l1_1 l1_2 l1_3 l1_4 l1_5
    clear_value l1_0
    have hl1_1 : Kept r l1_1 := by
      unfold l1_1
      with_reducible refine State_setPresent_kept ?_
      with_reducible refine State_tmReturn_kept ?_
      with_reducible refine Kept.mk' ?_
      assumption
    clear_value l1_1
    clear_value l1_2
    have hl1_3 : Kept r l1_3 := by
      unfold l1_3
      with_reducible refine Kept.mk' ?_
      assumption
    clear_value l1_3
    have hl1_4 : Kept r l1_4 := by
      unfold l1_4
      with_reducible refine State_deviceReset_kept ?_
      assumption
    clear_value l1_4
    clear_value l1_5
    refine Kept.ite (fun _ => ?_) (fun _ => ?_)
    · with_reducible refine Kept.mk' ?_
      assumption
    · refine Kept.ite (fun _ => ?_) (fun _ => ?_)
      · assumption
      · refine Kept.ite (fun _ => ?_) (fun _ => ?_)
        · with_reducible refine State_romBoot_kept ?_
          with_reducible refine Kept.mk' ?_
          assumption
        · with_reducible refine State_railDown_kept ?_
          assumption

theorem State_breakwaterBrown_kept {r s : State} (h : Kept r s) :
    Kept r (State.breakwaterBrown s) := by
  unfold State.breakwaterBrown
  refine Kept.ite (fun _ => ?_) (fun _ => ?_)
  · assumption
  · extract_lets l1_0 l1_1 l1_2
    have hl1_0 : Kept r l1_0 := by
      unfold l1_0
      with_reducible refine State_holdUpDefaults_kept ?_
      assumption
    clear_value l1_0
    clear_value l1_1
    clear_value l1_2
    with_reducible refine Kept.mk' ?_
    assumption

theorem State_leeBrown_kept {r s : State} (h : Kept r s) :
    Kept r (State.leeBrown s) := by
  unfold State.leeBrown
  refine Kept.ite (fun _ => ?_) (fun _ => ?_)
  · assumption
  · extract_lets l1_0 l1_1 l1_2
    have hl1_0 : Kept r l1_0 := by
      unfold l1_0
      with_reducible refine State_tmStop_kept ?_
      assumption
    clear_value l1_0
    have hl1_1 : Kept r l1_1 := by
      unfold l1_1
      with_reducible refine State_fullReset_kept ?_
      assumption
    clear_value l1_1
    clear_value l1_2
    with_reducible refine Kept.mk' ?_
    assumption

theorem State_bistDone_kept {r s : State} {a1} (h : Kept r s) :
    Kept r (State.bistDone s a1) := by
  unfold State.bistDone
  extract_lets l0_0 l0_1 l0_2
  clear_value l0_0
  have hl0_1 : Kept r l0_1 := by
    unfold l0_1
    with_reducible refine State_setRegF_kept ?_
    with_reducible refine State_setRegF_kept ?_
    assumption
  clear_value l0_1
  have hl0_2 : Kept r l0_2 := by
    unfold l0_2
    with_reducible refine State_irqBit_kept ?_
    assumption
  clear_value l0_2
  refine Kept.ite (fun _ => ?_) (fun _ => ?_)
  · assumption
  · refine Kept.ite (fun _ => ?_) (fun _ => ?_)
    · assumption
    · with_reducible refine State_raiseFault_kept ?_
      with_reducible refine State_irqBit_kept ?_
      assumption

theorem State_pageWr_kept {r s : State} {a1 a2 a3 a4} (h : Kept r s) :
    Kept r (State.pageWr s a1 a2 a3 a4) := by
  unfold State.pageWr
  refine Kept.ite (fun _ => ?_) (fun _ => ?_)
  · with_reducible refine State_busWrite_kept ?_
    assumption
  · assumption

theorem State_pageWr64_kept {r s : State} {a1 a2 a3 a4} (h : Kept r s) :
    Kept r (State.pageWr64 s a1 a2 a3 a4) := by
  unfold State.pageWr64
  refine Kept.ite (fun _ => ?_) (fun _ => ?_)
  · with_reducible refine State_busWrite_kept ?_
    assumption
  · assumption

theorem State_pageRd_kept {r s : State} {a1 a2 a3 a4} (h : Kept r s) :
    Kept r (State.pageRd s a1 a2 a3 a4) := by
  unfold State.pageRd
  refine Kept.ite (fun _ => ?_) (fun _ => ?_)
  · with_reducible refine State_busRead_kept ?_
    assumption
  · assumption

theorem State_winWr_kept {r s : State} {a1 a2 a3 a4} (h : Kept r s) :
    Kept r (State.winWr s a1 a2 a3 a4) := by
  unfold State.winWr
  with_reducible refine State_busWrite_kept ?_
  assumption

theorem State_winRd_kept {r s : State} {a1 a2 a3} (h : Kept r s) :
    Kept r (State.winRd s a1 a2 a3) := by
  unfold State.winRd
  with_reducible refine State_busRead_kept ?_
  assumption

theorem State_queueWr_kept {r s : State} {a1 a2 a3 a4 a5} (h : Kept r s) :
    Kept r (State.queueWr s a1 a2 a3 a4 a5) := by
  unfold State.queueWr
  refine Kept.ite (fun _ => ?_) (fun _ => ?_)
  · with_reducible refine State_winWr_kept ?_
    assumption
  · assumption

theorem State_slotWr_kept {r s : State} {a1 a2 a3 a4 a5} (h : Kept r s) :
    Kept r (State.slotWr s a1 a2 a3 a4 a5) := by
  unfold State.slotWr
  refine Kept.ite (fun _ => ?_) (fun _ => ?_)
  · with_reducible refine State_winWr_kept ?_
    assumption
  · assumption

theorem State_slotEnd_kept {r s : State} {a1 a2 a3 a4 a5} (h : Kept r s) :
    Kept r (State.slotEnd s a1 a2 a3 a4 a5) := by
  unfold State.slotEnd
  refine Kept.ite (fun _ => ?_) (fun _ => ?_)
  · with_reducible refine State_slotWr_kept ?_
    assumption
  · with_reducible refine State_slotWr_kept ?_
    assumption

theorem State_ebbCmd_kept {r s : State} {a1 a2 a3 a4} (h : Kept r s) :
    Kept r (State.ebbCmd s a1 a2 a3 a4) := by
  unfold State.ebbCmd
  refine Kept.ite (fun _ => ?_) (fun _ => ?_)
  · with_reducible refine State_winWr_kept ?_
    assumption
  · with_reducible refine State_winWr_kept ?_
    assumption

theorem State_linkCfg_kept {r s : State} {a1 a2 a3 a4} (h : Kept r s) :
    Kept r (State.linkCfg s a1 a2 a3 a4) := by
  unfold State.linkCfg
  refine Kept.ite (fun _ => ?_) (fun _ => ?_)
  · refine Kept.ite (fun _ => ?_) (fun _ => ?_)
    · with_reducible refine State_pageWr_kept ?_
      assumption
    · assumption
  · refine Kept.ite (fun _ => ?_) (fun _ => ?_)
    · with_reducible refine State_pageWr_kept ?_
      assumption
    · assumption

theorem State_keyExpires_kept {r s : State} {a1} (h : Kept r s) :
    Kept r (State.keyExpires s a1) := by
  unfold State.keyExpires
  split
  · refine Kept.ite (fun _ => ?_) (fun _ => ?_)
    · with_reducible refine State_setKeys_kept ?_
      assumption
    · assumption
  · assumption

theorem State_hrpAnswer_kept {r s : State} {a1 a2 a3} (h : Kept r s) :
    Kept r (State.hrpAnswer s a1 a2 a3) := by
  unfold State.hrpAnswer
  extract_lets l0_0
  have hl0_0 : Kept r l0_0 := by
    unfold l0_0
    with_reducible refine State_wrapInc_kept ?_
    with_reducible refine State_setRegF_kept ?_
    with_reducible refine State_setRegF_kept ?_
    assumption
  clear_value l0_0
  with_reducible refine State_answer_kept ?_
  refine Kept.ite (fun _ => ?_) (fun _ => ?_)
  · assumption
  · with_reducible refine State_irqBit_kept ?_
    assumption

theorem State_hrpFrame_kept {r s : State} {a1 a2 a3} (h : Kept r s) (hf3 : ∀ x0, Kept r x0 → Kept r (a3 x0).2.2) :
    Kept r (State.hrpFrame s a1 a2 a3) := by
  unfold State.hrpFrame
  refine Kept.ite (fun _ => ?_) (fun _ => ?_)
  · assumption
  · refine Kept.ite (fun _ => ?_) (fun _ => ?_)
    · with_reducible refine State_hrpAnswer_kept ?_
      with_reducible refine State_satInc_kept ?_
      assumption
    · split
      · with_reducible refine State_hrpAnswer_kept ?_
        refine Kept.trd (by assumption) ?_
        refine hf3 _ ?_
        assumption

theorem State_hrpRead_kept {r s : State} {a1 a2} (h : Kept r s) :
    Kept r (State.hrpRead s a1 a2).2.2 := by
  unfold State.hrpRead
  split
  · show Kept _ _
    show Kept _ _
    with_reducible refine State_guardDeny_kept ?_
    assumption
  · with_reducible refine State_accRead_kept ?_
    assumption

theorem State_hrpWrite_kept {r s : State} {a1 a2 a3} (h : Kept r s) :
    Kept r (State.hrpWrite s a1 a2 a3).2.2 := by
  unfold State.hrpWrite
  extract_lets l0_0
  have hl0_0 : Kept r l0_0 := by
    unfold l0_0
    with_reducible refine State_busWrite_kept ?_
    assumption
  clear_value l0_0
  show Kept _ _
  show Kept _ _
  assumption

theorem State_hrpRmw_kept {r s : State} {a1 a2 a3} (h : Kept r s) :
    Kept r (State.hrpRmw s a1 a2 a3).2.2 := by
  unfold State.hrpRmw
  extract_lets l0_0 l0_1
  clear_value l0_0
  clear_value l0_1
  with_reducible refine State_hrpWrite_kept ?_
  assumption

theorem State_burstReason_kept {r s : State} {a1 a2 a3} (h : Kept r s) :
    Kept r (State.burstReason s a1 a2 a3).2 := by
  unfold State.burstReason
  split
  · show Kept _ _
    assumption
  · split
    · show Kept _ _
      with_reducible refine State_guardDeny_kept ?_
      assumption
    · split
      · split
        · show Kept _ _
          assumption
        · show Kept _ _
          assumption
      · split
        · show Kept _ _
          assumption
        · split
          · show Kept _ _
            assumption
          · show Kept _ _
            assumption

theorem State_hrpBurstRead_kept {r s : State} {a1 a2} (h : Kept r s) :
    Kept r (State.hrpBurstRead s a1 a2).2.2 := by
  unfold State.hrpBurstRead
  split
  · split
    · show Kept _ _
      show Kept _ _
      refine Kept.snd (by assumption) ?_
      with_reducible refine State_burstReason_kept ?_
      assumption
    · split
      · show Kept _ _
        show Kept _ _
        refine Kept.trd (by assumption) ?_
        with_reducible refine State_partsRead_kept ?_
        refine Kept.snd (by assumption) ?_
        with_reducible refine State_burstReason_kept ?_
        assumption

theorem State_hrpBurstWrite_kept {r s : State} {a1 a2} (h : Kept r s) :
    Kept r (State.hrpBurstWrite s a1 a2).2.2 := by
  unfold State.hrpBurstWrite
  split
  · split
    · show Kept _ _
      show Kept _ _
      refine Kept.snd (by assumption) ?_
      with_reducible refine State_burstReason_kept ?_
      assumption
    · split
      · show Kept _ _
        show Kept _ _
        refine Kept.snd (by assumption) ?_
        with_reducible refine State_partsWrite_kept ?_
        refine Kept.snd (by assumption) ?_
        with_reducible refine State_burstReason_kept ?_
        assumption

theorem State_parityFails_kept {r s : State} {a1} (h : Kept r s) :
    Kept r (State.parityFails s a1) := by
  unfold State.parityFails
  extract_lets l0_0
  have hl0_0 : Kept r l0_0 := by
    unfold l0_0
    refine Kept.ite (fun _ => ?_) (fun _ => ?_)
    · with_reducible refine State_satIncF_kept ?_
      assumption
    · assumption
  clear_value l0_0
  split
  · with_reducible refine State_raiseFault_kept ?_
    assumption
  · with_reducible refine State_raiseFault_kept ?_
    assumption
  · with_reducible refine State_raiseFault_kept ?_
    assumption
  · with_reducible refine State_raiseFault_kept ?_
    assumption

theorem State_setSv_kept {r s : State} {a1} (h : Kept r s) :
    Kept r (State.setSv s a1) := by
  unfold State.setSv
  with_reducible refine Kept.mk' ?_
  assumption

theorem State_svHold_kept {r s : State} (h : Kept r s) :
    Kept r (State.svHold s) := by
  unfold State.svHold
  with_reducible refine State_raiseFault_kept ?_
  with_reducible refine State_setSv_kept ?_
  assumption

theorem State_svBreach_kept {r s : State} {a1 a2 a3 a4} (h : Kept r s) :
    Kept r (State.svBreach s a1 a2 a3 a4) := by
  unfold State.svBreach
  extract_lets l0_0 l0_1
  clear_value l0_0
  clear_value l0_1
  refine Kept.ite (fun _ => ?_) (fun _ => ?_)
  · with_reducible refine State_svHold_kept ?_
    assumption
  · with_reducible refine State_raiseFault_kept ?_
    with_reducible refine State_setSv_kept ?_
    assumption

theorem State_putGranules_kept {r s : State} {a cs} (h : Kept r s) : Kept r (State.putGranules s a cs).2 := by
  induction cs generalizing s a with
  | nil => exact h
  | cons p ps ih =>
    unfold State.putGranules
    split
    · exact ih (State_putCap_kept h)
    · exact h

theorem State_svSpill_kept {r s t : State} {a0 e} (e : State.svSpill s a0 = some (e, t)) (h : Kept r s) : Kept r t := by
  unfold State.svSpill at e
  extract_lets l0 l1 l2 at e
  split at e
  · simp at e
  · split at e
    · simp at e
    · have h1 := State_putGranules_kept (a := l1) (cs := frameGranules (s.sv.banks.getD (l2 % 4) svBankFresh) l2) h
      rw [Option.some.inj e] at h1
      exact h1

theorem State_svEnter_kept {r s : State} {a b c d} (h : Kept r s) : Kept r (State.svEnter s a b c d).2 := by
  unfold State.svEnter
  extract_lets csp go low
  clear_value low
  have hg : ∀ t c, Kept r t → Kept r (go t c) := fun t c ht => State_setSv_kept ht
  clear_value go
  split
  · exact State_svBreach_kept h
  · split
    · exact hg _ _ h
    · split
      · exact State_svBreach_kept h
      · exact State_svBreach_kept (State_svSpill_kept (by assumption) h)
      · exact hg _ _ (State_svSpill_kept (by assumption) h)

theorem State_svCause_kept {r s : State} {a1 a2 a3 a4 a5 a6 a7 a8} (h : Kept r s) :
    Kept r (State.svCause s a1 a2 a3 a4 a5 a6 a7 a8) := by
  unfold State.svCause
  with_reducible refine State_setSv_kept ?_
  assumption

theorem State_svTake_kept {r s : State} {a1 a2 a3 a4} (h : Kept r s) :
    Kept r (State.svTake s a1 a2 a3 a4) := by
  unfold State.svTake
  extract_lets l0_0 l0_1
  clear_value l0_0
  clear_value l0_1
  refine Kept.ite (fun _ => ?_) (fun _ => ?_)
  · with_reducible refine State_svHold_kept ?_
    assumption
  · refine Kept.ite (fun _ => ?_) (fun _ => ?_)
    · with_reducible refine State_svBreach_kept ?_
      assumption
    · refine Kept.ite (fun _ => ?_) (fun _ => ?_)
      · with_reducible refine State_svBreach_kept ?_
        assumption
      · split
        · with_reducible refine State_svCause_kept ?_
          refine Kept.snd (by assumption) ?_
          with_reducible refine State_svEnter_kept ?_
          assumption
        · refine Kept.snd (by assumption) ?_
          with_reducible refine State_svEnter_kept ?_
          assumption

theorem State_svArith_kept {r s : State} (h : Kept r s) :
    Kept r (State.svArith s) := by
  unfold State.svArith
  with_reducible refine State_svTake_kept ?_
  with_reducible refine State_setSv_kept ?_
  assumption

theorem State_svRaise_kept {r s : State} {a0 a2} (h : Kept r s) (h0 : Kept r a0) :
    Kept r (State.svRaise a0 s a2) := by
  unfold State.svRaise
  refine Kept.ite (fun _ => ?_) (fun _ => ?_)
  · with_reducible refine State_svArith_kept ?_
    assumption
  · with_reducible refine State_svTake_kept ?_
    assumption

theorem State_svTrap_kept {r s : State} {a1 a2} (h : Kept r s) :
    Kept r (State.svTrap s a1 a2) := by
  unfold State.svTrap
  extract_lets l0_0 l0_1
  clear_value l0_0
  clear_value l0_1
  refine Kept.ite (fun _ => ?_) (fun _ => ?_)
  · with_reducible refine State_svHold_kept ?_
    assumption
  · refine Kept.ite (fun _ => ?_) (fun _ => ?_)
    · with_reducible refine State_svBreach_kept ?_
      assumption
    · split
      · with_reducible refine State_svCause_kept ?_
        refine Kept.snd (by assumption) ?_
        with_reducible refine State_svEnter_kept ?_
        assumption
      · refine Kept.snd (by assumption) ?_
        with_reducible refine State_svEnter_kept ?_
        assumption

theorem State_svDone_kept {r s : State} (h : Kept r s) :
    Kept r (State.svDone s) := by
  unfold State.svDone
  with_reducible refine Kept.mk' ?_
  assumption

theorem State_svFinish_kept {r s : State} {e} (h : Kept r s) (he : Kept r (Exe.after e)) : Kept r (State.svFinish s e) := by
  unfold State.svFinish
  repeat' first | exact h | exact he | with_reducible refine State_svRaise_kept ?_ ?_ | with_reducible refine State_svArith_kept ?_ | with_reducible refine State_svTrap_kept ?_ | with_reducible refine State_svDone_kept ?_ | with_reducible refine State_setSv_kept ?_ | split

theorem State_svBegin_kept {r s : State} (h : Kept r s) :
    Kept r (State.svBegin s) := by
  unfold State.svBegin
  with_reducible refine State_setSv_kept ?_
  assumption

theorem State_svRun_kept {r s : State} {cond word bad sys body} (h : Kept r s) (hb : ∀ c t, Kept r t → Kept r (Exe.after (body c t))) : Kept r (State.svRun s cond word bad sys body) := by
  unfold State.svRun
  split
  · exact h
  · extract_lets s1
    have h1 : Kept r s1 := State_svBegin_kept h
    clear_value s1
    split
    · exact State_svArith_kept h1
    · split
      · split
        · exact State_svRaise_kept (State_guardDeny_kept h1) h1
        · exact State_svRaise_kept h1 h1
      · split
        · exact State_svRaise_kept h1 h1
        · split
          · exact State_svFinish_kept h1 h1
          · split
            · exact State_svRaise_kept h1 h1
            · exact State_svFinish_kept h1 (hb _ _ h1)

theorem State_putG_kept {r s : State} {a1 a2} (h : Kept r s) :
    Kept r (State.putG s a1 a2) := by
  unfold State.putG
  with_reducible refine State_setSv_kept ?_
  assumption

theorem State_putC_kept {r s : State} {a1 a2} (h : Kept r s) :
    Kept r (State.putC s a1 a2) := by
  unfold State.putC
  with_reducible refine State_setSv_kept ?_
  assumption

theorem State_putFlags_kept {r s : State} {a1} (h : Kept r s) :
    Kept r (State.putFlags s a1) := by
  unfold State.putFlags
  with_reducible refine State_setSv_kept ?_
  assumption

theorem State_svGuard_kept {r s t : State} {a0 a1 a2 e} (e : State.svGuard s a0 a1 a2 = some (e, t)) (h : Kept r s) : Kept r t := by
  unfold State.svGuard at e
  split at e
  · simp at e
  · rw [Option.map_eq_some_iff] at e
    obtain ⟨x, _, e⟩ := e
    have e2 := congrArg Prod.snd e
    dsimp only at e2
    rw [← e2]
    exact State_guardDeny_kept h

theorem State_svLoad_kept {r s : State} {auth a n k} (h : Kept r s) (hk : ∀ v t, Kept r t → Kept r (Exe.after (k v t))) : Kept r (Exe.after (State.svLoad s auth a n k)) := by
  unfold State.svLoad
  split
  · exact h
  · split
    · exact State_svGuard_kept (by assumption) h
    · have h1 := State_accRead_kept (a1 := ⟨.headland, a, n, 0, true⟩) h
      generalize State.accRead s ⟨.headland, a, n, 0, true⟩ = q at h1 ⊢
      obtain ⟨x, v, t⟩ := q
      show Kept r (Exe.after (if x ≠ .none then .fault ⟨5, x, a, false⟩ t else k v t))
      split
      · exact h1
      · exact hk _ _ h1

theorem State_svStore_kept {r s : State} {auth a n v k} (h : Kept r s) (hk : ∀ t, Kept r t → Kept r (Exe.after (k t))) : Kept r (Exe.after (State.svStore s auth a n v k)) := by
  unfold State.svStore
  split
  · exact h
  · split
    · exact State_svGuard_kept (by assumption) h
    · have h1 := State_accWrite_kept (a1 := ⟨.headland, a, n, v, true⟩) h
      generalize State.accWrite s ⟨.headland, a, n, v, true⟩ = q at h1 ⊢
      obtain ⟨x, t⟩ := q
      show Kept r (Exe.after (if x ≠ .none then .fault ⟨5, x, a, true⟩ t else k t))
      split
      · exact h1
      · exact hk _ h1

theorem State_capRead_kept {r s : State} {a1} (h : Kept r s) :
    Kept r (State.capRead s a1).2.2 := by
  unfold State.capRead
  split
  · show Kept _ _
    show Kept _ _
    assumption
  · split
    · show Kept _ _
      show Kept _ _
      assumption
    · split
      · show Kept _ _
        show Kept _ _
        refine Kept.trd (by assumption) ?_
        with_reducible refine State_regionRead_kept ?_
        assumption

theorem State_capWrite_kept {r s : State} {a1 a2} (h : Kept r s) :
    Kept r (State.capWrite s a1 a2).2 := by
  unfold State.capWrite
  split
  · show Kept _ _
    assumption
  · split
    · show Kept _ _
      with_reducible refine State_reportWrite_kept ?_
      assumption
    · split
      · show Kept _ _
        refine Kept.ite (fun _ => ?_) (fun _ => ?_)
        · with_reducible refine Kept.mk' ?_
          refine Kept.snd (by assumption) ?_
          with_reducible refine State_regionWrite_kept ?_
          assumption
        · refine Kept.snd (by assumption) ?_
          with_reducible refine State_regionWrite_kept ?_
          assumption

theorem State_svLoadCap_kept {r s : State} {auth a k} (h : Kept r s) (hk : ∀ v t, Kept r t → Kept r (Exe.after (k v t))) : Kept r (Exe.after (State.svLoadCap s auth a k)) := by
  unfold State.svLoadCap
  split
  · exact h
  · split
    · exact State_svGuard_kept (by assumption) h
    · have h1 := State_capRead_kept (a1 := a) h
      generalize State.capRead s a = q at h1 ⊢
      obtain ⟨x, v, t⟩ := q
      show Kept r (Exe.after (if x ≠ .none then .fault ⟨5, x, a, false⟩ t else k ⟨v.tag && capHas auth 3, v.bits⟩ t))
      split
      · exact h1
      · exact hk _ _ h1

theorem State_svStoreCap_kept {r s : State} {auth a v k} (h : Kept r s) (hk : ∀ t, Kept r t → Kept r (Exe.after (k t))) : Kept r (Exe.after (State.svStoreCap s auth a v k)) := by
  unfold State.svStoreCap
  split
  · exact h
  · split
    · exact State_svGuard_kept (by assumption) h
    · have h1 := State_capWrite_kept (a1 := a) (a2 := v) h
      generalize State.capWrite s a v = q at h1 ⊢
      obtain ⟨x, t⟩ := q
      show Kept r (Exe.after (if x ≠ .none then .fault ⟨5, x, a, true⟩ t else k t))
      split
      · exact h1
      · exact hk _ h1

theorem State_intRun_kept {r s : State} {o fn sf} (h : Kept r s) : Kept r (State.intRun s o fn sf) := by
  unfold State.intRun
  refine State_svRun_kept h fun c t ht => ?_
  dsimp only
  refine Exe.kept_ite (a := .arith _) ht ?_
  · generalize intRes fn c.flags _ _ = q
    obtain ⟨x, f⟩ := q
    have h1 : Kept r (if (fn == 0x10 || fn == 0x11) = true then t else t.putG o.rd.toNat x) :=
      Kept.ite (fun _ => ht) fun _ => State_putG_kept ht
    have h2 := Kept.ite (c := sf = true) (inst := inferInstance) (fun _ => State_putFlags_kept (a1 := f) h1) (fun _ => h1)
    exact Exe.kept_ite (a := .arith _) (b := .go _) h2 h2

theorem State_immRun_kept {r s : State} {o major fn b sf test traps} (h : Kept r s) : Kept r (State.immRun s o major fn b sf test traps) := by
  unfold State.immRun
  refine State_svRun_kept h fun c t ht => ?_
  dsimp only
  generalize intRes fn c.flags _ _ = q
  obtain ⟨x, f⟩ := q
  have h1 : Kept r (if test = true then t else t.putG o.rd.toNat x) :=
    Kept.ite (fun _ => ht) fun _ => State_putG_kept ht
  have h2 := Kept.ite (c := sf = true) (inst := inferInstance) (fun _ => State_putFlags_kept (a1 := f) h1) (fun _ => h1)
  exact Exe.kept_ite (a := .arith _) (b := .go _) h2 h2

theorem State_fixRun_kept {r s : State} {o fn rsel} (h : Kept r s) : Kept r (State.fixRun s o fn rsel) := by
  unfold State.fixRun
  refine State_svRun_kept h fun c t ht => ?_
  dsimp only
  generalize fixRes fn _ c.flags _ _ = q
  exact State_putFlags_kept (State_putG_kept ht)

theorem State_accRun_kept {r s : State} {o fn rsel} (h : Kept r s) : Kept r (State.accRun s o fn rsel) := by
  unfold State.accRun
  refine State_svRun_kept h fun c t ht => ?_
  dsimp only
  generalize accRes fn _ c.flags _ _ _ = q
  exact Kept.ite (fun _ => State_putG_kept (State_putFlags_kept ht)) fun _ => State_setSv_kept (State_putFlags_kept ht)

theorem State_decRun_kept {r s : State} {o fn} (h : Kept r s) : Kept r (State.decRun s o fn) := by
  unfold State.decRun
  refine State_svRun_kept h fun c t ht => ?_
  dsimp only
  refine Exe.kept_ite (a := .arith _) ht ?_
  · generalize decRes fn c.flags _ _ = q
    exact Kept.ite (fun _ => State_putFlags_kept ht) fun _ => State_putFlags_kept (State_putG_kept ht)

theorem State_loadRun_kept {r s : State} {o major n ext} (h : Kept r s) : Kept r (State.loadRun s o major n ext) :=
  State_svRun_kept h fun _ _ ht => State_svLoad_kept ht fun _ _ hu => State_setSv_kept hu

theorem State_storeRun_kept {r s : State} {o major n} (h : Kept r s) : Kept r (State.storeRun s o major n) :=
  State_svRun_kept h fun _ _ ht => State_svStore_kept ht fun _ hu => hu

theorem State_capRun_kept {r s : State} {o fn bad body} (h : Kept r s) (hb : ∀ c t, Kept r t → Kept r (Exe.after (body c t))) : Kept r (State.capRun s o fn bad body) := State_svRun_kept h hb

theorem State_capDerive_kept {r s : State} {o fn fault op} (h : Kept r s) : Kept r (State.capDerive s o fn fault op) := by
  refine State_capRun_kept h fun c t ht => ?_
  extract_lets x v
  repeat' first | exact ht | exact State_putC_kept ht | split

theorem State_callRun_kept {r s : State} {c p leaves} (h : Kept r s) : Kept r (Exe.after (State.callRun s c p leaves)) := by
  unfold State.callRun
  extract_lets a b d
  clear_value b d
  split
  · exact h
  · split
    · exact h
    · exact State_svStoreCap_kept h fun t ht => State_putC_kept ht

theorem State_gateCheck_kept {r s t : State} {a0 e} (e : State.gateCheck s a0 = some (e, t)) (h : Kept r s) : Kept r t := by
  unfold State.gateCheck at e
  have q : ∀ {x y : SvFault} {u : State}, some (x, u) = some (y, t) → Kept r u → Kept r t := fun e hu => by
    injection e with e; injection e with _ e; exact e ▸ hu
  dsimp only at e
  split at e
  · exact q e h
  · split at e
    · rename_i hx; rw [e] at hx; exact State_svGuard_kept hx h
    · repeat' first | exact q e h | (simp at e; done) | split at e

theorem State_swAccess_kept {r s : State} {a1 a2 a3} (h : Kept r s) :
    Kept r (State.swAccess s a1 a2 a3) := by
  unfold State.swAccess
  extract_lets l0_0 l0_1 l0_2 l0_3 l0_4 l0_5 l0_6 l0_7 l0_8 l0_9 l0_10 l0_11
  clear_value l0_0
  clear_value l0_1
  clear_value l0_2
  clear_value l0_3
  clear_value l0_4
  clear_value l0_5
  clear_value l0_6
  have hl0_7 : Kept r l0_7 := by
    unfold l0_7
    refine Kept.ite (fun _ => ?_) (fun _ => ?_)
    · with_reducible refine State_fabricWrite_kept ?_
      assumption
    · with_reducible refine State_fabricRead_kept ?_
      assumption
  clear_value l0_7
  clear_value l0_8
  clear_value l0_9
  clear_value l0_10
  clear_value l0_11
  refine Kept.ite (fun _ => ?_) (fun _ => ?_)
  · refine Kept.ite (fun _ => ?_) (fun _ => ?_)
    · with_reducible refine State_swEach_kept ?_ ?_
      · assumption
      · intro z3_0 z3_1 z3_2
        with_reducible refine State_setMem_kept ?_
        assumption
    · with_reducible refine State_setSw_kept ?_
      assumption
  · refine Kept.ite (fun _ => ?_) (fun _ => ?_)
    · split
      · split
        · with_reducible refine State_setSw_kept ?_
          assumption
    · with_reducible refine State_setSw_kept ?_
      assumption

theorem State_bundleEffect_kept {r s : State} {a1 a2 a3 a4} (h : Kept r s) :
    Kept r (State.bundleEffect s a1 a2 a3 a4) := by
  unfold State.bundleEffect
  extract_lets l0_0 l0_1 l0_2
  clear_value l0_0
  clear_value l0_1
  clear_value l0_2
  split
  · extract_lets l2_0 l2_1
    have hl2_0 : Kept r l2_0 := by
      unfold l2_0
      with_reducible refine State_setSw_kept ?_
      assumption
    clear_value l2_0
    have hl2_1 : Kept r l2_1 := by
      unfold l2_1
      split
      · refine Kept.ite (fun _ => ?_) (fun _ => ?_)
        · assumption
        · with_reducible refine State_swAccess_kept ?_
          assumption
      · assumption
    clear_value l2_1
    with_reducible refine State_setSwPc_kept ?_
    with_reducible refine State_setSw_kept ?_
    assumption

theorem State_bundleEnd_kept {r s : State} {a1 a2 a3} (h : Kept r s) :
    Kept r (State.bundleEnd s a1 a2 a3) := by
  unfold State.bundleEnd
  extract_lets l0_0 l0_1 l0_2 l0_3 l0_4 l0_5 l0_6
  clear_value l0_0
  clear_value l0_1
  have hl0_2 : Kept r l0_2 := by
    unfold l0_2
    split
    · refine Kept.ite (fun _ => ?_) (fun _ => ?_)
      · with_reducible refine State_irqBit_kept ?_
        with_reducible refine State_swEach_kept ?_ ?_
        · assumption
        · intro z4_0 z4_1 z4_2
          with_reducible refine State_setReg_kept ?_
          assumption
      · assumption
    · assumption
  clear_value l0_2
  have hl0_3 : Kept r l0_3 := by
    unfold l0_3
    with_reducible refine State_swCount_kept ?_
    assumption
  clear_value l0_3
  clear_value l0_4
  have hl0_5 : Kept r l0_5 := by
    unfold l0_5
    refine Kept.ite (fun _ => ?_) (fun _ => ?_)
    · with_reducible refine State_setSw_kept ?_
      assumption
    · assumption
  clear_value l0_5
  clear_value l0_6
  refine Kept.ite (fun _ => ?_) (fun _ => ?_)
  · with_reducible refine State_swMirror_kept ?_
    with_reducible refine State_setRegF_kept ?_
    assumption
  · refine Kept.ite (fun _ => ?_) (fun _ => ?_)
    · with_reducible refine State_swHalt_kept ?_
      assumption
    · refine Kept.ite (fun _ => ?_) (fun _ => ?_)
      · with_reducible refine State_swMirror_kept ?_
        with_reducible refine State_swEnter_kept ?_
        with_reducible refine State_setSw_kept ?_
        assumption
      · with_reducible refine State_swMirror_kept ?_
        assumption

theorem State_bundle_kept {r s : State} {a1 a2} (h : Kept r s) :
    Kept r (State.bundle s a1 a2) := by
  unfold State.bundle
  refine Kept.ite (fun _ => ?_) (fun _ => ?_)
  · assumption
  · refine Kept.ite (fun _ => ?_) (fun _ => ?_)
    · with_reducible refine State_swHalt_kept ?_
      assumption
    · extract_lets l2_0 l2_1 l2_2 l2_3 l2_4 l2_5
      clear_value l2_0
      clear_value l2_1
      clear_value l2_2
      clear_value l2_3
      clear_value l2_4
      have hl2_5 : Kept r l2_5 := by
        unfold l2_5
        refine Kept.ite (fun _ => ?_) (fun _ => ?_)
        · with_reducible refine State_bundleEffect_kept ?_
          with_reducible refine State_draw_kept ?_
          assumption
        · assumption
      clear_value l2_5
      refine Kept.ite (fun _ => ?_) (fun _ => ?_)
      · with_reducible refine State_irqBit_kept ?_
        with_reducible refine State_setRegF_kept ?_
        with_reducible refine State_swHalt_kept ?_
        assumption
      · refine Kept.ite (fun _ => ?_) (fun _ => ?_)
        · with_reducible refine State_swEach_kept ?_ ?_
          · with_reducible refine State_swHalt_kept ?_
            assumption
          · intro z5_0 z5_1 z5_2
            with_reducible refine State_setReg_kept ?_
            assumption
        · split
          · refine Kept.ite (fun _ => ?_) (fun _ => ?_)
            · with_reducible refine State_swEach_kept ?_ ?_
              · assumption
              · intro z7_0 z7_1 z7_2
                with_reducible refine State_satInc_kept ?_
                assumption
            · with_reducible refine State_bundleEnd_kept ?_
              with_reducible refine State_bundleEffect_kept ?_
              assumption
          · with_reducible refine State_swHalt_kept ?_
            with_reducible refine State_draw_kept ?_
            assumption

theorem State_swResponse_kept {r s : State} {a1} (h : Kept r s) :
    Kept r (State.swResponse s a1) := by
  unfold State.swResponse
  split
  · assumption
  · extract_lets l1_0 l1_1 l1_2 l1_3 l1_4 l1_5 l1_6
    clear_value l1_0
    clear_value l1_1
    clear_value l1_2
    clear_value l1_3
    clear_value l1_4
    have hl1_5 : Kept r l1_5 := by
      unfold l1_5
      with_reducible refine State_setSw_kept ?_
      assumption
    clear_value l1_5
    have hl1_6 : Kept r l1_6 := by
      unfold l1_6
      refine Kept.ite (fun _ => ?_) (fun _ => ?_)
      · assumption
      · refine Kept.ite (fun _ => ?_) (fun _ => ?_)
        · with_reducible refine State_irqBit_kept ?_
          with_reducible refine State_swEach_kept ?_ ?_
          · assumption
          · intro z5_0 z5_1 z5_2
            with_reducible refine State_setReg_kept ?_
            assumption
        · with_reducible refine State_swEach_kept ?_ ?_
          · assumption
          · intro z4_0 z4_1 z4_2
            with_reducible refine State_setRegF_kept ?_
            assumption
    clear_value l1_6
    with_reducible refine State_swMirror_kept ?_
    assumption

end Sys2Proof.Machine
end

