-- ==== Sys2Proof/Tests/Slice0.lean ====
section
/-! SUPPORT. Tests on fixed values: ill-formed commands, small steps, and for every statement with premises states and operands
that meet them, for each clause of it. -/
set_option Elab.async false
set_option maxRecDepth 100000
set_option synthInstance.maxSize 4096
set_option synthInstance.maxHeartbeats 400000

open Sys2Proof Sys2Proof.Machine
namespace Sys2Proof.Wit

def coreState : State :=
  { State.reset with
    boot := { State.reset.boot with running := true }
    sv := { State.reset.sv with
      a0 := 5, a1 := 0x123456789ABCDEF012#72, cstat := 0xE0A5
      banks := listSet State.reset.sv.banks 0 { State.reset.sv.bank with
        g := [(1, 0x1FFFFFFF), (2, 0xF0000003), (4, 0x12345678), (5, 0x99999999)] } } }
/-- A capability of a cursor, base, length, permissions and object type. -/
def mkCap (cursor base length perms otype : Nat) : Cap :=
  ⟨true, BitVec.ofNat 128 (cursor + base * 2 ^ 32 + length * 2 ^ 64 + perms * 2 ^ 96 + otype * 2 ^ 112)⟩
/-- c6: the low 4 KiB of D-TCM, all permissions; c8: a sealing authority of type 5; c9: c6 sealed with 5; c10: code; c15: a
stack of 8 KiB in D-TCM. -/
def memState : State :=
  { coreState with
    mem := [(0x08100008, 0x81), (0x08100009, 0x92), (0x0810000A, 0xA3), (0x0810000B, 0xB4)]
    sv := { coreState.sv with
      cstat := 0xC000
      banks := listSet coreState.sv.banks 0
        { g := [(4, 0x08100010), (5, 0x1234ABCD), (7, 3)]
          c := [(6, mkCap 0x08100010 0x08100000 0x1000 0x7FF 0), (7, mkCap 0x08100010 0x08100000 0x1000 0x200 5),
            (8, mkCap 5 0 256 0x2C0 0), (9, mkCap 0x08100010 0x08100000 0x1000 0x7FF 5),
            (10, mkCap 0x08000100 0x08000000 0x10000 0x7FF 0), (14, mkCap 0 0 0xFFFFFFFF 0x7DE 0),
            (15, mkCap 0x08101000 0x08100000 0x2000 0x7FF 0)]
          epcc := mkCap 0x08000200 0x08000000 0x10000 0x7FF 255, estat := 0xA005 } } }
/-- A return capability stands at the stack's top. -/
def retState : State := memState.putCap 0x08101000 (mkCap 0x08000100 0x08000000 0x10000 0x7FF 0)
/-- At a depth, with a fault vector, gate 2 and ML 0. -/
def trapState (d : Nat) : State :=
  let s := memState.putCap 0x08100020 (mkCap 0x08000300 0x08000000 0x10000 0x7FF 255)
  { s with sv := { s.sv with
      depth := d, cstat := 0, gateBase := 0x08100000, fvec := mkCap 0x08000400 0x08000000 0x10000 0x7FF 0
      banks := List.replicate 4 s.sv.bank } }
/-- In Breach, entered from depth 2. -/
def breachState : State :=
  { trapState 2 with sv := { (trapState 2).sv with breach := true, breachBank := (trapState 2).sv.bank } }
/-- At depth 4, the first context spilled to the frame at csp. -/
def spillState : State :=
  let s := trapState 4
  (s.putGranules 0x08101000 (frameGranules s.sv.bank 0)).2
/-- Source 384 pending at level 3, its vector set. -/
def irqState : State :=
  let s := (trapState 0).setReg .icl 0x8C0 0x3
  let s := s.setReg .icp 0x830 1
  { s with sv := { s.sv with ivec := [(3, mkCap 0x08000500 0x08000000 0x10000 0x7FF 0)] } }
/-- Custom slots 1, an addition, and 2, a division by 0. -/
def customState : State :=
  { memState with sv := { memState.sv with
      ucode := [(0, 0x8000084A80000000), (1, 0x8002A84B40000000)]
      slots := [(1, 0, true, 1), (2, 1, true, 1)] } }
/-- Headland runs, and every on-demand domain is on. -/
def runState : State :=
  { coreState with domains := (([4, 5, 6, 7, 8, 9, 10] ++ (List.range 19).map (· + 17)).map fun d => (d, .on)) }
/-- As runState at an instant, with two queues bound to port 0 and one, bound to network port 496, in group 3. -/
def queueState : State :=
  let s := { runState with now := 100000000, fieldNow := 100000000 }
  let s := (s.wr (qtabAddr 5 0) (0x80000000 + 0)).wr (qtabAddr 5 4) 0xFF
  let s := s.setReg (.tio 0) 0x880 1
  let s := (s.wr (qtabAddr 6 0) (0x84300000 + 1)).wr (qtabAddr 6 4) 0xFF
  { s with tqf := { s.tqf with pool := [(7, ⟨5, .act, 200000000, 3, 0x8012, 0x1234, 0, false, false, false⟩),
      (8, ⟨6, .release, 90000000, 4, 0x2000, 0x1234, 0, false, false, false⟩)] } }
/-- Pin 2 runs a function, and an entry for it is due. -/
def pinState (f chan : Nat) (pay : Word) : State :=
  let s := { runState with now := 100000000, fieldNow := 100000000 }
  { s.setReg (.tio 0) 0x880 (wordOf f) with box := ⟨[], [⟨9, 5, 2, chan, 99999992, pay, true, true, false, false⟩]⟩ }
/-- Pin 2 with words of its record set. -/
def pinRec (f : Nat) (ws : List (Nat × Nat)) : State :=
  ws.foldl (fun s w => s.setReg (.tio 0) (0x880 + w.1) (wordOf w.2)) { pinState f 0 0 with box := ⟨[], []⟩ }
/-- Generator 1 configured on source 0x4000, span 1, port 2, running. -/
def genState : State :=
  let s := { pinState 8 0 0 with box := ⟨[], []⟩, src := [(0x4000, ⟨99990000, 500⟩)] }
  let s := (s.setReg .tioc 0x840 (wordOf (0x80000000 + 2 ^ 25 + 2 ^ 17 + 0x4000))).setReg .tioc 0x844 100
  (s.setReg .tioc 0x854 0x00100020).setGen 1 ⟨[⟨99900000, 400⟩], some 550, none, [(99999000, 450), (99999900, 500)], none, [], 99900000, some 99900000⟩
/-- Segment 0 and TSN port 0 run; channel 3 of each is a SET channel, 4 a SAFE one, 5 a SET with ACKREQ; entries wait on
channel 3. -/
def netState : State :=
  let s := { runState with now := 100000000, fieldNow := 100000000 }
  let s := { s with boot := { s.boot with released := true, firmware := true } }
  let regs := fun (s : State) (p : Page) (l : List (Nat × Nat)) => l.foldl (fun s w => s.setReg p w.1 (wordOf w.2)) s
  let s := regs s (.t1s 0) [(0x40, 0x4211), (0x44, 1600), (0x48, 800000), (0x58, 0x20005), (0x5C, 10), (0x60, 3),
    (0x400, 0x11223344), (0x404, 5), (0x830, 0x80010005), (0x840, 0x82010006), (0x850, 0x88010007)]
  let s := regs s (.tsn 0) [(0x40, 0x81), (0x44, 1), (0x58, 0x20005), (0x5C, 10), (0x830, 0x80010005), (0x840, 0x82010006), (0x850, 0x88010007), (0x83C, 0x00000010)]
  { s with box := ⟨[⟨9, 5, 448, 3, 104000000, 77, true, true, false, false⟩, ⟨10, 6, 496, 3, 100060000, 78, true, true, false, false⟩], []⟩ }
/-- As netState, with an open SAFE connection on channel 4 of port 448. -/
def safeState : State :=
  let s := (netState.wr (qtabAddr 5 0) 0x800009C0)
  { s with net := [(448, ⟨7, none, none, none, [⟨7, .set, 5, 0x010007, 5, 100900000, 99900000, 0⟩], [(4, ⟨3, some 8, 99000000, 99000000, 12⟩)], 0, 0, 0⟩)] }
/-- Slot 0 follows firmware source 0x4000, N = 2, at 0.1 µm in 80 ticks; station 0, with queue 5, and station 1 on no
source; template 0 with one visit at station 0; context 3 open, its visit 0 waiting for a mark 10,000,000 ticks away. -/
def trkState : State :=
  let s := { queueState with now := 100000000, tqf := ⟨[], [], [], [], [], 0⟩ }
  let s := (s.setReg .trk 0x800 0x80024000).setReg .trk 0x80C 1
  let s := { s with src := [(0x4000, ⟨99999900, 5000⟩)] }
  let s := ((s.wr (stationAddr 0 8) 0x80004000).wr (stationAddr 0 0x10) 0x00010005).wr (stationAddr 0 0x1C) 1
  let s := (s.wr (qtabAddr 5 4) 0xFF).wr (tplAddr 0 0) 1
  let s := ((s.wr (tplAddr 0 8) 1).setReg .trk 0x44 1).wr (ctxAddr 3 8) 0x4000
  let s := (s.wr (ctxAddr 3 0x1C) 0x80000000).setVstate 3 0 1
  let s := s.setVisit 3 0 ⟨130000, 5, 0, .none, false, 0, 0⟩
  s.setSlot 0 ⟨[⟨99999820, 4999⟩, ⟨99999740, 4998⟩, ⟨99999660, 4997⟩, ⟨99999580, 4996⟩, ⟨99999500, 4995⟩], [(3, 0)], 99999820, some 99999820⟩
/-- As trkState, with the visit in a state, its entry submitted for an instant. -/
def visState (st sub : Nat) : State :=
  ((trkState.setVstate 3 0 st).setVisit 3 0 ⟨4990, 5, sub, .none, false, 99900000, 7200⟩).wr (ctxAddr 3 0x20) 7
/-- Egress link 0 and ingress link 0 are enabled and up; camera 0 has 6 pixels in two lanes of strip 3 on ingress link 0. -/
def surfBase : State :=
  let regs := fun (s : State) (p : Page) (l : List (Nat × Nat)) => l.foldl (fun s w => s.setReg p w.1 (wordOf w.2)) s
  let s := { runState with now := 100000000, fieldNow := 100000000 }
  let s := { s with boot := { s.boot with released := true, firmware := true } }
  let s := regs s (.ghInL 0) [(0x0C, 5), (0x800, 1), (0x804, 3)]
  let s := regs s (.surfG 0) [(0x0C, 1), (0x80C, 0), (0x810, 65536), (0x800, 0x2000), (0x804, 0x30006), (0x81C, 4)]
  let s := s.setReg (.surfL 1) 0x0C 1
  regs s (.surfL 0) [(0x0C, 1), (0x804, 0x200010), (0x904, 0x200010)]
/-- Camera 0 runs; lines wait on its link. -/
def surfState : State :=
  let s := (surfBase.setReg (.surfG 0) 0x800 0x2001).camBegin 0
  s.setIn 0 { s.inLink 0 with lines := [⟨7, 0, [1, 2, 3, 4, 5, 6], 3⟩, ⟨8, 0, [1, 2, 3, 4, 5, 6], 3⟩] }
/-- As surfState, with lines 7 to 11 taken in. -/
def surfLines : State :=
  let s := surfState.setIn 0 { surfState.inLink 0 with lines := (List.range 8).map fun k => ⟨wordOf (7 + k), 0, [0, 80, 90, 0, 0, 0], 3⟩ }
  (((s.lineIntake 0).lineIntake 0).lineIntake 0).lineIntake 0
/-- As surfLines, with both lanes in BYPASS and BRIGHT. -/
def runLines : State :=
  let s := ((surfBase.setReg (.surfL 0) 0x800 0).setReg (.surfL 0) 0x900 0).setReg (.surfG 0) 0x800 0x2001
  let s := s.camBegin 0
  let s := s.setIn 0 { s.inLink 0 with lines := (List.range 8).map fun k => ⟨wordOf (7 + k), 0, [0, 80, 90, 40, 0, 0], 3⟩ }
  (((s.lineIntake 0).lineIntake 0).lineIntake 0).lineIntake 0
/-- Cameras 0 and 1 of one lane of 3 pixels each, stitched, line 8 accepted by both, one line waiting on each link. -/
def stitchState (a b : Nat) : State :=
  let regs := fun (s : State) (p : Page) (l : List (Nat × Nat)) => l.foldl (fun s w => s.setReg p w.1 (wordOf w.2)) s
  let s := regs surfBase (.surfG 0) [(0x800, 0x2001001), (0x804, 0x30003), (0x840, 0x1043), (0x844, 0x30003), (0x85C, 4)]
  let s := (s.camBegin 0).camBegin 1
  let s := (s.setCam 0 ⟨[], 2 ^ 32 + 7, 2 ^ 32 + 8, true, false⟩).setCam 1 ⟨[], 2 ^ 32 + 7, 2 ^ 32 + 8, true, false⟩
  let s := (s.setLane 0 ⟨2 ^ 32 + 7, [], [], false⟩).setLane 1 ⟨2 ^ 32 + 7, [], [], false⟩
  let s := s.setIn 0 { s.inLink 0 with lines := [⟨wordOf a, 0, [0, 0, 0], 1⟩] }
  s.setIn 1 { s.inLink 1 with lines := [⟨wordOf b, 0, [0, 0, 0], 1⟩] }
/-- As surfState, with ingress link 0 UP at one lane and 5 words of credit held, and egress link 0 UP with credit on every
VC. -/
def ghState : State :=
  let regs := fun (s : State) (p : Page) (l : List (Nat × Nat)) => l.foldl (fun s w => s.setReg p w.1 (wordOf w.2)) s
  let s := regs surfState (.ghIn 0) [(0x0C, 1), (0x800, 1), (0x804, 0x17), (0x40, 1)]
  let s := regs s (.ghOut 0) [(0x0C, 1), (0x800, 1)]
  let s := regs s .ghOutL [(0x0C, 1), (0x40, 0x77), (0x800, 1), (0x804, 3), (0x80C, 40), (0x810, 40), (0x814, 40), (0x818, 40), (0x81C, 2)]
  let s := s.setIn 0 ⟨[4, 9], [], [0, 0], [0, 0], [32, 4], 0, [], 0, []⟩
  let s := s.setRx 0 ⟨some 5, 0, 0⟩
  s.setTx 0 ⟨false, 99990000, [1, 2, 3, 4], false, 3, [], [], 0, 0, some 7, [0, 0, 0, 0], []⟩
/-- As ghState, with both links in a state. -/
def ghAt (st : Nat) : State := (ghState.setReg (.ghInL 0) 0x804 (wordOf st)).setReg .ghOutL 0x804 (wordOf st)
/-- A LINE of 6 pixels with a sequence number and a depth code. -/
def linePkt (seq depth : Nat) : List DWord := packet (headWord 0x33 0 0 2 1 seq) (BitVec.ofNat 64 (7 * 2 ^ 32 + 6 * 2 ^ 16 + depth * 2 ^ 14)) [0x060504030201]
/-- An EVENT with a code. -/
def evtPkt (seq : Nat) : List DWord := packet (headWord 0x66 1 (0x123 * 8) 0 1 seq) 0x5555 [0x1122334455667788]
/-- A CREDIT packet that grants limits. -/
def crdPkt (seq a b : Nat) : List DWord := packet (headWord 0x78 0 0 0 1 seq) (BitVec.ofNat 64 (a + b * 2 ^ 32)) [0]
/-- A TRAIN packet of a role and state. -/
def trnPkt (role state : Nat) : List DWord := packet (headWord 0x1E 0 0 0 0 3) (trainParam 0x99 role state 0 0) []
/-- Tidemark runs with its link up, all parameters applied, 100 counts on wheel 0, and the last strobe 1 µs ago. -/
def tmState : State :=
  let s := { runState with now := 100004000, fieldNow := 100004000 }
  let ps : Tab Word := [(1, 50000000), (2, 50000000), (3, 4), (4, 4), (5, 0), (6, 100), (7, 100), (8, 1), (9, 0)]
  let s := s.setRegF .tml 0x40 0 3 7
  { s with tm := { s.tm with run := true, live := ps, last := some 99992000, strobe := some 99992000, seq := 7, hw := 900, total := 50
                             hist := [⟨99992000, 12400000⟩, ⟨99984000, 12300000⟩], lastCount := 99990000
                             w0 := ⟨100, false, false, none, none, some 96, false, 1⟩
                             nv := { s.tm.nv with params := ps, key := List.range 32, nextRec := 5, nextTicket := 3, prevMac := [1, 2, 3, 4], events := 4 } } }
def tmRoll : TmRoll := ⟨77, 1000000, false, false, false, false⟩
/-- A last syllable of a slot, predicate and operation, and its low fields. -/
def syl (slot pred op rd rs1 rest : Nat) : Word := wordOf (2 ^ 31 + slot * 2 ^ 28 + pred * 2 ^ 25 + op * 2 ^ 19 + rd * 2 ^ 14 + rs1 * 2 ^ 9 + rest)
/-- Engine 0 runs at 16, where these syllables lie; g2 = 7, g3 = 0x100; a load to g9 is under way. -/
def swWith (ws : List Word) : State :=
  let s := { runState with now := 100000000, fieldNow := 100000000 }
  let s := (((s.setReg (.swell 0) 0x0C 1).setReg (.swell 0) 0x48 0x100001).setReg (.swell 1) 0x0C 1).setReg (.swell 0) 0x8C 0xE0000001
  let s := s.setSw 0 { swellFresh with g := [(2, 7), (3, 0x100), (5, 0x11223344)], loads := [⟨9, 0x99, 3, none⟩], stack := [40] }
  { s with mem := (ws.zipIdx.foldl (fun s w => s.setMem (swProg 0 + 4 * (16 + w.2)) 4 w.1.toNat) s).mem }
def swOne (slot pred op rd rs1 rest : Nat) : State := swWith [syl slot pred op rd rs1 rest]
/-- As swOne, as the even engine of a checked pair. -/
def swPair (s : State) : State := ((s.setReg (.swell 0) 0x44 0x20000).setReg (.swell 0) 0x6C 1).swMirror 0
/-- Timer 2 counts to 100, one count each 8 ticks, 100 ticks after a count of 40; route 0 starts converter 0 on its wrap. -/
def tmrState : State :=
  let s := { runState with now := 100000000, fieldNow := 100000000 }
  let regs := fun (s : State) (p : Page) (l : List (Nat × Nat)) => l.foldl (fun s w => s.setReg p w.1 (wordOf w.2)) s
  let s := regs s (.tmr 0) [(0x0C, 1), (0x854, 1), (0x848, 100), (0x84C, 45), (0x850, 90)]
  let s := (regs s .tmx [(0x0C, 1), (0x800, 0x8000000A)])
  s.setTimer 2 ⟨true, 40, 99999900, true, 100, 45, 90, none, false, none, none, []⟩
/-- As tmrState, with a route's action on timer 2 due. -/
def tmrRoute (kind : Nat) : State := { tmrState with routes := [⟨kind, 2, 99999980, 99999996⟩] }
/-- Channel 1 of the DMA controller is active: 64 bytes from System SRAM to System SRAM. -/
def dmaState : State :=
  let s := { runState with now := 100000000, fieldNow := 100000000 }
  let regs := fun (s : State) (p : Page) (l : List (Nat × Nat)) => l.foldl (fun s w => s.setReg p w.1 (wordOf w.2)) s
  let s := regs s (.guard 2) [(0x800, 0), (0x804, 0xFFFFFFE0), (0x808, 0x0F)]
  let s := regs s (.dma 0) [(0x0C, 1), (0x840, 0x20000010), (0x844, 0x20000100), (0x848, 8), (0x84C, 0x103), (0x854, 1)]
  { s with mem := (s.setMem 0x20000010 8 0x1122334455667788).mem, boot := { s.boot with firmware := true } }
/-- Watchdog 0, period 100 µs, tasks 0 and 3, has counted some µs; it was started. -/
def wdtState (us : Nat) (stat : Nat) : State :=
  let s := { runState with now := 100000000, fieldNow := 100000000 }
  let regs := fun (s : State) (p : Page) (l : List (Nat × Nat)) => l.foldl (fun s w => s.setReg p w.1 (wordOf w.2)) s
  let s := regs s (.wdt 0) [(0x0C, 1), (0x40, 100), (0x44, 9), (0x50, stat), (0x54, 9)]
  s.setWdog 0 ⟨100000000 - us * 8000, false, false, false, 0⟩
/-- Converter 0 runs, triggered or continuous. -/
def cvState (cfg : Nat) : State :=
  let s := { runState with now := 100000000, fieldNow := 100000000 }
  let regs := fun (s : State) (p : Page) (l : List (Nat × Nat)) => l.foldl (fun s w => s.setReg p w.1 (wordOf w.2)) s
  let s := regs s (.cv 0) [(0x0C, 1), (0x40, cfg), (0x44, 2)]
  s.setCv 0 ⟨some 99000000, 700, 7, [⟨-5, 6, 98000000⟩], ⟨0, 0, 0⟩, 0⟩
/-- An entry of the Slack plan, and a profile's header, with their CRCs. -/
def planPut (s : State) (c p i nt pay attrs : Nat) : State :=
  let a := profBase c p + 16 * i
  let crc := (crc16 (bytesLE 8 nt ++ bytesLE 4 pay ++ bytesLE 2 attrs)).toNat
  (((s.setMem a 8 nt).setMem (a + 8) 4 pay).setMem (a + 12) 2 attrs).setMem (a + 14) 2 crc
def planHead (s : State) (c p nent vref zlead : Nat) : State :=
  let h := hdrOff c p
  let crc := (crc16 (bytesLE 4 vref ++ bytesLE 4 zlead)).toNat
  ((s.setReg .slk h (wordOf (nent + crc * 65536))).setReg .slk (h + 4) (wordOf vref)).setReg .slk (h + 8) (wordOf zlead)
/-- Copy 0 is active until 200,000,000: profile 0 has two entries of pin 0, profile 7 one FIXED one; copy 1 holds the same. -/
def planState : State :=
  let s := { runState with now := 100000000, fieldNow := 100000000 }
  let s := (s.setReg (.tio 0) 0x800 1).setReg (.tio 0) 0x0C 1
  let s := (s.setReg .slk 0x4C 0x408).setReg64 .slk 0x54 200000000
  [0, 1].foldl (fun s c =>
    let s := (List.range 8).foldl (fun s p => planHead s c p (if p = 0 then 2 else if p = 7 then 1 else 0) 19660800 640000) s
    planPut (planPut (planPut s c 0 0 0 1 0) c 0 1 1000000 0 0) c 7 0 5000 1 4) s
/-- As planState, with PLAN_STAT. -/
def planAt (stat : Nat) : State := planState.setReg .slk 0x4C (wordOf stat)
/-- As planState, in a Slack stop whose P was 99,992,000, the scale speed 20,000,000. -/
def playState (begun : Bool) : State :=
  let s := (planState.setReg .slk 0x7C 0x2000).setBwState 1
  s.setBw { s.bw with play := some ⟨99992000, begun, 0, 0, false, 100000000, 20000000, [], true⟩ }
/-- As planState, with core 1 out of the lockstep in a phase. -/
def lsState (ph : OutPhase) : State :=
  (planState.setLs 2 1 false).setLock { planState.bw.ls with out := some (1, ph), since := 99900000, pairSince := some 99900000 }
/-- As playState, both entries handed over and their instants past. -/
def playEnd : State :=
  { (playState true).setBw { (playState true).bw with play := some ⟨99992000, true, 0, 0, false, 100000000, 20000000, [0, 1], true⟩ } with
    now := 102000000 }
/-- As planState, with source 0x2002 as the speed source, the samples taken, and its latest one. -/
def spdState (h : List Sample) (n coord : Nat) : State :=
  { (planState.setReg .slk 0x64 0x2002).setBw { planState.bw with spd := ⟨h, n, none, 99984000, false⟩ } with
    src := [(0x2002, ⟨99992000, coord⟩)] }
/-- A device in use: planState with an entry in the pool, a byte of System SRAM, flash and I-TCM, counts of resets. -/
def useState : State :=
  let s := { planState with tqf := queueState.tqf, swell := [(3, swellFresh)], tags := [0x810001, 0x2000001, 0x2020002, 0x2040003], tmr := [(2, tmrState.timer 2)] }
  let s := ((s.setMem 0x20000010 1 5).setMem 0x50000010 1 6).setMem 0x08000010 1 7
  ((s.setReg .sys 0x74 0x30004).setReg .lee 0x50 0).setReg .tqs 0x44 3
/-- As useState, its supply so. -/
def supState (x : Supply) : State := { useState with supply := x }
/-- NEAP and idle, WAKE_EN so, DORMANT's key sequence open. -/
def restState (wake : Nat) : State :=
  let s := { planState with power := .neap }
  let s := (s.setReg .lee 0x40 (wordOf wake)).setReg .lee 0x44 100
  { s with fab := { s.fab with keys := [(Page.base .pwr, KeySeq.opened 1 100000000)] } }
/-- As restState, its entry under way, or asleep. -/
def sleepState (wake : Nat) (d : Dormant) : State :=
  let s := restState wake
  { s with dormant := d, tm := { s.tm with w0 := tmState.tm.w0 } }
def facts : StartFacts := ⟨true, true, [], 12, 0x203, 5000⟩
/-- Headland runs in the boot ROM, which waits for a stream. -/
def waitState : State := { planState with boot := { planState.boot with wait := true, stream := [1, 2, 3, 4] } }
/-- As planState, with an HRP guard that opens System SRAM and the registers. -/
def hrpState : State :=
  let s := planState
  let s := ((s.setReg (.guard 1) 0x800 0).setReg (.guard 1) 0x804 0xFFFFFFE0).setReg (.guard 1) 0x808 0x0F
  s.setMem 0x20000010 4 0x44332211
/-- As planState, the power state so. -/
def powState (p : PowerState) : State := { planState with power := p }
/-- The least image: a header, one I-TCM section of 16 bytes, no signature. -/
def image : List Nat :=
  let word (n : Nat) : List Nat := bytesLE 4 n
  word 0xD1A00001 ++ word 272 ++ word 3 ++ [0, 1, 0, 0] ++ word 0 ++ List.replicate 108 0
    ++ (word 1 ++ word 256 ++ word 16 ++ word 0x08000000) ++ List.replicate 112 0 ++ (List.range 16).map (· + 1) ++ List.replicate 64 0
/-- That image lies in a slot of flash. -/
def bootState (slot : Nat) : State := useState.putBytes (0x50000000 + slot * 0x1000000) image
/-- Headland waits for a stream, of which that image has come. -/
def streamState : State := { waitState with boot := { waitState.boot with stream := image } }
/-- As netState, with TSN port 0 on and a count in it. -/
def tsnState : State := { netState with domains := netState.domains ++ [(100, DomState.on)] }.setReg (.tsn 0) 0x60 5
end Sys2Proof.Wit

namespace Sys2Proof.Tests
open Sys2Proof.Wit

/-! ### Well-formedness -/

/-- Masters, accesses, pages, words, ports, slots and tables outside their ranges: each is refused. -/
theorem test_illFormed_refused : ((([.registerWrite ⟨.swell 16, 0x40000000, 4, 0, true⟩, .registerWrite ⟨.headland, 2 ^ 32, 4, 0, true⟩,
    .registerWrite ⟨.headland, 0x40000000, 3, 0, true⟩, .registerWrite ⟨.headland, 0x40000000, 4, 2 ^ 32, true⟩,
    .pageCtrlWrite .headland (.tio 14) 0, .pageCtrlWrite .headland .tb (2 ^ 64), .irqSet .headland .tb (2 ^ 32),
    .softResetDone (.cv 16), .syncReceive 512 0, .queueTableWrite .headland 65536 false 0, .submitStage .headland 65536 0 false 0,
    .submitStage .headland 0 3 false 0, .releaseFire 65536, .logConfigWrite .headland 3 false 0] : List Instr)).all fun i => !i.wf) = true := by decide +kernel
/-- Pins, generators, segments, TSN ports, channels, frames, tracker tables outside their ranges: each is refused. -/
theorem test_illFormedField_refused : ((([.levelAction 512, .capturePop .headland 14 false, .generatorSample 16, .syncSend 48, .tsnMasterSyncSend 16,
    .safeKeepalive 448 128, .ackReceive 448 ⟨true, false, false, 16, 0, 0, 0, 0, [], 0, 0⟩, .trackerSourceSample 16, .fwInstStage .headland 64 0,
    .stationWrite .headland 256 0 0, .visitFreeze 16384 0, .visitFreeze 0 8, .appendWord .headland 7 0] : List Instr)).all fun i => !i.wf) = true := by decide +kernel
/-- Cameras, lanes, links, wheels, engines, plan, faults, timers, DMA, watchdogs, converters, host frames, BIST: each is refused. -/
theorem test_illFormedUnits_refused : ((([.lineIntake 16, .laneLineComplete 64, .patchRowSend 8, .gheryLaneClr .headland 24, .txlClr .headland 4, .zEdge 2,
    .gclr .headland (.swell 16), .swellRun .headland 16, .apertureAccess .headland 0 0 3 false 0, .pairCopyDone 8,
    .planMemoryWrite .headland 0 3 0, .planHeaderWrite .headland 2 0 0 0, .isoRel .headland 64, .registerScrub [.tio 14],
    .timerWrap 32, .timerMatch 0 2, .dmaRequest 32, .watchdogExpiry 9, .wdtCheckin .headland 0 32, .converterStart 16,
    .hrpStatus 256 true, .hrpRead32 0 (2 ^ 32) true, .hrpRmw32 0 0 (2 ^ 32) 0 true, .hrpBurstWrite 0 0 [256] true,
    .bistSramMarch .headland 4] : List Instr)).all fun i => !i.wf) = true := by decide +kernel
theorem test_wellFormed_accepted : ([.registerWrite ⟨.swell 15, 0x40000000, 8, 2 ^ 64 - 1, true⟩, .levelAction 511, .zEdge 1,
    .add ⟨0, 31, 31, 255⟩ true].all fun i => Instr.wf i) = true := by decide +kernel

/-! ### Small steps -/

/-- No row of the opcode table has bits, so no word spells a command. -/
theorem test_noWordDecodes (nbits w : Nat) : decodeTableWord nbits w = none := rfl
/-- R308, R309: 3 + 1 = 4, by a step that takes the command from the queue. -/
theorem test_add_step : (match step { memState with pending := [.addi ⟨15, 5, 7, 1⟩] } with
    | .next t => decide (t.sv.gr 5 = 4 ∧ t.pending = []) | _ => false) = true := by decide +kernel
/-- R24: an empty queue lets 8 ticks pass. -/
theorem test_idle_step : (match step runState with | .next t => decide (t.now = 8) | _ => false) = true := by decide +kernel
/-- R391, example Line K4: TRAP at depth 3 spills to the frame at csp − 0x200. -/
theorem test_trap_spills : (match exec (.trap 15 0 2) (trapState 3) with
    | .next t => decide (t.sv.depth = 4 ∧ capCursor (t.sv.cr 15) = 0x08100E00 ∧ t.memN 0x08100F80 4 = 0xF5A10000) | _ => false)
    = true := by decide +kernel
/-- R519: VSUP above 60 V is outside the absolute maximum, and the model stops. -/
theorem test_absolute_maximum : (match exec (.monitorExcursion (.rail 8 0 true 60001)) planState with
    | .fault .absoluteMaximum => true | _ => false) = true := by decide +kernel

/-! ### Premises that can be met -/

/-- The premises of idleStep are met. -/
theorem wit_emptyQueueIsOneCycle :
    (let s : State := runState
    s.pending = [] ∧ s.timeRuns = true ∧ s.boot.portsAt = none ∧ s.reg .tb 0x50 = 0 ∧ -(2 ^ 32) < s.tbs.rateAcc ∧ s.tbs.rateAcc
      < 2 ^ 32)
    ∧ (let s : State := { runState with supply := ⟨false, none, false, true, false, 0, 0, false⟩ }
    s.pending = [] ∧ s.timeRuns = false) := by
  refine ⟨?_, ?_⟩ <;> (dsimp only; decide +kernel)

/-- The premises of oneCommandEachStep are met. -/
theorem wit_oneCommandEachStep :
    (let s : State := runState
    (match step s with | .next _ => true | _ => false) = true) := by
  dsimp only
  decide +kernel

/-- The premises of everyStepKeepsMemory are met. -/
theorem wit_memoryStaysCanonical :
    (let s : State := memState
    s.memOk ∧ (match step s with | .next _ => true | _ => false) = true) := by
  dsimp only
  decide +kernel

/-- The premises of coreRegisters, entrySaves are met. -/
theorem wit_banksAndEntries :
    (let c : SvCore := memState.sv
    c.banks.length = 4)
    ∧ (let s : State := trapState 2
    s.sv.banks.length = 4 ∧ s.sv.breach = false ∧ s.sv.depth < 3) := by
  refine ⟨?_, ?_⟩ <;> (dsimp only; decide +kernel)

/-- The premises of conditionFalse are met. -/
theorem wit_conditionFalse :
    (let i : Instr := .add ⟨1, 5, 4, 7⟩ true
    let s : State := memState
    s.svForm i = some (1#4, wordR 0x00 64 ⟨1, 5, 4, 7⟩, false) ∧ s.svIssues = true ∧ s.sv.arith ≠ some 8 ∧ s.svFetchFault =
      none ∧ condHolds 1 s.sv.flags = false ∧ ((s.svBegin.sv.atEnd s.svBegin.sv.pc).all fun k => !s.svBegin.sv.endBad k) = true
      ∧ s.sv.innermost = none) := by
  dsimp only
  decide +kernel

/-- The premises of undefinedForm are met. -/
theorem wit_undefinedForms :
    (let i : Instr := .clz ⟨15, 5, 4, 7⟩ false
    let s : State := trapState 1
    let u : State := s.svBegin
    let level : Nat := fld s.sv.flvl 0 3
    (s.svForm i).map (fun x => x.2.2) = some true ∧ s.svIssues = true ∧ s.sv.arith = none ∧ s.svFetchFault = none ∧ s.sv.breach
      = false ∧ s.sv.ml < level ∧ s.sv.fvec ≠ nullCap ∧ (u.svEnter s.sv.fvec level s.sv.pcc s.sv.pcc).1 = true) := by
  dsimp only
  decide +kernel

/-- The premises of spillWritesFrame are met. -/
theorem wit_spillFrame :
    (let s : State := trapState 4
    let csp : Cap := s.sv.cr 15
    let low : Nat := capCursor csp - 512
    s.sv.banks.length = 4 ∧ s.sv.breach = false ∧ 3 ≤ s.sv.depth ∧ s.sv.depth < 65535 ∧ csp.tag = true ∧ capOtype csp = 0 ∧
      capHas csp 2 = true ∧ capHas csp 4 = true ∧ capCursor csp % 16 = 0 ∧ 512 ≤ capCursor csp ∧ capBase csp ≤ low ∧ capCursor
      csp ≤ capBase csp + capLength csp ∧ framePlace low = true ∧ unguarded .headland low = true ∧ low < 0x20000000) := by
  dsimp only
  decide +kernel

/-- The premises of trapReturns are met. -/
theorem wit_trapAndReturn :
    (let s : State := trapState 2
    let t : State := (match exec (.trap 15 0 2) s with | .next t => t | _ => s)
    s.svStarts 15 ∧ s.sv.arith = none ∧ s.sv.banks.length = 4 ∧ s.sv.depth < 3 ∧ s.sv.breach = false ∧ s.sv.ml < fld s.sv.flvl
      24 3 ∧ s.svBegin.gateCheck 2 = none ∧ t.sv.depth = 3 ∧ t.svStarts 15 ∧ capHas t.sv.pcc 5 = true ∧ (capSetCursor s.sv.pcc
      (capCursor s.sv.pcc + 4)).jumps) := by
  dsimp only
  decide +kernel

/-- The premises of capabilitiesOnlyNarrow are met. -/
theorem wit_capabilitiesOnlyNarrow :
    (let s : State := memState
    s.sv.banks.length = 4 ∧ s.svIssues = true) := by
  dsimp only
  decide +kernel

/-- The premises of loadDelay are met. -/
theorem wit_loadDelay :
    (let s : State := { memState with sv := { memState.sv with load := some (.word 4 77) } }
    s.sv.banks.length = 4 ∧ s.sv.load = some (.word 4 77) ∧ s.svReady 15)
    ∧ (let s : State := { irqState with sv := { irqState.sv with load := some (.word 4 77) } }
    s.sv.banks.length = 4 ∧ s.computeRuns = true ∧ s.boot.running = true ∧ s.sv.hold = false ∧ s.sv.breach = false ∧ s.sv.arith
      = none ∧ s.sv.depth < 3 ∧ s.irqBest s.sv.ml = some (384, 3) ∧ tabGet nullCap s.sv.ivec 3 ≠ nullCap) := by
  refine ⟨?_, ?_⟩ <;> (dsimp only; decide +kernel)

/-- The premises of rejectedWrite are met. -/
theorem wit_rejectedWrites :
    (let s : State := planState
    let x : Access := ⟨.headland, Page.base .tb + 0x40, 4, 5, true⟩
    Page.valid .tb = true ∧ Page.present s.fuses .tb = true ∧ s.sends .headland = true ∧ (unguarded .headland x.addr = true ∨
      s.guardFault .headland .store x.addr 4 = none) ∧ s.decode .headland x.addr 4 = some (.page .tb) ∧ (s.accWrite x).1 ≠
      .none) := by
  dsimp only
  decide +kernel

/-- The premises of ramRoundTrip are met. -/
theorem wit_memoryRoundTrip :
    (let s : State := useState
    s.accepts ⟨.headland, 0x20000010, 8, 0x1122334455667788, true⟩ ∧ s.serves ⟨.headland, 0x20000010, 8, 0, true⟩) := by
  dsimp only
  decide +kernel

/-- The premises of startUpRuns, bootRuns, bootChecks are met. -/
theorem wit_startUpAndBoot :
    (let f : StartFacts := facts
    let s : State := useState
    f.rails = true ∧ s.fuses.lifeCycle ≠ .field)
    ∧ (let f : StartFacts := { facts with rails := false, selfTest := false, bist := [(14, none), (20, none)] }
    f.rails = false ∧ f.selfTest = false ∧ bistVital 14 = true ∧ f.bist.find? (fun x => x.1 = 14) = some (14, none))
    ∧ (let f : StartFacts := { facts with selfTest := false, bist := [(14, none), (20, none)] }
    let s : State := { useState with fuses := { useState.fuses with kind := .d9256 } }
    f.rails = true ∧ f.selfTest = false ∧ f.bist.find? (fun x => x.1 = 14) = some (14, none) ∧ bistVital 14 = true ∧
      f.bist.find? (fun x => x.1 = 20) = some (20, none) ∧ bistVital 20 = false ∧ s.fuses.kind ≠ .t9512)
    ∧ (let s : State := { useState with fuses := { useState.fuses with bootCfg := 1 } }
    s.fuses.lifeCycle ≠ .return_ ∧ fld s.fuses.bootCfg 0 2 = 1)
    ∧ (let s : State := useState
    let u : State :=
      { s with now := (s.now + 5) % 2 ^ 64, fieldNow := (s.fieldNow + 5) % 2 ^ 64, boot := { s.boot with running := true } }
    s.fuses.lifeCycle ≠ .return_ ∧ fld s.fuses.bootCfg 0 2 ≠ 1 ∧ (u.bootTry (u.slotImage 0) false).result ≠ 0 ∧ (u.bootTry
      (u.slotImage 1) false).result ≠ 0)
    ∧ (let s : State := bootState 0
    let u : State :=
      { s with now := (s.now + 5) % 2 ^ 64, fieldNow := (s.fieldNow + 5) % 2 ^ 64, boot := { s.boot with running := true } }
    s.fuses.lifeCycle ≠ .return_ ∧ fld s.fuses.bootCfg 0 2 ≠ 1 ∧ (u.bootTry (u.slotImage 0) false).result = 0 ∧ (u.bootTry
      (u.slotImage 1) false).result ≠ 0)
    ∧ (let s : State := bootState 1
    let u : State :=
      { s with now := (s.now + 5) % 2 ^ 64, fieldNow := (s.fieldNow + 5) % 2 ^ 64, boot := { s.boot with running := true } }
    s.fuses.lifeCycle ≠ .return_ ∧ fld s.fuses.bootCfg 0 2 ≠ 1 ∧ (u.bootTry (u.slotImage 0) false).result ≠ 0 ∧ (u.bootTry
      (u.slotImage 1) false).result = 0)
    ∧ (let s : State := useState
    imgMagicOk image = true ∧ imgRulesOk image false = true ∧ imgMagicOk [1] = false ∧ imgRulesOk (listSet image 13 9) false =
      false ∧ imgMagicOk (listSet image 13 9) = true ∧ s.fuses.lifeCycle = .test ∧ s.imgSigned image ≠ 0) := by
  refine ⟨?_, ?_, ?_, ?_, ?_, ?_, ?_, ?_⟩ <;> (dsimp only; decide +kernel)

/-- The premises of planPasses are met. -/
theorem wit_planValidation :
    (let s : State := planState
    s.planValidate 1 0 = (0, 0, 0) ∧ s.regF .slk 0x60 0 3 < 8)
    ∧ (let s : State := planState.setReg .slk (hdrOff 1 2 + 4) 0
    s.vRef 1 2 = 0)
    ∧ (let s : State := planState.setReg .slk (hdrOff 1 2) 0
    (∀ p, p < 8 → s.planHeader 1 0 p = none) ∧ s.hdrCrcOk 1 2 = false) := by
  refine ⟨?_, ?_, ?_⟩ <;> (dsimp only; decide +kernel)

/-- The premises of addDoes, adcDoes, subDoes, sbcDoes, andDoes, orDoes, xorDoes, bicDoes are met. -/
theorem wit_sumsAndLogic :
    (let o : OpR := ⟨15, 3, 1, 2⟩
    let sf : Bool := true
    let s : State := coreState
    let a := s.sv.gr o.rs1.toNat
    let b := s.sv.gr o.rs2.toNat
    let r : Word := a + b
    s.svReady o.cond ∧ (¬ (sf = true ∧ s.sv.trapov = true ∧ decide (a.toInt + b.toInt ≠ r.toInt) = true)))
    ∧ (let o : OpR := ⟨15, 3, 1, 2⟩
    let sf : Bool := true
    let s : State := coreState
    let a := s.sv.gr o.rs1.toNat
    let b := s.sv.gr o.rs2.toNat
    let f := s.sv.flags
    let r : Word := a + b + (if f.c then 1#32 else 0#32)
    s.svReady o.cond ∧ (¬ (sf = true ∧ s.sv.trapov = true ∧ decide (a.toInt + b.toInt + (if f.c then 1 else 0) ≠ r.toInt) =
      true)))
    ∧ (let o : OpR := ⟨15, 3, 1, 2⟩
    let sf : Bool := true
    let s : State := coreState
    let a := s.sv.gr o.rs1.toNat
    let b := s.sv.gr o.rs2.toNat
    let r : Word := a - b
    s.svReady o.cond ∧ (¬ (sf = true ∧ s.sv.trapov = true ∧ decide (a.toInt - b.toInt ≠ r.toInt) = true)))
    ∧ (let o : OpR := ⟨15, 3, 1, 2⟩
    let sf : Bool := true
    let s : State := coreState
    let a := s.sv.gr o.rs1.toNat
    let b := s.sv.gr o.rs2.toNat
    let f := s.sv.flags
    let r : Word := a - b - (if f.c then 1#32 else 0#32)
    s.svReady o.cond ∧ (¬ (sf = true ∧ s.sv.trapov = true ∧ decide (a.toInt - b.toInt - (if f.c then 1 else 0) ≠ r.toInt) =
      true)))
    ∧ (let o : OpR := ⟨15, 3, 1, 2⟩
    let s : State := coreState
    s.svReady o.cond)
    ∧ (let o : OpR := ⟨15, 3, 1, 2⟩
    let s : State := coreState
    s.svReady o.cond)
    ∧ (let o : OpR := ⟨15, 3, 1, 2⟩
    let s : State := coreState
    s.svReady o.cond)
    ∧ (let o : OpR := ⟨15, 3, 1, 2⟩
    let s : State := coreState
    s.svReady o.cond) := by
  refine ⟨?_, ?_, ?_, ?_, ?_, ?_, ?_, ?_⟩ <;> (dsimp only; decide +kernel)

/-- The premises of shlDoes, shrDoes, sarDoes, rorDoes, shliDoes, shriDoes, sariDoes, roriDoes are met. -/
theorem wit_shiftRules :
    (let o : OpR := ⟨15, 3, 1, 2⟩
    let s : State := coreState
    s.svReady o.cond)
    ∧ (let o : OpR := ⟨15, 3, 1, 2⟩
    let s : State := coreState
    s.svReady o.cond)
    ∧ (let o : OpR := ⟨15, 3, 1, 2⟩
    let s : State := coreState
    s.svReady o.cond)
    ∧ (let o : OpR := ⟨15, 3, 1, 2⟩
    let s : State := coreState
    s.svReady o.cond)
    ∧ (let o : OpR := ⟨15, 3, 1, 2⟩
    let s : State := coreState
    s.svReady o.cond)
    ∧ (let o : OpR := ⟨15, 3, 1, 2⟩
    let s : State := coreState
    s.svReady o.cond)
    ∧ (let o : OpR := ⟨15, 3, 1, 2⟩
    let s : State := coreState
    s.svReady o.cond)
    ∧ (let o : OpR := ⟨15, 3, 1, 2⟩
    let s : State := coreState
    s.svReady o.cond) := by
  refine ⟨?_, ?_, ?_, ?_, ?_, ?_, ?_, ?_⟩ <;> (dsimp only; decide +kernel)

/-- The premises of mulDoes, mulhDoes, mulhuDoes, divDoes, divuDoes, remDoes, remuDoes, minDoes, maxDoes, minuDoes, maxuDoes,
revDoes, sxtbDoes, sxthDoes, zxtbDoes, zxthDoes, clzDoes are met. -/
theorem wit_productsAndQuotients :
    (let o : OpR := ⟨15, 3, 1, 2⟩
    let s : State := coreState
    s.svReady o.cond)
    ∧ (let o : OpR := ⟨15, 3, 1, 2⟩
    let s : State := coreState
    s.svReady o.cond)
    ∧ (let o : OpR := ⟨15, 3, 1, 2⟩
    let s : State := coreState
    s.svReady o.cond)
    ∧ (let o : OpR := ⟨15, 3, 1, 2⟩
    let sf : Bool := true
    let s : State := coreState
    let a := s.sv.gr o.rs1.toNat
    let b := s.sv.gr o.rs2.toNat
    s.svReady o.cond ∧ b ≠ 0 ∧ (¬ (sf = true ∧ s.sv.trapov = true ∧ (a == 0x80000000#32 && b == 0xFFFFFFFF#32) = true)))
    ∧ (let o : OpR := ⟨15, 3, 1, 2⟩
    let s : State := coreState
    let b := s.sv.gr o.rs2.toNat
    s.svReady o.cond ∧ b ≠ 0)
    ∧ (let o : OpR := ⟨15, 3, 1, 2⟩
    let s : State := coreState
    let b := s.sv.gr o.rs2.toNat
    s.svReady o.cond ∧ b ≠ 0)
    ∧ (let o : OpR := ⟨15, 3, 1, 2⟩
    let s : State := coreState
    let b := s.sv.gr o.rs2.toNat
    s.svReady o.cond ∧ b ≠ 0)
    ∧ (let o : OpR := ⟨15, 3, 1, 2⟩
    let s : State := coreState
    s.svReady o.cond)
    ∧ (let o : OpR := ⟨15, 3, 1, 2⟩
    let s : State := coreState
    s.svReady o.cond)
    ∧ (let o : OpR := ⟨15, 3, 1, 2⟩
    let s : State := coreState
    s.svReady o.cond)
    ∧ (let o : OpR := ⟨15, 3, 1, 2⟩
    let s : State := coreState
    s.svReady o.cond)
    ∧ (let o : OpR := ⟨15, 3, 1, 0⟩
    let s : State := coreState
    s.svReady o.cond ∧ o.rs2 = 0)
    ∧ (let o : OpR := ⟨15, 3, 1, 0⟩
    let s : State := coreState
    s.svReady o.cond ∧ o.rs2 = 0)
    ∧ (let o : OpR := ⟨15, 3, 1, 0⟩
    let s : State := coreState
    s.svReady o.cond ∧ o.rs2 = 0)
    ∧ (let o : OpR := ⟨15, 3, 1, 0⟩
    let s : State := coreState
    s.svReady o.cond ∧ o.rs2 = 0)
    ∧ (let o : OpR := ⟨15, 3, 1, 0⟩
    let s : State := coreState
    s.svReady o.cond ∧ o.rs2 = 0)
    ∧ (let o : OpR := ⟨15, 3, 1, 0⟩
    let k : Nat := 3
    let s : State := coreState
    let a := s.sv.gr o.rs1.toNat
    s.svReady o.cond ∧ o.rs2 = 0 ∧ k ≤ 32 ∧ (List.range k).all (fun i => !a.getLsbD (31 - i)) = true ∧ (decide (k = 32) ||
      a.getLsbD (31 - k)) = true) := by
  refine ⟨?_, ?_, ?_, ?_, ?_, ?_, ?_, ?_, ?_, ?_, ?_, ?_, ?_, ?_, ?_, ?_, ?_⟩ <;> (dsimp only; decide +kernel)

/-- The premises of cmpDoes, tstDoes, cmpiDoes, tstiDoes, addiDoes, addisDoes, andiDoes, oriDoes, xoriDoes, movlDoes, movhDoes are
met. -/
theorem wit_comparesAndImmediates :
    (let o : OpR := ⟨15, 0, 1, 2⟩
    let s : State := coreState
    s.svReady o.cond ∧ o.rd = 0)
    ∧ (let o : OpR := ⟨15, 0, 1, 2⟩
    let s : State := coreState
    s.svReady o.cond ∧ o.rd = 0)
    ∧ (let o : OpI := ⟨15, 0, 1, 0x801⟩
    let s : State := coreState
    s.svReady o.cond ∧ o.rd = 0)
    ∧ (let o : OpI := ⟨15, 0, 1, 0x801⟩
    let s : State := coreState
    s.svReady o.cond ∧ o.rd = 0)
    ∧ (let o : OpI := ⟨15, 3, 1, 0x801⟩
    let s : State := coreState
    s.svReady o.cond)
    ∧ (let o : OpI := ⟨15, 3, 1, 0x801⟩
    let s : State := coreState
    let a := s.sv.gr o.rs1.toNat
    let x : Word := o.imm.signExtend 32
    let r : Word := a + x
    s.svReady o.cond ∧ (¬ (s.sv.trapov = true ∧ decide (a.toInt + x.toInt ≠ r.toInt) = true)))
    ∧ (let o : OpI := ⟨15, 3, 1, 0x801⟩
    let s : State := coreState
    s.svReady o.cond)
    ∧ (let o : OpI := ⟨15, 3, 1, 0x801⟩
    let s : State := coreState
    s.svReady o.cond)
    ∧ (let o : OpI := ⟨15, 3, 1, 0x801⟩
    let s : State := coreState
    s.svReady o.cond)
    ∧ (let o : OpU := ⟨15, 3, false, 0xBEEF⟩
    let s : State := coreState
    s.svReady o.cond ∧ o.b16 = false)
    ∧ (let o : OpU := ⟨15, 3, false, 0xBEEF⟩
    let s : State := coreState
    s.svReady o.cond ∧ o.b16 = false) := by
  refine ⟨?_, ?_, ?_, ?_, ?_, ?_, ?_, ?_, ?_, ?_, ?_⟩ <;> (dsimp only; decide +kernel)

/-- The premises of qaddDoes, qsubDoes, qnegDoes, qabsDoes, qmulDoes, qadd2Does, qsub2Does, qmul2Does, qshlDoes, qshrDoes,
qpackDoes are met. -/
theorem wit_fixedPointRules :
    (let o : OpR := ⟨15, 3, 1, 2⟩
    let rsel : BitVec 3 := 0
    let s : State := coreState
    s.svReady o.cond ∧ rsel = 0)
    ∧ (let o : OpR := ⟨15, 3, 1, 2⟩
    let rsel : BitVec 3 := 0
    let s : State := coreState
    s.svReady o.cond ∧ rsel = 0)
    ∧ (let o : OpR := ⟨15, 3, 1, 0⟩
    let rsel : BitVec 3 := 0
    let s : State := coreState
    s.svReady o.cond ∧ rsel = 0 ∧ o.rs2 = 0)
    ∧ (let o : OpR := ⟨15, 3, 1, 0⟩
    let rsel : BitVec 3 := 0
    let s : State := coreState
    s.svReady o.cond ∧ rsel = 0 ∧ o.rs2 = 0)
    ∧ (let o : OpR := ⟨15, 3, 1, 2⟩
    let rsel : BitVec 3 := 3
    let s : State := coreState
    s.svReady o.cond ∧ rsel.toNat ≤ 4)
    ∧ (let o : OpR := ⟨15, 3, 1, 2⟩
    let rsel : BitVec 3 := 0
    let s : State := coreState
    s.svReady o.cond ∧ rsel = 0)
    ∧ (let o : OpR := ⟨15, 3, 1, 2⟩
    let rsel : BitVec 3 := 0
    let s : State := coreState
    s.svReady o.cond ∧ rsel = 0)
    ∧ (let o : OpR := ⟨15, 3, 1, 2⟩
    let rsel : BitVec 3 := 3
    let s : State := coreState
    s.svReady o.cond ∧ rsel.toNat ≤ 4)
    ∧ (let o : OpR := ⟨15, 3, 1, 2⟩
    let rsel : BitVec 3 := 0
    let s : State := coreState
    s.svReady o.cond ∧ rsel = 0)
    ∧ (let o : OpR := ⟨15, 3, 1, 2⟩
    let rsel : BitVec 3 := 3
    let s : State := coreState
    s.svReady o.cond ∧ rsel.toNat ≤ 4)
    ∧ (let o : OpR := ⟨15, 3, 1, 2⟩
    let rsel : BitVec 3 := 3
    let s : State := coreState
    s.svReady o.cond ∧ rsel.toNat ≤ 4) := by
  refine ⟨?_, ?_, ?_, ?_, ?_, ?_, ?_, ?_, ?_, ?_, ?_⟩ <;> (dsimp only; decide +kernel)

/-- The premises of macDoes, msuDoes, mulaDoes, mac2Does, msu2Does, mula2Does, clraDoes, mtaDoes are met. -/
theorem wit_accumulatorWrites :
    (let o : OpR := ⟨15, 1, 1, 2⟩
    let rsel : BitVec 3 := 0
    let s : State := coreState
    s.svReady o.cond ∧ rsel = 0 ∧ o.rd.toNat < 2)
    ∧ (let o : OpR := ⟨15, 1, 1, 2⟩
    let rsel : BitVec 3 := 0
    let s : State := coreState
    s.svReady o.cond ∧ rsel = 0 ∧ o.rd.toNat < 2)
    ∧ (let o : OpR := ⟨15, 1, 1, 2⟩
    let rsel : BitVec 3 := 0
    let s : State := coreState
    s.svReady o.cond ∧ rsel = 0 ∧ o.rd.toNat < 2)
    ∧ (let o : OpR := ⟨15, 1, 1, 2⟩
    let rsel : BitVec 3 := 0
    let s : State := coreState
    s.svReady o.cond ∧ rsel = 0 ∧ o.rd.toNat < 2)
    ∧ (let o : OpR := ⟨15, 1, 1, 2⟩
    let rsel : BitVec 3 := 0
    let s : State := coreState
    s.svReady o.cond ∧ rsel = 0 ∧ o.rd.toNat < 2)
    ∧ (let o : OpR := ⟨15, 1, 1, 2⟩
    let rsel : BitVec 3 := 0
    let s : State := coreState
    s.svReady o.cond ∧ rsel = 0 ∧ o.rd.toNat < 2)
    ∧ (let o : OpR := ⟨15, 1, 0, 0⟩
    let rsel : BitVec 3 := 0
    let s : State := coreState
    s.svReady o.cond ∧ rsel = 0 ∧ o.rd.toNat < 2 ∧ o.rs2 = 0 ∧ o.rs1 = 0)
    ∧ (let o : OpR := ⟨15, 1, 1, 0⟩
    let rsel : BitVec 3 := 0
    let s : State := coreState
    s.svReady o.cond ∧ rsel = 0 ∧ o.rd.toNat < 2 ∧ o.rs2 = 0) := by
  refine ⟨?_, ?_, ?_, ?_, ?_, ?_, ?_, ?_⟩ <;> (dsimp only; decide +kernel)

/-- The premises of wralDoes, wrahDoes, wragDoes, rdaDoes, rda16Does, rdalDoes, rdahDoes, rdagDoes are met. -/
theorem wit_accumulatorReads :
    (let o : OpR := ⟨15, 1, 1, 0⟩
    let rsel : BitVec 3 := 0
    let s : State := coreState
    s.svReady o.cond ∧ rsel = 0 ∧ o.rd.toNat < 2 ∧ o.rs2 = 0)
    ∧ (let o : OpR := ⟨15, 1, 1, 0⟩
    let rsel : BitVec 3 := 0
    let s : State := coreState
    s.svReady o.cond ∧ rsel = 0 ∧ o.rd.toNat < 2 ∧ o.rs2 = 0)
    ∧ (let o : OpR := ⟨15, 1, 1, 0⟩
    let rsel : BitVec 3 := 0
    let s : State := coreState
    s.svReady o.cond ∧ rsel = 0 ∧ o.rd.toNat < 2 ∧ o.rs2 = 0)
    ∧ (let o : OpR := ⟨15, 3, 1, 0⟩
    let rsel : BitVec 3 := 0
    let s : State := coreState
    s.svReady o.cond ∧ rsel.toNat ≤ 4 ∧ o.rs1.toNat < 2 ∧ o.rs2 = 0)
    ∧ (let o : OpR := ⟨15, 3, 1, 0⟩
    let rsel : BitVec 3 := 0
    let s : State := coreState
    s.svReady o.cond ∧ rsel.toNat ≤ 4 ∧ o.rs1.toNat < 2 ∧ o.rs2 = 0)
    ∧ (let o : OpR := ⟨15, 3, 1, 0⟩
    let rsel : BitVec 3 := 0
    let s : State := coreState
    s.svReady o.cond ∧ rsel = 0 ∧ o.rs1.toNat < 2 ∧ o.rs2 = 0)
    ∧ (let o : OpR := ⟨15, 3, 1, 0⟩
    let rsel : BitVec 3 := 0
    let s : State := coreState
    s.svReady o.cond ∧ rsel = 0 ∧ o.rs1.toNat < 2 ∧ o.rs2 = 0)
    ∧ (let o : OpR := ⟨15, 3, 1, 0⟩
    let rsel : BitVec 3 := 0
    let s : State := coreState
    s.svReady o.cond ∧ rsel = 0 ∧ o.rs1.toNat < 2 ∧ o.rs2 = 0) := by
  refine ⟨?_, ?_, ?_, ?_, ?_, ?_, ?_, ?_⟩ <;> (dsimp only; decide +kernel)

/-- The premises of daddDoes, daddcDoes, dsubDoes, dsubcDoes, dcmpDoes, dadjDoes, bcd2binDoes, bin2bcdDoes are met. -/
theorem wit_decimalRules :
    (let o : OpR := ⟨15, 3, 4, 5⟩
    let s : State := coreState
    let a := s.sv.gr o.rs1.toNat
    let b := s.sv.gr o.rs2.toNat
    s.svReady o.cond ∧ bcdValid a = true ∧ bcdValid b = true)
    ∧ (let o : OpR := ⟨15, 3, 4, 5⟩
    let s : State := coreState
    let a := s.sv.gr o.rs1.toNat
    let b := s.sv.gr o.rs2.toNat
    s.svReady o.cond ∧ bcdValid a = true ∧ bcdValid b = true)
    ∧ (let o : OpR := ⟨15, 3, 4, 5⟩
    let s : State := coreState
    let a := s.sv.gr o.rs1.toNat
    let b := s.sv.gr o.rs2.toNat
    s.svReady o.cond ∧ bcdValid a = true ∧ bcdValid b = true)
    ∧ (let o : OpR := ⟨15, 3, 4, 5⟩
    let s : State := coreState
    let a := s.sv.gr o.rs1.toNat
    let b := s.sv.gr o.rs2.toNat
    s.svReady o.cond ∧ bcdValid a = true ∧ bcdValid b = true)
    ∧ (let o : OpR := ⟨15, 0, 4, 5⟩
    let s : State := coreState
    let a := s.sv.gr o.rs1.toNat
    let b := s.sv.gr o.rs2.toNat
    s.svReady o.cond ∧ bcdValid a = true ∧ bcdValid b = true ∧ o.rd = 0)
    ∧ (let o : OpR := ⟨15, 3, 4, 5⟩
    let s : State := coreState
    s.svReady o.cond)
    ∧ (let o : OpR := ⟨15, 3, 4, 0⟩
    let s : State := coreState
    let a := s.sv.gr o.rs1.toNat
    s.svReady o.cond ∧ bcdValid a = true ∧ o.rs2 = 0)
    ∧ (let o : OpR := ⟨15, 3, 4, 0⟩
    let s : State := coreState
    s.svReady o.cond ∧ o.rs2 = 0) := by
  refine ⟨?_, ?_, ?_, ?_, ?_, ?_, ?_, ?_⟩ <;> (dsimp only; decide +kernel)

/-- The premises of ldwDoes, ldhDoes, ldhuDoes, ldbDoes, ldbuDoes, cldwDoes, stwDoes, sthDoes, stbDoes, cstwDoes, cldcDoes,
cstcDoes are met. -/
theorem wit_loadsAndStores :
    (let o : OpI := ⟨15, 3, 4, 0xFF8⟩
    let s : State := memState
    let auth := s.sv.cr 14
    let addr := (s.sv.gr o.rs1.toNat + o.imm.signExtend 32).toNat
    let x : Access := ⟨.headland, addr, 4, 0, true⟩
    s.svReady o.cond ∧ auth.carries [1] addr 4 ∧ s.svBegin.serves x)
    ∧ (let o : OpI := ⟨15, 3, 4, 0xFF8⟩
    let s : State := memState
    let auth := s.sv.cr 14
    let addr := (s.sv.gr o.rs1.toNat + o.imm.signExtend 32).toNat
    let x : Access := ⟨.headland, addr, 2, 0, true⟩
    s.svReady o.cond ∧ auth.carries [1] addr 2 ∧ s.svBegin.serves x)
    ∧ (let o : OpI := ⟨15, 3, 4, 0xFF8⟩
    let s : State := memState
    let auth := s.sv.cr 14
    let addr := (s.sv.gr o.rs1.toNat + o.imm.signExtend 32).toNat
    let x : Access := ⟨.headland, addr, 2, 0, true⟩
    s.svReady o.cond ∧ auth.carries [1] addr 2 ∧ s.svBegin.serves x)
    ∧ (let o : OpI := ⟨15, 3, 4, 0xFF8⟩
    let s : State := memState
    let auth := s.sv.cr 14
    let addr := (s.sv.gr o.rs1.toNat + o.imm.signExtend 32).toNat
    let x : Access := ⟨.headland, addr, 1, 0, true⟩
    s.svReady o.cond ∧ auth.carries [1] addr 1 ∧ s.svBegin.serves x)
    ∧ (let o : OpI := ⟨15, 3, 4, 0xFF8⟩
    let s : State := memState
    let auth := s.sv.cr 14
    let addr := (s.sv.gr o.rs1.toNat + o.imm.signExtend 32).toNat
    let x : Access := ⟨.headland, addr, 1, 0, true⟩
    s.svReady o.cond ∧ auth.carries [1] addr 1 ∧ s.svBegin.serves x)
    ∧ (let o : OpI := ⟨15, 3, 6, 0xFF8⟩
    let s : State := memState
    let auth := s.sv.cr o.rs1.toNat
    let addr := (auth.bits.extractLsb' 0 32 + o.imm.signExtend 32).toNat
    let x : Access := ⟨.headland, addr, 4, 0, true⟩
    s.svReady o.cond ∧ o.rs1.toNat < 16 ∧ auth.carries [1] addr 4 ∧ s.svBegin.serves x)
    ∧ (let o : OpI := ⟨15, 5, 4, 0xFF8⟩
    let s : State := memState
    let auth := s.sv.cr 14
    let addr := (s.sv.gr o.rs1.toNat + o.imm.signExtend 32).toNat
    let d := s.sv.gr o.rd.toNat
    let x : Access := ⟨.headland, addr, 4, d.toNat, true⟩
    s.svReady o.cond ∧ auth.carries [2] addr 4 ∧ s.svBegin.accepts x)
    ∧ (let o : OpI := ⟨15, 5, 4, 0xFF8⟩
    let s : State := memState
    let auth := s.sv.cr 14
    let addr := (s.sv.gr o.rs1.toNat + o.imm.signExtend 32).toNat
    let d := s.sv.gr o.rd.toNat
    let x : Access := ⟨.headland, addr, 2, (d.setWidth 16).toNat, true⟩
    s.svReady o.cond ∧ auth.carries [2] addr 2 ∧ s.svBegin.accepts x)
    ∧ (let o : OpI := ⟨15, 5, 4, 0xFF8⟩
    let s : State := memState
    let auth := s.sv.cr 14
    let addr := (s.sv.gr o.rs1.toNat + o.imm.signExtend 32).toNat
    let d := s.sv.gr o.rd.toNat
    let x : Access := ⟨.headland, addr, 1, (d.setWidth 8).toNat, true⟩
    s.svReady o.cond ∧ auth.carries [2] addr 1 ∧ s.svBegin.accepts x)
    ∧ (let o : OpI := ⟨15, 5, 6, 0xFF8⟩
    let s : State := memState
    let auth := s.sv.cr o.rs1.toNat
    let addr := (auth.bits.extractLsb' 0 32 + o.imm.signExtend 32).toNat
    let d := s.sv.gr o.rd.toNat
    let x : Access := ⟨.headland, addr, 4, d.toNat, true⟩
    s.svReady o.cond ∧ o.rs1.toNat < 16 ∧ auth.carries [2] addr 4 ∧ s.svBegin.accepts x)
    ∧ (let o : OpI := ⟨15, 5, 6, 0⟩
    let s : State := memState
    let auth := s.sv.cr o.rs1.toNat
    let addr := (auth.bits.extractLsb' 0 32 + o.imm.signExtend 32).toNat
    s.svReady o.cond ∧ o.rs1.toNat < 16 ∧ o.rd.toNat < 16 ∧ auth.carries [1] addr 16 ∧ s.svBegin.svOpen .load addr 16 ∧
      (s.svBegin.capRead addr).1 = .none)
    ∧ (let o : OpI := ⟨15, 5, 6, 0⟩
    let s : State := memState
    let auth := s.sv.cr o.rs1.toNat
    let addr := (auth.bits.extractLsb' 0 32 + o.imm.signExtend 32).toNat
    let v := s.sv.cr o.rd.toNat
    let ps := if v.tag then (if capHas v 9 then [2, 4] else [2, 4, 10]) else [2]
    s.svReady o.cond ∧ o.rs1.toNat < 16 ∧ o.rd.toNat < 16 ∧ auth.carries ps addr 16 ∧ s.svBegin.svOpen .store addr 16 ∧
      (s.svBegin.capWrite addr v).1 = .none) := by
  refine ⟨?_, ?_, ?_, ?_, ?_, ?_, ?_, ?_, ?_, ?_, ?_, ?_⟩ <;> (dsimp only; decide +kernel)

/-- The premises of capqDoes, capdistDoes, capptrDoes, capadvDoes, capnarrowDoes, capmaskDoes, capmovDoes, capdropDoes,
caplockDoes, capopenDoes, capwithinDoes are met. -/
theorem wit_capabilityRules :
    (let o : OpR := ⟨15, 5, 6, 0⟩
    let s : State := memState
    s.svReady o.cond ∧ o.rs1.toNat < 16 ∧ o.rs2.toNat < 6)
    ∧ (let o : OpR := ⟨15, 5, 6, 14⟩
    let s : State := memState
    s.svReady o.cond ∧ o.rs1.toNat < 16 ∧ o.rs2.toNat < 16)
    ∧ (let o : OpR := ⟨15, 5, 6, 7⟩
    let s : State := memState
    let x := s.sv.cr o.rs1.toNat
    s.svReady o.cond ∧ o.rd.toNat < 16 ∧ o.rs1.toNat < 16 ∧ (¬ (x.tag = true ∧ capOtype x ≠ 0)))
    ∧ (let o : OpR := ⟨15, 5, 6, 7⟩
    let s : State := memState
    let x := s.sv.cr o.rs1.toNat
    s.svReady o.cond ∧ o.rd.toNat < 16 ∧ o.rs1.toNat < 16 ∧ (¬ (x.tag = true ∧ capOtype x ≠ 0)))
    ∧ (let o : OpR := ⟨15, 5, 6, 7⟩
    let s : State := memState
    let x := s.sv.cr o.rs1.toNat
    let v := s.sv.gr o.rs2.toNat
    s.svReady o.cond ∧ o.rd.toNat < 16 ∧ o.rs1.toNat < 16 ∧ (¬ (x.tag = true ∧ capOtype x ≠ 0)) ∧ ((x.tag = true → capBase x ≤
      capCursor x ∧ capCursor x + v.toNat ≤ capBase x + capLength x)))
    ∧ (let o : OpR := ⟨15, 5, 6, 7⟩
    let s : State := memState
    let x := s.sv.cr o.rs1.toNat
    s.svReady o.cond ∧ o.rd.toNat < 16 ∧ o.rs1.toNat < 16 ∧ (¬ (x.tag = true ∧ capOtype x ≠ 0)))
    ∧ (let o : OpR := ⟨15, 5, 6, 0⟩
    let s : State := memState
    s.svReady o.cond ∧ o.rd.toNat < 16 ∧ o.rs1.toNat < 16 ∧ o.rs2 = 0)
    ∧ (let o : OpR := ⟨15, 5, 6, 0⟩
    let s : State := memState
    s.svReady o.cond ∧ o.rd.toNat < 16 ∧ o.rs1.toNat < 16 ∧ o.rs2 = 0)
    ∧ (let o : OpR := ⟨15, 5, 6, 8⟩
    let s : State := memState
    let x := s.sv.cr o.rs1.toNat
    let y := s.sv.cr o.rs2.toNat
    let t := capCursor y
    s.svReady o.cond ∧ o.rd.toNat < 16 ∧ o.rs1.toNat < 16 ∧ o.rs2.toNat < 16 ∧ (¬ (x.tag = true ∧ capOtype x ≠ 0)) ∧ y.carries
      [6] (capCursor y) 1 ∧ 1 ≤ t ∧ t ≤ 255 ∧ ((t = 255 → capHas y 8 = true)))
    ∧ (let o : OpR := ⟨15, 5, 9, 8⟩
    let s : State := memState
    let x := s.sv.cr o.rs1.toNat
    let y := s.sv.cr o.rs2.toNat
    let t := capCursor y
    s.svReady o.cond ∧ o.rd.toNat < 16 ∧ o.rs1.toNat < 16 ∧ o.rs2.toNat < 16 ∧ ((x.tag = true → capOtype x = t)) ∧ y.carries
      [7] (capCursor y) 1 ∧ 1 ≤ t ∧ ((t = 255 → capHas y 8 = true)))
    ∧ (let o : OpR := ⟨15, 5, 6, 14⟩
    let s : State := memState
    s.svReady o.cond ∧ o.rs1.toNat < 16 ∧ o.rs2.toNat < 16) := by
  refine ⟨?_, ?_, ?_, ?_, ?_, ?_, ?_, ?_, ?_, ?_, ?_⟩ <;> (dsimp only; decide +kernel)

/-- The premises of bDoes, callDoes, jrDoes, callrDoes, retDoes, eretDoes, ctxswDoes, fenceDoes, wfiDoes, trapDoes, loopDoes are
met. -/
theorem wit_controlTransfers :
    (let o : OpJ := ⟨15, 4⟩
    let s : State := memState
    let t := ((s.sv.pcc.bits.extractLsb' 0 32) + o.off.signExtend 32 * 4#32).toNat
    s.svStarts o.cond ∧ capBase s.sv.pcc ≤ t ∧ t + 4 ≤ capBase s.sv.pcc + capLength s.sv.pcc)
    ∧ (let o : OpJ := ⟨15, 4⟩
    let s : State := memState
    let t := ((s.sv.pcc.bits.extractLsb' 0 32) + o.off.signExtend 32 * 4#32).toNat
    let csp := s.sv.cr 15
    let slot := (csp.bits.extractLsb' 0 32 - 16#32).toNat
    let ret := capSetCursor s.sv.pcc (s.sv.pc + 4)
    let ps := if ret.tag then (if capHas ret 9 then [2, 4] else [2, 4, 10]) else [2]
    s.svStarts o.cond ∧ capBase s.sv.pcc ≤ t ∧ t + 4 ≤ capBase s.sv.pcc + capLength s.sv.pcc ∧ csp.carries ps slot 16 ∧
      s.svBegin.svOpen .store slot 16 ∧ (s.svBegin.capWrite slot ret).1 = .none)
    ∧ (let o : OpR := ⟨15, 0, 10, 0⟩
    let s : State := memState
    let x := s.sv.cr o.rs1.toNat
    s.svStarts o.cond ∧ o.rs1.toNat < 16 ∧ o.rd = 0 ∧ o.rs2 = 0 ∧ x.jumps)
    ∧ (let o : OpR := ⟨15, 0, 10, 0⟩
    let s : State := memState
    let x := s.sv.cr o.rs1.toNat
    let csp := s.sv.cr 15
    let slot := (csp.bits.extractLsb' 0 32 - 16#32).toNat
    let ret := capSetCursor s.sv.pcc (s.sv.pc + 4)
    let ps := if ret.tag then (if capHas ret 9 then [2, 4] else [2, 4, 10]) else [2]
    s.svStarts o.cond ∧ o.rs1.toNat < 16 ∧ o.rd = 0 ∧ o.rs2 = 0 ∧ x.jumps ∧ csp.carries ps slot 16 ∧ s.svBegin.svOpen .store
      slot 16 ∧ (s.svBegin.capWrite slot ret).1 = .none)
    ∧ (let o : OpR := ⟨15, 0, 0, 0⟩
    let s : State := retState
    let csp := s.sv.cr 15
    let at_ := capCursor csp
    let v := (s.svBegin.capRead at_).2.1
    let x : Cap := ⟨v.tag && capHas csp 3, v.bits⟩
    s.svStarts o.cond ∧ o.rd = 0 ∧ o.rs1 = 0 ∧ o.rs2 = 0 ∧ csp.carries [1] at_ 16 ∧ s.svBegin.svOpen .load at_ 16 ∧
      (s.svBegin.capRead at_).1 = .none ∧ x.jumps)
    ∧ (let o : OpR := ⟨15, 0, 0, 0⟩
    let s : State := trapState 1
    let e := s.sv.bank.epcc
    s.svStarts o.cond ∧ o.rd = 0 ∧ o.rs1 = 0 ∧ o.rs2 = 0 ∧ capHas s.sv.pcc 5 = true ∧ 1 ≤ s.sv.depth ∧ e.tag = true ∧
      ((capOtype e = 0 ∨ capOtype e = 255)) ∧ capHas e 0 = true ∧ capCursor e % 4 = 0 ∧ capBase e ≤ capCursor e ∧ capCursor e +
      4 ≤ capBase e + capLength e ∧ s.sv.breach = false ∧ s.sv.depth < 4)
    ∧ (let o : OpR := ⟨15, 0, 0, 0⟩
    let s : State := breachState
    let e := s.sv.bank.epcc
    s.svStarts o.cond ∧ o.rd = 0 ∧ o.rs1 = 0 ∧ o.rs2 = 0 ∧ capHas s.sv.pcc 5 = true ∧ 1 ≤ s.sv.depth ∧ e.tag = true ∧
      ((capOtype e = 0 ∨ capOtype e = 255)) ∧ capHas e 0 = true ∧ capCursor e % 4 = 0 ∧ capBase e ≤ capCursor e ∧ capCursor e +
      4 ≤ capBase e + capLength e ∧ s.sv.breach = true)
    ∧ (let o : OpR := ⟨15, 0, 0, 0⟩
    let s : State := spillState
    let e := s.sv.bank.epcc
    let u := s.svBegin
    s.svStarts o.cond ∧ o.rd = 0 ∧ o.rs1 = 0 ∧ o.rs2 = 0 ∧ capHas s.sv.pcc 5 = true ∧ 1 ≤ s.sv.depth ∧ e.tag = true ∧
      ((capOtype e = 0 ∨ capOtype e = 255)) ∧ capHas e 0 = true ∧ capCursor e % 4 = 0 ∧ capBase e ≤ capCursor e ∧ capCursor e +
      4 ≤ capBase e + capLength e ∧ s.sv.breach = false ∧ 4 ≤ s.sv.depth ∧ u.refillFault (s.sv.cr 15) = none)
    ∧ (let o : OpR := ⟨15, 0, 0, 0⟩
    let s : State := memState
    s.svReady o.cond ∧ o.rd = 0 ∧ o.rs1 = 0 ∧ o.rs2 = 0 ∧ capHas s.sv.pcc 5 = true)
    ∧ (let o : OpR := ⟨15, 0, 0, 0⟩
    let s : State := memState
    s.svReady o.cond ∧ o.rd = 0 ∧ o.rs1 = 0 ∧ o.rs2 = 0)
    ∧ (let o : OpR := ⟨15, 0, 0, 0⟩
    let s : State := memState
    s.svReady o.cond ∧ o.rd = 0 ∧ o.rs1 = 0 ∧ o.rs2 = 0 ∧ capHas s.sv.pcc 5 = true)
    ∧ (let cond : BitVec 4 := 15
    let n : BitVec 8 := 2
    let s : State := trapState 0
    let u := s.svBegin
    let gate := u.memCap (fld s.sv.gateBase 12 20 * 4096 + 16 * n.toNat)
    let level := fld s.sv.flvl 24 3
    let entry := u.svEnter (capSetOtype gate 0) level (capSetCursor s.sv.pcc (s.sv.pc + 4)) s.sv.pcc
    s.svStarts cond ∧ s.sv.arith = none ∧ u.gateCheck n.toNat = none ∧ s.sv.breach = false ∧ s.sv.ml < level ∧ entry.1 = true)
    ∧ (let o : OpI := ⟨15, 0, 7, 5⟩
    let s : State := memState
    let k := o.rd.toNat
    let le := s.sv.pc + 4 * o.imm.toNat
    let cnt := s.sv.gr o.rs1.toNat
    s.svStarts o.cond ∧ k < 3 ∧ s.sv.atEnd s.sv.pc = none ∧ 1 ≤ o.imm.toNat ∧ ((∀ j, j < 3 → k ≤ j → s.sv.la j = false)) ∧ ((k
      = 0 ∨ (s.sv.la (k - 1) = true ∧ le < (s.sv.loop (k - 1)).e.toNat))) ∧ capBase s.sv.pcc ≤ le ∧ le + 4 ≤ capBase s.sv.pcc +
      capLength s.sv.pcc ∧ cnt ≠ 0)
    ∧ (let o : OpI := ⟨15, 0, 0, 5⟩
    let s : State := memState
    let k := o.rd.toNat
    let le := s.sv.pc + 4 * o.imm.toNat
    let cnt := s.sv.gr o.rs1.toNat
    s.svStarts o.cond ∧ k < 3 ∧ s.sv.atEnd s.sv.pc = none ∧ 1 ≤ o.imm.toNat ∧ ((∀ j, j < 3 → k ≤ j → s.sv.la j = false)) ∧ ((k
      = 0 ∨ (s.sv.la (k - 1) = true ∧ le < (s.sv.loop (k - 1)).e.toNat))) ∧ capBase s.sv.pcc ≤ le ∧ le + 4 ≤ capBase s.sv.pcc +
      capLength s.sv.pcc ∧ cnt = 0) := by
  refine ⟨?_, ?_, ?_, ?_, ?_, ?_, ?_, ?_, ?_, ?_, ?_, ?_, ?_, ?_⟩ <;> (dsimp only; decide +kernel)

/-- The premises of mfsDoes, mtsDoes, cmfsDoes, cmtsDoes, customInstructionDoes, faultEntryDoes, interruptAcceptDoes,
arithImpreciseDoes, icSwsetDoes, icSwclrDoes, gselWriteDoes, gclrDoes are met. -/
theorem wit_systemRegisters :
    (let o : OpI := ⟨15, 5, 0, 0⟩
    let s : State := memState
    let n := o.imm.toNat
    s.svReady o.cond ∧ sysListed n = true ∧ o.rs1 = 0 ∧ ((sysNeeds n = true → capHas s.sv.pcc 5 = true)))
    ∧ (let o : OpI := ⟨15, 0, 7, 0⟩
    let s : State := memState
    let n := o.imm.toNat
    let v := s.sv.gr o.rs1.toNat
    s.svReady o.cond ∧ sysListed n = true ∧ sysReadOnly n = false ∧ (¬ (sysTable n = true ∧ s.fuses.lifeCycle = .field)) ∧ o.rd
      = 0 ∧ ((sysNeeds n = true → capHas s.sv.pcc 5 = true)) ∧ v &&& BitVec.ofNat 32 (sysReserved n) = 0 ∧ (¬ (n = 0x44 ∧
      flvlZero v = true)))
    ∧ (let o : OpI := ⟨15, 5, 0, 0x60⟩
    let s : State := memState
    let n := o.imm.toNat
    s.svReady o.cond ∧ capSysListed n = true ∧ o.rd.toNat < 16 ∧ o.rs1 = 0 ∧ capHas s.sv.pcc 5 = true)
    ∧ (let o : OpI := ⟨15, 0, 10, 0x61⟩
    let s : State := memState
    let n := o.imm.toNat
    let x := s.sv.cr o.rs1.toNat
    s.svReady o.cond ∧ capSysListed n = true ∧ o.rs1.toNat < 16 ∧ s.sv.capOnce n = false ∧ o.rd = 0 ∧ capHas s.sv.pcc 5 = true
      ∧ s.svBegin.capSysReason n x = none)
    ∧ (let o : OpR := ⟨15, 3, 7, 5⟩
    let slot : BitVec 4 := 1
    let k : BitVec 3 := 0
    let s : State := customState
    let e := tabGet slotEmpty s.sv.slots slot.toNat
    let c := s.sv
    let env : MicroEnv := ⟨o.rd.toNat, o.rs1.toNat, o.rs2.toNat, c.gr o.rd.toNat, c.gr o.rs1.toNat, c.gr o.rs2.toNat, k.toNat,
      c.rm, c.trapov⟩
    let out := microRun env c.ucode e.1 64 ⟨[], none, c.a0, c.a1, c.flags⟩
    s.svReady o.cond ∧ e.2.1 = true ∧ out.isSome = true)
    ∧ (let o : OpR := ⟨15, 3, 7, 5⟩
    let slot : BitVec 4 := 2
    let k : BitVec 3 := 0
    let s : State := customState
    let e := tabGet slotEmpty s.sv.slots slot.toNat
    let c := s.sv
    let env : MicroEnv := ⟨o.rd.toNat, o.rs1.toNat, o.rs2.toNat, c.gr o.rd.toNat, c.gr o.rs1.toNat, c.gr o.rs2.toNat, k.toNat,
      c.rm, c.trapov⟩
    let out := microRun env c.ucode e.1 64 ⟨[], none, c.a0, c.a1, c.flags⟩
    let b := s.svBegin.sv
    s.svReady o.cond ∧ e.2.1 = true ∧ out = none ∧ b.precise = false)
    ∧ (let f : Fetched := .word 0x1FC00000
    let s : State := trapState 0
    let u := s.svBegin
    let x : SvFault := match f with | .error r => ⟨4, fetchReason r, s.sv.pc, false⟩ | .word w => ⟨1, .none, w.toNat, false⟩
    let level := u.sv.level x.code
    let entry := u.svEnter u.sv.fvec level s.sv.pcc s.sv.pcc
    let odd := match f with | .word w => wordReserved w | .error _ => true
    s.svIssues = true ∧ s.sv.arith = none ∧ s.svFetchFault = none ∧ odd = true ∧ s.sv.breach = false ∧ u.sv.ml < level ∧
      u.sv.fvec ≠ nullCap ∧ entry.1 = true)
    ∧ (let src : Nat := 384
    let level : Nat := 3
    let s : State := irqState
    let u := s.svBegin
    let entry := u.svEnter (tabGet nullCap s.sv.ivec level) level u.sv.pcc u.sv.pcc
    s.computeRuns = true ∧ s.boot.running = true ∧ s.sv.hold = false ∧ s.sv.breach = false ∧ s.sv.arith = none ∧ s.irqBest
      s.sv.ml = some (src, level) ∧ tabGet nullCap s.sv.ivec level ≠ nullCap ∧ entry.1 = true)
    ∧ (let n : Nat := 3
    let s : State := { trapState 0 with sv := { (trapState 0).sv with arith := some 3 } }
    let u : State := s.svBegin.setSv { s.svBegin.sv with arith := none }
    let level := fld s.sv.flvl 21 3
    let entry := u.svEnter u.sv.fvec level u.sv.pcc u.sv.pcc
    s.svIssues = true ∧ s.sv.arith = some n ∧ s.sv.breach = false ∧ u.sv.ml < level ∧ u.sv.fvec ≠ nullCap ∧ entry.1 = true)
    ∧ (let m : Master := .headland
    let v : Nat := 0
    let s : State := runState.setReg .icp 0x830 2
    s.accepts (put32 m .icc 0x44 v) ∧ v < 2 ^ 32)
    ∧ (let m : Master := .headland
    let v : Nat := 0
    let s : State := runState.setReg .icp 0x830 3
    s.accepts (put32 m .icc 0x48 v) ∧ v < 2 ^ 32)
    ∧ (let m : Master := .headland
    let o : Master := .dma
    let v : Nat := 1
    let p : Page := .guard 2
    let sel : Nat := 0x40
    let tab : Nat := 0x800
    let s : State := runState
    guardOf o = some (p, sel, tab) ∧ s.accepts (put32 m p sel v) ∧ v < 2)
    ∧ (let m : Master := .headland
    let o : Master := .dma
    let p : Page := .guard 2
    let sel : Nat := 0x40
    let tab : Nat := 0x800
    let s : State := runState.setReg (.guard 2) 0x48 5
    guardOf o = some (p, sel, tab) ∧ s.accepts (put32 m p (sel + 0x10) 1)) := by
  refine ⟨?_, ?_, ?_, ?_, ?_, ?_, ?_, ?_, ?_, ?_, ?_, ?_, ?_⟩ <;> (dsimp only; decide +kernel)

/-- The premises of registerWriteDoes, pageCtrlWriteDoes, softResetDoes, lockWriteDoes, keyWriteDoes, keySequenceTimeoutDoes,
pageErrClearDoes, irqSetDoes, e2eStatClrDoes are met. -/
theorem wit_fabricCommands :
    (let a : Access := put32 .headland .tb 0x48 0
    let s : State := runState
    s.sends a.m = true ∧ (¬ (s.boot.wait = true ∧ Page.base .hrp + 0x48 ≤ a.addr ∧ a.addr ≤ Page.base .hrp + 0x50)) ∧
      ((unguarded a.m a.addr = true ∨ s.guardFault a.m .store a.addr a.size = none)) ∧ unguarded a.m a.addr = false)
    ∧ (let m : Master := .headland
    let p : Page := .tio 1
    let v : Nat := 9
    let s : State := runState
    s.accepts (put32 m p 0x0C v) ∧ p.valid = true ∧ v / 2 % 2 = 0)
    ∧ (let m : Master := .headland
    let p : Page := .tb
    let clkReq : Nat := 2
    let s : State := runState
    p.valid = true ∧ clkReq ≤ 2 ∧ s.accepts (put32 m p 0x0C (2 + clkReq * 4)))
    ∧ (let m : Master := .headland
    let p : Page := .tqf
    let cfg : Bool := true
    let owner : Bool := true
    let s : State := runState
    s.accepts (put32 m p 0x18 (cfg.toNat + 2 * owner.toNat)) ∧ p.valid = true ∧ p ≠ .slk)
    ∧ (let m : Master := .headland
    let p : Page := .lc
    let s : State := runState
    p.valid = true ∧ p ≠ .slk ∧ s.accepts (put32 m p 0x18 0x3C1E0000))
    ∧ (let m : Master := .headland
    let p : Page := .lc
    let s : State := { runState with fab := { runState.fab with keys := [(Page.base .lc, .key1 1)] } }
    p.valid = true ∧ p ≠ .slk ∧ s.keySeq p ≠ none ∧ s.accepts (put32 m p 0x18 0xC3E10000))
    ∧ (let p : Page := .lc
    let w : Nat := 1
    let at_ : Nat := 0
    let s : State := { runState with now := 16000, fab := { runState.fab with keys := [(Page.base .lc, .opened 1 0)] } }
    tabGet? s.fab.keys p.base = some (.opened w at_) ∧ at_ + 16000 ≤ s.now)
    ∧ (let m : Master := .headland
    let p : Page := .tqf
    let s : State := runState.setReg .tqf 0x14 0x4402
    s.accepts (put32 m p 0x14 0x80000000) ∧ p.valid = true ∧ p ≠ .slk)
    ∧ (let m : Master := .headland
    let p : Page := .tqs
    let bits : Nat := 5
    let s : State := runState
    s.accepts (put32 m p 0x2C bits) ∧ p.valid = true ∧ p ≠ .slk)
    ∧ (let m : Master := .headland
    let p : Page := .tqf
    let s : State := runState.setReg .tqf 0x30 9
    s.accepts (put32 m p 0x30 0x80000000) ∧ p.valid = true ∧ p ≠ .slk) := by
  refine ⟨?_, ?_, ?_, ?_, ?_, ?_, ?_, ?_, ?_, ?_⟩ <;> (dsimp only; decide +kernel)

/-- The premises of tbNowReadDoes, tbModeWriteDoes, skewClrDoes, syncReceiveDoes, syncTimeoutDoes are met. -/
theorem wit_timebaseCommands :
    (let m : Master := .headland
    let wide : Bool := false
    let s : State := { runState with now := 0x123456789A }
    s.serves (readOf m .tb (0x40) wide))
    ∧ (let m : Master := .headland
    let v : Nat := 0x101
    let s : State := runState
    s.accepts (put32 m .tb 0x48 v))
    ∧ (let m : Master := .headland
    let s : State := runState.setReg .tb 0x60 0x120034
    s.accepts (put32 m .tb 0x68 1))
    ∧ (let port : Nat := 0
    let gm : Nat := 0x5000
    let s : State := ((runState.setReg .tb 0x48 1).setReg (.tsn 0) 0x44 1)
    s.regF .tb 0x48 0 2 = 1 ∧ s.regF .tb 0x48 8 4 = port ∧ bit (s.reg (.tsn port) 0x44) 0 = true ∧ s.reg64 .tb 0x58 < 2 ^ 64 ∧
      s.now < 2 ^ 64 ∧ gm < 2 ^ 64)
    ∧ (let s : State := runState.setReg .tb 0x48 1
    s.regF .tb 0x48 0 2 = 1) := by
  refine ⟨?_, ?_, ?_, ?_, ?_⟩ <;> (dsimp only; decide +kernel)

/-- The premises of queueTableWriteDoes, queueBindWriteDoes, submitStageDoes, submitActDoes, releaseArmDoes, subResReadDoes,
logConfigWriteDoes, tqfStatClrDoes, delivReadDoes, entryCommitDoes, entryHandoffDoes, linkEntryReceiveDoes, entryDeliveryDoes
are met. -/
theorem wit_queuesAndEntries :
    (let m : Master := .headland
    let q : Nat := 5
    let limit : Bool := false
    let v : Nat := 0x00120301
    let s : State := queueState
    let off := if limit then 8 else 4
    q < 65536 ∧ v < 2 ^ 32 ∧ s.accepts ⟨m, qtabBase + 16 * q + off, 4, v, true⟩)
    ∧ (let m : Master := .headland
    let q : Nat := 9
    let wide : Bool := true
    let v : Nat := 0xFF80000002
    let s : State := queueState
    q < 65536 ∧ v < 2 ^ (if wide then 64 else 32) ∧ s.accepts ⟨m, qtabBase + 16 * q + 0, (if wide then 8 else 4), v, true⟩)
    ∧ (let m : Master := .headland
    let slot : Nat := 5
    let part : Nat := 0
    let wide : Bool := false
    let v : Nat := 77
    let s : State := queueState
    slot < 65536 ∧ part ≤ 2 ∧ ((wide = true → part = 0)) ∧ s.accepts ⟨m, 0x38000000 + 16 * slot + 4 * part, if wide then 8 else
      4, v, true⟩)
    ∧ (let m : Master := .headland
    let slot : Nat := 5
    let wide : Bool := false
    let pay : Word := 0
    let metaCrc : Word := 0x00000012
    let lo : Word := 0x10000000
    let hi : Word := 0
    let staged : Word := 3
    let s : State :=
      { queueState with tqf := { queueState.tqf with staging := [(1, ⟨some (5, 0x10000000), some (5, 0), some (5, 3)⟩)] } }
    let off := if wide then 8 else 12
    let data := if wide then pay.toNat + 2 ^ 32 * metaCrc.toNat else metaCrc.toNat
    let st := s.stage m
    fld metaCrc 12 3 ≠ 2 ∧ slot < 65536 ∧ st.lo = some (slot, lo) ∧ st.hi = some (slot, hi) ∧ ((wide = false → st.pay = some
      (slot, staged))) ∧ s.accepts ⟨m, 0x38000000 + 16 * slot + off, if wide then 8 else 4, data, true⟩)
    ∧ (let m : Master := .headland
    let slot : Nat := 5
    let wide : Bool := false
    let pay : Word := 0
    let metaCrc : Word := 0x00000012
    let lo : Word := 0x10000000
    let hi : Word := 0
    let staged : Word := 3
    let s : State :=
      { queueState with tqf := { queueState.tqf with staging := [(1, ⟨some (5, 0x10000000), some (5, 0), some (5, 3)⟩)] } }
    let off := if wide then 8 else 12
    let data := if wide then pay.toNat + 2 ^ 32 * (setFld metaCrc 12 3 2).toNat else (setFld metaCrc 12 3 2).toNat
    let st := s.stage m
    slot < 65536 ∧ st.lo = some (slot, lo) ∧ st.hi = some (slot, hi) ∧ ((wide = false → st.pay = some (slot, staged))) ∧
      s.accepts ⟨m, 0x38000000 + 16 * slot + off, if wide then 8 else 4, data, true⟩)
    ∧ (let m : Master := .headland
    let wide : Bool := true
    let s : State :=
      { queueState with tqf := { queueState.tqf with subRes := [(1, ⟨.none, true, true, 9⟩), (2, ⟨.qFull, true, false, 0⟩)] } }
    s.serves ⟨m, 0x38100000, if wide then 8 else 4, 0, true⟩ ∧ (s.subRes m).handle < 2 ^ 32)
    ∧ (let m : Master := .headland
    let which : Nat := 0
    let size : Bool := true
    let v : Nat := 5
    let s : State := ((runState.setReg .tqs 0x40 0x20001000).setReg .trk 0x48 0x20001000).setReg .t1sc 0x5C 0x20001000
    let p : Page := if which = 0 then .tqs else if which = 1 then .trk else .t1sc
    let b := if which = 0 then 0x40 else if which = 1 then 0x48 else 0x5C
    let off := if size then b + 4 else b
    which < 3 ∧ v < 2 ^ 32 ∧ s.accepts (put32 m p off v))
    ∧ (let m : Master := .headland
    let s : State := { (runState.setReg .tqs 0x84 3).setReg .tqs 0xAC 7 with tqf := { runState.tqf with delivered := 5 } }
    s.accepts (put32 m .tqs 0xA8 1))
    ∧ (let m : Master := .headland
    let wide : Bool := false
    let s : State := { runState with tqf := { runState.tqf with delivered := 0x500000007 } }
    s.serves (readOf m .tqs (0xA0) wide))
    ∧ (let h : Nat := 7
    let i : Nat := 7
    let e : Entry := ⟨5, .act, 200000000, 3, 0x8012, 0x1234, 0, false, false, false⟩
    let s : State := { queueState with now := 199999000 }
    s.liveEntry h = some (i, e) ∧ e.kind = .act ∧ s.commitPoint e.queue e.inst ≤ s.now)
    ∧ (let h : Nat := 7
    let i : Nat := 7
    let e : Entry := ⟨5, .act, 200000000, 3, 0x8012, 0x1234, 0, false, false, false⟩
    let s : State := { queueState with now := 199999000 }
    s.liveEntry h = some (i, e) ∧ e.kind = .act ∧ e.lost = false ∧ e.handed = false ∧ e.inst ≤ s.now + s.handoffLead (s.qPort
      e.queue))
    ∧ (let h : Nat := 7
    let s : State := { queueState with box := ⟨[⟨7, 5, 0, 0, 200000000, 3, false, true, false, false⟩], []⟩ }
    (s.box.waiting.any fun p => p.handle = h && !p.slack && p.port < 496 && !p.received) = true ∧ (s.liveEntry h).isSome = true)
    ∧ (let h : Nat := 7
    let i : Nat := 7
    let e : Entry := ⟨5, .act, 200000000, 3, 0x8012, 0x1234, 0, true, true, false⟩
    let p : PortEntry := ⟨7, 5, 0, 0, 200000000, 3, true, true, false, false⟩
    let s : State :=
      { queueState with now := 200000000,
                        tqf := { queueState.tqf with pool := [(7, ⟨5, .act, 200000000, 3, 0x8012, 0x1234, 0, true, true, false⟩)] },
                        box := ⟨[⟨7, 5, 0, 0, 200000000, 3, true, true, false, false⟩], []⟩ }
    s.liveEntry h = some (i, e) ∧ s.box.waiting.find? (fun p => p.handle = h && !p.slack && p.received) = some p ∧ e.inst ≤
      s.now ∧ e.lost = false) := by
  refine ⟨?_, ?_, ?_, ?_, ?_, ?_, ?_, ?_, ?_, ?_, ?_, ?_, ?_⟩ <;> (dsimp only; decide +kernel)

/-- The premises of ebbCutStageDoes, ebbCmdLowStageDoes, ebbHandleDoes, ebbQueueDoes, ebbGroupDoes, qtErrClrDoes, ebbResultDoneDoes
are met. -/
theorem wit_ebbs :
    (let m : Master := .headland
    let hi : Bool := true
    let wide : Bool := true
    let v : Nat := 0x700000005
    let s : State := queueState
    s.accepts ⟨m, if wide then 0x38100010 else if hi then 0x38100014 else 0x38100010, if wide then 8 else 4, v, true⟩)
    ∧ (let m : Master := .headland
    let v : Nat := 5
    let s : State := queueState
    s.accepts ⟨m, 0x38100018, 4, v, true⟩)
    ∧ (let m : Master := .headland
    let wide : Bool := true
    let target : Nat := 7
    let high : Nat := 0xFF
    let lo : Word := 0
    let hi : Word := 0
    let low : Word := 0
    let s : State :=
      { queueState with tqf := { queueState.tqf with ebb := [(1, ⟨some 0, some 0, none, false, false, false, 0, 0, 0, 0⟩)] } }
    let h : Word := setFld (BitVec.ofNat 32 high) 8 2 0
    let e := s.ebbOf m
    e.cutLo = some lo ∧ e.cutHi = some hi ∧ ((wide = false → e.cmdLo = some low)) ∧ s.accepts ⟨m, if wide then 0x38100018 else
      0x3810001C, if wide then 8 else 4, if wide then target % 2 ^ 32 + 2 ^ 32 * h.toNat else h.toNat, true⟩)
    ∧ (let m : Master := .headland
    let wide : Bool := true
    let target : Nat := 5
    let high : Nat := 0x412
    let lo : Word := 0
    let hi : Word := 0
    let low : Word := 0
    let s : State :=
      { queueState with tqf := { queueState.tqf with ebb := [(1, ⟨some 0, some 0, none, false, false, false, 0, 0, 0, 0⟩)] } }
    let h : Word := setFld (BitVec.ofNat 32 high) 8 2 1
    let e := s.ebbOf m
    e.cutLo = some lo ∧ e.cutHi = some hi ∧ ((wide = false → e.cmdLo = some low)) ∧ s.accepts ⟨m, if wide then 0x38100018 else
      0x3810001C, if wide then 8 else 4, if wide then target % 2 ^ 32 + 2 ^ 32 * h.toNat else h.toNat, true⟩)
    ∧ (let m : Master := .headland
    let wide : Bool := true
    let target : Nat := 3
    let high : Nat := 0x412
    let lo : Word := 0
    let hi : Word := 0
    let low : Word := 0
    let s : State :=
      { queueState with tqf := { queueState.tqf with ebb := [(1, ⟨some 0, some 0, none, false, false, false, 0, 0, 0, 0⟩)] } }
    let h : Word := setFld (BitVec.ofNat 32 high) 8 2 2
    let e := s.ebbOf m
    e.cutLo = some lo ∧ e.cutHi = some hi ∧ ((wide = false → e.cmdLo = some low)) ∧ s.accepts ⟨m, if wide then 0x38100018 else
      0x3810001C, if wide then 8 else 4, if wide then target % 2 ^ 32 + 2 ^ 32 * h.toNat else h.toNat, true⟩)
    ∧ (let m : Master := .headland
    let s : State := runState.setReg .tqf 0x54 5
    s.accepts (put32 m .tqf 0x58 1))
    ∧ (let m : Master := .headland
    let s : State :=
      { queueState with tqf := { queueState.tqf with ebb := [(1, ⟨none, none, none, true, false, false, 1, 2, 0, 0⟩)] } }
    let e := s.ebbOf m
    e.busy = true) := by
  refine ⟨?_, ?_, ?_, ?_, ?_, ?_, ?_⟩ <;> (dsimp only; decide +kernel)

/-- The premises of levelActionDoes, pulseStartDoes, pulseEndDoes, triggerPulseEndDoes, pwmDutyEntryDoes, pwmPeriodEntryDoes,
pwmRunEntryDoes, pwmPeriodStartDoes, pwmDutyEndDoes, stepdirSegmentDoes, stepEdgeDoes, stepPulseEndDoes are met. -/
theorem wit_pinFunctions :
    (let port : Nat := 2
    let e : PortEntry := ⟨9, 5, 2, 0, 99999992, 0, true, true, false, false⟩
    let s : State := pinState 1 0 0
    let x := e.payload
    s.entryDue port 0 1 e ∧ x.toNat ≤ 3)
    ∧ (let port : Nat := 2
    let e : PortEntry := ⟨9, 5, 2, 0, 99999992, 4, true, true, false, false⟩
    let s : State := pinState 1 0 4
    let x := e.payload
    s.entryDue port 0 1 e ∧ 3 < x.toNat)
    ∧ (let port : Nat := 2
    let e : PortEntry := ⟨9, 5, 2, 0, 99999992, 0x80000020, true, true, false, false⟩
    let s : State := pinState 2 0 0x80000020
    let w := fld e.payload 0 31
    s.entryDue port 0 2 e ∧ 16 ≤ w)
    ∧ (let port : Nat := 2
    let e : PortEntry := ⟨9, 5, 2, 0, 99999992, 5, true, true, false, false⟩
    let s : State := pinState 2 0 5
    let w := fld e.payload 0 31
    s.entryDue port 0 2 e ∧ w < 16)
    ∧ (let port : Nat := 2
    let q : Pulse := ⟨true, 99999000, .low⟩
    let s : State := (pinRec 2 []).setPin 2 { pinFresh .low false with pulse := some ⟨true, 99999000, .low⟩ }
    let p := s.pin port
    s.pinFunc port = 2 ∧ p.pulse = some q ∧ q.ends ≤ s.now)
    ∧ (let port : Nat := 2
    let q : Pulse := ⟨true, 99999000, .low⟩
    let s : State := (pinRec 8 []).setPin 2 { pinFresh .low false with pulse := some ⟨true, 99999000, .low⟩ }
    let p := s.pin port
    s.pinFunc port = 8 ∧ p.pulse = some q ∧ q.ends ≤ s.now)
    ∧ (let port : Nat := 2
    let e : PortEntry := ⟨9, 5, 2, 0, 99999992, 500, true, true, false, false⟩
    let s : State := pinState 3 0 500
    let hi := fld e.payload 28 4
    s.entryDue port 0 3 e ∧ hi = 0)
    ∧ (let port : Nat := 2
    let e : PortEntry := ⟨9, 5, 2, 0, 99999992, 0xF0000000, true, true, false, false⟩
    let s : State := pinState 3 0 0xF0000000
    let hi := fld e.payload 28 4
    s.entryDue port 0 3 e ∧ hi ≠ 0)
    ∧ (let port : Nat := 2
    let e : PortEntry := ⟨9, 5, 2, 1, 99999992, 500, true, true, false, false⟩
    let s : State := pinState 3 1 500
    let v := fld e.payload 0 28
    let hi := fld e.payload 28 4
    s.entryDue port 1 3 e ∧ hi = 0 ∧ 160 ≤ v)
    ∧ (let port : Nat := 2
    let e : PortEntry := ⟨9, 5, 2, 1, 99999992, 100, true, true, false, false⟩
    let s : State := pinState 3 1 100
    let v := fld e.payload 0 28
    let hi := fld e.payload 28 4
    s.entryDue port 1 3 e ∧ (hi ≠ 0 ∨ v < 160))
    ∧ (let port : Nat := 2
    let e : PortEntry := ⟨9, 5, 2, 2, 99999992, 1, true, true, false, false⟩
    let s : State := (pinState 3 2 1).setPin 2 { pinFresh .low false with pwm := ⟨false, 0, 0, 400, 100, 0, false⟩ }
    let p := s.pin port
    s.entryDue port 2 3 e ∧ e.payload = 1 ∧ p.pwm.run = false ∧ 160 ≤ p.pwm.prePeriod)
    ∧ (let port : Nat := 2
    let e : PortEntry := ⟨9, 5, 2, 2, 99999992, 1, true, true, false, false⟩
    let s : State := (pinState 3 2 1).setPin 2 { pinFresh .low false with pwm := ⟨true, 0, 0, 400, 100, 0, false⟩ }
    let p := s.pin port
    s.entryDue port 2 3 e ∧ e.payload = 1 ∧ p.pwm.run = true)
    ∧ (let port : Nat := 2
    let e : PortEntry := ⟨9, 5, 2, 2, 99999992, 0, true, true, false, false⟩
    let s : State := (pinState 3 2 0).setPin 2 { pinFresh .low false with pwm := ⟨true, 0, 0, 400, 100, 0, false⟩ }
    s.entryDue port 2 3 e ∧ e.payload = 0)
    ∧ (let port : Nat := 2
    let e : PortEntry := ⟨9, 5, 2, 2, 99999992, 2, true, true, false, false⟩
    let s : State := (pinState 3 2 2).setPin 2 { pinFresh .low false with pwm := ⟨true, 0, 0, 400, 100, 0, false⟩ }
    s.entryDue port 2 3 e ∧ 1 < e.payload.toNat)
    ∧ (let port : Nat := 2
    let s : State := (pinRec 3 []).setPin 2 { pinFresh .low false with pwm := ⟨true, 400, 100, 500, 0, 99999000, false⟩ }
    let p := s.pin port
    let next := p.pwm.start + p.pwm.period
    p.pwm.run = true ∧ next ≤ s.now)
    ∧ (let port : Nat := 2
    let s : State := (pinRec 3 []).setPin 2 { pinFresh .high false with pwm := ⟨true, 400, 100, 500, 0, 99999000, true⟩ }
    let p := s.pin port
    p.pwm.run = true ∧ p.pwm.active = true ∧ p.pwm.duty < p.pwm.period ∧ p.pwm.start + p.pwm.duty ≤ s.now)
    ∧ (let port : Nat := 2
    let e : PortEntry := ⟨9, 5, 2, 0, 99999992, 0x80000800, true, true, false, false⟩
    let s : State := ((pinState 4 0 0x80000800).setReg (.tio 0) 0x884 40).setReg (.tio 0) 0x888 100
    let n := fld e.payload 0 31
    let w := fld (s.pinWord port 4) 0 16
    s.entryDue port 0 4 e ∧ ((n = 0 ∨ (40 ≤ w ∧ 32 * w ≤ n))))
    ∧ (let port : Nat := 2
    let e : PortEntry := ⟨9, 5, 2, 0, 99999992, 8, true, true, false, false⟩
    let s : State := ((pinState 4 0 8).setReg (.tio 0) 0x884 40).setReg (.tio 0) 0x888 100
    let n := fld e.payload 0 31
    let w := fld (s.pinWord port 4) 0 16
    s.entryDue port 0 4 e ∧ (¬ (n = 0 ∨ (40 ≤ w ∧ 32 * w ≤ n))))
    ∧ (let port : Nat := 2
    let g : StepSeg := ⟨true, 1600, 99999000, 2⟩
    let s : State := (pinRec 4 [(4, 40)]).setPin 2 { pinFresh .low false with seg := some ⟨true, 1600, 99999000, 2⟩ }
    let p := s.pin port
    let due := g.first + g.made * g.interval / 16
    p.seg = some g ∧ due ≤ s.now)
    ∧ (let port : Nat := 2
    let at_ : Nat := 99999000
    let s : State := (pinRec 4 []).setPin 2 { pinFresh .high false with stepEnd := some 99999000 }
    let p := s.pin port
    p.stepEnd = some at_ ∧ at_ ≤ s.now) := by
  refine ⟨?_, ?_, ?_, ?_, ?_, ?_, ?_, ?_, ?_, ?_, ?_, ?_, ?_, ?_, ?_, ?_, ?_, ?_, ?_, ?_⟩ <;> (dsimp only; decide +kernel)

/-- The premises of pinCfgWriteDoes, offsetWriteDoes, capturePopDoes, pinCountReadDoes, coordReadDoes, bankCntClrDoes,
captureFlushDoes are met. -/
theorem wit_pinRegisters :
    (let m : Master := .headland
    let port : Nat := 2
    let v : Nat := 4
    let s : State := pinRec 0 []
    s.accepts (put32 m (pinPage port) (pinOff port 0) v) ∧ port < 448 ∧ v < 2 ^ 32)
    ∧ (let m : Master := .headland
    let port : Nat := 2
    let v : Nat := 0x1122334455667788
    let s : State := pinRec 6 [(4, 65536)]
    s.accepts (put64 m (pinPage port) (pinOff port 0x18) v) ∧ port < 448 ∧ v < 2 ^ 64)
    ∧ (let m : Master := .headland
    let k : Nat := 0
    let c : Capture := ⟨0x500000006, 2, true, false, 9⟩
    let cs : List Capture := [⟨7, 3, true, false, 10⟩]
    let wide : Bool := false
    let s : State := (pinRec 5 []).setBank 0 ⟨[⟨0x500000006, 2, true, false, 9⟩, ⟨7, 3, true, false, 10⟩], 11, false⟩
    s.serves (readOf m (.tio k) (0x48) wide) ∧ k < 14 ∧ (s.bank k).buf = c :: cs ∧ s.pageRuns (.tio k) = true)
    ∧ (let m : Master := .headland
    let port : Nat := 2
    let wide : Bool := false
    let s : State := (pinRec 6 []).setPin 2 { pinFresh .low false with cnt := -3, sample := ⟨0x700000001, -9⟩ }
    s.serves (readOf m (pinPage port) (pinOff port 0x28) wide) ∧ port < 448 ∧ s.pageRuns (pinPage port) = true)
    ∧ (let m : Master := .headland
    let port : Nat := 2
    let wide : Bool := false
    let s : State := (pinRec 6 []).setPin 2 { pinFresh .low false with cnt := -3, sample := ⟨0x700000001, -9⟩ }
    s.serves (readOf m (pinPage port) (pinOff port 0x30) wide) ∧ port < 448 ∧ s.pageRuns (pinPage port) = true)
    ∧ (let m : Master := .headland
    let k : Nat := 0
    let s : State := ((pinRec 6 []).setReg (.tio 0) 0x54 0x50000).setReg (.tio 0) 0x58 4
    s.accepts (put32 m (.tio k) 0x5C 1) ∧ k < 14)
    ∧ (let m : Master := .headland
    let k : Nat := 0
    let s : State := (pinRec 5 []).setBank 0 ⟨[⟨7, 3, true, false, 10⟩], 11, true⟩
    s.accepts (put32 m (.tio k) 0x5C 2) ∧ k < 14) := by
  refine ⟨?_, ?_, ?_, ?_, ?_, ?_, ?_⟩ <;> (dsimp only; decide +kernel)

/-- The premises of captureEdgeDoes, quadEdgeDoes, quadSampleDoes, ssiReadDoes, ssiReadDoneDoes, generatorStartDoes,
generatorStopDoes, tlogQueryDoes, generatorSampleDoes, triggerEdgeDoes, generatorStallDoes are met. -/
theorem wit_encodersAndGenerators :
    (let port : Nat := 2
    let level : Bool := true
    let s : State := pinRec 5 [(0, 0x105)]
    s.pinFunc port = 5 ∧ bit (s.pinCfg port) (if level then 8 else 9) = true)
    ∧ (let port : Nat := 2
    let isB : Bool := false
    let level : Bool := true
    let i : Nat := 99999999
    let s : State := pinRec 6 [(4, 65536)]
    let p := s.pin port
    let near := (if isB then p.lastA else p.lastB).any fun x => decide (i - x < 80)
    let lv := if isB then (p.input, level) else (level, (s.pin (port + 1)).input)
    let turn := (quadPhase lv.1 lv.2 - quadPhase p.quadA p.quadB) % 4
    let one : Int := if turn = 1 then 1 else if turn = 3 then -1 else 0
    let step := if bit (s.pinCfg port) 6 then -one else one
    s.pinFunc port = 6 ∧ sgn 64 (uns 64 (p.cnt + step)) = p.cnt + step ∧ near = false ∧ turn ≠ 2)
    ∧ (let port : Nat := 2
    let isB : Bool := true
    let level : Bool := true
    let i : Nat := 99999999
    let s : State := (pinRec 6 [(4, 65536)]).setPin 2 { pinFresh .hiZ false with lastA := some 99999990 }
    let p := s.pin port
    let near := (if isB then p.lastA else p.lastB).any fun x => decide (i - x < 80)
    let lv := if isB then (p.input, level) else (level, (s.pin (port + 1)).input)
    let turn := (quadPhase lv.1 lv.2 - quadPhase p.quadA p.quadB) % 4
    let one : Int := if turn = 1 then 1 else if turn = 3 then -1 else 0
    let step := if bit (s.pinCfg port) 6 then -one else one
    s.pinFunc port = 6 ∧ sgn 64 (uns 64 (p.cnt + step)) = p.cnt + step ∧ near = true)
    ∧ (let port : Nat := 2
    let i : Nat := 99992000
    let s : State := (pinRec 6 [(4, 98304)]).setPin 2 { pinFresh .hiZ false with cnt := -7 }
    s.pinFunc port = 6 ∧ i % 8000 = 0 ∧ i ≤ s.now)
    ∧ (let port : Nat := 2
    let i : Nat := 100000000
    let s : State := pinRec 7 [(4, 12), (8, 50), (12, 50000)]
    let p := s.pin port
    s.pinFunc port = 7 ∧ (s.pinWord port 12).toNat ≠ 0 ∧ i % (s.pinWord port 12).toNat = 0 ∧ i ≤ s.now ∧ p.ssiLatch = none)
    ∧ (let port : Nat := 2
    let raw : Nat := 0x234
    let parityBit : Bool := false
    let parityOk : Bool := true
    let i : Nat := 99999000
    let s : State := (pinRec 7 [(4, 12), (8, 50), (12, 50000), (16, 65536)]).setPin 2
      { pinFresh .hiZ false with ssiLatch := some 99999000 }
    let p := s.pin port
    let cfg := s.pinWord port 4
    let n := fld cfg 0 6
    let v := raw % 2 ^ n
    let failed := (bit cfg 7 && !parityOk) || (decide (v = 2 ^ n - 1) && (!bit cfg 7 || parityBit))
    p.ssiLatch = some i ∧ failed = false)
    ∧ (let port : Nat := 2
    let raw : Nat := 0x234
    let parityBit : Bool := false
    let parityOk : Bool := false
    let i : Nat := 99999000
    let s : State := (pinRec 7 [(4, 0x8C), (8, 50), (12, 50000), (16, 65536)]).setPin 2
      { pinFresh .hiZ false with ssiLatch := some 99999000 }
    let p := s.pin port
    let cfg := s.pinWord port 4
    let n := fld cfg 0 6
    let v := raw % 2 ^ n
    let failed := (bit cfg 7 && !parityOk) || (decide (v = 2 ^ n - 1) && (!bit cfg 7 || parityBit))
    p.ssiLatch = some i ∧ failed = true)
    ∧ (let m : Master := .headland
    let g : Nat := 1
    let cfg : Word := 33701888
    let s : State := { (genState.setReg .tioc 0x840 0) with gens := [] }
    s.accepts (put32 m .tioc (0x800 + g * 0x40) (setBit cfg 31 true).toNat) ∧ g < 16)
    ∧ (let m : Master := .headland
    let g : Nat := 1
    let cfg : Word := 33701888
    let s : State := genState
    s.accepts (put32 m .tioc (0x800 + g * 0x40) (setBit cfg 31 false).toNat) ∧ g < 16)
    ∧ (let m : Master := .headland
    let wide : Bool := true
    let v : Nat := 0x100000005
    let s : State := { genState.setGen 1 { genState.gen 1 with log := [(5, 99, -7)] } with tlog := [(1, ⟨5, 0, 0, 0⟩)] }
    v < 2 ^ 64 ∧ (if wide then s.accepts (put64 m .tioc 0x48 v) else s.accepts (put32 m .tioc 0x4C v)))
    ∧ (let g : Nat := 1
    let x : Sample := ⟨99990000, 500⟩
    let s : State := genState
    let gn := s.gen g
    s.genRun g = true ∧ tabGet? s.src (s.genSrc g) = some x ∧ (gn.taken.any fun i => decide (x.inst ≤ i)) = false)
    ∧ (let g : Nat := 1
    let i : Nat := 99999000
    let c : Int := 450
    let rest : List (Nat × Int) := [(99999900, 500)]
    let s : State := genState
    let gn := s.gen g
    gn.fixed = (i, c) :: rest ∧ i ≤ s.now)
    ∧ (let g : Nat := 1
    let s : State := { genState with now := 110000000 }
    let gn := s.gen g
    s.genRun g = true ∧ gn.last + 4 * s.srcInterval (s.genSrc g) ≤ s.now ∧ bit (s.genWord g 0x18) 1 = false ∧ g < 16) := by
  refine ⟨?_, ?_, ?_, ?_, ?_, ?_, ?_, ?_, ?_, ?_, ?_, ?_, ?_⟩ <;> (dsimp only; decide +kernel)

/-- The premises of cyclicFrameDoes, acyclicFrameDoes, tsnFrameDoes, acyclicFrameOverdue, tsnFrameOverdue, syncSendDoes,
tsnMasterSyncSendDoes, peerDelayExchangeDoes, t1sCntClrDoes, tsnCntClrDoes are met. -/
theorem wit_networkSending :
    (let seg : Nat := 0
    let i : Nat := 104000000
    let start : Nat := 102250000
    let s : State := netState
    let port := 448 + seg
    let n := s.netPort port
    s.netRuns port = true ∧ s.isSlot seg i = true ∧ i ≤ start + s.segHL seg + 201600 ∧ n.lastSlot ≠ some i)
    ∧ (let seg : Nat := 0
    let start : Nat := 103999999
    let s : State := { netState with box := ⟨[⟨9, 5, 448, 3, 104000040, 77, true, true, false, false⟩], []⟩ }
    let port := 448 + seg
    let n := s.netPort port
    let es := (s.unsent port).filter fun e => s.chanValid port e.chan && e.inst + 16000 ≤ start + s.segHL seg && !(s.chanType
      port e.chan = 0 && s.isSlot seg e.inst)
    let group := s.frameGroup port es
    let ends := fun (k : Nat) => start + 34 * 6400 + 6400 * tailBytes k
    let split := s.include (fun k => (ends k : Int)) group [] []
    s.netRuns port = true ∧ n.busyUntil ≤ start ∧ ∀ e ∈ split.1.head?.toList, s.chanType port e.chan ≤ 1 ∧ ∀ e ∈
      split.1.head?.toList, ∀ c ∈ (tabGet? n.safe e.chan).toList, s.chanType port e.chan = 2 ∧ split.1 = [] ∧ group ≠ [])
    ∧ (let n0 : Nat := 0
    let start : Nat := 100059000
    let s : State := netState
    let port := 496 + n0
    let n := s.netPort port
    let es := (s.unsent port).filter fun e => s.chanValid port e.chan && e.inst ≤ start + 80000
    let group := s.frameGroup port es
    let ends := fun (k : Nat) => start + s.byteTicks port (frameBytes (group.any fun e => bit (s.reg (.tsn n0) (0x404 + fld
      (s.desc port e.chan 12) 16 5 * 8)) 31) k)
    let split := s.include (fun k => (ends k : Int)) group [] []
    s.netRuns port = true ∧ n.busyUntil ≤ start ∧ group.length = 1 ∧ s.gateOpen n0 (s.regF (.tsn n0) 0x40 3 3) start (ends
      (group.length)) = true ∧ ∀ e ∈ split.1.head?.toList, s.chanType port e.chan ≤ 1 ∧ ∀ e ∈ split.1.head?.toList, ∀ c ∈
      (tabGet? n.safe e.chan).toList, s.chanType port e.chan = 2 ∧ split.1 = [] ∧ group ≠ [])
    ∧ (let seg : Nat := 0
    let s : State :=
      { netState.setReg (segPage 0) (segOff 0 0x20) 0 with box := ⟨[⟨9, 5, 448, 3, 99000000, 77, true, true, false, false⟩], []⟩ }
    let port := 448 + seg
    s.netRuns port = false)
    ∧ (let n0 : Nat := 0
    let s : State :=
      { netState.setReg (.tsn 0) 0x44 0 with box := ⟨[⟨9, 5, 496, 3, 99000000, 77, true, true, false, false⟩], []⟩ }
    let port := 496 + n0
    s.netRuns port = false)
    ∧ (let seg : Nat := 0
    let s : State := netState
    let port := 448 + seg
    s.netRuns port = true ∧ bit (s.reg (segPage seg) (segOff seg 0)) 14 = true)
    ∧ (let n0 : Nat := 0
    let s : State := netState
    let port := 496 + n0
    s.netRuns port = true ∧ s.asRole n0 = 1)
    ∧ (let n0 : Nat := 0
    let s : State := netState
    s.netRuns (496 + n0) = true ∧ bit (s.reg (.tsn n0) 0x40) 7 = true)
    ∧ (let m : Master := .headland
    let seg : Nat := 5
    let s : State := (netState.setReg (.t1s 1) 0xA4 5).setReg (.t1s 1) 0xB0 9
    seg < 48 ∧ s.accepts (put32 m (segPage seg) (segOff seg 0x34) 1))
    ∧ (let m : Master := .headland
    let n : Nat := 0
    let s : State := tsnState
    n < 16 ∧ s.accepts (put32 m (.tsn n) 0x70 1)) := by
  refine ⟨?_, ?_, ?_, ?_, ?_, ?_, ?_, ?_, ?_, ?_⟩ <;> (dsimp only; decide +kernel)

/-- The premises of ackReceiveDoes, ackTimeoutDoes, eventFrameReceiveDoes, rxFrameDiscardDoes, safeFrameReceiveDoes,
safeKeepaliveDoes, safeConnectionLostDoes, safeConnectionOpenDoes, tsnLinkChangeDoes are met. -/
theorem wit_networkReceiving :
    (let f : RxFrame := ⟨true, false, false, 1, 4, 0, 7, 0, [(0x010007, 0)], 0, 0⟩
    f.bad = false ∧ f.type = 4)
    ∧ (let port : Nat := 448
    let a : PendingAck := ⟨7, .set, 5, 0x010007, 5, 100900000, 99900000, 0⟩
    let s : State := safeState
    let n := s.netPort port
    let cfg := s.reg (netPage port) (netOff port 0x18 0x58)
    n.acks.find? (fun a => a.sentAt + fld cfg 0 16 * 8000 ≤ s.now) = some a)
    ∧ (let f : RxFrame := ⟨true, false, false, 1, 3, 0, 7, 0, [(0x010007, 5)], 0, 0⟩
    f.bad = false ∧ f.type = 3)
    ∧ (let f : RxFrame := ⟨true, false, false, 1, 2, 0, 7, 0, [(0x010007, 5)], 0, 0⟩
    (f.bad = true ∨ f.type ≠ 3))
    ∧ (let foreign : Bool := true
    let f : RxFrame := ⟨true, false, false, 1, 3, 0, 7, 0, [], 0, 0⟩
    (foreign || f.bad) = true)
    ∧ (let port : Nat := 448
    let chan : Nat := 4
    let f : RxFrame := ⟨true, false, false, 1, 5, 0, 7, 0, [(0x010006, 5)], 9, 0⟩
    let c : SafeConn := ⟨3, some 8, 99000000, 99000000, 12⟩
    let obj : Nat := 0x010006
    let v : Word := 5
    let rest : List (Nat × Word) := []
    let s : State := safeState
    let n := s.netPort port
    let h := headerBytes f.type f.ackReq.toNat f.retry.toNat f.reserved f.seq f.asTime
    let code := s.safeCode port chan h obj v f.wdSeq
    let inSeq := match c.rxSeq with | none => decide (f.wdSeq ≠ 0) | some l => decide (f.wdSeq = nextWd l)
    tabGet? n.safe chan = some c ∧ f.records = (obj, v) :: rest ∧ f.type = 5 ∧ (f.bad = true ∨ f.safeCrc ≠ code ∨ inSeq =
      false))
    ∧ (let port : Nat := 448
    let chan : Nat := 4
    let f : RxFrame := ⟨true, false, false, 1, 5, 0, 7, 0, [(0x010006, 5)], 9, safeState.safeCode 448 4 (headerBytes 5 0 0 0 7
      0) 0x010006 5 9⟩
    let c : SafeConn := ⟨3, some 8, 99000000, 99000000, 12⟩
    let obj : Nat := 0x010006
    let v : Word := 5
    let rest : List (Nat × Word) := []
    let s : State := safeState
    let n := s.netPort port
    let h := headerBytes f.type f.ackReq.toNat f.retry.toNat f.reserved f.seq f.asTime
    let code := s.safeCode port chan h obj v f.wdSeq
    let inSeq := match c.rxSeq with | none => decide (f.wdSeq ≠ 0) | some l => decide (f.wdSeq = nextWd l)
    tabGet? n.safe chan = some c ∧ f.records = (obj, v) :: rest ∧ f.type = 5 ∧ f.bad = false ∧ f.safeCrc = code ∧ inSeq = true)
    ∧ (let port : Nat := 448
    let chan : Nat := 4
    let c : SafeConn := ⟨3, some 8, 99000000, 99000000, 12⟩
    let s : State := safeState
    let n := s.netPort port
    tabGet? n.safe chan = some c ∧ c.lastTx + s.safeTmo port / 2 ≤ s.now)
    ∧ (let port : Nat := 448
    let chan : Nat := 4
    let c : SafeConn := ⟨3, some 8, 99000000, 99000000, 12⟩
    let s : State := safeState
    let n := s.netPort port
    tabGet? n.safe chan = some c ∧ c.lastRx + s.safeTmo port ≤ s.now ∧ 448 ≤ port ∧ port < 512)
    ∧ (let port : Nat := 448
    let chan : Nat := 4
    let s : State := { safeState with net := [] }
    let n := s.netPort port
    s.safeCond port chan = true ∧ tabGet? n.safe chan = none)
    ∧ (let n : Nat := 0
    let up : Bool := true
    let s : State := netState
    (¬ (up = false ∧ s.asRole n = 2))) := by
  refine ⟨?_, ?_, ?_, ?_, ?_, ?_, ?_, ?_, ?_, ?_, ?_⟩ <;> (dsimp only; decide +kernel)

/-- The premises of trackerSourceSampleDoes, sourceStallDoes, contextOpenDeferredDoes, visitEvaluateDoes, repredictionResultDoes,
visitFreezeDoes, visitDoneDoes are met. -/
theorem wit_trackerEvents :
    (let slot : Nat := 0
    let x : Sample := ⟨99999900, 5000⟩
    let s : State := trkState
    let id := fld (s.slotCfg slot) 0 16
    let sl := s.slot slot
    bit (s.slotCfg slot) 31 = true ∧ tabGet? s.src id = some x ∧ (sl.taken.any fun i => decide (x.inst ≤ i)) = false ∧
      s.trkHalted = false ∧ ((∀ c ∈ s.openCtxs, s.ctxSource c ≠ id ∨ s.rd (tplAddr (s.ctxTemplate c) 4) = 0)))
    ∧ (let slot : Nat := 0
    let s : State := { trkState with now := 200000000 }
    let id := fld (s.slotCfg slot) 0 16
    bit (s.slotCfg slot) 31 = true ∧ (s.slot slot).last + 4 * s.srcInterval id ≤ s.now ∧ s.slotStat slot 1 = false ∧
      s.trkHalted = false ∧ ((∀ c ∈ s.openCtxs, s.ctxSource c = id → ∀ v, v < 8 → s.vstate c v ≠ 2)) ∧ ((∀ c ∈ s.openCtxs,
      s.ctxSource c = id → ∃ v, v < 8 ∧ s.vstate c v ≠ 0 ∧ s.vstate c v < 4)))
    ∧ (let r : OpenReq := ⟨0, 777, 0x4000, 0, 2, 0, 5, 6, some 9, some 4, 0⟩
    let rest : List OpenReq := []
    let c : Nat := 9
    let s : State :=
      { trkState with trk := { trkState.trk with waiting := [⟨0, 777, 0x4000, 0, 2, 0, 5, 6, some 9, some 4, 0⟩] } }
    s.trk.waiting = r :: rest ∧ s.opensNow < 8 ∧ r.ctx = some c ∧ c < 16384 ∧ r.template < 256)
    ∧ (let slot : Nat := 0
    let c : Nat := 3
    let v : Nat := 0
    let p : Int := 109999900
    let s : State := trkState
    let x := s.visit c v
    let now := (s.now : Int)
    s.sweepNext = some (slot, c, v) ∧ s.trkHalted = false ∧ s.ctxOpen c = true ∧ s.trk.repred = none ∧ v < 8 ∧ c < 16384 ∧
      s.vstate c v = 1 ∧ s.visPredict slot c v = .at_ p ∧ s.qLead x.queue ≤ p - now ∧ p - now ≤ 2 ^ 33 - 8000)
    ∧ (let slot : Nat := 0
    let c : Nat := 3
    let v : Nat := 0
    let s : State := visState 1 0
    s.sweepNext = some (slot, c, v) ∧ s.trkHalted = false ∧ s.ctxOpen c = true ∧ s.trk.repred = none ∧ v < 8 ∧ c < 16384 ∧
      s.vstate c v = 1 ∧ s.visPredict slot c v = .passed)
    ∧ (let slot : Nat := 0
    let c : Nat := 3
    let v : Nat := 0
    let s : State := visState 2 100005000
    let now := (s.now : Int)
    s.sweepNext = some (slot, c, v) ∧ s.trkHalted = false ∧ s.ctxOpen c = true ∧ s.trk.repred = none ∧ v < 8 ∧ c < 16384 ∧
      s.vstate c v = 2 ∧ s.freezePoint c v ≤ s.now)
    ∧ (let slot : Nat := 0
    let c : Nat := 3
    let v : Nat := 0
    let s : State := trkState.setSlot 0 { trkState.slot 0 with hist := [] }
    s.sweepNext = some (slot, c, v) ∧ s.trkHalted = false ∧ s.ctxOpen c = true ∧ s.trk.repred = none ∧ v < 8 ∧ c < 16384 ∧
      s.vstate c v = 1 ∧ s.visPredict slot c v = .none)
    ∧ (let r : Repred := ⟨3, 0, none, 1⟩
    let s : State :=
      { visState 2 200000000 with trk := { (visState 2 200000000).trk with repred := some ⟨3, 0, none, 1⟩ },
                                  tqf := { trkState.tqf with ebb := [(0x20, ⟨none, none, none, true, false, false, 1, 0, 0, 0⟩)] } }
    let e := s.ebbOf .tracker
    s.trk.repred = some r ∧ e.busy = true ∧ r.visit < 8 ∧ r.ctx < 16384)
    ∧ (let c : Nat := 3
    let v : Nat := 0
    let s : State := visState 2 100005000
    s.vstate c v = 2 ∧ (s.visit c v).seen = false ∧ (s.trk.repred.any fun r => r.ctx = c && r.visit = v) = false ∧
      s.freezePoint c v ≤ s.now ∧ v < 8)
    ∧ (let c : Nat := 3
    let v : Nat := 0
    let s : State := visState 3 99999000
    s.vstate c v = 3 ∧ (s.visit c v).sub ≤ s.now ∧ v < 8 ∧ c < 16384 ∧ s.ctxOpen c = true) := by
  refine ⟨?_, ?_, ?_, ?_, ?_, ?_, ?_, ?_, ?_, ?_⟩ <;> (dsimp only; decide +kernel)

/-- The premises of sourceSlotWriteDoes, fwInstStageDoes, fwSampleCommitDoes, stationWriteDoes, templateWriteDoes, openCmdDoes,
contextCancelDoes, trErrClrDoes, trackerStatClrDoes are met. -/
theorem wit_trackerCommands :
    (let m : Master := .headland
    let i : Nat := 1
    let v : Nat := 0x80024001
    let s : State := trkState
    s.accepts (put32 m .trk (0x800 + 16 * i) v) ∧ i < 16 ∧ v < 2 ^ 32)
    ∧ (let m : Master := .headland
    let f : Nat := 3
    let v : Nat := 99999999
    let s : State := trkState
    s.accepts (put64 m .trk (0xC00 + 16 * f) v) ∧ f < 64 ∧ v < 2 ^ 64)
    ∧ (let m : Master := .headland
    let f : Nat := 3
    let v : Nat := 0xFFFFFFFFFFFFFFF7
    let i : Nat := 99999999
    let s : State := { trkState with trk := { trkState.trk with fw := [(67, 99999999)] } }
    s.accepts (put64 m .trk (0xC08 + 16 * f) v) ∧ f < 64 ∧ v < 2 ^ 64 ∧ tabGet? s.trk.fw (m.id * 64 + f) = some i)
    ∧ (let m : Master := .headland
    let t0 : Nat := 1
    let word : Nat := 2
    let v : Nat := 0x00004000
    let s : State := trkState.wr (stationAddr 1 0x10) 0x00010005 |>.wr (stationAddr 1 0x1C) 1
    t0 < 256 ∧ word < 16 ∧ ((s.stnValid t0 = false ∨ word ≠ 2 ∨ v / 2 ^ 31 = 1)) ∧ v < 2 ^ 32 ∧ s.accepts ⟨m, 0x3C100000 + 64 *
      t0 + 4 * word, 4, v, true⟩)
    ∧ (let m : Master := .headland
    let t0 : Nat := 5
    let word : Nat := 5
    let v : Nat := 0x00004000
    let s : State := trkState
    t0 < 256 ∧ word < 64 ∧ v < 2 ^ 32 ∧ s.accepts ⟨m, 0x3C200000 + 256 * t0 + 4 * word, 4, v, true⟩)
    ∧ (let m : Master := .headland
    let v : Nat := 0
    let lo : Word := 7
    let hi : Word := 0
    let s : State := trkState.setOpenStage 1 ⟨some 7, some 0, 3, 4, 0⟩
    let st := s.openStage m.id
    st.lo = some lo ∧ st.hi = some hi ∧ s.accepts (put32 m .trk 0x68 v))
    ∧ (let m : Master := .headland
    let v : Nat := 3
    let s : State := trkState
    let c := v % 2 ^ 14
    s.accepts (put32 m .trk 0x70 v) ∧ ((∀ u, u < 8 → s.vstate c u ≠ 2)))
    ∧ (let m : Master := .headland
    let s : State := trkState.setReg .trk 0x50 5
    s.accepts (put32 m .trk 0x54 1))
    ∧ (let m : Master := .headland
    let s : State := trkState.setReg .trk 0x80 5
    s.accepts (put32 m .trk 0x8C 1)) := by
  refine ⟨?_, ?_, ?_, ?_, ?_, ?_, ?_, ?_, ?_⟩ <;> (dsimp only; decide +kernel)

/-- The premises of appendWordDoes, appendCommitDoes, rmRdWriteDoes, rollmapClrDoes, rollmapRecordWriteDoes, ffDataAccessDoes,
kcommitDoes, surfGroupClrDoes, cameraClrDoes, surfLaneClrDoes are met. -/
theorem wit_rollMapAndSurfRegisters :
    (let m : Master := .headland
    let w : Nat := 6
    let v : Nat := 0xFFFF0000
    let s : State := surfState
    s.accepts (put32 m .rmap (0x900 + 4 * w) v) ∧ w < 7 ∧ v < 2 ^ 32)
    ∧ (let m : Master := .headland
    let v : Nat := 0xFFFF
    let w : Nat → Word := fun k => if k = 5 then 0x03050000 else if k = 6 then 0x00010010 else BitVec.ofNat 32 (k * 77)
    let f : Nat := 2
    let s : State :=
      { (surfState.setReg .rmap 0x44 2).setReg .rmap 0x800 0 |>.setReg .rmap 0x50 3 with roll := ⟨true, [(1, ⟨(List.range 7).map fun k => (k, if k = 5 then 0x03050000 else if k = 6 then 0x00010010 else BitVec.ofNat 32 (k * 77)), 0⟩)]⟩ }
    ((∀ k, k < 7 → tabGet? (s.append m.id).words k = some (w k))) ∧ s.accepts (put32 m .rmap 0x91C v) ∧ s.rmFill = f ∧ f ≤
      65536 ∧ f < 65536)
    ∧ (let m : Master := .headland
    let v : Nat := 0xFFFF
    let w : Nat → Word := fun k => if k = 5 then 0x03050000 else if k = 6 then 0x00010010 else BitVec.ofNat 32 (k * 77)
    let f : Nat := 65536
    let s : State :=
      { (surfState.setReg .rmap 0x44 65536).setReg .rmap 0x800 32 |>.setReg .rmap 0x50 0 with roll := ⟨false, [(1, ⟨(List.range 7).map fun k => (k, if k = 5 then 0x03050000 else if k = 6 then 0x00010010 else BitVec.ofNat 32 (k * 77)), 0⟩)]⟩ }
    let cls := fld (w 5) 16 8
    ((∀ k, k < 7 → tabGet? (s.append m.id).words k = some (w k))) ∧ s.accepts (put32 m .rmap 0x91C v) ∧ s.rmFill = f ∧ f ≤
      65536 ∧ f = 65536 ∧ s.rmOverwrites cls = true)
    ∧ (let m : Master := .headland
    let v : Nat := 0xFFFF
    let w : Nat → Word := fun k => if k = 5 then 0x03050000 else if k = 6 then 0x00010010 else BitVec.ofNat 32 (k * 77)
    let f : Nat := 65536
    let s : State :=
      { (surfState.setReg .rmap 0x44 65536).setReg .rmap 0x800 0 |>.setReg .rmap 0x50 0 with roll := ⟨false, [(1, ⟨(List.range 7).map fun k => (k, if k = 5 then 0x03050000 else if k = 6 then 0x00010010 else BitVec.ofNat 32 (k * 77)), 0⟩)]⟩ }
    let cls := fld (w 5) 16 8
    ((∀ k, k < 7 → tabGet? (s.append m.id).words k = some (w k))) ∧ s.accepts (put32 m .rmap 0x91C v) ∧ s.rmFill = f ∧ f ≤
      65536 ∧ f = 65536 ∧ s.rmOverwrites cls = false)
    ∧ (let m : Master := .headland
    let v : Nat := 5
    let s : State := surfState.setReg .rmap 0x44 7
    s.accepts (put32 m .rmap 0x48 v))
    ∧ (let m : Master := .headland
    let s : State := (surfState.setReg .rmap 0x54 5).setReg .rmap 0xC04 3
    s.accepts (put32 m .rmap 0x60 1))
    ∧ (let g : Nat := 3
    let b : Blob := ⟨0, false, true, ⟨9, 0, 2, 4, 3, 90, 10, 10, 9, 9⟩, 7, false, none, none⟩
    let rest : List Blob := []
    let s : State :=
      { surfState with surf := { surfState.surf with blobs := [(3, [⟨0, false, true, ⟨9, 0, 2, 4, 3, 90, 10, 10, 9, 9⟩, 7, false, none, none⟩])] },
                       roll := ⟨true, []⟩ }
    ((List.range 8).map fun k => (s.surf.lastGroup + 1 + k) % 8).find? (fun g => !(tabGet [] s.surf.blobs g).isEmpty) = some g
      ∧ tabGet? s.surf.blobs g = some (b :: rest) ∧ s.rmFill < 65536)
    ∧ (let m : Master := .headland
    let g : Nat := 0
    let v : Nat := 0x12345678
    let s : State := surfState.setReg (.surfL 0) 0x40 0x80000FFF
    v < 2 ^ 32 ∧ s.accepts (put32 m (.surfL g) 0x44 v) ∧ s.serves (readOf m (.surfL g) 0x44 false))
    ∧ (let m : Master := .headland
    let l : Nat := 1
    let s : State := surfState
    let a := Page.base (lanePage l) + laneOff l 8
    l < 64 ∧ s.accepts ⟨m, a, 4, 1, true⟩)
    ∧ (let m : Master := .headland
    let g : Nat := 0
    let s : State := surfState.setReg (.surfG 0) 0x50 5
    s.accepts (put32 m (.surfG g) 0x5C 1))
    ∧ (let m : Master := .headland
    let c : Nat := 1
    let s : State := surfState.setReg (.surfG 0) (camOff 1 0x2C) 5
    c < 16 ∧ s.accepts (put32 m (camPage c) (camOff c 0x38) 1))
    ∧ (let m : Master := .headland
    let l : Nat := 9
    let s : State := surfState.setReg (.surfL 1) (laneOff 9 0x10) 5
    l < 64 ∧ s.accepts (put32 m (lanePage l) (laneOff l 0x1C) 1)) := by
  refine ⟨?_, ?_, ?_, ?_, ?_, ?_, ?_, ?_, ?_, ?_, ?_, ?_⟩ <;> (dsimp only; decide +kernel)

/-- The premises of cameraEnableDoes, cameraDisableDoes, cameraDrainDoneDoes, lineIntakeDoes, lineIntakeTogether,
laneLineCompleteDoes, laneLineOpens, kernelShadowCopyDoes are met. -/
theorem wit_surfLines :
    (let m : Master := .headland
    let c : Nat := 0
    let cfg : Word := 0x2000
    let s : State := surfBase
    let v := cfg ||| 1
    let a := Page.base (camPage c) + camOff c 0
    c < 16 ∧ s.camEn c = false ∧ s.accepts ⟨m, a, 4, v.toNat, true⟩)
    ∧ (let m : Master := .headland
    let c : Nat := 0
    let cfg : Word := 0x2001
    let s : State := surfState
    let a := Page.base (camPage c) + camOff c 0
    let v := cfg &&& 0xFFFFFFFE
    c < 16 ∧ s.camEn c = true ∧ s.accepts ⟨m, a, 4, v.toNat, true⟩)
    ∧ (let c : Nat := 0
    let s : State := surfBase.setCam 0 ⟨[], 0, 0, false, true⟩
    (s.surfCam c).draining = true ∧ (s.surfCam c).started = false ∧ c < 16 ∧ (s.surf.wins.any fun w => w.cam = c) = false ∧
      (s.surf.blobs.any fun e => e.2.any fun b => b.cam = c) = false ∧ (s.surf.frags.any fun e => e.2.cam = c) = false)
    ∧ (let c : Nat := 0
    let x : GhLine := ⟨7, 0, [1, 2, 3, 4, 5, 6], 3⟩
    let rest : List GhLine := [⟨8, 0, [1, 2, 3, 4, 5, 6], 3⟩]
    let s : State := surfState
    let l := fld (s.camCfg c) 1 5
    let k := s.surfCam c
    let good := decide (x.pixels.length = s.camWidth c ∧ x.depth = fld (s.camCfg c) 18 2)
    (s.inLink l).lines = x :: rest ∧ c < 16 ∧ s.camEn c = true ∧ good = true ∧ k.started = false ∧ s.stitchWith c = [] ∧
      s.camRoom c = true)
    ∧ (let c : Nat := 0
    let x : GhLine := ⟨7, 1, [1, 2, 3, 4, 5, 6], 3⟩
    let rest : List GhLine := []
    let s : State := surfState.setIn 0 { surfState.inLink 0 with lines := [⟨7, 1, [1, 2, 3, 4, 5, 6], 3⟩] }
    let l := fld (s.camCfg c) 1 5
    let good := decide (x.pixels.length = s.camWidth c ∧ x.depth = fld (s.camCfg c) 18 2)
    (s.inLink l).lines = x :: rest ∧ c < 16 ∧ s.camEn c = true ∧ good = false)
    ∧ (let c : Nat := 0
    let x : GhLine := ⟨10, 0, [1, 2, 3, 4, 5, 6], 3⟩
    let rest : List GhLine := []
    let s : State := surfLines.setIn 0 { surfLines.inLink 0 with lines := [⟨10, 0, [1, 2, 3, 4, 5, 6], 3⟩] }
    let l := fld (s.camCfg c) 1 5
    let k := s.surfCam c
    let n := x.num + s.camWord c 8
    let good := decide (x.pixels.length = s.camWidth c ∧ x.depth = fld (s.camCfg c) 18 2)
    (s.inLink l).lines = x :: rest ∧ c < 16 ∧ s.camEn c = true ∧ good = true ∧ k.started = true ∧ (n = BitVec.ofNat 32 k.last ∨
      2 ^ 31 ≤ (n - BitVec.ofNat 32 k.last).toNat))
    ∧ (let c : Nat := 0
    let x : GhLine := ⟨11, 0, [0, 80, 90, 0, 0, 0], 3⟩
    let rest : List GhLine := (List.range 3).map fun k => ⟨wordOf (12 + k), 0, [0, 80, 90, 0, 0, 0], 3⟩
    let s : State := surfLines
    let l := fld (s.camCfg c) 1 5
    let k := s.surfCam c
    let n := x.num + s.camWord c 8
    let good := decide (x.pixels.length = s.camWidth c ∧ x.depth = fld (s.camCfg c) 18 2)
    (s.inLink l).lines = x :: rest ∧ c < 16 ∧ s.camEn c = true ∧ good = true ∧ k.started = true ∧ n = BitVec.ofNat 32 (k.last +
      1) ∧ s.stitchWith c = [] ∧ s.camRoom c = true)
    ∧ (let c : Nat := 0
    let x : GhLine := ⟨13, 0, [0, 80, 90, 0, 0, 0], 3⟩
    let rest : List GhLine := [⟨14, 0, [0, 80, 90, 0, 0, 0], 3⟩]
    let s : State := (surfLines.lineIntake 0).lineIntake 0
    let l := fld (s.camCfg c) 1 5
    let k := s.surfCam c
    let n := x.num + s.camWord c 8
    let good := decide (x.pixels.length = s.camWidth c ∧ x.depth = fld (s.camCfg c) 18 2)
    (s.inLink l).lines = x :: rest ∧ c < 16 ∧ s.camEn c = true ∧ good = true ∧ k.started = true ∧ s.camRoom c = false ∧ n =
      BitVec.ofNat 32 (k.last + 1))
    ∧ (let c : Nat := 0
    let d : Nat := 1
    let x : GhLine := ⟨9, 0, [0, 0, 0], 1⟩
    let y : GhLine := ⟨9, 0, [0, 0, 0], 1⟩
    let xs : List GhLine := []
    let ys : List GhLine := []
    let s : State := stitchState 9 9
    let lc := fld (s.camCfg c) 1 5
    let ld := fld (s.camCfg d) 1 5
    let n := s.lineNo c x
    c < 16 ∧ d < 16 ∧ s.camEn c = true ∧ s.stitchWith c = [d] ∧ lc < 24 ∧ ld < 24 ∧ lc ≠ ld ∧ (s.inLink lc).lines = x :: xs ∧
      (s.inLink ld).lines = y :: ys ∧ s.lineFits c x = true ∧ (s.surfCam c).started = true ∧ n = BitVec.ofNat 32 ((s.surfCam
      c).last + 1) ∧ s.lineAt d n.toNat = false ∧ s.lineFits d y = true ∧ s.lineNo d y = n ∧ (s.surfCam d).started = true ∧ n =
      BitVec.ofNat 32 ((s.surfCam d).last + 1) ∧ s.camRoom c = true ∧ s.camRoom d = true)
    ∧ (let c : Nat := 0
    let d : Nat := 1
    let x : GhLine := ⟨9, 0, [0, 0, 0], 1⟩
    let y : GhLine := ⟨9, 0, [0, 0, 0], 1⟩
    let xs : List GhLine := []
    let ys : List GhLine := []
    let s : State := (stitchState 9 9).setCam 1 ⟨[], 2 ^ 32, 2 ^ 32 + 8, true, false⟩ |>.setLane 1 ⟨2 ^ 32, [], [], false⟩
    let lc := fld (s.camCfg c) 1 5
    let ld := fld (s.camCfg d) 1 5
    let n := s.lineNo c x
    c < 16 ∧ d < 16 ∧ s.camEn c = true ∧ s.stitchWith c = [d] ∧ lc < 24 ∧ ld < 24 ∧ lc ≠ ld ∧ (s.inLink lc).lines = x :: xs ∧
      (s.inLink ld).lines = y :: ys ∧ s.lineFits c x = true ∧ (s.surfCam c).started = true ∧ n = BitVec.ofNat 32 ((s.surfCam
      c).last + 1) ∧ s.lineAt d n.toNat = false ∧ s.lineFits d y = true ∧ s.lineNo d y = n ∧ s.camRoom d = false)
    ∧ (let c : Nat := 0
    let d : Nat := 1
    let x : GhLine := ⟨9, 0, [0, 0, 0], 1⟩
    let y : GhLine := ⟨10, 0, [0, 0, 0], 1⟩
    let xs : List GhLine := []
    let ys : List GhLine := []
    let s : State := stitchState 9 10
    let lc := fld (s.camCfg c) 1 5
    let ld := fld (s.camCfg d) 1 5
    let n := s.lineNo c x
    c < 16 ∧ d < 16 ∧ s.camEn c = true ∧ s.stitchWith c = [d] ∧ lc < 24 ∧ ld < 24 ∧ lc ≠ ld ∧ (s.inLink lc).lines = x :: xs ∧
      (s.inLink ld).lines = y :: ys ∧ s.lineFits c x = true ∧ (s.surfCam c).started = true ∧ n = BitVec.ofNat 32 ((s.surfCam
      c).last + 1) ∧ s.lineAt d n.toNat = false ∧ s.lineFits d y = true ∧ s.lineLacks d n.toNat = true ∧ s.camRoom c = true)
    ∧ (let c : Nat := 0
    let d : Nat := 1
    let x : GhLine := ⟨9, 0, [0, 0, 0], 1⟩
    let y : GhLine := ⟨8, 0, [0, 0, 0], 1⟩
    let xs : List GhLine := []
    let ys : List GhLine := []
    let s : State := stitchState 9 8
    let lc := fld (s.camCfg c) 1 5
    let ld := fld (s.camCfg d) 1 5
    let n := s.lineNo c x
    c < 16 ∧ d < 16 ∧ s.camEn c = true ∧ s.stitchWith c = [d] ∧ lc < 24 ∧ ld < 24 ∧ lc ≠ ld ∧ (s.inLink lc).lines = x :: xs ∧
      (s.inLink ld).lines = y :: ys ∧ s.lineFits c x = true ∧ (s.surfCam c).started = true ∧ n = BitVec.ofNat 32 ((s.surfCam
      c).last + 1) ∧ s.lineAt d n.toNat = false ∧ s.lineFits d y = false)
    ∧ (let l : Nat := 0
    let c : Nat := 0
    let s : State := surfLines
    s.laneCam l = some c ∧ s.isFenced (lanePage l) = false ∧ s.laneReady c l = true)
    ∧ (let l : Nat := 0
    let c : Nat := 0
    let r : Run := ⟨1, 2, false, some 1, 2720, 1280, 1440, 3⟩
    let s : State := runLines
    let m := (s.lane l).next
    let u := s.correctFor c l (m + s.laneH l)
    let e := s.laneSpan c l
    let px := (List.range (e.2 - e.1)).map fun i => (e.1 + i, u.kernel c l m (e.1 + i))
    let runs := runsOf (s.lane l).live px
    s.laneCam l = some c ∧ s.isFenced (lanePage l) = false ∧ s.laneReady c l = true ∧ (s.lane l).comps = [] ∧ runs = [r] ∧ bit
      (s.camWord c 0x18) 31 = false ∧ 1 < fld (s.camWord c 0x1C) 0 16)
    ∧ (let l : Nat := 1
    let s : State := surfState.setLane 1 { surfState.lane 1 with pend := true }
    (s.laneCam l).isSome = true ∧ (s.lane l).pend = true)
    ∧ (let l : Nat := 1
    let s : State := surfState
    (s.laneCam l).isSome = true ∧ (s.lane l).pend = false) := by
  refine ⟨?_, ?_, ?_, ?_, ?_, ?_, ?_, ?_, ?_, ?_, ?_, ?_, ?_, ?_, ?_, ?_⟩ <;> (dsimp only; decide +kernel)

/-- The premises of linePacketReceiveDoes, gheryEventReceiveDoes, creditReceiveDoes, trainReceiveDoes, amReceiveDoes, amSendDoes,
trainSendDoes, trainSeekSendDoes, creditSendDoes, rollrecSendDoes, patchRowSendDoes, patchTrailerSendDoes,
eventPacketSendDoes are met. -/
theorem wit_gheryPackets :
    (let l : Nat := 0
    let ws : List DWord := linePkt 4 0
    let s : State := ghState
    let h := ws.getD 0 0
    let p := ws.getD 1 0
    let len := dfld h 34 14
    let n := credits len
    let x := s.inLink l
    let d := (dfld h 48 16 + 2 ^ 16 - x.expect.getD 0 0) % 2 ^ 16
    let px := dfld p 16 16
    let by_ := (px * depthBits (dfld p 14 2) + 7) / 8
    let good := decide (dfld h 0 8 = 0x33 ∧ dfld h 8 2 = 0 ∧ dfld h 12 19 = 0 ∧ dfld p 0 14 = 0 ∧ dfld p 14 2 ≠ 3 ∧ px ≠ 0 ∧
      len ≤ 12288 ∧ len = (by_ + 7) / 8 ∧ dfld h 31 3 = 8 * len - by_ ∧ ws.length = len + 3 ∧ dfld (ws.getD (len + 2) 0) 32 32
      = 0 ∧ x.used.getD 0 0 + n ≤ x.limit.getD 0 0 ∧ x.limit.getD 0 0 < 2 ^ 31)
    s.inState l = 3 ∧ l < 24 ∧ dfld h 10 2 = 0 ∧ x.used.length = 2 ∧ x.freed.length = 2 ∧ x.expect.length = 2 ∧ packetCrcOk ws
      = true ∧ good = true ∧ d < 32768)
    ∧ (let l : Nat := 0
    let ws : List DWord := (linePkt 6 0).dropLast ++ [5]
    let s : State := ghState
    let h := ws.getD 0 0
    let x := s.inLink l
    s.inState l = 3 ∧ l < 24 ∧ dfld h 10 2 = 0 ∧ x.used.length = 2 ∧ x.freed.length = 2 ∧ x.expect.length = 2 ∧ packetCrcOk ws
      = false)
    ∧ (let l : Nat := 0
    let ws : List DWord := linePkt 6 3
    let s : State := ghState
    let h := ws.getD 0 0
    let x := s.inLink l
    let d := (dfld h 48 16 + 2 ^ 16 - x.expect.getD 0 0) % 2 ^ 16
    s.inState l = 3 ∧ l < 24 ∧ dfld h 10 2 = 0 ∧ x.used.length = 2 ∧ x.freed.length = 2 ∧ x.expect.length = 2 ∧ packetCrcOk ws
      = true ∧ (s.inProtoBad l ws = true ∨ 32768 ≤ d))
    ∧ (let l : Nat := 0
    let ws : List DWord := evtPkt 9
    let s : State := ghState
    let h := ws.getD 0 0
    let len := dfld h 34 14
    let n := credits len
    let x := s.inLink l
    let d := (dfld h 48 16 + 2 ^ 16 - x.expect.getD 1 0) % 2 ^ 16
    let good := decide (dfld h 0 8 = 0x66 ∧ dfld h 8 2 = 0 ∧ dfld h 12 3 = 0 ∧ len = 1 ∧ dfld h 31 3 = 0 ∧ ws.length = 4 ∧ dfld
      (ws.getD 3 0) 32 32 = 0 ∧ x.used.getD 1 0 + n ≤ x.limit.getD 1 0 ∧ x.limit.getD 1 0 < 2 ^ 31)
    s.inState l = 3 ∧ l < 24 ∧ dfld h 10 2 = 1 ∧ x.used.length = 2 ∧ x.freed.length = 2 ∧ x.expect.length = 2 ∧ packetCrcOk ws
      = true ∧ good = true ∧ d < 32768)
    ∧ (let l : Nat := 0
    let ws : List DWord := (evtPkt 9).dropLast ++ [5]
    let s : State := ghState
    let h := ws.getD 0 0
    let x := s.inLink l
    s.inState l = 3 ∧ l < 24 ∧ dfld h 10 2 = 1 ∧ x.used.length = 2 ∧ x.freed.length = 2 ∧ x.expect.length = 2 ∧ packetCrcOk ws
      = false)
    ∧ (let l : Nat := 0
    let ws : List DWord := evtPkt 8
    let s : State := ghState
    let h := ws.getD 0 0
    let x := s.inLink l
    let d := (dfld h 48 16 + 2 ^ 16 - x.expect.getD 1 0) % 2 ^ 16
    s.inState l = 3 ∧ l < 24 ∧ dfld h 10 2 = 1 ∧ x.used.length = 2 ∧ x.freed.length = 2 ∧ x.expect.length = 2 ∧ packetCrcOk ws
      = true ∧ (s.inProtoBad l ws = true ∨ 32768 ≤ d))
    ∧ (let k : Nat := 0
    let ws : List DWord := crdPkt 8 60 10
    let s : State := ghState
    let h := ws.getD 0 0
    let x := s.txLink k
    let q := dfld h 48 16
    let good := decide (packetCrcOk ws = true ∧ ws.length = 4 ∧ dfld h 0 8 = 0x78 ∧ dfld h 34 14 = 1 ∧ dfld h 8 26 = 0)
    let live := decide (s.outState k = 3 ∧ s.now < x.z + 64000)
    let newer := fun (o : Option Nat) => o.all fun c => decide ((q + 2 ^ 16 - c) % 2 ^ 16 ≠ 0 ∧ (q + 2 ^ 16 - c) % 2 ^ 16 < 2 ^
      15)
    s.outEn k = true ∧ k < 4 ∧ good = true ∧ live = true ∧ newer x.creditSeq = true)
    ∧ (let k : Nat := 0
    let ws : List DWord := crdPkt 7 60 60
    let s : State := ghState
    let h := ws.getD 0 0
    let x := s.txLink k
    let q := dfld h 48 16
    let good := decide (packetCrcOk ws = true ∧ ws.length = 4 ∧ dfld h 0 8 = 0x78 ∧ dfld h 34 14 = 1 ∧ dfld h 8 26 = 0)
    let live := decide (s.outState k = 3 ∧ s.now < x.z + 64000)
    let newer := fun (o : Option Nat) => o.all fun c => decide ((q + 2 ^ 16 - c) % 2 ^ 16 ≠ 0 ∧ (q + 2 ^ 16 - c) % 2 ^ 16 < 2 ^
      15)
    s.outEn k = true ∧ k < 4 ∧ good = true ∧ live = true ∧ newer x.creditSeq = false)
    ∧ (let k : Nat := 0
    let ws : List DWord := [1, 2, 3, 4]
    let s : State := ghState
    let h := ws.getD 0 0
    let good := decide (packetCrcOk ws = true ∧ ws.length = 4 ∧ dfld h 0 8 = 0x78 ∧ dfld h 34 14 = 1 ∧ dfld h 8 26 = 0)
    s.outEn k = true ∧ k < 4 ∧ good = false)
    ∧ (let k : Nat := 0
    let ws : List DWord := crdPkt 8 60 60
    let s : State := { ghState with now := 200000000 }
    let h := ws.getD 0 0
    let x := s.txLink k
    let good := decide (packetCrcOk ws = true ∧ ws.length = 4 ∧ dfld h 0 8 = 0x78 ∧ dfld h 34 14 = 1 ∧ dfld h 8 26 = 0)
    let live := decide (s.outState k = 3 ∧ s.now < x.z + 64000)
    s.outEn k = true ∧ k < 4 ∧ good = true ∧ live = false)
    ∧ (let i : Nat := 0
    let l : Nat := 0
    let ws : List DWord := trnPkt 0 0
    let s : State := ghAt 1
    let p := ws.getD 1 0
    let mine := decide (trainOk ws 0 = true ∧ dfld p 0 4 = i - l ∧ dfld p 4 4 = fld (s.inReg l 0) 1 2)
    i < 24 ∧ s.inLinkOf i = some l ∧ s.inState l ≠ 3 ∧ mine = true ∧ s.outEn i = true ∧ i < 4 ∧ trainOk ws 1 = false)
    ∧ (let i : Nat := 0
    let l : Nat := 0
    let ws : List DWord := trnPkt 1 1
    let s : State := ghAt 1
    let p := ws.getD 1 0
    let mine := decide (trainOk ws 0 = true ∧ dfld p 0 4 = i - l ∧ dfld p 4 4 = fld (s.inReg l 0) 1 2)
    i < 24 ∧ s.inLinkOf i = some l ∧ s.inState l ≠ 3 ∧ mine = false ∧ s.outEn i = true ∧ i < 4 ∧ trainOk ws 1 = true ∧ dfld p 8
      4 = 1 ∧ s.outState i = 1)
    ∧ (let i : Nat := 0
    let l : Nat := 0
    let ws : List DWord := trnPkt 1 0
    let s : State := ghState
    let p := ws.getD 1 0
    i < 24 ∧ s.inLinkOf i = some l ∧ s.inState l = 3 ∧ s.outEn i = true ∧ i < 4 ∧ trainOk ws 1 = true ∧ dfld p 8 4 = 0 ∧
      s.outState i = 3 ∧ s.sbExpired i = false)
    ∧ (let i : Nat := 0
    let l : Nat := 0
    let am : Option DWord := some 0x0000000600000087
    let skew : Nat := 5
    let c : Nat := 5
    let s : State := ghState
    let x := s.rxLane i
    let w := am.getD 0
    let good := decide (am.isSome = true ∧ dfld w 0 8 = 0x87 ∧ dfld w 8 8 = i - l ∧ dfld w 16 4 = fld (s.inReg l 0) 1 2 ∧ dfld
      w 32 32 = (c + 1) % 2 ^ 32)
    s.inLinkOf i = some l ∧ x.amCnt = some c ∧ i < 24 ∧ good = true ∧ skew ≤ 64)
    ∧ (let i : Nat := 0
    let l : Nat := 0
    let am : Option DWord := none
    let skew : Nat := 5
    let c : Nat := 5
    let s : State := ghState
    let x := s.rxLane i
    let pg := rxPage i
    let locked := bit (s.reg pg (rxOff i 4)) 4
    s.inLinkOf i = some l ∧ x.amCnt = some c ∧ i < 24 ∧ am = none ∧ locked = true ∧ x.amBad < 3 ∧ skew ≤ 64)
    ∧ (let i : Nat := 0
    let l : Nat := 0
    let am : Option DWord := none
    let skew : Nat := 5
    let c : Nat := 5
    let s : State := ghState.setRx 0 ⟨some 5, 3, 0⟩
    let x := s.rxLane i
    let pg := rxPage i
    let locked := bit (s.reg pg (rxOff i 4)) 4
    s.inLinkOf i = some l ∧ x.amCnt = some c ∧ i < 24 ∧ am = none ∧ locked = true ∧ x.amBad = 3 ∧ skew ≤ 64 ∧ s.inState l = 3)
    ∧ (let i : Nat := 0
    let l : Nat := 0
    let am : Option DWord := some 0x0000000600000087
    let skew : Nat := 65
    let c : Nat := 5
    let s : State := ghState
    let x := s.rxLane i
    let w := am.getD 0
    let good := decide (am.isSome = true ∧ dfld w 0 8 = 0x87 ∧ dfld w 8 8 = i - l ∧ dfld w 16 4 = fld (s.inReg l 0) 1 2 ∧ dfld
      w 32 32 = (c + 1) % 2 ^ 32)
    s.inLinkOf i = some l ∧ x.amCnt = some c ∧ i < 24 ∧ good = true ∧ 64 < skew ∧ s.inState l = 3)
    ∧ (let k : Nat := 0
    let s : State := ghState
    s.outState k ≠ 0)
    ∧ (let k : Nat := 0
    let j : Nat := 0
    let s : State := ghAt 1
    s.outState k = 1 ∧ j < s.outW k)
    ∧ (let l : Nat := 0
    let s : State := ghAt 1
    s.inState l = 1)
    ∧ (let l : Nat := 0
    let s : State := ghState
    s.inState l = 3)
    ∧ (let l : Nat := 0
    let s : State := ghAt 2
    s.inState l = 2)
    ∧ (let k : Nat := 0
    let s : State := (ghState.setReg .rmap 0x40 0x11).setReg .rmap 0x44 3 |>.setMem 0x3D000000 8 77
    let v := s.regF .rmap 0x40 4 2
    s.rollWaits k v = true ∧ 1 ≤ s.credit k v ∧ (s.txLink k).upDue = false ∧ s.maySend k v = true)
    ∧ (let g : Nat := 0
    let r : PatchRow := ⟨3, 1, 77, true, 5, 3, [1, 2, 3, 4, 5, 6], 0⟩
    let rest : List PatchRow := []
    let s : State :=
      { ghState with surf := { ghState.surf with rows := [(0, [⟨3, 1, 77, true, 5, 3, [1, 2, 3, 4, 5, 6], 0⟩])] } }
    let k := s.regF (.surfG g) 0x40 0 2
    let v := s.regF (.surfG g) 0x40 2 2
    tabGet? s.surf.rows g = some (r :: rest) ∧ credits ((r.bytes.length + 7) / 8) ≤ s.credit k v ∧ (s.txLink k).upDue = false ∧
      s.maySend k v = true ∧ s.oldestRow k v = some g)
    ∧ (let id : Nat := 3
    let w : PatchWin := ⟨3, 0, 0, 1, 4, 2, 77, 2, true, some ⟨0, false, true, ⟨9, 0, 2, 4, 3, 90, 10, 10, 9, 9⟩, 7, false,
      none, some 3⟩⟩
    let b : Blob := ⟨0, false, true, ⟨9, 0, 2, 4, 3, 90, 10, 10, 9, 9⟩, 7, false, none, some 3⟩
    let s : State :=
      { ghState with surf := { ghState.surf with wins := [⟨3, 0, 0, 1, 4, 2, 77, 2, true, some ⟨0, false, true, ⟨9, 0, 2, 4, 3, 90, 10, 10, 9, 9⟩, 7, false, none, some 3⟩⟩] } }
    let k := s.regF (.surfG w.group) 0x40 0 2
    let v := s.regF (.surfG w.group) 0x40 2 2
    s.win id = some w ∧ w.done = some b ∧ w.rows ≤ w.next ∧ (∀ r ∈ tabGet [] s.surf.rows w.group, r.win ≠ w.id) ∧ 1 ≤ s.credit
      k v ∧ (s.txLink k).upDue = false ∧ s.maySend k v = true)
    ∧ (let k : Nat := 0
    let s : State := ghState.setTx 0 { ghState.txLink 0 with upDue := true }
    let v := fld (s.outReg k 0x34) 16 2
    let x := s.txLink k
    1 ≤ s.credit k v ∧ s.maySend k v = true ∧ k < 4 ∧ x.upDue = true)
    ∧ (let k : Nat := 0
    let s : State := (ghState.setReg .ghOutL 0x834 0x20123).setReg .ghOutL 0x844 1
    let v := fld (s.outReg k 0x34) 16 2
    let x := s.txLink k
    1 ≤ s.credit k v ∧ s.maySend k v = true ∧ k < 4 ∧ x.upDue = false ∧ bit (s.outReg k 0x44) 0 = true) := by
  refine ⟨?_, ?_, ?_, ?_, ?_, ?_, ?_, ?_, ?_, ?_, ?_, ?_, ?_, ?_, ?_, ?_, ?_, ?_, ?_, ?_, ?_, ?_, ?_, ?_, ?_, ?_, ?_⟩ <;> (dsimp only; decide +kernel)

/-- The premises of receiverReadyDoes, receiverUpDoes, transmitterUpDoes, linkRetrainDoes, sidebandTimeoutDoes,
blockLockChangeDoes, sidebandAlignmentDoes are met. -/
theorem wit_gheryLinkStates :
    (let l : Nat := 0
    let s : State := (ghAt 1).setRx 0 ⟨some 5, 0, 8⟩
    l < 24 ∧ s.inState l = 1 ∧ s.inLanesGood l = true)
    ∧ (let l : Nat := 0
    let s : State := ghState
    l < 24 ∧ (s.inState l ≠ 1 ∨ s.inLanesGood l = false))
    ∧ (let l : Nat := 0
    let s : State := ghAt 2
    l < 24 ∧ s.inState l = 2)
    ∧ (let l : Nat := 0
    let s : State := ghState
    l < 24 ∧ s.inState l ≠ 2)
    ∧ (let k : Nat := 0
    let s : State := (ghAt 1).setTx 0 { ghState.txLink 0 with ready := true }
    k < 4 ∧ s.outState k = 1 ∧ (s.txLink k).ready = true)
    ∧ (let k : Nat := 0
    let s : State := ghState
    k < 4 ∧ (s.outState k ≠ 1 ∨ (s.txLink k).ready = false))
    ∧ (let l : Nat := 0
    let s : State := ghState
    l < 24 ∧ 2 ≤ s.inState l ∧ l < 4 ∧ s.outState l = 3)
    ∧ (let l : Nat := 0
    let s : State := ghAt 1
    l < 24 ∧ s.inState l ≤ 1 ∧ s.outState l ≠ 3)
    ∧ (let k : Nat := 0
    let s : State := { ghState with now := 100054000 }
    k < 4 ∧ s.outState k = 3 ∧ (s.txLink k).z + 64000 ≤ s.now)
    ∧ (let k : Nat := 0
    let s : State := ghState
    k < 4 ∧ (s.outState k ≠ 3 ∨ s.now < (s.txLink k).z + 64000))
    ∧ (let i : Nat := 0
    let s : State := ghState
    let pg := rxPage i
    bit (s.reg pg (rxOff i 0)) 0 = true ∧ i < 24)
    ∧ (let k : Nat := 0
    k < 4) := by
  refine ⟨?_, ?_, ?_, ?_, ?_, ?_, ?_, ?_, ?_, ?_, ?_, ?_⟩ <;> (dsimp only; decide +kernel)

/-- The premises of linkEnableDoes, linkDisableDoes, evtSendDoes, evtArrReadDoes, gheryLaneClrDoes, txlClrDoes, ingressLinkClrDoes,
egressLinkClrDoes are met. -/
theorem wit_gheryRegisters :
    (let m : Master := .headland
    let l : Nat := 0
    let w : Nat := 0
    let s : State := (ghAt 0).setReg (.ghInL 0) 0x800 0
    let v := 1 + 2 * w
    w < 4 ∧ l < 24 ∧ s.inEn l = false ∧ s.accepts (put32 m (inPage l) (inOff l 0) v))
    ∧ (let m : Master := .headland
    let l : Nat := 0
    let w : Nat := 0
    let s : State := (ghAt 0).setReg .ghOutL 0x800 0
    let v := 1 + 2 * w
    w < 4 ∧ l < 24 ∧ l < 4 ∧ s.outEn l = false ∧ s.accepts (put32 m .ghOutL (outOff l 0) v))
    ∧ (let m : Master := .headland
    let l : Nat := 0
    let w : Nat := 0
    let s : State := ghState.setReg (.surfG 0) 0x800 0x2000
    let v := 2 * w
    w < 4 ∧ l < 24 ∧ s.inEn l = true ∧ s.accepts (put32 m (inPage l) (inOff l 0) v) ∧ l < 4 ∧ s.outEn l = true ∧ s.accepts
      (put32 m .ghOutL (outOff l 0) v))
    ∧ (let m : Master := .headland
    let k : Nat := 0
    let s : State := ghState
    s.accepts (put32 m .ghOutL (outOff k 0x40) 1) ∧ k < 4)
    ∧ (let m : Master := .headland
    let l : Nat := 0
    let wide : Bool := false
    let s : State := (ghState.setReg (.ghInL 0) 0x82C 5).setReg (.ghInL 0) 0x83C 9
    s.serves (readOf m (inPage l) (inOff l 0x2C) wide) ∧ l < 24)
    ∧ (let m : Master := .headland
    let l : Nat := 1
    let s : State := ghState.setReg (.ghIn 0) (rxOff 1 0x10) 5
    l < 24 ∧ s.accepts (put32 m (rxPage l) (rxOff l 0x18) 1))
    ∧ (let m : Master := .headland
    let k : Nat := 1
    let s : State := ghState.setReg (.ghOut 0) (txOff 1 8) 5
    k < 4 ∧ s.accepts (put32 m (txPage k) (txOff k 0x0C) 1))
    ∧ (let m : Master := .headland
    let l : Nat := 0
    let s : State := (ghState.setReg (.ghInL 0) 0x810 5).setReg (.ghInL 0) 0x828 0x30007
    l < 24 ∧ s.accepts (put32 m (inPage l) (inOff l 0x44) 1))
    ∧ (let m : Master := .headland
    let k : Nat := 0
    let s : State := ghState.setReg .ghOutL 0x830 5
    k < 4 ∧ s.accepts (put32 m .ghOutL (outOff k 0x48) 1)) := by
  refine ⟨?_, ?_, ?_, ?_, ?_, ?_, ?_, ?_, ?_⟩ <;> (dsimp only; decide +kernel)

/-- The premises of tidemarkStrobeDoes, zEdgeDoes, statusTransferDoes, ticketTransferDoes, auditTransferDoes, goneTransferDoes,
propDoneDoes, rollEventDoes, readReqDoes, tmLinkUpDoes, tmLinkDownDoes are met. -/
theorem wit_tidemarkMirror :
    (let s : State := tmState
    let i := s.fieldNow / 8000 * 8000
    let x := s.tm
    let runs := s.tmUp && x.run && !x.stopped
    let changed := [1, 2, 3, 4, 5].any fun k => tabGet? x.live k ≠ tabGet? x.nv.params k
    s.fuses.tidemark = true ∧ (x.strobe.all fun j => decide (j < i)) = true ∧ runs = true ∧ changed = false)
    ∧ (let s : State := { tmState with tm := { tmState.tm with live := [(1, 50000000), (3, 8)] } }
    let i := s.fieldNow / 8000 * 8000
    let x := s.tm
    let runs := s.tmUp && x.run && !x.stopped
    let changed := [1, 2, 3, 4, 5].any fun k => tabGet? x.live k ≠ tabGet? x.nv.params k
    s.fuses.tidemark = true ∧ (x.strobe.all fun j => decide (j < i)) = true ∧ runs = true ∧ changed = true)
    ∧ (let s : State := { tmState with tm := { tmState.tm with stopped := true } }
    let i := s.fieldNow / 8000 * 8000
    let x := s.tm
    let runs := s.tmUp && x.run && !x.stopped
    s.fuses.tidemark = true ∧ (x.strobe.all fun j => decide (j < i)) = true ∧ runs = false)
    ∧ (let w : Nat := 0
    let s : State := { tmState with tm := { tmState.tm with live := [(1, 50000000), (3, 4), (5, 4)] } }
    let x := s.tm.wheel w
    let bad := decide (s.tm.option (2 + w) = true ∧ x.zRev = false ∧ (x.zRef.any fun r => decide ((x.count - r).natAbs ≠
      s.tm.par (3 + w))) = true)
    w < 2 ∧ s.fuses.tidemark = true ∧ s.tm.counts w = true ∧ bad = false)
    ∧ (let w : Nat := 0
    let s : State := { tmState with tm := { tmState.tm with live := [(1, 50000000), (3, 8), (5, 4)] } }
    let x := s.tm.wheel w
    let bad := decide (s.tm.option (2 + w) = true ∧ x.zRev = false ∧ (x.zRef.any fun r => decide ((x.count - r).natAbs ≠
      s.tm.par (3 + w))) = true)
    w < 2 ∧ s.fuses.tidemark = true ∧ s.tm.counts w = true ∧ bad = true ∧ s.tm.err = false)
    ∧ (let w : Nat := 1
    let s : State := tmState
    w < 2 ∧ s.fuses.tidemark = true ∧ s.tm.counts w = false)
    ∧ (let s : State :=
      { tmState with tm := { tmState.tm with roll := some tmRoll, bound := some ⟨1, 5000000, 9⟩, bypass := true } }
    let m := s.tm
    s.tmUp = true ∧ m.run = true)
    ∧ (let a : List TmXfer := [.audit 4]
    let n : Nat := 2
    let bs : List Nat := List.range 64
    let rest : List TmXfer := []
    let s : State :=
      { tmState with tm := { tmState.tm with out := [.audit 4, .ticket 2], nv := { tmState.tm.nv with tickets := [(2, List.range 64)] } } }
    s.tm.out = a ++ .ticket n :: rest ∧ (a.any TmXfer.isTicket) = false ∧ (s.tm.nv.tickets.find? fun e => e.1 = n) = some (n,
      bs) ∧ bs.length ≤ 64)
    ∧ (let a : List TmXfer := []
    let n : Nat := 4
    let bs : List Nat := List.range 32
    let rest : List TmXfer := [.ticket 2]
    let s : State :=
      { tmState with tm := { tmState.tm with out := [.audit 4, .ticket 2], nv := { tmState.tm.nv with audits := [(4, List.range 32)] } } }
    s.tm.out = a ++ .audit n :: rest ∧ (a.any TmXfer.isAudit) = false ∧ (s.tm.nv.audits.find? fun e => e.1 = n) = some (n, bs)
      ∧ bs.length ≤ 32)
    ∧ (let a : List TmXfer := []
    let k : Bool := true
    let n : Nat := 4
    let rest : List TmXfer := []
    let s : State := { tmState with tm := { tmState.tm with out := [.gone true 4] } }
    s.tm.out = a ++ .gone k n :: rest ∧ (a.any TmXfer.isGone) = false)
    ∧ (let a : List TmXfer := [.audit 3]
    let r : Reason := .sealed
    let v : Word := 9
    let rest : List TmXfer := []
    let s : State := { tmState.wr 0x60030100 0x50100 with tm := { tmState.tm with out := [.audit 3, .propDone .sealed 9] } }
    s.tm.out = a ++ .propDone r v :: rest ∧ (a.any TmXfer.isDone) = false)
    ∧ (let a : List TmXfer := []
    let b : Int := 5000000
    let id : Word := 77
    let mode : Nat := 0
    let inst : Nat := 99992000
    let rest : List TmXfer := []
    let s : State := { tmState with tm := { tmState.tm with out := [.rollEvent 5000000 77 0 99992000] } }
    let cfg := s.reg .trk 0x74
    s.tm.out = a ++ .rollEvent b id mode inst :: rest ∧ (a.any TmXfer.isRoll) = false ∧ bit cfg 0 = false)
    ∧ (let a : List TmXfer := []
    let b : Int := -5000000
    let id : Word := 77
    let mode : Nat := 0
    let inst : Nat := 99992000
    let rest : List TmXfer := []
    let s : State :=
      { (tmState.setReg .trk 0x74 0x09050301) with tm := { tmState.tm with out := [.rollEvent (-5000000) 77 0 99992000] } }
    let cfg := s.reg .trk 0x74
    s.tm.out = a ++ .rollEvent b id mode inst :: rest ∧ (a.any TmXfer.isRoll) = false ∧ bit cfg 0 = true ∧ s.rmFill < 65536)
    ∧ (let s : State := { tmState with tm := { tmState.tm with nv := { tmState.tm.nv with tickets := [(2, List.range 64)] } } }
    s.tmUp = true ∧ s.tm.run = true)
    ∧ (let s : State :=
      { (tmState.setReg .tml 0x40 4).wr 0x60030100 0x50200 with tm := { tmState.tm with mirT := [2, 1, 0], mirA := [9, 4] } }
    s.fuses.tidemark = true ∧ s.tmUp = false)
    ∧ (let s : State :=
      { tmState.wr 0x60030100 0x50100 with tm := { tmState.tm with samples := [⟨7, 9, 5, 3, 6, true⟩], out := [.audit 4], props := [⟨4, 0, 0, [], true⟩] } }
    s.tmUp = true) := by
  refine ⟨?_, ?_, ?_, ?_, ?_, ?_, ?_, ?_, ?_, ?_, ?_, ?_, ?_, ?_, ?_, ?_⟩ <;> (dsimp only; decide +kernel)

/-- The premises of proposalParamDoes, proposalSealDoes, proposalRollDoes, proposalVerifyDoes, bypassChangeDoes, propSubmitDoes,
mirrorRefillDoes, tmCntClrDoes, tmErrClrDoes, posSnapshotReadDoes, totalReadDoes, eventsReadDoes are met. -/
theorem wit_tidemarkProposals :
    (let p : TmProp := ⟨0x801, 3, 0, [], true⟩
    let rest : List TmProp := []
    let s : State := { tmState with tm := { tmState.tm with props := [⟨0x801, 3, 0, [], true⟩], nv := tmState.tm.nv } }
    let r := s.tm.propReason p
    s.tm.props = p :: rest ∧ s.tm.run = true ∧ s.tm.stopped = false ∧ ((p.kindN ≤ 1 ∨ 4 < p.kindN)) ∧ r = .none)
    ∧ (let p : TmProp := ⟨0x901, 9, 0, [], true⟩
    let rest : List TmProp := []
    let s : State := { tmState with tm := { tmState.tm with props := [⟨0x901, 9, 0, [], true⟩], nv := tmState.tm.nv } }
    let r := s.tm.propReason p
    s.tm.props = p :: rest ∧ s.tm.run = true ∧ s.tm.stopped = false ∧ ((p.kindN ≤ 1 ∨ 4 < p.kindN)) ∧ r ≠ .none)
    ∧ (let p : TmProp := ⟨2, 0, 0, [], true⟩
    let rest : List TmProp := []
    let s : State := { tmState with tm := { tmState.tm with props := [⟨2, 0, 0, [], true⟩], nv := tmState.tm.nv } }
    let r := s.tm.propReason p
    s.tm.props = p :: rest ∧ s.tm.run = true ∧ s.tm.stopped = false ∧ p.kindN = 2 ∧ r = .none)
    ∧ (let p : TmProp := ⟨2, 0, 0, [], true⟩
    let rest : List TmProp := []
    let s : State :=
      { tmState with tm := { tmState.tm with props := [⟨2, 0, 0, [], true⟩], nv := { tmState.tm.nv with sealed := true } } }
    let r := s.tm.propReason p
    s.tm.props = p :: rest ∧ s.tm.run = true ∧ s.tm.stopped = false ∧ p.kindN = 2 ∧ r ≠ .none)
    ∧ (let p : TmProp := ⟨3, 20000000, 9, [], true⟩
    let rest : List TmProp := []
    let s : State := { tmState with tm := { tmState.tm with props := [⟨3, 20000000, 9, [], true⟩], nv := tmState.tm.nv } }
    let r := s.tm.propReason p
    s.tm.props = p :: rest ∧ s.tm.run = true ∧ s.tm.stopped = false ∧ p.kindN = 3 ∧ r = .none)
    ∧ (let p : TmProp := ⟨3, 1000, 9, [], true⟩
    let rest : List TmProp := []
    let s : State := { tmState with tm := { tmState.tm with props := [⟨3, 1000, 9, [], true⟩], nv := tmState.tm.nv } }
    let r := s.tm.propReason p
    s.tm.props = p :: rest ∧ s.tm.run = true ∧ s.tm.stopped = false ∧ p.kindN = 3 ∧ r ≠ .none)
    ∧ (let p : TmProp := ⟨4, 0, 0, (List.range 16).map fun k => BitVec.ofNat 32 k, true⟩
    let rest : List TmProp := []
    let s : State :=
      { tmState with tm := { tmState.tm with props := [⟨4, 0, 0, (List.range 16).map fun k => BitVec.ofNat 32 k, true⟩], nv := tmState.tm.nv } }
    let r := s.tm.propReason p
    s.tm.props = p :: rest ∧ s.tm.run = true ∧ s.tm.stopped = false ∧ p.kindN = 4 ∧ r = .none)
    ∧ (let p : TmProp := ⟨0x20004, 0, 0, [], true⟩
    let rest : List TmProp := []
    let s : State := { tmState with tm := { tmState.tm with props := [⟨0x20004, 0, 0, [], true⟩], nv := tmState.tm.nv } }
    let r := s.tm.propReason p
    s.tm.props = p :: rest ∧ s.tm.run = true ∧ s.tm.stopped = false ∧ p.kindN = 4 ∧ r ≠ .none)
    ∧ (let on : Bool := true
    let s : State := { tmState with tm := { tmState.tm with roll := some tmRoll } }
    s.fuses.tidemark = true ∧ s.tm.run = true ∧ s.tm.bypass ≠ on)
    ∧ (let on : Bool := false
    let s : State := tmState
    s.fuses.tidemark = true ∧ s.tm.run = true ∧ s.tm.bypass = on)
    ∧ (let m : Master := .headland
    let s : State := (tmState.wr 0x60030000 0x801).wr 0x60030008 3
    s.accepts ⟨m, 0x600300F0, 4, 1, true⟩ ∧ s.tmUp = true)
    ∧ (let m : Master := .headland
    let s : State := tmState.setReg .tml 0x40 4
    s.accepts ⟨m, 0x600300F0, 4, 1, true⟩ ∧ s.tmUp = false)
    ∧ (let m : Master := .headland
    let s : State := { tmState.wr 0x60001080 5 with tm := { tmState.tm with mirT := [2], mirA := [4] } }
    s.accepts (put32 m .tml 0x54 1))
    ∧ (let m : Master := .headland
    let s : State := tmState.setReg .tml 0x48 5
    s.accepts (put32 m .tml 0x50 1))
    ∧ (let m : Master := .headland
    let s : State := tmState.setReg .tml 0x4C 5
    s.accepts (put32 m .tml 0x50 2))
    ∧ (let m : Master := .headland
    let wide : Bool := false
    let s : State := (tmState.wr 0x60000000 5).wr 0x60000004 6
    s.serves ⟨m, 0x60000000, if wide then 8 else 4, 0, true⟩)
    ∧ (let m : Master := .headland
    let wide : Bool := false
    let s : State := (tmState.wr 0x60000020 5).wr 0x60000024 6
    s.serves ⟨m, 0x60000020, if wide then 8 else 4, 0, true⟩)
    ∧ (let m : Master := .headland
    let wide : Bool := false
    let s : State := (tmState.wr 0x60000028 5).wr 0x6000002c 6
    s.serves ⟨m, 0x60000028, if wide then 8 else 4, 0, true⟩) := by
  refine ⟨?_, ?_, ?_, ?_, ?_, ?_, ?_, ?_, ?_, ?_, ?_, ?_, ?_, ?_, ?_, ?_, ?_, ?_⟩ <;> (dsimp only; decide +kernel)

/-- The premises of ticketIssueDoes, holdupEntryDoes, restCommitDoes, finalCommitDoes, checkpointDoes, tidemarkBootDoes,
tidemarkWatchdogExpiryDoes, tidemarkClockFaultDoes are met. -/
theorem wit_tidemarkPower :
    (let c : TmClosed := ⟨tmRoll, 5000000, 99000000, 400, 4, true⟩
    let rest : List TmClosed := []
    let s : State :=
      { tmState with tm := { tmState.tm with closed := [⟨tmRoll, 5000000, 99000000, 400, 4, true⟩], err := true } }
    s.tm.closed = c :: rest ∧ s.tm.run = true)
    ∧ (let s : State := { tmState with tm := { tmState.tm with roll := some tmRoll } }
    s.fuses.tidemark = true ∧ s.tm.run = true)
    ∧ (let s : State := { tmState with fieldNow := 900000000, tm := { tmState.tm with holdup := true } }
    let rests := s.tm.run && s.tm.holdup && !s.tm.stopped && !s.tm.rested && decide (s.tm.lastCount + 800000000 ≤ s.fieldNow)
    rests = true)
    ∧ (let s : State := { tmState with tm := { tmState.tm with holdup := true } }
    let rests := s.tm.run && s.tm.holdup && !s.tm.stopped && !s.tm.rested && decide (s.tm.lastCount + 800000000 ≤ s.fieldNow)
    rests = false)
    ∧ (let s : State := { tmState with tm := { tmState.tm with holdup := true } }
    s.tm.run = true ∧ s.tm.holdup = true ∧ s.tm.stopped = false)
    ∧ (let s : State := tmState
    s.tm.run = true ∧ s.tm.stopped = false)
    ∧ (let s : State := { tmState with tm := { tmState.tm with run := false, nv := { tmState.tm.nv with key := [] } } }
    let n := s.tm.nv
    s.fuses.tidemark = true ∧ s.tm.run = false ∧ n.key = [])
    ∧ (let bad : Nat := 0
    let c : TmCkpt := ⟨5, 0, 7, 0, 9, some tmRoll, none, [], true, false⟩
    let s : State :=
      { tmState with tm := { tmState.tm with run := false, nv := { tmState.tm.nv with ckpts := [⟨5, 0, 7, 0, 9, some tmRoll, none, [], true, false⟩] } } }
    let n := s.tm.nv
    s.fuses.tidemark = true ∧ s.tm.run = false ∧ n.key ≠ [] ∧ (n.ckpts.drop bad).head? = some c)
    ∧ (let s : State := tmState
    s.tm.run = true)
    ∧ (let bad : Bool := false
    let s : State := { tmState with tm := { tmState.tm with clockBad := true } }
    s.tm.run = true ∧ (bad = false ∨ s.tm.err = true))
    ∧ (let bad : Bool := true
    let s : State := tmState
    s.tm.run = true ∧ bad = true ∧ s.tm.err = false) := by
  refine ⟨?_, ?_, ?_, ?_, ?_, ?_, ?_, ?_, ?_, ?_, ?_⟩ <;> (dsimp only; decide +kernel)

/-- The premises of swellRunDoes, swellStopDoes, swellStepDoes, swellResumeDoes, swellWakeCmdDoes, pairSetDoes, pairClearDoes,
pairCopyDoneDoes, swellErrClrDoes, swellCntClrDoes, bundlesReadDoes, apertureAccessDoes, swellFabricResponseDoes,
waitWakeDoes, routeSwellWakeDoes are met. -/
theorem wit_swellEngines :
    (let m : Master := .headland
    let e : Nat := 0
    let s : State := (swOne 2 0 0x24 4 2 5).setReg (.swell 0) 0x48 0x100103
    s.accepts (put32 m (.swell e) 0x40 1) ∧ s.swPaired e = false)
    ∧ (let m : Master := .headland
    let e : Nat := 0
    let s : State := swPair ((swOne 2 0 0x24 4 2 5).setReg (.swell 0) 0x48 0x100103)
    s.accepts (put32 m (.swell e) 0x40 1) ∧ s.swPaired e = true)
    ∧ (let m : Master := .headland
    let e : Nat := 0
    let s : State := swOne 2 0 0x24 4 2 5
    s.accepts (put32 m (.swell e) 0x40 2) ∧ s.swPaired e = false)
    ∧ (let m : Master := .headland
    let e : Nat := 0
    let s : State := swPair (swOne 2 0 0x24 4 2 5)
    s.accepts (put32 m (.swell e) 0x40 2) ∧ s.swPaired e = true)
    ∧ (let m : Master := .headland
    let e : Nat := 0
    let s : State := (swOne 2 0 0x24 4 2 5).setReg (.swell 0) 0x48 0x100100
    s.accepts (put32 m (.swell e) 0x40 4) ∧ s.swPaired e = false)
    ∧ (let m : Master := .headland
    let e : Nat := 0
    let s : State := swPair ((swOne 2 0 0x24 4 2 5).setReg (.swell 0) 0x48 0x100100)
    s.accepts (put32 m (.swell e) 0x40 4) ∧ s.swPaired e = true)
    ∧ (let m : Master := .headland
    let e : Nat := 0
    let s : State := (swOne 2 0 0x24 4 2 5).setReg (.swell 0) 0x48 0x100103
    s.accepts (put32 m (.swell e) 0x40 16) ∧ s.swPaired e = false)
    ∧ (let m : Master := .headland
    let e : Nat := 0
    let s : State := swPair ((swOne 2 0 0x24 4 2 5).setReg (.swell 0) 0x48 0x100103)
    s.accepts (put32 m (.swell e) 0x40 16) ∧ s.swPaired e = true)
    ∧ (let m : Master := .headland
    let e : Nat := 0
    let s : State := (swOne 2 0 0x24 4 2 5).setReg (.swell 0) 0x48 0x100002
    s.accepts (put32 m (.swell e) 0x40 8) ∧ s.swOn e = true ∧ s.swPaired e = false)
    ∧ (let m : Master := .headland
    let e : Nat := 0
    let s : State := swPair ((swOne 2 0 0x24 4 2 5).setReg (.swell 0) 0x48 0x100002)
    s.accepts (put32 m (.swell e) 0x40 8) ∧ s.swOn e = true ∧ s.swPaired e = true)
    ∧ (let m : Master := .headland
    let e : Nat := 0
    let cfg : Word := 0x10
    let s : State := (swOne 2 0 0x24 4 2 5).setReg (.swell 0) 0x48 0x100100
    let v := cfg ||| 0x20000
    s.accepts (put32 m (.swell e) 0x44 v.toNat) ∧ e % 2 = 0 ∧ s.swPaired e = false)
    ∧ (let m : Master := .headland
    let e : Nat := 0
    let cfg : Word := 0x10
    let s : State := swPair ((swOne 2 0 0x24 4 2 5).setReg (.swell 0) 0x48 0x100103)
    let v := cfg &&& 0xFFFDFFFF
    s.accepts (put32 m (.swell e) 0x44 v.toNat) ∧ e % 2 = 0 ∧ s.swPaired e = true)
    ∧ (let k : Nat := 0
    let s : State := (let s := swPair (swOne 2 0 0x24 4 2 5); s.setReg (.swell 0) 0x6C 2)
    let e := 2 * k
    e + 1 < s.fuses.swells ∧ s.swPaired e = true ∧ s.swCopying e = true)
    ∧ (let m : Master := .headland
    let e : Nat := 0
    let s : State := (swOne 2 0 0x24 4 2 5).setReg (.swell 0) 0x50 5
    s.accepts (put32 m (.swell e) 0x68 1))
    ∧ (let m : Master := .headland
    let e : Nat := 0
    let s : State := (swOne 2 0 0x24 4 2 5).setReg (.swell 0) 0x60 5
    s.accepts (put32 m (.swell e) 0x68 2))
    ∧ (let m : Master := .headland
    let e : Nat := 0
    let wide : Bool := false
    let s : State := (swOne 2 0 0x24 4 2 5).setReg (.swell 0) 0x54 5
    s.serves (readOf m (.swell e) (0x54) wide))
    ∧ (let m : Master := .headland
    let e : Nat := 0
    let off : Nat := 0x20010
    let size : Nat := 8
    let v : Nat := 0x1122334455667788
    let s : State := (swOne 2 0 0x24 4 2 5).setReg (.swell 0) 0x48 0x100100
    let a := 0x30000000 + e * 0x100000 + off
    e < 16 ∧ off < 0x100000 ∧ s.swPaired e = false ∧ s.accepts ⟨m, a, size, v, true⟩ ∧ s.serves ⟨m, a, size, 0, true⟩)
    ∧ (let e : Nat := 0
    let o : SwOut := ⟨3, .absent, 3, 0x10⟩
    let rest : List SwOut := []
    let s : State := (let s := (swOne 2 0 0x24 4 2 5).setReg (.swell 0) 0x44 0x10000; s.setSw 0
      { s.sw 0 with outs := [⟨3, .absent, 3, 0x10⟩], loads := [⟨9, 0x99, 0, some 3⟩] })
    let x := s.sw e
    s.swOn e = true ∧ x.outs = o :: rest ∧ s.swPaired e = false)
    ∧ (let e : Nat := 0
    let s : State := (swOne 2 0 0x24 4 2 5).setReg (.swell 0) 0x48 0x100002
    let x := s.sw e
    s.swOn e = true ∧ s.swPaired e = false ∧ s.swState e = 2 ∧ x.step = false)
    ∧ (let e : Nat := 0
    let s : State := (let s := (swOne 2 0 0x24 4 2 5).setReg (.swell 0) 0x48 0x100002; s.setSw 0 { s.sw 0 with step := true })
    let x := s.sw e
    s.swOn e = true ∧ s.swPaired e = false ∧ s.swState e = 2 ∧ x.step = true)
    ∧ (let e : Nat := 0
    let s : State := swOne 2 0 0x24 4 2 5
    s.swOn e = true ∧ s.swPaired e = false ∧ s.swState e ≠ 2)
    ∧ (let e : Nat := 0
    let r : RouteDue := ⟨6, 0, 3, 99999000⟩
    let s : State := { ((swOne 2 0 0x24 4 2 5).setReg (.swell 0) 0x48 0x100002) with routes := [⟨6, 0, 3, 99999000⟩] }
    let u : State := { ((swOne 2 0 0x24 4 2 5).setReg (.swell 0) 0x48 0x100002) with routes := [] }.wrapInc .tmx 0x40
    let x := s.sw e
    s.routeTake 6 e = some (r, u) ∧ s.swOn e = true ∧ s.swPaired e = false ∧ s.swState e = 2 ∧ x.step = false)
    ∧ (let e : Nat := 0
    let r : RouteDue := ⟨6, 0, 3, 99999000⟩
    let s : State := { (swOne 2 0 0x24 4 2 5) with routes := [⟨6, 0, 3, 99999000⟩] }
    let u : State := { (swOne 2 0 0x24 4 2 5) with routes := [] }.wrapInc .tmx 0x40
    let x := s.sw e
    s.routeTake 6 e = some (r, u) ∧ s.swOn e = true ∧ s.swPaired e = false ∧ s.swState e ≠ 2 ∧ x.wake = false)
    ∧ (let e : Nat := 0
    let r : RouteDue := ⟨6, 0, 3, 99999000⟩
    let s : State :=
      { (let s := swOne 2 0 0x24 4 2 5; s.setSw 0 { s.sw 0 with wake := true }) with routes := [⟨6, 0, 3, 99999000⟩] }
    let u : State := { (let s := swOne 2 0 0x24 4 2 5; s.setSw 0 { s.sw 0 with wake := true }) with routes := [] }.wrapInc .tmx
      0x40
    let x := s.sw e
    s.routeTake 6 e = some (r, u) ∧ s.swOn e = true ∧ s.swPaired e = false ∧ s.swState e ≠ 2 ∧ x.wake = true) := by
  refine ⟨?_, ?_, ?_, ?_, ?_, ?_, ?_, ?_, ?_, ?_, ?_, ?_, ?_, ?_, ?_, ?_, ?_, ?_, ?_, ?_, ?_, ?_, ?_, ?_⟩ <;> (dsimp only; decide +kernel)

/-- The premises of bundleExecuteDoes, bundleResultDoes, bundleControlDoes, bundleParallelDoes are met. -/
theorem wit_swellBundles :
    (let e : Nat := 0
    let s : State := (swOne 2 0 0x24 4 2 5).setReg (.swell 0) 0x48 0x100000
    e < 16 ∧ s.swIssues e = false)
    ∧ (let e : Nat := 0
    let s : State := (let s := swOne 2 0 0x24 4 2 5; s.setSw 0 { s.sw 0 with haltOwed := true })
    let x := s.sw e
    e < 16 ∧ s.swIssues e = true ∧ x.haltOwed = true ∧ s.swPaired e = false)
    ∧ (let e : Nat := 0
    let s : State := swOne 5 0 0 0 0 0
    let x := s.sw e
    let b := s.bundleAt e
    let goes := s.swIssues e && !x.haltOwed
    e < 16 ∧ goes = true ∧ s.swPaired e = false ∧ b.code ≠ 0)
    ∧ (let e : Nat := 0
    let s : State := (let s := swOne 3 0 0 5 3 0; s.setSw 0 { s.sw 0 with g := [(3, 0x9001)] })
    let x := s.sw e
    let pc := s.swPc e
    let b := s.bundleAt e
    let fs := s.bundleFaults x e pc b.syls
    let goes := s.swIssues e && !x.haltOwed
    e < 16 ∧ goes = true ∧ s.swPaired e = false ∧ b.code = 0 ∧ fs ≠ [])
    ∧ (let e : Nat := 0
    let s : State := (let s := swOne 2 0 0x24 4 2 5; s.setSw 0 { s.sw 0 with loads := [⟨9, 1, 0, some 3⟩] })
    let x := s.sw e
    let pc := s.swPc e
    let b := s.bundleAt e
    let fs := s.bundleFaults x e pc b.syls
    let goes := s.swIssues e && !x.haltOwed
    e < 16 ∧ goes = true ∧ s.swPaired e = false ∧ b.code = 0 ∧ fs = [] ∧ s.swStalls x b.syls = true)
    ∧ (let e : Nat := 0
    let mm : Bool := true
    let s : State := swPair (swOne 2 0 0x24 4 2 5)
    let x := s.sw e
    let goes := s.swIssues e && !x.haltOwed
    e < 16 ∧ goes = true ∧ mm = true ∧ s.swPaired e = true ∧ e % 2 = 0)
    ∧ (let e : Nat := 0
    let w : Word := syl 2 1 0x24 4 2 5
    let s : State := swOne 2 1 0x24 4 2 5
    let x := s.sw e
    let pc := s.swPc e
    e < 16 ∧ s.swIssues e = true ∧ x.haltOwed = false ∧ x.step = false ∧ s.swPaired e = false ∧ s.bundleAt e = ⟨0, 0, [w]⟩ ∧
      s.bundleFaults x e pc [w] = [] ∧ s.swStalls x [w] = false ∧ x.pr (sylPred w) = false)
    ∧ (let e : Nat := 0
    let w : Word := syl 2 0 0x24 4 2 0x1FF
    let s : State := swOne 2 0 0x24 4 2 0x1FF
    let x := s.sw e
    let pc := s.swPc e
    let rd := sylRd w
    let acts := x.pr (sylPred w)
    e < 16 ∧ s.swIssues e = true ∧ x.haltOwed = false ∧ x.step = false ∧ s.swPaired e = false ∧ s.bundleAt e = ⟨0, 0, [w]⟩ ∧
      s.bundleFaults x e pc [w] = [] ∧ s.swStalls x [w] = false ∧ acts = true ∧ sylSlot w = 2 ∧ sylOp w = 0x24 ∧ rd ≠ 0)
    ∧ (let e : Nat := 0
    let w : Word := syl 2 0 0 4 2 0x30
    let s : State := swOne 2 0 0 4 2 0x30
    let x := s.sw e
    let pc := s.swPc e
    let rd := sylRd w
    let acts := x.pr (sylPred w)
    e < 16 ∧ s.swIssues e = true ∧ x.haltOwed = false ∧ x.step = false ∧ s.swPaired e = false ∧ s.bundleAt e = ⟨0, 0, [w]⟩ ∧
      s.bundleFaults x e pc [w] = [] ∧ s.swStalls x [w] = false ∧ acts = true ∧ sylSlot w = 2 ∧ sylOp w = 0 ∧ rd ≠ 0)
    ∧ (let e : Nat := 0
    let w : Word := syl 2 0 0x2A 4 2 0x30
    let s : State := swOne 2 0 0x2A 4 2 0x30
    let x := s.sw e
    let pc := s.swPc e
    let acts := x.pr (sylPred w)
    e < 16 ∧ s.swIssues e = true ∧ x.haltOwed = false ∧ x.step = false ∧ s.swPaired e = false ∧ s.bundleAt e = ⟨0, 0, [w]⟩ ∧
      s.bundleFaults x e pc [w] = [] ∧ s.swStalls x [w] = false ∧ acts = true ∧ sylSlot w = 2 ∧ sylOp w = 0x2A)
    ∧ (let e : Nat := 0
    let w : Word := syl 3 0 0 4 3 2
    let s : State := swOne 3 0 0 4 3 2
    let x := s.sw e
    let pc := s.swPc e
    let acts := x.pr (sylPred w)
    e < 16 ∧ s.swIssues e = true ∧ x.haltOwed = false ∧ x.step = false ∧ s.swPaired e = false ∧ s.bundleAt e = ⟨0, 0, [w]⟩ ∧
      s.bundleFaults x e pc [w] = [] ∧ s.swStalls x [w] = false ∧ acts = true ∧ sylSlot w = 3 ∧ sylOp w = 0 ∧ bit w 8 = false)
    ∧ (let e : Nat := 0
    let w : Word := syl 3 0 1 5 3 0xFF
    let s : State := swOne 3 0 1 5 3 0xFF
    let x := s.sw e
    let pc := s.swPc e
    let acts := x.pr (sylPred w)
    e < 16 ∧ s.swIssues e = true ∧ x.haltOwed = false ∧ x.step = false ∧ s.swPaired e = false ∧ s.bundleAt e = ⟨0, 0, [w]⟩ ∧
      s.bundleFaults x e pc [w] = [] ∧ s.swStalls x [w] = false ∧ acts = true ∧ sylSlot w = 3 ∧ sylOp w = 1 ∧ bit w 8 = false)
    ∧ (let e : Nat := 0
    let w : Word := syl 4 0 0 0 0 0xFFF8
    let s : State := swOne 4 0 0 0 0 0xFFF8
    let x := s.sw e
    let pc := s.swPc e
    let acts := x.pr (sylPred w)
    e < 16 ∧ s.swIssues e = true ∧ x.haltOwed = false ∧ x.step = false ∧ s.swPaired e = false ∧ s.bundleAt e = ⟨0, 0, [w]⟩ ∧
      s.bundleFaults x e pc [w] = [] ∧ s.swStalls x [w] = false ∧ acts = true ∧ sylSlot w = 4 ∧ sylOp w = 0)
    ∧ (let e : Nat := 0
    let w : Word := syl 4 0 1 0 0 8
    let s : State := swOne 4 0 1 0 0 8
    let x := s.sw e
    let pc := s.swPc e
    let acts := x.pr (sylPred w)
    e < 16 ∧ s.swIssues e = true ∧ x.haltOwed = false ∧ x.step = false ∧ s.swPaired e = false ∧ s.bundleAt e = ⟨0, 0, [w]⟩ ∧
      s.bundleFaults x e pc [w] = [] ∧ s.swStalls x [w] = false ∧ acts = true ∧ sylSlot w = 4 ∧ sylOp w = 1)
    ∧ (let e : Nat := 0
    let w : Word := syl 4 0 2 0 0 0
    let s : State := swOne 4 0 2 0 0 0
    let x := s.sw e
    let pc := s.swPc e
    let acts := x.pr (sylPred w)
    e < 16 ∧ s.swIssues e = true ∧ x.haltOwed = false ∧ x.step = false ∧ s.swPaired e = false ∧ s.bundleAt e = ⟨0, 0, [w]⟩ ∧
      s.bundleFaults x e pc [w] = [] ∧ s.swStalls x [w] = false ∧ acts = true ∧ sylSlot w = 4 ∧ sylOp w = 2)
    ∧ (let e : Nat := 0
    let w : Word := syl 4 0 4 0 0 0x303
    let s : State := swOne 4 0 4 0 0 0x303
    let x := s.sw e
    let pc := s.swPc e
    let acts := x.pr (sylPred w)
    e < 16 ∧ s.swIssues e = true ∧ x.haltOwed = false ∧ x.step = false ∧ s.swPaired e = false ∧ s.bundleAt e = ⟨0, 0, [w]⟩ ∧
      s.bundleFaults x e pc [w] = [] ∧ s.swStalls x [w] = false ∧ acts = true ∧ sylSlot w = 4 ∧ sylOp w = 4 ∧ fld w 8 9 ≠ 0)
    ∧ (let e : Nat := 0
    let w : Word := syl 4 0 5 0 0 0
    let s : State := swOne 4 0 5 0 0 0
    let x := s.sw e
    let pc := s.swPc e
    let acts := x.pr (sylPred w)
    e < 16 ∧ s.swIssues e = true ∧ x.haltOwed = false ∧ x.step = false ∧ s.swPaired e = false ∧ s.bundleAt e = ⟨0, 0, [w]⟩ ∧
      s.bundleFaults x e pc [w] = [] ∧ s.swStalls x [w] = false ∧ acts = true ∧ sylSlot w = 4 ∧ sylOp w = 5 ∧ x.wake = false)
    ∧ (let e : Nat := 0
    let w : Word := syl 4 0 6 0 0 0
    let s : State := swOne 4 0 6 0 0 0
    let x := s.sw e
    let pc := s.swPc e
    let acts := x.pr (sylPred w)
    e < 16 ∧ s.swIssues e = true ∧ x.haltOwed = false ∧ x.step = false ∧ s.swPaired e = false ∧ s.bundleAt e = ⟨0, 0, [w]⟩ ∧
      s.bundleFaults x e pc [w] = [] ∧ s.swStalls x [w] = false ∧ acts = true ∧ sylSlot w = 4 ∧ sylOp w = 6)
    ∧ (let e : Nat := 0
    let w : Word := syl 4 0 7 0 0 9
    let s : State := swOne 4 0 7 0 0 9
    let x := s.sw e
    let pc := s.swPc e
    let acts := x.pr (sylPred w)
    e < 16 ∧ s.swIssues e = true ∧ x.haltOwed = false ∧ x.step = false ∧ s.swPaired e = false ∧ s.bundleAt e = ⟨0, 0, [w]⟩ ∧
      s.bundleFaults x e pc [w] = [] ∧ s.swStalls x [w] = false ∧ acts = true ∧ sylSlot w = 4 ∧ sylOp w = 7)
    ∧ (let e : Nat := 0
    let w : Word := syl 4 0 5 0 0 0
    let s : State := (let s := swOne 4 0 5 0 0 0; s.setSw 0 { s.sw 0 with wake := true })
    let x := s.sw e
    let pc := s.swPc e
    let acts := x.pr (sylPred w)
    e < 16 ∧ s.swIssues e = true ∧ x.haltOwed = false ∧ x.step = false ∧ s.swPaired e = false ∧ s.bundleAt e = ⟨0, 0, [w]⟩ ∧
      s.bundleFaults x e pc [w] = [] ∧ s.swStalls x [w] = false ∧ acts = true ∧ sylSlot w = 4 ∧ sylOp w = 5 ∧ x.wake = true)
    ∧ (let e : Nat := 0
    let wm : Word := syl 0 0 0x13 2 5 0x20 - 0x80000000
    let wa : Word := syl 2 0 0x24 5 2 1 - 0x80000000
    let wl : Word := syl 3 0 1 5 3 4
    let s : State := swWith [syl 0 0 0x13 2 5 0x20 - 0x80000000, syl 2 0 0x24 5 2 1 - 0x80000000, syl 3 0 1 5 3 4]
    let x := s.sw e
    let pc := s.swPc e
    e < 16 ∧ s.swIssues e = true ∧ x.haltOwed = false ∧ x.step = false ∧ s.swPaired e = false ∧ s.bundleAt e = ⟨0, 0, [wm, wa,
      wl]⟩ ∧ s.bundleFaults x e pc [wm, wa, wl] = [] ∧ s.swStalls x [wm, wa, wl] = false ∧ ([wm, wa, wl].all fun w => x.pr (sylPred w)) = true ∧ sylSlot wm = 0 ∧ sylOp wm = 0x13 ∧ sylSlot wa = 2 ∧ sylOp wa = 0x24 ∧ sylSlot wl = 3 ∧ sylOp wl = 1 ∧ bit wl
      8 = false ∧ x.active = [] ∧ sylRd wm ≠ 0 ∧ sylRd wa ≠ 0 ∧ sylRd wm ≠ sylRd wa) := by
  refine ⟨?_, ?_, ?_, ?_, ?_, ?_, ?_, ?_, ?_, ?_, ?_, ?_, ?_, ?_, ?_, ?_, ?_, ?_, ?_, ?_, ?_⟩ <;> (dsimp only; decide +kernel)

/-- The premises of timerMatchDoes, timerWrapDoes, timerTopDoes, routeTimerStartDoes, routeTimerStopDoes, routeTimerCountDoes,
releaseFireDoes, dmaStartDoes, dmaAbortDoes, dmaRequestDoes, dmaTransactionDoes are met. -/
theorem wit_timersAndDma :
    (let k : Nat := 2
    let i : Nat := 0
    let s : State := tmrState
    let c := s.tmrCatch k
    let cm := if i = 0 then c.cmp0 else c.cmp1
    let last := if i = 0 then c.match0 else c.match1
    let n := s.tmrTicks k c s.now
    let x := c.at_ + (cm - c.count) * s.tmrUnit k
    k < 32 ∧ i < 2 ∧ s.chainOdd k = false ∧ c.load = none ∧ cm ≤ c.period ∧ ((cm = c.count ∧ c.taken = true) ∨ (c.count < cm ∧
      cm ≤ c.count + n)) ∧ last ≠ some x)
    ∧ (let k : Nat := 2
    let i : Nat := 1
    let s : State := tmrState
    let c := s.tmrCatch k
    let cm := if i = 0 then c.cmp0 else c.cmp1
    let n := s.tmrTicks k c s.now
    k < 32 ∧ i < 2 ∧ s.chainOdd k = false ∧ c.load = none ∧ cm ≤ c.period ∧ (cm < c.count ∨ (cm = c.count ∧ c.taken = false) ∨
      c.count + n < cm))
    ∧ (let k : Nat := 2
    let s : State := { tmrState with now := 100000400 }
    let c := s.tmrCatch k
    let n := if c.period < c.count then 1 else c.period - c.count + 1
    k < 32 ∧ s.chainOdd k = false ∧ s.tcfg k 1 = false ∧ c.load = none ∧ n ≤ s.tmrTicks k c s.now)
    ∧ (let k : Nat := 2
    let s : State := { tmrState.setReg (.tmr 0) 0x854 3 with now := 100000400 }
    let c := s.tmrCatch k
    let n := if c.period < c.count then 1 else c.period - c.count
    k < 32 ∧ s.chainOdd k = false ∧ s.tcfg k 1 = true ∧ c.load = none ∧ c.count ≠ c.period ∧ n ≤ s.tmrTicks k c s.now)
    ∧ (let k : Nat := 2
    let a : RouteDue := ⟨2, 2, 99999980, 99999996⟩
    let u : State := { (tmrState.setTimer 2 { tmrState.timer 2 with run := false }) with routes := [] }.wrapInc .tmx 0x40
    let s : State :=
      { (tmrState.setTimer 2 { tmrState.timer 2 with run := false }) with routes := [⟨2, 2, 99999980, 99999996⟩] }
    let alone := !(s.routes.any fun b => b.kind = 3 && b.index = k && b.at_ = a.at_)
    s.routeTake 2 k = some (a, u) ∧ k < 32 ∧ s.tcfg k 0 = true ∧ s.chainOdd k = false ∧ alone = true ∧ (s.timer k).run = false)
    ∧ (let k : Nat := 2
    let a : RouteDue := ⟨2, 2, 99999980, 99999996⟩
    let u : State := { tmrState with routes := [] }.wrapInc .tmx 0x40
    let s : State := { tmrState with routes := [⟨2, 2, 99999980, 99999996⟩] }
    let alone := !(s.routes.any fun b => b.kind = 3 && b.index = k && b.at_ = a.at_)
    s.routeTake 2 k = some (a, u) ∧ k < 32 ∧ (s.tcfg k 0 = false ∨ s.chainOdd k = true ∨ alone = false ∨ (s.timer k).run =
      true))
    ∧ (let k : Nat := 2
    let a : RouteDue := ⟨3, 2, 99999980, 99999996⟩
    let u : State := { tmrState with routes := [] }.wrapInc .tmx 0x40
    let s : State := { tmrState with routes := [⟨3, 2, 99999980, 99999996⟩] }
    s.routeTake 3 k = some (a, u) ∧ k < 32 ∧ s.chainOdd k = false)
    ∧ (let k : Nat := 3
    let a : RouteDue := ⟨3, 3, 99999980, 99999996⟩
    let u : State := { tmrState.setReg (.tmr 0) 0x854 9 with routes := [] }.wrapInc .tmx 0x40
    let s : State := { tmrState.setReg (.tmr 0) 0x854 9 with routes := [⟨3, 3, 99999980, 99999996⟩] }
    s.routeTake 3 k = some (a, u) ∧ k < 32 ∧ s.chainOdd k = true)
    ∧ (let k : Nat := 2
    let a : RouteDue := ⟨4, 2, 99999980, 99999996⟩
    let u : State := { tmrState with routes := [] }.wrapInc .tmx 0x40
    let s : State := { tmrState with routes := [⟨4, 2, 99999980, 99999996⟩] }
    let c := s.timer k
    s.routeTake 4 k = some (a, u) ∧ k < 32 ∧ (s.chainOdd k = true ∨ c.run = false ∨ s.tcfg k 5 = false))
    ∧ (let k : Nat := 2
    let a : RouteDue := ⟨4, 2, 99999980, 99999996⟩
    let u : State := { ((tmrState).setReg (.tmr 0) 0x854 0x21) with routes := [] }.wrapInc .tmx 0x40
    let s : State := { ((tmrState).setReg (.tmr 0) 0x854 0x21) with routes := [⟨4, 2, 99999980, 99999996⟩] }
    let c := s.timer k
    s.routeTake 4 k = some (a, u) ∧ k < 32 ∧ s.chainOdd k = false ∧ c.run = true ∧ s.tcfg k 5 = true ∧ c.count < c.period ∧
      ((c.count + 1 ≠ c.period ∨ s.tcfg k 1 = false)))
    ∧ (let k : Nat := 2
    let a : RouteDue := ⟨4, 2, 99999980, 99999996⟩
    let u : State :=
      { (((tmrState.setTimer 2 { tmrState.timer 2 with count := 100 })).setReg (.tmr 0) 0x854 0x21) with routes := [] }.wrapInc
      .tmx 0x40
    let s : State :=
      { (((tmrState.setTimer 2 { tmrState.timer 2 with count := 100 })).setReg (.tmr 0) 0x854 0x21) with routes := [⟨4, 2, 99999980, 99999996⟩] }
    let c := s.timer k
    s.routeTake 4 k = some (a, u) ∧ k < 32 ∧ s.chainOdd k = false ∧ c.run = true ∧ s.tcfg k 5 = true ∧ s.tcfg k 1 = false ∧
      c.count = c.period)
    ∧ (let q : Nat := 6
    let a : RouteDue := ⟨5, 6, 99999980, 99999996⟩
    let u : State := { queueState with routes := [] }.wrapInc .tmx 0x40
    let i : Nat := 8
    let e : Entry := ⟨6, .release, 90000000, 4, 0x2000, 0x1234, 0, false, false, false⟩
    let s : State := { queueState with routes := [⟨5, 6, 99999980, 99999996⟩] }
    let inst := a.event + e.inst
    let rep := bit (wordOf e.metaW.toNat) 11
    s.routeTake 5 q = some (a, u) ∧ (s.qEntries q).find? (fun e => e.2.kind = .release) = some (i, e) ∧ (s.preempted &&
      holdUpPort (s.qPort q)) = false ∧ s.tqfNow + s.qLead q ≤ inst ∧ inst ≤ s.tqfNow + 2 ^ 33 ∧ rep = false ∧ u.slotReason q
      inst = .none)
    ∧ (let q : Nat := 6
    let a : RouteDue := ⟨5, 6, 10000, 99999996⟩
    let u : State := { queueState with routes := [] }.wrapInc .tmx 0x40
    let i : Nat := 8
    let e : Entry := ⟨6, .release, 90000000, 4, 0x2000, 0x1234, 0, false, false, false⟩
    let s : State := { queueState with routes := [⟨5, 6, 10000, 99999996⟩] }
    let inst := a.event + e.inst
    s.routeTake 5 q = some (a, u) ∧ (s.qEntries q).find? (fun e => e.2.kind = .release) = some (i, e) ∧ (s.preempted &&
      holdUpPort (s.qPort q)) = false ∧ inst < s.tqfNow + s.qLead q)
    ∧ (let m : Master := .headland
    let c : Nat := 1
    let s : State := dmaState.setReg (.dma 0) 0x854 2
    c < 32 ∧ s.accepts (put32 m (dmaPage c) (dmaOff c 0x10) 1))
    ∧ (let m : Master := .headland
    let c : Nat := 1
    let s : State := dmaState
    c < 32 ∧ s.accepts (put32 m (dmaPage c) (dmaOff c 0x10) 2) ∧ s.dmaState c = 1)
    ∧ (let m : Master := .headland
    let c : Nat := 1
    let s : State := dmaState.setReg (.dma 0) 0x854 2
    c < 32 ∧ s.accepts (put32 m (dmaPage c) (dmaOff c 0x10) 2) ∧ s.dmaState c ≠ 1)
    ∧ (let c : Nat := 1
    let a : RouteDue := ⟨1, 1, 99999980, 99999980⟩
    let u : State := { dmaState with routes := [] }
    let s : State := { dmaState with routes := [⟨1, 1, 99999980, 99999980⟩] }
    let takes := s.dmaPaced c && decide (s.dmaState c = 1)
    s.routeTake 1 c = some (a, u) ∧ c < 32 ∧ takes = false)
    ∧ (let c : Nat := 1
    let a : RouteDue := ⟨1, 1, 99999980, 99999996⟩
    let u : State := { (dmaState.setReg (.dma 0) 0x84C 0x107) with routes := [] }.wrapInc .tmx 0x40
    let s : State := { (dmaState.setReg (.dma 0) 0x84C 0x107) with routes := [⟨1, 1, 99999980, 99999996⟩] }
    let takes := s.dmaPaced c && decide (s.dmaState c = 1)
    s.routeTake 1 c = some (a, u) ∧ c < 32 ∧ takes = true ∧ s.dmaBurst c = 0)
    ∧ (let c : Nat := 1
    let a : RouteDue := ⟨1, 1, 99999980, 99999996⟩
    let u : State := { ((dmaState.setReg (.dma 0) 0x84C 0x107).setBurst 1 4) with routes := [] }.wrapInc .tmx 0x40
    let s : State := { ((dmaState.setReg (.dma 0) 0x84C 0x107).setBurst 1 4) with routes := [⟨1, 1, 99999980, 99999996⟩] }
    let takes := s.dmaPaced c && decide (s.dmaState c = 1)
    s.routeTake 1 c = some (a, u) ∧ c < 32 ∧ takes = true ∧ s.dmaBurst c ≠ 0 ∧ bit (s.dmaWord c 0x14) 16 = false)
    ∧ (let c : Nat := 1
    let a : RouteDue := ⟨1, 1, 99999980, 99999996⟩
    let u : State :=
      { (((dmaState.setReg (.dma 0) 0x84C 0x107).setReg (.dma 0) 0x854 0x10001).setBurst 1 4) with routes := [] }.wrapInc .tmx
      0x40
    let s : State :=
      { (((dmaState.setReg (.dma 0) 0x84C 0x107).setReg (.dma 0) 0x854 0x10001).setBurst 1 4) with routes := [⟨1, 1, 99999980, 99999996⟩] }
    let takes := s.dmaPaced c && decide (s.dmaState c = 1)
    s.routeTake 1 c = some (a, u) ∧ c < 32 ∧ takes = true ∧ s.dmaBurst c ≠ 0 ∧ bit (s.dmaWord c 0x14) 16 = true)
    ∧ (let c : Nat := 1
    let bs : List Nat := [136, 119, 102, 85, 68, 51, 34, 17]
    let u : State := ((dmaState.dmaServed 1).partsRead .dma (dmaState.dmaParts 1 0 0x20000010 8)).2.2
    let v : State := ((((dmaState.dmaServed 1).partsRead .dma (dmaState.dmaParts 1 0 0x20000010 8)).2.2).partsWrite .dma
      (dmaState.dmaParts 1 1 0x20000100 8) [136, 119, 102, 85, 68, 51, 34, 17]).2
    let s : State := dmaState
    let n := s.dmaSize c
    let done := fld (s.dmaWord c 0x18) 0 24
    let src := if bit (s.dmaWord c 0xC) 0 then ((s.dmaWord c 0).toNat + done) % 2 ^ 32 else (s.dmaWord c 0).toNat
    let dst := if bit (s.dmaWord c 0xC) 1 then ((s.dmaWord c 4).toNat + done) % 2 ^ 32 else (s.dmaWord c 4).toNat
    s.dmaNext = some c ∧ c < 32 ∧ done + n < 2 ^ 24 ∧ s.dmaForbidden c n = none ∧ (s.dmaServed c).partsRead .dma (s.dmaParts c
      0 src n) = (.none, bs, u) ∧ u.partsWrite .dma (u.dmaParts c 1 dst n) bs = (.none, v) ∧ s.dmaPaced c = false ∧ bit
      (s.dmaWord c 0xC) 0 = true ∧ bit (s.dmaWord c 0xC) 1 = true ∧ ((∀ k, k < 2 → 0x20000000 ≤ [src, dst].getD k 0 ∧ [src,
      dst].getD k 0 + n ≤ 0x20100000)) ∧ (u.partsWrite .dma (u.dmaParts c 1 dst n) bs).1 = .none)
    ∧ (let c : Nat := 1
    let f : AccessKind × Nat := (.load, 0x20000010)
    let s : State := dmaState.setReg (.guard 2) 0x808 0
    let n := s.dmaSize c
    let done := fld (s.dmaWord c 0x18) 0 24
    s.dmaNext = some c ∧ c < 32 ∧ done + n < 2 ^ 24 ∧ s.dmaForbidden c n = some f) := by
  refine ⟨?_, ?_, ?_, ?_, ?_, ?_, ?_, ?_, ?_, ?_, ?_, ?_, ?_, ?_, ?_, ?_, ?_, ?_, ?_, ?_, ?_, ?_⟩ <;> (dsimp only; decide +kernel)

/-- The premises of timerEnableDoes, timerStartCmdDoes, timerStopCmdDoes, timerLoadCmdDoes, timerLateClrDoes, timerCountLoadDoes,
timerCountReadDoes, tmFiredClrDoes are met. -/
theorem wit_timerRegisters :
    (let m : Master := .headland
    let k : Nat := 4
    let cfg : Word := 0
    let s : State := tmrState
    k < 32 ∧ s.accepts (put32 m (.tmr (k / 8)) (tmrOff k 0x14) (cfg ||| 1).toNat) ∧ s.tcfg k 0 = false ∧ bit cfg 4 = false ∧
      (s.timer k).run = false)
    ∧ (let m : Master := .headland
    let k : Nat := 4
    let cfg : Word := 0x10
    let s : State := tmrState
    k < 32 ∧ s.accepts (put32 m (.tmr (k / 8)) (tmrOff k 0x14) (cfg ||| 1).toNat) ∧ (s.tcfg k 0 = true ∨ bit cfg 4 = true))
    ∧ (let m : Master := .headland
    let k : Nat := 2
    let s : State := (tmrState.setTimer 2 { tmrState.timer 2 with run := false })
    k < 32 ∧ s.accepts (put32 m (.tmr (k / 8)) (tmrOff k 0x1C) 1) ∧ s.tcfg k 0 = true ∧ (s.timer k).run = false)
    ∧ (let m : Master := .headland
    let k : Nat := 2
    let s : State := tmrState
    k < 32 ∧ s.accepts (put32 m (.tmr (k / 8)) (tmrOff k 0x1C) 1) ∧ (s.tcfg k 0 = false ∨ (s.timer k).run = true))
    ∧ (let m : Master := .headland
    let k : Nat := 2
    let s : State := tmrState
    k < 32 ∧ s.accepts (put32 m (.tmr (k / 8)) (tmrOff k 0x1C) 2))
    ∧ (let m : Master := .headland
    let k : Nat := 2
    let s : State := tmrState
    k < 32 ∧ s.accepts (put32 m (.tmr (k / 8)) (tmrOff k 0x1C) 4))
    ∧ (let m : Master := .headland
    let k : Nat := 2
    let s : State := tmrState.setReg (.tmr 0) 0x858 8
    k < 32 ∧ s.accepts (put32 m (.tmr (k / 8)) (tmrOff k 0x1C) 8))
    ∧ (let m : Master := .headland
    let k : Nat := 2
    let v : Nat := 7
    let s : State := tmrState
    k < 32 ∧ s.chainOdd k = false ∧ s.chainHead k = false ∧ v < 2 ^ 32 ∧ s.accepts (put32 m (.tmr (k / 8)) (tmrOff k 0) v))
    ∧ (let m : Master := .headland
    let k : Nat := 2
    let v : Nat := 0x100000007
    let s : State := (tmrState.setReg (.tmr 0) 0x854 9).setTimer 2 { tmrState.timer 2 with period := 0xFFFFFFFFFFFFFFFF }
    k < 32 ∧ s.chainOdd k = false ∧ s.chainHead k = true ∧ v < 2 ^ 64 ∧ s.accepts (put64 m (.tmr (k / 8)) (tmrOff k 0) v))
    ∧ (let m : Master := .headland
    let k : Nat := 2
    let wide : Bool := false
    let s : State := tmrState
    s.serves (readOf m (.tmr (k / 8)) (tmrOff k 0) wide) ∧ k < 32 ∧ s.chainOdd k = false)
    ∧ (let m : Master := .headland
    let s : State := tmrState.setReg .tmx 0x40 5
    s.accepts (put32 m .tmx 0x44 1)) := by
  refine ⟨?_, ?_, ?_, ?_, ?_, ?_, ?_, ?_, ?_, ?_, ?_⟩ <;> (dsimp only; decide +kernel)

/-- The premises of watchdogStartDoes, wdtKey1Does, wdtKey2Does, wdtCheckinDoes, watchdogWindowOpenDoes, watchdogExpiryDoes,
converterStartDoes, conversionResultDoes, converterFaultDoes, cvDataPopDoes, cvCntClrDoes, cvFlushDoes are met. -/
theorem wit_watchdogsAndConverters :
    (let m : Master := .headland
    let w : Nat := 0
    let p : Nat := 0x64
    let s : State := runState
    w ≤ 8 ∧ s.accepts (put32 m (wdtPage w) 0x40 p))
    ∧ (let m : Master := .headland
    let w : Nat := 0
    let s : State := wdtState 80 0x31
    w ≤ 8 ∧ s.accepts (put32 m (wdtPage w) 0x48 0x5EA1))
    ∧ (let m : Master := .headland
    let w : Nat := 0
    let s : State := wdtState 10 0x31
    w ≤ 8 ∧ m = .headland ∧ s.wdtRun w = true ∧ s.key1Seen w = false ∧ (s.wdog w).tripped = false ∧ s.wdtCount w < s.wdtOpenThr
      w ∧ (s.accWrite (put32 .headland (wdtPage w) 0x48 0x5EA1)).1 = .sequence)
    ∧ (let m : Master := .headland
    let w : Nat := 0
    let s : State := wdtState 80 0x35
    w ≤ 8 ∧ s.accepts (put32 m (wdtPage w) 0x48 0xC0A5))
    ∧ (let m : Master := .headland
    let w : Nat := 0
    let task : Nat := 3
    let s : State := (wdtState 20 0x31).setReg (.wdt 0) 0x54 1
    w ≤ 8 ∧ task < 32 ∧ s.accepts (put32 m (wdtPage w) 0x4C task) ∧ bit (s.reg (wdtPage w) 0x54) task = false)
    ∧ (let m : Master := .headland
    let w : Nat := 0
    let task : Nat := 3
    let s : State := wdtState 20 0x31
    w ≤ 8 ∧ task < 32 ∧ s.accepts (put32 m (wdtPage w) 0x4C task) ∧ bit (s.reg (wdtPage w) 0x54) task = true)
    ∧ (let w : Nat := 0
    let s : State := wdtState 80 0x31
    let opens := s.wdtRun w && !(s.wdog w).opened && !(s.wdog w).tripped && decide (s.wdtOpenThr w ≤ s.wdtCount w)
    w ≤ 8 ∧ opens = true)
    ∧ (let w : Nat := 0
    let s : State := wdtState 10 0x31
    let opens := s.wdtRun w && !(s.wdog w).opened && !(s.wdog w).tripped && decide (s.wdtOpenThr w ≤ s.wdtCount w)
    w ≤ 8 ∧ opens = false)
    ∧ (let w : Nat := 0
    let s : State := wdtState 100 0x31
    let ends := s.wdtRun w && !(s.wdog w).tripped && decide (s.wdtPeriod w ≤ s.wdtCount w)
    w ≤ 8 ∧ ends = true)
    ∧ (let w : Nat := 0
    let s : State := wdtState 99 0x31
    let ends := s.wdtRun w && !(s.wdog w).tripped && decide (s.wdtPeriod w ≤ s.wdtCount w)
    w ≤ 8 ∧ ends = false)
    ∧ (let c : Nat := 0
    let a : RouteDue := ⟨0, 0, 99990000, 99991600⟩
    let u : State := { (cvState 0x40) with routes := [] }.wrapInc .tmx 0x40
    let s : State := { (cvState 0x40) with routes := [⟨0, 0, 99990000, 99991600⟩] }
    s.routeTake 0 c = some (a, u) ∧ c < 16 ∧ (s.cvRuns c = false ∨ bit (s.cvCfg c) 6 = true))
    ∧ (let c : Nat := 0
    let a : RouteDue := ⟨0, 0, 99990000, 99991600⟩
    let u : State := { ((cvState 0).setCv 0 { (cvState 0).cv 0 with start := none }) with routes := [] }.wrapInc .tmx 0x40
    let s : State :=
      { ((cvState 0).setCv 0 { (cvState 0).cv 0 with start := none }) with routes := [⟨0, 0, 99990000, 99991600⟩] }
    s.routeTake 0 c = some (a, u) ∧ c < 16 ∧ s.cvRuns c = true ∧ bit (s.cvCfg c) 6 = false ∧ (s.cv c).start = none)
    ∧ (let c : Nat := 0
    let a : RouteDue := ⟨0, 0, 99990000, 99991600⟩
    let u : State := { (cvState 0) with routes := [] }.wrapInc .tmx 0x40
    let s : State := { (cvState 0) with routes := [⟨0, 0, 99990000, 99991600⟩] }
    s.routeTake 0 c = some (a, u) ∧ c < 16 ∧ s.cvRuns c = true ∧ bit (s.cvCfg c) 6 = false ∧ (s.cv c).start ≠ none)
    ∧ (let c : Nat := 0
    let vexc : Nat := 5000000
    let t0 : Nat := 99000000
    let s : State := cvState 0x200
    let x := s.cv c
    let w := 125000 * 2 ^ fld (s.cvCfg c) 3 3
    let cont := bit (s.cvCfg c) 6
    let begun := if cont then some (x.window * w) else x.start
    s.cvRuns c = true ∧ begun = some t0 ∧ t0 + w + 32000 ≤ s.now ∧ vexc ≠ 0 ∧ c < 16)
    ∧ (let c : Nat := 0
    let exc : Bool := true
    let s : State := cvState 0
    let op := decide (8 ≤ (s.cv c).open_)
    let fault := exc || op || bit (s.reg .bwMon 0x4C) 7
    c < s.fuses.cells ∧ fault = true)
    ∧ (let c : Nat := 0
    let exc : Bool := false
    let s : State := cvState 0
    let op := decide (8 ≤ (s.cv c).open_)
    let fault := exc || op || bit (s.reg .bwMon 0x4C) 7
    c < s.fuses.cells ∧ fault = false)
    ∧ (let m : Master := .headland
    let c : Nat := 0
    let x : CvSample := ⟨-5, 6, 98000000⟩
    let rest : List CvSample := []
    let wide : Bool := false
    let s : State := cvState 0
    s.serves (readOf m (.cv c) (0x48) wide) ∧ (s.cv c).fifo = x :: rest)
    ∧ (let m : Master := .headland
    let c : Nat := 0
    let s : State := (cvState 0).setReg (.cv 0) 0x58 5
    s.accepts (put32 m (.cv c) 0x5C 1))
    ∧ (let m : Master := .headland
    let c : Nat := 0
    let s : State := cvState 0
    s.accepts (put32 m (.cv c) 0x5C 2)) := by
  refine ⟨?_, ?_, ?_, ?_, ?_, ?_, ?_, ?_, ?_, ?_, ?_, ?_, ?_, ?_, ?_, ?_, ?_, ?_, ?_⟩ <;> (dsimp only; decide +kernel)

/-- The premises of lockstepMismatchDoes, resyncCopyDoneDoes, resyncJoinDoneDoes, degradedTimeoutDoes, rotationStartDoes,
rotationTestDoneDoes, rotReqDoes are met. -/
theorem wit_lockstepCluster :
    (let c : Nat := 1
    let s : State := planState
    let again := s.bw.ls.joined.any fun j => decide (j.1 = c) && decide (s.now < j.2 + 8000000)
    s.sv.hold = false ∧ s.computeRuns = true ∧ s.lsForm = 0 ∧ c < 3 ∧ again = false)
    ∧ (let c : Nat := 1
    let s : State := planState.setLock { planState.bw.ls with joined := some (1, 99000000) }
    let again := s.bw.ls.joined.any fun j => decide (j.1 = c) && decide (s.now < j.2 + 8000000)
    s.sv.hold = false ∧ s.computeRuns = true ∧ s.lsForm = 0 ∧ c < 3 ∧ again = true)
    ∧ (let s : State := lsState .copy
    s.sv.hold = false ∧ s.computeRuns = true ∧ s.lsForm ≠ 0)
    ∧ (let c : Nat := 1
    let s : State := lsState .copy
    s.bw.ls.out = some (c, .copy))
    ∧ (let c : Nat := 1
    let s : State := lsState .join
    s.bw.ls.out ≠ some (c, .copy) ∧ c = (s.bw.ls.out.getD (0, .test)).1)
    ∧ (let c : Nat := 1
    let s : State := lsState .join
    s.bw.ls.out = some (c, .join))
    ∧ (let x : Nat := 99900000
    let s : State := lsState .copy
    s.bw.ls.pairSince = some x ∧ s.now < x + s.regF .lks 0x4C 0 27 * 8000000)
    ∧ (let x : Nat := 91000000
    let s : State := ((lsState .copy).setReg .lks 0x4C 1).setLock { (lsState .copy).bw.ls with pairSince := some 91000000 }
    s.bw.ls.pairSince = some x ∧ s.fuses.cores = 3 ∧ x + s.regF .lks 0x4C 0 27 * 8000000 ≤ s.now)
    ∧ (let s : State := { planState.setReg .lks 0x50 0x101 with now := 9000000000 }
    let due := s.bw.ls.rotLast + fld (s.reg .lks 0x50) 8 16 * 8000000000
    s.bw.ls.rotNext < 3 ∧ s.fuses.cores = 3 ∧ bit (s.reg .lks 0x50) 0 = true ∧ s.lsForm = 0 ∧ due ≤ s.now)
    ∧ (let s : State := planState
    let due := s.bw.ls.rotLast + fld (s.reg .lks 0x50) 8 16 * 8000000000
    s.bw.ls.rotNext < 3 ∧ (bit (s.reg .lks 0x50) 0 = false ∨ s.lsForm ≠ 0 ∨ s.now < due))
    ∧ (let c : Nat := 1
    let s : State := lsState .test
    s.bw.ls.out = some (c, .test))
    ∧ (let m : Master := .headland
    let s : State := planState
    s.accepts (put32 m .lks 0x54 1) ∧ s.bw.ls.rotNext < 3) := by
  refine ⟨?_, ?_, ?_, ?_, ?_, ?_, ?_, ?_, ?_, ?_, ?_, ?_⟩ <;> (dsimp only; decide +kernel)

/-- The premises of planKeyDoes, planMemoryWriteDoes, planHeaderWriteDoes, planCommitGoDoes, planCommitAbortDoes,
planValidationDoneDoes, planSequenceTimeoutDoes, planRefreshDoes, planStaleDoes, planScrubDoes, validUntilReadDoes,
speedSourceSampleDoes, speedLostDoes are met. -/
theorem wit_slackPlan :
    (let v : Nat := 0xA5C3
    let s : State := planState
    s.bw.key1 = false ∧ v = 0xA5C3 ∧ s.accepts (put32 .headland .slk 0x40 v))
    ∧ (let v : Nat := 0x3C5A
    let s : State := planState.setBw { planState.bw with key1 := true }
    s.bw.key1 = true ∧ v = 0x3C5A ∧ s.accepts (put32 .headland .slk 0x40 v))
    ∧ (let v : Nat := 0xA5C3
    let s : State := planState.setBw { planState.bw with key1 := true }
    s.bw.key1 = true ∧ s.sends .headland = true ∧ (s.accWrite (put32 .headland .slk 0x40 v)).1 = .sequence ∧ s.guardFault
      .headland .store (Page.base .slk + 0x40) 4 = none)
    ∧ (let m : Master := .headland
    let off : Nat := 0x80020
    let size : Nat := 4
    let v : Nat := 0x12345678
    let s : State := planAt 9
    off < 0x100000 ∧ s.accepts ⟨m, 0x70000000 + off, size, v, true⟩)
    ∧ (let m : Master := .headland
    let c : Nat := 1
    let p : Nat := 3
    let word : Nat := 0
    let v : Nat := 0x12340005
    let s : State := planAt 9
    c < 2 ∧ p < 8 ∧ word < 3 ∧ s.accepts (put32 m .slk (hdrOff c p + 4 * word) v))
    ∧ (let m : Master := .headland
    let prof : Nat := 2
    let s : State := planAt 9
    s.accepts (put32 m .slk 0x44 (prof % 8 + 8)))
    ∧ (let m : Master := .headland
    let s : State := planAt 9
    s.accepts (put32 m .slk 0x44 16))
    ∧ (let code : Nat := 0
    let i : Nat := 0
    let p : Nat := 0
    let s : State := (planAt 0x40A).setBw { planState.bw with staged := 7 }
    let c := 1 - s.planActive
    let k := s.now / 40 * 40
    let taken := bit (s.reg .bwCtl 0x58) 9 && decide (s.regF .bwCtl 0x58 6 3 = 5) && decide (s.reg64 .bwCtl 0x5C = k)
    s.planValidating = true ∧ s.planValidate c s.bw.staged = (code, i, p) ∧ i < 4096 ∧ p < 8 ∧ s.bw.staged < 8 ∧ code = 0 ∧
      taken = false)
    ∧ (let code : Nat := 0
    let i : Nat := 0
    let p : Nat := 0
    let s : State := (((planAt 0x40A).setReg .bwCtl 0x58 0x340).setReg64 .bwCtl 0x5C 100000000)
    let c := 1 - s.planActive
    let k := s.now / 40 * 40
    let taken := bit (s.reg .bwCtl 0x58) 9 && decide (s.regF .bwCtl 0x58 6 3 = 5) && decide (s.reg64 .bwCtl 0x5C = k)
    s.planValidating = true ∧ s.planValidate c s.bw.staged = (code, i, p) ∧ i < 4096 ∧ p < 8 ∧ s.bw.staged < 8 ∧ code = 0 ∧
      taken = true)
    ∧ (let code : Nat := 3
    let i : Nat := 1
    let p : Nat := 0
    let s : State := (planAt 0x40A).setMem 0x7008001E 2 0
    let c := 1 - s.planActive
    s.planValidating = true ∧ s.planValidate c s.bw.staged = (code, i, p) ∧ i < 4096 ∧ p < 8 ∧ s.bw.staged < 8 ∧ code ≠ 0)
    ∧ (let x : Nat := 90000000
    let s : State := (planAt 9).setBw { planState.bw with openAt := some 90000000 }
    s.bw.openAt = some x ∧ s.now < x + 800000000)
    ∧ (let x : Nat := 90000000
    let s : State := { planAt 9 with now := 890000000 }.setBw { planState.bw with openAt := some 90000000 }
    s.bw.openAt = some x ∧ x + 800000000 ≤ s.now)
    ∧ (let m : Master := .headland
    let s : State := planState
    s.accepts (put32 m .slk 0x48 1))
    ∧ (let s : State := { planState with now := 200000000 }
    s.planCommitted = true ∧ s.validUntil ≤ s.now ∧ bit (s.reg .slk 0x4C) 4 = false)
    ∧ (let s : State := planState
    (s.planCommitted = false ∨ s.now < s.validUntil))
    ∧ (let errs : List Nat := []
    let s : State := planState
    let c := s.planActive
    let bad := fun (p : Nat) => errs.contains p || !s.hdrCrcOk c p || (s.planEntries c p).any fun e => !e.crcOk
    let all := (List.range 8).any bad
    s.planCommitted = true ∧ all = false)
    ∧ (let errs : List Nat := [3]
    let s : State := planState.setMem 0x7000001E 2 0
    let c := s.planActive
    let bad := fun (p : Nat) => errs.contains p || !s.hdrCrcOk c p || (s.planEntries c p).any fun e => !e.crcOk
    let all := (List.range 8).any bad
    s.planCommitted = true ∧ all = true)
    ∧ (let m : Master := .headland
    let wide : Bool := false
    let s : State := planState
    s.serves (readOf m .slk (0x54) wide))
    ∧ (let id : Nat := 0
    let x : Sample := ⟨99992000, 500⟩
    let s : State := { planState with src := [(0, ⟨99992000, 500⟩)] }
    let e := s.bw.spd
    let dup := e.hist.head?.any fun y => decide (y.inst = x.inst)
    id = s.regF .slk 0x64 0 16 ∧ tabGet? s.src id = some x ∧ (id = 0 ∨ dup = true))
    ∧ (let id : Nat := 0x2002
    let x : Sample := ⟨99992000, 500⟩
    let s : State := spdState [⟨99984000, 490⟩] 7 500
    let e := s.bw.spd
    let dup := e.hist.head?.any fun y => decide (y.inst = x.inst)
    id = s.regF .slk 0x64 0 16 ∧ tabGet? s.src id = some x ∧ id ≠ 0 ∧ dup = false)
    ∧ (let s : State := (planState.setReg .slk 0x64 0x2002).setBw { planState.bw with spd := ⟨[], 0, none, 99968000, false⟩ }
    let gone := decide (s.regF .slk 0x64 0 16 ≠ 0) && !s.bw.spd.lost && decide (s.bw.spd.last + 32000 ≤ s.now)
    gone = true)
    ∧ (let s : State := planState
    let gone := decide (s.regF .slk 0x64 0 16 ≠ 0) && !s.bw.spd.lost && decide (s.bw.spd.last + 32000 ≤ s.now)
    gone = false) := by
  refine ⟨?_, ?_, ?_, ?_, ?_, ?_, ?_, ?_, ?_, ?_, ?_, ?_, ?_, ?_, ?_, ?_, ?_, ?_, ?_, ?_, ?_, ?_⟩ <;> (dsimp only; decide +kernel)

/-- The premises of slackReqDoes, slackRelDoes, preemptionDoes, slackEntryDeliveryDoes, slackDoneDoes, monitorExcursionDoes,
clockExcursion, temperatureExcursion, memoryScrubDoes are met. -/
theorem wit_stopsAndMonitors :
    (let m : Master := .headland
    let v : Nat := 7
    let s : State := { planState with fab := { planState.fab with keys := [(Page.base .bwCtl, KeySeq.opened 1 100000000)] } }
    s.accepts (put32 m .bwCtl 0x44 v))
    ∧ (let m : Master := .headland
    let s : State := (playState true).setBwState 2
    s.accepts (put32 m .bwCtl 0x48 1))
    ∧ (let y : Play := ⟨99992000, false, 0, 0, false, 100000000, 20000000, [], true⟩
    let s : State :=
      { playState false with tqf := { queueState.tqf with pool := [(7, ⟨5, .act, 200000000, 3, 0x8012, 0x1234, 0, false, false, false⟩)] } }
    s.bw.play = some y ∧ y.begun = false ∧ y.p ≤ s.now ∧ s.preempted = false ∧ y.p < 2 ^ 64 ∧ y.prof < 8)
    ∧ (let y : Play := ⟨99992000, true, 0, 0, false, 100000000, 20000000, [], true⟩
    let s : State := playState true
    s.bw.play = some y ∧ (y.begun = true ∨ s.now < y.p))
    ∧ (let i : Nat := 0
    let y : Play := ⟨99992000, true, 0, 0, false, 100000000, 20000000, [], true⟩
    let port : Nat := 0
    let s : State := playState true
    let e := s.planEntry y.copy y.prof i
    let x := y.z + e.offset y.scale (s.vRef y.copy y.prof)
    s.bw.play = some y ∧ e.port = some port ∧ y.begun = true ∧ i < s.nent y.copy y.prof ∧ y.handed.contains i = false ∧ x ≤
      s.now + s.handoffLead port ∧ port < 448)
    ∧ (let i : Nat := 1
    let y : Play := ⟨99992000, true, 0, 0, false, 100000000, 20000000, [], true⟩
    let port : Nat := 0
    let s : State := playState true
    let e := s.planEntry y.copy y.prof i
    let x := y.z + e.offset y.scale (s.vRef y.copy y.prof)
    s.bw.play = some y ∧ e.port = some port ∧ y.begun = true ∧ i < s.nent y.copy y.prof ∧ y.handed.contains i = false ∧ s.now +
      s.handoffLead port < x)
    ∧ (let i : Nat := 0
    let y : Play := ⟨99992000, true, 0, 0, false, 100000000, 20000000, [], true⟩
    let port : Nat := 448
    let s : State := planPut (playState true) 0 0 0 0 1 0x8018
    let e := s.planEntry y.copy y.prof i
    let x := y.z + e.offset y.scale (s.vRef y.copy y.prof)
    s.bw.play = some y ∧ e.port = some port ∧ y.begun = true ∧ i < s.nent y.copy y.prof ∧ y.handed.contains i = false ∧ x ≤
      s.now + s.handoffLead port ∧ 448 ≤ port ∧ s.chanValid port e.chan = false)
    ∧ (let i : Nat := 0
    let y : Play := ⟨99992000, true, 0, 0, false, 100000000, 20000000, [], true⟩
    let port : Nat := 448
    let s : State := (planPut (playState true) 0 0 0 0 1 0x8018).setReg (.t1s 0) 0x830 0x80010005
    let e := s.planEntry y.copy y.prof i
    let x := y.z + e.offset y.scale (s.vRef y.copy y.prof)
    s.bw.play = some y ∧ e.port = some port ∧ y.begun = true ∧ i < s.nent y.copy y.prof ∧ y.handed.contains i = false ∧ x ≤
      s.now + s.handoffLead port ∧ 448 ≤ port ∧ s.chanValid port e.chan = true)
    ∧ (let y : Play := ⟨99992000, true, 0, 0, false, 100000000, 20000000, [0, 1], true⟩
    let s : State := playEnd
    let n := s.nent y.copy y.prof
    let ends := y.begun && !bit (s.reg .slk 0x7C) 14 && decide (y.handed.length = n) && (List.range n).all (fun i => decide
      (s.slackInstant y i ≤ s.now)) && decide (y.z ≤ s.now)
    s.bw.play = some y ∧ ends = true)
    ∧ (let y : Play := ⟨99992000, true, 0, 0, false, 100000000, 20000000, [], true⟩
    let s : State := playState true
    let n := s.nent y.copy y.prof
    let ends := y.begun && !bit (s.reg .slk 0x7C) 14 && decide (y.handed.length = n) && (List.range n).all (fun i => decide
      (s.slackInstant y i ≤ s.now)) && decide (y.z ≤ s.now)
    s.bw.play = some y ∧ ends = false)
    ∧ (let k : Nat := 0
    let v33 : Bool := false
    let mV : Int := 700
    let s : State := planState
    let out := s.railOut k v33 mV
    k < 10 ∧ s.bwRuns = true ∧ (k ≠ 8 ∨ mV ≤ 60000) ∧ out = true)
    ∧ (let k : Nat := 0
    let v33 : Bool := false
    let mV : Int := 750
    let s : State := planState
    let out := s.railOut k v33 mV
    k < 10 ∧ s.bwRuns = true ∧ (k ≠ 8 ∨ mV ≤ 60000) ∧ out = false)
    ∧ (let k : Nat := 8
    let mV : Int := 60001
    let s : State := planState
    k < 10 ∧ s.bwRuns = true ∧ k = 8 ∧ 60000 < mV)
    ∧ (let src : Nat := 0x29
    let s : State := planState
    0x27 ≤ src ∧ src ≤ 0x2D ∧ s.bwRuns = true)
    ∧ (let i : Nat := 2
    let x : Int := 121
    let s : State := planState
    i < 10 ∧ -128 ≤ x ∧ x < 128 ∧ s.bwRuns = true)
    ∧ (let k : MemKind := .tcm 1
    let s : State := (planState.setReg .bwMon 0x40 1).setBw { planState.bw with ce := [(1, (0, 1))] }
    let id := (memFacts k).1
    let ce := (memFacts k).2.1
    let sec := s.now / 8000000000
    let old := tabGet (sec, 0) s.bw.ce id
    let n := if old.1 = sec then old.2 + 1 else 1
    n = s.regF .bwMon 0x40 0 16 + 1) := by
  refine ⟨?_, ?_, ?_, ?_, ?_, ?_, ?_, ?_, ?_, ?_, ?_, ?_, ?_, ?_, ?_, ?_⟩ <;> (dsimp only; decide +kernel)

/-- The premises of recClrDoes, isoRelDoes, fcClrDoes, fcInjectDoes, fcFirstReadDoes, faultLatchDoes, slackStopBegins,
faultsTogether are met. -/
theorem wit_faultCollection :
    (let m : Master := .headland
    let s : State := (planState.setReg .bwCtl 0x58 0x340).setReg64 .bwCtl 0x5C 123456789012
    s.accepts (put32 m .bwCtl 0x68 1))
    ∧ (let m : Master := .headland
    let src : Nat := 0x29
    let s : State := (planState.setReg .bwCtl 0x74 0x300).setBw { planState.bw with iso := [(0x29, 5), (0x3F, 6)] }
    src < 64 ∧ s.accepts (put32 m .bwCtl 0x78 src))
    ∧ (let m : Master := .headland
    let s : State := (planState.setReg .bwFc 0x48 0x45).setReg .bwFc 0x814 7
    s.accepts (put32 m .bwFc 0x54 1))
    ∧ (let m : Master := .headland
    let src : Nat := 0x21
    let s : State := planState
    s.accepts (put32 m .bwFc 0x58 src))
    ∧ (let m : Master := .headland
    let wide : Bool := false
    let s : State := planState.setReg64 .bwFc 0x4C 0x1234567890
    s.serves (readOf m .bwFc (0x4C) wide))
    ∧ (let src : Nat := 0x3E
    let unit : Nat := 0
    let s : State := (planState.setReg .bwMap (0x800 + 4 * 0x3E) 0)
    let cls := s.reactClass false src unit
    s.bwRuns = true ∧ s.raised = [] ∧ src < 64 ∧ neverRaised s.fuses src = false ∧ s.supply.loss = none ∧ s.bw.dev = none ∧
      s.now < 2 ^ 64 ∧ cls = 0)
    ∧ (let src : Nat := 0x08
    let unit : Nat := 0
    let s : State := (planState.setReg .bwMap (0x800 + 4 * 0x08) 1)
    let cls := s.reactClass false src unit
    s.bwRuns = true ∧ s.raised = [] ∧ src < 64 ∧ neverRaised s.fuses src = false ∧ s.supply.loss = none ∧ s.bw.dev = none ∧
      s.now < 2 ^ 64 ∧ (cls = 1 ∨ cls = 2 ∨ (cls = 4 ∧ (s.lsForm ≠ 0 ∨ src ≠ 9)) ∨ (cls = 5 ∧ (s.bwState = 1 ∨ s.bwState = 2))))
    ∧ (let src : Nat := 0x3F
    let unit : Nat := Page.base .dmac
    let s : State := (planState.setReg .bwMap (0x800 + 4 * 0x3F) 3)
    let cls := s.reactClass false src unit
    s.bwRuns = true ∧ s.raised = [] ∧ src < 64 ∧ neverRaised s.fuses src = false ∧ s.supply.loss = none ∧ s.bw.dev = none ∧
      s.now < 2 ^ 64 ∧ cls = 3)
    ∧ (let src : Nat := 9
    let unit : Nat := 4
    let s : State := (planState.setReg .bwMap (0x800 + 4 * 9) 4)
    let cls := s.reactClass false src unit
    s.bwRuns = true ∧ s.raised = [] ∧ src < 64 ∧ neverRaised s.fuses src = false ∧ s.supply.loss = none ∧ s.bw.dev = none ∧
      s.now < 2 ^ 64 ∧ cls = 4 ∧ s.lsForm = 0 ∧ src = 9)
    ∧ (let src : Nat := 0x33
    let unit : Nat := 0
    let s : State := (planState.setReg .bwMap (0x800 + 4 * 0x33) 6)
    let cls := s.reactClass false src unit
    s.bwRuns = true ∧ s.raised = [] ∧ src < 64 ∧ neverRaised s.fuses src = false ∧ s.supply.loss = none ∧ s.bw.dev = none ∧
      s.now < 2 ^ 64 ∧ 6 ≤ cls)
    ∧ (let src : Nat := 0x26
    let unit : Nat := 0
    let prof : Nat := 0
    let s : State := (planState.setReg .bwMap (0x800 + 4 * 0x26) 0x205)
    let tf := s.now / 40 * 40
    let c := s.planActive
    let bad := fun (k : Nat) => bit (s.reg .slk 0x4C) (5 + k)
    let want := if src = 0x26 then s.regF .bwCtl 0x44 1 4 else fld (s.mapOf src) 6 4
    let unfit := decide (s.validUntil ≤ tf) || bad prof || decide (s.nent c prof = 0)
    s.bwRuns = true ∧ s.raised = [] ∧ src < 64 ∧ neverRaised s.fuses src = false ∧ s.supply.loss = none ∧ s.bw.dev = none ∧
      s.bwState = 0 ∧ s.reactClass false src unit = 5 ∧ prof = (if want = 8 then s.regF .slk 0x4C 17 3 else want) ∧
      s.planCommitted = true ∧ unfit = false)
    ∧ (let src : Nat := 0x26
    let unit : Nat := 0
    let prof : Nat := 0
    let s : State := { (planState.setReg .bwMap (0x800 + 4 * 0x26) 0x205) with now := 250000000 }
    let tf := s.now / 40 * 40
    let c := s.planActive
    let bad := fun (k : Nat) => bit (s.reg .slk 0x4C) (5 + k)
    let fb := s.regF .slk 0x60 0 3
    let want := if src = 0x26 then s.regF .bwCtl 0x44 1 4 else fld (s.mapOf src) 6 4
    let unfit := decide (s.validUntil ≤ tf) || bad prof || decide (s.nent c prof = 0)
    s.bwRuns = true ∧ s.raised = [] ∧ src < 64 ∧ neverRaised s.fuses src = false ∧ s.supply.loss = none ∧ s.bw.dev = none ∧
      s.bwState = 0 ∧ s.reactClass false src unit = 5 ∧ prof = (if want = 8 then s.regF .slk 0x4C 17 3 else want) ∧
      s.planCommitted = true ∧ unfit = true ∧ bad fb = false)
    ∧ (let src : Nat := 0x26
    let unit : Nat := 0
    let prof : Nat := 0
    let s : State := ((planState.setReg .bwMap (0x800 + 4 * 0x26) 0x205)).setReg .slk 0x4C 0
    let tf := s.now / 40 * 40
    let c := s.planActive
    let bad := fun (k : Nat) => bit (s.reg .slk 0x4C) (5 + k)
    let fb := s.regF .slk 0x60 0 3
    let want := if src = 0x26 then s.regF .bwCtl 0x44 1 4 else fld (s.mapOf src) 6 4
    let unfit := decide (s.validUntil ≤ tf) || bad prof || decide (s.nent c prof = 0)
    s.bwRuns = true ∧ s.raised = [] ∧ src < 64 ∧ neverRaised s.fuses src = false ∧ s.supply.loss = none ∧ s.bw.dev = none ∧
      s.bwState = 0 ∧ s.reactClass false src unit = 5 ∧ prof = (if want = 8 then s.regF .slk 0x4C 17 3 else want) ∧
      (s.planCommitted = false ∨ (unfit = true ∧ bad fb = true)))
    ∧ (let hits : List (Nat × Nat) := [(0x33, 0), (0x08, 0), (0x3E, 0)]
    let src : Nat := 0x08
    let unit : Nat := 0
    let s : State := (planState.setReg .bwMap (0x800 + 4 * 0x33) 6)
    s.bwRuns = true ∧ s.raised = [] ∧ ((∀ x ∈ hits, x.1 < 64 ∧ neverRaised s.fuses x.1 = false)) ∧ hits ≠ [] ∧ s.supply.loss =
      none ∧ s.bw.dev = none ∧ lowestSource hits = some (src, unit)) := by
  refine ⟨?_, ?_, ?_, ?_, ?_, ?_, ?_, ?_, ?_, ?_, ?_, ?_, ?_, ?_⟩ <;> (dsimp only; decide +kernel)

/-- The premises of domainStartedDoes, domainPoweredDownDoes, powerStateChangeDoneDoes, sramEnableWriteDoes, dormantGoDoes,
dormantEnteredDoes, wakeTimerExpiryDoes, wakePinDoes, hostWakeDoes, legalEncoderEdgeDoes are met. -/
theorem wit_domainsAndDormant :
    (let d : Nat := 20
    let s : State := { useState with domains := [(20, .starting)] }
    s.domain d = .starting)
    ∧ (let d : Nat := 20
    let s : State := useState
    s.domain d ≠ .starting)
    ∧ (let d : Nat := 17
    let a : Bool := true
    let s : State := ({ useState with domains := [(17, .stopping true)] }.setMem 0x20200000 4 7)
    d < 100 ∧ s.domain d = .stopping a)
    ∧ (let d : Nat := 20
    let s : State := useState
    d < 100 ∧ (s.domain d = .on ∨ s.domain d = .off ∨ s.domain d = .starting ∨ s.domain d = .keptOff))
    ∧ (let up : Bool := true
    let s : State := powState (.changing true)
    s.power = .changing up)
    ∧ (let s : State := useState
    (s.power = .spring ∨ s.power = .neap))
    ∧ (let m : Master := .headland
    let v : Nat := 0xB
    let s : State := { useState with domains := (17, .off) :: useState.domains }
    s.accepts (put32 m .pwr 0x40 v))
    ∧ (let m : Master := .headland
    let s : State := restState 9
    s.accepts (put32 m .pwr 0x44 1))
    ∧ (let a : Nat := 99000000
    let c0 : Int := 100
    let c1 : Int := 0
    let s : State := sleepState 9 (.entering 99000000 100 0)
    s.dormant = .entering a c0 c1)
    ∧ (let s : State := sleepState 15 (.asleep 99000000 [] 100 0)
    s.isAsleep = true ∧ bit (s.reg .lee 0x40) 0 = true)
    ∧ (let s : State := sleepState 15 (.entering 99000000 100 0)
    let entering := match s.dormant with | .entering _ _ _ => true | _ => false
    entering = true)
    ∧ (let s : State := sleepState 14 (.asleep 99000000 [] 100 0)
    (bit (s.reg .lee 0x40) 0 = false ∨ s.dormant = .awake))
    ∧ (let s : State := sleepState 15 (.asleep 99000000 [] 100 0)
    s.isAsleep = true ∧ bit (s.reg .lee 0x40) 2 = true)
    ∧ (let s : State := sleepState 15 (.entering 99000000 100 0)
    let entering := match s.dormant with | .entering _ _ _ => true | _ => false
    entering = true ∧ bit (s.reg .lee 0x40) 2 = true)
    ∧ (let s : State := sleepState 11 (.asleep 99000000 [] 100 0)
    (bit (s.reg .lee 0x40) 2 = false ∨ s.dormant = .awake))
    ∧ (let s : State := sleepState 15 (.asleep 99000000 [] 100 0)
    s.isAsleep = true ∧ bit (s.reg .lee 0x40) 3 = true)
    ∧ (let s : State := sleepState 15 (.entering 99000000 100 0)
    let entering := match s.dormant with | .entering _ _ _ => true | _ => false
    entering = true ∧ bit (s.reg .lee 0x40) 3 = true)
    ∧ (let s : State := sleepState 7 (.asleep 99000000 [] 100 0)
    (bit (s.reg .lee 0x40) 3 = false ∨ s.dormant = .awake))
    ∧ (let a : Bool := false
    let b : Bool := false
    let s : State := tmState
    let x := s.tm.w0
    s.fuses.tidemark = true ∧ s.tm.run = true ∧ s.tm.stopped = false ∧ -2 ^ 63 < x.count ∧ x.count < 2 ^ 63 - 1 ∧
      ((x.lastA.getD 0 ≤ s.fieldNow ∧ x.lastB.getD 0 ≤ s.fieldNow)) ∧ a = x.a ∧ b = x.b ∧ s.dormant = .awake)
    ∧ (let a : Bool := true
    let b : Bool := true
    let s : State := tmState
    let x := s.tm.w0
    s.fuses.tidemark = true ∧ s.tm.run = true ∧ s.tm.stopped = false ∧ -2 ^ 63 < x.count ∧ x.count < 2 ^ 63 - 1 ∧
      ((x.lastA.getD 0 ≤ s.fieldNow ∧ x.lastB.getD 0 ≤ s.fieldNow)) ∧ a ≠ x.a ∧ b ≠ x.b ∧ s.dormant = .awake)
    ∧ (let a : Bool := true
    let b : Bool := false
    let s : State := tmState
    let x := s.tm.w0
    let near := fun (o : Option Nat) => o.any fun j => decide (s.fieldNow < j + 160)
    s.fuses.tidemark = true ∧ s.tm.run = true ∧ s.tm.stopped = false ∧ -2 ^ 63 < x.count ∧ x.count < 2 ^ 63 - 1 ∧
      ((x.lastA.getD 0 ≤ s.fieldNow ∧ x.lastB.getD 0 ≤ s.fieldNow)) ∧ (((a ≠ x.a ∧ b = x.b ∧ near x.lastB = false) ∨ (a = x.a ∧
      b ≠ x.b ∧ near x.lastA = false))) ∧ s.dormant = .awake)
    ∧ (let a : Bool := true
    let b : Bool := false
    let d : Nat := 99000000
    let h : List (Nat × Nat) := []
    let s : State :=
      { sleepState 15 (.asleep 99000000 [] 97 0) with tm := { tmState.tm with w0 := { tmState.tm.w0 with count := 100 } } }
    let x := s.tm.w0
    let ph := fun (a b : Bool) => if a then (if b then 2 else 1) else if b then (3 : Int) else 0
    let up := decide ((ph a b - ph x.a x.b) % 4 = 1) != s.tm.option 0
    let slept := decide (s.dormant = .asleep d h (x.count - (if up then 3 else -3)) s.tm.w1.count)
    let near := fun (o : Option Nat) => o.any fun j => decide (s.fieldNow < j + 160)
    s.fuses.tidemark = true ∧ s.tm.run = true ∧ s.tm.stopped = false ∧ -2 ^ 63 < x.count ∧ x.count < 2 ^ 63 - 1 ∧
      ((x.lastA.getD 0 ≤ s.fieldNow ∧ x.lastB.getD 0 ≤ s.fieldNow)) ∧ a ≠ x.a ∧ b = x.b ∧ near x.lastB = false ∧ slept = true ∧
      bit (s.reg .lee 0x40) 1 = true) := by
  refine ⟨?_, ?_, ?_, ?_, ?_, ?_, ?_, ?_, ?_, ?_, ?_, ?_, ?_, ?_, ?_, ?_, ?_, ?_, ?_, ?_, ?_, ?_⟩ <;> (dsimp only; decide +kernel)

/-- The premises of powerOnDoes, deviceResetDoes, applicationResetDoes, debugResetDoes, resetPinDoes, railFailureDoes,
railRetryDoes, supplyLossDoes, supplyReturnDoes, breakwaterBrownoutDoes, leeBrownoutDoes are met. -/
theorem wit_resetCommands :
    (let s : State := supState ⟨false, none, false, true, false, 0, 0, false⟩
    (s.supply.off = true ∨ s.boot.running = false))
    ∧ (let s : State := useState
    s.supply.off = false ∧ s.boot.running = true)
    ∧ (let tf : Nat := 99900000
    let cls : Nat := 7
    let src : Nat := 0x33
    let s : State := useState.setBw { useState.bw with dev := some (99900000, 7, 0x33) }
    s.bw.dev = some (tf, cls, src) ∧ src < 64 ∧ tf + 16000 ≤ s.now)
    ∧ (let tf : Nat := 99990000
    let cls : Nat := 6
    let src : Nat := 0x33
    let s : State := useState.setBw { useState.bw with dev := some (99990000, 6, 0x33) }
    s.bw.dev = some (tf, cls, src) ∧ src < 64 ∧ s.now < tf + 16000)
    ∧ (let y : Play := ⟨99800000, true, 0, 0, false, 100000000, 20000000, [], true⟩
    let s : State := useState.setBw
      { useState.bw with play := some ⟨99800000, true, 0, 0, false, 100000000, 20000000, [], true⟩ }
    s.bw.play = some y ∧ y.resetDue = true ∧ y.p + 192000 ≤ s.now)
    ∧ (let y : Play := ⟨99992000, true, 0, 0, false, 100000000, 20000000, [], true⟩
    let s : State := useState.setBw
      { useState.bw with play := some ⟨99992000, true, 0, 0, false, 100000000, 20000000, [], true⟩ }
    s.bw.play = some y ∧ (y.resetDue = false ∨ s.now < y.p + 192000))
    ∧ (let s : State := useState
    s.fuses.lifeCycle ≠ .field ∧ s.computeRuns = true)
    ∧ (let s : State := { useState with fuses := { useState.fuses with lifeCycle := .field } }
    (s.fuses.lifeCycle = .field ∨ s.computeRuns = false))
    ∧ (let s : State := useState
    s.supply.off = false ∧ s.supply.railDead = false)
    ∧ (let s : State := supState ⟨false, none, false, true, false, 0, 0, false⟩
    (s.supply.off = true ∨ s.supply.railDead = true))
    ∧ (let s : State := useState
    let runs := s.supply.rails && !s.supply.off && !s.bw.lossLatched && !s.isAsleep
    runs = true)
    ∧ (let s : State := useState.setBw { useState.bw with lossLatched := true }
    let runs := s.supply.rails && !s.supply.off && !s.bw.lossLatched && !s.isAsleep
    runs = false)
    ∧ (let s : State := supState ⟨true, none, false, false, false, 1, 0, false⟩
    let tries := !s.supply.rails && !s.supply.railDead && !s.supply.off && s.supply.loss.isNone
    tries = true)
    ∧ (let s : State := useState
    let tries := !s.supply.rails && !s.supply.railDead && !s.supply.off && s.supply.loss.isNone
    tries = false)
    ∧ (let s : State := useState
    s.supply.off = false ∧ s.supply.loss = none ∧ s.dormant = .awake)
    ∧ (let s : State := supState ⟨false, some 5, false, false, true, 0, 0, false⟩
    (s.supply.off = true ∨ s.supply.loss ≠ none))
    ∧ (let s : State := supState ⟨false, some 5, false, false, true, 0, 0, false⟩
    s.supply.off = false ∧ s.supply.loss.isSome = true ∧ s.supply.brown = false ∧ s.supply.rails = true)
    ∧ (let f : StartFacts := facts
    let s : State := supState ⟨false, some 5, false, false, false, 0, 0, false⟩
    s.supply.off = false ∧ s.supply.loss.isSome = true ∧ s.supply.brown = false ∧ s.supply.rails = false ∧ s.isAsleep = false ∧
      s.supply.railDead = false ∧ f.rails = true)
    ∧ (let s : State := supState ⟨false, some 5, true, false, true, 0, 0, false⟩
    s.supply.off = false ∧ s.supply.loss.isSome = true ∧ s.supply.brown = true)
    ∧ (let s : State := supState ⟨false, some 5, false, false, true, 0, 0, false⟩
    let falls := !s.supply.off && s.supply.loss.isSome
    falls = true)
    ∧ (let s : State := useState
    let falls := !s.supply.off && s.supply.loss.isSome
    falls = false)
    ∧ (let s : State := supState ⟨false, some 5, false, false, true, 0, 0, false⟩
    let falls := !s.supply.off && s.supply.loss.isSome
    falls = true)
    ∧ (let s : State := useState
    let falls := !s.supply.off && s.supply.loss.isSome
    falls = false) := by
  refine ⟨?_, ?_, ?_, ?_, ?_, ?_, ?_, ?_, ?_, ?_, ?_, ?_, ?_, ?_, ?_, ?_, ?_, ?_, ?_, ?_, ?_, ?_, ?_⟩ <;> (dsimp only; decide +kernel)

/-- The premises of hrpRead32Does, hrpWrite32Does, hrpRead64Does, hrpWrite64Does, hrpRmw32Does, hrpBurstReadDoes,
hrpBurstWriteDoes, hrpStatusDoes, hrpFrameAbortDoes, hrpClrDoes, bootGoDoes are met. -/
theorem wit_hostPort :
    (let a : Nat := 0x20000010
    let r : Reason := .none
    let v : Nat := (hrpState.accRead ⟨.host, 0x20000010, 4, 0, true⟩).2.1
    let u : State := (hrpState.accRead ⟨.host, 0x20000010, 4, 0, true⟩).2.2
    let s : State := hrpState
    s.hrpRuns = true ∧ s.guardFault .host .load a 4 = none ∧ s.accRead ⟨.host, a, 4, 0, true⟩ = (r, v, u))
    ∧ (let s : State := { hrpState with boot := { hrpState.boot with running := false } }
    s.hrpRuns = false)
    ∧ (let a : Nat := 0x20000010
    let v : Nat := 0x1234
    let u : State := hrpState.busWrite ⟨.host, 0x20000010, 4, 0x1234, true⟩
    let s : State := hrpState
    u = s.busWrite ⟨.host, a, 4, v, true⟩ ∧ s.hrpRuns = true)
    ∧ (let a : Nat := 0x20000010
    let v : Nat := 0x1234
    let u : State := { hrpState with boot := { hrpState.boot with running := false } }.busWrite ⟨.host, 0x20000010, 4, 0x1234,
      true⟩
    let s : State := { hrpState with boot := { hrpState.boot with running := false } }
    u = s.busWrite ⟨.host, a, 4, v, true⟩ ∧ s.hrpRuns = false)
    ∧ (let a : Nat := 0x20000010
    let r : Reason := .none
    let v : Nat := (hrpState.accRead ⟨.host, 0x20000010, 8, 0, true⟩).2.1
    let u : State := (hrpState.accRead ⟨.host, 0x20000010, 8, 0, true⟩).2.2
    let s : State := hrpState
    s.hrpRuns = true ∧ s.guardFault .host .load a 8 = none ∧ s.accRead ⟨.host, a, 8, 0, true⟩ = (r, v, u))
    ∧ (let s : State := { hrpState with boot := { hrpState.boot with running := false } }
    s.hrpRuns = false)
    ∧ (let a : Nat := 0x20000010
    let v : Nat := 0x1234
    let u : State := hrpState.busWrite ⟨.host, 0x20000010, 8, 0x1234, true⟩
    let s : State := hrpState
    u = s.busWrite ⟨.host, a, 8, v, true⟩ ∧ s.hrpRuns = true)
    ∧ (let a : Nat := 0x20000010
    let v : Nat := 0x1234
    let u : State := { hrpState with boot := { hrpState.boot with running := false } }.busWrite ⟨.host, 0x20000010, 8, 0x1234,
      true⟩
    let s : State := { hrpState with boot := { hrpState.boot with running := false } }
    u = s.busWrite ⟨.host, a, 8, v, true⟩ ∧ s.hrpRuns = false)
    ∧ (let a : Nat := 0x20000010
    let mask : Word := 0xFF00
    let v : Word := 0xABCD
    let u : State := hrpState.busWrite ⟨.host, 0x20000010, 4, 0x4433AB11, true⟩
    let s : State := hrpState
    let old := BitVec.ofNat 32 (s.accRead ⟨.host, a, 4, 0, true⟩).2.1
    u = s.busWrite ⟨.host, a, 4, ((old &&& ~~~mask) ||| (v &&& mask)).toNat, true⟩ ∧ s.hrpRuns = true)
    ∧ (let a : Nat := 0x20000010
    let mask : Word := 0xFF00
    let v : Word := 0xABCD
    let u : State := { hrpState with boot := { hrpState.boot with running := false } }.busWrite ⟨.host, 0x20000010, 4,
      0x4433AB11, true⟩
    let s : State := { hrpState with boot := { hrpState.boot with running := false } }
    let old := BitVec.ofNat 32 (s.accRead ⟨.host, a, 4, 0, true⟩).2.1
    u = s.busWrite ⟨.host, a, 4, ((old &&& ~~~mask) ||| (v &&& mask)).toNat, true⟩ ∧ s.hrpRuns = false)
    ∧ (let a : Nat := 0x20000010
    let n : Nat := 12
    let s : State := hrpState
    s.hrpRuns = true ∧ s.guardFault .host .load a n = none ∧ 0x20000000 ≤ a ∧ a + n ≤ 0x20200000 ∧ a % 4 = 0 ∧ 4 ≤ n ∧ n ≤ 256
      ∧ n % 4 = 0)
    ∧ (let n : Nat := 260
    let s : State := hrpState
    s.hrpRuns = true ∧ ((n < 4 ∨ 256 < n ∨ n % 4 ≠ 0)))
    ∧ (let a : Nat := 0x40000040
    let n : Nat := 8
    let s : State := hrpState
    s.hrpRuns = true ∧ s.guardFault .host .load a n = none ∧ a % 4 = 0 ∧ 4 ≤ n ∧ n ≤ 256 ∧ n % 4 = 0 ∧ 0x40000000 ≤ a ∧ a + n ≤
      0x40001000)
    ∧ (let s : State := { hrpState with boot := { hrpState.boot with running := false } }
    s.hrpRuns = false)
    ∧ (let a : Nat := 0x20000010
    let bs : List Nat := [1, 2, 3, 4, 5, 6, 7, 8]
    let s : State := hrpState
    let n := bs.length
    s.hrpRuns = true ∧ s.guardFault .host .store a n = none ∧ 0x20000000 ≤ a ∧ a + n ≤ 0x20200000 ∧ a % 4 = 0 ∧ 4 ≤ n ∧ n ≤ 256
      ∧ n % 4 = 0 ∧ bs.all (fun b => decide (b < 256)) = true)
    ∧ (let bs : List Nat := [1]
    let s : State := hrpState
    let n := bs.length
    s.hrpRuns = true ∧ ((n < 4 ∨ 256 < n ∨ n % 4 ≠ 0)))
    ∧ (let a : Nat := 0x40000040
    let bs : List Nat := [1, 2, 3, 4, 5, 6, 7, 8]
    let s : State := hrpState
    let n := bs.length
    s.hrpRuns = true ∧ s.guardFault .host .store a n = none ∧ a % 4 = 0 ∧ 4 ≤ n ∧ n ≤ 256 ∧ n % 4 = 0 ∧ 0x40000000 ≤ a ∧ a + n
      ≤ 0x40001000)
    ∧ (let s : State := { hrpState with boot := { hrpState.boot with running := false } }
    s.hrpRuns = false)
    ∧ (let s : State := hrpState
    s.hrpRuns = true)
    ∧ (let s : State := { hrpState with boot := { hrpState.boot with running := false } }
    s.hrpRuns = false)
    ∧ (let s : State := hrpState
    s.hrpRuns = true)
    ∧ (let s : State := { hrpState with boot := { hrpState.boot with running := false } }
    s.hrpRuns = false)
    ∧ (let m : Master := .headland
    let s : State := (planState.setReg .hrp 0x48 5).setReg .hrp 0x4C 6
    s.accepts (put32 m .hrp 0x54 1))
    ∧ (let m : Master := .headland
    let len : Nat := 9
    let s : State := waitState
    let bs := s.boot.stream
    s.accepts (put32 m .hrp 0x50 len) ∧ len < 2 ^ 24 ∧ bs.length ≠ len)
    ∧ (let m : Master := .headland
    let len : Nat := 4
    let s : State := waitState
    let bs := s.boot.stream
    let u := s.fabricWrite (put32 m .hrp 0x50 len)
    s.accepts (put32 m .hrp 0x50 len) ∧ len < 2 ^ 24 ∧ bs.length = len ∧ (u.bootTry bs true).result ≠ 0)
    ∧ (let m : Master := .headland
    let len : Nat := 336
    let s : State := streamState
    let bs := s.boot.stream
    let u := s.fabricWrite (put32 m .hrp 0x50 len)
    s.accepts (put32 m .hrp 0x50 len) ∧ len < 2 ^ 24 ∧ bs.length = len ∧ (u.bootTry bs true).result = 0) := by
  refine ⟨?_, ?_, ?_, ?_, ?_, ?_, ?_, ?_, ?_, ?_, ?_, ?_, ?_, ?_, ?_, ?_, ?_, ?_, ?_, ?_, ?_, ?_, ?_, ?_, ?_, ?_⟩ <;> (dsimp only; decide +kernel)

/-- The premises of bistSramMarchDoes, bistTrackerMarchDoes, bistTqfMarchDoes, bistSwellEngineDoes, bistSurfGroupDoes,
bistGheryQuadDoes, bistDomainStartupDoes, bistSequenceDoneDoes, registerScrubDoes, lcReqDoes, rbAdvanceDoes, keyRevokeSetDoes
are met. -/
theorem wit_selfTestAndLifeCycle :
    (let m : Master := .headland
    let bank : Nat := 0
    let s : State := planState
    bank < 256 ∧ s.accepts (put32 m .bistC 0x44 (1 + bank * 256)))
    ∧ (let m : Master := .headland
    let s : State := planState
    s.accepts (put32 m .bistC 0x44 (2 + 0 * 256)))
    ∧ (let m : Master := .headland
    let s : State := planState
    s.accepts (put32 m .bistC 0x44 (3 + 0 * 256)))
    ∧ (let m : Master := .headland
    let e : Nat := 3
    let s : State := planState
    e < 256 ∧ s.accepts (put32 m .bistC 0x44 (4 + e * 256)))
    ∧ (let m : Master := .headland
    let g : Nat := 1
    let s : State := planState
    g < 256 ∧ s.accepts (put32 m .bistC 0x44 (5 + g * 256)))
    ∧ (let m : Master := .headland
    let q : Nat := 2
    let s : State := planState
    q < 256 ∧ s.accepts (put32 m .bistC 0x44 (6 + q * 256)))
    ∧ (let m : Master := .headland
    let d : Nat := 24
    let s : State := planState
    1 ≤ d ∧ d < 128 ∧ d ≠ 15 ∧ s.accepts (put32 m .bistC 0x44 (0x80 + d)))
    ∧ (let s : State := planState.setReg .bistC 0x48 0x30401
    let st := s.reg .bistC 0x48
    let d := bistDomain (fld st 8 8) (fld st 16 8)
    d < 37 ∧ bit st 0 = true)
    ∧ (let s : State := planState
    let st := s.reg .bistC 0x48
    let d := bistDomain (fld st 8 8) (fld st 16 8)
    d < 37 ∧ bit st 0 = false)
    ∧ (let p : Page := .tb
    let bad : List Page := [.tb, .icl]
    let s : State := planState
    bad ≠ [] ∧ p.valid = true ∧ p.present s.fuses = true)
    ∧ (let m : Master := .headland
    let target : Nat := 1
    let s : State := { planState with fab := { planState.fab with keys := [(Page.base .lc, KeySeq.opened 1 100000000)] } }
    target < 4 ∧ s.accepts (put32 m .lc 0x44 target))
    ∧ (let m : Master := .headland
    let v : Nat := 5
    let s : State :=
      { (planState.setReg .sboot 0x44 9) with fab := { planState.fab with keys := [(Page.base .sboot, KeySeq.opened 1 100000000)] } }
    v < 128 ∧ s.accepts (put32 m .sboot 0x4C v))
    ∧ (let m : Master := .headland
    let v : Nat := 4
    let s : State :=
      { { (planState.setReg .sboot 0x44 9) with fab := { planState.fab with keys := [(Page.base .sboot, KeySeq.opened 1 100000000)] } } with boot := { planState.boot with firmware := true } }
    v < 16 ∧ s.accepts (put32 m .sboot 0x54 v) ∧ s.boot.firmware = true ∧ bit (s.reg .sboot 0x40) 6 = false) := by
  refine ⟨?_, ?_, ?_, ?_, ?_, ?_, ?_, ?_, ?_, ?_, ?_, ?_, ?_⟩ <;> (dsimp only; decide +kernel)

end Sys2Proof.Tests
end

section
/-! PROOF. O4: every command, and every step, keeps the canonical form of memory and the queue of waiting commands. Each command's
meaning is one operation of the block, so its case cites what Sys2Proof/Laws/Kept says of that operation. -/
namespace Sys2Proof.Machine

/-- Whatever next state an outcome gives keeps of `r` what every operation of the block keeps. -/
def NextKept (r : State) (o : Host.Outcome State Fault Refusal) : Prop := ∀ t, o = .next t → Kept r t

theorem NextKept.next {r t : State} (h : Kept r t) : NextKept r (.next t) := by
  rintro u ⟨⟩
  exact h

theorem NextKept.fault {r : State} {e : Fault} : NextKept r (.fault e) := by
  rintro u ⟨⟩

/-- A command that acts under a condition and leaves the state unchanged without it. -/
theorem Kept.guarded {s t : State} {c : Prop} {inst : Decidable c} (h : Kept s t) : Kept s (if c then t else s) :=
  .ite (fun _ => h) fun _ => .refl s

theorem execReleaseFire_kept {q : Nat} {s : State} : NextKept s (execReleaseFire q s) := by
  refine .next ?_
  split
  case h_1 a s1 e => exact State_releaseFire_kept (State_routeTake_kept e (.refl s))
  case h_2 => exact .refl s

theorem execRouteSwellWake_kept {e : Nat} {s : State} : NextKept s (execRouteSwellWake e s) := by
  refine .next ?_
  split
  case h_1 a s1 e => exact State_swWake_kept (State_routeTake_kept e (.refl s))
  case h_2 => exact .refl s

theorem execGselWrite_kept {m of : Master} {v : Nat} {s : State} : NextKept s (execGselWrite m of v s) := by
  refine .next ?_
  split
  · exact State_pageWr_kept (.refl s)
  · exact .refl s

theorem execGclr_kept {m of : Master} {s : State} : NextKept s (execGclr m of s) := by
  refine .next ?_
  split
  · exact State_pageWr_kept (.refl s)
  · exact .refl s

theorem execMonitorExcursion_kept {m : Monitor} {s : State} : NextKept s (execMonitorExcursion m s) := by
  unfold execMonitorExcursion
  split
  · split
    · exact .fault
    · exact .next (State_monitor_kept (.refl s))
  · exact .next (State_monitor_kept (.refl s))

theorem execCaplock_kept {o : OpR} {s : State} : NextKept s (execCaplock o s) := by
  refine .next (State_capRun_kept (.refl s) fun c t h => ?_)
  dsimp only
  split
  · exact h
  · exact Exe.kept_ite h (Exe.kept_ite h (Exe.kept_ite (State_putC_kept h) (State_putC_kept (State_draw_kept h))))

theorem execCapopen_kept {o : OpR} {s : State} : NextKept s (execCapopen o s) := by
  refine .next (State_capRun_kept (.refl s) fun c t h => ?_)
  dsimp only
  split
  · exact h
  · exact Exe.kept_ite h (Exe.kept_ite h (State_putC_kept h))

theorem execJr_kept {o : OpR} {s : State} : NextKept s (execJr o s) := by
  refine .next (State_svRun_kept (.refl s) fun c t h => ?_)
  dsimp only
  split <;> exact h

theorem execRet_kept {o : OpR} {s : State} : NextKept s (execRet o s) := by
  refine .next (State_svRun_kept (.refl s) fun c t h => State_svLoadCap_kept h fun x u hu => ?_)
  split
  · exact hu
  · exact State_putC_kept hu

/-- ERET leaves by one of four ways: a fault, out of Breach, to a bank, or to a context that it refills from its frame. -/
theorem execEret_kept {o : OpR} {s : State} : NextKept s (execEret o s) := by
  refine .next (State_svRun_kept (.refl s) fun c t h => ?_)
  dsimp only
  split
  · exact h
  · refine Exe.kept_ite (State_setSv_kept (State_setSv_kept h)) (Exe.kept_ite (State_setSv_kept (State_setSv_kept h)) ?_)
    split
    · exact State_draw_kept h
    · exact State_setSv_kept (State_setSv_kept h)

theorem execTrap_kept {cond : BitVec 4} {rest : BitVec 14} {n : BitVec 8} {s : State} :
    NextKept s (execTrap cond rest n s) := by
  refine .next (State_svRun_kept (.refl s) fun c t h => ?_)
  split
  case h_1 f u e => exact State_gateCheck_kept e h
  case h_2 => exact h

theorem execLoop_kept {o : OpI} {s : State} : NextKept s (execLoop o s) := by
  refine .next (State_svRun_kept (.refl s) fun c t h => ?_)
  dsimp only
  split
  · exact h
  · exact Exe.kept_ite (State_setSv_kept h) (State_setSv_kept (State_setSv_kept h))

theorem execCmts_kept {o : OpI} {s : State} : NextKept s (execCmts o s) := by
  refine .next (State_svRun_kept (.refl s) fun c t h => ?_)
  dsimp only
  split
  · exact h
  · exact State_setSv_kept h

theorem execCustomInstruction_kept {o : OpR} {slot : BitVec 4} {k : BitVec 3} {s : State} :
    NextKept s (execCustomInstruction o slot k s) := by
  refine .next (State_svRun_kept (.refl s) fun c t h => ?_)
  dsimp only
  split
  · exact h
  · refine State_putFlags_kept (State_setSv_kept ?_)
    split
    · exact State_putG_kept h
    · exact h

theorem execFaultEntry_kept {f : Fetched} {s : State} : NextKept s (execFaultEntry f s) := by
  have hb : Kept s s.svBegin := State_svBegin_kept (.refl s)
  refine .next (.ite (fun _ => .refl s) fun _ => .ite (fun _ => State_svArith_kept hb) fun _ => ?_)
  split
  · exact State_svRaise_kept (.ite (fun _ => State_guardDeny_kept hb) fun _ => hb) hb
  · split
    · exact State_svRaise_kept hb hb
    · exact .guarded (State_svRaise_kept hb hb)

theorem execInterruptAccept_kept {s : State} : NextKept s (execInterruptAccept s) := by
  have hb : Kept s s.svBegin := State_svBegin_kept (.refl s)
  refine .next (.ite (fun _ => .refl s) fun _ => ?_)
  split
  · exact .refl s
  · refine .ite (fun _ => State_svArith_kept hb) fun _ => .ite (fun _ => State_svBreach_kept hb) fun _ => ?_
    split
    case h_1 u e => exact State_svCause_kept (.snd e (State_svEnter_kept hb))
    case h_2 u e => exact .snd e (State_svEnter_kept hb)

/-- Every command keeps the canonical form of memory and the queue of waiting commands, whatever state it hands on. -/
theorem exec_kept (i : Instr) (s : State) : NextKept s (exec i s) := by
  have hs : Kept s s := .refl s
  cases i with
  | registerWrite => exact .next (State_busWrite_kept hs)
  | pageCtrlWrite | softReset | lockWrite | keyWrite | pageErrClear | irqSet | e2eStatClr | tbModeWrite | skewClr
  | qtErrClr | tqfStatClr | pinCfgWrite | bankCntClr | captureFlush | tsnCntClr | openCmd | contextCancel | trErrClr
  | trackerStatClr | appendCommit | rmRdWrite | rollmapClr | surfGroupClr | mirrorRefill | tmCntClr | tmErrClr
  | icSwset | icSwclr | swellRun | swellStop | swellStep | swellWakeCmd | swellResume | pairSet | pairClear
  | swellErrClr | swellCntClr | rotReq | planKey | planCommitGo | planCommitAbort | planRefresh | slackReq | slackRel
  | recClr | isoRel | fcClr | fcInject | tmFiredClr | cvCntClr | cvFlush | sramEnableWrite | dormantGo | bootGo
  | hrpClr | bistSramMarch | bistTrackerMarch | bistTqfMarch | bistSwellEngine | bistSurfGroup | bistGheryQuad
  | bistDomainStartup | lcReq | rbAdvance | keyRevokeSet =>
    exact .next (State_pageWr_kept hs)
  | softResetDone => exact .next (State_softDone_kept hs)
  | keySequenceTimeout => exact .next (State_keyExpires_kept hs)
  | tbNowRead | delivRead | capturePop | pinCountRead | coordRead | bundlesRead | fcFirstRead | validUntilRead
  | cvDataPop =>
    exact .next (State_pageRd_kept hs)
  | syncReceive => exact .next (State_syncReceive_kept hs)
  | syncTimeout => exact .next (State_syncLost_kept hs)
  | skewMeasurement => exact .next (State_skewMeasured_kept hs)
  | tidemarkStrobe => exact .next (State_strobe_kept hs)
  | linkTimeout | registerTransferRetry => exact .next (State_raiseFault_kept hs)
  | queueTableWrite | queueBindWrite => exact .next (State_queueWr_kept hs)
  | submitStage => exact .next (.guarded (State_slotWr_kept hs))
  | submitAct => exact .next (.ite (fun _ => hs) fun _ => State_slotEnd_kept hs)
  | releaseArm => exact .next (State_slotEnd_kept hs)
  | subResRead | posSnapshotRead | totalRead | eventsRead => exact .next (State_winRd_kept hs)
  | ebbCutStage => exact .next (.ite (fun _ => State_winWr_kept hs) fun _ => State_winWr_kept hs)
  | ebbCmdLowStage | propSubmit => exact .next (State_winWr_kept hs)
  | ebbHandle | ebbQueue | ebbGroup => exact .next (State_ebbCmd_kept hs)
  | ebbResultDone => exact .next (State_ebbDone_kept hs)
  | entryCommit => exact .next (State_entryCommit_kept hs)
  | entryHandoff => exact .next (State_entryHandoff_kept hs)
  | linkEntryReceive => exact .next (State_linkReceive_kept hs)
  | entryDelivery => exact .next (State_entryDelivery_kept hs)
  | releaseFire => exact execReleaseFire_kept
  | preemption => exact .next (State_slackBegins_kept hs)
  | logConfigWrite =>
    have hw {m p off v} : Kept s (s.pageWr m p off v) := State_pageWr_kept hs
    exact .next (.ite (fun _ => hw) fun _ => .ite (fun _ => hw) fun _ => .guarded hw)
  | offsetWrite => exact .next (State_pageWr64_kept hs)
  | levelAction => exact .next (State_actOn_kept hs fun _ _ => State_levelAction_kept)
  | pulseStart => exact .next (State_actOn_kept hs fun _ _ => State_pulseStart_kept)
  | pulseEnd | triggerPulseEnd => exact .next (.guarded (State_pulseEnd_kept hs))
  | pwmDutyEntry | pwmPeriodEntry | pwmRunEntry =>
    exact .next (State_actOn_kept hs fun _ _ => State_pwmEntry_kept)
  | pwmPeriodStart => exact .next (State_pwmPeriodStart_kept hs)
  | stepdirSegment => exact .next (State_actOn_kept hs fun _ _ => State_stepSegment_kept)
  | stepEdge => exact .next (State_stepEdge_kept hs)
  | captureEdge => exact .next (State_captureEdge_kept hs)
  | quadEdge => exact .next (State_quadEdge_kept hs)
  | quadSample => exact .next (State_quadSample_kept hs)
  | ssiRead => exact .next (State_ssiRead_kept hs)
  | ssiReadDone => exact .next (State_ssiReadDone_kept hs)
  | generatorStart | generatorStop | t1sCntClr | sourceSlotWrite | appendWord | cameraEnable | cameraDisable | kcommit
  | cameraClr | surfLaneClr | evtSend | gheryLaneClr | txlClr | ingressLinkClr | egressLinkClr | planHeaderWrite
  | timerEnable | timerStartCmd | timerStopCmd | timerLoadCmd | timerLateClr | dmaStart | dmaAbort | watchdogStart
  | wdtKey1 | wdtKey2 | wdtCheckin =>
    exact .next (.guarded (State_pageWr_kept hs))
  | generatorSample => exact .next (State_generatorSample_kept hs)
  | triggerEdge => exact .next (State_triggerEdge_kept hs)
  | generatorStall => exact .next (State_generatorStall_kept hs)
  | tlogQuery => exact .next (.ite (fun _ => State_pageWr64_kept hs) fun _ => State_pageWr_kept hs)
  | cyclicFrame => exact .next (State_cyclicFrame_kept hs)
  | acyclicFrame => exact .next (State_acyclicFrame_kept hs)
  | tsnFrame => exact .next (State_tsnFrame_kept hs)
  | ackReceive => exact .next (State_ackFrame_kept hs)
  | ackTimeout => exact .next (State_ackTimeout_kept hs)
  | eventFrameReceive => exact .next (State_eventFrame_kept hs)
  | rxFrameDiscard => exact .next (.guarded (State_rxErr_kept hs))
  | safeFrameReceive => exact .next (State_safeFrame_kept hs)
  | safeKeepalive => exact .next (State_safeKeepalive_kept hs)
  | safeConnectionLost => exact .next (State_safeLost_kept hs)
  | safeConnectionOpen => exact .next (State_safeConnect_kept hs)
  | syncSend => exact .next (State_syncSend_kept hs)
  | tsnLinkChange => exact .next (State_tsnLink_kept hs)
  | trackerSourceSample => exact .next (State_slotSample_kept hs)
  | sourceStall => exact .next (State_slotStall_kept hs)
  | fwInstStage | fwSampleCommit => exact .next (.guarded (State_pageWr64_kept hs))
  | stationWrite | templateWrite => exact .next (.guarded (State_winWr_kept hs))
  | contextOpenDeferred => exact .next (State_openDeferred_kept hs)
  | visitEvaluate => exact .next (State_visitEvaluate_kept hs)
  | repredictionResult => exact .next (State_repredResult_kept hs)
  | visitFreeze => exact .next (State_freezeDue_kept hs)
  | visitDone => exact .next (State_visitDone_kept hs)
  | rollmapRecordWrite => exact .next (State_recordWrite_kept hs)
  | rollrecSend => exact .next (State_rollSend_kept hs)
  | cameraDrainDone => exact .next (State_drainDone_kept hs)
  | lineIntake => exact .next (State_lineIntake_kept hs)
  | laneLineComplete => exact .next (State_laneComplete_kept hs)
  | patchRowSend => exact .next (State_patchRowSend_kept hs)
  | patchTrailerSend => exact .next (State_trailerSend_kept hs)
  | ffDataAccess => exact .next (.ite (fun _ => State_pageWr_kept hs) fun _ => State_pageRd_kept hs)
  | kernelShadowCopy => exact .next (State_shadowCopy_kept hs)
  | linePacketReceive | gheryEventReceive => exact .next (State_packetReceive_kept hs)
  | creditReceive => exact .next (State_creditReceive_kept hs)
  | trainReceive => exact .next (.ite (fun _ => State_trainSb_kept hs) fun _ => State_trainIn_kept hs)
  | amReceive => exact .next (State_amReceive_kept hs)
  | amSend => exact .next (State_amSend_kept hs)
  | trainSend => exact .next (State_trainSend_kept hs)
  | trainSeekSend => exact .next (State_seekSend_kept hs)
  | creditSend => exact .next (State_creditSend_kept hs)
  | receiverReady => exact .next (State_receiverReady_kept hs)
  | receiverUp => exact .next (State_receiverUp_kept hs)
  | transmitterUp => exact .next (State_transmitterUp_kept hs)
  | linkRetrain => exact .next (State_linkRetrain_kept hs)
  | sidebandTimeout => exact .next (State_sidebandTimeout_kept hs)
  | eventPacketSend => exact .next (State_eventSend_kept hs)
  | linkEnable | linkDisable => exact .next (State_linkCfg_kept hs)
  | evtArrRead | timerCountRead => exact .next (.guarded (State_pageRd_kept hs))
  | tidemarkSample => exact .next (State_sampleArrive_kept hs)
  | statusTransfer => exact .next (State_statusArrive_kept hs)
  | rollEvent => exact .next (State_rollEventArrive_kept hs)
  | ticketIssue => exact .next (State_ticketIssue_kept hs)
  | ticketTransfer => exact .next (State_ticketArrive_kept hs)
  | auditTransfer => exact .next (State_auditArrive_kept hs)
  | goneTransfer => exact .next (State_goneArrive_kept hs)
  | readReq => exact .next (State_readReq_kept hs)
  | tmLinkUp => exact .next (State_linkUp_kept hs)
  | tmLinkDown => exact .next (State_linkDown_kept hs)
  | legalEncoderEdge => exact .next (.guarded (State_legalInput_kept hs))
  | zEdge => exact .next (State_zEdge_kept hs)
  | proposalParam => exact .next (State_propParam_kept hs)
  | proposalSeal => exact .next (State_propSeal_kept hs)
  | proposalRoll => exact .next (State_propRoll_kept hs)
  | proposalVerify => exact .next (State_propVerify_kept hs)
  | propDone => exact .next (State_propArrive_kept hs)
  | bypassChange => exact .next (State_bypassChange_kept hs)
  | holdupEntry => exact .next (.guarded (State_tmHoldup_kept hs))
  | restCommit => exact .next (State_restCommit_kept hs)
  | finalCommit => exact .next (State_finalCommit_kept hs)
  | checkpoint => exact .next (State_checkpoint_kept hs)
  | tidemarkBoot => exact .next (State_tmBoot_kept hs)
  | tidemarkWatchdogExpiry => exact .next (State_tmWatchdog_kept hs)
  | tidemarkClockFault => exact .next (State_tmClock_kept hs)
  | add | adc | sub | sbc | and | or | xor | bic | shl | shr | sar | ror | shli | shri | sari | rori | cmp | tst | mul
  | mulh | mulhu | div | divu | rem | remu | min | max | minu | maxu | clz | rev | sxtb | sxth | zxtb | zxth =>
    exact .next (State_intRun_kept hs)
  | addi | addis | andi | ori | xori | cmpi | tsti => exact .next (State_immRun_kept hs)
  | movl | movh => exact .next (State_svRun_kept hs fun _ _ => State_putG_kept)
  | ldw | ldh | ldhu | ldb | ldbu => exact .next (State_loadRun_kept hs)
  | stw | sth | stb => exact .next (State_storeRun_kept hs)
  | cldw => exact .next (State_svRun_kept hs fun _ _ h => State_svLoad_kept h fun _ _ => State_setSv_kept)
  | cstw => exact .next (State_svRun_kept hs fun _ _ h => State_svStore_kept h fun _ hu => hu)
  | cldc => exact .next (State_svRun_kept hs fun _ _ h => State_svLoadCap_kept h fun _ _ => State_setSv_kept)
  | cstc => exact .next (State_svRun_kept hs fun _ _ h => State_svStoreCap_kept h fun _ hu => hu)
  | capq | capdist | capwithin => exact .next (State_capRun_kept hs fun _ _ => State_putG_kept)
  | capptr | capadv | capnarrow | capmask => exact .next (State_capDerive_kept hs)
  | capmov | capdrop => exact .next (State_capRun_kept hs fun _ _ => State_putC_kept)
  | caplock => exact execCaplock_kept
  | capopen => exact execCapopen_kept
  | b => exact .next (State_svRun_kept hs fun _ _ h => Exe.kept_ite h h)
  | call | callr => exact .next (State_svRun_kept hs fun _ _ => State_callRun_kept)
  | jr => exact execJr_kept
  | ret => exact execRet_kept
  | eret => exact execEret_kept
  | ctxsw => exact .next (State_svRun_kept hs fun _ _ h => State_setRegF_kept (State_setSv_kept h))
  | fence => exact .next (State_svRun_kept hs fun _ _ h => h)
  | wfi => exact .next (State_svRun_kept hs fun _ _ => State_setSv_kept)
  | trap => exact execTrap_kept
  | loop => exact execLoop_kept
  | qadd | qsub | qneg | qabs | qmul | qadd2 | qsub2 | qmul2 | qshl | qshr | qpack =>
    exact .next (State_fixRun_kept hs)
  | mac | msu | mula | mac2 | msu2 | mula2 | clra | mta | rda | rda16 | rdal | rdah | rdag | wral | wrah | wrag =>
    exact .next (State_accRun_kept hs)
  | dadd | daddc | dsub | dsubc | dcmp | dadj | bcd2bin | bin2bcd => exact .next (State_decRun_kept hs)
  | mfs => exact .next (State_svRun_kept hs fun _ _ h => State_putG_kept (State_setSv_kept h))
  | mts => exact .next (State_svRun_kept hs fun _ _ h => Exe.kept_ite h (State_setSv_kept h))
  | cmfs => exact .next (State_svRun_kept hs fun _ _ => State_putC_kept)
  | cmts => exact execCmts_kept
  | customInstruction => exact execCustomInstruction_kept
  | faultEntry => exact execFaultEntry_kept
  | interruptAccept => exact execInterruptAccept_kept
  | arithImprecise => exact .next (.guarded (State_svArith_kept (State_svBegin_kept hs)))
  | gselWrite => exact execGselWrite_kept
  | gclr => exact execGclr_kept
  | bundleExecute => exact .next (State_bundle_kept hs)
  | swellFabricResponse => exact .next (.guarded (State_swResponse_kept hs))
  | waitWake => exact .next (.guarded (State_swWake_kept hs))
  | pairCopyDone => exact .next (State_pairCopyDone_kept hs)
  | apertureAccess =>
    exact .next (.guarded (.ite (fun _ => State_busWrite_kept hs) fun _ => State_busRead_kept hs))
  | faultLatch => exact .next (State_faultLatch_kept hs)
  | lockstepMismatch => exact .next (State_lockstepMismatch_kept hs)
  | resyncCopyDone => exact .next (State_resyncCopied_kept hs)
  | resyncJoinDone => exact .next (State_resyncJoined_kept hs)
  | degradedTimeout => exact .next (State_degraded_kept hs)
  | rotationStart => exact .next (State_rotationStart_kept hs)
  | monitorExcursion => exact execMonitorExcursion_kept
  | slackEntryDelivery => exact .next (State_slackDeliver_kept hs)
  | slackDone => exact .next (State_slackDone_kept hs)
  | applicationReset => exact .next (State_applicationReset_kept hs)
  | deviceReset => exact .next (State_deviceDue_kept hs)
  | planMemoryWrite => exact .next (.guarded (State_busWrite_kept hs))
  | planValidationDone => exact .next (State_planValidated_kept hs)
  | planSequenceTimeout => exact .next (State_planTimeout_kept hs)
  | planStale => exact .next (State_planPasses_kept hs)
  | planScrub => exact .next (State_planScrub_kept hs)
  | speedSourceSample => exact .next (State_speedSample_kept hs)
  | speedLost => exact .next (State_speedLost_kept hs)
  | memoryScrub => exact .next (State_memoryScrub_kept hs)
  | registerScrub => exact .next (.foldl (fun _ _ => State_parityFails_kept) hs)
  | breakwaterSelfTest => exact .next (.ite (fun _ => hs) fun _ => State_raiseFault_kept hs)
  | fuseShadowCheck =>
    exact .next (.ite (fun _ => State_setRegF_kept hs) fun _ => State_raiseFault_kept (State_setRegF_kept hs))
  | timerMatch => exact .next (State_timerMatch_kept hs)
  | timerWrap => exact .next (State_timerWrap_kept hs)
  | timerTop => exact .next (State_timerTop_kept hs)
  | timerCountLoad =>
    exact .next (.guarded (.ite (fun _ => State_pageWr64_kept hs) fun _ => State_pageWr_kept hs))
  | routeTimerStart => exact .next (State_routeStart_kept hs)
  | routeTimerStop => exact .next (State_routeStop_kept hs)
  | routeTimerCount => exact .next (State_routeCount_kept hs)
  | routeSwellWake => exact execRouteSwellWake_kept
  | converterStart => exact .next (State_cvStart_kept hs)
  | dmaRequest => exact .next (State_dmaRequest_kept hs)
  | dmaTransaction => exact .next (State_dmaTransaction_kept hs)
  | watchdogWindowOpen => exact .next (.guarded (State_wdtOpens_kept hs))
  | watchdogExpiry => exact .next (.guarded (State_wdtExpires_kept hs))
  | conversionResult => exact .next (State_cvResult_kept hs)
  | converterFault => exact .next (State_cvFault_kept hs)
  | powerOn => exact .next (State_powerOn_kept hs)
  | railFailure => exact .next (State_railFailure_kept hs)
  | railRetry => exact .next (State_railRetry_kept hs)
  | domainStarted => exact .next (State_domStarted_kept hs)
  | domainPoweredDown => exact .next (State_domDown_kept hs)
  | powerStateChangeDone => exact .next (State_powerChanged_kept hs)
  | dormantEntered => exact .next (State_dormantEntered_kept hs)
  | wakeTimerExpiry => exact .next (State_wakeTimer_kept hs)
  | wakePin | hostWake => exact .next (State_wake_kept hs)
  | hrpRead32 | hrpRead64 => exact .next (State_hrpFrame_kept hs fun _ => State_hrpRead_kept)
  | hrpWrite32 | hrpWrite64 => exact .next (State_hrpFrame_kept hs fun _ => State_hrpWrite_kept)
  | hrpRmw32 => exact .next (State_hrpFrame_kept hs fun _ => State_hrpRmw_kept)
  | hrpBurstRead => exact .next (State_hrpFrame_kept hs fun _ => State_hrpBurstRead_kept)
  | hrpBurstWrite => exact .next (State_hrpFrame_kept hs fun _ => State_hrpBurstWrite_kept)
  | hrpStatus => exact .next (State_hrpFrame_kept hs fun _ h => h)
  | hrpFrameAbort => exact .next (.guarded (State_irqBit_kept (State_satInc_kept hs)))
  | bistSequenceDone => exact .next (State_bistDone_kept hs)
  | resetPin => exact .next (State_resetPin_kept hs)
  | debugReset => exact .next (State_debugReset_kept hs)
  | supplyLoss => exact .next (State_supplyLoss_kept hs)
  | supplyReturn => exact .next (State_supplyReturn_kept hs)
  | breakwaterBrownout => exact .next (State_breakwaterBrown_kept hs)
  | leeBrownout => exact .next (State_leeBrown_kept hs)
  | pwmDutyEnd => exact .next (State_pwmDutyEnd_kept hs)
  | stepPulseEnd => exact .next (State_stepPulseEnd_kept hs)
  | segmentLinkChange => exact .next (State_segLink_kept hs)
  | tsnMasterSyncSend => exact .next (State_tsnSync_kept hs)
  | peerDelayExchange => exact .next (.guarded (State_setReg_kept hs))
  | blockLockChange => exact .next (State_blockLock_kept hs)
  | hiBerExit => exact .next (State_hiBerExit_kept hs)
  | sidebandAlignment => exact .next (State_sbAlign_kept hs)
  | rotationTestDone => exact .next (State_rotationTested_kept hs)

theorem step_nil {s : State} (h : s.pending = []) : step s = .next s.idle := by
  rw [step, h]

theorem step_cons {s : State} {c : Instr} {cs : List Instr} (h : s.pending = c :: cs) :
    step s = exec c { s with pending := cs } := by
  rw [step, h]

/-- A step keeps memory's canonical form, and of the queue all but the command at its front. -/
theorem step_kept (s : State) : NextKept { s with pending := s.pending.tail } (step s) := by
  cases h : s.pending with
  | nil =>
    have hi : Kept s s.idle := State_idle_kept (.refl s)
    rw [step_nil h]
    exact .next ⟨hi.mem, hi.queue.trans h⟩
  | cons c cs =>
    rw [step_cons h]
    exact exec_kept c { s with pending := cs }

/-- Settles O4: what a step hands on keeps the canonical form, whichever command ran or whether the timebase alone went on. -/
theorem memoryStaysCanonical : Obligations.MemoryStaysCanonical :=
  fun s t hs ht => (step_kept s t ht).mem hs

end Sys2Proof.Machine
end

section
/-! PROOF. O14: an accepted access of System SRAM, from the bytes of memory up to the bus. -/
namespace Sys2Proof.Machine

/-! ### Little-endian bytes -/

@[simp] theorem length_bytesLE (n v : Nat) : (bytesLE n v).length = n := by
  simp [bytesLE]

theorem bytesLE_succ (n v : Nat) : bytesLE (n + 1) v = v % 256 :: bytesLE n (v / 256) := by
  simp only [bytesLE, List.range_succ_eq_map, List.map_cons, List.map_map, Nat.pow_zero, Nat.div_one]
  congr 2
  funext i
  simp [Nat.div_div_eq_div_mul, Nat.pow_succ']

theorem ofBytesLE_bytesLE (n v : Nat) : ofBytesLE (bytesLE n v) = v % 2 ^ (8 * n) := by
  induction n generalizing v with
  | zero => simp [bytesLE, ofBytesLE, Nat.mod_one]
  | succ n ih =>
    rw [bytesLE_succ, ofBytesLE, ih, Nat.mod_mod, Nat.mul_succ, Nat.pow_add, Nat.mul_comm (2 ^ (8 * n)), Nat.mod_mul]

theorem bytesLE_lt {n v b : Nat} (h : b ∈ bytesLE n v) : b < 256 := by
  obtain ⟨i, -, rfl⟩ := List.mem_map.mp h
  exact Nat.mod_lt _ (by decide)

/-! ### A store and what it leaves -/

/-- Bytes stored from `a` upward are read there. -/
theorem readBytes_writeBytes (m : List Host.Cell) (a : Nat) (bs : List Nat) (hb : ∀ b ∈ bs, b < 256) :
    readBytes (writeBytes m a bs) a bs.length = bs := by
  refine List.ext_getElem (by simp [readBytes]) fun i _ hi => ?_
  have hlt : bs[i] < 256 := hb _ (List.getElem_mem hi)
  simp [readBytes, readByte_writeBytes_in bs m a i hi, Nat.mod_eq_of_lt hlt]

theorem State.setMem_mem (s : State) (a n v : Nat) : (s.setMem a n v).mem = writeBytes s.mem a (bytesLE n v) := by
  unfold State.setMem State.writeMem
  split
  case isTrue h => rw [List.isEmpty_iff.mp h, writeBytes]
  case isFalse => rfl

theorem State.setMem_frame (s : State) (a n v : Nat) :
    s.setMem a n v = { s with mem := (s.setMem a n v).mem, tags := (s.setMem a n v).tags } := by
  unfold State.setMem State.writeMem
  split <;> rfl

/-- A store inside one granule clears that granule's tag and no other (R369). -/
theorem State.mem_setMem_tags {s : State} {a n v : Nat} (hn : n ≠ 0) (hg : (a + n - 1) / 16 = a / 16) (g : Nat) :
    g ∈ (s.setMem a n v).tags ↔ g ∈ s.tags ∧ g ≠ a / 16 := by
  have hne : (bytesLE n v).isEmpty = false := by
    rw [← Bool.not_eq_true, List.isEmpty_iff_length_eq_zero, length_bytesLE]
    exact hn
  simp only [State.setMem, State.writeMem, hne, length_bytesLE, hg, List.mem_filter, Bool.or_eq_true, decide_eq_true_eq,
    Bool.false_eq_true, if_false]
  exact and_congr_right fun _ => by omega

theorem State.memN_setMem (s : State) (a n v : Nat) : (s.setMem a n v).memN a n = v % 2 ^ (8 * n) := by
  have h := readBytes_writeBytes s.mem a (bytesLE n v) fun _ => bytesLE_lt
  rw [length_bytesLE] at h
  rw [State.memN, State.setMem_mem, h, ofBytesLE_bytesLE]

theorem State.setMem_sameBut (s : State) (a n v : Nat) : SameMemoryBut a (a + n) s (s.setMem a n v) := by
  intro x hx
  rw [State.setMem_mem, readByte_writeBytes_out _ _ _ _ (by rwa [length_bytesLE])]

@[simp] theorem State.lastResp_answer (s : State) (m : Master) (r : Reason) (d : Nat) :
    (s.answer m r d).lastResp m = ⟨r, if r = .none then d else 0⟩ := by
  simp [State.lastResp, State.answer]

/-! ### Accesses of System SRAM -/

@[simp] theorem firstReason_nil : firstReason [] = .none := rfl

theorem firstReason_cons_eq_none {b : Bool} {r : Reason} {l : List (Bool × Reason)} (hr : r ≠ .none) :
    firstReason ((b, r) :: l) = .none ↔ b = false ∧ firstReason l = .none := by
  cases b <;> simp [firstReason, hr]

/-- System SRAM stands ready for an access of n bytes at `a` by `m`: the access is decoded there, aligned and of a width that
memory takes, and the bank is on. -/
structure State.SramReady (s : State) (m : Master) (a n : Nat) : Prop where
  decoded : s.decode m a n = some .sram
  aligned : n ≠ 0 → a % n = 0
  width : widthOk .sram n = true
  on : s.sramOn (sramBank a) = true

theorem State.regionAt_sram (s : State) {a : Nat} (h1 : 0x20000000 ≤ a) (h2 : a < 0x20800000) :
    s.regionAt a = some .sram := by
  unfold State.regionAt
  rw [if_neg (by omega), if_neg (by simp; omega), if_pos (by simp; omega)]

theorem State.decode_sram {s : State} {m : Master} {a n : Nat} (h1 : 0x20000000 ≤ a) (h2 : a < 0x20800000)
    (h : s.decode m a n ≠ none) : s.decode m a n = some .sram := by
  unfold State.decode at h ⊢
  rw [s.regionAt_sram h1 h2] at h ⊢
  simp only at h ⊢
  split at h
  · rw [if_pos ‹_›]
  · exact absurd rfl h

theorem State.SramReady.accRead {s : State} {m : Master} {a n : Nat} (h : s.SramReady m a n) :
    s.accRead ⟨m, a, n, 0, true⟩ = (.none, s.memN a n, s) := by
  have early : firstReason [(n ≠ 0 && a % n ≠ 0, .align), (!widthOk .sram n, .width)] = .none := by
    simpa [firstReason_cons_eq_none, h.width] using h.aligned
  simp only [State.accRead, h.decoded, Bool.not_true, Bool.false_eq_true, if_false]
  rw [if_neg (not_not.mpr early), State.regionRead, if_pos h.on]

/-- What an accepted write of System SRAM makes of memory, and that it found the memory ready. -/
theorem State.accWrite_sram {s : State} {m : Master} {a n v : Nat} (h1 : 0x20000000 ≤ a) (h2 : a < 0x20800000)
    (h : (s.accWrite ⟨m, a, n, v, true⟩).1 = .none) :
    s.SramReady m a n
      ∧ s.accWrite ⟨m, a, n, v, true⟩ = (.none, (s.arbitrate m a n).setMem a n (v % 2 ^ (8 * n))) := by
  have hd : s.decode m a n = some .sram := by
    refine State.decode_sram h1 h2 fun h0 => ?_
    simp [State.accWrite, h0] at h
  unfold State.accWrite at h ⊢
  simp only [hd, Bool.not_true, Bool.false_eq_true, if_false] at h ⊢
  split at h
  case isTrue he => exact absurd h he
  case isFalse he =>
    rw [if_neg he]
    simp only [State.regionWrite] at h ⊢
    split at h
    case isTrue hon =>
      obtain ⟨-, ha, hw⟩ : s.collides m a n = false ∧ (n ≠ 0 → a % n = 0) ∧ widthOk .sram n = true := by
        simpa [firstReason_cons_eq_none] using he
      exact ⟨⟨hd, ha, hw, hon⟩, if_pos hon⟩
    case isFalse => cases h

/-- What an access of System SRAM is judged by does not change with memory, tags and the fabric's answers. -/
theorem State.SramReady.congr {s : State} {m : Master} {a n : Nat} {mem tags fab} (h : s.SramReady m a n) :
    State.SramReady { s with mem := mem, tags := tags, fab := fab } m a n :=
  ⟨h.decoded, h.aligned, h.width, h.on⟩

theorem State.guardFault_congr (s : State) (m : Master) (k : AccessKind) (a n : Nat) {mem tags fab} :
    State.guardFault { s with mem := mem, tags := tags, fab := fab } m k a n = s.guardFault m k a n := rfl

/-! ### The bus -/

/-- An access that no guard denies: the guard's part of `State.fabricWrite` and `State.fabricRead`. -/
theorem State.guard_permits {s : State} {m : Master} {k : AccessKind} {a n : Nat}
    (h : unguarded m a = true ∨ s.guardFault m k a n = none) :
    (if unguarded m a then none else s.guardFault m k a n) = none :=
  ite_eq_left_iff.mpr fun hu => h.resolve_left hu

/-- A write that passes every check takes its effect and is answered without an error, below the HRP page, whose
BOOT_GO would boot an image (R483). -/
theorem State.busWrite_accepted {s : State} {x : Access} (h : s.accepts x) (hgo : x.addr + 4 < Page.base .hrp) :
    s.busWrite x = (s.accWrite x).2.answer x.m .none := by
  obtain ⟨hs, hg, hr⟩ := h
  have hf : s.fabricWrite x = (s.accWrite x).2.answer x.m .none := by
    simp only [State.fabricWrite, State.guard_permits hg, hr]
  have hb : Page.base .hrp = 0x40100000 := rfl
  unfold State.busWrite
  rw [hs, hf]
  simp only [Bool.not_true, Bool.false_eq_true, if_false]
  rw [if_neg]
  simp only [Bool.and_eq_true, Bool.or_eq_true, decide_eq_true_eq]
  omega

theorem State.busRead_served {s : State} {x : Access} (hs : s.sends x.m = true)
    (hg : unguarded x.m x.addr = true ∨ s.guardFault x.m .load x.addr x.size = none) :
    s.busRead x = (s.accRead x).2.2.answer x.m (s.accRead x).1 (s.accRead x).2.1 := by
  simp only [State.busRead, hs, if_true, State.fabricRead, State.guard_permits hg]

/-- The state that an accepted write of System SRAM leaves. -/
def State.tookRam (s : State) (m : Master) (a n v : Nat) : State :=
  ((s.arbitrate m a n).setMem a n (v % 2 ^ (8 * n))).answer m .none

theorem State.tookRam_frame (s : State) (m : Master) (a n v : Nat) :
    s.tookRam m a n v
      = { s with mem := (s.tookRam m a n v).mem, tags := (s.tookRam m a n v).tags, fab := (s.tookRam m a n v).fab } := by
  unfold State.tookRam
  rw [State.setMem_frame]
  rfl

theorem State.busWrite_ram {s : State} {m : Master} {a n v : Nat} (h1 : 0x20000000 ≤ a) (h2 : a < 0x20800000)
    (h : s.accepts ⟨m, a, n, v, true⟩) :
    s.SramReady m a n ∧ s.busWrite ⟨m, a, n, v, true⟩ = s.tookRam m a n v := by
  have ⟨_, _, htaken⟩ := h
  obtain ⟨hready, hacc⟩ := State.accWrite_sram h1 h2 htaken
  have hgo : a + 4 < Page.base .hrp := by
    simp only [Page.base, Page.slot]
    omega
  exact ⟨hready, by rw [State.busWrite_accepted h hgo, hacc, State.tookRam]⟩

/-- A read of System SRAM after a write that the memory took answers the bytes written and leaves memory and tags. -/
theorem State.busRead_tookRam {s : State} {m : Master} {a n v : Nat} (hready : s.SramReady m a n)
    (h : s.serves ⟨m, a, n, 0, true⟩) :
    (s.tookRam m a n v).busRead ⟨m, a, n, 0, true⟩ = (s.tookRam m a n v).answer m .none (v % 2 ^ (8 * n)) := by
  obtain ⟨hs, hg, -⟩ := h
  have hf := s.tookRam_frame m a n v
  have hread : (s.tookRam m a n v).accRead ⟨m, a, n, 0, true⟩ = (.none, v % 2 ^ (8 * n), s.tookRam m a n v) := by
    have hm : (s.tookRam m a n v).memN a n = v % 2 ^ (8 * n) :=
      ((s.arbitrate m a n).memN_setMem a n _).trans (Nat.mod_mod _ _)
    rw [← hm]
    refine State.SramReady.accRead ?_
    rw [hf]
    exact hready.congr
  rw [State.busRead_served, hread]
  · rw [hf]; exact hs
  · rw [hf, State.guardFault_congr]; exact hg

/-- Settles O14: the write stands in memory, and the read after it finds the memory as ready as the write did. -/
theorem memoryRoundTrip : Obligations.MemoryRoundTrip := by
  intro m a n v s hn h1 h2 hw hr
  obtain ⟨hready, htook⟩ := State.busWrite_ram h1 (by omega) hw
  have hgranule : (a + n - 1) / 16 = a / 16 := by
    have ha := hready.aligned
    rcases hn with rfl | rfl | rfl | rfl <;> omega
  have hexec : exec (.registerWrite ⟨m, a, n, v, true⟩) s = .next (s.tookRam m a n v) := htook ▸ rfl
  refine ⟨s.tookRam m a n v, _, hexec, State.busRead_tookRam hready hr, ?_, ?_, rfl, rfl, ?_, s.tookRam_frame m a n v⟩
  · rw [State.lastResp_answer, if_pos rfl]
  · exact (s.arbitrate m a n).setMem_sameBut a n _
  · exact State.mem_setMem_tags (s := s.arbitrate m a n) (by omega) hgranule

end Sys2Proof.Machine
end

section
/-! PROOF. O30 and O31 fail in the reads of a live count: TB_NOW_READ and DELIV_READ say that a served read answers the device
time or the count of delivered entries, without a premise that the page runs. A page whose request for the Spring clock the
module has still to follow reads STARTING (R471), and its registers then read 0 (R48). -/
namespace Sys2Proof.Machine

/-- The module changes from NEAP to SPRING at instant 5, with five entries delivered; the pages of the timebase and of the TQF's
statistics are enabled and request the Spring clock. -/
def clockRising : State :=
  { State.reset with
    now := 5
    regs := [(Page.base .tb + 0x0C, 9), (Page.base .tqs + 0x0C, 9)]
    power := .changing true
    tqf := { State.reset.tqf with delivered := 5 } }

/-- The timebase page is STARTING: the fabric serves a read of its TB_NOW_LO, and answers 0 at instant 5. -/
theorem clockRising_tbNow_zero :
    clockRising.pstate .tb = 1
      ∧ clockRising.serves (readOf .headland .tb 0x40 false)
      ∧ (clockRising.pageRd .headland .tb 0x40 false).lastResp .headland = ⟨.none, 0⟩ := by
  decide +kernel

/-- The statistics page is STARTING: the fabric serves a read of its DELIV_LO, and answers 0 after five deliveries. -/
theorem clockRising_deliv_zero :
    clockRising.pstate .tqs = 1
      ∧ clockRising.serves (readOf .headland .tqs 0xA0 false)
      ∧ (clockRising.pageRd .headland .tqs 0xA0 false).lastResp .headland = ⟨.none, 0⟩ := by
  decide +kernel

/-- Refutes O30: TB_NOW_READ of a timebase page that is still STARTING answers 0, and not the device time 5. -/
theorem not_timebaseCommands : ¬ Obligations.TimebaseCommands := by
  rintro ⟨hread, -⟩
  obtain ⟨-, hserves, hzero⟩ := clockRising_tbNow_zero
  obtain ⟨t, ht, ⟨hanswer, -⟩, -⟩ := hread .headland false clockRising hserves
  obtain rfl : clockRising.pageRd .headland .tb 0x40 false = t := Host.Outcome.next.inj ht
  exact absurd (hzero.symm.trans hanswer) (by decide)

/-- Refutes O31: DELIV_READ of a statistics page that is still STARTING answers 0, and not the five entries delivered. -/
theorem not_queuesAndEntries : ¬ Obligations.QueuesAndEntries := by
  rintro ⟨-, -, -, -, -, -, -, -, hread, -⟩
  obtain ⟨-, hserves, hzero⟩ := clockRising_deliv_zero
  obtain ⟨t, ht, ⟨hanswer, -⟩, -⟩ := hread .headland false clockRising hserves
  obtain rfl : clockRising.pageRd .headland .tqs 0xA0 false = t := Host.Outcome.next.inj ht
  exact absurd (hzero.symm.trans hanswer) (by decide)

end Sys2Proof.Machine
end

section
/-! SUPPORT. Fields of words, registers under the operations that write one, and what a write that passes every check leaves: of
its window (R54), of the fabric, and of its page's keyed sequence (R69). -/
namespace Sys2Proof.Machine

/-! ### Fields of words -/

theorem testBit_fld (w : Word) (lo n i : Nat) : (fld w lo n).testBit i = (decide (i < n) && w.getLsbD (lo + i)) := by
  simp [fld, bitsN, Nat.testBit_mod_two_pow, Nat.testBit_div_two_pow, BitVec.getLsbD, Nat.add_comm]

theorem getLsbD_setFld (w : Word) (lo n v i : Nat) (hi : i < 32) :
    (setFld w lo n v).getLsbD i = if lo ≤ i ∧ i < lo + n then v.testBit (i - lo) else w.getLsbD i := by
  have hmask : (BitVec.ofNat 32 ((2 ^ n - 1) * 2 ^ lo)).getLsbD i = decide (lo ≤ i ∧ i < lo + n) := by
    rw [BitVec.getLsbD_ofNat, Nat.testBit_mul_two_pow, Nat.testBit_two_pow_sub_one]
    by_cases hl : lo ≤ i
    · simp [hi, hl]
      omega
    · simp [hl]
  have hval : (BitVec.ofNat 32 (v * 2 ^ lo)).getLsbD i = (decide (lo ≤ i) && v.testBit (i - lo)) := by
    rw [BitVec.getLsbD_ofNat, Nat.testBit_mul_two_pow]
    simp [hi]
  simp only [setFld, BitVec.getLsbD_or, BitVec.getLsbD_and, BitVec.getLsbD_not, hmask, hval, hi]
  by_cases h : lo ≤ i ∧ i < lo + n
  · simp [h]
  · simp [h]

/-- A field written reads what was written, in its width. -/
theorem fld_setFld (w : Word) {lo n : Nat} (v : Nat) (h : lo + n ≤ 32) : fld (setFld w lo n v) lo n = v % 2 ^ n := by
  refine Nat.eq_of_testBit_eq fun i => ?_
  rw [testBit_fld, Nat.testBit_mod_two_pow]
  by_cases hi : i < n
  · rw [getLsbD_setFld w lo n v (lo + i) (by omega), if_pos (by omega), Nat.add_sub_cancel_left]
  · simp [hi]

theorem fld_one_eq_one (w : Word) (k : Nat) : fld w k 1 = 1 ↔ bit w k = true := by
  simp [fld, bitsN, bit, BitVec.getLsbD, Nat.testBit_eq_decide_div_mod_eq]

theorem bit_setBit (w : Word) {k : Nat} (hk : k < 32) : bit (setBit w k true) k = true := by
  rw [← fld_one_eq_one, setBit, fld_setFld w _ (by omega)]
  rfl

/-- Bits of the high word of a value of two words. -/
theorem bitsN_high {lo : Nat} (w : Word) (k n : Nat) (h : lo < 2 ^ 32) :
    bitsN (lo + 2 ^ 32 * w.toNat) (32 + k) n = fld w k n := by
  rw [bitsN, fld, bitsN, Nat.pow_add, ← Nat.div_div_eq_div_mul, Nat.add_mul_div_left _ _ (by decide), Nat.div_eq_of_lt h,
    Nat.zero_add]

/-- The low word of a value of two words. -/
theorem bitsN_low {lo : Nat} (w : Word) (h : lo < 2 ^ 32) : bitsN (lo + 2 ^ 32 * w.toNat) 0 32 = lo := by
  rw [bitsN, Nat.pow_zero, Nat.div_one, Nat.add_mul_mod_self_left, Nat.mod_eq_of_lt h]

theorem wordOf_mod {k : Nat} (v : Nat) (h : 32 ≤ k) : wordOf (v % 2 ^ k) = wordOf v := by
  refine BitVec.eq_of_toNat_eq ?_
  simp only [wordOf, BitVec.toNat_ofNat]
  exact Nat.mod_mod_of_dvd _ (Nat.pow_dvd_pow 2 h)

/-- The high word of a value of 64 bits. -/
theorem wordOf_high (v : Nat) : wordOf (v % 2 ^ 64 / 2 ^ 32) = wordOf (v / 2 ^ 32) := by
  rw [show 2 ^ 64 = 2 ^ 32 * 2 ^ 32 from rfl, Nat.mod_mul_right_div_self, wordOf_mod _ (Nat.le_refl 32)]

/-! ### Writes of a window -/

/-- A write that passes every check takes its effect in the region where its address lies (R54). -/
theorem State.accWrite_taken {s : State} {m : Master} {a n v : Nat} {r : Region} (hr : s.regionAt a = some r)
    (h : (s.accWrite ⟨m, a, n, v, true⟩).1 = .none) :
    s.accWrite ⟨m, a, n, v, true⟩ = (s.arbitrate m a n).regionWrite m a n (v % 2 ^ (8 * n)) r := by
  have hd : s.decode m a n = some r := by
    have h0 : s.decode m a n ≠ none := by
      intro h0
      simp [State.accWrite, h0] at h
    unfold State.decode at h0 ⊢
    rw [hr] at h0 ⊢
    simp only at h0 ⊢
    split at h0
    · rw [if_pos ‹_›]
    · exact absurd rfl h0
  unfold State.accWrite at h ⊢
  simp only [hd, Bool.not_true, Bool.false_eq_true, if_false] at h ⊢
  split at h
  case isTrue he => exact absurd h he
  case isFalse he => rw [if_neg he]

/-- A write that its master's bus carries, below the HRP page, and that passes every check: its region takes it, and its
master is answered. -/
theorem State.busWrite_taken {s : State} {m : Master} {a n v : Nat} {r : Region} (hr : s.regionAt a = some r)
    (hgo : a + 4 < Page.base .hrp) (h : s.accepts ⟨m, a, n, v, true⟩) :
    ((s.arbitrate m a n).regionWrite m a n (v % 2 ^ (8 * n)) r).1 = .none
      ∧ s.busWrite ⟨m, a, n, v, true⟩
        = ((s.arbitrate m a n).regionWrite m a n (v % 2 ^ (8 * n)) r).2.answer m .none := by
  have htaken := State.accWrite_taken hr h.2.2
  rw [State.busWrite_accepted h hgo, htaken]
  exact ⟨htaken ▸ h.2.2, rfl⟩

/-- What the fabric holds of the present cycle differs from what it held in the cycle's own records alone. -/
theorem State.fabNow_frame (s : State) :
    s.fabNow = { s.fab with
      cycle := s.fabNow.cycle, written := s.fabNow.written, flags := s.fabNow.flags, rejects := s.fabNow.rejects } := by
  unfold State.fabNow
  split <;> rfl

theorem State.fab_arbitrate (s : State) (m : Master) (a n : Nat) :
    (s.arbitrate m a n).fab = { s.fab with
      cycle := s.fabNow.cycle, written := (s.arbitrate m a n).fab.written, flags := s.fabNow.flags,
      rejects := s.fabNow.rejects } := by
  rw [State.arbitrate, State.fabNow_frame]

/-- The answer to a write whose region left the fabric alone. -/
theorem State.written_answer {s u : State} {m : Master} {a n : Nat} (base : Nat) (h : u.fab = (s.arbitrate m a n).fab) :
    Written m base s (u.answer m .none) := by
  have hfab := h.trans (s.fab_arbitrate m a n)
  have hanswer : (u.answer m .none).fab = { u.fab with resp := tabPut u.fab.resp m.id ⟨.none, 0⟩ } := rfl
  refine ⟨⟨by rw [State.lastResp_answer], fun k hk => ?_, ?_, fun k _ => ?_, fun a _ => ?_⟩, ?_⟩ <;> rw [hanswer]
  · exact (tabGet?_put_ne _ _ hk).trans (by rw [hfab])
  all_goals rw [hfab]

/-- As `State.written_answer`, for a page write, which moves its page's keyed sequence on (R69). -/
theorem State.written_setKeys {s u : State} {m : Master} {a n : Nat} (p : Page) (k : Option KeySeq)
    (h : u.fab = (s.arbitrate m a n).fab) : Written m p.base s ((u.setKeys p k).answer m .none) := by
  obtain ⟨⟨hresp, hothers, hbusy, hkeys, honce⟩, hlatch⟩ := State.written_answer p.base h
  refine ⟨⟨hresp, hothers, hbusy, fun j hj => ?_, honce⟩, hlatch⟩
  rw [← hkeys j hj]
  cases k
  case none => exact tabGet?_del_ne _ hj
  case some => exact tabGet?_put_ne _ _ hj

/-! ### Registers and the fabric alone -/

/-- `t` differs from `s` in registers and in what the fabric holds alone. -/
def RegsFab (s t : State) : Prop := t = { s with regs := t.regs, fab := t.fab }

theorem RegsFab.trans {s t u : State} (h : RegsFab s t) (h' : RegsFab t u) : RegsFab s u := by
  unfold RegsFab at h
  generalize t.regs = regs, t.fab = fab at h
  subst h
  exact h'

theorem RegsFab.refl (s : State) : RegsFab s s := rfl

theorem RegsFab.wr (s : State) (a : Nat) (w : Word) : RegsFab s (s.wr a w) := rfl

theorem RegsFab.setReg (s : State) (p : Page) (off : Nat) (w : Word) : RegsFab s (s.setReg p off w) := RegsFab.wr s _ w

theorem RegsFab.satInc (s : State) (p : Page) (off n : Nat) : RegsFab s (s.satInc p off n) := RegsFab.setReg s p off _

theorem RegsFab.wrapInc (s : State) (p : Page) (off n : Nat) : RegsFab s (s.wrapInc p off n) := RegsFab.setReg s p off _

theorem RegsFab.irqBit (s : State) (p : Page) (k : Nat) : RegsFab s (s.irqBit p k) := by
  unfold RegsFab State.irqBit State.irq State.setReg State.wr
  rfl

theorem RegsFab.arbitrate (s : State) (m : Master) (a n : Nat) : RegsFab s (s.arbitrate m a n) := rfl

theorem RegsFab.setKeys (s : State) (p : Page) (k : Option KeySeq) : RegsFab s (s.setKeys p k) := rfl

theorem RegsFab.answer (s : State) (m : Master) (r : Reason) (d : Nat) : RegsFab s (s.answer m r d) := rfl

/-! ### Registers -/

theorem State.rd_withFab (s : State) (f : Fab) (a : Nat) : ({ s with fab := f } : State).rd a = s.rd a := rfl

theorem State.rd_irqBit (s : State) (p : Page) (k a : Nat) :
    (s.irqBit p k).rd a = (s.setReg p 0x20 (s.reg p 0x20 ||| wordOf (2 ^ k))).rd a := by
  rw [State.irqBit, State.irq, State.rd_withFab]

theorem State.rd_irqBit_ne (s : State) {p : Page} {a : Nat} (k : Nat) (h : a ≠ p.base + 0x20) :
    (s.irqBit p k).rd a = s.rd a := by
  rw [State.rd_irqBit, State.rd_setReg_ne s _ h]

/-- An event bit raised stands beside those that stood. -/
theorem State.regF_irqBit (s : State) (p : Page) {j : Nat} (k : Nat) (hj : j < 32) :
    (s.irqBit p k).regF p 0x20 j 1 = 1 ↔ s.regF p 0x20 j 1 = 1 ∨ j = k := by
  have hreg : (s.irqBit p k).reg p 0x20 = s.reg p 0x20 ||| wordOf (2 ^ k) :=
    (s.rd_irqBit p k _).trans (s.reg_setReg p 0x20 _)
  have hbit : (wordOf (2 ^ k)).getLsbD j = decide (k = j) := by
    rw [wordOf, BitVec.getLsbD_ofNat, Nat.testBit_two_pow, decide_eq_true hj, Bool.true_and]
  simp only [State.regF, fld_one_eq_one, hreg, bit, BitVec.getLsbD_or, hbit, Bool.or_eq_true, decide_eq_true_eq,
    @eq_comm _ k]

theorem State.toNat_reg_satInc (s : State) (p : Page) (off n : Nat) :
    ((s.satInc p off n).reg p off).toNat = min ((s.reg p off).toNat + n) (2 ^ 32 - 1) := by
  rw [State.satInc, State.reg_setReg, sat32, wordOf, BitVec.toNat_ofNat, Nat.mod_eq_of_lt (by omega)]

theorem State.rd_satInc_ne (s : State) {p : Page} {off a : Nat} (n : Nat) (h : a ≠ p.base + off) :
    (s.satInc p off n).rd a = s.rd a := by
  rw [State.satInc, State.rd_setReg_ne s _ h]

theorem State.rd_wrapInc_ne (s : State) {p : Page} {off a : Nat} (n : Nat) (h : a ≠ p.base + off) :
    (s.wrapInc p off n).rd a = s.rd a := by
  rw [State.wrapInc, State.rd_setReg_ne s _ h]

/-- A write to a register that holds no writable bit, as one of command bits does, stores what it held (R59). -/
theorem RegDef.merge_writeOnly {d : RegDef} (hrw : d.rw = 0) (hw1c : d.w1c = 0) (old new : Word) :
    d.merge old new = old := by
  simp only [RegDef.merge, hrw, hw1c, wordOf, BitVec.and_zero, BitVec.or_zero, BitVec.not_zero,
    BitVec.and_allOnes]

theorem State.rd_setReg_self (s : State) (p : Page) (off a : Nat) : (s.setReg p off (s.reg p off)).rd a = s.rd a := by
  by_cases h : a = p.base + off
  · exact h ▸ s.reg_setReg p off _
  · exact s.rd_setReg_ne _ h

@[simp] theorem State.rd_answer (s : State) (m : Master) (r : Reason) (d a : Nat) : (s.answer m r d).rd a = s.rd a := by
  simp only [State.rd, State.answer_regs, State.answer_fuses]

@[simp] theorem State.rd_setKeys (s : State) (p : Page) (k : Option KeySeq) (a : Nat) : (s.setKeys p k).rd a = s.rd a := by
  simp only [State.rd, State.setKeys_regs, State.setKeys_fuses]

@[simp] theorem State.rd_arbitrate (s : State) (m : Master) (b n a : Nat) : (s.arbitrate m b n).rd a = s.rd a := by
  simp only [State.rd, State.arbitrate_regs, State.arbitrate_fuses]

end Sys2Proof.Machine
end

section
/-! PROOF. O32: ebbs, from the removal of pool entries and RAISE up to the commands. An accepted ebb of any scope leaves what
`EbbTook` says, so EBB_HANDLE, EBB_QUEUE and EBB_GROUP are that fact at SCOPE 0, 1 and 2. -/
namespace Sys2Proof.Machine

/-! ### A master's ebb state -/

@[simp] theorem State.ebbOf_setEbb (s : State) (m : Master) (e : EbbState) : (s.setEbb m e).ebbOf m = e := by
  simp [State.ebbOf, State.setEbb]

theorem State.setEbb_sameTab (s : State) (m : Master) (e : EbbState) : SameTab m.id s.tqf.ebb (s.setEbb m e).tqf.ebb :=
  fun _ hj => tabGet?_put_ne _ _ hj

/-- What is left where, beside a master's ebb state, registers and the fabric alone change. -/
theorem RegsFab.ebb {s t : State} {m : Master} {e : EbbState} (h : RegsFab (s.setEbb m e) t) :
    t.ebbOf m = e ∧ SameTab m.id s.tqf.ebb t.tqf.ebb ∧ t.tqf = { s.tqf with ebb := t.tqf.ebb } ∧
      t = { s with tqf := t.tqf, fab := t.fab, regs := t.regs } := by
  unfold RegsFab at h
  generalize t.regs = regs, t.fab = fab at h
  subst h
  exact ⟨s.ebbOf_setEbb m e, s.setEbb_sameTab m e, rfl, rfl⟩

theorem State.rd_setEbb (s : State) (m : Master) (e : EbbState) (a : Nat) : (s.setEbb m e).rd a = s.rd a := rfl

/-! ### Pool entries freed -/

/-- The pool entries listed are freed. -/
def State.freeAll (s : State) (gone : Tab Entry) : State := gone.foldl (fun t x => t.freeEntry x.1) s

theorem State.freeAll_frame (s : State) (gone : Tab Entry) :
    s.freeAll gone = { s with tqf := { s.tqf with pool := (s.freeAll gone).tqf.pool, gen := (s.freeAll gone).tqf.gen } } := by
  induction gone generalizing s with
  | nil => rfl
  | cons x xs ih => exact ih (s.freeEntry x.1)

theorem State.freeAll_pool (s : State) (gone : Tab Entry) :
    (s.freeAll gone).tqf.pool = s.tqf.pool.filter fun x => !gone.any fun y => y.1 = x.1 := by
  induction gone generalizing s with
  | nil => simp [State.freeAll]
  | cons y ys ih =>
    refine (ih (s.freeEntry y.1)).trans ?_
    simp only [State.freeEntry, tabDel, List.filter_filter]
    refine List.filter_congr fun x _ => ?_
    simp [eq_comm, Bool.and_comm]

/-! ### RAISE -/

/-- A queue checks epochs from the one after `epoch` on (R99). -/
def State.EpochRaised (t : State) (epoch q : Nat) : Prop :=
  fld (t.rd (qtabAddr q 4)) 8 8 = (epoch + 1) % 256 ∧ bit (t.rd (qtabAddr q 0)) 19 = true

theorem RegsFab.raiseEpoch (s : State) (epoch q : Nat) : RegsFab s (s.raiseEpoch epoch q) :=
  (RegsFab.wr s _ _).trans (RegsFab.wr _ _ _)

theorem State.raiseEpoch_sameRegs (s : State) (epoch q : Nat) :
    SameRegsBut [qtabAddr q 0, qtabAddr q 4] s (s.raiseEpoch epoch q) := by
  intro a ha
  simp only [List.mem_cons, List.not_mem_nil, or_false, not_or] at ha
  exact (State.rd_wr_ne _ _ ha.1).trans (State.rd_wr_ne _ _ ha.2)

theorem qtabAddr_four_ne_zero (q q' : Nat) : qtabAddr q 4 ≠ qtabAddr q' 0 := by
  simp only [qtabAddr]
  omega

theorem State.raiseEpoch_raised (s : State) (epoch q : Nat) : (s.raiseEpoch epoch q).EpochRaised epoch q := by
  constructor
  · rw [State.raiseEpoch, State.rd_wr_ne _ _ (qtabAddr_four_ne_zero q q), State.rd_wr]
    exact fld_setFld _ _ (by decide)
  · rw [State.raiseEpoch, State.rd_wr, bit_setBit _ (by decide)]

/-- Raising a queue again, or another one, leaves a queue raised. -/
theorem State.EpochRaised.raiseEpoch {s : State} {epoch q : Nat} (h : s.EpochRaised epoch q) (q' : Nat) :
    (s.raiseEpoch epoch q').EpochRaised epoch q := by
  by_cases hq : q' = q
  · exact hq ▸ s.raiseEpoch_raised epoch q'
  · have hsame := s.raiseEpoch_sameRegs epoch q'
    rw [State.EpochRaised, hsame _ (by simp [qtabAddr]; omega), hsame _ (by simp [qtabAddr]; omega)]
    exact h

/-- RAISE of an ebb over queues, where it is asked for. -/
def State.raiseAll (s : State) (raise : Bool) (epoch : Nat) (qs : List Nat) : State :=
  if raise then qs.foldl (fun t q => t.raiseEpoch epoch q) s else s

theorem RegsFab.raiseAll (s : State) (raise : Bool) (epoch : Nat) (qs : List Nat) :
    RegsFab s (s.raiseAll raise epoch qs) := by
  unfold State.raiseAll
  split
  case isFalse => exact RegsFab.refl s
  case isTrue =>
    induction qs generalizing s with
    | nil => exact RegsFab.refl s
    | cons q qs ih => exact (RegsFab.raiseEpoch s epoch q).trans (ih (s.raiseEpoch epoch q))

theorem State.raiseAll_sameRegs (s : State) (raise : Bool) (epoch : Nat) (qs : List Nat) :
    SameRegsBut (qs.flatMap fun q => [qtabAddr q 0, qtabAddr q 4]) s (s.raiseAll raise epoch qs) := by
  unfold State.raiseAll
  split
  case isFalse => exact fun _ _ => rfl
  case isTrue =>
    induction qs generalizing s with
    | nil => exact fun _ _ => rfl
    | cons q qs ih =>
      intro a ha
      rw [List.flatMap_cons, List.mem_append, not_or] at ha
      exact (ih (s.raiseEpoch epoch q) a ha.2).trans (s.raiseEpoch_sameRegs epoch q a ha.1)

theorem State.raiseAll_keeps {s : State} {epoch q : Nat} (h : s.EpochRaised epoch q) (qs : List Nat) :
    (s.raiseAll true epoch qs).EpochRaised epoch q := by
  induction qs generalizing s with
  | nil => exact h
  | cons q' qs ih => exact ih (h.raiseEpoch q')

theorem State.raiseAll_raised (s : State) {epoch q : Nat} {qs : List Nat} (h : q ∈ qs) :
    (s.raiseAll true epoch qs).EpochRaised epoch q := by
  induction qs generalizing s with
  | nil => cases h
  | cons q' qs ih =>
    rcases List.mem_cons.mp h with rfl | h
    · exact State.raiseAll_keeps (s.raiseEpoch_raised epoch q) qs
    · exact ih (s.raiseEpoch epoch q') h

/-! ### An accepted ebb -/

/-- The pool entries that an ebb matches and removes (R101). -/
def State.ebbGone (s : State) (scope target epoch cut : Nat) : Tab Entry :=
  s.tqf.pool.filter fun x => s.ebbMatch scope target epoch cut s.tqfNow x.1 x.2 && s.ebbRemoves s.tqfNow x.1 x.2

/-- The pool entries that an ebb matches and leaves (R101). -/
def State.ebbKept (s : State) (scope target epoch cut : Nat) : Tab Entry :=
  s.tqf.pool.filter fun x => s.ebbMatch scope target epoch cut s.tqfNow x.1 x.2 && !s.ebbRemoves s.tqfNow x.1 x.2

/-- What a master's result block will report of an accepted ebb (R102). -/
def State.ebbReport (s : State) (scope target epoch cut : Nat) : EbbState :=
  let kept := s.ebbKept scope target epoch cut
  ⟨none, none, none, true, false, scope = 0 && (s.ofHandle target).isNone, (s.ebbGone scope target epoch cut).length,
    kept.length, (minList (kept.map fun x => x.2.inst)).getD (2 ^ 64 - 1), s.tqfNow⟩

/-- The state after an ebb's removal and RAISE, before its report (R99, R101). -/
def State.ebbCleared (s : State) (raise : Bool) (scope target epoch cut : Nat) : State :=
  ({ s.freeAll (s.ebbGone scope target epoch cut) with free := s.free + poolSize } : State).raiseAll raise epoch
    (s.ebbQueues scope target)

/-- An accepted ebb in its parts: removal, RAISE, and the report that waits for the result (R99-R102). -/
theorem State.ebbApply_eq (s : State) {m : Master} {target : Nat} {lo hi : Word} (h : Word) (ht : target < 2 ^ 32)
    (hlo : (s.ebbOf m).cutLo = some lo) (hhi : (s.ebbOf m).cutHi = some hi) :
    s.ebbApply m (target + 2 ^ 32 * h.toNat)
      = ((s.ebbCleared (bit h 10) (fld h 8 2) target (fld h 0 8) (lo.toNat + 2 ^ 32 * hi.toNat)).setEbb m
          (s.ebbReport (fld h 8 2) target (fld h 0 8) (lo.toNat + 2 ^ 32 * hi.toNat))).wrapInc .ebb 0x40 := by
  have hscope : bitsN (target + 2 ^ 32 * h.toNat) 40 2 = fld h 8 2 := bitsN_high h 8 2 ht
  have hepoch : bitsN (target + 2 ^ 32 * h.toNat) 32 8 = fld h 0 8 := bitsN_high h 0 8 ht
  have hraise : (bitsN (target + 2 ^ 32 * h.toNat) 42 1 = 1) = (bit h 10 = true) := by
    rw [show 42 = 32 + 10 from rfl, bitsN_high h 10 1 ht, fld_one_eq_one]
  simp only [State.ebbApply, hscope, hepoch, hraise, bitsN_low h ht, hlo, hhi, Option.getD_some, List.filter_filter,
    Bool.and_comm (State.ebbRemoves _ _ _ _), Bool.and_comm (!State.ebbRemoves _ _ _ _)]
  rfl

section
variable (s : State) (raise : Bool) (scope target epoch cut : Nat)

theorem State.ebbCleared_frame :
    s.ebbCleared raise scope target epoch cut
      = { s with
          regs := (s.ebbCleared raise scope target epoch cut).regs
          fab := (s.ebbCleared raise scope target epoch cut).fab
          free := (s.ebbCleared raise scope target epoch cut).free
          tqf := { s.tqf with
            pool := s.tqf.pool.filter fun x => !(s.ebbGone scope target epoch cut).any fun y => y.1 = x.1
            gen := (s.ebbCleared raise scope target epoch cut).tqf.gen } } := by
  have hcleared : RegsFab { s.freeAll (s.ebbGone scope target epoch cut) with free := s.free + poolSize }
      (s.ebbCleared raise scope target epoch cut) := RegsFab.raiseAll _ raise epoch _
  unfold RegsFab at hcleared
  rw [hcleared, State.freeAll_frame, State.freeAll_pool]

theorem State.ebbCleared_sameRegs :
    SameRegsBut ((s.ebbQueues scope target).flatMap fun q => [qtabAddr q 0, qtabAddr q 4]) s
      (s.ebbCleared raise scope target epoch cut) := by
  intro a ha
  refine (State.raiseAll_sameRegs _ raise epoch _ a ha).trans ?_
  rw [State.freeAll_frame]
  rfl

/-- An ebb without RAISE leaves every register. -/
theorem State.ebbCleared_calm (a : Nat) : (s.ebbCleared false scope target epoch cut).rd a = s.rd a := by
  rw [State.ebbCleared, State.freeAll_frame]
  rfl

end

/-- What an accepted ebb of master `m` leaves of `s`: the entries it removed, its report, the queues that it raised, and all
else as it stood (R99-R102). -/
structure EbbTook (m : Master) (raise : Bool) (scope target epoch cut : Nat) (s t : State) : Prop where
  pool : t.tqf.pool = s.tqf.pool.filter fun x => !(s.ebbGone scope target epoch cut).any fun y => y.1 = x.1
  report : t.ebbOf m = s.ebbReport scope target epoch cut
  others : SameTab m.id s.tqf.ebb t.tqf.ebb
  raised : raise = true → ∀ q ∈ s.ebbQueues scope target, t.EpochRaised epoch q
  unraised : raise = false → SameRegsBut [Page.base .ebb + 0x40] s t
  regs : SameRegsBut
    ((Page.base .ebb + 0x40) :: (s.ebbQueues scope target).flatMap fun q => [qtabAddr q 0, qtabAddr q 4]) s t
  frame : t = { s with tqf := t.tqf, fab := t.fab, regs := t.regs, free := t.free }

/-- The words of the queue table lie outside the register pages. -/
theorem qtabAddr_ne_page {q off : Nat} (p : Page) (o : Nat) (hq : q < 65536) (ho : off < 16) :
    qtabAddr q off ≠ p.base + o := by
  simp only [qtabAddr, qtabBase, Page.base]
  omega

theorem State.qGroup_lt {s : State} {g q : Nat} (h : q ∈ s.qGroup g) : q < 65536 := by
  obtain ⟨hl, -⟩ := List.mem_filter.mp h
  obtain ⟨e, he, rfl⟩ := List.mem_map.mp hl
  have hrange := (List.mem_filter.mp he).2
  simp only [Bool.and_eq_true, decide_eq_true_eq] at hrange
  unfold qtabBase at hrange ⊢
  omega

/-- The effect of an ebb whose queues, where it raises them, lie in the queue table. -/
theorem State.ebbApply_took {s : State} {m : Master} {target : Nat} {lo hi : Word} (h : Word) (ht : target < 2 ^ 32)
    (hlo : (s.ebbOf m).cutLo = some lo) (hhi : (s.ebbOf m).cutHi = some hi)
    (hqs : bit h 10 = true → ∀ q ∈ s.ebbQueues (fld h 8 2) target, q < 65536) :
    EbbTook m (bit h 10) (fld h 8 2) target (fld h 0 8) (lo.toNat + 2 ^ 32 * hi.toNat) s
      (s.ebbApply m (target + 2 ^ 32 * h.toNat)) := by
  rw [s.ebbApply_eq h ht hlo hhi]
  generalize fld h 8 2 = scope at *
  generalize fld h 0 8 = epoch
  generalize lo.toNat + 2 ^ 32 * hi.toNat = cut
  generalize bit h 10 = raise at *
  have hf := s.ebbCleared_frame raise scope target epoch cut
  have hregs := s.ebbCleared_sameRegs raise scope target epoch cut
  generalize hc : s.ebbCleared raise scope target epoch cut = c at *
  have hcount {a : Nat} (ha : a ≠ Page.base .ebb + 0x40) :
      ((c.setEbb m (s.ebbReport scope target epoch cut)).wrapInc .ebb 0x40).rd a = c.rd a :=
    State.rd_wrapInc_ne _ _ ha
  constructor
  case pool =>
    rw [State.wrapInc_tqf]
    exact congrArg (·.tqf.pool) hf
  case report =>
    rw [State.ebbOf, State.wrapInc_tqf]
    exact State.ebbOf_setEbb c m _
  case others =>
    have hebb : c.tqf.ebb = s.tqf.ebb := congrArg (·.tqf.ebb) hf
    rw [State.wrapInc_tqf, ← hebb]
    exact c.setEbb_sameTab m _
  case raised =>
    rintro rfl q hq
    have hlt := hqs rfl q hq
    rw [State.EpochRaised, hcount (qtabAddr_ne_page _ _ hlt (by decide)), hcount (qtabAddr_ne_page _ _ hlt (by decide)), ← hc]
    exact State.raiseAll_raised _ hq
  case unraised =>
    rintro rfl a ha
    rw [hcount (by simpa using ha), ← hc, State.ebbCleared_calm]
  case regs =>
    intro a ha
    rw [List.mem_cons, not_or] at ha
    exact (hcount ha.1).trans (hregs a ha.2)
  case frame =>
    generalize c.regs = regs, c.fab = fab, c.free = free, c.tqf.gen = gen at hf
    subst hf
    exact RegsFab.wrapInc _ _ _ _

/-! ### Writes of EBB_CUT and EBB_CMD -/

theorem State.regionAt_ebb (s : State) {a : Nat} (h1 : 0x38100010 ≤ a) (h2 : a < 0x38100020) :
    s.regionAt a = some .ebb := by
  unfold State.regionAt
  rw [if_neg (by omega), if_neg (by simp; omega), if_neg (by simp; omega), if_neg (by simp; omega), if_neg (by simp; omega),
    if_pos (by simp; omega), if_neg (by omega), if_neg (by omega), if_pos (by simp; omega)]

theorem State.busWrite_ebb {s : State} {m : Master} {a n v : Nat} (h1 : 0x38100010 ≤ a) (h2 : a < 0x38100020)
    (h : s.accepts ⟨m, a, n, v, true⟩) :
    ((s.arbitrate m a n).ebbWrite m (a - 0x38100000) (n = 8) (v % 2 ^ (8 * n))).1 = .none
      ∧ s.busWrite ⟨m, a, n, v, true⟩
        = ((s.arbitrate m a n).ebbWrite m (a - 0x38100000) (n = 8) (v % 2 ^ (8 * n))).2.answer m .none := by
  have hgo : a + 4 < Page.base .hrp := by
    simp only [Page.base, Page.slot]
    omega
  simpa only [State.regionWrite] using State.busWrite_taken (s.regionAt_ebb h1 h2) hgo h

theorem State.ebbWrite_cut (s : State) (m : Master) (v : Nat) :
    s.ebbWrite m 0x10 true v
      = (.none, s.setEbb m { s.ebbOf m with cutLo := some (wordOf v), cutHi := some (wordOf (v / 2 ^ 32)) }) := rfl

theorem State.ebbWrite_cutLow (s : State) (m : Master) (v : Nat) :
    s.ebbWrite m 0x10 false v = (.none, s.setEbb m { s.ebbOf m with cutLo := some (wordOf v) }) := rfl

theorem State.ebbWrite_cutHigh (s : State) (m : Master) (wide : Bool) (v : Nat) :
    s.ebbWrite m 0x14 wide v = (.none, s.setEbb m { s.ebbOf m with cutHi := some (wordOf v) }) := rfl

theorem State.ebbWrite_cmdLow (s : State) (m : Master) (v : Nat) :
    s.ebbWrite m 0x18 false v = (.none, s.setEbb m { s.ebbOf m with cmdLo := some (wordOf v) }) := rfl

theorem State.ebbWrite_cmd (s : State) (m : Master) (v : Nat) :
    s.ebbWrite m 0x18 true v
      = (s.ebbReason m true v, if s.ebbReason m true v = .none then s.ebbApply m v else s) := by
  simp [State.ebbWrite]

theorem State.ebbWrite_cmdHigh {s : State} {m : Master} {low : Word} (hlow : (s.ebbOf m).cmdLo = some low) (h : Word) :
    s.ebbWrite m 0x1C false h.toNat
      = (s.ebbReason m true (low.toNat + 2 ^ 32 * h.toNat),
          if s.ebbReason m true (low.toNat + 2 ^ 32 * h.toNat) = .none then s.ebbApply m (low.toNat + 2 ^ 32 * h.toNat)
          else s) := by
  simp [State.ebbWrite, hlow, wordOf]

/-- The write that executes an ebb: EBB_CMD, or its high word `h` (R99). -/
abbrev ebbPut (m : Master) (wide : Bool) (target : Nat) (h : Word) : Access :=
  ⟨m, if wide then 0x38100018 else 0x3810001C, if wide then 8 else 4,
    if wide then target % 2 ^ 32 + 2 ^ 32 * h.toNat else h.toNat, true⟩

/-- The target of an ebb: the low word of the wide write, or the low word that was staged. -/
abbrev ebbTarget (wide : Bool) (target : Nat) (low : Word) : Nat := if wide then target % 2 ^ 32 else low.toNat

theorem ebbTarget_lt (wide : Bool) (target : Nat) (low : Word) : ebbTarget wide target low < 2 ^ 32 := by
  cases wide
  case true => exact Nat.mod_lt _ (by decide)
  case false => exact low.isLt

/-- The write of EBB_CMD, or of its high word after the low one, that passes the checks of R100. -/
theorem State.ebbCmd_taken {s : State} {m : Master} {wide : Bool} {target : Nat} {low : Word} (h : Word)
    (hlow : wide = false → (s.ebbOf m).cmdLo = some low)
    (hacc : s.accepts (ebbPut m wide target h)) :
    ∃ a n, (s.arbitrate m a n).ebbReason m true (ebbTarget wide target low + 2 ^ 32 * h.toNat) = .none
      ∧ s.ebbCmd m wide target h.toNat
        = ((s.arbitrate m a n).ebbApply m (ebbTarget wide target low + 2 ^ 32 * h.toNat)).answer m .none := by
  have hh := h.isLt
  cases wide
  case true =>
    have hv : (target % 2 ^ 32 + 2 ^ 32 * h.toNat) % 2 ^ (8 * 8) = target % 2 ^ 32 + 2 ^ 32 * h.toNat :=
      Nat.mod_eq_of_lt (by omega)
    have hw := State.busWrite_ebb (by decide) (by decide) hacc
    simp only [if_true, hv, decide_true, Nat.reduceSub, State.ebbWrite_cmd] at hw
    obtain ⟨hr, hw⟩ := hw
    rw [if_pos hr] at hw
    exact ⟨_, _, hr, hw⟩
  case false =>
    have hv : h.toNat % 2 ^ (8 * 4) = h.toNat := Nat.mod_eq_of_lt hh
    have hw := State.busWrite_ebb (by decide) (by decide) hacc
    have hlow' (a n : Nat) : ((s.arbitrate m a n).ebbOf m).cmdLo = some low := hlow rfl
    simp only [Bool.false_eq_true, if_false, hv, show decide (4 = 8) = false from rfl, Nat.reduceSub,
      State.ebbWrite_cmdHigh (hlow' _ _)] at hw
    obtain ⟨hr, hw⟩ := hw
    rw [if_pos hr] at hw
    exact ⟨_, _, hr, hw⟩

/-- What the checks of R100 say of an ebb that passes them: RAISE is for queues and groups, and a queue's number is one. -/
theorem State.ebbReason_none {s : State} {m : Master} {target : Nat} {h : Word} (ht : target < 2 ^ 32)
    (hr : s.ebbReason m true (target + 2 ^ 32 * h.toNat) = .none) :
    (fld h 8 2 = 0 → bit h 10 = false) ∧ (fld h 8 2 = 1 → target < 65536) := by
  have hscope : bitsN (target + 2 ^ 32 * h.toNat) 40 2 = fld h 8 2 := bitsN_high h 8 2 ht
  have hraise : bitsN (target + 2 ^ 32 * h.toNat) 42 1 = 1 ↔ bit h 10 = true := by
    rw [show 42 = 32 + 10 from rfl, bitsN_high h 10 1 ht, fld_one_eq_one]
  simp only [State.ebbReason, hscope, bitsN_low h ht, hraise] at hr
  obtain ⟨-, hr⟩ := (firstReason_cons_eq_none (by decide)).mp hr
  obtain ⟨-, hr⟩ := (firstReason_cons_eq_none (by decide)).mp hr
  obtain ⟨hrange, -⟩ := (firstReason_cons_eq_none (by decide)).mp hr
  simp only [Bool.or_eq_false_iff, Bool.and_eq_false_iff, decide_eq_false_iff_not] at hrange
  obtain ⟨⟨⟨-, hqueue⟩, -⟩, hhandle⟩ := hrange
  exact ⟨fun h0 => by simpa [h0] using hhandle, fun h1 => Nat.lt_succ_of_le (by simpa [h1] using hqueue)⟩

theorem State.ebbQueues_lt {s : State} {m : Master} {target q : Nat} {h : Word} (ht : target < 2 ^ 32)
    (hr : s.ebbReason m true (target + 2 ^ 32 * h.toNat) = .none) (hraise : bit h 10 = true)
    (hq : q ∈ s.ebbQueues (fld h 8 2) target) : q < 65536 := by
  obtain ⟨h0, h1⟩ := State.ebbReason_none ht hr
  unfold State.ebbQueues at hq
  split at hq
  case isTrue hscope => simp [h0 hscope] at hraise
  case isFalse =>
    split at hq
    case isTrue hscope => exact List.mem_singleton.mp hq ▸ h1 hscope
    case isFalse => exact State.qGroup_lt hq

/-- Arbitration before an ebb and the answer after it touch the fabric alone, which the ebb does not look at. -/
theorem EbbTook.answered {m : Master} {raise : Bool} {scope target epoch cut a n : Nat} {s t : State}
    (h : EbbTook m raise scope target epoch cut (s.arbitrate m a n) t) :
    EbbTook m raise scope target epoch cut s (t.answer m .none) :=
  ⟨h.pool, h.report, h.others, h.raised, h.unraised, h.regs, by rw [h.frame]; rfl⟩

/-- An ebb that is staged and accepted, over any scope. -/
theorem State.ebbCmd_took {s : State} {m : Master} {wide : Bool} {target : Nat} {lo hi low : Word} (h : Word)
    (hlo : (s.ebbOf m).cutLo = some lo) (hhi : (s.ebbOf m).cutHi = some hi)
    (hlow : wide = false → (s.ebbOf m).cmdLo = some low)
    (hacc : s.accepts (ebbPut m wide target h)) :
    EbbTook m (bit h 10) (fld h 8 2) (ebbTarget wide target low) (fld h 0 8) (lo.toNat + 2 ^ 32 * hi.toNat) s
        (s.ebbCmd m wide target h.toNat)
      ∧ ((s.ebbCmd m wide target h.toNat).lastResp m).reason = .none
      ∧ (fld h 8 2 = 0 → bit h 10 = false) := by
  obtain ⟨a, n, hr, hcmd⟩ := State.ebbCmd_taken h hlow hacc
  have ht := ebbTarget_lt wide target low
  rw [hcmd, State.lastResp_answer]
  have hlo' : ((s.arbitrate m a n).ebbOf m).cutLo = some lo := hlo
  have hhi' : ((s.arbitrate m a n).ebbOf m).cutHi = some hi := hhi
  exact ⟨(State.ebbApply_took h ht hlo' hhi' fun hraise _ hq => State.ebbQueues_lt ht hr hraise hq).answered, rfl,
    (State.ebbReason_none ht hr).1⟩

/-! ### The commands -/

/-- The write of a staging word of an ebb: the master's staging alone changes. -/
theorem State.ebbStaged {s : State} {m : Master} {a n v : Nat} {e : EbbState} (h1 : 0x38100010 ≤ a) (h2 : a < 0x38100020)
    (he : (s.arbitrate m a n).ebbWrite m (a - 0x38100000) (n = 8) (v % 2 ^ (8 * n)) = (.none, (s.arbitrate m a n).setEbb m e))
    (h : s.accepts ⟨m, a, n, v, true⟩) :
    let t := s.busWrite ⟨m, a, n, v, true⟩
    t.ebbOf m = e ∧ SameTab m.id s.tqf.ebb t.tqf.ebb ∧ t.tqf = { s.tqf with ebb := t.tqf.ebb }
      ∧ Written m 0x38000000 s t ∧ t = { s with tqf := t.tqf, fab := t.fab } := by
  have hw := (State.busWrite_ebb h1 h2 h).2
  rw [he] at hw
  simp only [hw]
  exact ⟨State.ebbOf_setEbb (s.arbitrate m a n) m e, (s.arbitrate m a n).setEbb_sameTab m e, rfl,
    State.written_answer 0x38000000 rfl, rfl⟩

theorem ebbCutStage_does : Claims.ebbCutStageDoes := by
  intro m hi wide v s e w h
  refine ⟨_, rfl, ?_⟩
  cases wide
  case true =>
    refine State.ebbStaged (by decide) (by decide) ((State.ebbWrite_cut _ m _).trans ?_) h
    simp only [if_true, Nat.reduceMul, wordOf_mod v (show 32 ≤ 64 by decide), wordOf_high]
    rfl
  case false =>
    cases hi
    case true =>
      refine State.ebbStaged (by decide) (by decide) ((State.ebbWrite_cutHigh _ m _ _).trans ?_) h
      rw [wordOf_mod v (by decide)]
      rfl
    case false =>
      refine State.ebbStaged (by decide) (by decide) ((State.ebbWrite_cutLow _ m _).trans ?_) h
      rw [wordOf_mod v (by decide)]
      rfl

theorem ebbCmdLowStage_does : Claims.ebbCmdLowStageDoes := by
  intro m v s h
  refine ⟨_, rfl, State.ebbStaged (by decide) (by decide) ((State.ebbWrite_cmdLow _ m _).trans ?_) h⟩
  rw [wordOf_mod v (by decide)]
  rfl

/-- A handle's ebb is SCOPE 0, for which the checks allow no RAISE (R100). -/
theorem ebbHandle_does : Claims.ebbHandleDoes := by
  intro m wide target high lo hi low s h to_ e cut epoch at_ hit gone kept first hlo hhi hlow hacc
  obtain ⟨took, hresp, hraise⟩ := State.ebbCmd_took h hlo hhi hlow hacc
  have hscope : fld h 8 2 = 0 := fld_setFld _ 0 (by decide)
  rw [hscope] at took
  exact ⟨_, rfl, took.pool, took.report, took.others, took.unraised (hraise hscope), hresp, took.frame⟩

/-- A queue's ebb is SCOPE 1. -/
theorem ebbQueue_does : Claims.ebbQueueDoes := by
  intro m wide target high lo hi low s h to_ e cut epoch at_ hit gone kept first qs hlo hhi hlow hacc
  obtain ⟨took, hresp, -⟩ := State.ebbCmd_took h hlo hhi hlow hacc
  have hscope : fld h 8 2 = 1 := fld_setFld _ 1 (by decide)
  rw [hscope] at took
  exact ⟨_, rfl, took.pool, took.report, took.others, took.raised, took.unraised, took.regs, hresp, took.frame⟩

/-- A group's ebb is SCOPE 2. -/
theorem ebbGroup_does : Claims.ebbGroupDoes := by
  intro m wide target high lo hi low s h to_ e cut epoch at_ hit gone kept first qs hlo hhi hlow hacc
  obtain ⟨took, hresp, -⟩ := State.ebbCmd_took h hlo hhi hlow hacc
  have hscope : fld h 8 2 = 2 := fld_setFld _ 2 (by decide)
  rw [hscope] at took
  exact ⟨_, rfl, took.pool, took.report, took.others, took.raised, took.unraised, took.regs, hresp, took.frame⟩

/-! ### QT_ERR_CLR -/

/-- QT_ERR_CLR: QT_ERR reads 0, and the register of the command bit stores what it held (R108). -/
theorem State.pageApply_qtErrClr (s : State) (m : Master) :
    s.pageApply ⟨m, .tqf, 0x58, false, 1⟩ = (s.setReg .tqf 0x58 (s.reg .tqf 0x58)).setReg .tqf 0x54 0 := by
  have hafter : s.after ⟨m, .tqf, 0x58, false, 1⟩ 0x58 = s.reg .tqf 0x58 :=
    RegDef.merge_writeOnly (d := rg 0x58 (wo := 1)) rfl rfl _ _
  have hcmd : bit (wordOf 1) 0 = true := by decide
  have honce : (regAt .tqf 0x58).any RegDef.once = false := by decide
  have hbreach : breachWord .tqf 0x58 = false := by decide
  simp [State.pageApply, State.pageEff, effTqf, State.store, State.spend, Wr.offs, Wr.hits, Wr.word, hafter, hcmd, honce,
    hbreach]

theorem qtErrClr_does : Claims.qtErrClrDoes := by
  intro m s h
  let s0 := s.arbitrate m (Page.base .tqf + 0x58) 4
  let k := s0.keyAfter ⟨m, .tqf, 0x58, false, 1⟩ true
  let s1 := s0.setReg .tqf 0x58 (s0.reg .tqf 0x58)
  have ht : s.pageWr m .tqf 0x58 1 = ((s1.setReg .tqf 0x54 0).setKeys .tqf k).answer m .none := by
    have hw : s.pageWr m .tqf 0x58 1 = s.tookPage m .tqf 0x58 4 1 := busWrite_page rfl (by decide) (by decide) h
    have happly := s0.pageApply_qtErrClr m
    rw [hw, ← happly]
    rfl
  refine ⟨_, rfl, ?_⟩
  rw [ht]
  refine ⟨fun o ho => ?_, fun a ha => ?_, State.written_setKeys (a := Page.base .tqf + 0x58) (n := 4) .tqf k ?_, ?_⟩
  · obtain rfl := List.mem_singleton.mp ho
    rw [State.reg, State.rd_answer, State.rd_setKeys]
    exact State.reg_setReg _ _ _ _
  · rw [State.rd_answer, State.rd_setKeys, State.rd_setReg_ne _ _ (List.mem_singleton.not.mp ha), State.rd_setReg_self,
      State.rd_arbitrate]
  · rw [State.setReg_fab, State.setReg_fab]
  · exact (RegsFab.arbitrate s m _ 4).trans <| (RegsFab.setReg _ _ _ _).trans <| (RegsFab.setReg _ _ _ _).trans <|
      (RegsFab.setKeys _ _ _).trans (RegsFab.answer _ _ _ _)

/-! ### EBB_RESULT_DONE -/

/-- The result block of a busy master completes: with no entry left it raises its event, else LEAK too, and counts (R102,
R109). -/
theorem State.ebbDone_eq {s : State} {m : Master} (hbusy : (s.ebbOf m).busy = true) :
    s.ebbDone m =
      let s1 := (s.setEbb m { s.ebbOf m with busy := false, done := true }).irqBit .ebb 1
      if (s.ebbOf m).leaked = 0 then s1 else (s1.irqBit .ebb 0).satInc .ebb 0x44 (s.ebbOf m).leaked := by
  rw [State.ebbDone, if_pos hbusy]

theorem ebbResultDone_does : Claims.ebbResultDoneDoes := by
  intro m s e hbusy
  refine ⟨_, rfl, ?_⟩
  have hcnt : Page.base .ebb + 0x44 ≠ Page.base .ebb + 0x20 := by decide
  let b := s.setEbb m { e with busy := false, done := true }
  have hb1 := RegsFab.irqBit b .ebb 1
  have hdone := (b.regF_irqBit .ebb 1 (by decide)).mpr (.inr rfl)
  have hkept {a : Nat} (ha : a ≠ Page.base .ebb + 0x20) : (b.irqBit .ebb 1).rd a = s.rd a :=
    (b.rd_irqBit_ne 1 ha).trans (s.rd_setEbb m _ a)
  by_cases h0 : e.leaked = 0
  case pos =>
    have ht : s.ebbDone m = b.irqBit .ebb 1 := (State.ebbDone_eq hbusy).trans (if_pos h0)
    obtain ⟨hebb, hothers, htqf, hframe⟩ := hb1.ebb
    rw [ht]
    exact ⟨hebb, hdone, fun h => absurd h (by rw [h0]; decide), fun _ => hkept hcnt,
      fun _ ha => hkept (List.ne_of_not_mem_cons ha), hothers, htqf, hframe⟩
  case neg =>
    let l := (b.irqBit .ebb 1).irqBit .ebb 0
    have ht : s.ebbDone m = l.satInc .ebb 0x44 e.leaked := (State.ebbDone_eq hbusy).trans (if_neg h0)
    have hbt := (hb1.trans (RegsFab.irqBit _ .ebb 0)).trans (RegsFab.satInc l .ebb 0x44 e.leaked)
    obtain ⟨hebb, hothers, htqf, hframe⟩ := hbt.ebb
    have hl {a : Nat} (ha : a ≠ Page.base .ebb + 0x20) : l.rd a = s.rd a :=
      (State.rd_irqBit_ne _ 0 ha).trans (hkept ha)
    have hirq (k : Nat) : (l.satInc .ebb 0x44 e.leaked).regF .ebb 0x20 k 1 = l.regF .ebb 0x20 k 1 := by
      rw [State.regF, State.reg, State.rd_satInc_ne _ _ hcnt.symm, State.regF, State.reg]
    rw [ht]
    refine ⟨hebb, (hirq 1).trans ?_, fun _ => ⟨(hirq 0).trans ?_, ?_⟩, fun h => absurd h h0, fun a ha => ?_, hothers,
      htqf, hframe⟩
    · exact (State.regF_irqBit _ .ebb 0 (by decide)).mpr (.inl hdone)
    · exact (State.regF_irqBit _ .ebb 0 (by decide)).mpr (.inr rfl)
    · rw [State.toNat_reg_satInc, State.reg, hl hcnt, State.reg]
    · obtain ⟨hirqRaw, hleak⟩ := List.ne_and_not_mem_of_not_mem_cons ha
      exact (State.rd_satInc_ne _ _ (List.ne_of_not_mem_cons hleak)).trans (hl hirqRaw)

/-- Settles O32: staging writes one word of the master's ebb state; an accepted ebb leaves what `EbbTook` says for its scope; the
result and QT_ERR_CLR change registers alone beside it. -/
theorem ebbs : Obligations.Ebbs :=
  ⟨ebbCutStage_does, ebbCmdLowStage_does, ebbHandle_does, ebbQueue_does, ebbGroup_does, qtErrClr_does, ebbResultDone_does⟩

end Sys2Proof.Machine
end

section
/-! PROOF. O33: pin functions. An entry that is due is taken from the box and handed to its pin's function (R111); a payload that
the function does not define makes no action (R115); every other step of a function is an update of its pins. -/
namespace Sys2Proof.Machine

/-! ### Entries at their instant -/

/-- An entry that is due is taken from the box and goes to the pin's function (R111). -/
theorem State.actOn_due {s : State} {port chan f : Nat} {e : PortEntry} (g : State → PortEntry → State)
    (h : s.entryDue port chan f e) : s.actOn port chan f g = g (s.took e) e := by
  obtain ⟨hdue, hfunc, hfree⟩ := h
  have htake : s.takeDue port chan = some (e, s.took e) := by
    rw [State.takeDue, hdue]
    rfl
  have hdefault : ¬ (s.bw.defaults && holdUpPort port) = true := by rwa [Bool.and_eq_true]
  simp only [State.actOn, htake, if_neg hdefault, if_pos hfunc]

/-- An undefined payload is counted, marked and reported, and nothing else changes (R115, R129). -/
theorem State.badPayload_noAction (s : State) (port : Nat) : NoAction port s (s.badPayload port) := by
  let p := pinPage port
  let evt := p.base + pinOff port 0x24
  let counted := s.satInc p 0x58
  let marked := counted.setReg p (pinOff port 0x24) (setBit (s.pinWord port 0x24) 0 true)
  obtain ⟨hce, hci, hei⟩ : p.base + 0x58 ≠ evt ∧ p.base + 0x58 ≠ p.base + 0x20 ∧ evt ≠ p.base + 0x20 := by
    simp only [evt, pinOff]
    omega
  refine ⟨?_, ?_, (marked.regF_irqBit p 2 (by decide)).mpr (.inr rfl), fun a ha => ?_, ?_⟩
  · rw [State.badPayload, State.reg, State.rd_irqBit_ne _ _ hci, State.rd_setReg_ne _ _ hce]
    exact s.toNat_reg_satInc p 0x58 1
  · rw [State.pinWord, State.badPayload, State.reg, State.rd_irqBit_ne _ _ hei]
    exact (congrArg (bit · 0) (counted.reg_setReg p _ _)).trans (bit_setBit _ (by decide))
  · obtain ⟨hc, hi, he⟩ : a ≠ p.base + 0x58 ∧ a ≠ p.base + 0x20 ∧ a ≠ evt := by
      simpa only [List.mem_cons, List.not_mem_nil, or_false, not_or] using ha
    rw [State.badPayload, State.rd_irqBit_ne _ _ hi, State.rd_setReg_ne _ _ he, State.rd_satInc_ne _ _ hc]
  · exact (RegsFab.satInc s p 0x58 1).trans ((RegsFab.setReg counted p _ _).trans (RegsFab.irqBit marked p 2))

/-- A command whose entry is due, with a payload that the function does not define. -/
theorem ends_noAction_of_due {i : Instr} {s : State} {port chan f : Nat} {e : PortEntry} {g : State → PortEntry → State}
    (hexec : exec i s = .next (s.actOn port chan f g)) (h : s.entryDue port chan f e)
    (hbad : g (s.took e) e = (s.took e).badPayload port) : Ends i s fun t => NoAction port (s.took e) t :=
  ⟨_, hexec, by rw [State.actOn_due g h, hbad]; exact State.badPayload_noAction _ port⟩

/-- A command whose entry is due, with what its function makes of the entry. -/
theorem exec_of_due {i : Instr} {s t : State} {port chan f : Nat} {e : PortEntry} {g : State → PortEntry → State}
    (hexec : exec i s = .next (s.actOn port chan f g)) (h : s.entryDue port chan f e)
    (hdoes : g (s.took e) e = t) : exec i s = .next t := by
  rw [hexec, State.actOn_due g h, hdoes]

/-! ### Levels and pulses -/

/-- What a payload of a LEVEL entry drives on a pin, for the four that are defined (R116). -/
def State.levelOf (s : State) (port : Nat) (x : Word) : Drive :=
  if x = 0 then .low else if x = 1 then .high
  else if x = 2 then (if (s.pin port).drive = .high then .low else .high) else s.pinIdle port

theorem State.levelAction_defined (s : State) (port : Nat) {x : Word} (hx : x.toNat ≤ 3) :
    s.levelAction port x = s.drivePin port (s.levelOf port x) := by
  obtain rfl | rfl | rfl | rfl : x = 0 ∨ x = 1 ∨ x = 2 ∨ x = 3 := by bv_omega
  all_goals rfl

theorem State.levelAction_undefined (s : State) (port : Nat) {x : Word} (hx : 3 < x.toNat) :
    s.levelAction port x = s.badPayload port := by
  simp only [State.levelAction]
  rw [if_neg, if_neg, if_neg, if_neg] <;> omega

theorem levelAction_does : Claims.levelActionDoes := by
  intro port e s p x d hdue
  exact ⟨fun hx => exec_of_due rfl hdue (State.levelAction_defined _ port hx),
    fun hx => ends_noAction_of_due rfl hdue (State.levelAction_undefined _ port hx)⟩

/-- A pulse begins: a running one is replaced, and the level to return to stays that before the first (R117). -/
theorem State.pulseAt_eq (s : State) (port : Nat) (level : Bool) (i w : Nat) :
    s.pulseAt port level i w = s.setPin port { s.pin port with
      drive := levelDrive level, acted := true
      pulse := some ⟨level, i + w, match (s.pin port).pulse with | some q => q.back | none => (s.pin port).drive⟩ } := by
  unfold State.pulseAt
  cases h : (s.pin port).pulse <;> simp only [h]

theorem pulseStart_does : Claims.pulseStartDoes := by
  intro port e s p w lv back hdue
  exact ⟨fun hw => exec_of_due rfl hdue ((if_neg (Nat.not_lt.mpr hw)).trans (State.pulseAt_eq _ port lv e.inst w)),
    fun hw => ends_noAction_of_due rfl hdue (if_pos hw)⟩

theorem State.pulseEnd_due {s : State} {port : Nat} {q : Pulse} (hq : (s.pin port).pulse = some q) (hends : q.ends ≤ s.now) :
    s.pulseEnd port = s.setPin port { s.pin port with drive := q.back, pulse := none } := by
  simp only [State.pulseEnd, hq, if_pos hends]

theorem pulseEnd_does : Claims.pulseEndDoes := by
  intro port q s p hfunc hq hends
  exact congrArg Host.Outcome.next ((if_pos hfunc).trans (State.pulseEnd_due hq hends))

theorem triggerPulseEnd_does : Claims.triggerPulseEndDoes := by
  intro port q s p hfunc hq hends
  exact congrArg Host.Outcome.next ((if_pos hfunc).trans (State.pulseEnd_due hq hends))

/-! ### PWM -/

theorem pwmDutyEntry_does : Claims.pwmDutyEntryDoes := by
  intro port e s p v hi hdue
  exact ⟨fun hz => exec_of_due rfl hdue (if_neg (not_not.mpr hz)),
    fun hz => ends_noAction_of_due rfl hdue (if_pos hz)⟩

theorem pwmPeriodEntry_does : Claims.pwmPeriodEntryDoes := by
  intro port e s p v hi hdue
  have hbad : (decide (hi ≠ 0) || decide (v < 160)) = true ↔ hi ≠ 0 ∨ v < 160 := by
    rw [Bool.or_eq_true, decide_eq_true_eq, decide_eq_true_eq]
  exact ⟨fun hz hv => exec_of_due rfl hdue (if_neg fun h => (hbad.mp h).elim (· hz) (Nat.not_lt.mpr hv)),
    fun h => ends_noAction_of_due rfl hdue (if_pos (hbad.mpr h))⟩

theorem State.pwmEntry_start (s : State) (port i : Nat) :
    s.pwmEntry port 2 i 1 = if (s.pin port).pwm.run then s
      else if (s.pin port).pwm.prePeriod < 160 then s.badPayload port else s.pwmPeriod port i := rfl

theorem State.pwmEntry_stop (s : State) (port i : Nat) :
    s.pwmEntry port 2 i 0 = s.setPin port { s.pin port with
      drive := s.pinIdle port, pwm := { (s.pin port).pwm with run := false, active := false } } := rfl

theorem pwmRunEntry_does : Claims.pwmRunEntryDoes := by
  intro port e s p hdue
  refine ⟨fun hx hrun hper => exec_of_due rfl hdue ?_, fun hx hrun => exec_of_due rfl hdue ?_,
    fun hx => exec_of_due rfl hdue ?_, fun hx => ends_noAction_of_due rfl hdue (if_pos hx)⟩
  · have hstart : (s.took e).pwmEntry port 2 e.inst 1 = (s.took e).pwmPeriod port e.inst :=
      (if_neg (Bool.eq_false_iff.mp hrun)).trans (if_neg (Nat.not_lt.mpr hper))
    rw [hx, hstart]
    rfl
  · rw [hx, State.pwmEntry_start]
    exact if_pos hrun
  · rw [hx, State.pwmEntry_stop]
    rfl

/-- A running output's next period, once its instant has come (R118). -/
theorem pwmPeriodStart_does : Claims.pwmPeriodStartDoes := by
  intro port s p on next hrun hdue
  have hgo : (p.pwm.run && decide (next ≤ s.now)) = true := by
    rw [hrun, decide_eq_true hdue]; rfl
  exact congrArg Host.Outcome.next (if_pos hgo)

theorem pwmDutyEnd_does : Claims.pwmDutyEndDoes := by
  intro port s p hrun hactive hduty hdue
  have hgo : (p.pwm.run && p.pwm.active && decide (p.pwm.duty < p.pwm.period)
      && decide (p.pwm.start + p.pwm.duty ≤ s.now)) = true := by
    rw [hrun, hactive, decide_eq_true hduty, decide_eq_true hdue]; rfl
  exact congrArg Host.Outcome.next (if_pos hgo)

/-! ### Step and direction -/

@[simp] theorem State.pin_setPin (s : State) (port : Nat) (p : Pin) : (s.setPin port p).pin port = p := tabGet_put _ _ _ _

theorem State.pin_setPin_ne (s : State) {port q : Nat} (p : Pin) (h : q ≠ port) : (s.setPin port p).pin q = s.pin q :=
  tabGet_put_ne _ _ _ h

/-- The first pin of a STEPDIR pair once a segment entry has come: its direction, and the segment, whose first step follows
the direction's set-up time and a running step (R119). -/
def State.segmentPin (s : State) (port i : Nat) (x : Word) : Pin :=
  let p := s.pin port
  let set := if bit x 31 != p.dir then i + fld (s.pinWord port 8) 0 24 else i
  let first := match p.stepEnd with | some e => max set e | none => set
  { p with dir := bit x 31, seg := if fld x 0 31 = 0 then none else some ⟨bit x 31, fld x 0 31, first, 0⟩ }

/-- A STEPDIR entry's interval is one that the pin's pulse width allows (R119). -/
def State.SegmentOk (s : State) (port : Nat) (x : Word) : Prop :=
  fld x 0 31 = 0 ∨ 40 ≤ fld (s.pinWord port 4) 0 16 ∧ 32 * fld (s.pinWord port 4) 0 16 ≤ fld x 0 31

theorem State.stepSegment_undefined {s : State} {port : Nat} (i : Nat) {x : Word} (h : ¬ s.SegmentOk port x) :
    s.stepSegment port i x = s.badPayload port := by
  refine if_pos ?_
  unfold State.SegmentOk at h
  simp only [Bool.and_eq_true, Bool.or_eq_true, decide_eq_true_eq]
  omega

theorem State.stepSegment_defined {s : State} {port : Nat} (i : Nat) {x : Word} (h : s.SegmentOk port x) :
    s.stepSegment port i x = if bit x 31 != (s.pin port).dir
      then (s.setPin port (s.segmentPin port i x)).drivePin (port + 1) (levelDrive (bit x 31))
      else s.setPin port (s.segmentPin port i x) := by
  refine (if_neg ?_).trans ?_
  · unfold State.SegmentOk at h
    simp only [Bool.and_eq_true, Bool.or_eq_true, decide_eq_true_eq]
    omega
  · cases hend : (s.pin port).stepEnd <;> simp only [State.segmentPin, hend, bne_iff_ne]

theorem stepdirSegment_does : Claims.stepdirSegmentDoes := by
  intro port e s p n dir turn w set first seg hdue
  refine ⟨fun hok => ?_, fun hbad => ends_noAction_of_due rfl hdue (State.stepSegment_undefined e.inst hbad)⟩
  refine ⟨_, exec_of_due rfl hdue (State.stepSegment_defined e.inst hok), ?_⟩
  have hturn : (bit e.payload 31 != ((s.took e).pin port).dir) = turn := rfl
  have hpin : (s.took e).segmentPin port e.inst e.payload = { p with dir := dir, seg := seg } := rfl
  rw [hturn, hpin]
  cases turn
  case false =>
    exact ⟨State.pin_setPin _ _ _, fun h => absurd h (by decide), fun q hq => tabGet?_put_ne _ _ (by simpa using hq), rfl⟩
  case true =>
    have hne : port ≠ port + 1 := by omega
    refine ⟨?_, fun _ => ?_, fun q hq => ?_, rfl⟩
    · exact (State.pin_setPin_ne _ _ hne).trans (State.pin_setPin _ _ _)
    · refine (State.pin_setPin _ _ _).trans ?_
      rw [State.pin_setPin_ne _ _ hne.symm]
      rfl
    · obtain ⟨h1, h2⟩ : q ≠ port ∧ q ≠ port + 1 := by simpa using hq
      exact (tabGet?_put_ne _ _ h2).trans (tabGet?_put_ne _ _ h1)

theorem stepEdge_does : Claims.stepEdgeDoes := by
  intro port g s p due hseg hdue
  refine congrArg Host.Outcome.next ?_
  simp only [State.stepEdge, show (s.pin port).seg = some g from hseg]
  exact if_pos hdue

theorem stepPulseEnd_does : Claims.stepPulseEndDoes := by
  intro port at_ s p hend hdue
  refine congrArg Host.Outcome.next ?_
  simp only [State.stepPulseEnd, show (s.pin port).stepEnd = some at_ from hend, if_pos hdue]
  rfl

/-- Settles O33: an entry that is due goes to its pin's function, and each function's step is the pin's update that its rule
gives, or no action. -/
theorem pinFunctions : Obligations.PinFunctions :=
  ⟨levelAction_does, pulseStart_does, pulseEnd_does, triggerPulseEnd_does, pwmDutyEntry_does, pwmPeriodEntry_does,
    pwmRunEntry_does, pwmPeriodStart_does, pwmDutyEnd_does, stepdirSegment_does, stepEdge_does, stepPulseEnd_does⟩

end Sys2Proof.Machine
end

section
/-! PROOF. O34 and O36 fail, each for a premise that one of its claims lacks. PIN_COUNT_READ does not ask that the pin's page is
present: an absent page serves a read, reads 0 and latches nothing (R6). CYCLIC_FRAME does not ask that its number is one of the
48 segments of R8: a higher one names a TSN port, and a frame there goes to a destination of that port and not to a segment's
multicast address (R138). -/
namespace Sys2Proof.Machine

/-- A D9128 as reset leaves it, which has timed I/O banks 0 to 2 alone (R9); the power domain of banks 1 to 4 is on. -/
def absentBank : State :=
  { State.reset with
    fuses := { State.reset.fuses with kind := .d9128 }
    domains := [(4, .on)] }

/-- Pin 96 lies in bank 3, whose page is absent though its domain is on: a read of its CNT_LO is served, and leaves no latch. -/
theorem absentBank_cnt_unlatched :
    (pinPage 96).present absentBank.fuses = false
      ∧ absentBank.pageRuns (pinPage 96) = true
      ∧ absentBank.serves (readOf .headland (pinPage 96) (pinOff 96 0x28) false)
      ∧ (absentBank.pageRd .headland (pinPage 96) (pinOff 96 0x28) false).latchOf Master.headland.id (pinPage 96).base
        = none := by
  decide +kernel

/-- Refutes O34: PIN_COUNT_READ of a pin of an absent bank latches no high word. -/
theorem not_pinRegisters : ¬ Obligations.PinRegisters := by
  rintro ⟨-, -, -, hread, -⟩
  obtain ⟨-, hruns, hserves, hnone⟩ := absentBank_cnt_unlatched
  obtain ⟨t, ht, -, hlatched, -⟩ := hread .headland 96 false absentBank hserves (by decide) hruns
  obtain rfl : absentBank.pageRd .headland (pinPage 96) (pinOff 96 0x28) false = t := Host.Outcome.next.inj ht
  rw [Latched, hnone] at hlatched
  cases hlatched

/-- As reset leaves the part, but that its ports are released and TSN port 12, network port 508, is up. -/
def tsnLinkUp : State :=
  { State.reset with
    boot := { State.reset.boot with released := true, firmware := true }
    regs := [(Page.base (.tsn 12) + 0x44, 1)] }

/-- Number 60 as a segment's names port 508. Where that segment's cycle would stand lies GCL_LEN of TSN port 0, which reads 1, so
that every instant is a slot; the frame that is sent goes to the port's first destination, which reads 0. -/
theorem tsnLinkUp_cyclicFrame :
    tsnLinkUp.netRuns (448 + 60) = true
      ∧ tsnLinkUp.isSlot 60 0 = true
      ∧ (tsnLinkUp.netPort (448 + 60)).lastSlot ≠ some 0
      ∧ ((tsnLinkUp.cyclicFrame 60 0 0).netPort (448 + 60)).lastHead.map EthHead.dst = some 0 := by
  decide +kernel

/-- Refutes O36: the claim for CYCLIC_FRAME of number 60 gives a multicast address that ends in 60, and the frame goes to 0. -/
theorem not_networkSending : ¬ Obligations.NetworkSending := by
  rintro ⟨hcyclic, -⟩
  obtain ⟨hruns, hslot, hfirst, hdst⟩ := tsnLinkUp_cyclicFrame
  obtain ⟨t, ht, hport, -⟩ := hcyclic 60 0 0 tsnLinkUp hruns hslot (Nat.zero_le _) hfirst
  obtain rfl : tsnLinkUp.cyclicFrame 60 0 0 = t := Host.Outcome.next.inj ht
  rw [hport] at hdst
  exact Nat.succ_ne_zero _ (Option.some.inj hdst)

end Sys2Proof.Machine
end

section
/-! PROOF. O41 fails for a premise that LINE_INTAKE and CAMERA_DISABLE lack. Both say that VC 0 of the camera's link has returned as
many credits more as the lines that left its buffer held (R217, R250). A link counts them at place 0 of a list by VC, and `listSet`
writes only a place that the list has; neither claim asks that the list has one. -/
namespace Sys2Proof.Machine

/-- A line of one pixel that holds three credits. -/
def narrowLine : GhLine := ⟨7, 0, [1], 3⟩

/-- As reset leaves the part, but that camera 0 has EN = 1 with its WIDTH still 0, and a line of one pixel waits on its link 0,
whose lists of counts by VC are empty. -/
def uncountedLink : State :=
  { State.reset with
    regs := [(Page.base (.surfG 0) + 0x800, 1)]
    gh := { State.reset.gh with inl := [(0, ⟨[], [narrowLine], [], [], [], 0, [], 0, []⟩)] } }

/-- The line is not of its camera's width: LINE_INTAKE discards it, and its three credits are counted nowhere. -/
theorem uncountedLink_lineIntake :
    uncountedLink.camEn 0 = true
      ∧ fld (uncountedLink.camCfg 0) 1 5 = 0
      ∧ (uncountedLink.inLink 0).lines = [narrowLine]
      ∧ (uncountedLink.inLink 0).freed.getD 0 0 = 0
      ∧ narrowLine.pixels.length ≠ uncountedLink.camWidth 0
      ∧ ((uncountedLink.lineIntake 0).inLink 0).lines = []
      ∧ ((uncountedLink.lineIntake 0).inLink 0).freed.getD 0 0 = 0 := by
  decide +kernel

/-- Refutes O41: a line that LINE_INTAKE discards returns none of its credits to a link without a count for VC 0. -/
theorem not_surfLines : ¬ Obligations.SurfLines := by
  rintro ⟨-, -, -, hintake, -⟩
  obtain ⟨hen, hlink, hlines, hbefore, hwidth, -, hafter⟩ := uncountedLink_lineIntake
  obtain ⟨hbad, -⟩ := hintake 0 narrowLine [] uncountedLink (by rw [hlink]; exact hlines) (by decide) hen
  obtain ⟨t, ht, ⟨-, hcount, -⟩, -⟩ := hbad (decide_eq_false fun hfits => hwidth hfits.1)
  obtain rfl : uncountedLink.lineIntake 0 = t := Host.Outcome.next.inj ht
  rw [hlink, hafter, hbefore] at hcount
  exact absurd hcount (by decide)

end Sys2Proof.Machine
end

section
/-! SUPPORT. Ghery links: where the registers of links and lanes lie, what the writes of a register and of a link's own state
leave, and fields beside the one that is written. -/
namespace Sys2Proof.Machine

/-! ### Addresses -/

theorem base_inPage (l : Nat) : (inPage l).base = 0x40088000 + l / 8 * 0x1000 := by
  simp only [inPage, Page.base, Page.slot]
  omega

theorem base_rxPage (i : Nat) : (rxPage i).base = 0x40080000 + i / 4 * 0x1000 := by
  simp only [rxPage, Page.base, Page.slot]

theorem base_surfG (g : Nat) : Page.base (.surfG g) = 0x40070000 + 2 * g * 0x1000 := by
  simp only [Page.base, Page.slot]

/-! ### Registers under the writes of one register -/

theorem State.reg_setReg_ne (s : State) {p q : Page} {off o : Nat} (w : Word) (h : q.base + o ≠ p.base + off) :
    (s.setReg p off w).reg q o = s.reg q o := s.rd_setReg_ne w h

theorem State.rd_setRegF_ne (s : State) {p : Page} {off lo n a : Nat} (v : Nat) (h : a ≠ p.base + off) :
    (s.setRegF p off lo n v).rd a = s.rd a := s.rd_setReg_ne _ h

theorem State.reg_setRegF (s : State) (p : Page) (off lo n v : Nat) :
    (s.setRegF p off lo n v).reg p off = setFld (s.reg p off) lo n v := s.reg_setReg p off _

theorem State.rd_satIncF_ne (s : State) {p : Page} {off lo n a : Nat} (v : Nat) (h : a ≠ p.base + off) :
    (s.satIncF p off lo n v).rd a = s.rd a := s.rd_setRegF_ne _ h

theorem State.rd_setReg64_ne (s : State) {p : Page} {off a : Nat} (v : Nat) (h : a ≠ p.base + off)
    (h' : a ≠ p.base + (off + 4)) : (s.setReg64 p off v).rd a = s.rd a :=
  (State.rd_setReg_ne _ _ h').trans (s.rd_setReg_ne _ h)

theorem State.reg64_setReg64 (s : State) (p : Page) (off v : Nat) : (s.setReg64 p off v).reg64 p off = v % 2 ^ 64 := by
  have hlow : (s.setReg64 p off v).reg p off = wordOf v :=
    (State.rd_setReg_ne _ _ (by omega)).trans (s.reg_setReg p off _)
  have hhigh : (s.setReg64 p off v).reg p (off + 4) = wordOf (v / 2 ^ 32) := State.reg_setReg _ p _ _
  rw [State.reg64, hlow, hhigh]
  simp only [wordOf, BitVec.toNat_ofNat]
  omega

theorem State.reg_wrapInc (s : State) (p : Page) (off n : Nat) :
    (s.wrapInc p off n).reg p off = s.reg p off + wordOf n := s.reg_setReg p off _

/-- A register elsewhere stands when an event bit is raised. -/
theorem State.reg_irqBit_ne (s : State) {p : Page} {off : Nat} (k : Nat) (h : off ≠ 0x20) :
    (s.irqBit p k).reg p off = s.reg p off := s.rd_irqBit_ne k (by omega)

/-- The event bit that is raised stands. -/
theorem State.regF_irqBit_self (s : State) (p : Page) {k : Nat} (h : k < 32) : (s.irqBit p k).regF p 0x20 k 1 = 1 :=
  (s.regF_irqBit p k h).2 (.inr rfl)

@[simp] theorem State.irqBit_gh (s : State) (p : Page) (k : Nat) : (s.irqBit p k).gh = s.gh := rfl

@[simp] theorem State.rd_setIn (s : State) (l : Nat) (x : InLink) (a : Nat) : (s.setIn l x).rd a = s.rd a := rfl
@[simp] theorem State.rd_setTx (s : State) (k : Nat) (x : TxLink) (a : Nat) : (s.setTx k x).rd a = s.rd a := rfl

theorem State.inLink_of_gh {s u : State} (h : u.gh = s.gh) (l : Nat) : u.inLink l = s.inLink l := by
  rw [State.inLink, State.inLink, h]

theorem State.txLink_of_gh {s u : State} (h : u.gh = s.gh) (k : Nat) : u.txLink k = s.txLink k := by
  rw [State.txLink, State.txLink, h]

theorem State.rxLane_of_gh {s u : State} (h : u.gh = s.gh) (i : Nat) : u.rxLane i = s.rxLane i := by
  rw [State.rxLane, State.rxLane, h]

@[simp] theorem State.inLink_irqBit (s : State) (p : Page) (k : Nat) (l : Nat) :
    (s.irqBit p k).inLink l = s.inLink l := rfl

@[simp] theorem State.txLink_setReg (s : State) (p : Page) (off : Nat) (w : Word) (j : Nat) :
    (s.setReg p off w).txLink j = s.txLink j := rfl
@[simp] theorem State.txLink_setRegF (s : State) (p : Page) (off lo n v : Nat) (j : Nat) :
    (s.setRegF p off lo n v).txLink j = s.txLink j := rfl
@[simp] theorem State.txLink_satInc (s : State) (p : Page) (off n : Nat) (j : Nat) :
    (s.satInc p off n).txLink j = s.txLink j := rfl
@[simp] theorem State.txLink_irqBit (s : State) (p : Page) (k : Nat) (j : Nat) :
    (s.irqBit p k).txLink j = s.txLink j := rfl
@[simp] theorem State.txLink_clearRegs (s : State) (lo hi : Nat) (j : Nat) :
    (s.clearRegs lo hi).txLink j = s.txLink j := rfl

@[simp] theorem State.inLink_setIn (s : State) (l : Nat) (x : InLink) : (s.setIn l x).inLink l = x := tabGet_put _ _ _ _
@[simp] theorem State.txLink_setTx (s : State) (k : Nat) (x : TxLink) : (s.setTx k x).txLink k = x := tabGet_put _ _ _ _
@[simp] theorem State.rxLane_setRx (s : State) (i : Nat) (x : RxLane) : (s.setRx i x).rxLane i = x := tabGet_put _ _ _ _

theorem State.rxLane_setRx_ne (s : State) {i j : Nat} (x : RxLane) (h : j ≠ i) : (s.setRx i x).rxLane j = s.rxLane j :=
  tabGet_put_ne _ _ _ h

/-- Of two values listed at a number the later one stands. -/
theorem tabPut_put {α : Type} (t : Tab α) (k : Nat) (v w : α) : tabPut (tabPut t k v) k w = tabPut t k w := by
  induction t with
  | nil => simp [tabPut]
  | cons e t ih =>
    simp only [tabPut]
    split
    · simp [tabPut]
    · split
      · simp [tabPut]
      · simp only [tabPut, ih, if_neg ‹¬ k < e.1›, if_neg ‹¬ k = e.1›]

theorem State.setIn_setIn (s : State) (l : Nat) (x y : InLink) : (s.setIn l x).setIn l y = s.setIn l y := by
  simp only [State.setIn, tabPut_put]

theorem State.setTx_setTx (s : State) (k : Nat) (x y : TxLink) : (s.setTx k x).setTx k y = s.setTx k y := by
  simp only [State.setTx, tabPut_put]

theorem sameTab_put {α : Type} (t : Tab α) (k : Nat) (v : α) : SameTab k t (tabPut t k v) :=
  fun _ h => tabGet?_put_ne t v h

theorem sameTab_setIn {s u : State} (h : u.gh = s.gh) (l : Nat) (x : InLink) : SameTab l s.gh.inl (u.setIn l x).gh.inl :=
  h ▸ sameTab_put u.gh.inl l x

theorem sameTab_setTx {s u : State} (h : u.gh = s.gh) (k : Nat) (x : TxLink) : SameTab k s.gh.tx (u.setTx k x).gh.tx :=
  h ▸ sameTab_put u.gh.tx k x

theorem SameTab.trans {α : Type} {k : Nat} {a b c : Tab α} (h : SameTab k a b) (h' : SameTab k b c) : SameTab k a c :=
  fun j hj => (h' j hj).trans (h j hj)

theorem getD_listSet (xs : List Nat) {v : Nat} (y : Nat) (h : v < xs.length) : (listSet xs v y).getD v 0 = y := by
  induction xs generalizing v with
  | nil => cases h
  | cons x xs ih =>
    cases v with
    | zero => rfl
    | succ v => exact ih (Nat.lt_of_succ_lt_succ h)

/-! ### Registers of one link -/

theorem State.inReg_satInc_ne (s : State) (l : Nat) {r o : Nat} (n : Nat) (h : r ≠ o) :
    (s.satInc (inPage l) (inOff l o) n).inReg l r = s.inReg l r := s.rd_satInc_ne n (by unfold inOff; omega)

theorem outOff_inj {k r o : Nat} (h : outOff k r = outOff k o) : r = o := by
  unfold outOff at h
  omega

theorem State.outReg_setTx (s : State) (k j : Nat) (x : TxLink) (r : Nat) : (s.setTx j x).outReg k r = s.outReg k r := rfl

theorem State.outReg_setReg (s : State) (k r : Nat) (w : Word) : (s.setReg .ghOutL (outOff k r) w).outReg k r = w :=
  s.reg_setReg _ _ _

theorem State.outReg_setReg_ne (s : State) (k : Nat) {r o : Nat} (w : Word) (h : r ≠ o) :
    (s.setReg .ghOutL (outOff k o) w).outReg k r = s.outReg k r :=
  s.rd_setReg_ne w fun he => h (outOff_inj (Nat.add_left_cancel he))

theorem State.outReg_satInc_ne (s : State) (k : Nat) {r o : Nat} (n : Nat) (h : r ≠ o) :
    (s.satInc .ghOutL (outOff k o) n).outReg k r = s.outReg k r := s.outReg_setReg_ne k _ h

/-! ### Errors of a receiver -/

theorem inOff_ne_raw (l r : Nat) : inOff l r ≠ 0x20 := by
  unfold inOff
  omega

/-- An error counter of receiver `l`, at `off` of its block, has counted `n` more, and the link's error event stands. -/
def CountsError (l off n : Nat) (s t : State) : Prop :=
  (t.reg (inPage l) (inOff l off)).toNat = min ((s.reg (inPage l) (inOff l off)).toNat + n) (2 ^ 32 - 1)
    ∧ t.regF (inPage l) 0x20 (16 + l % 8) 1 = 1

theorem State.inErr_counts (s : State) (l off n : Nat) : CountsError l off n s (s.inErr l off n) :=
  ⟨(congrArg BitVec.toNat (State.reg_irqBit_ne _ _ (inOff_ne_raw l off))).trans (s.toNat_reg_satInc _ _ n),
    State.regF_irqBit_self _ _ (by omega)⟩

theorem State.rd_inErr_ne (s : State) {l off a : Nat} (n : Nat) (h : a ≠ (inPage l).base + inOff l off)
    (h' : a ≠ (inPage l).base + 0x20) : (s.inErr l off n).rd a = s.rd a :=
  (State.rd_irqBit_ne _ _ h').trans (s.rd_satInc_ne n h)

theorem State.inErr_regsFab (s : State) (l off n : Nat) : RegsFab s (s.inErr l off n) :=
  (RegsFab.satInc s _ _ n).trans (RegsFab.irqBit _ _ _)

/-- The link's other registers stand. -/
theorem State.inReg_inErr_ne (s : State) {l off r : Nat} (n : Nat) (h : r ≠ off) :
    (s.inErr l off n).inReg l r = s.inReg l r := s.rd_inErr_ne n (by unfold inOff; omega) (by unfold inOff; omega)

/-! ### What differs besides registers -/

/-- `t` differs from `s` in registers, in what the fabric holds, and in the receivers' own state alone. -/
def InFrame (s t : State) : Prop := t = { s with regs := t.regs, fab := t.fab, gh := { s.gh with inl := t.gh.inl } }

theorem InFrame.trans {s t u : State} (h : InFrame s t) (h' : InFrame t u) : InFrame s u := by
  unfold InFrame at h
  generalize t.regs = regs, t.fab = fab, t.gh.inl = inl at h
  subst h
  exact h'

theorem RegsFab.inFrame {s t : State} (h : RegsFab s t) : InFrame s t := by
  unfold RegsFab at h
  generalize t.regs = regs, t.fab = fab at h
  subst h
  rfl

theorem InFrame.setIn (s : State) (l : Nat) (x : InLink) : InFrame s (s.setIn l x) := rfl

/-- As `InFrame`, and in the receiving lanes' own state. -/
def RxFrame (s t : State) : Prop :=
  t = { s with regs := t.regs, fab := t.fab, gh := { s.gh with inl := t.gh.inl, rx := t.gh.rx } }

theorem RxFrame.trans {s t u : State} (h : RxFrame s t) (h' : RxFrame t u) : RxFrame s u := by
  unfold RxFrame at h
  generalize t.regs = regs, t.fab = fab, t.gh.inl = inl, t.gh.rx = rx at h
  subst h
  exact h'

theorem InFrame.rxFrame {s t : State} (h : InFrame s t) : RxFrame s t := by
  unfold InFrame at h
  generalize t.regs = regs, t.fab = fab, t.gh.inl = inl at h
  subst h
  rfl

theorem RxFrame.gh {s t : State} (h : RxFrame s t) : t = { s with regs := t.regs, fab := t.fab, gh := t.gh } := by
  unfold RxFrame at h
  generalize t.regs = regs, t.fab = fab, t.gh.inl = inl, t.gh.rx = rx at h
  subst h
  rfl

/-- `t` differs from `s` in registers, in what the fabric holds, and in the transmitters' own state alone. -/
def TxFrame (s t : State) : Prop := t = { s with regs := t.regs, fab := t.fab, gh := { s.gh with tx := t.gh.tx } }

theorem TxFrame.trans {s t u : State} (h : TxFrame s t) (h' : TxFrame t u) : TxFrame s u := by
  unfold TxFrame at h
  generalize t.regs = regs, t.fab = fab, t.gh.tx = tx at h
  subst h
  exact h'

theorem RegsFab.txFrame {s t : State} (h : RegsFab s t) : TxFrame s t := by
  unfold RegsFab at h
  generalize t.regs = regs, t.fab = fab at h
  subst h
  rfl

theorem TxFrame.setTx (s : State) (k : Nat) (x : TxLink) : TxFrame s (s.setTx k x) := rfl

/-! ### Fields beside the one written -/

/-- A field beside the one written reads as before. -/
theorem fld_setFld_ne (w : Word) {lo n k m : Nat} (v : Nat) (hk : k + m ≤ 32) (h : k + m ≤ lo ∨ lo + n ≤ k) :
    fld (setFld w lo n v) k m = fld w k m := by
  refine Nat.eq_of_testBit_eq fun i => ?_
  rw [testBit_fld, testBit_fld]
  by_cases hi : i < m
  · rw [getLsbD_setFld w lo n v (k + i) (by omega), if_neg (by omega)]
  · simp [hi]

/-- A bit outside the field written stands. -/
theorem bit_setFld_ne (w : Word) {lo n k : Nat} (v : Nat) (hk : k < 32) (h : k < lo ∨ lo + n ≤ k) :
    bit (setFld w lo n v) k = bit w k := by
  rw [bit, getLsbD_setFld w lo n v k hk, if_neg (by omega)]
  rfl

/-- A bit of the field written is that bit of the number. -/
theorem bit_setFld (w : Word) {lo n k : Nat} (v : Nat) (hk : k < 32) (h : lo ≤ k) (h' : k < lo + n) :
    bit (setFld w lo n v) k = v.testBit (k - lo) := by
  rw [bit, getLsbD_setFld w lo n v k hk, if_pos ⟨h, h'⟩]

/-- A bit that is set or cleared reads what was written. -/
theorem bit_setBit_self (w : Word) {k : Nat} (b : Bool) (hk : k < 32) : bit (setBit w k b) k = b := by
  rw [setBit, bit_setFld _ _ hk (Nat.le_refl k) (Nat.lt_succ_self k), Nat.sub_self]
  cases b <;> rfl

/-- A field that a mask leaves out makes no difference under it. -/
theorem setFld_and (w m : Word) {lo n : Nat} (v : Nat) (h : ∀ i, lo ≤ i → i < lo + n → m.getLsbD i = false) :
    setFld w lo n v &&& m = w &&& m := by
  refine BitVec.eq_of_getLsbD_eq fun i hi => ?_
  rw [BitVec.getLsbD_and, BitVec.getLsbD_and, getLsbD_setFld w lo n v i hi]
  split
  case isTrue hin => rw [h i hin.1 hin.2, Bool.and_false, Bool.and_false]
  case isFalse => rfl

/-! ### An event bit that a condition raises -/

/-- Event bit `k` of a page is raised if a condition holds. -/
def State.irqIf (s : State) (c : Bool) (p : Page) (k : Nat) : State := if c then s.irqBit p k else s

theorem State.rd_irqIf_ne (s : State) (c : Bool) {p : Page} {a : Nat} (k : Nat) (h : a ≠ p.base + 0x20) :
    (s.irqIf c p k).rd a = s.rd a := by
  cases c
  · rfl
  · exact s.rd_irqBit_ne k h

theorem State.regF_irqIf (s : State) {c : Bool} (p : Page) {k : Nat} (hc : c = true) (h : k < 32) :
    (s.irqIf c p k).regF p 0x20 k 1 = 1 := by
  rw [hc]
  exact s.regF_irqBit_self p h

/-- An event bit that stands is kept. -/
theorem State.regF_irqIf_keeps {s : State} (c : Bool) {p : Page} {j : Nat} (k : Nat) (hj : j < 32)
    (h : s.regF p 0x20 j 1 = 1) : (s.irqIf c p k).regF p 0x20 j 1 = 1 := by
  cases c
  · exact h
  · exact (s.regF_irqBit p k hj).2 (.inl h)

theorem RegsFab.irqIf (s : State) (c : Bool) (p : Page) (k : Nat) : RegsFab s (s.irqIf c p k) := by
  cases c
  · exact RegsFab.refl s
  · exact RegsFab.irqBit s p k

theorem State.irqIf_gh (s : State) (c : Bool) (p : Page) (k : Nat) : (s.irqIf c p k).gh = s.gh := by
  cases c <;> rfl

end Sys2Proof.Machine
end

section
/-! PROOF. O44 fails for a premise that EVT_ARR_READ lacks. It says that a served read answers the arrival of the last EVENT,
without asking that the link's page runs. A page whose request for the Spring clock the module has still to follow reads STARTING
(R471), and its registers then read 0 (R48). -/
namespace Sys2Proof.Machine

/-- Ingress link 0 has its event registers in a page that requests the Spring clock while the module still changes to it; the
last EVENT arrived at instant 5. -/
def linkRising : State :=
  { State.reset with
    regs := [(Page.base (.ghInL 0) + 0x0C, 9), (Page.base (.ghInL 0) + 0x82C, 5)]
    power := .changing true
    domains := [(32, .on)] }

/-- The page of link 0 is STARTING: the fabric serves a read of its EVT_ARR_LO, which holds 5, and answers 0. -/
theorem linkRising_evtArr_zero :
    linkRising.pstate (inPage 0) = 1
      ∧ linkRising.serves (readOf .headland (inPage 0) (inOff 0 0x2C) false)
      ∧ (linkRising.inReg 0 0x2C).toNat = 5
      ∧ (linkRising.pageRd .headland (inPage 0) (inOff 0 0x2C) false).lastResp .headland = ⟨.none, 0⟩ := by
  decide +kernel

/-- EVT_ARR_READ is the read of the link's EVT_ARR_LO. -/
theorem exec_evtArrRead (m : Master) {l : Nat} (wide : Bool) (s : State) (hl : l < 24) :
    exec (.evtArrRead m l wide) s = .next (s.pageRd m (inPage l) (inOff l 0x2C) wide) :=
  congrArg Host.Outcome.next (if_pos hl)

/-- Refutes O44: EVT_ARR_READ on a page that is still STARTING answers 0, and not the arrival 5 (R48, R471). -/
theorem not_gheryRegisters : ¬ Obligations.GheryRegisters := by
  rintro ⟨-, -, -, hread, -⟩
  obtain ⟨-, hserves, hstands, hzero⟩ := linkRising_evtArr_zero
  obtain ⟨t, ht, ⟨hanswer, -⟩, -⟩ := hread .headland 0 false linkRising hserves (Nat.succ_pos 23)
  rw [exec_evtArrRead _ _ _ (Nat.succ_pos 23)] at ht
  obtain rfl := Host.Outcome.next.inj ht
  rw [hzero, if_neg Bool.false_ne_true, hstands] at hanswer
  cases hanswer

end Sys2Proof.Machine
end

section
/-! PROOF. O43: the states of Ghery links. A link takes a state by one write of its STATE field and one event bit; every
retraining of a receiver or of a transmitter, whatever its cause, is one fact. -/
namespace Sys2Proof.Machine

/-! ### A link takes a state -/

/-- A link whose status register lies at `off` of a page takes a state and raises event bit `k`. -/
def State.linkTo (s : State) (p : Page) (off k st : Nat) : State := (s.setRegF p off 0 2 st).irqBit p k

/-- What a link that takes a state leaves. -/
structure TookState (p : Page) (off k st : Nat) (s t : State) : Prop where
  state : t.regF p off 0 2 = st
  status : ∀ j, 2 ≤ j → j < 32 → bit (t.reg p off) j = bit (s.reg p off) j
  event : t.regF p 0x20 k 1 = 1
  regs : SameRegsBut [p.base + off, p.base + 0x20] s t
  gh : t.gh = s.gh
  frame : RegsFab s t

theorem State.linkTo_took (s : State) (p : Page) {off k st : Nat} (hoff : off ≠ 0x20) (hk : k < 32) (hst : st < 4) :
    TookState p off k st s (s.linkTo p off k st) := by
  have hreg : (s.linkTo p off k st).reg p off = setFld (s.reg p off) 0 2 st :=
    (State.reg_irqBit_ne _ k hoff).trans (s.reg_setRegF p off 0 2 st)
  refine ⟨?_, fun j hj hj' => ?_, State.regF_irqBit_self _ p hk, fun a ha => ?_, rfl,
    RegsFab.trans (RegsFab.setReg s p off _) (RegsFab.irqBit _ p k)⟩
  · rw [State.regF, hreg, fld_setFld _ _ (by decide)]
    exact Nat.mod_eq_of_lt hst
  · rw [hreg, bit_setFld_ne _ _ hj' (.inr hj)]
  · simp only [List.mem_cons, List.not_mem_nil, or_false, not_or] at ha
    exact (State.rd_irqBit_ne _ k ha.2).trans (s.rd_setRegF_ne st ha.1)

/-! ### Receivers -/

/-- What a receiver that takes a state leaves. -/
theorem State.inTo_took (s : State) (l : Nat) {st : Nat} (hst : st < 4) :
    TookState (inPage l) (inOff l 4) (l % 8) st s (s.linkTo (inPage l) (inOff l 4) (l % 8) st) :=
  s.linkTo_took _ (inOff_ne_raw l 4) (by omega) hst

/-- A receiver takes a higher state. -/
theorem State.inEnter_rises {s : State} {l st : Nat} (h : s.inState l < st) (hst : 2 ≤ st) (hmax : st < 4) :
    s.inEnter l st = s.linkTo (inPage l) (inOff l 4) (l % 8) st := by
  simp only [State.inEnter, if_neg (show ¬ s.inState l = st by omega), if_neg (show ¬ st ≤ 1 by omega),
    decide_eq_false (show ¬ s.inState l = 3 by omega), Bool.false_and, Bool.false_eq_true, if_false]
  rfl

theorem receiverReady_does : Claims.receiverReadyDoes := by
  intro l s hl
  refine ⟨fun htrain hgood => ⟨_, congrArg Host.Outcome.next (if_pos (by simp [htrain, hgood])), ?_⟩, fun h =>
    ⟨_, congrArg Host.Outcome.next (if_neg ?_), rfl⟩⟩
  · rw [State.inEnter_rises (by omega) (Nat.le_refl 2) (by decide)]
    have hu := s.inTo_took l (st := 2) (by decide)
    exact ⟨hu.state, hu.event, hu.regs, hu.frame⟩
  · simp only [Bool.and_eq_true, decide_eq_true_eq, not_and_or, Bool.not_eq_true]
    exact h

theorem receiverUp_does : Claims.receiverUpDoes := by
  intro l s hl
  refine ⟨fun hready => ?_, fun h => ⟨_, congrArg Host.Outcome.next (if_neg h), rfl⟩⟩
  have hnext : s.receiverUp l = (s.linkTo (inPage l) (inOff l 4) (l % 8) 3).setIn l { s.inLink l with expect := [0, 0] } := by
    rw [State.receiverUp, if_pos hready, State.inEnter_rises (by omega) (by decide) (by decide)]
  have hu := s.inTo_took l (st := 3) (by decide)
  generalize s.linkTo (inPage l) (inOff l 4) (l % 8) 3 = u at *
  exact ⟨_, congrArg Host.Outcome.next hnext, hu.state, State.inLink_setIn _ _ _, hu.event, hu.regs,
    sameTab_setIn hu.gh l _, hu.frame.inFrame.trans (InFrame.setIn _ _ _)⟩

/-! ### Receivers return to training -/

/-- The first `n` lanes from `l` on start to count TRAIN packets anew. -/
def State.restartLanes (s : State) (l n : Nat) : State :=
  (List.range n).foldl (fun t j => t.setRx (l + j) { t.rxLane (l + j) with trains := 0 }) s

theorem State.restartLanes_succ (s : State) (l n : Nat) :
    s.restartLanes l (n + 1)
      = (s.restartLanes l n).setRx (l + n) { (s.restartLanes l n).rxLane (l + n) with trains := 0 } := by
  simp only [State.restartLanes, List.range_succ, List.foldl_append, List.foldl_cons, List.foldl_nil]

/-- No part of the state differs but the lanes' own. -/
theorem State.restartLanes_frame (s : State) (l n : Nat) :
    s.restartLanes l n = { s with gh := { s.gh with rx := (s.restartLanes l n).gh.rx } } := by
  induction n with
  | zero => rfl
  | succ n ih =>
    rw [State.restartLanes_succ]
    generalize s.restartLanes l n = t at ih ⊢
    generalize t.gh.rx = rx at ih
    subst ih
    rfl

theorem State.trains_restartLanes (s : State) (l n : Nat) {j : Nat} (h : j < n) :
    ((s.restartLanes l n).rxLane (l + j)).trains = 0 := by
  induction n with
  | zero => cases h
  | succ n ih =>
    rw [State.restartLanes_succ]
    by_cases hj : j = n
    · rw [hj, State.rxLane_setRx]
    · rw [State.rxLane_setRx_ne _ _ (by omega)]
      exact ih (by omega)

theorem State.amCnt_restartLanes (s : State) (l n i : Nat) :
    ((s.restartLanes l n).rxLane i).amCnt = (s.rxLane i).amCnt := by
  induction n with
  | zero => rfl
  | succ n ih =>
    rw [State.restartLanes_succ]
    by_cases hi : i = l + n
    · rw [hi, State.rxLane_setRx, ← hi, ← ih]
    · rw [State.rxLane_setRx_ne _ _ hi, ih]

/-- What TRAIN makes of a receiver's own state: credits and limits are 0, and waiting lines hold none. -/
def InLink.retrained (x : InLink) : InLink :=
  { x with used := [0, 0], freed := [0, 0], limit := [0, 0], lines := x.lines.map fun g => { g with credits := 0 } }

/-- A receiver that has left READY or UP for TRAIN (R234, R236); `lost` says that this discarded a packet in progress. -/
structure InTrained (l : Nat) (lost : Bool) (s t : State) : Prop where
  state : t.inState l = 1
  status : ∀ j, 2 ≤ j → j < 32 → bit (t.inReg l 4) j = bit (s.inReg l 4) j
  event : t.regF (inPage l) 0x20 (l % 8) 1 = 1
  count : s.inState l = 3 → (t.inReg l 0x20).toNat = min ((s.inReg l 0x20).toNat + 1) (2 ^ 32 - 1)
  frameErr : lost = true → (t.inReg l 0x18).toNat = min ((s.inReg l 0x18).toNat + 1) (2 ^ 32 - 1)
  noFrameErr : lost = false → t.inReg l 0x18 = s.inReg l 0x18
  regs : SameRegsBut [Page.base (inPage l) + inOff l 4, Page.base (inPage l) + inOff l 0x18,
    Page.base (inPage l) + inOff l 0x20, Page.base (inPage l) + 0x20] s t
  link : t.inLink l = (s.inLink l).retrained
  others : SameTab l s.gh.inl t.gh.inl
  amCnt : ∀ i, (t.rxLane i).amCnt = (s.rxLane i).amCnt
  frame : RxFrame s t

/-- From READY the link's registers are those of `State.linkTo`. -/
theorem State.inEnter_train_ready {s : State} {l : Nat} (h : s.inState l = 2) :
    s.inEnter l 1 = (s.linkTo (inPage l) (inOff l 4) (l % 8) 1).setIn l (s.inLink l).retrained := by
  simp only [State.inEnter, h]
  rfl

/-- From UP the retraining is counted too. -/
theorem State.inEnter_train_up {s : State} {l : Nat} (h : s.inState l = 3) :
    s.inEnter l 1 = ((s.linkTo (inPage l) (inOff l 4) (l % 8) 1).satInc (inPage l) (inOff l 0x20)).setIn l
      (s.inLink l).retrained := by
  simp only [State.inEnter, h]
  rfl

theorem State.inEnter_trained {s : State} {l : Nat} (h : 2 ≤ s.inState l) : InTrained l false s (s.inEnter l 1) := by
  have hmax : s.inState l < 4 := Nat.mod_lt _ (by decide)
  have hu := s.inTo_took l (st := 1) (by decide)
  have hother : ∀ r, r ≠ 4 → (s.linkTo (inPage l) (inOff l 4) (l % 8) 1).inReg l r = s.inReg l r := fun r hr =>
    hu.regs _ (by simp [inOff]; omega)
  have hlanes : ∀ i, (s.linkTo (inPage l) (inOff l 4) (l % 8) 1).rxLane i = s.rxLane i := fun i => rfl
  obtain hup | hready : s.inState l = 3 ∨ s.inState l = 2 := by omega
  · rw [State.inEnter_train_up hup]
    generalize s.linkTo (inPage l) (inOff l 4) (l % 8) 1 = u at *
    have hstand : ∀ r, r ≠ 0x20 → (u.satInc (inPage l) (inOff l 0x20)).inReg l r = u.inReg l r := fun r hr =>
      u.inReg_satInc_ne l 1 hr
    refine ⟨?_, fun j hj hj' => ?_, ?_, fun _ => ?_, fun h => absurd h (by decide), fun _ => ?_, fun a ha => ?_,
      State.inLink_setIn _ _ _, sameTab_setIn hu.gh l _, fun i => congrArg RxLane.amCnt (hlanes i),
      ((hu.frame.trans (RegsFab.satInc u _ _ 1)).inFrame.trans (InFrame.setIn _ _ _)).rxFrame⟩
    · exact (congrArg (fld · 0 2) (hstand 4 (by decide))).trans hu.state
    · exact (congrArg (bit · j) (hstand 4 (by decide))).trans (hu.status j hj hj')
    · exact (congrArg (fld · (l % 8) 1) (u.rd_satInc_ne 1 (by unfold inOff; omega))).trans hu.event
    · rw [← hother 0x20 (by decide)]
      exact u.toNat_reg_satInc _ _ 1
    · exact (hstand 0x18 (by decide)).trans (hother 0x18 (by decide))
    · simp only [List.mem_cons, List.not_mem_nil, or_false, not_or] at ha
      exact (u.rd_satInc_ne 1 ha.2.2.1).trans (hu.regs a (by simp [ha.1, ha.2.2.2]))
  · rw [State.inEnter_train_ready hready]
    generalize s.linkTo (inPage l) (inOff l 4) (l % 8) 1 = u at *
    exact ⟨hu.state, hu.status, hu.event, fun h => absurd h (by omega), fun h => absurd h (by decide),
      fun _ => hother 0x18 (by decide), fun a ha => hu.regs a (by simp at ha ⊢; tauto), State.inLink_setIn _ _ _,
      sameTab_setIn hu.gh l _, fun i => congrArg RxLane.amCnt (hlanes i),
      (hu.frame.inFrame.trans (InFrame.setIn _ _ _)).rxFrame⟩

theorem InTrained.restartLanes {l : Nat} {lost : Bool} {s t : State} (h : InTrained l lost s t) (n : Nat) :
    InTrained l lost s (t.restartLanes l n) := by
  have hcnt := fun i => (t.amCnt_restartLanes l n i).trans (h.amCnt i)
  have hframe := t.restartLanes_frame l n
  generalize t.restartLanes l n = u at hcnt hframe
  generalize u.gh.rx = rx at hframe
  subst hframe
  exact ⟨h.state, h.status, h.event, h.count, h.frameErr, h.noFrameErr, h.regs, h.link, h.others, hcnt, h.frame.trans rfl⟩

/-- A packet in progress that is discarded counts as a FRAME_ERR before the link trains. -/
theorem InTrained.of_inErr {l : Nat} {s t : State} (h : InTrained l false (s.inErr l 0x18) t) : InTrained l true s t := by
  have hother := fun r (hr : r ≠ 0x18) => s.inReg_inErr_ne (l := l) 1 hr
  refine ⟨h.state, fun j hj hj' => ?_, h.event, fun hup => ?_, fun _ => ?_, fun h => absurd h (by decide), fun a ha => ?_,
    h.link, h.others, h.amCnt, (s.inErr_regsFab l 0x18 1).inFrame.rxFrame.trans h.frame⟩
  · rw [h.status j hj hj', hother 4 (by decide)]
  · rw [h.count ((congrArg (fld · 0 2) (hother 4 (by decide))).trans hup), hother 0x20 (by decide)]
  · rw [h.noFrameErr rfl]
    exact (s.inErr_counts l 0x18 1).1
  · rw [h.regs a ha]
    simp only [List.mem_cons, List.not_mem_nil, or_false, not_or] at ha
    exact s.rd_inErr_ne 1 ha.2.1 ha.2.2.2

/-- A receiver in READY or UP that is sent back to TRAIN, in the midst of a packet or not (R236, R252). -/
theorem State.inRetrain_trained {s : State} {l : Nat} (b : Bool) (h : 2 ≤ s.inState l) :
    InTrained l (b && decide (s.inState l = 3)) s (s.inRetrain l b)
      ∧ ∀ j, j < s.inW l → ((s.inRetrain l b).rxLane (l + j)).trains = 0 := by
  rw [State.inRetrain, if_pos h]
  refine ⟨InTrained.restartLanes (n := s.inW l) ?_, fun j hj => State.trains_restartLanes _ l _ hj⟩
  cases hb : b && decide (s.inState l = 3)
  case false => exact State.inEnter_trained h
  case true =>
    refine InTrained.of_inErr (State.inEnter_trained ?_)
    rw [State.inState, s.inReg_inErr_ne 1 (by decide)]
    exact h

/-! ### Transmitters -/

theorem outOff_ne_raw (k r : Nat) : outOff k r ≠ 0x20 := by
  unfold outOff
  omega

/-- What a transmitter that takes a state leaves. -/
theorem State.outTo_took (s : State) {k st : Nat} (hk : k < 4) (hst : st < 4) :
    TookState .ghOutL (outOff k 4) k st s (s.linkTo .ghOutL (outOff k 4) k st) :=
  s.linkTo_took _ (outOff_ne_raw k 4) (by omega) hst

/-- A transmitter in TRAIN goes UP. -/
theorem State.outEnter_up {s : State} {k : Nat} (h : s.outState k = 1) :
    s.outEnter k 3 = s.linkTo .ghOutL (outOff k 4) k 3 := by
  simp only [State.outEnter, h]
  rfl

theorem transmitterUp_does : Claims.transmitterUpDoes := by
  intro k s hk
  refine ⟨fun htrain hready => ?_, fun h => ⟨_, congrArg Host.Outcome.next (if_neg ?_), rfl⟩⟩
  · have hu := s.outTo_took hk (st := 3) (by decide)
    have hnext : s.transmitterUp k = (s.linkTo .ghOutL (outOff k 4) k 3).setTx k
        { s.txLink k with seq := [0, 0, 0, 0], upDue := true } := by
      rw [State.transmitterUp, if_pos (by simp [htrain, hready]), State.outEnter_up htrain]
      simp only [State.txLink_of_gh hu.gh]
    generalize s.linkTo .ghOutL (outOff k 4) k 3 = u at *
    exact ⟨_, congrArg Host.Outcome.next hnext, hu.state, State.txLink_setTx _ _ _, hu.event, hu.regs,
      sameTab_setTx hu.gh k _, hu.frame.txFrame.trans (TxFrame.setTx _ _ _)⟩
  · simp only [Bool.and_eq_true, decide_eq_true_eq, not_and_or, Bool.not_eq_true]
    exact h

/-! ### Transmitters return to training -/

theorem State.rd_clearRegs (s : State) (lo hi a : Nat) :
    (s.clearRegs lo hi).rd a = if lo ≤ a ∧ a < hi then resetWord s.fuses a else s.rd a := by
  simp only [State.rd, State.clearRegs, tabGet, tabGet?_clear]
  split <;> rfl

/-- The limits and counts of a transmitter's VCs are 0 at reset (R261). -/
theorem resetWord_credit (f : Fuses) {k j : Nat} (hk : k < 4) (hj : j < 8) :
    resetWord f (Page.base .ghOutL + outOff k (0x0C + 4 * j)) = 0 := by
  have hreset : ∀ k, k < 4 → ∀ j, j < 8 → ((regAt .ghOutL (outOff k (0x0C + 4 * j))).map RegDef.rs).getD 0 = 0 := by decide
  have hoff : 0x800 ≤ outOff k (0x0C + 4 * j) ∧ outOff k (0x0C + 4 * j) < 0x1000 := by
    unfold outOff
    omega
  have hat := Page.ofAddr_base (p := .ghOutL) rfl hoff.2
  have hword := hreset k hk j hj
  generalize outOff k (0x0C + 4 * j) = off at *
  simp only [resetWord, hat, Nat.add_sub_cancel_left, hword]
  rw [if_neg (show ¬ off = 0 by omega), if_neg (show ¬ off = 4 by omega), if_neg (show ¬ off < 0x40 by omega)]
  simp [fixedClock, wordOf]

/-- The limits and counts of a transmitter's VCs return to their reset values (R249). -/
def State.clearCredits (s : State) (k : Nat) : State :=
  s.clearRegs (Page.base .ghOutL + outOff k 0x0C) (Page.base .ghOutL + outOff k 0x2C)

theorem State.rd_clearCredits_ne (s : State) (k : Nat) {a : Nat}
    (h : a < Page.base .ghOutL + outOff k 0x0C ∨ Page.base .ghOutL + outOff k 0x2C ≤ a) :
    (s.clearCredits k).rd a = s.rd a := by
  rw [State.clearCredits, State.rd_clearRegs, if_neg (by omega)]

theorem State.outReg_clearCredits_ne (s : State) (k : Nat) {r : Nat} (h : r < 0x0C ∨ 0x2C ≤ r) :
    (s.clearCredits k).outReg k r = s.outReg k r := s.rd_clearCredits_ne k (by unfold outOff; omega)

theorem State.outReg_clearCredits (s : State) {k j : Nat} (hk : k < 4) (hj : j < 8) :
    (s.clearCredits k).outReg k (0x0C + 4 * j) = 0 := by
  rw [State.outReg, State.reg, State.clearCredits, State.rd_clearRegs, if_pos (by unfold outOff; omega),
    resetWord_credit _ hk hj]

theorem RegsFab.clearCredits (s : State) (k : Nat) : RegsFab s (s.clearCredits k) := rfl

/-- What TRAIN makes of a transmitter's own state at an instant. -/
def TxLink.retrained (x : TxLink) (now : Nat) : TxLink :=
  { x with ready := false, z := now, upDue := false, amCnt := 0, creditSeq := none, trainSeq := [0, 0, 0, 0], seq := [0, 0, 0, 0] }

/-- A transmitter that has left UP for TRAIN (R234, R236, R249). -/
structure OutTrained (k : Nat) (s t : State) : Prop where
  state : t.outState k = 1
  status : ∀ j, 2 ≤ j → j < 32 → bit (t.outReg k 4) j = bit (s.outReg k 4) j
  event : t.regF .ghOutL 0x20 k 1 = 1
  count : (t.outReg k 0x30).toNat = min ((s.outReg k 0x30).toNat + 1) (2 ^ 32 - 1)
  credits : ∀ j, j < 8 → t.outReg k (0x0C + 4 * j) = 0
  link : t.txLink k = (s.txLink k).retrained s.now
  others : SameTab k s.gh.tx t.gh.tx
  frame : TxFrame s t

theorem State.outEnter_train {s : State} {k : Nat} (h : s.outState k = 3) :
    s.outEnter k 1 = (((s.linkTo .ghOutL (outOff k 4) k 1).satInc .ghOutL (outOff k 0x30)).clearCredits k).setTx k
      ((s.txLink k).retrained s.now) := by
  simp [State.outEnter, h, State.linkTo, State.clearCredits, TxLink.retrained]

theorem State.outEnter_trained {s : State} {k : Nat} (hk : k < 4) (h : s.outState k = 3) :
    OutTrained k s (s.outEnter k 1) := by
  have hu := s.outTo_took hk (st := 1) (by decide)
  rw [State.outEnter_train h]
  generalize s.linkTo .ghOutL (outOff k 4) k 1 = u at *
  have hcount : ((u.satInc .ghOutL (outOff k 0x30)).outReg k 0x30).toNat = min ((s.outReg k 0x30).toNat + 1) (2 ^ 32 - 1) := by
    have hold : u.outReg k 0x30 = s.outReg k 0x30 := hu.regs _ (by simp [outOff])
    rw [← hold]
    exact u.toNat_reg_satInc _ _ 1
  have hstatus := u.outReg_satInc_ne k (r := 4) (o := 0x30) 1 (by decide)
  have hevent := u.rd_satInc_ne (p := .ghOutL) (off := outOff k 0x30) (a := Page.base .ghOutL + 0x20) 1
    (by unfold outOff; omega)
  have hframe := hu.frame.trans (RegsFab.satInc u .ghOutL (outOff k 0x30) 1)
  have hgh : (u.satInc .ghOutL (outOff k 0x30)).gh = s.gh := (State.satInc_gh _ _ _ _).trans hu.gh
  generalize u.satInc .ghOutL (outOff k 0x30) = v at *
  have hstatus' := (v.outReg_clearCredits_ne k (r := 4) (by decide)).trans hstatus
  refine ⟨?_, fun j hj hj' => ?_, ?_, ?_, fun j hj => v.outReg_clearCredits hk hj, State.txLink_setTx _ _ _,
    sameTab_setTx hgh k _, (hframe.trans (RegsFab.clearCredits v k)).txFrame.trans (TxFrame.setTx _ _ _)⟩
  · exact (congrArg (fld · 0 2) hstatus').trans hu.state
  · exact (congrArg (bit · j) hstatus').trans (hu.status j hj hj')
  · exact (congrArg (fld · k 1) ((v.rd_clearCredits_ne k (by unfold outOff; omega)).trans hevent)).trans hu.event
  · exact (congrArg BitVec.toNat (v.outReg_clearCredits_ne k (by decide))).trans hcount

theorem State.outReg_setRegF_ne (s : State) (k : Nat) {r o lo n : Nat} (v : Nat) (h : r ≠ o) :
    (s.setRegF .ghOutL (outOff k o) lo n v).outReg k r = s.outReg k r := s.outReg_setReg_ne k _ h

theorem State.outReg_setRegF (s : State) (k r lo n v : Nat) :
    (s.setRegF .ghOutL (outOff k r) lo n v).outReg k r = setFld (s.outReg k r) lo n v := s.reg_setRegF _ _ _ _ _

/-- A bit of the status register beside STATE is written, and the state stands. -/
theorem State.outState_setBit (s : State) (k v : Nat) : (s.setRegF .ghOutL (outOff k 4) 2 1 v).outState k = s.outState k := by
  rw [State.outState, s.outReg_setRegF, fld_setFld_ne _ _ (by decide) (.inl (by decide))]
  rfl

/-- A transmitter that is UP and is sent back to TRAIN, its sideband's loss cleared (R236, R237). -/
theorem State.outRetrain_trained {s : State} {k : Nat} (hk : k < 4) (h : s.outState k = 3) :
    (s.outRetrain k).outState k = 1 ∧ bit ((s.outRetrain k).outReg k 4) 2 = false
      ∧ ((s.outRetrain k).outReg k 0x30).toNat = min ((s.outReg k 0x30).toNat + 1) (2 ^ 32 - 1)
      ∧ (∀ j, j < 8 → (s.outRetrain k).outReg k (0x0C + 4 * j) = 0)
      ∧ (s.outRetrain k).regF .ghOutL 0x20 k 1 = 1 := by
  rw [State.outRetrain, if_pos h]
  have hlost := s.outReg_setRegF k 4 2 1 0
  have hcount := s.outReg_setRegF_ne k (r := 0x30) (o := 4) (lo := 2) (n := 1) 0 (by decide)
  have ht := State.outEnter_trained hk ((s.outState_setBit k 0).trans h)
  generalize s.setRegF .ghOutL (outOff k 4) 2 1 0 = u at *
  generalize u.outEnter k 1 = t at *
  rw [← hcount]
  refine ⟨ht.state, ?_, ht.count, ht.credits, ht.event⟩
  rw [ht.status 2 (by decide) (by decide), hlost, bit_setFld _ _ (by decide) (by decide) (by decide)]
  rfl

/-! ### The commands of both directions -/

theorem linkRetrain_does : Claims.linkRetrainDoes := by
  intro l b s hl
  refine ⟨fun h => ?_, fun h => ⟨_, congrArg Host.Outcome.next (if_neg (show ¬ 2 ≤ s.inState l by omega)), rfl⟩,
    fun hl' h => ?_, fun h => ⟨_, congrArg Host.Outcome.next (if_neg h), rfl⟩⟩
  · obtain ⟨ht, htrains⟩ := State.inRetrain_trained b h
    refine ⟨s.inRetrain l b, rfl, ?_⟩
    generalize s.inRetrain l b = t at *
    exact ⟨ht.state, congrArg InLink.used ht.link, congrArg InLink.freed ht.link, congrArg InLink.limit ht.link, htrains,
      ht.event, ht.count, fun hup hb => ht.frameErr (by simp [hup, hb]), fun hb => ht.noFrameErr (by simp [hb]), ht.regs,
      ht.others, ht.frame⟩
  · obtain ⟨hstate, hlost, hcount, hcredits, hevent⟩ := State.outRetrain_trained hl' h
    refine ⟨s.outRetrain l, rfl, ?_⟩
    generalize s.outRetrain l = t at *
    refine ⟨hstate, hlost, hcount, fun v hv => ⟨hcredits v (by omega), ?_⟩, hevent⟩
    have := hcredits (v + 4) (by omega)
    rwa [show 0x0C + 4 * (v + 4) = 0x1C + 4 * v by omega] at this

theorem sidebandTimeout_does : Claims.sidebandTimeoutDoes := by
  intro k s hk
  refine ⟨fun hup hlate => ?_, fun h => ⟨_, congrArg Host.Outcome.next (if_neg ?_), rfl⟩⟩
  · refine ⟨((s.outEnter k 1).setRegF .ghOutL (outOff k 4) 2 1 1).irqBit .ghOutL (4 + k),
      congrArg Host.Outcome.next (if_pos (by simp [hup, State.sbExpired, hlate])), ?_⟩
    have ht := State.outEnter_trained hk hup
    generalize s.outEnter k 1 = u at *
    have hstatus := (State.reg_irqBit_ne (u.setRegF .ghOutL (outOff k 4) 2 1 1) (p := .ghOutL) (4 + k)
      (outOff_ne_raw k 4)).trans (u.outReg_setRegF k 4 2 1 1)
    have hcount := (State.reg_irqBit_ne (u.setRegF .ghOutL (outOff k 4) 2 1 1) (p := .ghOutL) (4 + k)
      (outOff_ne_raw k 0x30)).trans (u.outReg_setRegF_ne k 1 (by decide))
    have hevent := State.regF_irqBit_self (u.setRegF .ghOutL (outOff k 4) 2 1 1) .ghOutL (k := 4 + k) (by omega)
    have hframe := (RegsFab.setReg u .ghOutL (outOff k 4) (setFld (u.outReg k 4) 2 1 1)).trans
      (RegsFab.irqBit (u.setRegF .ghOutL (outOff k 4) 2 1 1) .ghOutL (4 + k))
    have hgh : ((u.setRegF .ghOutL (outOff k 4) 2 1 1).irqBit .ghOutL (4 + k)).gh = u.gh := by simp
    generalize (u.setRegF .ghOutL (outOff k 4) 2 1 1).irqBit .ghOutL (4 + k) = t at *
    refine ⟨?_, ?_, hevent, ?_, ?_, hgh ▸ ht.others, ht.frame.trans hframe.txFrame⟩
    · exact (congrArg (fld · 0 2) hstatus).trans ((fld_setFld_ne _ _ (by decide) (.inl (by decide))).trans ht.state)
    · exact (congrArg (bit · 2) hstatus).trans (bit_setFld _ _ (by decide) (by decide) (by decide))
    · exact (congrArg BitVec.toNat hcount).trans ht.count
    · rw [State.txLink_of_gh hgh, ht.link]
      rfl
  · simp only [Bool.and_eq_true, decide_eq_true_eq, not_and_or, State.sbExpired]
    omega

end Sys2Proof.Machine
end

section
/-! PROOF. O43: lanes. A lane's status word holds what the clause 49 machine gives; a loss of block lock, or HI_BER met, sends the
lane's link back to TRAIN. -/
namespace Sys2Proof.Machine

/-! ### The link of a lane -/

/-- A lane's link follows from the registers of the links. -/
theorem State.inLinkOf_congr {s t : State} (h : ∀ l, l < 24 → t.inReg l 0 = s.inReg l 0) (i : Nat) :
    t.inLinkOf i = s.inLinkOf i :=
  List.find?_congr fun l hl => by
    rw [State.inEn, State.inW, h l (List.mem_range.1 hl)]
    rfl

/-- A register of a lane's page is no register of a link's, nor the event word of a link's page. -/
theorem rxPage_ne_inPage {i l o o' : Nat} (hi : i < 24) (ho : o < 0x1000) :
    (rxPage i).base + o ≠ (inPage l).base + o' := by
  rw [base_rxPage, base_inPage]
  omega

theorem rxOff_lt (i : Nat) {r : Nat} (h : r < 0x40) : 0x800 ≤ rxOff i r ∧ rxOff i r < 0x1000 := by
  unfold rxOff
  omega

theorem rxOff_ne (i : Nat) {r o : Nat} (h : r ≠ o) : rxOff i r ≠ rxOff i o := by
  unfold rxOff
  omega

/-- A register of a lane stands when a link is sent back to TRAIN. -/
theorem InTrained.reg_rxPage {i l o : Nat} {b : Bool} {s t : State} (h : InTrained l b s t) (hi : i < 24) (ho : o < 0x1000) :
    t.reg (rxPage i) o = s.reg (rxPage i) o :=
  h.regs _ (by simp [rxPage_ne_inPage hi ho])

/-! ### HI_BER and the sideband -/

theorem hiBerExit_does : Claims.hiBerExitDoes := by
  intro i s
  refine ⟨s.hiBerExit i, rfl, ?_, fun a ha => s.rd_setRegF_ne 0 (by simpa using ha), rfl⟩
  refine (s.reg_setRegF (rxPage i) (rxOff i 4) 3 1 0).trans ?_
  change (s.rd _ &&& 0xFFFFFFF7) ||| 0#32 = _
  exact BitVec.or_zero

theorem sidebandAlignment_does : Claims.sidebandAlignmentDoes := by
  intro k quad signal lock s pg a hk
  have hoff : 0x800 ≤ a ∧ a < 0x1000 := by
    unfold a txOff
    omega
  have hne : pg.base + a ≠ pg.base + 0x40 := by omega
  have hold : (s.setReg pg 0x40 (wordOf (quad % 4))).reg pg a = s.reg pg a := s.reg_setReg_ne _ hne
  refine ⟨((s.setReg pg 0x40 (wordOf (quad % 4))).setReg pg a (setBit (setBit (s.reg pg a) 4 signal) 5 lock)).irqIf
    (bit (s.reg pg a) 5 && !lock) pg (k % 2), ?_, ?_⟩
  · rw [← hold]
    rfl
  generalize hu : (s.setReg pg 0x40 (wordOf (quad % 4))).setReg pg a (setBit (setBit (s.reg pg a) 4 signal) 5 lock) = u
  have hword : u.reg pg a = setBit (setBit (s.reg pg a) 4 signal) 5 lock := hu ▸ State.reg_setReg _ _ _ _
  have hquad : u.reg pg 0x40 = wordOf (quad % 4) :=
    hu ▸ (State.reg_setReg_ne _ _ hne.symm).trans (s.reg_setReg pg 0x40 _)
  have hrest : ∀ b, b ≠ pg.base + 0x40 → b ≠ pg.base + a → u.rd b = s.rd b := fun b hb hb' =>
    hu ▸ (State.rd_setReg_ne _ _ hb').trans (s.rd_setReg_ne _ hb)
  have hframe : RegsFab s u := hu ▸ (RegsFab.setReg s pg 0x40 _).trans (RegsFab.setReg _ pg a _)
  have hstand : ∀ o, o ≠ 0x20 → (u.irqIf (bit (s.reg pg a) 5 && !lock) pg (k % 2)).reg pg o = u.reg pg o :=
    fun o ho => u.rd_irqIf_ne _ _ (by omega)
  refine ⟨(hstand 0x40 (by decide)).trans hquad, ?_, ?_, ?_, fun h h' => ?_, fun b hb => ?_,
    hframe.trans (RegsFab.irqIf u _ _ _)⟩
  · rw [hstand a (by omega), hword, setBit, bit_setFld_ne _ _ (by decide) (.inl (by decide)),
      bit_setBit_self _ _ (by decide)]
  · rw [hstand a (by omega), hword, bit_setBit_self _ _ (by decide)]
  · rw [hstand a (by omega), hword, setBit, setFld_and _ _ _ (by decide), setBit, setFld_and _ _ _ (by decide)]
  · exact u.regF_irqIf pg (by simp [h, h']) (by omega)
  · simp only [List.mem_cons, List.not_mem_nil, or_false, not_or] at hb
    exact (u.rd_irqIf_ne _ _ hb.2.2).trans (hrest b hb.1 hb.2.1)

/-! ### Block lock -/

/-- LANE_STAT after the clause 49 machine's word: signal, clock, block lock, HI_BER, and no alignment without block lock. -/
def laneWord (old : Word) (signal cdr lock hi : Bool) : Word :=
  let b (x : Bool) : Nat := if x then 1 else 0
  let st := setFld (setFld old 0 3 (b signal + 2 * b cdr + 4 * b lock)) 3 1 (b hi)
  if lock then st else setFld st 4 1 0

theorem bit_laneWord (old : Word) (signal cdr lock hi : Bool) :
    bit (laneWord old signal cdr lock hi) 0 = signal ∧ bit (laneWord old signal cdr lock hi) 1 = cdr
      ∧ bit (laneWord old signal cdr lock hi) 2 = lock ∧ bit (laneWord old signal cdr lock hi) 3 = hi
      ∧ bit (laneWord old signal cdr lock hi) 4 = (lock && bit old 4) := by
  have hlow : ∀ k, k < 4 → bit (laneWord old signal cdr lock hi) k
      = bit (setFld (setFld old 0 3 ((if signal then 1 else 0) + 2 * (if cdr then 1 else 0) + 4 * (if lock then 1 else 0)))
          3 1 (if hi then 1 else 0)) k := fun k hk => by
    cases lock
    · exact bit_setFld_ne _ _ (by omega) (.inl hk)
    · rfl
  refine ⟨?_, ?_, ?_, ?_, ?_⟩
  · rw [hlow 0 (by decide), bit_setFld_ne _ _ (by decide) (.inl (by decide)),
      bit_setFld _ _ (by decide) (by decide) (by decide)]
    cases signal <;> cases cdr <;> cases lock <;> rfl
  · rw [hlow 1 (by decide), bit_setFld_ne _ _ (by decide) (.inl (by decide)),
      bit_setFld _ _ (by decide) (by decide) (by decide)]
    cases signal <;> cases cdr <;> cases lock <;> rfl
  · rw [hlow 2 (by decide), bit_setFld_ne _ _ (by decide) (.inl (by decide)),
      bit_setFld _ _ (by decide) (by decide) (by decide)]
    cases signal <;> cases cdr <;> cases lock <;> rfl
  · rw [hlow 3 (by decide), bit_setFld _ _ (by decide) (by decide) (by decide)]
    cases hi <;> rfl
  · cases lock
    · exact bit_setFld _ _ (by decide) (by decide) (by decide)
    · exact (bit_setFld_ne _ _ (by decide) (.inr (by decide))).trans (bit_setFld_ne _ _ (by decide) (.inr (by decide)))

/-- A lane's page after a change of its status: QUAD_STAT, the status word and the count of invalid sync headers. -/
def State.laneStatus (s : State) (i quad : Nat) (w : Word) (bad : Nat) : State :=
  ((s.setReg (rxPage i) 0x40 (wordOf (quad % 4))).setReg (rxPage i) (rxOff i 4) w).satInc (rxPage i) (rxOff i 8) bad

theorem State.rd_laneStatus_ne (s : State) {i a : Nat} (quad : Nat) (w : Word) (bad : Nat)
    (h : ∀ o, o < 0x1000 → a ≠ (rxPage i).base + o) : (s.laneStatus i quad w bad).rd a = s.rd a :=
  (State.rd_satInc_ne _ _ (h _ (rxOff_lt i (by decide)).2)).trans <|
    (State.rd_setReg_ne _ _ (h _ (rxOff_lt i (by decide)).2)).trans (s.rd_setReg_ne _ (h _ (by decide)))

theorem State.laneStatus_regsFab (s : State) (i quad : Nat) (w : Word) (bad : Nat) :
    RegsFab s (s.laneStatus i quad w bad) :=
  ((RegsFab.setReg s _ _ _).trans (RegsFab.setReg _ _ _ _)).trans (RegsFab.satInc _ _ _ _)

theorem State.laneStatus_regs (s : State) (i quad : Nat) (w : Word) (bad : Nat) :
    (s.laneStatus i quad w bad).reg (rxPage i) 0x40 = wordOf (quad % 4)
      ∧ (s.laneStatus i quad w bad).reg (rxPage i) (rxOff i 4) = w
      ∧ ((s.laneStatus i quad w bad).reg (rxPage i) (rxOff i 8)).toNat
        = min ((s.reg (rxPage i) (rxOff i 8)).toNat + bad) (2 ^ 32 - 1) := by
  have h4 := (rxOff_lt i (r := 4) (by decide)).1
  have h8 := (rxOff_lt i (r := 8) (by decide)).1
  have hne := rxOff_ne i (r := 4) (o := 8) (by decide)
  generalize ho : rxOff i 4 = o at *
  generalize ho' : rxOff i 8 = o' at *
  refine ⟨?_, ?_, ?_⟩
  · rw [State.laneStatus, ho, ho']
    exact (State.rd_satInc_ne _ _ (by omega)).trans ((State.rd_setReg_ne _ _ (by omega)).trans (s.reg_setReg _ 0x40 _))
  · rw [State.laneStatus, ho, ho']
    exact (State.rd_satInc_ne _ _ (by omega)).trans (State.reg_setReg _ _ o _)
  · have hold : ((s.setReg (rxPage i) 0x40 (wordOf (quad % 4))).setReg (rxPage i) o w).reg (rxPage i) o'
        = s.reg (rxPage i) o' := (State.rd_setReg_ne _ _ (by omega)).trans (s.rd_setReg_ne _ (by omega))
    rw [State.laneStatus, ho, ho', State.toNat_reg_satInc, hold]

/-- A lane that has lost block lock starts anew, and raises its event. -/
def State.laneLost (s : State) (c : Bool) (i : Nat) : State :=
  if c then (s.irqBit (rxPage i) (i % 4)).setRx i ⟨none, 0, 0⟩ else s

theorem State.rd_laneLost (s : State) (c : Bool) (i a : Nat) :
    (s.laneLost c i).rd a = (s.irqIf c (rxPage i) (i % 4)).rd a := by
  cases c <;> rfl

theorem State.laneLost_frame (s : State) (c : Bool) (i : Nat) : RxFrame s (s.laneLost c i) := by
  cases c
  · exact (RegsFab.refl s).inFrame.rxFrame
  · exact (RegsFab.irqBit s _ _).inFrame.rxFrame.trans rfl

/-- A link that a lane's change sends back to TRAIN. -/
def State.retrainLane (s : State) (c : Bool) (i : Nat) : State :=
  if c then match s.inLinkOf i with | some l => s.inRetrain l false | none => s else s

/-- The lane's own page stands, its alignment count too; the link, if it was READY or UP, trains. -/
theorem State.retrainLane_leaves (s : State) (c : Bool) {i : Nat} (hi : i < 24) :
    (∀ o, o < 0x1000 → (s.retrainLane c i).reg (rxPage i) o = s.reg (rxPage i) o)
      ∧ (∀ j, ((s.retrainLane c i).rxLane j).amCnt = (s.rxLane j).amCnt)
      ∧ (c = true → ∀ l, s.inLinkOf i = some l → 2 ≤ s.inState l → (s.retrainLane c i).inState l = 1)
      ∧ RxFrame s (s.retrainLane c i) := by
  have hstays : (∀ o, o < 0x1000 → s.reg (rxPage i) o = s.reg (rxPage i) o) ∧ (∀ j, (s.rxLane j).amCnt = (s.rxLane j).amCnt)
      ∧ RxFrame s s := ⟨fun _ _ => rfl, fun _ => rfl, (RegsFab.refl s).inFrame.rxFrame⟩
  obtain ⟨hpage, hcnt, hframe⟩ := hstays
  cases c
  case false => exact ⟨hpage, hcnt, fun h => absurd h (by decide), hframe⟩
  case true =>
    cases hlink : s.inLinkOf i
    case none =>
      rw [State.retrainLane, hlink]
      exact ⟨hpage, hcnt, fun _ l h => absurd h (by simp), hframe⟩
    case some l =>
      rw [State.retrainLane, hlink]
      change (∀ o, o < 0x1000 → (s.inRetrain l false).reg (rxPage i) o = s.reg (rxPage i) o)
        ∧ (∀ j, ((s.inRetrain l false).rxLane j).amCnt = (s.rxLane j).amCnt)
        ∧ (true = true → ∀ l', some l = some l' → 2 ≤ s.inState l' → (s.inRetrain l false).inState l' = 1)
        ∧ RxFrame s (s.inRetrain l false)
      by_cases hst : 2 ≤ s.inState l
      · have ht := (State.inRetrain_trained false hst).1
        exact ⟨fun o ho => ht.reg_rxPage hi ho, ht.amCnt, fun _ l' h _ => Option.some.inj h ▸ ht.state, ht.frame⟩
      · rw [State.inRetrain, if_neg hst]
        exact ⟨hpage, hcnt, fun _ l' h h' => absurd (Option.some.inj h ▸ h') hst, hframe⟩

/-- A lane's status after a change to the word `w`: it has lost block lock or not, and met HI_BER or not. -/
structure LaneChanged (i quad : Nat) (w : Word) (bad : Nat) (lost met : Bool) (s t : State) : Prop where
  quad : t.reg (rxPage i) 0x40 = wordOf (quad % 4)
  word : t.reg (rxPage i) (rxOff i 4) = w
  errors : (t.reg (rxPage i) (rxOff i 8)).toNat = min ((s.reg (rxPage i) (rxOff i 8)).toNat + bad) (2 ^ 32 - 1)
  lostEvent : lost = true → t.regF (rxPage i) 0x20 (i % 4) 1 = 1
  anew : lost = true → (t.rxLane i).amCnt = none
  metEvent : met = true → t.regF (rxPage i) 0x20 (4 + i % 4) 1 = 1
  trains : (lost || met) = true → ∀ l, s.inLinkOf i = some l → 2 ≤ s.inState l → t.inState l = 1
  frame : RxFrame s t

theorem State.lane_changes (s : State) {i : Nat} (quad : Nat) (w : Word) (bad : Nat) (lost met : Bool) (hi : i < 24) :
    LaneChanged i quad w bad lost met s
      ((((s.laneStatus i quad w bad).laneLost lost i).irqIf met (rxPage i) (4 + i % 4)).retrainLane (lost || met) i) := by
  obtain ⟨hquad, hword, hbad⟩ := s.laneStatus_regs i quad w bad
  have hlink := fun l r => s.rd_laneStatus_ne (i := i) (a := (inPage l).base + inOff l r) quad w bad fun o ho =>
    (rxPage_ne_inPage hi ho).symm
  have hframe := (s.laneStatus_regsFab i quad w bad).inFrame.rxFrame
  generalize s.laneStatus i quad w bad = u at *
  have hv : ∀ a, a ≠ (rxPage i).base + 0x20 →
      ((u.laneLost lost i).irqIf met (rxPage i) (4 + i % 4)).rd a = u.rd a := fun a ha =>
    (State.rd_irqIf_ne _ _ _ ha).trans ((u.rd_laneLost _ _ _).trans (u.rd_irqIf_ne _ _ ha))
  have hlostEvent : lost = true → ((u.laneLost lost i).irqIf met (rxPage i) (4 + i % 4)).regF (rxPage i) 0x20 (i % 4) 1 = 1 :=
    fun h => State.regF_irqIf_keeps _ _ (by omega)
      ((congrArg (fld · (i % 4) 1) (u.rd_laneLost lost i _)).trans (u.regF_irqIf _ h (by omega)))
  have hmetEvent := fun h => (u.laneLost lost i).regF_irqIf (c := met) (rxPage i) (k := 4 + i % 4) h (by omega)
  have hanew : lost = true → (((u.laneLost lost i).irqIf met (rxPage i) (4 + i % 4)).rxLane i).amCnt = none := fun h => by
    rw [State.rxLane_of_gh (State.irqIf_gh _ _ _ _), h, State.laneLost, if_pos rfl, State.rxLane_setRx]
  have hframe' := hframe.trans ((u.laneLost_frame lost i).trans
    (RegsFab.irqIf (u.laneLost lost i) met (rxPage i) (4 + i % 4)).inFrame.rxFrame)
  generalize (u.laneLost lost i).irqIf met (rxPage i) (4 + i % 4) = v at *
  have hvlink : ∀ l r, v.inReg l r = s.inReg l r := fun l r =>
    (hv _ (rxPage_ne_inPage hi (by decide)).symm).trans (hlink l r)
  obtain ⟨hpage, hcnt, htrains, hlast⟩ := v.retrainLane_leaves (lost || met) hi
  have h4 := rxOff_lt i (r := 4) (by decide)
  have h8 := rxOff_lt i (r := 8) (by decide)
  refine ⟨?_, ?_, ?_, fun h => ?_, fun h => ?_, fun h => ?_, fun h l hl hst => ?_, hframe'.trans hlast⟩
  · exact (hpage _ (by decide)).trans ((hv _ (by omega)).trans hquad)
  · exact (hpage _ h4.2).trans ((hv _ (by omega)).trans hword)
  · exact (congrArg BitVec.toNat ((hpage _ h8.2).trans (hv _ (by omega)))).trans hbad
  · exact (congrArg (fld · (i % 4) 1) (hpage _ (by decide))).trans (hlostEvent h)
  · exact (hcnt i).trans (hanew h)
  · exact (congrArg (fld · (4 + i % 4) 1) (hpage _ (by decide))).trans (hmetEvent h)
  · refine htrains h l ((State.inLinkOf_congr (fun l _ => hvlink l 0) i).trans hl) ?_
    rw [State.inState, hvlink]
    exact hst

theorem State.blockLock_eq {s : State} {i quad : Nat} {signal cdr lock0 hi : Bool} {bad : Nat}
    (h : bit (s.reg (rxPage i) (rxOff i 0)) 0 = true) :
    s.blockLock i quad signal cdr lock0 hi bad =
      let old := s.reg (rxPage i) (rxOff i 4)
      let lock := lock0 && decide (quad % 2 = 1)
      let lost := bit old 2 && !lock
      let met := hi && !bit old 3
      (((s.laneStatus i quad (laneWord old signal cdr lock hi) bad).laneLost lost i).irqIf met (rxPage i)
        (4 + i % 4)).retrainLane (lost || met) i := by
  have hstand : ∀ r, r < 0x40 → (s.setReg (rxPage i) 0x40 (wordOf (quad % 4))).reg (rxPage i) (rxOff i r)
      = s.reg (rxPage i) (rxOff i r) := fun r hr => s.reg_setReg_ne _ (by have := (rxOff_lt i hr).1; omega)
  simp only [State.blockLock, hstand 0 (by decide), hstand 4 (by decide), h, Bool.not_true, Bool.false_eq_true, if_false]
  rfl

theorem blockLockChange_does : Claims.blockLockChangeDoes := by
  intro i quad signal cdr lock0 hi bad s pg old new frame hen hi24
  have hchange := State.blockLock_eq (quad := quad) (signal := signal) (cdr := cdr) (lock0 := lock0) (hi := hi) (bad := bad) hen
  have ht := s.lane_changes quad (laneWord old signal cdr (lock0 && decide (quad % 2 = 1)) hi) bad
    (bit old 2 && !(lock0 && decide (quad % 2 = 1))) (hi && !bit old 3) hi24
  refine ⟨s.blockLock i quad signal cdr lock0 hi bad, rfl, ?_⟩
  rw [← hchange] at ht
  generalize s.blockLock i quad signal cdr lock0 hi bad = t at *
  generalize (lock0 && decide (quad % 2 = 1)) = lock at *
  obtain ⟨hsignal, hcdr, hlock, hhi, ham⟩ := bit_laneWord old signal cdr lock hi
  have hword : new t = laneWord old signal cdr lock hi := ht.word
  rw [hword]
  refine ⟨ht.quad, hsignal, hcdr, hlock, hhi, fun h => ?_, fun h => ?_, ht.errors, fun h h' => ?_,
    fun h h' => ?_, fun h => ?_, ?_⟩
  · rw [ham, ← hlock, h, Bool.true_and]
  · rw [ham, ← hlock, h, Bool.false_and]
  · rw [hlock] at h'
    exact ⟨ht.lostEvent (by simp [h, h']), ht.anew (by simp [h, h'])⟩
  · exact ht.metEvent (by simp [h, h'])
  · rw [hlock] at h
    refine ht.trains ?_
    obtain ⟨h, h'⟩ | ⟨h, h'⟩ := h <;> simp [h, h']
  · exact ht.frame.gh

/-- Settles O43: a receiver and a transmitter take their states and fall back to TRAIN as `InTrained` and `OutTrained` say, for
every cause; lanes and sidebands follow what the clause 49 machine and the K28.5 alignment give. -/
theorem gheryLinkStates : Obligations.GheryLinkStates :=
  ⟨receiverReady_does, receiverUp_does, transmitterUp_does, linkRetrain_does, sidebandTimeout_does, blockLockChange_does,
    hiBerExit_does, sidebandAlignment_does⟩

end Sys2Proof.Machine
end

section
/-! PROOF. O42: packets that a receiver takes. A packet that is rejected is counted and returns its credits; one that is accepted
moves its VC's sequence number on, counts a gap, and is then taken as a line or as an event. -/
namespace Sys2Proof.Machine

/-! ### The state that a packet leaves -/

/-- A packet on a VC holds its credits (R250). -/
def State.inHold (s : State) (l v n : Nat) : State :=
  s.setIn l { s.inLink l with used := listSet (s.inLink l).used v ((s.inLink l).used.getD v 0 + n) }

/-- A packet is rejected: its credits return, and its error is counted (R250, R252). -/
def State.inReject (s : State) (l v n off : Nat) : State := ((s.inHold l v n).inReturn l v n).inErr l off

/-- A packet with sequence number `q - 1`, `d` later than the one expected, is accepted (R240, R252). -/
def State.inAccept (s : State) (l v n q d : Nat) : State :=
  let s1 := (s.inHold l v n).setIn l { (s.inHold l v n).inLink l with expect := listSet (s.inLink l).expect v q }
  (if d = 0 then s1 else s1.inErr l 0x14 d).wrapInc (inPage l) (inOff l 0x0C)

/-- How far a packet's sequence number lies beyond the one that its VC expects. -/
def State.seqGap (s : State) (l v : Nat) (ws : List DWord) : Nat :=
  (dfld (ws.getD 0 0) 48 16 + 2 ^ 16 - (s.inLink l).expect.getD v 0) % 2 ^ 16

theorem State.packetReceive_unframed {s : State} {l : Nat} (ws : List DWord) (hup : s.inState l = 3) :
    s.packetReceive l ws false = s.inErr l 0x18 := by
  simp [State.packetReceive, hup]

section
variable {s : State} {l v : Nat} {ws : List DWord} (hup : s.inState l = 3) (hvc : dfld (ws.getD 0 0) 10 2 = v) (hv : v < 2)
include hup hvc hv

theorem State.packetReceive_crc (hcrc : packetCrcOk ws = false) :
    s.packetReceive l ws true = s.inReject l v (credits (dfld (ws.getD 0 0) 34 14)) 0x10 := by
  simp only [State.packetReceive, hup, hvc, hv, hcrc, ne_eq, not_true_eq_false, if_false, Bool.not_true, Bool.not_false,
    Bool.false_eq_true, if_true]
  rfl

theorem State.packetReceive_proto (hcrc : packetCrcOk ws = true) (hbad : s.inProtoBad l ws = true ∨ 32768 ≤ s.seqGap l v ws) :
    s.packetReceive l ws true = s.inReject l v (credits (dfld (ws.getD 0 0) 34 14)) 0x1C := by
  simp only [State.packetReceive, hup, hvc, hv, hcrc, ne_eq, not_true_eq_false, if_false, Bool.not_true,
    Bool.false_eq_true, if_true]
  split
  case isTrue => rfl
  case isFalse h => exact if_pos (hbad.resolve_left h)

theorem State.packetReceive_good (hcrc : packetCrcOk ws = true) (hgood : s.inProtoBad l ws = false)
    (hd : s.seqGap l v ws < 32768) :
    s.packetReceive l ws true =
      let u := s.inAccept l v (credits (dfld (ws.getD 0 0) 34 14)) ((dfld (ws.getD 0 0) 48 16 + 1) % 2 ^ 16) (s.seqGap l v ws)
      if dfld (ws.getD 0 0) 0 8 = 0x33 then u.takeLine l ws else u.takeEvent l ws := by
  simp only [State.packetReceive, hup, hvc, hv, hcrc, hgood, ne_eq, not_true_eq_false, if_false, Bool.not_true,
    Bool.false_eq_true, if_true]
  exact if_neg (Nat.not_le.2 hd)

end

/-! ### Rejected packets -/

/-- A packet of a VC has returned the credits that it held, and left the rest of the link as it was (R250). -/
def CreditsReturned (l v n : Nat) (s t : State) : Prop :=
  (t.inLink l).used.getD v 0 = (s.inLink l).used.getD v 0 + n ∧ (t.inLink l).freed.getD v 0 = (s.inLink l).freed.getD v 0 + n
    ∧ (t.inLink l).expect = (s.inLink l).expect ∧ (t.inLink l).lines = (s.inLink l).lines
    ∧ SameTab l s.gh.inl t.gh.inl ∧ t = { s with regs := t.regs, fab := t.fab, gh := { s.gh with inl := t.gh.inl } }

theorem State.inReject_eq (s : State) (l v n off : Nat) :
    s.inReject l v n off = (s.setIn l { s.inLink l with
      used := listSet (s.inLink l).used v ((s.inLink l).used.getD v 0 + n)
      freed := listSet (s.inLink l).freed v ((s.inLink l).freed.getD v 0 + n) }).inErr l off := by
  rw [State.inReject, State.inReturn, State.inHold, State.inLink_setIn, State.setIn_setIn]

theorem State.inReject_leaves (s : State) {l v : Nat} (n off : Nat) (hu : v < (s.inLink l).used.length)
    (hf : v < (s.inLink l).freed.length) :
    CountsError l off 1 s (s.inReject l v n off)
      ∧ SameRegsBut [Page.base (inPage l) + inOff l off, Page.base (inPage l) + 0x20] s (s.inReject l v n off)
      ∧ CreditsReturned l v n s (s.inReject l v n off) := by
  rw [State.inReject_eq]
  generalize hx : ({ s.inLink l with
      used := listSet (s.inLink l).used v ((s.inLink l).used.getD v 0 + n)
      freed := listSet (s.inLink l).freed v ((s.inLink l).freed.getD v 0 + n) } : InLink) = x
  have hgh : ((s.setIn l x).inErr l off).gh = (s.setIn l x).gh := rfl
  have hlink : ((s.setIn l x).inErr l off).inLink l = x := (State.inLink_of_gh hgh l).trans (s.inLink_setIn l x)
  refine ⟨(s.setIn l x).inErr_counts l off 1, fun a ha => ?_, ?_, ?_, ?_, ?_, hgh ▸ sameTab_put s.gh.inl l x,
    (InFrame.setIn s l x).trans ((s.setIn l x).inErr_regsFab l off 1).inFrame⟩
  · simp only [List.mem_cons, List.not_mem_nil, or_false, not_or] at ha
    exact (s.setIn l x).rd_inErr_ne 1 ha.1 ha.2
  all_goals rw [hlink, ← hx]
  · exact getD_listSet _ _ hu
  · exact getD_listSet _ _ hf

/-! ### Accepted packets -/

/-- What an accepted packet leaves before it is taken up. -/
structure Accepted (l v n q d : Nat) (s t : State) : Prop where
  link : t.inLink l = { s.inLink l with
    used := listSet (s.inLink l).used v ((s.inLink l).used.getD v 0 + n), expect := listSet (s.inLink l).expect v q }
  count : t.reg (inPage l) (inOff l 0x0C) = s.reg (inPage l) (inOff l 0x0C) + 1
  gap : d ≠ 0 → CountsError l 0x14 d s t
  regs : SameRegsBut [Page.base (inPage l) + inOff l 0x0C, Page.base (inPage l) + inOff l 0x14, Page.base (inPage l) + 0x20] s t
  others : SameTab l s.gh.inl t.gh.inl
  frame : InFrame s t

/-- A gap is counted as so many errors, none where there is no gap. -/
def State.inGap (s : State) (l d : Nat) : State := if d = 0 then s else s.inErr l 0x14 d

theorem State.rd_inGap_ne (s : State) {l a : Nat} (d : Nat) (h : a ≠ (inPage l).base + inOff l 0x14)
    (h' : a ≠ (inPage l).base + 0x20) : (s.inGap l d).rd a = s.rd a := by
  unfold State.inGap
  split
  · rfl
  · exact s.rd_inErr_ne d h h'

theorem State.inGap_counts (s : State) (l : Nat) {d : Nat} (h : d ≠ 0) : CountsError l 0x14 d s (s.inGap l d) := by
  rw [State.inGap, if_neg h]
  exact s.inErr_counts l 0x14 d

theorem State.inGap_regsFab (s : State) (l d : Nat) : RegsFab s (s.inGap l d) := by
  unfold State.inGap
  split
  · exact RegsFab.refl s
  · exact s.inErr_regsFab l 0x14 d

theorem State.inGap_gh (s : State) (l d : Nat) : (s.inGap l d).gh = s.gh := by
  unfold State.inGap
  split <;> rfl

theorem State.inAccept_eq (s : State) (l v n q d : Nat) :
    s.inAccept l v n q d = ((s.setIn l { s.inLink l with
      used := listSet (s.inLink l).used v ((s.inLink l).used.getD v 0 + n)
      expect := listSet (s.inLink l).expect v q }).inGap l d).wrapInc (inPage l) (inOff l 0x0C) := by
  simp only [State.inAccept, State.inHold, State.inLink_setIn, State.setIn_setIn]
  rfl

theorem State.inAccept_accepted (s : State) (l v n q d : Nat) : Accepted l v n q d s (s.inAccept l v n q d) := by
  rw [State.inAccept_eq]
  generalize hx : ({ s.inLink l with
      used := listSet (s.inLink l).used v ((s.inLink l).used.getD v 0 + n)
      expect := listSet (s.inLink l).expect v q } : InLink) = x
  have hlink := s.inLink_setIn l x
  have htab : SameTab l s.gh.inl (s.setIn l x).gh.inl := sameTab_put _ _ _
  have hrd := s.rd_setIn l x
  have hframe := InFrame.setIn s l x
  generalize s.setIn l x = u at *
  have hgap := fun a => u.rd_inGap_ne (l := l) (a := a) d
  have hcounts := fun h => u.inGap_counts l (d := d) h
  have hgh := u.inGap_gh l d
  have hframe' := hframe.trans (u.inGap_regsFab l d).inFrame
  generalize u.inGap l d = w at *
  have hwrap := fun a => w.rd_wrapInc_ne (p := inPage l) (off := inOff l 0x0C) (a := a) 1
  have hgh' : (w.wrapInc (inPage l) (inOff l 0x0C)).gh = u.gh := hgh
  have hne : inOff l 0x14 ≠ inOff l 0x0C ∧ 0x800 ≤ inOff l 0x0C ∧ 0x800 ≤ inOff l 0x14 := by
    unfold inOff
    omega
  refine ⟨((State.inLink_of_gh hgh' l).trans hlink).trans hx.symm, ?_, fun h => ⟨?_, ?_⟩, fun a ha => ?_, hgh' ▸ htab,
    hframe'.trans (RegsFab.wrapInc w _ _ 1).inFrame⟩
  · rw [State.reg_wrapInc, State.reg, hgap _ (by omega) (by omega), hrd]
    rfl
  · rw [State.reg, hwrap _ (by omega), State.reg, ← hrd]
    exact (hcounts h).1
  · rw [State.regF, State.reg, hwrap _ (by omega)]
    exact (hcounts h).2
  · simp only [List.mem_cons, List.not_mem_nil, or_false, not_or] at ha
    rw [hwrap a ha.1, hgap a ha.2.1 ha.2.2, hrd]

/-! ### Lines -/

/-- Credits within a limit that has not come near to wrapping are not ahead of it (R249). -/
theorem credit_not_ahead {limit used n : Nat} (h : used + n ≤ limit) (hmax : limit < 2 ^ 31) :
    (limit + 2 ^ 32 - (used + n) % 2 ^ 32) % 2 ^ 32 < 2 ^ 31 := by omega

/-- A LINE packet as R243 gives it, within the credits of VC 0. -/
def LineSound (s : State) (l : Nat) (ws : List DWord) : Prop :=
  let h := ws.getD 0 0
  let p := ws.getD 1 0
  let len := dfld h 34 14
  let px := dfld p 16 16
  let bytes := (px * depthBits (dfld p 14 2) + 7) / 8
  dfld h 0 8 = 0x33 ∧ dfld h 8 2 = 0 ∧ dfld h 12 19 = 0 ∧ dfld p 0 14 = 0 ∧ dfld p 14 2 ≠ 3 ∧ px ≠ 0 ∧ len ≤ 12288
    ∧ len = (bytes + 7) / 8 ∧ dfld h 31 3 = 8 * len - bytes ∧ ws.length = len + 3 ∧ dfld (ws.getD (len + 2) 0) 32 32 = 0
    ∧ (s.inLink l).used.getD 0 0 + credits len ≤ (s.inLink l).limit.getD 0 0 ∧ (s.inLink l).limit.getD 0 0 < 2 ^ 31

theorem State.inProtoBad_line {s : State} {l : Nat} {ws : List DWord} (hvc : dfld (ws.getD 0 0) 10 2 = 0)
    (h : LineSound s l ws) : s.inProtoBad l ws = false := by
  obtain ⟨htype, hflags, hspec, hparam, hdepth, hpx, hmax, hlen, hpad, hwords, htail, hused, hlimit⟩ := h
  have hahead := credit_not_ahead hused hlimit
  simp only [State.inProtoBad, htype, if_true, hvc, hflags, hspec, hparam, hpad, hwords]
  generalize dfld (ws.getD 0 0) 34 14 = len at *
  simp [-List.getD_eq_getElem?_getD, hmax]
  exact ⟨⟨⟨⟨htail, hahead⟩, hdepth⟩, hpx⟩, hlen⟩

/-- An EVENT packet as R246 gives it, within the credits of VC 1. -/
def EventSound (s : State) (l : Nat) (ws : List DWord) : Prop :=
  let h := ws.getD 0 0
  let len := dfld h 34 14
  dfld h 0 8 = 0x66 ∧ dfld h 8 2 = 0 ∧ dfld h 12 3 = 0 ∧ len = 1 ∧ dfld h 31 3 = 0 ∧ ws.length = 4
    ∧ dfld (ws.getD 3 0) 32 32 = 0 ∧ (s.inLink l).used.getD 1 0 + credits len ≤ (s.inLink l).limit.getD 1 0
    ∧ (s.inLink l).limit.getD 1 0 < 2 ^ 31

theorem State.inProtoBad_event {s : State} {l : Nat} {ws : List DWord} (hvc : dfld (ws.getD 0 0) 10 2 = 1)
    (h : EventSound s l ws) : s.inProtoBad l ws = false := by
  obtain ⟨htype, hflags, hspec, hlen, hpad, hwords, htail, hused, hlimit⟩ := h
  have hahead := credit_not_ahead hused hlimit
  simp only [State.inProtoBad, htype, if_neg (show ¬ 0x66 = 0x33 by decide), if_true, hvc, hflags, hspec, hpad, hlen, hwords,
    show 4 - 1 = 3 from rfl, htail]
  simp [-List.getD_eq_getElem?_getD]
  exact hlen ▸ hahead

/-- The camera that names a link follows from the registers of the cameras. -/
theorem State.linkCamera_congr {s t : State} (h : ∀ c, c < 16 → t.camCfg c = s.camCfg c) (l : Nat) :
    t.linkCamera l = s.linkCamera l :=
  List.find?_congr fun c hc => by rw [State.camEn, State.camEn, h c (List.mem_range.1 hc)]

theorem Accepted.linkCamera {l v n q d : Nat} {s t : State} (h : Accepted l v n q d s t) : t.linkCamera l = s.linkCamera l := by
  refine State.linkCamera_congr (fun c hc => h.regs _ ?_) l
  have hpage : ∀ o, Page.base (.surfG (c / 2)) + (0x800 + c % 2 * 0x40) ≠ (inPage l).base + o := fun o => by
    rw [base_surfG, base_inPage]
    omega
  simp [hpage]

/-- The commands of packets that are not taken: unframed, or rejected on their VC. -/
theorem State.packetReceive_rejects {s : State} {l v : Nat} {ws : List DWord} (hup : s.inState l = 3)
    (hvc : dfld (ws.getD 0 0) 10 2 = v) (hv : v < 2) (hused : (s.inLink l).used.length = 2)
    (hfreed : (s.inLink l).freed.length = 2) :
    (packetCrcOk ws = false → CountsError l 0x10 1 s (s.packetReceive l ws true)
      ∧ SameRegsBut [Page.base (inPage l) + inOff l 0x10, Page.base (inPage l) + 0x20] s (s.packetReceive l ws true)
      ∧ CreditsReturned l v (credits (dfld (ws.getD 0 0) 34 14)) s (s.packetReceive l ws true))
    ∧ (packetCrcOk ws = true → s.inProtoBad l ws = true ∨ 32768 ≤ s.seqGap l v ws →
      CountsError l 0x1C 1 s (s.packetReceive l ws true)
      ∧ SameRegsBut [Page.base (inPage l) + inOff l 0x1C, Page.base (inPage l) + 0x20] s (s.packetReceive l ws true)
      ∧ CreditsReturned l v (credits (dfld (ws.getD 0 0) 34 14)) s (s.packetReceive l ws true)) := by
  refine ⟨fun hcrc => ?_, fun hcrc hbad => ?_⟩
  · rw [State.packetReceive_crc hup hvc hv hcrc]
    exact s.inReject_leaves _ _ (hused ▸ hv) (hfreed ▸ hv)
  · rw [State.packetReceive_proto hup hvc hv hcrc hbad]
    exact s.inReject_leaves _ _ (hused ▸ hv) (hfreed ▸ hv)

theorem State.packetReceive_frameErr {s : State} {l : Nat} (ws : List DWord) (hup : s.inState l = 3) :
    CountsError l 0x18 1 s (s.packetReceive l ws false)
      ∧ SameRegsBut [Page.base (inPage l) + inOff l 0x18, Page.base (inPage l) + 0x20] s (s.packetReceive l ws false)
      ∧ RegsFab s (s.packetReceive l ws false) := by
  rw [State.packetReceive_unframed ws hup]
  refine ⟨s.inErr_counts l 0x18 1, fun a ha => ?_, s.inErr_regsFab l 0x18 1⟩
  simp only [List.mem_cons, List.not_mem_nil, or_false, not_or] at ha
  exact s.rd_inErr_ne 1 ha.1 ha.2

/-- The line that a LINE packet carries (R243). -/
def lineOf (ws : List DWord) : GhLine :=
  ⟨wordOf (dfld (ws.getD 1 0) 32 32), dfld (ws.getD 1 0) 14 2,
    unpack (dfld (ws.getD 1 0) 16 16) (depthBits (dfld (ws.getD 1 0) 14 2)) (ofBytesLE (wordBytes ((ws.drop 2).dropLast))),
    credits (dfld (ws.getD 0 0) 34 14)⟩

/-- A line that no camera wants returns its credits; another waits. -/
theorem State.takeLine_eq (s : State) (l : Nat) (ws : List DWord) :
    s.takeLine l ws = s.setIn l (match s.linkCamera l with
      | none => { s.inLink l with
          freed := listSet (s.inLink l).freed 0 ((s.inLink l).freed.getD 0 0 + credits (dfld (ws.getD 0 0) 34 14)) }
      | some _ => { s.inLink l with lines := (s.inLink l).lines ++ [lineOf ws] }) := by
  unfold State.takeLine
  cases s.linkCamera l <;> rfl

theorem linePacketReceive_does : Claims.linePacketReceiveDoes := by
  intro l ws s h p len n x pg o d errs_ frame back px by_ good hup hl hvc hused hfreed hexpect
  obtain ⟨hcrcBad, hprotoBad⟩ := State.packetReceive_rejects hup hvc (by decide) hused hfreed
  refine ⟨⟨_, rfl, State.packetReceive_frameErr ws hup⟩, fun hcrc => ⟨_, rfl, hcrcBad hcrc⟩,
    fun hcrc hbad => ⟨_, rfl, hprotoBad hcrc hbad⟩, fun hcrc hgood hd => ?_⟩
  have hsound := of_decide_eq_true hgood
  change LineSound s l ws at hsound
  have hnext := State.packetReceive_good hup hvc (by decide) hcrc (State.inProtoBad_line hvc hsound) hd
  have hu := s.inAccept_accepted l 0 n ((dfld h 48 16 + 1) % 2 ^ 16) (s.seqGap l 0 ws)
  rw [if_pos hsound.1] at hnext
  change s.packetReceive l ws true = (s.inAccept l 0 n ((dfld h 48 16 + 1) % 2 ^ 16) (s.seqGap l 0 ws)).takeLine l ws at hnext
  generalize s.inAccept l 0 _ _ _ = u at hnext hu
  rw [State.takeLine_eq, hu.linkCamera, hu.link] at hnext
  refine ⟨_, congrArg Host.Outcome.next hnext, ?_⟩
  have husedNow : (listSet x.used 0 (x.used.getD 0 0 + n)).getD 0 0 = x.used.getD 0 0 + n :=
    getD_listSet _ _ (Nat.lt_of_lt_of_eq (by decide) hused.symm)
  have hframe := fun y => (hu.others.trans (sameTab_put u.gh.inl l y))
  cases hcam : s.linkCamera l
  case none =>
    refine ⟨?_, ?_, hu.count, hu.gap, fun a ha => hu.regs a ha, fun hsome => absurd hsome (by simp), fun _ => ⟨?_, ?_⟩,
      hframe _, hu.frame.trans (InFrame.setIn u l _)⟩
    all_goals rw [State.inLink_setIn]
    · exact husedNow
    · exact getD_listSet _ _ (Nat.lt_of_lt_of_eq (by decide) hfreed.symm)
  case some c =>
    refine ⟨?_, ?_, hu.count, hu.gap, fun a ha => hu.regs a ha, fun _ => ⟨?_, ?_⟩, fun hnone => absurd hnone (by simp),
      hframe _, hu.frame.trans (InFrame.setIn u l _)⟩
    all_goals rw [State.inLink_setIn]
    · exact husedNow
    · rfl

/-! ### Events -/

/-- The words that record an EVENT packet: its code and the count, its arrival, its instant and its value (R246, R260). -/
def State.eventWords (s : State) (l : Nat) (ws : List DWord) : State :=
  ((((s.setRegF (inPage l) (inOff l 0x28) 0 16 (dfld (ws.getD 0 0) 15 16)).satIncF (inPage l) (inOff l 0x28) 16 16).setReg64
    (inPage l) (inOff l 0x2C) s.now).setReg64 (inPage l) (inOff l 0x34) (ws.getD 1 0).toNat).setReg64 (inPage l)
    (inOff l 0x3C) (ws.getD 2 0).toNat

theorem inOff_add (l r o : Nat) : inOff l r + o = inOff l (r + o) := by
  unfold inOff
  omega

theorem State.inReg_setReg64_ne (s : State) (l v : Nat) {r o : Nat} (h : r ≠ o) (h' : r ≠ o + 4) :
    (s.setReg64 (inPage l) (inOff l o) v).inReg l r = s.inReg l r :=
  s.rd_setReg64_ne v (by unfold inOff; omega) (by unfold inOff; omega)

theorem State.reg64_setReg64_ne (s : State) (l v : Nat) {r o : Nat} (h : r + 4 < o ∨ o + 4 < r) :
    (s.setReg64 (inPage l) (inOff l o) v).reg64 (inPage l) (inOff l r) = s.reg64 (inPage l) (inOff l r) := by
  have hlow := s.inReg_setReg64_ne l v (r := r) (o := o) (by omega) (by omega)
  have hhigh := s.inReg_setReg64_ne l v (r := r + 4) (o := o) (by omega) (by omega)
  rw [State.reg64, State.reg64, inOff_add]
  exact congrArg₂ (fun a b : Word => a.toNat + 2 ^ 32 * b.toNat) hlow hhigh

/-- What the words of an EVENT packet read. -/
theorem State.eventWords_leave (s : State) (l : Nat) (ws : List DWord) :
    (s.eventWords l ws).regF (inPage l) (inOff l 0x28) 0 16 = dfld (ws.getD 0 0) 15 16
      ∧ (s.eventWords l ws).regF (inPage l) (inOff l 0x28) 16 16 = min (s.regF (inPage l) (inOff l 0x28) 16 16 + 1) 65535
      ∧ (s.eventWords l ws).reg64 (inPage l) (inOff l 0x2C) = s.now % 2 ^ 64
      ∧ (s.eventWords l ws).reg64 (inPage l) (inOff l 0x34) = (ws.getD 1 0).toNat
      ∧ (s.eventWords l ws).reg64 (inPage l) (inOff l 0x3C) = (ws.getD 2 0).toNat := by
  have hword : (s.eventWords l ws).reg (inPage l) (inOff l 0x28)
      = ((s.setRegF (inPage l) (inOff l 0x28) 0 16 (dfld (ws.getD 0 0) 15 16)).satIncF (inPage l) (inOff l 0x28) 16 16).reg
        (inPage l) (inOff l 0x28) :=
    (State.inReg_setReg64_ne _ l _ (by decide) (by decide)).trans <|
      (State.inReg_setReg64_ne _ l _ (by decide) (by decide)).trans (State.inReg_setReg64_ne _ l _ (by decide) (by decide))
  refine ⟨?_, ?_, ?_, ?_, ?_⟩
  · rw [State.regF, hword, State.satIncF, State.reg_setRegF, fld_setFld_ne _ _ (by decide) (.inl (by decide)),
      State.reg_setRegF, fld_setFld _ _ (by decide), dfld, bitsN, Nat.mod_mod]
  · rw [State.regF, hword, State.satIncF, State.reg_setRegF, fld_setFld _ _ (by decide), State.regF, State.reg_setRegF,
      fld_setFld_ne _ _ (by decide) (.inr (by decide)), Nat.mod_eq_of_lt (by omega)]
    rfl
  · rw [State.eventWords, State.reg64_setReg64_ne _ _ _ (by decide), State.reg64_setReg64_ne _ _ _ (by decide),
      State.reg64_setReg64]
  · rw [State.eventWords, State.reg64_setReg64_ne _ _ _ (by decide), State.reg64_setReg64, Nat.mod_eq_of_lt (BitVec.isLt _)]
  · rw [State.eventWords, State.reg64_setReg64, Nat.mod_eq_of_lt (BitVec.isLt _)]

/-- Every other register stands. -/
theorem State.rd_eventWords_ne (s : State) {l a : Nat} (ws : List DWord)
    (h : ∀ k, k < 7 → a ≠ (inPage l).base + inOff l (0x28 + 4 * k)) : (s.eventWords l ws).rd a = s.rd a := by
  have hne : ∀ k, k < 6 → a ≠ (inPage l).base + (inOff l (0x28 + 4 * k) + 4) := fun k hk => by
    rw [inOff_add]
    exact h (k + 1) (by omega)
  rw [State.eventWords, State.rd_setReg64_ne _ _ (h 5 (by decide)) (hne 5 (by decide)),
    State.rd_setReg64_ne _ _ (h 3 (by decide)) (hne 3 (by decide)),
    State.rd_setReg64_ne _ _ (h 1 (by decide)) (hne 1 (by decide)), State.rd_satIncF_ne _ _ (h 0 (by decide)),
    State.rd_setRegF_ne _ _ (h 0 (by decide))]

theorem RegsFab.setReg64 (s : State) (p : Page) (off v : Nat) : RegsFab s (s.setReg64 p off v) :=
  (RegsFab.setReg s p off _).trans (RegsFab.setReg _ p _ _)

theorem State.eventWords_regsFab (s : State) (l : Nat) (ws : List DWord) : RegsFab s (s.eventWords l ws) :=
  ((((RegsFab.setReg s _ _ _).trans (RegsFab.setReg _ _ _ _)).trans (RegsFab.setReg64 _ _ _ _)).trans
    (RegsFab.setReg64 _ _ _ _)).trans (RegsFab.setReg64 _ _ _ _)

theorem State.eventWords_gh (s : State) (l : Nat) (ws : List DWord) : (s.eventWords l ws).gh = s.gh := by
  simp only [State.eventWords, State.setReg64_gh, State.satIncF_gh, State.setRegF_gh]

theorem State.takeEvent_eq (s : State) (l : Nat) (ws : List DWord) :
    s.takeEvent l ws = ((s.eventWords l ws).irqBit (inPage l) (8 + l % 8)).setIn l { s.inLink l with
      freed := listSet (s.inLink l).freed 1 ((s.inLink l).freed.getD 1 0 + 1) } := by
  change ((s.eventWords l ws).irqBit (inPage l) (8 + l % 8)).inReturn l 1 1 = _
  rw [State.inReturn, State.inLink_irqBit, State.inLink_of_gh (s.eventWords_gh l ws)]

/-- What a taken EVENT leaves of the link's registers: its words, its event bit, and the registers beside them. -/
structure EventTaken (l : Nat) (ws : List DWord) (u t : State) : Prop where
  code : t.regF (inPage l) (inOff l 0x28) 0 16 = dfld (ws.getD 0 0) 15 16
  arrivals : t.regF (inPage l) (inOff l 0x28) 16 16 = min (u.regF (inPage l) (inOff l 0x28) 16 16 + 1) 65535
  arrival : t.reg64 (inPage l) (inOff l 0x2C) = u.now % 2 ^ 64
  instant : t.reg64 (inPage l) (inOff l 0x34) = (ws.getD 1 0).toNat
  value : t.reg64 (inPage l) (inOff l 0x3C) = (ws.getD 2 0).toNat
  event : t.regF (inPage l) 0x20 (8 + l % 8) 1 = 1
  events : ∀ k, k < 32 → u.regF (inPage l) 0x20 k 1 = 1 → t.regF (inPage l) 0x20 k 1 = 1
  regs : ∀ a, a ≠ (inPage l).base + 0x20 → (∀ k, k < 7 → a ≠ (inPage l).base + inOff l (0x28 + 4 * k)) → t.rd a = u.rd a
  link : t.inLink l = { u.inLink l with freed := listSet (u.inLink l).freed 1 ((u.inLink l).freed.getD 1 0 + 1) }
  others : SameTab l u.gh.inl t.gh.inl
  frame : InFrame u t

theorem State.takeEvent_taken (u : State) (l : Nat) (ws : List DWord) : EventTaken l ws u (u.takeEvent l ws) := by
  rw [State.takeEvent_eq]
  obtain ⟨hcode, hcount, harrival, hinstant, hvalue⟩ := u.eventWords_leave l ws
  have hrest := fun a => u.rd_eventWords_ne (l := l) (a := a) ws
  have hframe := u.eventWords_regsFab l ws
  have hgh := u.eventWords_gh l ws
  generalize u.eventWords l ws = e at *
  have hirq := fun r => State.reg_irqBit_ne e (p := inPage l) (8 + l % 8) (inOff_ne_raw l r)
  have hirq64 : ∀ r, (e.irqBit (inPage l) (8 + l % 8)).reg64 (inPage l) (inOff l r) = e.reg64 (inPage l) (inOff l r) :=
    fun r => by rw [State.reg64, State.reg64, inOff_add, hirq, hirq]
  have hevents : ∀ k, k < 32 → u.regF (inPage l) 0x20 k 1 = 1 → e.regF (inPage l) 0x20 k 1 = 1 := fun k _ h => by
    rw [State.regF, State.reg, hrest _ fun j _ => by unfold inOff; omega]
    exact h
  refine ⟨?_, ?_, (hirq64 _).trans harrival, (hirq64 _).trans hinstant, (hirq64 _).trans hvalue,
    State.regF_irqBit_self e _ (by omega), fun k hk h => (State.regF_irqBit e _ _ hk).2 (.inl (hevents k hk h)),
    fun a ha ha' => (State.rd_irqBit_ne e _ ha).trans (hrest a ha'), State.inLink_setIn _ _ _,
    sameTab_setIn hgh l _, ?_⟩
  · exact (congrArg (fld · 0 16) (hirq 0x28)).trans hcode
  · exact (congrArg (fld · 16 16) (hirq 0x28)).trans hcount
  · exact (hframe.trans (RegsFab.irqBit e _ _)).inFrame.trans (InFrame.setIn _ _ _)

theorem gheryEventReceive_does : Claims.gheryEventReceiveDoes := by
  intro l ws s h p len n x pg o d errs_ frame back good hup hl hvc hused hfreed hexpect
  obtain ⟨hcrcBad, hprotoBad⟩ := State.packetReceive_rejects hup hvc (by decide) hused hfreed
  refine ⟨⟨_, rfl, State.packetReceive_frameErr ws hup⟩, fun hcrc => ⟨_, rfl, hcrcBad hcrc⟩,
    fun hcrc hbad => ⟨_, rfl, hprotoBad hcrc hbad⟩, fun hcrc hgood hd => ?_⟩
  have hsound := of_decide_eq_true hgood
  change EventSound s l ws at hsound
  have hnext := State.packetReceive_good hup hvc (by decide) hcrc (State.inProtoBad_event hvc hsound) hd
  have hu := s.inAccept_accepted l 1 n ((dfld h 48 16 + 1) % 2 ^ 16) (s.seqGap l 1 ws)
  rw [hsound.1, if_neg (by decide)] at hnext
  change s.packetReceive l ws true = (s.inAccept l 1 n ((dfld h 48 16 + 1) % 2 ^ 16) (s.seqGap l 1 ws)).takeEvent l ws at hnext
  generalize s.inAccept l 1 _ _ _ = u at hnext hu
  have ht := u.takeEvent_taken l ws
  rw [← hnext] at ht
  refine ⟨_, rfl, ?_⟩
  change EventTaken l ws u (s.packetReceive l ws true) at ht
  generalize s.packetReceive l ws true = t at ht
  have hlink := ht.link
  rw [hu.link] at hlink
  have hother : ∀ r, r < 0x28 → t.inReg l r = u.inReg l r := fun r hr =>
    ht.regs _ (by unfold inOff; omega) fun k _ => by unfold inOff; omega
  have hstood : ∀ r, r ≠ 0x0C → r ≠ 0x14 → u.inReg l r = s.inReg l r := fun r hr hr' =>
    hu.regs _ (by simp [inOff]; omega)
  refine ⟨?_, ?_, (hother 0x0C (by decide)).trans hu.count, fun h => ⟨?_, ht.events _ (by omega) (hu.gap h).2⟩, ht.code, ?_, ?_,
    ht.instant, ht.value, ht.event, ?_, ?_, fun a ha => ?_, hu.others.trans ht.others, hu.frame.trans ht.frame⟩
  · rw [hlink]
  · rw [hlink]
    exact getD_listSet _ _ (Nat.lt_of_lt_of_eq (by decide) hused.symm)
  · exact (congrArg BitVec.toNat (hother 0x14 (by decide))).trans (hu.gap h).1
  · exact ht.arrivals.trans (congrArg (fun w => min (fld w 16 16 + 1) 65535) (hstood 0x28 (by decide) (by decide)))
  · rw [ht.arrival, hu.frame]
  · rw [hlink]
    exact getD_listSet _ _ (Nat.lt_of_lt_of_eq (by decide) hfreed.symm)
  · rw [hlink]
  · simp only [List.mem_cons, List.mem_map, List.mem_range, not_or, not_exists, not_and] at ha
    obtain ⟨hraw, hcount, hgap, hwords⟩ := ha
    rw [ht.regs a hraw fun k hk he => hwords k hk he.symm]
    exact hu.regs a (by simp [hraw, hcount, hgap, o, pg])

end Sys2Proof.Machine
end

section
/-! PROOF. O42: what arrives on a sideband, on a lane in training, and at an alignment marker's place. -/
namespace Sys2Proof.Machine

/-! ### CREDIT -/

/-- A sideband frame is a CREDIT packet as R249 gives it. -/
def creditSound (ws : List DWord) : Bool :=
  packetCrcOk ws && ws.length = 4 && dfld (ws.getD 0 0) 0 8 = 0x78 && dfld (ws.getD 0 0) 34 14 = 1
    && dfld (ws.getD 0 0) 8 26 = 0

/-- A CREDIT is later than the last one, if there was one. -/
def TxLink.newer (x : TxLink) (q : Nat) : Bool :=
  x.creditSeq.all fun c => decide ((q + 2 ^ 16 - c) % 2 ^ 16 ≠ 0 ∧ (q + 2 ^ 16 - c) % 2 ^ 16 < 2 ^ 15)

/-- The limit of VC `v` that a CREDIT packet gives (R249). -/
def creditLimit (ws : List DWord) (v : Nat) : Word :=
  wordOf (((ws.getD 1 0).toNat + 2 ^ 64 * (ws.getD 2 0).toNat) / 2 ^ (32 * v))

/-- The first `n` limits of a transmitter rise to those given, where they are higher. -/
def State.raiseLimits (s : State) (k : Nat) (lim : Nat → Word) (n : Nat) : State :=
  (List.range n).foldl (fun t v =>
    if (lim v - t.outReg k (0x0C + 4 * v)).toNat < 2 ^ 31 then t.setReg .ghOutL (outOff k (0x0C + 4 * v)) (lim v) else t) s

theorem State.raiseLimits_succ (s : State) (k : Nat) (lim : Nat → Word) (n : Nat) :
    s.raiseLimits k lim (n + 1) =
      if (lim n - (s.raiseLimits k lim n).outReg k (0x0C + 4 * n)).toNat < 2 ^ 31
      then (s.raiseLimits k lim n).setReg .ghOutL (outOff k (0x0C + 4 * n)) (lim n) else s.raiseLimits k lim n := by
  rw [State.raiseLimits, List.range_succ, List.foldl_append]
  rfl

/-- Every other register stands. -/
theorem State.rd_raiseLimits_ne (s : State) {k a : Nat} (lim : Nat → Word) (n : Nat)
    (h : ∀ v, v < n → a ≠ Page.base .ghOutL + outOff k (0x0C + 4 * v)) : (s.raiseLimits k lim n).rd a = s.rd a := by
  induction n with
  | zero => rfl
  | succ n ih =>
    have hstand := ih fun v hv => h v (Nat.lt_succ_of_lt hv)
    rw [State.raiseLimits_succ]
    split
    · rw [State.rd_setReg_ne _ _ (h n (Nat.lt_succ_self n)), hstand]
    · exact hstand

theorem State.outReg_raiseLimits (s : State) (k : Nat) (lim : Nat → Word) (n : Nat) {v : Nat} (hv : v < n) :
    (s.raiseLimits k lim n).outReg k (0x0C + 4 * v)
      = if (lim v - s.outReg k (0x0C + 4 * v)).toNat < 2 ^ 31 then lim v else s.outReg k (0x0C + 4 * v) := by
  induction n with
  | zero => cases hv
  | succ n ih =>
    have hold : (s.raiseLimits k lim n).outReg k (0x0C + 4 * n) = s.outReg k (0x0C + 4 * n) :=
      s.rd_raiseLimits_ne lim n fun w hw => by unfold outOff; omega
    rw [State.raiseLimits_succ, hold]
    obtain rfl | hlt : v = n ∨ v < n := by omega
    · split
      · exact State.reg_setReg _ _ _ _
      · exact hold
    · rw [← ih hlt]
      split
      · exact State.outReg_setReg_ne _ k _ (by omega)
      · rfl

theorem State.raiseLimits_regsFab (s : State) (k : Nat) (lim : Nat → Word) (n : Nat) : RegsFab s (s.raiseLimits k lim n) := by
  induction n with
  | zero => exact RegsFab.refl s
  | succ n ih =>
    rw [State.raiseLimits_succ]
    split
    · exact ih.trans (RegsFab.setReg _ _ _ _)
    · exact ih

theorem State.raiseLimits_gh (s : State) (k : Nat) (lim : Nat → Word) (n : Nat) : (s.raiseLimits k lim n).gh = s.gh := by
  rw [s.raiseLimits_regsFab k lim n]

section
variable {s : State} {k : Nat} {ws : List DWord} (hen : s.outEn k = true)
include hen

theorem State.creditReceive_bad (h : creditSound ws = false) : s.creditReceive k ws = s.sbErr k := by
  unfold creditSound at h
  simp only [State.creditReceive, hen, h, Bool.not_true, Bool.not_false, Bool.false_eq_true, if_false, if_true]

theorem State.creditReceive_dead (h : creditSound ws = true) (hdead : s.outState k ≠ 3 ∨ s.sbExpired k = true) :
    s.creditReceive k ws = s := by
  unfold creditSound at h
  simp only [State.creditReceive, hen, h, Bool.not_true, Bool.false_eq_true, if_false]
  exact if_pos (by simpa using hdead)

theorem State.creditReceive_live (h : creditSound ws = true) (hup : s.outState k = 3) (hlive : s.sbExpired k = false) :
    s.creditReceive k ws = if (s.txLink k).newer (dfld (ws.getD 0 0) 48 16)
      then (s.setTx k { s.txLink k with z := s.now, creditSeq := some (dfld (ws.getD 0 0) 48 16) }).raiseLimits k (creditLimit ws) 4
      else s.setTx k { s.txLink k with z := s.now } := by
  unfold creditSound at h
  have hold : ((s.txLink k).creditSeq.any fun q => decide ((dfld (ws.getD 0 0) 48 16 + 2 ^ 16 - q) % 2 ^ 16 = 0)
      || decide (2 ^ 15 ≤ (dfld (ws.getD 0 0) 48 16 + 2 ^ 16 - q) % 2 ^ 16))
      = !(s.txLink k).newer (dfld (ws.getD 0 0) 48 16) := by
    rw [TxLink.newer]
    cases (s.txLink k).creditSeq with
    | none => rfl
    | some c =>
      rw [Option.any_some, Option.all_some, Bool.eq_iff_iff]
      simp only [Bool.or_eq_true, decide_eq_true_eq, Bool.not_eq_true', decide_eq_false_iff_not]
      omega
  simp only [State.creditReceive, hen, h, hup, hlive, hold, Bool.not_true, Bool.false_eq_true, if_false, ne_eq,
    not_true_eq_false, decide_false, Bool.or_self]
  cases (s.txLink k).newer (dfld (ws.getD 0 0) 48 16)
  · rfl
  · simp only [Bool.not_true, Bool.false_eq_true, if_false, if_true, State.txLink_setTx, State.setTx_setTx]
    rfl

end

/-- A discarded sideband frame counts in SB_ERR of its lane (R233, R259). -/
theorem State.sbErr_leaves (s : State) (k : Nat) :
    ((s.sbErr k).reg (txPage k) (txOff k 8)).toNat = min ((s.reg (txPage k) (txOff k 8)).toNat + 1) (2 ^ 32 - 1)
      ∧ SameRegsBut [Page.base (txPage k) + txOff k 8] s (s.sbErr k) ∧ s.sbErr k = { s with regs := (s.sbErr k).regs } :=
  ⟨s.toNat_reg_satInc _ _ 1, fun a ha => s.rd_satInc_ne 1 (by simpa using ha), rfl⟩

theorem creditReceive_does : Claims.creditReceiveDoes := by
  intro k ws s h x q lim good live newer hen hk
  have hgood : good = creditSound ws := by
    simp only [good, creditSound, Bool.decide_and, Bool.decide_eq_true, Bool.and_assoc]
    rfl
  have hlive : live = (decide (s.outState k = 3) && !s.sbExpired k) := by
    simp only [live, Bool.decide_and, State.sbExpired, ← decide_not, Nat.not_le]
    rfl
  refine ⟨fun hbad => ?_, fun hok hdead => ?_, fun hok halive hnew => ?_, fun hok halive hold => ?_⟩
  · exact ⟨_, congrArg Host.Outcome.next (State.creditReceive_bad hen (hgood.symm.trans hbad)), s.sbErr_leaves k⟩
  · refine ⟨_, congrArg Host.Outcome.next (State.creditReceive_dead hen (hgood.symm.trans hok) ?_), rfl⟩
    rw [hlive, Bool.and_eq_false_iff] at hdead
    simpa using hdead
  all_goals
    rw [hlive, Bool.and_eq_true] at halive
    obtain ⟨hup, hquiet⟩ := halive
    have hnext := State.creditReceive_live hen (hgood.symm.trans hok) (of_decide_eq_true hup) (by simpa using hquiet)
  · have hnew' : (s.txLink k).newer (dfld (ws.getD 0 0) 48 16) = true := hnew
    rw [if_pos hnew'] at hnext
    refine ⟨_, congrArg Host.Outcome.next hnext, ?_⟩
    have hlink := s.txLink_setTx k { s.txLink k with z := s.now, creditSeq := some (dfld (ws.getD 0 0) 48 16) }
    have htab := sameTab_put s.gh.tx k { s.txLink k with z := s.now, creditSeq := some (dfld (ws.getD 0 0) 48 16) }
    have hrd := s.rd_setTx k { s.txLink k with z := s.now, creditSeq := some (dfld (ws.getD 0 0) 48 16) }
    have hframe := TxFrame.setTx s k { s.txLink k with z := s.now, creditSeq := some (dfld (ws.getD 0 0) 48 16) }
    change SameTab k s.gh.tx (s.setTx k { s.txLink k with z := s.now, creditSeq := some (dfld (ws.getD 0 0) 48 16) }).gh.tx at htab
    generalize s.setTx k { s.txLink k with z := s.now, creditSeq := some (dfld (ws.getD 0 0) 48 16) } = u at *
    have hgh := u.raiseLimits_gh k (creditLimit ws) 4
    have houtReg : ∀ r, u.outReg k r = s.outReg k r := fun r => hrd _
    refine ⟨(State.txLink_of_gh hgh k).trans hlink, fun v hv => ?_, fun a ha => ?_, hgh ▸ htab,
      hframe.trans (u.raiseLimits_regsFab k _ 4).txFrame⟩
    · rw [u.outReg_raiseLimits k _ 4 hv, houtReg]
      rfl
    · simp only [List.mem_map, List.mem_range, not_exists, not_and] at ha
      exact (u.rd_raiseLimits_ne _ 4 fun v hv he => ha v hv he.symm).trans (hrd a)
  · have hold' : ¬ (s.txLink k).newer (dfld (ws.getD 0 0) 48 16) = true := Bool.eq_false_iff.1 hold
    rw [if_neg hold'] at hnext
    exact ⟨_, congrArg Host.Outcome.next hnext, State.txLink_setTx _ _ _, fun a _ => rfl, sameTab_put _ _ _,
      TxFrame.setTx _ _ _⟩

/-! ### TRAIN -/

/-- A TRAIN packet is the one that its lane awaits: of a transmitter, for this lane and this width (R235, R242). -/
def State.trainMine (s : State) (i l : Nat) (ws : List DWord) : Bool :=
  trainOk ws 0 && dfld (ws.getD 1 0) 0 4 = i - l && dfld (ws.getD 1 0) 4 4 = fld (s.inReg l 0) 1 2

theorem State.trainIn_up {s : State} {i l : Nat} (ws : List DWord) (hlink : s.inLinkOf i = some l) (hup : s.inState l = 3) :
    s.trainIn i ws = s.inRetrain l false := by
  simp only [State.trainIn, hlink, hup, if_true]

theorem State.trainIn_waits {s : State} {i l : Nat} (ws : List DWord) (hlink : s.inLinkOf i = some l)
    (hup : s.inState l ≠ 3) :
    s.trainIn i ws = if s.trainMine i l ws
      then (s.setRx i { s.rxLane i with trains := min 8 ((s.rxLane i).trains + 1) }).setReg (inPage l) (inOff l 8)
        (wordOf (dfld (ws.getD 1 0) 32 32))
      else s.setRx i { s.rxLane i with trains := 0 } := by
  cases hmine : s.trainMine i l ws <;> unfold State.trainMine at hmine <;>
    simp only [State.trainIn, hlink, hup, hmine, Bool.false_eq_true, if_false, if_true]

/-- What a sound TRAIN packet on a live sideband leaves before its state is acted upon (R234, R237). -/
def State.sbHeard (s : State) (k : Nat) (ws : List DWord) : State :=
  (s.setTx k { s.txLink k with z := s.now }).setReg .ghOutL (outOff k 8) (wordOf (dfld (ws.getD 1 0) 32 32))

theorem State.outReg_sbHeard (s : State) (k : Nat) (ws : List DWord) :
    (s.sbHeard k ws).outReg k 8 = wordOf (dfld (ws.getD 1 0) 32 32) := State.outReg_setReg _ k 8 _

theorem State.outReg_sbHeard_ne (s : State) (k : Nat) (ws : List DWord) {r : Nat} (h : r ≠ 8) :
    (s.sbHeard k ws).outReg k r = s.outReg k r := by
  rw [State.sbHeard, State.outReg_setReg_ne _ k _ h, State.outReg_setTx]

section
variable {s : State} {k : Nat} {ws : List DWord} (hen : s.outEn k = true)
include hen

theorem State.trainSb_bad (h : trainOk ws 1 = false) : s.trainSb k ws = s.sbErr k := by
  simp only [State.trainSb, hen, h, Bool.not_true, Bool.not_false, Bool.false_eq_true, if_false, if_true]

theorem State.trainSb_ready (h : trainOk ws 1 = true) (hready : dfld (ws.getD 1 0) 8 4 = 1) (htrain : s.outState k = 1) :
    s.trainSb k ws = (s.sbHeard k ws).setTx k { s.txLink k with z := s.now, ready := true } := by
  have hlink : (s.sbHeard k ws).txLink k = { s.txLink k with z := s.now } := by
    rw [State.sbHeard, State.txLink_setReg, State.txLink_setTx]
  have hnext : s.trainSb k ws = (s.sbHeard k ws).setTx k { (s.sbHeard k ws).txLink k with ready := true } := by
    simp only [State.trainSb, hen, h, hready, htrain, Bool.not_true, Bool.false_eq_true, if_false, if_true,
      show ¬ (1 : Nat) = 3 by decide, decide_false, Bool.false_and]
    rfl
  rw [hnext, hlink]

theorem State.trainSb_seek (h : trainOk ws 1 = true) (hseek : dfld (ws.getD 1 0) 8 4 = 0) (hup : s.outState k = 3)
    (hlive : s.sbExpired k = false) : s.trainSb k ws = (s.sbHeard k ws).outRetrain k := by
  simp only [State.trainSb, hen, h, hseek, hup, hlive, Bool.not_true, Bool.false_eq_true, if_false,
    show ¬ (0 : Nat) = 1 by decide, Bool.and_false]
  rfl

end

theorem trainReceive_does : Claims.trainReceiveDoes := by
  intro i l ws s p mine x rx hi
  have hmine : mine = s.trainMine i l ws := by
    simp only [mine, State.trainMine, Bool.decide_and, Bool.decide_eq_true, Bool.and_assoc]
    rfl
  refine ⟨fun hlink hup hm => ?_, fun hlink hup hm => ?_, fun hlink hup => ?_, fun hen hi' hbad => ?_,
    fun hen hi' hok hready htrain => ?_, fun hen hi' hok hseek hup hlive => ?_⟩
  · have hnext := State.trainIn_waits ws hlink hup
    rw [if_pos (hmine.symm.trans hm)] at hnext
    refine ⟨_, congrArg Host.Outcome.next hnext, State.rxLane_setRx _ _ _, State.reg_setReg _ _ _ _, fun a ha => ?_,
      sameTab_put _ _ _, rfl⟩
    exact State.rd_setReg_ne _ _ (by simpa using ha)
  · have hnext := State.trainIn_waits ws hlink hup
    rw [if_neg (Bool.eq_false_iff.1 (hmine.symm.trans hm))] at hnext
    exact ⟨_, congrArg Host.Outcome.next hnext, State.rxLane_setRx _ _ _, fun a _ => rfl, sameTab_put _ _ _, rfl⟩
  · have ht := (State.inRetrain_trained (l := l) false (show 2 ≤ s.inState l by omega)).1
    exact ⟨_, congrArg Host.Outcome.next (State.trainIn_up ws hlink hup), ht.state, ht.count hup, ht.event⟩
  · exact ⟨_, congrArg Host.Outcome.next (State.trainSb_bad hen hbad), s.sbErr_leaves i⟩
  · refine ⟨_, congrArg Host.Outcome.next (State.trainSb_ready hen hok hready htrain), State.txLink_setTx _ _ _, ?_⟩
    rw [State.outReg_setTx, State.outReg_sbHeard]
    rfl
  · have hstate : (s.sbHeard i ws).outState i = 3 :=
      (congrArg (fld · 0 2) (s.outReg_sbHeard_ne i ws (by decide))).trans hup
    have hcount := s.outReg_sbHeard_ne i ws (r := 0x30) (by decide)
    obtain ⟨htrain, -, hcount', -, hevent⟩ := State.outRetrain_trained hi' hstate
    rw [hcount] at hcount'
    have hnext := State.trainSb_seek hen hok hseek hup hlive
    generalize (s.sbHeard i ws).outRetrain i = t at *
    exact ⟨t, congrArg Host.Outcome.next hnext, htrain, hcount', hevent⟩

/-! ### Alignment markers -/

/-- Count one more in a register of a page if a condition holds. -/
def State.countIf (s : State) (c : Bool) (p : Page) (off : Nat) : State := if c then s.satInc p off else s

theorem State.rd_countIf_ne (s : State) (c : Bool) {p : Page} {off a : Nat} (h : a ≠ p.base + off) :
    (s.countIf c p off).rd a = s.rd a := by
  cases c
  · rfl
  · exact s.rd_satInc_ne 1 h

/-- A counter has counted one more if a condition holds, and stands if it does not. -/
def CountedIf (c : Bool) (old new : Word) : Prop :=
  (c = true → new.toNat = min (old.toNat + 1) (2 ^ 32 - 1)) ∧ (c = false → new = old)

theorem State.reg_countIf (s : State) (c : Bool) (p : Page) (off : Nat) :
    CountedIf c (s.reg p off) ((s.countIf c p off).reg p off) := by
  cases c
  · exact ⟨fun h => absurd h (by decide), fun _ => rfl⟩
  · exact ⟨fun _ => s.toNat_reg_satInc p off 1, fun h => absurd h (by decide)⟩

theorem State.countIf_frame (s : State) (c : Bool) (p : Page) (off : Nat) :
    s.countIf c p off = { s with regs := (s.countIf c p off).regs } := by
  cases c <;> rfl

/-- A lane at a marker's place: its own state `x`, an error of the marker, a BIP mismatch, lock and skew. -/
def State.markLane (s : State) (i : Nat) (x : RxLane) (err bipErr lock : Bool) (skew : Nat) : State :=
  ((((s.setRx i x).countIf err (rxPage i) (rxOff i 0x10)).countIf bipErr (rxPage i) (rxOff i 0x0C)).setRegF (rxPage i)
    (rxOff i 4) 4 1 (if lock then 1 else 0)).setRegF (rxPage i) (rxOff i 4) 8 7 (min skew 127)

/-- What a marker's place leaves of its lane (R231, R232, R258). -/
structure LaneMarked (i : Nat) (x : RxLane) (err bipErr lock : Bool) (skew : Nat) (s t : State) : Prop where
  lane : t.rxLane i = x
  lock : bit (t.reg (rxPage i) (rxOff i 4)) 4 = lock
  skew : t.regF (rxPage i) (rxOff i 4) 8 7 = min skew 127
  amErrs : CountedIf err (s.reg (rxPage i) (rxOff i 0x10)) (t.reg (rxPage i) (rxOff i 0x10))
  bipErrs : CountedIf bipErr (s.reg (rxPage i) (rxOff i 0x0C)) (t.reg (rxPage i) (rxOff i 0x0C))
  regs : SameRegsBut [Page.base (rxPage i) + rxOff i 4, Page.base (rxPage i) + rxOff i 0x0C,
    Page.base (rxPage i) + rxOff i 0x10] s t
  others : SameTab i s.gh.rx t.gh.rx
  frame : t = { s with regs := t.regs, gh := { s.gh with rx := t.gh.rx } }

theorem State.markLane_marked (s : State) (i : Nat) (x : RxLane) (err bipErr lock : Bool) (skew : Nat) :
    LaneMarked i x err bipErr lock skew s (s.markLane i x err bipErr lock skew) := by
  have hlt : ∀ r, r < 0x40 → 0x800 ≤ rxOff i r := fun r hr => (rxOff_lt i hr).1
  have h4C := rxOff_ne i (r := 4) (o := 0x0C) (by decide)
  have h410 := rxOff_ne i (r := 4) (o := 0x10) (by decide)
  have hC10 := rxOff_ne i (r := 0x0C) (o := 0x10) (by decide)
  unfold State.markLane
  generalize hp : rxPage i = p at *
  generalize ho : rxOff i 4 = o at *
  generalize hoC : rxOff i 0x0C = oC at *
  generalize ho10 : rxOff i 0x10 = o10 at *
  have hamErrs := (s.setRx i x).reg_countIf err p o10
  have hbipErrs := ((s.setRx i x).countIf err p o10).reg_countIf bipErr p oC
  rw [State.reg, State.rd_countIf_ne _ _ (by omega)] at hbipErrs
  have hstand : ∀ a, a ≠ p.base + oC → (((s.setRx i x).countIf err p o10).countIf bipErr p oC).rd a
      = ((s.setRx i x).countIf err p o10).rd a := fun a ha => State.rd_countIf_ne _ _ ha
  have hstand' : ∀ a, a ≠ p.base + o10 → ((s.setRx i x).countIf err p o10).rd a = s.rd a := fun a ha =>
    State.rd_countIf_ne _ _ ha
  have hframe : (((s.setRx i x).countIf err p o10).countIf bipErr p oC) = { s.setRx i x with
      regs := (((s.setRx i x).countIf err p o10).countIf bipErr p oC).regs } := by
    rw [State.countIf_frame, State.countIf_frame]
  generalize (s.setRx i x).countIf err p o10 = v at *
  generalize v.countIf bipErr p oC = w at *
  have hgh : w.gh = (s.setRx i x).gh := by rw [hframe]
  have hword : ((w.setRegF p o 4 1 (if lock then 1 else 0)).setRegF p o 8 7 (min skew 127)).reg p o
      = setFld (setFld (w.reg p o) 4 1 (if lock then 1 else 0)) 8 7 (min skew 127) := by
    rw [State.reg_setRegF, State.reg_setRegF]
  have hrest : ∀ a, a ≠ p.base + o →
      ((w.setRegF p o 4 1 (if lock then 1 else 0)).setRegF p o 8 7 (min skew 127)).rd a = w.rd a := fun a ha =>
    (State.rd_setRegF_ne _ _ ha).trans (State.rd_setRegF_ne _ _ ha)
  refine ⟨(State.rxLane_of_gh hgh i).trans (s.rxLane_setRx i x), ?_, ?_, ?_, ?_, fun a ha => ?_, ?_, ?_⟩
  · rw [hp, ho, hword, bit_setFld_ne _ _ (by decide) (.inl (by decide)), bit_setFld _ _ (by decide) (by decide) (by decide)]
    cases lock <;> rfl
  · rw [State.regF, hp, ho, hword, fld_setFld _ _ (by decide)]
    exact Nat.mod_eq_of_lt (by omega)
  · rw [hp, ho10, State.reg, State.reg, hrest _ (by omega), hstand _ (by omega)]
    exact hamErrs
  · rw [hp, hoC, State.reg, State.reg, hrest _ (by omega)]
    exact hbipErrs
  · simp only [hp, ho, hoC, ho10, List.mem_cons, List.not_mem_nil, or_false, not_or] at ha
    rw [hrest a ha.1, hstand a ha.2.1, hstand' a ha.2.2]
  · change SameTab i s.gh.rx w.gh.rx
    rw [hgh]
    exact sameTab_put _ _ _
  · rw [hframe]
    rfl

/-- The marker that a lane awaits after AMCNT `c`: of its own lane and width, and the next count (R229, R231). -/
def State.markSound (s : State) (i l c : Nat) (am : Option DWord) : Bool :=
  decide (am.isSome = true ∧ dfld (am.getD 0) 0 8 = 0x87 ∧ dfld (am.getD 0) 8 8 = i - l
    ∧ dfld (am.getD 0) 16 4 = fld (s.inReg l 0) 1 2 ∧ dfld (am.getD 0) 32 32 = (c + 1) % 2 ^ 32)

section
variable {s : State} {i l c : Nat} (bip : Bool) (skew : Nat) (hlink : s.inLinkOf i = some l)
  (hcnt : (s.rxLane i).amCnt = some c)
include hlink hcnt

/-- A sound marker keeps or takes the lane's lock; a skew over 64 UI retrains the link. -/
theorem State.amReceive_sound {am : Option DWord} (h : s.markSound i l c am = true) :
    s.amReceive i am bip skew =
      let m := s.markLane i { s.rxLane i with amCnt := some ((c + 1) % 2 ^ 32), amBad := 0 } false
        (!bip && decide ((c + 1) % 2 ^ 32 ≠ 0)) true skew
      if 64 < skew then (m.setRegF (inPage l) (inOff l 4) 2 1 1).inRetrain l false else m := by
  obtain ⟨hsome, htype, hlane, hwidth, hcount⟩ := of_decide_eq_true h
  have hkept : (if bit (s.reg (rxPage i) (rxOff i 4)) 4 then decide (0 < 4) else true) = true := ite_self true
  simp only [State.amReceive, State.markLane, State.countIf, hlink, hcnt, hsome, htype, hlane, hwidth, hcount, hkept,
    decide_true, Bool.true_and, Bool.not_true, Bool.and_true, ne_eq, not_true_eq_false, decide_false, Bool.or_self,
    Option.any_some, Option.isSome_some, Bool.and_false, Bool.false_eq_true, if_false, if_true, Bool.false_or, Bool.not_false,
    decide_eq_true_eq]
  split <;> rfl

/-- At a locked lane a missing marker is an error; the fourth in a row loses the lock, which retrains the link. -/
theorem State.amReceive_missing (hlock : bit (s.reg (rxPage i) (rxOff i 4)) 4 = true) (hskew : skew ≤ 64) :
    s.amReceive i none bip skew =
      let m := s.markLane i { s.rxLane i with amCnt := some ((c + 1) % 2 ^ 32), amBad := (s.rxLane i).amBad + 1 } true
        false (decide ((s.rxLane i).amBad < 3)) skew
      if (s.rxLane i).amBad < 3 then m else m.inRetrain l false := by
  have hlast : decide ((s.rxLane i).amBad + 1 < 4) = decide ((s.rxLane i).amBad < 3) := by simp only [Nat.succ_lt_succ_iff]
  simp only [State.amReceive, State.markLane, State.countIf, hlink, hcnt, hlock, hlast, Option.isSome_none, Bool.false_and,
    Bool.not_false, Bool.true_or, Bool.true_and, Bool.false_eq_true, if_false, if_true, if_neg (Nat.not_lt.2 hskew),
    Option.isSome_some, Option.map_some, decide_eq_false (Nat.not_lt.2 hskew), Bool.or_false]
  by_cases h : (s.rxLane i).amBad < 3 <;> simp [h]

end

/-- Without an error of the marker the lane's AM_ERR stands. -/
theorem LaneMarked.regs_sound {i : Nat} {x : RxLane} {bipErr lock : Bool} {skew : Nat} {s t : State}
    (h : LaneMarked i x false bipErr lock skew s t) :
    SameRegsBut [Page.base (rxPage i) + rxOff i 4, Page.base (rxPage i) + rxOff i 0x0C] s t := by
  intro a ha
  by_cases hcount : a = (rxPage i).base + rxOff i 0x10
  · exact hcount ▸ h.amErrs.2 rfl
  · exact h.regs a (by simp at ha ⊢; tauto)

/-- Without a BIP mismatch the lane's BIP_ERR stands. -/
theorem LaneMarked.regs_noBip {i : Nat} {x : RxLane} {err lock : Bool} {skew : Nat} {s t : State}
    (h : LaneMarked i x err false lock skew s t) :
    SameRegsBut [Page.base (rxPage i) + rxOff i 4, Page.base (rxPage i) + rxOff i 0x10] s t := by
  intro a ha
  by_cases hcount : a = (rxPage i).base + rxOff i 0x0C
  · exact hcount ▸ h.bipErrs.2 rfl
  · exact h.regs a (by simp at ha ⊢; tauto)

/-- A link's registers stand when a lane is marked. -/
theorem LaneMarked.inReg {i : Nat} {x : RxLane} {err bipErr lock : Bool} {skew : Nat} {s t : State}
    (h : LaneMarked i x err bipErr lock skew s t) (hi : i < 24) (l r : Nat) : t.inReg l r = s.inReg l r := by
  have hne : ∀ o, o < 0x40 → (inPage l).base + inOff l r ≠ (rxPage i).base + rxOff i o := fun o ho =>
    (rxPage_ne_inPage hi (rxOff_lt i ho).2).symm
  exact h.regs _ (by simp [hne 4, hne 0x0C, hne 0x10])

theorem amReceive_does : Claims.amReceiveDoes := by
  intro i l am bip skew c s x pg w good locked lockIs errs frame hlink hcnt hi
  have h4 := (rxOff_lt i (r := 4) (by decide)).2
  refine ⟨fun hgood hskew => ?_, fun ham hlock hbad hskew => ?_, fun ham hlock hbad hskew hup => ?_, fun hgood hskew hup => ?_⟩
  · have hnext := State.amReceive_sound bip skew hlink hcnt hgood
    rw [if_neg (Nat.not_lt.2 hskew)] at hnext
    have hm := s.markLane_marked i { s.rxLane i with amCnt := some ((c + 1) % 2 ^ 32), amBad := 0 } false
      (!bip && decide ((c + 1) % 2 ^ 32 ≠ 0)) true skew
    refine ⟨_, congrArg Host.Outcome.next hnext, ?_⟩
    generalize s.markLane i _ _ _ _ _ = t at hm
    refine ⟨hm.lane, ⟨hm.lock, hm.skew⟩, fun hb hc => hm.bipErrs.1 ?_, fun hb => hm.bipErrs.2 ?_, hm.regs_sound, hm.others,
      hm.frame⟩
    · rw [hb, decide_eq_true hc]
      rfl
    · rw [hb]
      rfl
  · subst ham
    have hnext := State.amReceive_missing bip skew hlink hcnt hlock hskew
    have hm := s.markLane_marked i { s.rxLane i with amCnt := some ((c + 1) % 2 ^ 32), amBad := (s.rxLane i).amBad + 1 } true
      false (decide ((s.rxLane i).amBad < 3)) skew
    rw [if_pos hbad] at hnext
    refine ⟨_, congrArg Host.Outcome.next hnext, ?_⟩
    generalize s.markLane i _ _ _ _ _ = t at hm
    exact ⟨hm.lane, ⟨hm.lock.trans (decide_eq_true hbad), hm.skew⟩, hm.amErrs.1 rfl, hm.regs_noBip, hm.others, hm.frame⟩
  · subst ham
    have hnext := State.amReceive_missing bip skew hlink hcnt hlock hskew
    have hm := s.markLane_marked i { s.rxLane i with amCnt := some ((c + 1) % 2 ^ 32), amBad := (s.rxLane i).amBad + 1 } true
      false (decide ((s.rxLane i).amBad < 3)) skew
    have hfourth : ¬ (s.rxLane i).amBad < 3 := Nat.not_lt.2 (Nat.le_of_eq hbad.symm)
    rw [if_neg hfourth] at hnext
    refine ⟨_, congrArg Host.Outcome.next hnext, ?_⟩
    generalize s.markLane i _ _ _ _ _ = u at hm
    have hupNow : u.inState l = 3 := (congrArg (fld · 0 2) (hm.inReg hi l 4)).trans hup
    have ht := (State.inRetrain_trained (l := l) false (show 2 ≤ u.inState l by omega)).1
    generalize u.inRetrain l false = t at ht
    have hpage := fun o ho => ht.reg_rxPage hi (o := o) ho
    refine ⟨⟨?_, ?_⟩, ?_, ht.state⟩
    · exact (congrArg (bit · 4) (hpage _ h4)).trans (hm.lock.trans (decide_eq_false hfourth))
    · exact (congrArg (fld · 8 7) (hpage _ h4)).trans hm.skew
    · exact (congrArg BitVec.toNat (hpage _ (rxOff_lt i (by decide)).2)).trans (hm.amErrs.1 rfl)
  · have hnext := State.amReceive_sound bip skew hlink hcnt hgood
    rw [if_pos hskew] at hnext
    have hm := s.markLane_marked i { s.rxLane i with amCnt := some ((c + 1) % 2 ^ 32), amBad := 0 } false
      (!bip && decide ((c + 1) % 2 ^ 32 ≠ 0)) true skew
    refine ⟨_, congrArg Host.Outcome.next hnext, ?_⟩
    generalize s.markLane i _ _ _ _ _ = u at hm
    have hword : (u.setRegF (inPage l) (inOff l 4) 2 1 1).inReg l 4 = setFld (u.inReg l 4) 2 1 1 := State.reg_setRegF _ _ _ _ _ _
    generalize u.setRegF (inPage l) (inOff l 4) 2 1 1 = v at hword
    have hupNow : v.inState l = 3 := by
      rw [State.inState, hword, fld_setFld_ne _ _ (by decide) (.inl (by decide)), hm.inReg hi]
      exact hup
    have ht := (State.inRetrain_trained (l := l) false (show 2 ≤ v.inState l by omega)).1
    refine ⟨?_, ht.state⟩
    rw [ht.status 2 (by decide) (by decide), hword, bit_setFld _ _ (by decide) (by decide) (by decide)]
    rfl

end Sys2Proof.Machine
end

section
/-! PROOF. O42: what links send. Markers, TRAIN and CREDIT change the link's own state alone; every packet of a VC leaves by one
send, which takes its sequence number, its credits and its place in the round robin. -/
namespace Sys2Proof.Machine

/-! ### Markers, TRAIN and CREDIT -/

theorem amSend_does : Claims.amSendDoes := by
  intro k bips s x w hon
  exact ⟨_, congrArg Host.Outcome.next (if_neg hon), State.txLink_setTx _ _ _, sameTab_put _ _ _, rfl⟩

theorem trainSend_does : Claims.trainSendDoes := by
  intro k j s x q htrain hlane
  have hnext : s.trainSend k j = s.setTx k { x with
      trainSeq := listSet x.trainSeq j ((q + 1) % 2 ^ 16)
      trainLast := packet (BitVec.ofNat 64 (0x1E + q * 2 ^ 48)) (BitVec.ofNat 64
        (j + fld (s.outReg k 0) 1 2 * 2 ^ 4 + (s.reg .ghOutL 0x40).toNat * 2 ^ 32)) [] } := by
    rw [State.trainSend, if_pos (by simp [htrain, hlane])]
    simp only [headWord, trainParam, Nat.zero_mul, Nat.add_zero]
    rfl
  exact ⟨_, congrArg Host.Outcome.next hnext, State.txLink_setTx _ _ _, sameTab_put _ _ _, rfl⟩

/-- A TRAIN packet on a sideband takes the sideband's next sequence number (R235, R242). -/
def State.sbTrained (s : State) (l state : Nat) : InLink :=
  { s.inLink l with
    sbSeq := ((s.inLink l).sbSeq + 1) % 2 ^ 16
    sbLast := packet (BitVec.ofNat 64 (0x1E + (s.inLink l).sbSeq * 2 ^ 48)) (BitVec.ofNat 64
      (fld (s.inReg l 0) 1 2 * 2 ^ 4 + state * 2 ^ 8 + 2 ^ 16 + (s.reg .ghOutL 0x40).toNat * 2 ^ 32)) [] }

theorem State.sbTrain_eq (s : State) (l state : Nat) : s.sbTrain l state = s.setIn l (s.sbTrained l state) := by
  simp only [State.sbTrain, State.sbTrained, headWord, trainParam, Nat.zero_mul, Nat.add_zero, Nat.zero_add, Nat.one_mul]

theorem trainSeekSend_does : Claims.trainSeekSendDoes := by
  intro l s x htrain
  have hnext : s.seekSend l = s.setIn l (s.sbTrained l 0) := (if_pos htrain).trans (s.sbTrain_eq l 0)
  refine ⟨_, congrArg Host.Outcome.next hnext, (State.inLink_setIn _ _ _).trans ?_, sameTab_put _ _ _, rfl⟩
  simp only [State.sbTrained, Nat.zero_mul, Nat.add_zero]
  rfl

/-- The link after a CREDIT packet with the limits of VC 0 and 1 (R249, R250). -/
def InLink.credited (x : InLink) (g0 g1 : Nat) : InLink :=
  { x with
    crSeq := (x.crSeq + 1) % 2 ^ 16
    limit := [g0, g1]
    crLast := packet (BitVec.ofNat 64 (0x78 + 2 ^ 34 + x.crSeq * 2 ^ 48)) (BitVec.ofNat 64 (g0 + g1 * 2 ^ 32)) [0] }

/-- A receiver that is not training grants the buffer's credits with those returned (R250). -/
theorem State.inGrant_open (s : State) {l v : Nat} (h : 2 ≤ s.inState l) (hv : v < 2) :
    s.inGrant l v = ((s.inLink l).freed.getD v 0 + (if v = 0 then 32 * s.inW l else 4)) % 2 ^ 32 := by
  rw [State.inGrant, if_neg (by omega), State.inBuffer]
  obtain rfl | rfl : v = 0 ∨ v = 1 := by omega
  · rfl
  · rfl

theorem State.creditSend_up {s : State} {l : Nat} (h : s.inState l = 3) :
    s.creditSend l = s.setIn l ((s.inLink l).credited (s.inGrant l 0) (s.inGrant l 1)) := by
  simp only [State.creditSend, h, headWord, InLink.credited, Nat.zero_mul, Nat.add_zero, Nat.one_mul]
  rfl

theorem State.creditSend_ready {s : State} {l : Nat} (h : s.inState l = 2) :
    s.creditSend l = s.setIn l ((s.sbTrained l 1).credited (s.inGrant l 0) (s.inGrant l 1)) := by
  have hnext : s.creditSend l
      = (s.sbTrain l 1).setIn l (((s.sbTrain l 1).inLink l).credited (s.inGrant l 0) (s.inGrant l 1)) := by
    simp only [State.creditSend, h, headWord, InLink.credited, Nat.zero_mul, Nat.add_zero, Nat.one_mul]
    rfl
  rw [hnext, State.sbTrain_eq, State.inLink_setIn, State.setIn_setIn]

theorem creditSend_does : Claims.creditSendDoes := by
  intro l s x g cred
  refine ⟨fun hready => ?_, fun hup => ?_⟩
  · have hnext := State.creditSend_ready hready
    rw [s.inGrant_open (by omega) (by decide), s.inGrant_open (by omega) (by decide)] at hnext
    exact ⟨_, congrArg Host.Outcome.next hnext, State.inLink_setIn _ _ _, sameTab_put _ _ _, rfl⟩
  · have hnext := State.creditSend_up hup
    rw [s.inGrant_open (by omega) (by decide), s.inGrant_open (by omega) (by decide)] at hnext
    exact ⟨_, congrArg Host.Outcome.next hnext, State.inLink_setIn _ _ _, sameTab_put _ _ _, rfl⟩

/-! ### A packet leaves -/

/-- A packet of `bs` has left on a VC of a transmitter (R238, R240, R248, R249, R261). -/
def PacketSent (s : State) (k v type tspec : Nat) (param : DWord) (bs : List Nat) (t : State) : Prop :=
  (t.txLink k).last = packet
      (BitVec.ofNat 64 (type + v * 2 ^ 10 + tspec * 2 ^ 12 + (8 * ((bs.length + 7) / 8) - bs.length) * 2 ^ 31
        + (bs.length + 7) / 8 * 2 ^ 34 + (s.txLink k).seq.getD v 0 * 2 ^ 48)) param (bytesWords ((bs.length + 7) / 8) bs)
    ∧ (t.txLink k).seq = listSet (s.txLink k).seq v (((s.txLink k).seq.getD v 0 + 1) % 2 ^ 16)
    ∧ (t.txLink k).lastVc = v
    ∧ t.outReg k (0x1C + 4 * v) = s.outReg k (0x1C + 4 * v) + BitVec.ofNat 32 (credits ((bs.length + 7) / 8))
    ∧ t.outReg k 0x2C = s.outReg k 0x2C + 1 ∧ SameTab k s.gh.tx t.gh.tx

/-- A packet that has left stays so while the link's place in the send, its counters and the other links stand. -/
theorem PacketSent.of_stands {s t u : State} {k v type tspec : Nat} {param : DWord} {bs : List Nat}
    (h : PacketSent s k v type tspec param bs t) (hlast : (u.txLink k).last = (t.txLink k).last)
    (hseq : (u.txLink k).seq = (t.txLink k).seq) (hvc : (u.txLink k).lastVc = (t.txLink k).lastVc)
    (hregs : ∀ r, 0x1C ≤ r → r ≤ 0x2C → u.outReg k r = t.outReg k r) (htab : SameTab k t.gh.tx u.gh.tx) (hv : v < 4) :
    PacketSent s k v type tspec param bs u := by
  obtain ⟨h1, h2, h3, h4, h5, h6⟩ := h
  exact ⟨hlast.trans h1, hseq.trans h2, hvc.trans h3, (hregs _ (by omega) (by omega)).trans h4,
    (hregs _ (by decide) (by decide)).trans h5, h6.trans htab⟩

/-- What a packet's start leaves beside `PacketSent`. -/
structure SentOnly (k v : Nat) (s t : State) : Prop where
  upDue : (t.txLink k).upDue = (s.txLink k).upDue
  regs : SameRegsBut [Page.base .ghOutL + outOff k (0x1C + 4 * v), Page.base .ghOutL + outOff k 0x2C] s t
  frame : t = { s with regs := t.regs, gh := { s.gh with tx := t.gh.tx } }

/-- A transmitter's own state as a packet on a VC starts. -/
def State.txSent (s : State) (k v type tspec : Nat) (param : DWord) (bs : List Nat) : TxLink :=
  let q := (s.txLink k).seq.getD v 0
  let ws := packet (headWord type v tspec (8 * ((bs.length + 7) / 8) - bs.length) ((bs.length + 7) / 8) q) param
    (bytesWords ((bs.length + 7) / 8) bs)
  { s.txLink k with seq := listSet (s.txLink k).seq v ((q + 1) % 2 ^ 16), last := ws, lastVc := v,
                    busyUntil := s.now + ws.length * 512 / (25 * s.outW k) }

theorem State.egressSend_eq (s : State) (k v type tspec : Nat) (param : DWord) (bs : List Nat) :
    s.egressSend k v type tspec param bs
      = ((s.setTx k (s.txSent k v type tspec param bs)).wrapInc .ghOutL (outOff k (0x1C + 4 * v))
        (credits ((bs.length + 7) / 8))).wrapInc .ghOutL (outOff k 0x2C) := rfl

theorem State.outReg_wrapInc_ne (s : State) (k : Nat) {r o : Nat} (n : Nat) (h : r ≠ o) :
    (s.wrapInc .ghOutL (outOff k o) n).outReg k r = s.outReg k r := s.outReg_setReg_ne k _ h

theorem State.outReg_wrapInc (s : State) (k r n : Nat) :
    (s.wrapInc .ghOutL (outOff k r) n).outReg k r = s.outReg k r + wordOf n := s.reg_wrapInc _ _ _

theorem State.wrapInc_frame (s : State) (p : Page) (off n : Nat) :
    s.wrapInc p off n = { s with regs := (s.wrapInc p off n).regs } := rfl

theorem State.egressSend_sent (s : State) (k : Nat) {v : Nat} (type tspec : Nat) (param : DWord) (bs : List Nat) (hv : v < 4) :
    PacketSent s k v type tspec param bs (s.egressSend k v type tspec param bs)
      ∧ SentOnly k v s (s.egressSend k v type tspec param bs) := by
  have hlink : (s.egressSend k v type tspec param bs).txLink k = s.txSent k v type tspec param bs := by
    rw [State.egressSend_eq, State.wrapInc, State.txLink_setReg, State.wrapInc, State.txLink_setReg, State.txLink_setTx]
  have hcredits : (s.egressSend k v type tspec param bs).outReg k (0x1C + 4 * v)
      = s.outReg k (0x1C + 4 * v) + wordOf (credits ((bs.length + 7) / 8)) := by
    rw [State.egressSend_eq, State.outReg_wrapInc_ne _ _ _ (by omega), State.outReg_wrapInc, State.outReg_setTx]
  have hpackets : (s.egressSend k v type tspec param bs).outReg k 0x2C = s.outReg k 0x2C + wordOf 1 := by
    rw [State.egressSend_eq, State.outReg_wrapInc, State.outReg_wrapInc_ne _ _ _ (by omega), State.outReg_setTx]
  have hrest : ∀ a, a ≠ Page.base .ghOutL + outOff k (0x1C + 4 * v) → a ≠ Page.base .ghOutL + outOff k 0x2C →
      (s.egressSend k v type tspec param bs).rd a = s.rd a := fun a ha ha' => by
    rw [State.egressSend_eq, State.rd_wrapInc_ne _ _ ha', State.rd_wrapInc_ne _ _ ha, State.rd_setTx]
  have hframe : s.egressSend k v type tspec param bs = { s.setTx k (s.txSent k v type tspec param bs) with
      regs := (s.egressSend k v type tspec param bs).regs } := by
    rw [State.egressSend_eq, State.wrapInc_frame, State.wrapInc_frame (s.setTx k _)]
  generalize s.egressSend k v type tspec param bs = t at *
  have hgh : t.gh = (s.setTx k (s.txSent k v type tspec param bs)).gh := by rw [hframe]
  refine ⟨⟨?_, ?_, ?_, hcredits, hpackets, ?_⟩, ?_, fun a ha => ?_, ?_⟩
  · rw [hlink]
    rfl
  · rw [hlink]
    rfl
  · rw [hlink]
    rfl
  · rw [hgh]
    exact sameTab_put _ _ _
  · rw [hlink]
    rfl
  · simp only [List.mem_cons, List.not_mem_nil, or_false, not_or] at ha
    exact hrest a ha.1 ha.2
  · rw [hframe]
    rfl

theorem fld_lt (w : Word) (lo n : Nat) : fld w lo n < 2 ^ n := Nat.mod_lt _ (Nat.two_pow_pos n)

/-! ### Records of the roll map -/

theorem rmap_ne_ghOutL (o : Nat) : Page.base .rmap + 0x48 ≠ Page.base .ghOutL + o := by
  simp only [Page.base, Page.slot]
  omega

/-- The bytes of the first `n` records from the consumer's place on (R183, R245). -/
def State.rollBytes (s : State) (n : Nat) : List Nat :=
  (List.range n).flatMap fun i => readBytes s.mem (rmAddr ((s.reg .rmap 0x48).toNat + i)) 32

theorem State.rollSend_starts {s : State} {k v : Nat} (hv : s.regF .rmap 0x40 4 2 = v) (hwaits : s.rollWaits k v = true)
    (hcredit : 1 ≤ s.credit k v) (hdue : (s.txLink k).upDue = false) (hmay : s.maySend k v = true) :
    s.rollSend k = (s.egressSend k v 0x55 0 (BitVec.ofNat 64 ((s.reg .rmap 0x48).toNat * 2 ^ 32))
      (s.rollBytes (min 7 s.rmFill))).wrapInc .rmap 0x48 (min 7 s.rmFill) := by
  simp only [State.rollSend, hv, hwaits, hcredit, hdue, hmay, decide_true, Bool.and_self, Bool.not_false, if_true]
  rfl

theorem rollrecSend_does : Claims.rollrecSendDoes := by
  intro k s v n first send hwaits hcredit hdue hmay
  have hnext := State.rollSend_starts rfl hwaits hcredit hdue hmay
  have hv : v < 4 := fld_lt _ _ _
  obtain ⟨hsent, honly⟩ := s.egressSend_sent k 0x55 0 (BitVec.ofNat 64 (first * 2 ^ 32)) (s.rollBytes n) hv
  change s.rollSend k
    = (s.egressSend k v 0x55 0 (BitVec.ofNat 64 (first * 2 ^ 32)) (s.rollBytes n)).wrapInc .rmap 0x48 n at hnext
  generalize s.egressSend k v 0x55 0 _ _ = u at *
  refine ⟨_, congrArg Host.Outcome.next hnext, ?_⟩
  have hgh : (u.wrapInc .rmap 0x48 n).gh = u.gh := u.wrapInc_gh _ _ _
  have hrd := fun a (ha : a ≠ Page.base .rmap + 0x48) => u.rd_wrapInc_ne n ha
  have hcount := u.reg_wrapInc .rmap 0x48 n
  have hframe := u.wrapInc_frame .rmap 0x48 n
  generalize u.wrapInc .rmap 0x48 n = t at *
  have hlink := State.txLink_of_gh hgh k
  refine ⟨hsent.of_stands (hlink ▸ rfl) (hlink ▸ rfl) (hlink ▸ rfl) (fun r _ _ => hrd _ (rmap_ne_ghOutL _).symm)
    (hgh ▸ fun _ _ => rfl) hv, hcount.trans ?_, fun a ha => ?_, ?_⟩
  · rw [State.reg, honly.regs _ (by simp [rmap_ne_ghOutL])]
    rfl
  · simp only [List.mem_cons, List.not_mem_nil, or_false, not_or] at ha
    exact (hrd a ha.2.2).trans (honly.regs a (by simp [ha.1, ha.2.1]))
  · rw [hframe, honly.frame]

/-! ### Patches -/

theorem State.patchRowSend_starts {s : State} {g k v : Nat} {r : PatchRow} {rest : List PatchRow}
    (hk : s.regF (.surfG g) 0x40 0 2 = k) (hv : s.regF (.surfG g) 0x40 2 2 = v) (hrows : tabGet? s.surf.rows g = some (r :: rest))
    (hcredit : credits ((r.bytes.length + 7) / 8) ≤ s.credit k v) (hdue : (s.txLink k).upDue = false)
    (hmay : s.maySend k v = true) (hold : s.oldestRow k v = some g) :
    s.patchRowSend g = { (s.egressSend k v 0x4B ((if r.p16 then 2 ^ 17 else 0) + r.row * 2 ^ 10 + (r.width - 1) * 2 ^ 3)
      (BitVec.ofNat 64 (r.line + r.x0 * 2 ^ 32 + r.win * 2 ^ 48)) r.bytes) with
        surf := { s.surf with rows := tabPut s.surf.rows g rest } } := by
  have hget : tabGet [] s.surf.rows g = r :: rest := by rw [tabGet, hrows]; rfl
  simp only [State.patchRowSend, hk, hv, hget, lenPad, hcredit, hdue, hmay, hold, decide_true, Bool.and_self, Bool.not_false,
    if_true]

theorem patchRowSend_does : Claims.patchRowSendDoes := by
  intro g r rest s k v send hrows hcredit hdue hmay hold
  have hnext := State.patchRowSend_starts rfl rfl hrows hcredit hdue hmay hold
  have hv : v < 4 := fld_lt _ _ _
  obtain ⟨hsent, honly⟩ := s.egressSend_sent k 0x4B ((if r.p16 then 2 ^ 17 else 0) + r.row * 2 ^ 10 + (r.width - 1) * 2 ^ 3)
    (BitVec.ofNat 64 (r.line + r.x0 * 2 ^ 32 + r.win * 2 ^ 48)) r.bytes hv
  refine ⟨_, congrArg Host.Outcome.next hnext, ?_⟩
  change PacketSent s k v _ _ _ _ _ ∧ _
  generalize s.egressSend _ _ 0x4B _ _ _ = u at *
  refine ⟨hsent, tabGet?_put _ _ _, sameTab_put _ _ _, honly.regs, ?_⟩
  rw [honly.frame]

/-- A window's trailer may leave: its rows have, and its blob is done (R212). -/
theorem State.trailerReady_of {s : State} {w : PatchWin} {b : Blob} (hdone : w.done = some b) (hrows : w.rows ≤ w.next)
    (hsent : ∀ r ∈ tabGet [] s.surf.rows w.group, r.win ≠ w.id) : s.trailerReady w = true := by
  simp only [State.trailerReady, hdone, hrows, decide_true, Option.isSome_some, Bool.true_and, Bool.not_eq_true',
    List.any_eq_false, decide_eq_true_eq]
  exact hsent

theorem State.trailerSend_starts {s : State} {id k v : Nat} {w : PatchWin} {b : Blob} (hwin : s.win id = some w)
    (hdone : w.done = some b) (hk : s.regF (.surfG w.group) 0x40 0 2 = k) (hv : s.regF (.surfG w.group) 0x40 2 2 = v)
    (hready : s.trailerReady w = true) (hcredit : 1 ≤ s.credit k v) (hdue : (s.txLink k).upDue = false)
    (hmay : s.maySend k v = true) :
    s.trailerSend id =
      let u := s.egressSend k v 0x4B (2 ^ 18 + (if s.regF (.surfG w.group) 0x40 4 1 = 0 then 2 ^ 17 else 0)
        + (w.rows - 1) * 2 ^ 10 + (w.width - 1) * 2 ^ 3)
        (BitVec.ofNat 64 (w.row0 % 2 ^ 32 + w.x0 * 2 ^ 32 + w.id * 2 ^ 48)) (trailerBytes w b)
      { u with surf := { u.surf with wins := u.surf.wins.filter fun x => x.id ≠ id } } := by
  simp only [State.trailerSend, hwin, hdone, hk, hv, hready, hcredit, hdue, hmay, decide_true, Bool.and_self, Bool.not_false,
    if_true]

theorem patchTrailerSend_does : Claims.patchTrailerSendDoes := by
  intro id w b s k v send hwin hdone hrows hleft hcredit hdue hmay
  have hnext := State.trailerSend_starts hwin hdone rfl rfl (State.trailerReady_of hdone hrows hleft) hcredit hdue hmay
  have hv : v < 4 := fld_lt _ _ _
  obtain ⟨hsent, honly⟩ := s.egressSend_sent k 0x4B (2 ^ 18 + (if s.regF (.surfG w.group) 0x40 4 1 = 0 then 2 ^ 17 else 0)
    + (w.rows - 1) * 2 ^ 10 + (w.width - 1) * 2 ^ 3) (BitVec.ofNat 64 (w.row0 % 2 ^ 32 + w.x0 * 2 ^ 32 + w.id * 2 ^ 48))
    (trailerBytes w b) hv
  refine ⟨_, congrArg Host.Outcome.next hnext, ?_⟩
  change PacketSent s k v _ _ _ _ _ ∧ _
  generalize s.egressSend _ _ 0x4B _ _ _ = u at *
  have hsurf : u.surf = s.surf := by rw [honly.frame]
  refine ⟨hsent, fun x => ?_, honly.regs, ?_⟩
  · simp only [hsurf, List.mem_filter, decide_eq_true_eq]
  · rw [honly.frame]

/-! ### Events -/

theorem State.eventWaits_of {s : State} {k : Nat} (h : (s.txLink k).upDue = true ∨ bit (s.outReg k 0x44) 0 = true) :
    s.eventWaits k (fld (s.outReg k 0x34) 16 2) = true := by
  simp only [State.eventWaits, decide_true, Bool.true_and, Bool.or_eq_true]
  exact h.symm

/-- LINK_UP goes first (R246). -/
theorem State.eventSend_linkUp {s : State} {k v : Nat} (hv : fld (s.outReg k 0x34) 16 2 = v) (hdue : (s.txLink k).upDue = true)
    (hcredit : 1 ≤ s.credit k v) (hmay : s.maySend k v = true) :
    s.eventSend k =
      let u := s.egressSend k v 0x66 (0x8000 * 2 ^ 3) (BitVec.ofNat 64 s.now)
        (bytesLE 8 (k + s.outW k * 2 ^ 8 + (s.reg .ghOutL 0x40).toNat * 2 ^ 32))
      u.setTx k { u.txLink k with upDue := false } := by
  have hwaits := hv ▸ s.eventWaits_of (k := k) (.inl hdue)
  simp only [State.eventSend, hv, hwaits, hcredit, hmay, hdue, decide_true, Bool.and_self, if_true]

theorem State.eventSend_pending {s : State} {k v : Nat} (hv : fld (s.outReg k 0x34) 16 2 = v) (hdue : (s.txLink k).upDue = false)
    (hpending : bit (s.outReg k 0x44) 0 = true) (hcredit : 1 ≤ s.credit k v) (hmay : s.maySend k v = true) :
    s.eventSend k = ((s.egressSend k v 0x66 (fld (s.outReg k 0x34) 0 16 * 2 ^ 3) (BitVec.ofNat 64 s.now)
      (bytesLE 8 ((s.outReg k 0x38).toNat + 2 ^ 32 * (s.outReg k 0x3C).toNat))).setReg .ghOutL (outOff k 0x44) 0).irqBit .ghOutL
        (8 + k) := by
  have hwaits := hv ▸ s.eventWaits_of (k := k) (.inr hpending)
  simp only [State.eventSend, hv, hwaits, hcredit, hmay, hdue, decide_true, Bool.and_self, Bool.false_eq_true, if_false, if_true]

/-- A register of an egress link stands when an event bit of its page is raised. -/
theorem State.outReg_irqBit (s : State) (k j r : Nat) : (s.irqBit .ghOutL j).outReg k r = s.outReg k r :=
  s.reg_irqBit_ne j (outOff_ne_raw k r)

theorem eventPacketSend_does : Claims.eventPacketSendDoes := by
  intro k s v x send hcredit hmay hk
  have hv : v < 4 := fld_lt _ _ _
  refine ⟨fun hdue => ?_, fun hdue hpending => ?_⟩
  · have hnext := State.eventSend_linkUp rfl hdue hcredit hmay
    obtain ⟨hsent, honly⟩ := s.egressSend_sent k 0x66 (0x8000 * 2 ^ 3) (BitVec.ofNat 64 s.now)
      (bytesLE 8 (k + s.outW k * 2 ^ 8 + (s.reg .ghOutL 0x40).toNat * 2 ^ 32)) hv
    refine ⟨_, congrArg Host.Outcome.next hnext, ?_⟩
    change PacketSent s k v _ _ _ _ _ ∧ _
    generalize s.egressSend _ _ 0x66 _ _ _ = u at *
    have hlink := u.txLink_setTx k { u.txLink k with upDue := false }
    have htab := sameTab_put u.gh.tx k { u.txLink k with upDue := false }
    refine ⟨hsent.of_stands (by rw [hlink]) (by rw [hlink]) (by rw [hlink]) (fun r _ _ => rfl) htab hv, by rw [hlink],
      honly.regs, ?_⟩
    rw [honly.frame]
    rfl
  · have hnext := State.eventSend_pending rfl hdue hpending hcredit hmay
    obtain ⟨hsent, honly⟩ := s.egressSend_sent k 0x66 (fld (s.outReg k 0x34) 0 16 * 2 ^ 3) (BitVec.ofNat 64 s.now)
      (bytesLE 8 ((s.outReg k 0x38).toNat + 2 ^ 32 * (s.outReg k 0x3C).toNat)) hv
    refine ⟨_, congrArg Host.Outcome.next hnext, ?_⟩
    change PacketSent s k v _ _ _ _ _ ∧ _
    generalize s.egressSend _ _ 0x66 _ _ _ = u at *
    have hgh : ((u.setReg .ghOutL (outOff k 0x44) 0).irqBit .ghOutL (8 + k)).gh = u.gh := by
      rw [State.irqBit_gh, State.setReg_gh]
    have hlink := State.txLink_of_gh hgh k
    have hstand : ∀ r, r ≠ 0x44 →
        ((u.setReg .ghOutL (outOff k 0x44) 0).irqBit .ghOutL (8 + k)).outReg k r = u.outReg k r := fun r hr => by
      rw [State.outReg_irqBit, State.outReg_setReg_ne _ _ _ hr]
    have hcleared : ((u.setReg .ghOutL (outOff k 0x44) 0).irqBit .ghOutL (8 + k)).outReg k 0x44 = 0 := by
      rw [State.outReg_irqBit, State.outReg_setReg]
    have hevent := State.regF_irqBit_self (u.setReg .ghOutL (outOff k 0x44) 0) .ghOutL (k := 8 + k) (by omega)
    have hrest : ∀ a, a ≠ Page.base .ghOutL + outOff k 0x44 → a ≠ Page.base .ghOutL + 0x20 →
        ((u.setReg .ghOutL (outOff k 0x44) 0).irqBit .ghOutL (8 + k)).rd a = u.rd a := fun a ha ha' =>
      (State.rd_irqBit_ne _ _ ha').trans (u.rd_setReg_ne _ ha)
    have hframe := (RegsFab.setReg u .ghOutL (outOff k 0x44) 0).trans
      (RegsFab.irqBit (u.setReg .ghOutL (outOff k 0x44) 0) .ghOutL (8 + k))
    generalize (u.setReg .ghOutL (outOff k 0x44) 0).irqBit .ghOutL (8 + k) = t at *
    refine ⟨hsent.of_stands (hlink ▸ rfl) (hlink ▸ rfl) (hlink ▸ rfl) (fun r _ hr => hstand r (by omega))
      (hgh ▸ fun _ _ => rfl) hv, hcleared, hevent, fun a ha => ?_, ?_⟩
    · simp only [List.mem_cons, List.not_mem_nil, or_false, not_or] at ha
      exact (hrest a ha.2.2.1 ha.2.2.2).trans (honly.regs a (by simp [ha.1, ha.2.1]))
    · have hframe' : TxFrame s u := by
        unfold TxFrame
        rw [honly.frame]
      exact hframe'.trans hframe.txFrame

/-- Settles O42: what is received is counted and its credits return, or it is accepted and taken; markers and TRAIN packets move the
lane and the link as `LaneMarked`, `InTrained` and `OutTrained` say; what is sent leaves as `PacketSent` says. -/
theorem gheryPackets : Obligations.GheryPackets :=
  ⟨linePacketReceive_does, gheryEventReceive_does, creditReceive_does, trainReceive_does, amReceive_does, amSend_does,
    trainSend_does, trainSeekSend_does, creditSend_does, rollrecSend_does, patchRowSend_does, patchTrailerSend_does,
    eventPacketSend_does⟩

end Sys2Proof.Machine
end

section
/-! PROOF. O46 fails for a premise that POS_SNAPSHOT_READ, TOTAL_READ and EVENTS_READ lack: they do not ask that Tidemark is fitted.
On a part without -M the mailbox is an absent region, which serves a read, reads 0 and latches nothing (R3, R37). -/
namespace Sys2Proof.Machine

/-- A part without -M, as reset leaves it. -/
def withoutTidemark : State :=
  { State.reset with fuses := { State.reset.fuses with tidemark := false } }

/-- The core's read of POS_LO is served by the absent region, and leaves no latch of the mailbox. -/
theorem withoutTidemark_posLo_unlatched :
    withoutTidemark.regionAt 0x60000000 = some .absent
      ∧ withoutTidemark.serves ⟨.headland, 0x60000000, 4, 0, true⟩
      ∧ (withoutTidemark.winRd .headland (mirAddr 0) false).latchOf Master.headland.id 0x60000000 = none := by
  decide +kernel

/-- Refutes O46: POS_SNAPSHOT_READ on a part without -M latches no other word of the broadcast. -/
theorem not_tidemarkProposals : ¬ Obligations.TidemarkProposals := by
  rintro ⟨-, -, -, -, -, -, -, -, -, hread, -⟩
  obtain ⟨-, hserves, hnone⟩ := withoutTidemark_posLo_unlatched
  obtain ⟨t, ht, -, hlatched, -⟩ := hread .headland false withoutTidemark hserves
  obtain rfl : withoutTidemark.winRd .headland (mirAddr 0) false = t := Host.Outcome.next.inj ht
  rw [Latched, hnone] at hlatched
  cases hlatched

end Sys2Proof.Machine
end

section
/-! SUPPORT. Tidemark's own state: what TM_STAT, an audit record, a commit and the legal-error state change, and that counting
stands beside them. -/
namespace Sys2Proof.Machine

/-! ### Tidemark and registers -/

@[simp] theorem State.rd_setTm (s : State) (x : Tidemark) (a : Nat) : (s.setTm x).rd a = s.rd a := rfl

@[simp] theorem State.regF_setTm (s : State) (x : Tidemark) (p : Page) (off lo n : Nat) :
    (s.setTm x).regF p off lo n = s.regF p off lo n := rfl

theorem State.setRegF_setTm (s : State) (x : Tidemark) (p : Page) (off lo n v : Nat) :
    (s.setTm x).setRegF p off lo n v = (s.setRegF p off lo n v).setTm x := rfl

/-- `t` differs from `s` in Tidemark and in registers alone. -/
def TmRegs (s t : State) : Prop := t = { s with tm := t.tm, regs := t.regs }

theorem TmRegs.trans {s t u : State} (h : TmRegs s t) (h' : TmRegs t u) : TmRegs s u := by
  unfold TmRegs at h
  generalize t.tm = tm, t.regs = regs at h
  subst h
  exact h'

/-- As `TmRegs`, after a free value is drawn. -/
theorem TmRegs.of_draw {s t : State} (h : TmRegs s.draw t) : t = { s with tm := t.tm, regs := t.regs, free := t.free } := by
  unfold TmRegs at h
  generalize t.tm = tm, t.regs = regs at h
  subst h
  rfl

theorem TmRegs.setTm (s : State) (x : Tidemark) : TmRegs s (s.setTm x) := rfl

/-- TM_STAT says whether Tidemark runs (R298). What a boot or a stop does beside it does not look into this write. -/
@[irreducible] def State.tmStat (s : State) (runs : Bool) : State := s.setRegF .tml 0x40 2 1 runs.toNat

theorem State.setRegF_tmStat (s : State) (x : Tidemark) (runs : Bool) :
    (s.setTm x).setRegF .tml 0x40 2 1 runs.toNat = (s.tmStat runs).setTm x := by
  unfold State.tmStat
  exact State.setRegF_setTm ..

theorem State.setRegF_tmStarts (s : State) (x : Tidemark) :
    (s.setTm x).setRegF .tml 0x40 2 1 1 = (s.tmStat true).setTm x := s.setRegF_tmStat x true

theorem State.setRegF_tmStops (s : State) (x : Tidemark) :
    (s.setTm x).setRegF .tml 0x40 2 1 0 = (s.tmStat false).setTm x := s.setRegF_tmStat x false

theorem State.regF_tmStat (s : State) (runs : Bool) (x : Tidemark) :
    ((s.tmStat runs).setTm x).regF .tml 0x40 2 1 = runs.toNat := by
  unfold State.tmStat
  rw [State.regF_setTm, State.regF, State.reg_setRegF, fld_setFld _ _ (by decide)]
  cases runs <;> rfl

theorem State.tmStat_sameRegs (s : State) (runs : Bool) (x : Tidemark) :
    SameRegsBut [Page.base .tml + 0x40] s ((s.tmStat runs).setTm x) := fun a ha => by
  unfold State.tmStat
  rw [State.rd_setTm, State.rd_setRegF_ne s _ (List.mem_singleton.not.mp ha)]

theorem TmRegs.setRegF (s : State) (p : Page) (off lo n v : Nat) : TmRegs s (s.setRegF p off lo n v) := rfl

theorem TmRegs.tmStat (s : State) (runs : Bool) (x : Tidemark) : TmRegs s ((s.tmStat runs).setTm x) := by
  unfold State.tmStat
  exact (TmRegs.setRegF ..).trans (TmRegs.setTm _ x)

/-! ### Records and commits (R283, R293) -/

theorem State.tmSend_eq (s : State) (x : TmXfer) : s.tmSend x = s.setTm { s.tm with out := s.tmSends [x] } := by
  unfold State.tmSend State.tmSends
  split <;> rfl

/-- An audit record changes the log, its chain and the transfers on their way alone. -/
theorem State.audit_frame (s : State) (kind id old new : Nat) :
    s.audit kind id old new = s.setTm { s.tm with
      out := (s.audit kind id old new).tm.out
      nv := { s.tm.nv with
        audits := (s.audit kind id old new).tm.nv.audits, nextRec := (s.audit kind id old new).tm.nv.nextRec,
        prevMac := (s.audit kind id old new).tm.nv.prevMac } } := by
  rw [State.audit, State.tmSend_eq]
  rfl

/-- The record written is the one of R283. -/
theorem State.audit_audited (s : State) (kind id old new : Nat) :
    Audited s (s.audit kind id old new) s.tm.nv.events s.tm.nv.sealed kind id old new := by
  rw [State.audit, State.tmSend_eq]
  exact ⟨rfl, rfl, rfl⟩

/-- What a record holds of the state before it, besides what it is given: the log, its chain, and the last strobe's instant. -/
theorem Audited.congr {s s' t : State} {events kind id old new : Nat} {isSealed : Bool} (hlast : s'.tm.last = s.tm.last)
    (hkey : s'.tm.nv.key = s.tm.nv.key) (hrec : s'.tm.nv.nextRec = s.tm.nv.nextRec)
    (hprev : s'.tm.nv.prevMac = s.tm.nv.prevMac) (haudits : s'.tm.nv.audits = s.tm.nv.audits)
    (h : Audited s t events isSealed kind id old new) : Audited s' t events isSealed kind id old new := by
  simp only [Audited, hlast, hkey, hrec, hprev, haudits] at h ⊢
  exact h

theorem State.tmCommit_committed (s : State) (final : Bool) : Committed s (s.tmCommit final) final := rfl

/-! ### The legal-error state (R272) -/

/-- `t` differs from `s` in the audit log, the legal-error state and the transfers on their way alone. -/
def ErrFrame (s t : State) : Prop :=
  t = s.setTm { s.tm with
    err := t.tm.err, entered := t.tm.entered, cause := t.tm.cause, out := t.tm.out
    nv := { s.tm.nv with
      audits := t.tm.nv.audits, nextRec := t.tm.nv.nextRec, prevMac := t.tm.nv.prevMac, errOwed := t.tm.nv.errOwed } }

theorem ErrFrame.refl (s : State) : ErrFrame s s := rfl

theorem ErrFrame.trans {s t u : State} (h : ErrFrame s t) (h' : ErrFrame t u) : ErrFrame s u := by
  unfold ErrFrame at h
  generalize t.tm.err = err, t.tm.entered = entered, t.tm.cause = cause, t.tm.out = out, t.tm.nv.audits = audits,
    t.tm.nv.nextRec = nextRec, t.tm.nv.prevMac = prevMac, t.tm.nv.errOwed = errOwed at h
  subst h
  exact h'

theorem State.audit_err (s : State) (kind id old new : Nat) : (s.audit kind id old new).tm.err = s.tm.err :=
  congrArg (·.tm.err) (s.audit_frame kind id old new)

theorem ErrFrame.audit (s : State) (kind id old new : Nat) : ErrFrame s (s.audit kind id old new) := by
  rw [State.audit_frame]
  rfl

/-- Tidemark as it enters the legal-error state, before the record of that. -/
def State.errEntered (s : State) (cause : Nat) : State :=
  s.setTm { s.tm with err := true, entered := true, cause := cause, nv := { s.tm.nv with errOwed := true } }

theorem ErrFrame.errEntered (s : State) (cause : Nat) : ErrFrame s (s.errEntered cause) := rfl

/-- A cause that may be active or not, and that enters the legal-error state if it is. -/
def State.errIf (s : State) (active : Bool) (cause : Nat) : State := if active then s.legalErr cause else s

@[simp] theorem State.errIf_false (s : State) (cause : Nat) : s.errIf false cause = s := rfl

/-- The first active cause enters the legal-error state and is recorded; a later one changes nothing. -/
theorem State.errIf_eq (s : State) (active : Bool) (cause : Nat) :
    s.errIf active cause = if active && !s.tm.err then (s.errEntered cause).audit 6 0 cause 0 else s := by
  cases active
  case false => rfl
  case true =>
    rw [State.errIf, if_pos rfl, State.legalErr]
    cases s.tm.err <;> rfl

theorem ErrFrame.errIf (s : State) (active : Bool) (cause : Nat) : ErrFrame s (s.errIf active cause) := by
  rw [State.errIf_eq]
  split
  · exact (ErrFrame.errEntered s cause).trans (ErrFrame.audit _ _ _ _ _)
  · exact ErrFrame.refl s

theorem State.errIf_err (s : State) (active : Bool) (cause : Nat) :
    (s.errIf active cause).tm.err = (s.tm.err || active) := by
  rw [State.errIf_eq]
  split
  case isTrue h =>
    obtain ⟨rfl, -⟩ := Bool.and_eq_true_iff.mp h
    rw [Bool.or_true]
    exact State.audit_err ..
  case isFalse h =>
    revert h
    cases s.tm.err <;> cases active <;> decide

/-- Without a legal error nothing was entered, and nothing changed. -/
theorem State.errIf_of_noErr {s : State} {active : Bool} {cause : Nat} (h : (s.errIf active cause).tm.err = false) :
    s.errIf active cause = s := by
  rw [State.errIf_err, Bool.or_eq_false_iff] at h
  rw [State.errIf, h.2]
  rfl

theorem State.errIf_cause (s : State) (active : Bool) (cause : Nat) :
    (s.errIf active cause).tm.cause = if active && !s.tm.err then cause else s.tm.cause := by
  rw [State.errIf_eq]
  split
  · exact congrArg (·.tm.cause) (State.audit_frame ..)
  · rfl

end Sys2Proof.Machine
end

section
/-! PROOF. O47: Tidemark's tickets, hold-up, checkpoints, boot and own faults. A ticket and a boot are each one change of Tidemark,
its record or commit, and a chain of causes of which the first that is active enters the legal-error state (R272). -/
namespace Sys2Proof.Machine

/-! ### Tickets (R273, R290, R292) -/

/-- Tidemark with the ticket of its oldest closed roll written, out of the legal-error state. -/
def State.ticketWritten (s : State) (c : TmClosed) (rest : List TmClosed) : State :=
  let n := s.tm.nv
  s.setTm { s.tm with
    closed := rest, err := false
    nv := { n with
      tickets := ((n.nextTicket, ticketBytes s.tm s.fuses.tmFwCrc c) :: n.tickets).take 256
      nextTicket := (n.nextTicket + 1) % 2 ^ 32, rollover := false, errOwed := false }
    out := s.tmSends [.ticket n.nextTicket] }

/-- A ticket is written, sent and committed; then CLOCK and FIRMWARE, in this order, enter the legal-error state again if it
stood and they are active. -/
theorem State.ticketIssue_eq {s : State} {c : TmClosed} {rest : List TmClosed} (hclosed : s.tm.closed = c :: rest)
    (hrun : s.tm.run = true) :
    s.ticketIssue = (((s.ticketWritten c rest).tmCommit false).errIf (s.tm.err && s.tm.clockBad) 6).errIf
      (s.tm.err && s.tm.fwBad) 9 := by
  have hruns : ¬ (!s.tm.run) = true := by simp [hrun]
  unfold State.ticketIssue
  simp only [hclosed, if_neg hruns, State.tmSend_eq]
  split
  case isTrue hclock =>
    rw [hclock, State.errIf_eq _ _ 9, State.errIf_err, Bool.or_true, Bool.not_true, Bool.and_false]
    rfl
  case isFalse hclock =>
    rw [Bool.not_eq_true] at hclock
    rw [hclock]
    rfl

theorem ticketIssue_does : Claims.ticketIssueDoes := by
  intro c rest s n hclosed hrun
  have hexec : exec .ticketIssue s = .next s.ticketIssue := rfl
  rw [State.ticketIssue_eq hclosed hrun] at hexec
  let u := (s.ticketWritten c rest).tmCommit false
  let v := u.errIf (s.tm.err && s.tm.clockBad) 6
  let t := v.errIf (s.tm.err && s.tm.fwBad) 9
  have herr : t.tm.err = (s.tm.err && (s.tm.clockBad || s.tm.fwBad)) := by
    rw [State.errIf_err, State.errIf_err, Bool.and_or_distrib_left]
    rfl
  have hframe : ErrFrame u t := (ErrFrame.errIf u _ 6).trans (ErrFrame.errIf v _ 9)
  refine ⟨t, hexec, ?_⟩
  have hcause : t.tm.err = true → t.tm.cause = if s.tm.clockBad then 6 else 9 := by
    have hu : u.tm.err = false := rfl
    rw [herr, State.errIf_cause, State.errIf_err, State.errIf_cause, hu]
    cases s.tm.err <;> cases s.tm.clockBad <;> cases s.tm.fwBad <;> simp
  have hnone : t.tm.err = false → t = u := fun h => by
    have htv : t = v := State.errIf_of_noErr h
    exact htv.trans (State.errIf_of_noErr ((congrArg (·.tm.err) htv).symm.trans h))
  rw [hframe]
  refine ⟨rfl, rfl, rfl, rfl, herr, rfl, fun h => ?_, hcause, rfl⟩
  have ht := hnone h
  exact ⟨congrArg (·.tm.nv.errOwed) ht, congrArg (·.tm.out) ht, congrArg (·.tm.nv.audits) ht⟩

/-! ### Hold-up and commits (R293) -/

theorem holdupEntry_does : Claims.holdupEntryDoes := by
  intro s hfit hrun
  refine ⟨s.tmHoldup, ?_, rfl, rfl⟩
  have hexec : exec .holdupEntry s = .next (if s.fuses.tidemark && s.tm.run then s.tmHoldup else s) := rfl
  rw [hexec, hfit, hrun]
  rfl

theorem restCommit_does : Claims.restCommitDoes := by
  intro s rests
  have hexec : exec .restCommit s
      = .next (if rests then (s.tmCommit false).setTm { (s.tmCommit false).tm with rested := true } else s) := rfl
  refine ⟨fun hrests => ?_, fun hrests => ⟨s, ?_, rfl⟩⟩
  · exact ⟨_, hexec.trans (congrArg _ (if_pos hrests)), s.tmCommit_committed false, rfl, rfl⟩
  · rw [hexec, hrests]
    rfl

theorem finalCommit_does : Claims.finalCommitDoes := by
  intro s hrun hholdup hstopped
  have hexec : exec .finalCommit s = .next s.finalCommit := rfl
  rw [State.finalCommit, hrun, hholdup, hstopped] at hexec
  exact ⟨_, hexec, s.tmCommit_committed true, rfl, rfl⟩

theorem checkpoint_does : Claims.checkpointDoes := by
  intro s hrun hstopped
  have hexec : exec .checkpoint s = .next s.checkpoint := rfl
  rw [State.checkpoint, hrun, hstopped] at hexec
  exact ⟨_, hexec, s.tmCommit_committed false, rfl, rfl⟩

/-! ### Boot (R290, R293–R295) -/

/-- Tidemark as a boot starts it, from what outlives a stop: it runs, with the image's verdict, and the watchdog's flag is used
up (R294). -/
def State.tmStarting (s : State) (fwOk : Bool) : Tidemark :=
  { s.tm.halted with run := true, fwBad := !fwOk, wdRestart := false }

/-- The first boot's key is drawn (R290), and TM_STAT says that Tidemark runs. -/
def State.keyMade (s : State) (fwOk : Bool) : State :=
  let t := s.tmStarting fwOk
  let key := (List.range 8).flatMap fun i => bytesLE 4 (Config.entropy s.free i).toNat
  (s.draw.tmStat true).setTm { t with nv := { t.nv with key := key } }

/-- A boot restores a checkpoint, of which `bad` newer ones failed (R293, R294), and TM_STAT says that Tidemark runs. -/
def State.ckptRestored (s : State) (bad : Nat) (fwOk : Bool) (c : TmCkpt) : State :=
  let t := s.tmStarting fwOk
  (s.tmStat true).setTm { t with
    nv := { t.nv with ckpts := t.nv.ckpts.drop bad }, live := t.nv.params, w0 := { t.w0 with count := c.count0 }
    w1 := { t.w1 with count := c.count1 }, base := c.base, hw := c.hw, total := c.total
    roll := c.roll.map fun r => { r with powerLoss := true }, bound := c.bound, closed := c.closed }

theorem State.tmBoot_first {s : State} (bad : Nat) (fwOk : Bool) (hfit : s.fuses.tidemark = true) (hrun : s.tm.run = false)
    (hkey : s.tm.nv.key = []) :
    s.tmBoot bad fwOk = ((s.keyMade fwOk).audit 8 0 0 0).errIf (!fwOk) 9 := by
  have hempty : s.tm.halted.nv.key.isEmpty = true := List.isEmpty_iff.mpr hkey
  unfold State.tmBoot
  simp only [hfit, hrun, hempty, State.setRegF_tmStarts, Bool.not_true, Bool.or_self, Bool.false_eq_true, if_false, if_true]
  cases fwOk <;> rfl

/-- A later boot restores the newest valid checkpoint and audits it; then WATCHDOG, POWER and FIRMWARE, in this order, are
legal errors. -/
theorem State.tmBoot_later {s : State} {bad : Nat} (fwOk : Bool) {c : TmCkpt} (hfit : s.fuses.tidemark = true)
    (hrun : s.tm.run = false) (hkey : s.tm.nv.key ≠ []) (hc : (s.tm.nv.ckpts.drop bad).head? = some c) :
    let power := decide (0 < bad) || (c.final && c.moving)
    s.tmBoot bad fwOk = ((((s.ckptRestored bad fwOk c).audit 7 0 (if power then 7 else 0) 0).errIf s.tm.wdRestart 8).errIf
      power 7).errIf (!fwOk) 9 := by
  have hempty : s.tm.halted.nv.key.isEmpty = false := List.isEmpty_eq_false_iff.mpr hkey
  have hnewest (d : TmCkpt) : (s.tm.halted.nv.ckpts.drop bad).headD d = c := by
    rw [List.headD_eq_head?_getD]
    exact hc ▸ rfl
  intro power
  unfold State.tmBoot
  simp only [hfit, hrun, hempty, hnewest, State.setRegF_tmStarts, Bool.not_true, Bool.or_self, Bool.false_eq_true, if_false]
  cases fwOk <;> rfl

/-- The key is 32 bytes: eight words of four. -/
theorem State.keyMade_length (s : State) (fwOk : Bool) : (s.keyMade fwOk).tm.nv.key.length = 32 := rfl

theorem tidemarkBoot_first {bad : Nat} {fwOk : Bool} {s : State} (hfit : s.fuses.tidemark = true) (hrun : s.tm.run = false)
    (hkey : s.tm.nv.key = []) :
    Ends (.tidemarkBoot bad fwOk) s fun t => t.tm.run = true ∧ t.tm.nv.key.length = 32 ∧ t.tm.w0.count = 0 ∧ t.tm.total = 0
      ∧ t.regF .tml 0x40 2 1 = 1 ∧ t.tm.err = !fwOk ∧ t.tm.nv.events = s.tm.nv.events
      ∧ t = { s with tm := t.tm, regs := t.regs, free := t.free } := by
  have hexec : exec (.tidemarkBoot bad fwOk) s = .next (s.tmBoot bad fwOk) := rfl
  rw [State.tmBoot_first bad fwOk hfit hrun hkey] at hexec
  let u := (s.keyMade fwOk).audit 8 0 0 0
  let t := u.errIf (!fwOk) 9
  have hframe : ErrFrame (s.keyMade fwOk) t := (ErrFrame.audit _ 8 0 0 0).trans (ErrFrame.errIf u _ 9)
  have herr : t.tm.err = !fwOk := by
    have hu : u.tm.err = false := State.audit_err ..
    rw [State.errIf_err, hu, Bool.false_or]
  have hdrawn : TmRegs s.draw (s.keyMade fwOk) := TmRegs.tmStat s.draw true _
  have hruns : (s.keyMade fwOk).regF .tml 0x40 2 1 = 1 := s.draw.regF_tmStat true _
  refine ⟨t, hexec, ?_⟩
  rw [hframe]
  exact ⟨rfl, s.keyMade_length fwOk, rfl, rfl, (State.regF_setTm ..).trans hruns, herr, rfl,
    (hdrawn.trans (TmRegs.setTm _ _)).of_draw⟩

/-- The record of a boot is the first after it: no strobe stands before it. -/
theorem State.ckptRestored_audited (s : State) (bad : Nat) (fwOk : Bool) (c : TmCkpt) :
    Audited { s with tm := { s.tm with last := none } } ((s.ckptRestored bad fwOk c).audit 7 0 0 0) s.tm.nv.events
      s.tm.nv.sealed 7 0 0 0 :=
  (State.audit_audited (s.ckptRestored bad fwOk c) 7 0 0 0).congr rfl rfl rfl rfl rfl

theorem tidemarkBoot_does : Claims.tidemarkBootDoes := by
  intro bad fwOk c s n m power hfit hrun
  refine ⟨fun hkey => tidemarkBoot_first hfit hrun hkey, fun hkey hc => ?_⟩
  have hexec : exec (.tidemarkBoot bad fwOk) s = .next (s.tmBoot bad fwOk) := rfl
  rw [State.tmBoot_later fwOk hfit hrun hkey hc] at hexec
  let s0 := s.ckptRestored bad fwOk c
  let s1 := s0.audit 7 0 (if power then 7 else 0) 0
  let s2 := s1.errIf s.tm.wdRestart 8
  let s3 := s2.errIf power 7
  let t := s3.errIf (!fwOk) 9
  have hframe : ErrFrame s0 t := (ErrFrame.audit s0 ..).trans <| (ErrFrame.errIf s1 _ 8).trans <|
    (ErrFrame.errIf s2 _ 7).trans (ErrFrame.errIf s3 _ 9)
  have hs1 : s1.tm.err = false := State.audit_err ..
  have herr : t.tm.err = (power || !fwOk || s.tm.wdRestart) := by
    rw [State.errIf_err, State.errIf_err, State.errIf_err, hs1]
    cases s.tm.wdRestart <;> cases power <;> cases fwOk <;> rfl
  have hcause : t.tm.err = true → t.tm.cause = if s.tm.wdRestart then 8 else if power then 7 else 9 := by
    rw [herr, State.errIf_cause, State.errIf_err, State.errIf_err, State.errIf_cause, State.errIf_err, State.errIf_cause,
      hs1]
    cases s.tm.wdRestart <;> cases power <;> cases fwOk <;> simp
  have haudit : power = false → fwOk = true → s.tm.wdRestart = false →
      Audited { s with tm := { s.tm with last := none } } t n.events n.sealed 7 0 0 0 := by
    intro hpower hfw hwd
    have ht : t = s0.audit 7 0 0 0 := by
      simp only [t, s3, s2, s1, hpower, hfw, hwd, Bool.not_true, State.errIf_false, Bool.false_eq_true, if_false]
    exact ht ▸ s.ckptRestored_audited bad fwOk c
  have hruns : s0.regF .tml 0x40 2 1 = 1 := s.regF_tmStat true _
  have hrestored : TmRegs s s0 := TmRegs.tmStat s true _
  have hregs : SameRegsBut [Page.base .tml + 0x40] s s0 := s.tmStat_sameRegs true _
  refine ⟨t, hexec, ?_⟩
  rw [hframe]
  exact ⟨rfl, rfl, rfl, rfl, rfl, rfl, rfl, rfl, rfl, rfl, rfl, rfl, rfl, rfl, rfl, rfl, herr, hcause, haudit,
    (State.regF_setTm ..).trans hruns, hregs, hrestored.trans (TmRegs.setTm _ _)⟩

/-! ### Tidemark's own faults (R272, R294, R457) -/

theorem tidemarkWatchdogExpiry_does : Claims.tidemarkWatchdogExpiryDoes := by
  intro s hrun
  have hexec : exec .tidemarkWatchdogExpiry s = .next s.tmWatchdog := rfl
  rw [State.tmWatchdog, if_pos hrun, State.tmStop, State.setRegF_tmStops] at hexec
  exact ⟨_, hexec, rfl, rfl, rfl, rfl, rfl, rfl, s.regF_tmStat false _, s.tmStat_sameRegs false _,
    TmRegs.tmStat s false _⟩

theorem State.tmClock_eq {s : State} (bad : Bool) (hrun : s.tm.run = true) :
    s.tmClock bad = (s.setTm { s.tm with clockBad := bad }).errIf bad 6 := by
  have hruns : ¬ (!s.tm.run) = true := by simp [hrun]
  exact if_neg hruns

theorem tidemarkClockFault_does : Claims.tidemarkClockFaultDoes := by
  intro bad s hrun
  have hexec : exec (.tidemarkClockFault bad) s = .next (s.tmClock bad) := rfl
  rw [State.tmClock_eq bad hrun, State.errIf_eq] at hexec
  refine ⟨fun hno => ⟨_, hexec, if_neg ?_⟩, fun hbad herr => ?_⟩
  · rcases hno with rfl | herr
    · exact Bool.false_ne_true
    · simp [State.setTm, herr]
  · have hentered : (bad && !(s.setTm { s.tm with clockBad := bad }).tm.err) = true := by simp [hbad, State.setTm, herr]
    rw [if_pos hentered] at hexec
    refine ⟨_, hexec, ?_⟩
    have hrec := ((s.setTm { s.tm with clockBad := bad }).errEntered 6).audit_audited 6 0 6 0
    subst hbad
    rw [State.audit_frame] at hrec ⊢
    exact ⟨rfl, rfl, rfl, rfl, hrec, rfl, rfl, rfl, rfl, rfl, rfl, rfl⟩

/-- Settles O47: after a ticket, a boot or a clock fault the active causes enter the legal-error state, which leaves counting as
it stood; commits write one checkpoint; a watchdog's expiry keeps what `Tidemark.halted` does. -/
theorem tidemarkPower : Obligations.TidemarkPower :=
  ⟨ticketIssue_does, holdupEntry_does, restCommit_does, finalCommit_does, checkpoint_does, tidemarkBoot_does,
    tidemarkWatchdogExpiry_does, tidemarkClockFault_does⟩

end Sys2Proof.Machine
end

section
/-! PROOF. O6: the registers of the core and their banks (R299), and what an entry into the next bank leaves (R387). -/
namespace Sys2Proof.Machine

/-! ### Lists with one element replaced -/

theorem listSet_eq_set {α : Type} (xs : List α) (n : Nat) (v : α) : listSet xs n v = xs.set n v := by
  induction xs generalizing n with
  | nil => rfl
  | cons x xs ih => cases n with
    | zero => rfl
    | succ n => exact congrArg (x :: ·) (ih n)

@[simp] theorem length_listSet {α : Type} (xs : List α) (n : Nat) (v : α) : (listSet xs n v).length = xs.length := by
  rw [listSet_eq_set, List.length_set]

theorem listSet_getElem? {α : Type} {xs : List α} {n : Nat} (v : α) (h : n < xs.length) : (listSet xs n v)[n]? = some v := by
  rw [listSet_eq_set, List.getElem?_set_self h]

theorem listSet_getElem?_ne {α : Type} (xs : List α) {n k : Nat} (v : α) (h : k ≠ n) : (listSet xs n v)[k]? = xs[k]? := by
  rw [listSet_eq_set, List.getElem?_set_ne h.symm]

/-! ### The bank in use (R387) -/

theorem SvCore.bank_setBank {c : SvCore} (h : c.banks.length = 4) (b : SvBank) : (c.setBank b).bank = b := by
  cases hb : c.breach with
  | true => simp [SvCore.setBank, SvCore.bank, hb]
  | false =>
    have hk : c.depth % 4 < c.banks.length := by omega
    simp [SvCore.setBank, SvCore.bank, hb, List.getD_eq_getElem?_getD, listSet_getElem? _ hk]

/-- Replacing the bank in use changes nothing but banks. -/
theorem SvCore.setBank_frame (c : SvCore) (b : SvBank) :
    c.setBank b = { c with banks := (c.setBank b).banks, breachBank := (c.setBank b).breachBank } := by
  unfold SvCore.setBank
  split <;> rfl

theorem SvCore.setBank_banks_breach {c : SvCore} (h : c.breach = true) (b : SvBank) : (c.setBank b).banks = c.banks := by
  simp [SvCore.setBank, h]

theorem SvCore.setBank_breachBank {c : SvCore} (h : c.breach = false) (b : SvBank) :
    (c.setBank b).breachBank = c.breachBank := by
  simp [SvCore.setBank, h]

theorem SvCore.setBank_getElem?_ne (c : SvCore) (b : SvBank) {k : Nat} (h : k ≠ c.depth % 4) :
    (c.setBank b).banks[k]? = c.banks[k]? := by
  unfold SvCore.setBank
  split
  · rfl
  · exact listSet_getElem?_ne _ _ h

@[simp] theorem SvCore.length_setBank (c : SvCore) (b : SvBank) : (c.setBank b).banks.length = c.banks.length := by
  unfold SvCore.setBank
  split <;> simp

/-! ### Registers written and read (R299) -/

@[simp] theorem SvCore.gr_zero (c : SvCore) : c.gr 0 = 0 := rfl
@[simp] theorem SvCore.cr_zero (c : SvCore) : c.cr 0 = nullCap := rfl
@[simp] theorem SvCore.setG_zero (c : SvCore) (v : Word) : c.setG 0 v = c := rfl
@[simp] theorem SvCore.setC_zero (c : SvCore) (x : Cap) : c.setC 0 x = c := rfl

theorem SvCore.setG_of_ne (c : SvCore) {r : Nat} (v : Word) (h : r ≠ 0) :
    c.setG r v = c.setBank { c.bank with g := tabSet 0 c.bank.g r v } := if_neg h

theorem SvCore.setC_of_ne (c : SvCore) {r : Nat} (x : Cap) (h : r ≠ 0) :
    c.setC r x = c.setBank { c.bank with c := tabSet nullCap c.bank.c r x } := if_neg h

theorem SvCore.gr_of_ne (c : SvCore) {r : Nat} (h : r ≠ 0) : c.gr r = tabGet 0 c.bank.g r := if_neg h
theorem SvCore.cr_of_ne (c : SvCore) {r : Nat} (h : r ≠ 0) : c.cr r = tabGet nullCap c.bank.c r := if_neg h

theorem SvCore.gr_setG {c : SvCore} (hl : c.banks.length = 4) {r : Nat} (v : Word) (h : r ≠ 0) : (c.setG r v).gr r = v := by
  rw [SvCore.gr_of_ne _ h, SvCore.setG_of_ne c v h, SvCore.bank_setBank hl, tabGet_set]

theorem SvCore.cr_setC {c : SvCore} (hl : c.banks.length = 4) {r : Nat} (x : Cap) (h : r ≠ 0) : (c.setC r x).cr r = x := by
  rw [SvCore.cr_of_ne _ h, SvCore.setC_of_ne c x h, SvCore.bank_setBank hl, tabGet_set]

theorem SvCore.gr_setG_ne {c : SvCore} (hl : c.banks.length = 4) {r k : Nat} (v : Word) (h : k ≠ r) :
    (c.setG r v).gr k = c.gr k := by
  by_cases hr : r = 0
  · rw [hr, SvCore.setG_zero]
  · by_cases hk : k = 0
    · rw [hk, SvCore.gr_zero, SvCore.gr_zero]
    · rw [SvCore.gr_of_ne _ hk, SvCore.gr_of_ne _ hk, SvCore.setG_of_ne c v hr, SvCore.bank_setBank hl, tabGet_set_ne _ _ _ _ h]

theorem SvCore.cr_setC_ne {c : SvCore} (hl : c.banks.length = 4) {r k : Nat} (x : Cap) (h : k ≠ r) :
    (c.setC r x).cr k = c.cr k := by
  by_cases hr : r = 0
  · rw [hr, SvCore.setC_zero]
  · by_cases hk : k = 0
    · rw [hk, SvCore.cr_zero, SvCore.cr_zero]
    · rw [SvCore.cr_of_ne _ hk, SvCore.cr_of_ne _ hk, SvCore.setC_of_ne c x hr, SvCore.bank_setBank hl, tabGet_set_ne _ _ _ _ h]

theorem SvCore.cr_setG {c : SvCore} (hl : c.banks.length = 4) (r : Nat) (v : Word) (k : Nat) : (c.setG r v).cr k = c.cr k := by
  by_cases hr : r = 0
  · rw [hr, SvCore.setG_zero]
  · by_cases hk : k = 0
    · rw [hk, SvCore.cr_zero, SvCore.cr_zero]
    · rw [SvCore.cr_of_ne _ hk, SvCore.cr_of_ne _ hk, SvCore.setG_of_ne c v hr, SvCore.bank_setBank hl]

theorem SvCore.gr_setC {c : SvCore} (hl : c.banks.length = 4) (r : Nat) (x : Cap) (k : Nat) : (c.setC r x).gr k = c.gr k := by
  by_cases hr : r = 0
  · rw [hr, SvCore.setC_zero]
  · by_cases hk : k = 0
    · rw [hk, SvCore.gr_zero, SvCore.gr_zero]
    · rw [SvCore.gr_of_ne _ hk, SvCore.gr_of_ne _ hk, SvCore.setC_of_ne c x hr, SvCore.bank_setBank hl]

/-- What a write of a register can be: of register 0, nothing; of another, the bank in use replaced. -/
theorem SvCore.setG_eq (c : SvCore) (r : Nat) (v : Word) : c.setG r v = c ∨ ∃ b, c.setG r v = c.setBank b := by
  by_cases h : r = 0
  · exact .inl (by rw [h, SvCore.setG_zero])
  · exact .inr ⟨_, SvCore.setG_of_ne c v h⟩

theorem SvCore.setC_eq (c : SvCore) (r : Nat) (x : Cap) : c.setC r x = c ∨ ∃ b, c.setC r x = c.setBank b := by
  by_cases h : r = 0
  · exact .inl (by rw [h, SvCore.setC_zero])
  · exact .inr ⟨_, SvCore.setC_of_ne c x h⟩

/-- `d` differs from `c` in the contents of the bank in use alone. -/
structure SvCore.BankWritten (c d : SvCore) : Prop where
  frame : d = { c with banks := d.banks, breachBank := d.breachBank }
  length : d.banks.length = c.banks.length
  others : ∀ k, k ≠ c.depth % 4 → d.banks[k]? = c.banks[k]?
  breach : c.breach = true → d.banks = c.banks
  nobreach : c.breach = false → d.breachBank = c.breachBank

theorem SvCore.BankWritten.refl (c : SvCore) : c.BankWritten c := ⟨rfl, rfl, fun _ _ => rfl, fun _ => rfl, fun _ => rfl⟩

theorem SvCore.setBank_written (c : SvCore) (b : SvBank) : c.BankWritten (c.setBank b) :=
  ⟨c.setBank_frame b, c.length_setBank b, fun _ h => c.setBank_getElem?_ne b h, fun h => SvCore.setBank_banks_breach h b,
    fun h => SvCore.setBank_breachBank h b⟩

theorem SvCore.setG_written (c : SvCore) (r : Nat) (v : Word) : c.BankWritten (c.setG r v) := by
  rcases c.setG_eq r v with h | ⟨b, h⟩ <;> rw [h]
  · exact .refl c
  · exact c.setBank_written b

theorem SvCore.setC_written (c : SvCore) (r : Nat) (x : Cap) : c.BankWritten (c.setC r x) := by
  rcases c.setC_eq r x with h | ⟨b, h⟩ <;> rw [h]
  · exact .refl c
  · exact c.setBank_written b

theorem SvCore.acc_setAcc (c : SvCore) {j k : Nat} (hj : j < 2) (hk : k < 2) (a : BitVec 72) :
    (c.setAcc j a).acc k = if k = j then a else c.acc k := by
  interval_cases j <;> interval_cases k <;> rfl

theorem coreRegisters_hold : Claims.coreRegisters := by
  intro r v x c hl
  have hg := c.setG_written r v
  have hc := c.setC_written r x
  exact ⟨rfl, rfl, rfl, rfl, fun h => ⟨SvCore.gr_setG hl v h, SvCore.cr_setC hl x h⟩,
    fun k h => ⟨SvCore.gr_setG_ne hl v h, SvCore.cr_setC_ne hl x h⟩,
    fun k => ⟨SvCore.cr_setG hl r v k, SvCore.gr_setC hl r x k⟩, fun k h => ⟨hg.others k h, hc.others k h⟩,
    fun h => ⟨hg.breach h, hc.breach h⟩, fun h => ⟨hg.nobreach h, hc.nobreach h⟩, hg.frame, hc.frame,
    fun j k hj hk a => c.acc_setAcc hj hk a⟩

/-! ### Entries with a bank free (R387) -/

/-- A new bank: no register but ddc and csp, and what the entry saves. -/
def entryBank (c : SvCore) (epcc csp : Cap) : SvBank :=
  ⟨[], tabSet nullCap (tabSet nullCap [] 14 (c.cr 14)) 15 csp, epcc, c.cstat⟩

/-- CSTAT of an entry at a level: loop sets inactive, ML the level (R387). -/
def entryCstat (w : Word) (level : Nat) : Word := setFld (setFld w 8 3 0) 13 3 level

/-- The core after an entry into the next bank. -/
def SvCore.entered (c : SvCore) (vec : Cap) (level : Nat) (epcc : Cap) : SvCore :=
  { c with
    banks := listSet c.banks ((c.depth + 1) % 4) (entryBank c epcc (c.cr 15)), depth := c.depth + 1, pcc := vec
    cstat := entryCstat c.cstat level, load := none, arith := none }

/-- With a bank free an entry spills nothing. -/
theorem State.svEnter_shallow {s : State} (h : s.sv.depth < 3) (vec : Cap) (level : Nat) (epcc struck : Cap) :
    s.svEnter vec level epcc struck = (true, s.setSv (s.sv.entered vec level epcc)) := by
  have hmax : s.sv.depth ≠ 65535 := by omega
  simp only [State.svEnter, hmax, if_false, h, if_true]
  rfl

theorem SvCore.bank_entered {c : SvCore} (hl : c.banks.length = 4) (hb : c.breach = false) (vec : Cap) (level : Nat)
    (epcc : Cap) : (c.entered vec level epcc).bank = entryBank c epcc (c.cr 15) := by
  have hk : (c.depth + 1) % 4 < c.banks.length := by omega
  simp [SvCore.entered, SvCore.bank, hb, List.getD_eq_getElem?_getD, listSet_getElem? _ hk]

theorem tabGet_entryBank (c : SvCore) (epcc csp : Cap) {r : Nat} (h14 : r ≠ 14) (h15 : r ≠ 15) :
    tabGet nullCap (entryBank c epcc csp).c r = nullCap := by
  rw [entryBank, tabGet_set_ne _ _ _ _ h15, tabGet_set_ne _ _ _ _ h14]
  rfl

theorem tabGet_entryBank_ddc (c : SvCore) (epcc csp : Cap) : tabGet nullCap (entryBank c epcc csp).c 14 = c.cr 14 := by
  rw [entryBank, tabGet_set_ne _ _ _ _ (by decide), tabGet_set]

theorem fld_entryCstat (w : Word) {level : Nat} (h : level < 8) : fld (entryCstat w level) 13 3 = level := by
  rw [entryCstat, fld_setFld _ _ (by decide)]
  exact Nat.mod_eq_of_lt h

/-- An entry keeps every bit of CSTAT but LA and ML. -/
theorem getLsbD_entryCstat (w : Word) (level : Nat) {i : Nat} (hi : i < 32) (h : i < 8 ∨ 11 ≤ i) (h' : i < 13 ∨ 16 ≤ i) :
    (entryCstat w level).getLsbD i = w.getLsbD i := by
  rw [entryCstat, getLsbD_setFld _ _ _ _ _ hi, if_neg (by omega), getLsbD_setFld _ _ _ _ _ hi, if_neg (by omega)]

theorem extractLsb'_entryCstat (w : Word) (level lo n : Nat) (h : lo + n ≤ 32) (h8 : lo + n ≤ 8 ∨ 11 ≤ lo)
    (h13 : lo + n ≤ 13 ∨ 16 ≤ lo) : (entryCstat w level).extractLsb' lo n = w.extractLsb' lo n := by
  refine BitVec.eq_of_getLsbD_eq fun i hi => ?_
  simp only [BitVec.getLsbD_extractLsb']
  rw [getLsbD_entryCstat w level (by omega) (by omega) (by omega)]

theorem extractLsb'_entryCstat_la (w : Word) (level : Nat) : (entryCstat w level).extractLsb' 8 3 = 0#3 := by
  refine BitVec.eq_of_getLsbD_eq fun i hi => ?_
  rw [BitVec.getLsbD_extractLsb', entryCstat, getLsbD_setFld _ _ _ _ _ (by omega), if_neg (by omega),
    getLsbD_setFld _ _ _ _ _ (by omega), if_pos (by omega)]
  simp

theorem entrySaves_hold : Claims.entrySaves := by
  intro vec epcc struck level s hlevel hl hb hd
  have hbank := SvCore.bank_entered hl hb vec level epcc
  refine ⟨_, State.svEnter_shallow hd vec level epcc struck, rfl, rfl, congrArg SvBank.epcc hbank, congrArg SvBank.estat hbank,
    fun r => ?_, fun r h14 h15 => ?_, ?_, ?_, fld_entryCstat _ hlevel, extractLsb'_entryCstat_la _ _,
    extractLsb'_entryCstat _ _ 0 8 (by decide) (by decide) (by decide),
    extractLsb'_entryCstat _ _ 11 2 (by decide) (by decide) (by decide),
    extractLsb'_entryCstat _ _ 16 16 (by decide) (by decide) (by decide), fun k _ hk => listSet_getElem?_ne _ _ hk,
    rfl, rfl, rfl, rfl, rfl, rfl⟩
  · by_cases hr : r = 0
    · rw [hr, SvCore.gr_zero]
    · rw [SvCore.gr_of_ne _ hr]
      exact congrArg (tabGet 0 ·.g r) hbank
  · by_cases hr : r = 0
    · rw [hr, SvCore.cr_zero]
    · rw [SvCore.cr_of_ne _ hr]
      exact (congrArg (tabGet nullCap ·.c r) hbank).trans (tabGet_entryBank _ _ _ h14 h15)
  · rw [SvCore.cr_of_ne _ (by decide)]
    exact (congrArg (tabGet nullCap ·.c 14) hbank).trans (tabGet_entryBank_ddc _ _ _)
  · rw [SvCore.cr_of_ne _ (by decide)]
    exact (congrArg (tabGet nullCap ·.c 15) hbank).trans (tabGet_set _ _ _ _)

/-- Settles O6: a register write replaces the bank in use alone; an entry with a bank free writes the next bank. -/
theorem banksAndEntries : Obligations.BanksAndEntries := ⟨coreRegisters_hold, entrySaves_hold⟩

end Sys2Proof.Machine
end

section
/-! PROOF. O7 and O8: how `svRun` ends. Every SV-32 command is one run of it (`State.svForm_runs`), so its checks of the encoding
(R306) and of the condition (R303) are settled once for all of them. -/
namespace Sys2Proof.Machine

/-! ### The start of an instruction (R322) -/

/-- The end of a load delay writes the bank in use and empties the load slot. -/
theorem SvCore.commitLoad_frame (c : SvCore) :
    c.commitLoad = { c with banks := c.commitLoad.banks, breachBank := c.commitLoad.breachBank, load := none } := by
  unfold SvCore.commitLoad
  split
  case h_1 hnone => rw [← hnone]
  case h_2 r v hword => rw [(c.setG_written r v).frame]
  case h_3 r v hcap => rw [(c.setC_written r v).frame]

theorem State.svBegin_sv (s : State) :
    s.svBegin.sv = { s.sv with
      banks := s.svBegin.sv.banks, breachBank := s.svBegin.sv.breachBank, load := none, wfi := false } := by
  show ({ s.sv.commitLoad with wfi := false } : SvCore) = _
  rw [s.sv.commitLoad_frame]
  rfl

@[simp] theorem State.svBegin_pcc (s : State) : s.svBegin.sv.pcc = s.sv.pcc := (congrArg SvCore.pcc s.svBegin_sv :)
@[simp] theorem State.svBegin_cstat (s : State) : s.svBegin.sv.cstat = s.sv.cstat := (congrArg SvCore.cstat s.svBegin_sv :)
@[simp] theorem State.svBegin_depth (s : State) : s.svBegin.sv.depth = s.sv.depth := (congrArg SvCore.depth s.svBegin_sv :)
@[simp] theorem State.svBegin_breach (s : State) : s.svBegin.sv.breach = s.sv.breach := (congrArg SvCore.breach s.svBegin_sv :)
@[simp] theorem State.svBegin_arith (s : State) : s.svBegin.sv.arith = s.sv.arith := (congrArg SvCore.arith s.svBegin_sv :)
@[simp] theorem State.svBegin_load (s : State) : s.svBegin.sv.load = none := (congrArg SvCore.load s.svBegin_sv :)
@[simp] theorem State.svBegin_fvec (s : State) : s.svBegin.sv.fvec = s.sv.fvec := (congrArg SvCore.fvec s.svBegin_sv :)
@[simp] theorem State.svBegin_a0 (s : State) : s.svBegin.sv.a0 = s.sv.a0 := (congrArg SvCore.a0 s.svBegin_sv :)
@[simp] theorem State.svBegin_a1 (s : State) : s.svBegin.sv.a1 = s.sv.a1 := (congrArg SvCore.a1 s.svBegin_sv :)
@[simp] theorem State.svBegin_ecause (s : State) : s.svBegin.sv.ecause = s.sv.ecause := (congrArg SvCore.ecause s.svBegin_sv :)
@[simp] theorem State.svBegin_eaddr (s : State) : s.svBegin.sv.eaddr = s.sv.eaddr := (congrArg SvCore.eaddr s.svBegin_sv :)
@[simp] theorem State.svBegin_flags (s : State) : s.svBegin.sv.flags = s.sv.flags := (congrArg Flags.ofWord s.svBegin_cstat :)
@[simp] theorem State.svBegin_ml (s : State) : s.svBegin.sv.ml = s.sv.ml := (congrArg (fld · 13 3) s.svBegin_cstat :)
@[simp] theorem State.svBegin_level (s : State) (code : Nat) : s.svBegin.sv.level code = s.sv.level code :=
  (congrArg (SvCore.level · code) s.svBegin_sv :)
@[simp] theorem State.svBegin_innermost (s : State) : s.svBegin.sv.innermost = s.sv.innermost :=
  (congrArg SvCore.innermost s.svBegin_sv :)
@[simp] theorem State.svBegin_atEnd (s : State) (pc : Nat) : s.svBegin.sv.atEnd pc = s.sv.atEnd pc :=
  (congrArg (SvCore.atEnd · pc) s.svBegin_sv :)

/-! ### The loop-end rule (R329) -/

/-- The core with another pcc, CSTAT and loop sets. -/
def SvCore.move (c : SvCore) (p : Cap) (w : Word) (l0 l1 l2 : LoopSet) : SvCore :=
  { c with pcc := p, cstat := w, l0 := l0, l1 := l1, l2 := l2 }

/-- `d` differs from `c` in pcc, in loop sets and in bits of CSTAT that hold no flag alone. -/
def SvCore.Moved (c d : SvCore) : Prop := ∃ p w l0 l1 l2, d = c.move p w l0 l1 l2 ∧ Flags.ofWord w = c.flags

theorem SvCore.Moved.trans {c d e : SvCore} (h : c.Moved d) (h' : d.Moved e) : c.Moved e := by
  obtain ⟨p, w, l0, l1, l2, rfl, hw⟩ := h
  obtain ⟨p', w', l0', l1', l2', rfl, hw'⟩ := h'
  exact ⟨p', w', l0', l1', l2', rfl, hw'.trans hw⟩

theorem SvCore.Moved.goto (c : SvCore) (a : Nat) : c.Moved (c.goto a) := ⟨_, _, _, _, _, rfl, rfl⟩

theorem SvCore.Moved.setLoop (c : SvCore) (k : Nat) (l : LoopSet) : c.Moved (c.setLoop k l) := by
  unfold SvCore.setLoop
  split
  · exact ⟨_, _, _, _, _, rfl, rfl⟩
  · split <;> exact ⟨_, _, _, _, _, rfl, rfl⟩

theorem Flags.ofWord_setBit (w : Word) {k : Nat} (b : Bool) (h : 6 ≤ k) : Flags.ofWord (setBit w k b) = Flags.ofWord w := by
  have hbit : ∀ i, i < 6 → bit (setBit w k b) i = bit w i := fun i hi => bit_setFld_ne w _ (by omega) (.inl (by omega))
  simp only [Flags.ofWord, hbit, Nat.reduceLT]

theorem SvCore.Moved.setLa (c : SvCore) (k : Nat) (b : Bool) : c.Moved { c with cstat := setBit c.cstat (8 + k) b } :=
  ⟨_, _, _, _, _, rfl, Flags.ofWord_setBit _ _ (by omega)⟩

theorem SvCore.advance_moved (c0 c : SvCore) : c.Moved (c0.advance c) := by
  unfold SvCore.advance
  split
  case h_1 k _ =>
    dsimp only
    split
    · exact ((SvCore.Moved.setLoop c k _).trans (.setLa _ k false)).trans (.goto _ _)
    · exact (SvCore.Moved.setLoop c k _).trans (.goto _ _)
  case h_2 => exact .goto c _

/-- Where no loop set is active, pcc goes on by a word. -/
theorem SvCore.advance_of_innermost {c0 : SvCore} (h : c0.innermost = none) (c : SvCore) :
    c0.advance c = c.goto (c0.pc + 4) := by
  simp only [SvCore.advance, SvCore.atEnd, h]

theorem capCursor_capSetCursor (c : Cap) (x : Nat) : capCursor (capSetCursor c x) = x % 2 ^ 32 := by
  simp only [capCursor, capSetCursor, bitsN, BitVec.toNat_ofNat]
  omega

/-! ### The encodings -/

/-- A command is one run of `svRun`, with this condition, this word and this verdict on its encoding. -/
def State.RunsAs (s : State) (i : Instr) (cond : BitVec 4) (w : Word) (bad : Bool) : Prop :=
  ∃ sys body, exec i s = .next (s.svRun cond w bad sys body)

theorem State.RunsAs.of_eq {s : State} {i : Instr} {cond : BitVec 4} {w w' : Word} {bad bad' : Bool} (h : s.RunsAs i cond w' bad')
    (hw : w' = w) (hbad : bad' = bad) : s.RunsAs i cond w bad := hw ▸ hbad ▸ h

theorem State.RunsAs.direct {s : State} {i : Instr} {cond : BitVec 4} {w : Word} {bad sys : Bool} {body : SvCore → State → Exe}
    (h : exec i s = .next (s.svRun cond w bad sys body)) : s.RunsAs i cond w bad := ⟨sys, body, h⟩

theorem State.RunsAs.int {s : State} {i : Instr} {o : OpR} {fn : Nat} {sf : Bool} (h : exec i s = .next (s.intRun o fn sf)) :
    s.RunsAs i o.cond (wordR 0x00 (fn + if sf then 64 else 0) o)
      (((fn == 0x10 || fn == 0x11) && (!sf || o.rd != 0)) || (intUnary fn && o.rs2 != 0)) := by
  unfold State.intRun at h
  exact .direct h

theorem State.RunsAs.imm {s : State} {i : Instr} {o : OpI} {major fn : Nat} {b : Word} {sf test traps : Bool}
    (h : exec i s = .next (s.immRun o major fn b sf test traps)) : s.RunsAs i o.cond (wordIm major o) (test && o.rd != 0) := by
  unfold State.immRun at h
  exact .direct h

theorem State.RunsAs.load {s : State} {i : Instr} {o : OpI} {major n : Nat} {ext : Nat → Word}
    (h : exec i s = .next (s.loadRun o major n ext)) : s.RunsAs i o.cond (wordIm major o) false := .direct h

theorem State.RunsAs.store {s : State} {i : Instr} {o : OpI} {major n : Nat}
    (h : exec i s = .next (s.storeRun o major n)) : s.RunsAs i o.cond (wordIm major o) false := .direct h

theorem State.RunsAs.cap {s : State} {i : Instr} {o : OpR} {fn : Nat} {bad : Bool} {body : SvCore → State → Exe}
    (h : exec i s = .next (s.capRun o fn bad body)) : s.RunsAs i o.cond (wordR 0x1C fn o) bad := .direct h

theorem State.RunsAs.derive {s : State} {i : Instr} {o : OpR} {fn : Nat} {fault : Cap → Word → Bool} {op : Cap → Word → Cap}
    (h : exec i s = .next (s.capDerive o fn fault op)) : s.RunsAs i o.cond (wordR 0x1C fn o) (noCap o.rd || noCap o.rs1) := .cap h

theorem State.RunsAs.fix {s : State} {i : Instr} {o : OpR} {fn : Nat} {rsel : BitVec 3}
    (h : exec i s = .next (s.fixRun o fn rsel)) :
    s.RunsAs i o.cond (wordR 0x28 (fn + rsel.toNat * 16) o)
      ((if fixRounds fn then decide (4 < rsel.toNat) else rsel != 0) || (fixUnary fn && o.rs2 != 0)) := by
  unfold State.fixRun at h
  exact .direct h

theorem State.RunsAs.acc {s : State} {i : Instr} {o : OpR} {fn : Nat} {rsel : BitVec 3}
    (h : exec i s = .next (s.accRun o fn rsel)) :
    s.RunsAs i o.cond (wordR 0x29 (fn + rsel.toNat * 16) o)
      ((if fn = 8 || fn = 9 then decide (4 < rsel.toNat) else rsel != 0)
        || (if accReads fn then decide (2 ≤ o.rs1.toNat) else decide (2 ≤ o.rd.toNat))
        || (decide (accSources fn ≤ 1) && o.rs2 != 0) || (fn == 6 && o.rs1 != 0)) := by
  unfold State.accRun at h
  exact .direct h

theorem State.RunsAs.dec {s : State} {i : Instr} {o : OpR} {fn : Nat} (h : exec i s = .next (s.decRun o fn)) :
    s.RunsAs i o.cond (wordR 0x2A fn o) ((fn == 4 && o.rd != 0) || (decUnary fn && o.rs2 != 0)) := by
  unfold State.decRun at h
  exact .direct h

theorem noCap_eq (r : BitVec 5) : noCap r = (r.toNat / 16 != 0) := by
  rw [Bool.eq_iff_iff]
  simp [noCap]

theorem two_le_eq (n : Nat) : decide (2 ≤ n) = (n / 2 != 0) := by
  rw [Bool.eq_iff_iff]
  simp [Nat.succ_le_iff]

/-- Every SV-32 command is one run of `svRun`, on the condition, the word and the verdict that `svForm` lists. -/
theorem State.svForm_runs {s : State} {i : Instr} {cond : BitVec 4} {w : Word} {bad : Bool}
    (h : s.svForm i = some (cond, w, bad)) : s.RunsAs i cond w bad := by
  unfold State.svForm at h
  split at h
  -- ADD to RORI, CMP and TST, MUL to MAXU, CLZ to ZXTH
  iterate 16 · cases h; exact .int rfl
  iterate 2 · cases h; exact .of_eq (.int rfl) rfl ((Bool.or_false _).trans (Bool.or_comm _ _))
  iterate 17 · cases h; exact .int rfl
  -- ADDI to TSTI, MOVL and MOVH
  iterate 7 · cases h; exact .of_eq (.imm rfl) rfl rfl
  iterate 2 · cases h; exact .direct rfl
  -- LDW to LDBU, STW to STB, CLDW to CSTC
  iterate 5 · cases h; exact .load rfl
  iterate 3 · cases h; exact .store rfl
  iterate 4 · cases h; exact .of_eq (.direct rfl) rfl (by simp only [noCap_eq])
  -- the capability operations
  · cases h; exact .of_eq (.cap rfl) rfl (by simp only [noCap_eq]; rfl)
  · cases h; exact .of_eq (.cap rfl) rfl (by simp only [noCap_eq])
  iterate 4 · cases h; exact .of_eq (.derive rfl) rfl (by simp only [noCap_eq])
  iterate 5 · cases h; exact .of_eq (.cap rfl) rfl (by simp only [noCap_eq])
  -- B to LOOP
  iterate 2 · cases h; exact .direct rfl
  iterate 2 · cases h; exact .of_eq (.direct rfl) rfl (by simp only [noCap_eq])
  iterate 7 · cases h; exact .direct rfl
  -- QADD to QPACK, MAC to WRAG, DADD to BIN2BCD
  iterate 11 · cases h; exact .of_eq (.fix rfl) (by rw [Nat.mul_comm]) (by simp [fixRounds, fixUnary])
  iterate 16 · cases h; exact .of_eq (.acc rfl) (by rw [Nat.mul_comm]) (by simp [accReads, accSources, two_le_eq])
  iterate 8 · cases h; exact .of_eq (.dec rfl) rfl (by simp [decUnary])
  -- MFS, MTS, CMFS, CMTS, CUSTOM_INSTRUCTION
  iterate 2 · cases h; exact .direct rfl
  · cases h; exact .of_eq (.direct rfl) rfl (by simp only [noCap_eq])
  · cases h; exact .of_eq (.direct rfl) rfl (by simp only [noCap_eq, Bool.or_right_comm])
  · cases h; exact .direct rfl
  · cases h

/-! ### How a run ends (R303, R306, R374) -/

/-- Past the fetch, a run judges the encoding, then the condition, then SYS. -/
theorem State.svRun_issued {s : State} (hi : s.svIssues = true) (ha : s.sv.arith ≠ some 8) (hf : s.svFetchFault = none)
    (cond : BitVec 4) (w : Word) (bad sys : Bool) (body : SvCore → State → Exe) :
    s.svRun cond w bad sys body
      = if bad || cond == 0 then s.svBegin.svRaise s.svBegin ⟨1, .none, w.toNat, false⟩
        else if !condHolds cond.toNat s.sv.flags then s.svBegin.svFinish (.go s.svBegin)
        else if sys && !capHas s.sv.pcc 5 then s.svBegin.svRaise s.svBegin (capFault .capPerm)
        else s.svBegin.svFinish (body s.sv s.svBegin) := by
  simp only [State.svRun, hi, Bool.not_true, Bool.false_eq_true, if_false, ha, hf]

/-- A run that starts ends as its body says. -/
theorem State.svRun_body {s : State} {cond : BitVec 4} (h : s.svStarts cond) {w : Word} {bad sys : Bool}
    {body : SvCore → State → Exe} (hbad : bad = false) (hsys : sys = true → capHas s.sv.pcc 5 = true) :
    s.svRun cond w bad sys body = s.svBegin.svFinish (body s.sv s.svBegin) := by
  obtain ⟨hi, ha, hf, hc, hholds⟩ := h
  have hperm : (sys && !capHas s.sv.pcc 5) = false := by
    cases sys with
    | false => rfl
    | true => simp [hsys rfl]
  simp [State.svRun_issued hi ha hf, hbad, hc, hholds, hperm]

/-- An effect at which no inconsistent loop set ends goes on by the loop-end rule. -/
theorem State.svFinish_go {s : State} (hend : ((s.svBegin.sv.atEnd s.svBegin.sv.pc).all fun k => !s.svBegin.sv.endBad k) = true)
    (u : State) : s.svBegin.svFinish (.go u) = s.svNext u := by
  cases hk : s.svBegin.sv.atEnd s.svBegin.sv.pc with
  | none => simp only [State.svFinish, hk, State.svNext]
  | some k =>
    rw [hk] at hend
    have hgood : ¬ s.svBegin.sv.endBad k = true := by simpa using hend
    simp only [State.svFinish, hk, hgood, Bool.false_eq_true, if_false, State.svNext]

/-- A run that is ready, and whose body completes, goes on by the loop-end rule. -/
theorem State.svRun_go {s : State} {cond : BitVec 4} (h : s.svReady cond) {w : Word} {bad sys : Bool}
    {body : SvCore → State → Exe} {u : State} (hbad : bad = false) (hsys : sys = true → capHas s.sv.pcc 5 = true)
    (hbody : body s.sv s.svBegin = .go u) : s.svRun cond w bad sys body = s.svNext u := by
  obtain ⟨hi, ha, hf, hc, hholds, hend⟩ := h
  rw [State.svRun_body ⟨hi, ha, hf, hc, hholds⟩ hbad hsys, hbody, State.svFinish_go hend]

/-- What follows an effect writes pcc, loop sets, LA and the count of a pending ARITH alone. -/
theorem State.svNext_moved (s u : State) : ∃ p w l0 l1 l2,
    s.svNext u = u.setSv { u.sv.move p w l0 l1 l2 with arith := u.sv.arith.map (· + 1) } ∧ Flags.ofWord w = u.sv.flags := by
  obtain ⟨p, w, l0, l1, l2, h, hw⟩ := s.svBegin.sv.advance_moved u.sv
  refine ⟨p, w, l0, l1, l2, ?_, hw⟩
  rw [State.svNext, h]
  rfl

theorem State.svNext_pcc {s : State} (h : s.sv.innermost = none) (u : State) :
    (s.svNext u).sv.pcc = capSetCursor u.sv.pcc (s.sv.pc + 4) := by
  show (s.svBegin.sv.advance u.sv).pcc = _
  rw [SvCore.advance_of_innermost (s.svBegin_innermost.trans h), SvCore.pc, s.svBegin_pcc]
  rfl

/-- Settles O7: a condition that fails ends the run before its body, by the loop-end rule alone. -/
theorem conditionFalse : Obligations.ConditionFalse := by
  intro i cond w s hform hi ha hf hc hno hend
  obtain ⟨sys, body, hexec⟩ := State.svForm_runs hform
  have hrun : exec i s = .next (s.svNext s.svBegin) := by
    have hdefined : ¬ (false || cond == 0) = true := by simpa using hc
    rw [hexec, State.svRun_issued hi ha hf, if_neg hdefined, if_pos (by simp [hno]), State.svFinish_go hend]
  refine ⟨_, hrun, fun hin => ?_, ?_⟩
  · rw [State.svNext_pcc hin, capCursor_capSetCursor]
    rfl
  · obtain ⟨p, v, l0, l1, l2, hnext, hflags⟩ := s.svNext_moved s.svBegin
    rw [hnext] at hrun ⊢
    exact ⟨s.svBegin_a0, s.svBegin_a1, hflags.trans s.svBegin_flags, s.svBegin_depth, rfl, rfl, s.svBegin_ecause,
      s.svBegin_eaddr, rfl, hrun⟩

/-! ### Faults that are taken (R381, R387) -/

/-- A fault of a level above ML whose entry through FVEC succeeds. -/
theorem State.svTake_enters {s : State} {f : SvFault} {epcc : Cap} (hb : s.sv.breach = false)
    (hl : s.sv.ml < s.sv.level f.code) (hv : s.sv.fvec ≠ nullCap)
    (he : (s.svEnter s.sv.fvec (s.sv.level f.code) epcc epcc).1 = true)
    (precise : Bool) (count : Nat) :
    s.svTake f precise count epcc = (s.svEnter s.sv.fvec (s.sv.level f.code) epcc epcc).2.svCause f.code (s.sv.level f.code)
      precise f.write f.reason 0 count f.addr := by
  have hnot : ¬ s.sv.level f.code ≤ s.sv.ml := Nat.not_le.mpr hl
  simp only [State.svTake, hb, Bool.false_eq_true, if_false, hnot, hv, decide_false, Bool.and_false]
  split
  case h_1 heq => rw [heq]
  case h_2 heq => simp [heq] at he

/-- Settles O8: a bad encoding ends the run before its condition is judged, in the entry of ILLEGAL_OPCODE. -/
theorem undefinedForms : Obligations.UndefinedForms := by
  intro i cond w bad s u level entry hform hbad hi ha hf hb hl hv he
  obtain ⟨sys, body, hexec⟩ := State.svForm_runs hform
  have hwrong : (bad || cond == 0) = true := by simpa using hbad
  have hraise : u.svRaise u ⟨1, .none, w.toNat, false⟩ = u.svTake ⟨1, .none, w.toNat, false⟩ true 0 u.sv.pcc := by
    simp [State.svRaise, u, ha]
  have hlevel : u.sv.level 1 = level := s.svBegin_level 1
  have hentry : u.svEnter u.sv.fvec (u.sv.level 1) u.sv.pcc u.sv.pcc = entry := by
    rw [hlevel, s.svBegin_fvec, s.svBegin_pcc]
  rw [hexec, State.svRun_issued hi (by simp [ha]) hf, if_pos hwrong, hraise,
    State.svTake_enters (s.svBegin_breach.trans hb) (by rw [s.svBegin_ml, hlevel]; exact hl) (by rw [s.svBegin_fvec]; exact hv)
      (by rw [hentry]; exact he), hentry, hlevel]

end Sys2Proof.Machine
end

section
/-! SUPPORT. The arithmetic of the core in the terms of bit vectors: signed readings, saturation, packed halves, and what the
operations of R309 and R310 leave of result and flags. -/
namespace Sys2Proof.Machine

/-! ### Signed readings -/

theorem sgn_eq_toInt (n v : Nat) : sgn n v = (BitVec.ofNat n v).toInt := by
  simp only [sgn, BitVec.toInt_eq_toNat_cond, BitVec.toNat_ofNat]
  push_cast
  rfl

theorem sgnW_eq_toInt (w : Word) : sgnW w = w.toInt := by
  rw [sgnW, sgn_eq_toInt, BitVec.ofNat_toNat, BitVec.setWidth_eq]

theorem ofNat_uns (n : Nat) (x : Int) : BitVec.ofNat n (uns n x) = BitVec.ofInt n x := by
  refine BitVec.eq_of_toNat_eq ?_
  rw [BitVec.toNat_ofNat, BitVec.toNat_ofInt, uns, ← Nat.cast_ofNat (R := Int), ← Nat.cast_pow]
  exact Nat.mod_eq_of_lt ((Int.toNat_lt (Int.emod_nonneg _ (by positivity))).mpr (Int.emod_lt_of_pos _ (by positivity)))

theorem wordI_eq_asWord (x : Int) : wordI x = asWord x := ofNat_uns 32 x

theorem toInt_bounds (w : Word) : -2 ^ 31 ≤ w.toInt ∧ w.toInt < 2 ^ 31 := ⟨BitVec.le_toInt w, BitVec.toInt_lt⟩

/-- A word's exact value and the word modulo 2^32 differ by a multiple of 2^32. -/
theorem toInt_asWord (x : Int) : ∃ k : Int, (asWord x).toInt = x - 2 ^ 32 * k :=
  ⟨x.bdiv (2 ^ 32), by rw [asWord, BitVec.toInt_ofInt, Int.bmod_eq_self_sub_mul_bdiv]; rfl⟩

theorem bit_31 (w : Word) : bit w 31 = decide (w.toInt < 0) := (BitVec.msb_eq_toInt (x := w) :)

theorem Flags.zn_eq (f : Flags) (r : Word) : f.zn r = ⟨r == 0#32, r.msb, f.c, f.v, f.q, f.d⟩ := rfl

/-! ### Sums and differences (R304) -/

/-- Signed overflow of a sum, judged by signs: operands of one sign, a result of the other. -/
theorem overflow_of_sum {a b c r k : Int} (ha : -2 ^ 31 ≤ a ∧ a < 2 ^ 31) (hb : -2 ^ 31 ≤ b ∧ b < 2 ^ 31) (hc : 0 ≤ c ∧ c ≤ 1)
    (hr : -2 ^ 31 ≤ r ∧ r < 2 ^ 31) (h : r = a + b + c - 2 ^ 32 * k) :
    (decide (a < 0) == decide (b < 0) && decide (r < 0) != decide (a < 0)) = decide (a + b + c ≠ r) := by
  rw [Bool.eq_iff_iff]
  simp only [Bool.and_eq_true, beq_iff_eq, bne_iff_ne, decide_eq_true_eq, decide_eq_decide, ne_eq]
  omega

/-- Signed overflow of a difference, judged by signs. -/
theorem overflow_of_difference {a b c r k : Int} (ha : -2 ^ 31 ≤ a ∧ a < 2 ^ 31) (hb : -2 ^ 31 ≤ b ∧ b < 2 ^ 31)
    (hc : 0 ≤ c ∧ c ≤ 1) (hr : -2 ^ 31 ≤ r ∧ r < 2 ^ 31) (h : r = a - b - c - 2 ^ 32 * k) :
    (decide (a < 0) != decide (b < 0) && decide (r < 0) != decide (a < 0)) = decide (a - b - c ≠ r) := by
  rw [Bool.eq_iff_iff]
  simp only [Bool.and_eq_true, bne_iff_ne, decide_eq_true_eq, decide_eq_decide, ne_eq]
  omega

theorem toInt_carry (c : Bool) : (if c then 1#32 else 0#32).toInt = if c then 1 else 0 := by cases c <;> rfl
theorem toNat_carry (c : Bool) : (if c then 1#32 else 0#32).toNat = if c then 1 else 0 := by cases c <;> rfl

theorem addRes_eq (f : Flags) (a b : Word) (ci : Bool) :
    addRes f a b ci = (a + b + (if ci then 1#32 else 0#32),
      ⟨a + b + (if ci then 1#32 else 0#32) == 0#32, (a + b + (if ci then 1#32 else 0#32)).msb,
        decide (2 ^ 32 ≤ a.toNat + b.toNat + (if ci then 1 else 0)),
        decide (a.toInt + b.toInt + (if ci then 1 else 0) ≠ (a + b + (if ci then 1#32 else 0#32)).toInt), f.q, f.d⟩) := by
  have hr : wordOf (a.toNat + b.toNat + (if ci then 1 else 0)) = a + b + (if ci then 1#32 else 0#32) := by
    refine BitVec.eq_of_toNat_eq ?_
    simp only [wordOf, BitVec.toNat_ofNat, BitVec.toNat_add, toNat_carry, Nat.mod_add_mod]
  have hint : a + b + (if ci then 1#32 else 0#32) = asWord (a.toInt + b.toInt + if ci then 1 else 0) := by
    refine BitVec.eq_of_toInt_eq ?_
    simp only [asWord, BitVec.toInt_ofInt, BitVec.toInt_add, toInt_carry, Int.bmod_add_bmod]
  obtain ⟨k, hk⟩ := toInt_asWord (a.toInt + b.toInt + if ci then 1 else 0)
  rw [← hint] at hk
  simp only [addRes, hr, Flags.zn_eq, bit_31]
  rw [overflow_of_sum (toInt_bounds a) (toInt_bounds b) (by split <;> decide) (toInt_bounds _) hk]

theorem subRes_eq (f : Flags) (a b : Word) (bi : Bool) :
    subRes f a b bi = (a - b - (if bi then 1#32 else 0#32),
      ⟨a - b - (if bi then 1#32 else 0#32) == 0#32, (a - b - (if bi then 1#32 else 0#32)).msb,
        decide (a.toNat < b.toNat + (if bi then 1 else 0)),
        decide (a.toInt - b.toInt - (if bi then 1 else 0) ≠ (a - b - (if bi then 1#32 else 0#32)).toInt), f.q, f.d⟩) := by
  have hr : wordOf (a.toNat + 2 ^ 33 - (b.toNat + (if bi then 1 else 0))) = a - b - (if bi then 1#32 else 0#32) := by
    refine BitVec.eq_of_toNat_eq ?_
    have ha := a.isLt
    have hb := b.isLt
    simp only [wordOf, BitVec.toNat_ofNat, BitVec.toNat_sub, toNat_carry]
    split <;> omega
  have hint : a - b - (if bi then 1#32 else 0#32) = asWord (a.toInt - b.toInt - if bi then 1 else 0) := by
    refine BitVec.eq_of_toInt_eq ?_
    simp only [asWord, BitVec.toInt_ofInt, BitVec.toInt_sub, toInt_carry, Int.bmod_sub_bmod]
  obtain ⟨k, hk⟩ := toInt_asWord (a.toInt - b.toInt - if bi then 1 else 0)
  rw [← hint] at hk
  simp only [subRes, hr, Flags.zn_eq, bit_31]
  rw [overflow_of_difference (toInt_bounds a) (toInt_bounds b) (by split <;> decide) (toInt_bounds _) hk]

/-! ### Shifts (R310) -/

theorem shiftRes_shl (f : Flags) (a : Word) (k : Nat) :
    shiftRes f 0 a k = (a <<< k, ⟨a <<< k == 0#32, (a <<< k).msb,
      (if k = 0 then f.c else decide (k ≤ 32) && a.getLsbD (32 - k)), f.v, f.q, f.d⟩) := by
  by_cases hk : k = 0
  · simp [shiftRes, hk, Flags.zn_eq]
  · have hr : (if 32 ≤ k then 0 else a <<< k) = a <<< k := by
      split
      · exact (BitVec.shiftLeft_eq_zero ‹_›).symm
      · rfl
    simp only [shiftRes, hk, if_false, hr, Flags.zn_eq, bit]

theorem shiftRes_shr (f : Flags) (a : Word) (k : Nat) :
    shiftRes f 1 a k = (a >>> k, ⟨a >>> k == 0#32, (a >>> k).msb,
      (if k = 0 then f.c else decide (k ≤ 32) && a.getLsbD (k - 1)), f.v, f.q, f.d⟩) := by
  by_cases hk : k = 0
  · simp [shiftRes, hk, Flags.zn_eq]
  · have hr : (if 32 ≤ k then 0 else a >>> k) = a >>> k := by
      split
      · exact (BitVec.ushiftRight_eq_zero ‹_›).symm
      · rfl
    simp only [shiftRes, hk, if_false, hr, Flags.zn_eq, bit]

/-- From 31 on an arithmetic shift leaves the sign alone. -/
theorem sshiftRight_min (a : Word) (k : Nat) : a.sshiftRight (min k 31) = a.sshiftRight k := by
  by_cases hk : k ≤ 31
  · rw [Nat.min_eq_left hk]
  · refine BitVec.eq_of_getLsbD_eq fun i hi => ?_
    rw [Nat.min_eq_right (by omega), BitVec.getLsbD_sshiftRight, BitVec.getLsbD_sshiftRight, if_neg (by omega : ¬ k + i < 32)]
    by_cases h0 : i = 0
    · rw [h0]
      rfl
    · rw [if_neg (by omega)]

theorem shiftRes_sar (f : Flags) (a : Word) (k : Nat) :
    shiftRes f 2 a k = (a.sshiftRight k, ⟨a.sshiftRight k == 0#32, (a.sshiftRight k).msb,
      (if k = 0 then f.c else if k < 32 then a.getLsbD (k - 1) else a.msb), f.v, f.q, f.d⟩) := by
  by_cases hk : k = 0
  · simp [shiftRes, hk, Flags.zn_eq]
  · simp only [shiftRes, hk, if_false, sshiftRight_min, Flags.zn_eq]
    rfl

theorem shiftRes_ror (f : Flags) (a : Word) (k : Nat) :
    shiftRes f 3 a k = (a.rotateRight (k % 32), ⟨a.rotateRight (k % 32) == 0#32, (a.rotateRight (k % 32)).msb,
      (if k = 0 then f.c else (a.rotateRight (k % 32)).msb), f.v, f.q, f.d⟩) := by
  by_cases hk : k = 0
  · have h0 : a.rotateRight 0 = a := by
      refine BitVec.eq_of_getLsbD_eq fun i hi => ?_
      simp [hi]
    simp only [shiftRes, hk, if_true, Nat.zero_mod, h0, Flags.zn_eq]
  · simp only [shiftRes, hk, if_false, Flags.zn_eq]
    rfl

/-! ### Fields and bytes -/

theorem fld_zero (w : Word) (n : Nat) : fld w 0 n = w.toNat % 2 ^ n := by simp [fld, bitsN]

theorem fld_wordOf_reg (r : BitVec 5) : fld (wordOf r.toNat) 0 5 = r.toNat := by
  have hr := r.isLt
  rw [fld_zero, wordOf, BitVec.toNat_ofNat]
  omega

theorem toNat_append_add {m n : Nat} (x : BitVec m) (y : BitVec n) : (x ++ y).toNat = x.toNat * 2 ^ n + y.toNat := by
  rw [BitVec.toNat_append, ← Nat.shiftLeft_add_eq_or_of_lt y.isLt, Nat.shiftLeft_eq]

theorem rev32_eq (a : Word) :
    rev32 a = (a.extractLsb' 0 8 ++ a.extractLsb' 8 8 ++ a.extractLsb' 16 8 ++ a.extractLsb' 24 8 : BitVec 32) := by
  refine BitVec.eq_of_toNat_eq ?_
  have ha := a.isLt
  simp only [toNat_append_add, BitVec.extractLsb'_toNat, Nat.shiftRight_eq_div_pow, rev32, wordOf, BitVec.toNat_ofNat]
  simp [bytesLE, ofBytesLE, List.range, List.range.loop]
  omega

theorem signExtend_setWidth (a : Word) (n : Nat) : wordI (sgn n a.toNat) = (a.setWidth n).signExtend 32 := by
  rw [wordI_eq_asWord, sgn_eq_toInt, BitVec.ofNat_toNat]
  rfl

theorem zeroExtend_setWidth (a : Word) (n : Nat) : wordOf (fld a 0 n) = (a.setWidth n).setWidth 32 := by
  refine BitVec.eq_of_toNat_eq ?_
  simp [fld_zero, wordOf]

theorem clz32_eq {a : Word} {k : Nat} (hk : k ≤ 32) (hzero : ∀ i, i < k → a.getLsbD (31 - i) = false)
    (hone : k = 32 ∨ a.getLsbD (31 - k) = true) : clz32 a = k := by
  have hhigh : ∀ i, 32 - k ≤ i → a.toNat.testBit i = false := fun i hi => by
    by_cases h : i < 32
    · have hbit := hzero (31 - i) (by omega)
      rwa [show 31 - (31 - i) = i by omega] at hbit
    · exact BitVec.getLsbD_of_ge a i (by omega)
  have hlt : a.toNat < 2 ^ (32 - k) := Nat.lt_pow_two_of_testBit _ hhigh
  rcases Nat.lt_or_ge k 32 with h | h
  · have hge : 2 ^ (31 - k) ≤ a.toNat := Nat.ge_two_pow_of_testBit (hone.resolve_left (by omega))
    have hpos : a.toNat ≠ 0 := fun h0 => absurd hge (by rw [h0]; exact Nat.not_le.mpr (Nat.two_pow_pos _))
    have hlog : Nat.log2 a.toNat = 31 - k := (Nat.log2_eq_iff hpos).mpr ⟨hge, by rwa [show 31 - k + 1 = 32 - k by omega]⟩
    rw [clz32, if_neg fun h0 => hpos (by rw [h0]; rfl), hlog]
    omega
  · have hall : a = 0 := BitVec.eq_of_toNat_eq (by simpa [Nat.sub_eq_zero_of_le h] using hlt)
    rw [clz32, if_pos hall]
    omega

/-! ### Products and quotients (R309, R311) -/

theorem asWord_tdiv (a b : Word) : asWord (a.toInt.tdiv b.toInt) = a.sdiv b :=
  BitVec.eq_of_toInt_eq (by rw [asWord, BitVec.toInt_ofInt, BitVec.toInt_sdiv])

theorem asWord_tmod (a b : Word) : asWord (a.toInt.tmod b.toInt) = a.srem b := by
  rw [← BitVec.toInt_srem, asWord, BitVec.ofInt_toInt]

theorem wordOf_div (a b : Word) : wordOf (a.toNat / b.toNat) = a / b := by
  rw [← BitVec.toNat_udiv, wordOf, BitVec.ofNat_toNat, BitVec.setWidth_eq]

theorem wordOf_mod_word (a b : Word) : wordOf (a.toNat % b.toNat) = a % b := by
  rw [← BitVec.toNat_umod, wordOf, BitVec.ofNat_toNat, BitVec.setWidth_eq]

/-! ### Immediates (R301) -/

theorem immS_eq (o : OpI) : immS o = o.imm.signExtend 32 := by
  rw [immS, wordI_eq_asWord, sgn_eq_toInt, BitVec.ofNat_toNat, BitVec.setWidth_eq]
  rfl

theorem immU_eq (o : OpI) : immU o = o.imm.setWidth 32 := by rw [immU, wordOf, BitVec.ofNat_toNat]

theorem setFld_high_half (w : Word) (v : BitVec 16) : setFld w 16 16 v.toNat = (v ++ w.setWidth 16 : BitVec 32) := by
  refine BitVec.eq_of_getLsbD_eq fun i hi => ?_
  rw [getLsbD_setFld _ _ _ _ _ hi, BitVec.getLsbD_append, BitVec.getLsbD_setWidth]
  by_cases h : i < 16
  · simp [h, Nat.not_le.mpr h]
  · simp only [h, Nat.not_lt.mp h, hi, if_false, true_and, if_true]
    rfl

end Sys2Proof.Machine
end

section
/-! PROOF. O17 to O20 and O12: the integer instructions. What an instruction of major 0x00, or of an immediate form, leaves is
said once (`State.intRun_put`, `State.immRun_put` and their forms for an operation that never traps or that writes no register); each
claim then gives what `intRes` computes. -/
namespace Sys2Proof.Machine

/-! ### Instructions of major 0x00 (R308, R309) -/

/-- The second operand: g[rs2], or the rs2 field of a shift-immediate form. -/
def State.intOperand (s : State) (o : OpR) (fn : Nat) : Word :=
  if intShiftImm fn then wordOf o.rs2.toNat else s.sv.gr o.rs2.toNat

section
variable {s : State} {o : OpR} {fn : Nat} {sf : Bool} {r : Word} {f : Flags}

/-- An operation that writes a register: its result, and with S its flags. -/
theorem State.intRun_put (h : s.svReady o.cond) (htest : (fn == 0x10 || fn == 0x11) = false)
    (hunary : intUnary fn = false ∨ o.rs2 = 0) (hdiv : divByZero fn (s.intOperand o fn) = false)
    (hres : intRes fn s.sv.flags (s.sv.gr o.rs1.toNat) (s.intOperand o fn) = (r, f))
    (htrap : (sf && trapsOnV fn && f.v && s.sv.trapov) = false) :
    s.intRun o fn sf = s.svPut o.rd r (if sf then some f else none) := by
  unfold State.intOperand at hdiv hres
  unfold State.intRun
  refine (State.svRun_go (sys := false)
    (u := if sf then (s.svBegin.putG o.rd.toNat r).putFlags f else s.svBegin.putG o.rd.toNat r) h ?_ nofun
    ?_).trans ?_
  · rcases hunary with hu | hu <;> simp [htest, hu]
  · simp only [htest, hdiv, hres, htrap, Bool.false_eq_true, if_false]
  · cases sf <;> rfl

/-- An operation that never traps on overflow. -/
theorem State.intRun_plain (h : s.svReady o.cond) (htest : (fn == 0x10 || fn == 0x11) = false) (hnotrap : trapsOnV fn = false)
    (hunary : intUnary fn = false ∨ o.rs2 = 0) (hdiv : divByZero fn (s.intOperand o fn) = false)
    (hres : intRes fn s.sv.flags (s.sv.gr o.rs1.toNat) (s.intOperand o fn) = (r, f)) :
    s.intRun o fn sf = s.svPut o.rd r (if sf then some f else none) :=
  State.intRun_put h htest hunary hdiv hres (by simp [hnotrap])

/-- CMP or TST: flags alone. -/
theorem State.intRun_test (h : s.svReady o.cond) (hrd : o.rd = 0) (htest : (fn == 0x10 || fn == 0x11) = true)
    (hnotrap : trapsOnV fn = false) (hunary : intUnary fn = false) (hdiv : divByZero fn (s.intOperand o fn) = false)
    (hres : intRes fn s.sv.flags (s.sv.gr o.rs1.toNat) (s.intOperand o fn) = (r, f)) :
    s.intRun o fn true = s.svSet (s.svBegin.sv.setFlags f) := by
  unfold State.intOperand at hdiv hres
  unfold State.intRun
  refine State.svRun_go (sys := false) (u := s.svBegin.putFlags f) h ?_ nofun ?_
  · simp [hrd, hunary]
  · simp only [htest, hdiv, hres, hnotrap, Bool.and_false, Bool.false_and, Bool.false_eq_true, if_false, if_true]

end

/-! ### Immediate forms (R305) -/

section
variable {s : State} {o : OpI} {major fn : Nat} {b r : Word} {f : Flags} {sf traps : Bool}

/-- An immediate form that writes a register. -/
theorem State.immRun_put (h : s.svReady o.cond) (hres : intRes fn s.sv.flags (s.sv.gr o.rs1.toNat) b = (r, f))
    (htrap : (traps && f.v && s.sv.trapov) = false) :
    s.immRun o major fn b sf false traps = s.svPut o.rd r (if sf then some f else none) := by
  unfold State.immRun
  refine (State.svRun_go (sys := false)
    (u := if sf then (s.svBegin.putG o.rd.toNat r).putFlags f else s.svBegin.putG o.rd.toNat r) h rfl nofun ?_).trans ?_
  · simp only [hres, htrap, Bool.false_eq_true, if_false]
  · cases sf <;> rfl

/-- CMPI or TSTI: flags alone. -/
theorem State.immRun_test (h : s.svReady o.cond) (hrd : o.rd = 0)
    (hres : intRes fn s.sv.flags (s.sv.gr o.rs1.toNat) b = (r, f)) :
    s.immRun o major fn b true true false = s.svSet (s.svBegin.sv.setFlags f) := by
  unfold State.immRun
  refine State.svRun_go (sys := false) (u := s.svBegin.putFlags f) h ?_ nofun ?_
  · simp [hrd]
  · simp only [hres, Bool.false_and, Bool.false_eq_true, if_false, if_true]

end

/-- No overflow traps where the claims' premise says that none does. -/
theorem noTrap {sf trapov v : Bool} {traps : Bool} (h : ¬ (sf = true ∧ trapov = true ∧ v = true)) :
    (sf && traps && v && trapov) = false := by
  cases sf <;> cases trapov <;> cases v <;> simp_all

/-! ### ADD, ADC, SUB, SBC, AND, OR, XOR and BIC -/

theorem addRes_false (f : Flags) (a b : Word) : addRes f a b false = (a + b,
    ⟨a + b == 0#32, (a + b).msb, decide (2 ^ 32 ≤ a.toNat + b.toNat), decide (a.toInt + b.toInt ≠ (a + b).toInt), f.q, f.d⟩) := by
  simpa using addRes_eq f a b false

theorem subRes_false (f : Flags) (a b : Word) : subRes f a b false = (a - b,
    ⟨a - b == 0#32, (a - b).msb, decide (a.toNat < b.toNat), decide (a.toInt - b.toInt ≠ (a - b).toInt), f.q, f.d⟩) := by
  simpa using subRes_eq f a b false

theorem add_does : Claims.addDoes := fun _ _ _ h hv =>
  congrArg Host.Outcome.next (State.intRun_put h rfl (.inl rfl) rfl (addRes_false _ _ _) (noTrap hv))

theorem adc_does : Claims.adcDoes := fun _ _ _ h hv =>
  congrArg Host.Outcome.next (State.intRun_put h rfl (.inl rfl) rfl (addRes_eq _ _ _ _) (noTrap hv))

theorem sub_does : Claims.subDoes := fun _ _ _ h hv =>
  congrArg Host.Outcome.next (State.intRun_put h rfl (.inl rfl) rfl (subRes_false _ _ _) (noTrap hv))

theorem sbc_does : Claims.sbcDoes := fun _ _ _ h hv =>
  congrArg Host.Outcome.next (State.intRun_put h rfl (.inl rfl) rfl (subRes_eq _ _ _ _) (noTrap hv))

theorem and_does : Claims.andDoes := fun _ _ _ h =>
  congrArg Host.Outcome.next (State.intRun_plain h rfl rfl (.inl rfl) rfl rfl)

theorem or_does : Claims.orDoes := fun _ _ _ h =>
  congrArg Host.Outcome.next (State.intRun_plain h rfl rfl (.inl rfl) rfl rfl)

theorem xor_does : Claims.xorDoes := fun _ _ _ h =>
  congrArg Host.Outcome.next (State.intRun_plain h rfl rfl (.inl rfl) rfl rfl)

theorem bic_does : Claims.bicDoes := fun _ _ _ h =>
  congrArg Host.Outcome.next (State.intRun_plain h rfl rfl (.inl rfl) rfl rfl)

/-- Settles O17: `addRes_eq` and `subRes_eq` give C and the overflow V; the rest set Z and N alone. -/
theorem sumsAndLogic : Obligations.SumsAndLogic :=
  ⟨add_does, adc_does, sub_does, sbc_does, and_does, or_does, xor_does, bic_does⟩

/-! ### Shifts and rotates -/

theorem shl_does : Claims.shlDoes := fun _ _ s h => congrArg Host.Outcome.next (State.intRun_plain h rfl rfl (.inl rfl) rfl
  ((congrArg (shiftRes s.sv.flags 0 _) (fld_zero _ 8)).trans (shiftRes_shl _ _ _)))

theorem shr_does : Claims.shrDoes := fun _ _ s h => congrArg Host.Outcome.next (State.intRun_plain h rfl rfl (.inl rfl) rfl
  ((congrArg (shiftRes s.sv.flags 1 _) (fld_zero _ 8)).trans (shiftRes_shr _ _ _)))

theorem sar_does : Claims.sarDoes := fun _ _ s h => congrArg Host.Outcome.next (State.intRun_plain h rfl rfl (.inl rfl) rfl
  ((congrArg (shiftRes s.sv.flags 2 _) (fld_zero _ 8)).trans (shiftRes_sar _ _ _)))

theorem ror_does : Claims.rorDoes := fun _ _ s h => congrArg Host.Outcome.next (State.intRun_plain h rfl rfl (.inl rfl) rfl
  ((congrArg (shiftRes s.sv.flags 3 _) (fld_zero _ 8)).trans (shiftRes_ror _ _ _)))

theorem shli_does : Claims.shliDoes := fun o _ s h => congrArg Host.Outcome.next (State.intRun_plain h rfl rfl (.inl rfl) rfl
  ((congrArg (shiftRes s.sv.flags 0 _) (fld_wordOf_reg o.rs2)).trans (shiftRes_shl _ _ _)))

theorem shri_does : Claims.shriDoes := fun o _ s h => congrArg Host.Outcome.next (State.intRun_plain h rfl rfl (.inl rfl) rfl
  ((congrArg (shiftRes s.sv.flags 1 _) (fld_wordOf_reg o.rs2)).trans (shiftRes_shr _ _ _)))

theorem sari_does : Claims.sariDoes := fun o _ s h => congrArg Host.Outcome.next (State.intRun_plain h rfl rfl (.inl rfl) rfl
  ((congrArg (shiftRes s.sv.flags 2 _) (fld_wordOf_reg o.rs2)).trans (shiftRes_sar _ _ _)))

theorem rori_does : Claims.roriDoes := fun o _ s h => congrArg Host.Outcome.next (State.intRun_plain h rfl rfl (.inl rfl) rfl
  ((congrArg (shiftRes s.sv.flags 3 _) (fld_wordOf_reg o.rs2)).trans (shiftRes_ror _ _ _)))

/-- Settles O18: both operand forms give the amount to the four shifts of `shiftRes`. -/
theorem shiftRules : Obligations.ShiftRules :=
  ⟨shl_does, shr_does, sar_does, ror_does, shli_does, shri_does, sari_does, rori_does⟩

/-! ### Multiply, divide, minimum, maximum, count, reverse and extend -/

/-- A result with Z and N, given by what it is equal to. -/
theorem zn_congr {f : Flags} {x r : Word} (h : x = r) : (x, f.zn x) = (r, ⟨r == 0#32, r.msb, f.c, f.v, f.q, f.d⟩) := by
  rw [h, Flags.zn_eq]

/-- As `State.intRun_plain`, of an operation of two registers that sets Z and N of a result equal to `r`. -/
theorem State.intRun_binary {s : State} {o : OpR} {fn : Nat} {sf : Bool} {x r : Word} (h : s.svReady o.cond)
    (htest : (fn == 0x10 || fn == 0x11) = false) (hnotrap : trapsOnV fn = false) (hunary : intUnary fn = false)
    (hreg : intShiftImm fn = false) (hdiv : divByZero fn (s.sv.gr o.rs2.toNat) = false)
    (hres : intRes fn s.sv.flags (s.sv.gr o.rs1.toNat) (s.sv.gr o.rs2.toNat) = (x, s.sv.flags.zn x)) (hx : x = r) :
    s.intRun o fn sf = s.svPut o.rd r
      (if sf then some ⟨r == 0#32, r.msb, s.sv.flags.c, s.sv.flags.v, s.sv.flags.q, s.sv.flags.d⟩ else none) := by
  have hb : s.intOperand o fn = s.sv.gr o.rs2.toNat := by simp [State.intOperand, hreg]
  exact State.intRun_plain h htest hnotrap (.inl hunary) (hb ▸ hdiv) (hb ▸ hres.trans (zn_congr hx))

theorem mul_does : Claims.mulDoes := fun _ _ _ h =>
  congrArg Host.Outcome.next (State.intRun_binary h rfl rfl rfl rfl rfl rfl rfl)

theorem mulh_does : Claims.mulhDoes := fun _ _ _ h =>
  congrArg Host.Outcome.next (State.intRun_binary h rfl rfl rfl rfl rfl rfl
    (by rw [wordI_eq_asWord, sgnW_eq_toInt, sgnW_eq_toInt]))

theorem mulhu_does : Claims.mulhuDoes := fun _ _ _ h =>
  congrArg Host.Outcome.next (State.intRun_binary h rfl rfl rfl rfl rfl rfl rfl)

theorem divByZero_of_ne {fn : Nat} {b : Word} (h : b ≠ 0) : divByZero fn b = false := by
  have hb : (b == 0) = false := by simpa using h
  rw [divByZero, hb, Bool.and_false]

theorem intRes_div (f : Flags) (a b : Word) : intRes 0x15 f a b = (a.sdiv b,
    ⟨a.sdiv b == 0#32, (a.sdiv b).msb, f.c, a == 0x80000000#32 && b == 0xFFFFFFFF#32, f.q, f.d⟩) := by
  have hq : wordI ((sgnW a).tdiv (sgnW b)) = a.sdiv b := by rw [wordI_eq_asWord, sgnW_eq_toInt, sgnW_eq_toInt, asWord_tdiv]
  rw [← hq]
  rfl

theorem div_does : Claims.divDoes := fun _ _ _ h hb hv =>
  congrArg Host.Outcome.next (State.intRun_put h rfl (.inl rfl) (divByZero_of_ne hb) (intRes_div _ _ _) (noTrap hv))

theorem divu_does : Claims.divuDoes := fun _ _ _ h hb =>
  congrArg Host.Outcome.next (State.intRun_binary h rfl rfl rfl rfl (divByZero_of_ne hb) rfl (wordOf_div _ _))

theorem rem_does : Claims.remDoes := fun _ _ _ h hb =>
  congrArg Host.Outcome.next (State.intRun_binary h rfl rfl rfl rfl (divByZero_of_ne hb) rfl
    (by rw [wordI_eq_asWord, sgnW_eq_toInt, sgnW_eq_toInt, asWord_tmod]))

theorem remu_does : Claims.remuDoes := fun _ _ _ h hb =>
  congrArg Host.Outcome.next (State.intRun_binary h rfl rfl rfl rfl (divByZero_of_ne hb) rfl (wordOf_mod_word _ _))

theorem min_does : Claims.minDoes := fun _ _ _ h =>
  congrArg Host.Outcome.next (State.intRun_binary h rfl rfl rfl rfl rfl rfl (by rw [sgnW_eq_toInt, sgnW_eq_toInt]))

theorem max_does : Claims.maxDoes := fun _ _ _ h =>
  congrArg Host.Outcome.next (State.intRun_binary h rfl rfl rfl rfl rfl rfl (by rw [sgnW_eq_toInt, sgnW_eq_toInt]))

theorem minu_does : Claims.minuDoes := fun _ _ _ h =>
  congrArg Host.Outcome.next (State.intRun_binary h rfl rfl rfl rfl rfl rfl rfl)

theorem maxu_does : Claims.maxuDoes := fun _ _ _ h =>
  congrArg Host.Outcome.next (State.intRun_binary h rfl rfl rfl rfl rfl rfl rfl)

/-- As `State.intRun_binary`, of an operation of one register. -/
theorem State.intRun_unary {s : State} {o : OpR} {fn : Nat} {sf : Bool} {x r : Word} (h : s.svReady o.cond) (hrs2 : o.rs2 = 0)
    (htest : (fn == 0x10 || fn == 0x11) = false) (hnotrap : trapsOnV fn = false)
    (hdiv : divByZero fn (s.intOperand o fn) = false)
    (hres : intRes fn s.sv.flags (s.sv.gr o.rs1.toNat) (s.intOperand o fn) = (x, s.sv.flags.zn x)) (hx : x = r) :
    s.intRun o fn sf = s.svPut o.rd r
      (if sf then some ⟨r == 0#32, r.msb, s.sv.flags.c, s.sv.flags.v, s.sv.flags.q, s.sv.flags.d⟩ else none) :=
  State.intRun_plain h htest hnotrap (.inr hrs2) hdiv (hres.trans (zn_congr hx))

theorem rev_does : Claims.revDoes := fun _ _ _ h h2 =>
  congrArg Host.Outcome.next (State.intRun_unary h h2 rfl rfl rfl rfl (rev32_eq _))

theorem sxtb_does : Claims.sxtbDoes := fun _ _ _ h h2 =>
  congrArg Host.Outcome.next (State.intRun_unary h h2 rfl rfl rfl rfl (signExtend_setWidth _ 8))

theorem sxth_does : Claims.sxthDoes := fun _ _ _ h h2 =>
  congrArg Host.Outcome.next (State.intRun_unary h h2 rfl rfl rfl rfl (signExtend_setWidth _ 16))

theorem zxtb_does : Claims.zxtbDoes := fun _ _ _ h h2 =>
  congrArg Host.Outcome.next (State.intRun_unary h h2 rfl rfl rfl rfl (zeroExtend_setWidth _ 8))

theorem zxth_does : Claims.zxthDoes := fun _ _ _ h h2 =>
  congrArg Host.Outcome.next (State.intRun_unary h h2 rfl rfl rfl rfl (zeroExtend_setWidth _ 16))

theorem clz_does : Claims.clzDoes := by
  intro o sf k s a f r h h2 hk hzero hone
  have hclz : clz32 a = k := clz32_eq hk (fun i hi => by simpa using List.all_eq_true.mp hzero i (List.mem_range.mpr hi))
    (by simpa using hone)
  exact congrArg Host.Outcome.next (State.intRun_unary h h2 rfl rfl rfl rfl (congrArg wordOf hclz))

/-- Settles O19: products, quotients and extensions are those of bit vectors; CLZ is the count that the bits allow. -/
theorem productsAndQuotients : Obligations.ProductsAndQuotients :=
  ⟨mul_does, mulh_does, mulhu_does, div_does, divu_does, rem_does, remu_does, min_does, max_does, minu_does, maxu_does, rev_does,
    sxtb_does, sxth_does, zxtb_does, zxth_does, clz_does⟩

/-! ### Compares, tests and immediate forms -/

theorem cmp_does : Claims.cmpDoes := fun _ _ h hrd =>
  congrArg Host.Outcome.next (State.intRun_test h hrd rfl rfl rfl rfl (subRes_false _ _ _))

theorem tst_does : Claims.tstDoes := fun _ _ h hrd =>
  congrArg Host.Outcome.next (State.intRun_test h hrd rfl rfl rfl rfl rfl)

theorem cmpi_does : Claims.cmpiDoes := fun o s h hrd => congrArg Host.Outcome.next
  (State.immRun_test h hrd ((congrArg (subRes s.sv.flags _ · false) (immS_eq o)).trans (subRes_false _ _ _)))

theorem tsti_does : Claims.tstiDoes := fun o _ h hrd => congrArg Host.Outcome.next
  (State.immRun_test h hrd (congrArg (intRes 0x04 _ _) (immU_eq o)))

theorem addi_does : Claims.addiDoes := fun o s h => congrArg Host.Outcome.next
  (State.immRun_put h ((congrArg (addRes s.sv.flags _ · false) (immS_eq o)).trans (addRes_false _ _ _)) rfl)

theorem addis_does : Claims.addisDoes := fun o s h hv => congrArg Host.Outcome.next
  (State.immRun_put h ((congrArg (addRes s.sv.flags _ · false) (immS_eq o)).trans (addRes_false _ _ _))
    (noTrap (sf := true) (traps := true) fun hall => hv hall.2))

theorem andi_does : Claims.andiDoes := fun o _ h => congrArg Host.Outcome.next
  (State.immRun_put h (congrArg (intRes 0x04 _ _) (immU_eq o)) rfl)

theorem ori_does : Claims.oriDoes := fun o _ h => congrArg Host.Outcome.next
  (State.immRun_put h (congrArg (intRes 0x05 _ _) (immU_eq o)) rfl)

theorem xori_does : Claims.xoriDoes := fun o _ h => congrArg Host.Outcome.next
  (State.immRun_put h (congrArg (intRes 0x06 _ _) (immU_eq o)) rfl)

theorem movl_does : Claims.movlDoes := by
  intro o s h hb
  refine congrArg Host.Outcome.next (State.svRun_go h hb nofun ?_)
  rw [wordOf, BitVec.ofNat_toNat]
  rfl

theorem movh_does : Claims.movhDoes := by
  intro o s h hb
  refine congrArg Host.Outcome.next (State.svRun_go h hb nofun ?_)
  rw [setFld_high_half]
  rfl

/-- Settles O20: compares and tests are the subtraction and the AND of O17 with no register written. -/
theorem comparesAndImmediates : Obligations.ComparesAndImmediates :=
  ⟨cmp_does, tst_does, cmpi_does, tsti_does, addi_does, addis_does, andi_does, ori_does, xori_does, movl_does, movh_does⟩

/-! ### The load delay (R322) -/

/-- A word that waits for its register is there when the next instruction's effect begins. -/
theorem State.svBegin_word {s : State} {r : Nat} {v : Word} (h : s.sv.load = some (.word r v)) :
    s.svBegin.sv = { s.sv.setG r v with load := none, wfi := false } := by
  have hcommit : s.sv.commitLoad = { s.sv.setG r v with load := none } := by simp only [SvCore.commitLoad, h]
  show ({ s.sv.commitLoad with wfi := false } : SvCore) = _
  rw [hcommit]

/-- After an instruction registers read as its effect left them. -/
theorem State.svNext_gr (s u : State) (r : Nat) : (s.svNext u).sv.gr r = u.sv.gr r := by
  obtain ⟨p, w, l0, l1, l2, hnext, -⟩ := s.svNext_moved u
  rw [hnext]
  rfl

theorem State.svNext_load (s u : State) : (s.svNext u).sv.load = u.sv.load := by
  obtain ⟨p, w, l0, l1, l2, hnext, -⟩ := s.svNext_moved u
  rw [hnext]
  rfl

/-- What stands when an instruction with a result has ended: the result over a loaded value, and a loaded value elsewhere. -/
theorem State.svPut_after_load {s : State} {r : Nat} {v : Word} (hl : s.sv.banks.length = 4)
    (hload : s.sv.load = some (.word r v)) (hr : 0 < r) (rd : BitVec 5) (x : Word) :
    (s.svPut rd x none).sv.load = none ∧ (rd ≠ 0 → (s.svPut rd x none).sv.gr rd.toNat = x)
      ∧ (r ≠ rd.toNat → (s.svPut rd x none).sv.gr r = v) := by
  have hbegin := State.svBegin_word hload
  have hlen : s.svBegin.sv.banks.length = 4 := by
    rw [hbegin]
    exact (s.sv.setG_written r v).length.trans hl
  refine ⟨?_, fun hrd => ?_, fun hne => ?_⟩
  · refine (State.svNext_load _ _).trans ?_
    show (s.svBegin.sv.setG rd.toNat x).load = none
    rw [(s.svBegin.sv.setG_written rd.toNat x).frame]
    exact s.svBegin_load
  · have hpos : rd.toNat ≠ 0 := fun h0 => hrd (BitVec.eq_of_toNat_eq h0)
    exact (State.svNext_gr _ _ _).trans (SvCore.gr_setG hlen x hpos)
  · refine (State.svNext_gr _ _ _).trans ((SvCore.gr_setG_ne hlen x hne).trans ?_)
    rw [hbegin]
    exact SvCore.gr_setG hl v (Nat.pos_iff_ne_zero.mp hr)

/-- An interrupt is accepted, with a bank free. -/
theorem execInterruptAccept_shallow {s : State} {src level : Nat} (hrun : s.computeRuns = true) (hboot : s.boot.running = true)
    (hhold : s.sv.hold = false) (hb : s.sv.breach = false) (ha : s.sv.arith = none) (hd : s.sv.depth < 3)
    (hirq : s.irqBest s.sv.ml = some (src, level)) (hvec : tabGet nullCap s.sv.ivec level ≠ nullCap) :
    exec .interruptAccept s = .next ((s.svBegin.setSv
      (s.svBegin.sv.entered (tabGet nullCap s.sv.ivec level) level s.svBegin.sv.pcc)).svCause 0x20 level true false .none
        src 0 0) := by
  show execInterruptAccept s = _
  have hgo : (!(s.computeRuns && s.boot.running && !s.sv.hold) || s.sv.breach) = false := by simp [hrun, hboot, hhold, hb]
  simp only [execInterruptAccept, hgo, Bool.false_eq_true, if_false, hirq, ha, Option.isSome_none, hvec, decide_false,
    Bool.and_false, State.svEnter_shallow (s.svBegin_depth ▸ hd : s.svBegin.sv.depth < 3)]

/-- Settles O12: the load delay ends in the state that the next effect changes, or that an entry leaves behind in its bank. -/
theorem loadDelay : Obligations.LoadDelay := by
  intro o r v src level s hl hload hr
  refine ⟨fun hready => ?_, fun hrun hboot hhold hb ha hd hirq hvec => ?_⟩
  · exact ⟨_, add_does o false s hready (by simp), State.svPut_after_load hl hload hr o.rd _⟩
  · refine ⟨_, execInterruptAccept_shallow hrun hboot hhold hb ha hd hirq hvec, rfl, congrArg (· + 1) s.svBegin_depth, ?_⟩
    have hbegin := State.svBegin_word hload
    have hother : s.sv.depth % 4 ≠ (s.svBegin.sv.depth + 1) % 4 := by
      rw [s.svBegin_depth]
      omega
    have hin : s.sv.depth % 4 < s.sv.banks.length := by omega
    have hbank : s.svBegin.sv.banks = listSet s.sv.banks (s.sv.depth % 4) { s.sv.bank with g := tabSet 0 s.sv.bank.g r v } := by
      rw [hbegin, SvCore.setG_of_ne _ _ (Nat.pos_iff_ne_zero.mp hr)]
      simp only [SvCore.setBank, hb, Bool.false_eq_true, if_false]
    show ((listSet s.svBegin.sv.banks ((s.svBegin.sv.depth + 1) % 4) _)[s.sv.depth % 4]?.map _) = _
    rw [listSet_getElem?_ne _ _ hother, hbank, listSet_getElem? _ hin]
    exact congrArg some (tabGet_set _ _ _ _)

end Sys2Proof.Machine
end

section
/-! PROOF. O21 to O24: fixed-point, accumulator and decimal instructions. As for the integer instructions, what a run leaves is
said once for each major opcode; each claim then gives the exact value, which saturation and rounding hold to its range. -/
namespace Sys2Proof.Machine

/-! ### Saturation and packed halves (R312) -/

theorem satS_eq (n : Nat) (x : Int) : satS n x = (sat n x, decide (sat n x ≠ x)) := by
  have hlim : (1 : Int) ≤ 2 ^ (n - 1) := one_le_pow₀ (by decide)
  unfold satS sat
  generalize (2 : Int) ^ (n - 1) = lim at *
  dsimp only
  split
  · rw [Prod.mk.injEq]
    exact ⟨by omega, by rw [eq_comm, decide_eq_true_eq]; omega⟩
  · split
    · rw [Prod.mk.injEq]
      exact ⟨by omega, by rw [eq_comm, decide_eq_true_eq]; omega⟩
    · rw [Prod.mk.injEq]
      exact ⟨by omega, by rw [eq_comm, decide_eq_false_iff_not, not_not]; omega⟩

theorem halves_eq (w : Word) : halves w = (hiHalf w, loHalf w) := by
  have hpart : ∀ lo, sgn 16 (fld w lo 16) = (w.extractLsb' lo 16).toInt := fun lo => by
    rw [sgn_eq_toInt]
    congr 1
    refine BitVec.eq_of_toNat_eq ?_
    rw [BitVec.toNat_ofNat, BitVec.extractLsb'_toNat, fld, bitsN, Nat.shiftRight_eq_div_pow, Nat.mod_mod]
  rw [halves, hpart, hpart]
  rfl

theorem wordOf_halves (hi lo : Int) : wordOf (uns 16 hi * 2 ^ 16 + uns 16 lo) = pack hi lo := by
  have hpart : ∀ x : Int, (BitVec.ofInt 16 x).toNat = uns 16 x := fun _ => BitVec.toNat_ofInt _
  refine BitVec.eq_of_toNat_eq ?_
  have hhi := (BitVec.ofInt 16 hi).isLt
  have hlo := (BitVec.ofInt 16 lo).isLt
  rw [pack, toNat_append_add, wordOf, BitVec.toNat_ofNat, ← hpart, ← hpart]
  omega

theorem packSat_eq (hi lo : Int) :
    packSat hi lo = (pack (sat 16 hi) (sat 16 lo), decide (sat 16 hi ≠ hi) || decide (sat 16 lo ≠ lo)) := by
  simp only [packSat, satS_eq, wordOf_halves]

/-! ### Instructions of major 0x28 (R313, R314) -/

section
variable {s : State} {o : OpR} {fn : Nat} {rsel : BitVec 3} {r : Word} {f : Flags}

theorem State.fixRun_put (h : s.svReady o.cond)
    (hbad : ((if fixRounds fn then decide (4 < rsel.toNat) else rsel != 0) || (fixUnary fn && o.rs2 != 0)) = false)
    (hres : fixRes fn (rselMode rsel.toNat s.sv.rm) s.sv.flags (s.sv.gr o.rs1.toNat) (s.sv.gr o.rs2.toNat) = (r, f)) :
    s.fixRun o fn rsel = s.svPut o.rd r (some f) := by
  unfold State.fixRun
  refine State.svRun_go (sys := false) (u := (s.svBegin.putG o.rd.toNat r).putFlags f) h hbad nofun ?_
  simp only [hres]

/-- An operation that rounds nothing. -/
theorem State.fixRun_exact (h : s.svReady o.cond) (h0 : rsel = 0) (hexact : fixRounds fn = false)
    (hunary : fixUnary fn = false ∨ o.rs2 = 0)
    (hres : fixRes fn (rselMode rsel.toNat s.sv.rm) s.sv.flags (s.sv.gr o.rs1.toNat) (s.sv.gr o.rs2.toNat) = (r, f)) :
    s.fixRun o fn rsel = s.svPut o.rd r (some f) :=
  State.fixRun_put h (by rcases hunary with hu | hu <;> simp [hexact, h0, hu]) hres

/-- An operation that rounds under the mode that RSEL selects. -/
theorem State.fixRun_rounded (h : s.svReady o.cond) (h4 : rsel.toNat ≤ 4) (hrounds : fixRounds fn = true)
    (hbinary : fixUnary fn = false)
    (hres : fixRes fn (rselMode rsel.toNat s.sv.rm) s.sv.flags (s.sv.gr o.rs1.toNat) (s.sv.gr o.rs2.toNat) = (r, f)) :
    s.fixRun o fn rsel = s.svPut o.rd r (some f) :=
  State.fixRun_put h (by simp [hrounds, hbinary, h4]) hres

end

/-- A result of 32 bits saturated, with Z, N and Q, by its exact value. -/
theorem saturated_word {f : Flags} {y x : Int} (h : y = x) :
    (wordI (satS 32 y).1, { f.zn (wordI (satS 32 y).1) with q := f.q || (satS 32 y).2 })
      = (asWord (sat 32 x),
        ⟨asWord (sat 32 x) == 0#32, (asWord (sat 32 x)).msb, f.c, f.v, f.q || decide (sat 32 x ≠ x), f.d⟩) := by
  rw [h, satS_eq, wordI_eq_asWord]
  rfl

/-- A result of two saturated halves, with Z, N and Q, by their exact values. -/
theorem saturated_halves {f : Flags} {y z h l : Int} (hh : y = h) (hl : z = l) :
    ((packSat y z).1, { f.zn (packSat y z).1 with q := f.q || (packSat y z).2 })
      = (pack (sat 16 h) (sat 16 l), ⟨pack (sat 16 h) (sat 16 l) == 0#32, (pack (sat 16 h) (sat 16 l)).msb, f.c, f.v,
        f.q || (decide (sat 16 h ≠ h) || decide (sat 16 l ≠ l)), f.d⟩) := by
  rw [hh, hl, packSat_eq]
  rfl

theorem qadd_does : Claims.qaddDoes := fun _ _ _ h h0 => congrArg Host.Outcome.next
  (State.fixRun_exact h h0 rfl (.inl rfl) (saturated_word (by rw [sgnW_eq_toInt, sgnW_eq_toInt])))

theorem qsub_does : Claims.qsubDoes := fun _ _ _ h h0 => congrArg Host.Outcome.next
  (State.fixRun_exact h h0 rfl (.inl rfl) (saturated_word (by rw [sgnW_eq_toInt, sgnW_eq_toInt])))

theorem qneg_does : Claims.qnegDoes := fun _ _ _ h h0 h2 => congrArg Host.Outcome.next
  (State.fixRun_exact h h0 rfl (.inr h2) (saturated_word (by rw [sgnW_eq_toInt])))

theorem qabs_does : Claims.qabsDoes := fun _ _ _ h h0 h2 => congrArg Host.Outcome.next
  (State.fixRun_exact h h0 rfl (.inr h2) (saturated_word (by rw [sgnW_eq_toInt])))

theorem qmul_does : Claims.qmulDoes := fun _ _ _ h h4 => congrArg Host.Outcome.next
  (State.fixRun_rounded h h4 rfl rfl (saturated_word (by rw [sgnW_eq_toInt, sgnW_eq_toInt])))

theorem qadd2_does : Claims.qadd2Does := fun _ _ _ h h0 => congrArg Host.Outcome.next
  (State.fixRun_exact h h0 rfl (.inl rfl) (saturated_halves (by rw [halves_eq, halves_eq]) (by rw [halves_eq, halves_eq])))

theorem qsub2_does : Claims.qsub2Does := fun _ _ _ h h0 => congrArg Host.Outcome.next
  (State.fixRun_exact h h0 rfl (.inl rfl) (saturated_halves (by rw [halves_eq, halves_eq]) (by rw [halves_eq, halves_eq])))

theorem qmul2_does : Claims.qmul2Does := fun _ _ _ h h4 => congrArg Host.Outcome.next
  (State.fixRun_rounded h h4 rfl rfl (saturated_halves (by rw [halves_eq, halves_eq]) (by rw [halves_eq, halves_eq])))

theorem qshl_does : Claims.qshlDoes := fun _ _ _ h h0 => congrArg Host.Outcome.next
  (State.fixRun_exact h h0 rfl (.inl rfl) (saturated_word (by rw [sgnW_eq_toInt, fld_zero]; rfl)))

theorem qshr_does : Claims.qshrDoes := by
  intro o rsel s a b f md r h h4
  have hr : wordI (roundShift md (sgnW a) (fld b 0 5)) = r := by
    rw [wordI_eq_asWord, sgnW_eq_toInt, fld_zero]
    rfl
  refine congrArg Host.Outcome.next (State.fixRun_rounded h h4 rfl rfl ?_)
  rw [← hr]
  rfl

theorem qpack_does : Claims.qpackDoes := fun _ _ _ h h4 => congrArg Host.Outcome.next
  (State.fixRun_rounded h h4 rfl rfl (saturated_halves (by rw [sgnW_eq_toInt]) (by rw [sgnW_eq_toInt])))

/-- Settles O21: `satS` is the saturation of an exact value, in a word or in each half. -/
theorem fixedPointRules : Obligations.FixedPointRules :=
  ⟨qadd_does, qsub_does, qneg_does, qabs_does, qmul_does, qadd2_does, qsub2_does, qmul2_does, qshl_does, qshr_does, qpack_does⟩

/-! ### Instructions of major 0x29 (R315, R316) -/

section
variable {s : State} {o : OpR} {fn : Nat} {rsel : BitVec 3} {f : Flags}

/-- What an operation leaves that writes the accumulator which rd names. -/
theorem State.accRun_write {v : BitVec 72} (h : s.svReady o.cond) (h0 : rsel = 0) (hk : o.rd.toNat < 2)
    (hwrites : (accReads fn || fn = 8 || fn = 9) = false) (h2 : accSources fn = 2 ∨ o.rs2 = 0) (h1 : fn ≠ 6 ∨ o.rs1 = 0)
    (hres : accRes fn (rselMode rsel.toNat s.sv.rm) s.sv.flags (s.sv.acc o.rd.toNat) (s.sv.gr o.rs1.toNat) (s.sv.gr o.rs2.toNat)
      = ⟨v, none, f⟩) : s.accRun o fn rsel = s.svSet ((s.svBegin.sv.setFlags f).setAcc o.rd.toNat v) := by
  obtain ⟨⟨hr, h8⟩, h9⟩ : (accReads fn = false ∧ fn ≠ 8) ∧ fn ≠ 9 := by simpa using hwrites
  have hmod : o.rd.toNat % 2 = o.rd.toNat := Nat.mod_eq_of_lt hk
  unfold State.accRun
  refine State.svRun_go (sys := false) (u := s.svBegin.setSv ((s.svBegin.sv.setFlags f).setAcc o.rd.toNat v)) h ?_ nofun ?_
  · rcases h2 with h2 | h2 <;> rcases h1 with h1 | h1 <;> simp [hr, h8, h9, h0, hk, h2, h1]
  · simp only [hr, Bool.false_eq_true, if_false, hmod, hres]
    rfl

/-- What an operation leaves that reads the accumulator which rs1 names. -/
theorem State.accRun_read {acc : BitVec 72} {r : Word} (h : s.svReady o.cond)
    (hsel : (if fn = 8 || fn = 9 then decide (4 < rsel.toNat) else rsel != 0) = false) (hk : o.rs1.toNat < 2)
    (hreads : accReads fn = true) (h2 : o.rs2 = 0)
    (hres : accRes fn (rselMode rsel.toNat s.sv.rm) s.sv.flags (s.sv.acc o.rs1.toNat) (s.sv.gr o.rs1.toNat) (s.sv.gr o.rs2.toNat)
      = ⟨acc, some r, f⟩) : s.accRun o fn rsel = s.svSet ((s.svBegin.sv.setFlags f).setG o.rd.toNat r) := by
  have h6 : (fn == 6) = false := by
    cases h6 : fn == 6 with
    | false => rfl
    | true => simp [beq_iff_eq.mp h6, accReads] at hreads
  have hmod : o.rs1.toNat % 2 = o.rs1.toNat := Nat.mod_eq_of_lt hk
  unfold State.accRun
  refine State.svRun_go (sys := false) (u := s.svBegin.setSv ((s.svBegin.sv.setFlags f).setG o.rd.toNat r)) h ?_ nofun ?_
  · simp only [hsel, hreads, h2, h6, if_true, Bool.false_or, Bool.false_and, Bool.or_false]
    simpa using hk
  · simp only [hreads, if_true, hmod, hres, Option.getD_some]
    rfl

end

/-- A saturated accumulator with Q, by its exact value. -/
theorem saturated_acc {f : Flags} {y x : Int} (h : y = x) :
    (⟨BitVec.ofNat 72 (uns 72 (satS 72 y).1), none, { f with q := f.q || (satS 72 y).2 }⟩ : AccRes)
      = ⟨BitVec.ofInt 72 (sat 72 x), none, ⟨f.z, f.n, f.c, f.v, f.q || decide (sat 72 x ≠ x), f.d⟩⟩ := by
  rw [h, satS_eq, ofNat_uns]

/-- An accumulator set to an exact value. -/
theorem exact_acc {f : Flags} {y x : Int} (h : y = x) :
    (⟨BitVec.ofNat 72 (uns 72 y), none, f⟩ : AccRes) = ⟨BitVec.ofInt 72 x, none, f⟩ := by
  rw [h, ofNat_uns]

theorem sgn_acc (a : BitVec 72) : sgn 72 a.toNat = a.toInt := by rw [sgn_eq_toInt, BitVec.ofNat_toNat, BitVec.setWidth_eq]

theorem dotProduct_eq (a b : Word) : dotProduct a b = (hiHalf a * hiHalf b + loHalf a * loHalf b) * 2 ^ 32 := by
  simp only [dotProduct, halves_eq]

theorem mac_does : Claims.macDoes := fun _ _ _ h h0 hk => congrArg Host.Outcome.next
  (State.accRun_write h h0 hk rfl (.inl rfl) (.inl (by decide))
    (saturated_acc (by rw [sgn_acc, sgnW_eq_toInt, sgnW_eq_toInt])))

theorem msu_does : Claims.msuDoes := fun _ _ _ h h0 hk => congrArg Host.Outcome.next
  (State.accRun_write h h0 hk rfl (.inl rfl) (.inl (by decide))
    (saturated_acc (by rw [sgn_acc, sgnW_eq_toInt, sgnW_eq_toInt])))

theorem mula_does : Claims.mulaDoes := fun _ _ _ h h0 hk => congrArg Host.Outcome.next
  (State.accRun_write h h0 hk rfl (.inl rfl) (.inl (by decide)) (exact_acc (by rw [sgnW_eq_toInt, sgnW_eq_toInt])))

theorem mac2_does : Claims.mac2Does := fun _ _ _ h h0 hk => congrArg Host.Outcome.next
  (State.accRun_write h h0 hk rfl (.inl rfl) (.inl (by decide)) (saturated_acc (by rw [sgn_acc, dotProduct_eq])))

theorem msu2_does : Claims.msu2Does := fun _ _ _ h h0 hk => congrArg Host.Outcome.next
  (State.accRun_write h h0 hk rfl (.inl rfl) (.inl (by decide)) (saturated_acc (by rw [sgn_acc, dotProduct_eq])))

theorem mula2_does : Claims.mula2Does := fun _ _ _ h h0 hk => congrArg Host.Outcome.next
  (State.accRun_write h h0 hk rfl (.inl rfl) (.inl (by decide)) (exact_acc (dotProduct_eq _ _)))

theorem clra_does : Claims.clraDoes := fun _ _ _ h h0 hk h2 h1 => congrArg Host.Outcome.next
  (State.accRun_write h h0 hk rfl (.inr h2) (.inr h1) (exact_acc rfl))

theorem mta_does : Claims.mtaDoes := fun _ _ _ h h0 hk h2 => congrArg Host.Outcome.next
  (State.accRun_write h h0 hk rfl (.inr h2) (.inl (by decide)) (exact_acc (by rw [sgnW_eq_toInt])))

/-- Settles O22: each operation sets the accumulator to an exact value, saturated to 72 bits where it accumulates. -/
theorem accumulatorWrites : Obligations.AccumulatorWrites :=
  ⟨mac_does, msu_does, mula_does, mac2_does, msu2_does, mula2_does, clra_does, mta_does⟩

/-! ### Parts of an accumulator (R316) -/

theorem acc_low_written (acc : BitVec 72) (a : Word) :
    BitVec.ofNat 72 (acc.toNat - bitsN acc.toNat 0 32 * 2 ^ 0 + a.toNat % 2 ^ 32 * 2 ^ 0)
      = (acc.extractLsb' 32 40 ++ a : BitVec 72) := by
  refine BitVec.eq_of_toNat_eq ?_
  have hacc := acc.isLt
  have ha := a.isLt
  simp only [toNat_append_add, BitVec.extractLsb'_toNat, Nat.shiftRight_eq_div_pow, BitVec.toNat_ofNat, bitsN]
  omega

theorem acc_high_written (acc : BitVec 72) (a : Word) :
    BitVec.ofNat 72 (acc.toNat - bitsN acc.toNat 32 32 * 2 ^ 32 + a.toNat % 2 ^ 32 * 2 ^ 32)
      = (acc.extractLsb' 64 8 ++ a ++ acc.extractLsb' 0 32 : BitVec 72) := by
  refine BitVec.eq_of_toNat_eq ?_
  have hacc := acc.isLt
  have ha := a.isLt
  simp only [toNat_append_add, BitVec.extractLsb'_toNat, Nat.shiftRight_eq_div_pow, BitVec.toNat_ofNat, bitsN]
  omega

theorem acc_guard_written (acc : BitVec 72) (a : Word) :
    BitVec.ofNat 72 (acc.toNat - bitsN acc.toNat 64 8 * 2 ^ 64 + a.toNat % 2 ^ 8 * 2 ^ 64)
      = (a.setWidth 8 ++ acc.extractLsb' 0 64 : BitVec 72) := by
  refine BitVec.eq_of_toNat_eq ?_
  have hacc := acc.isLt
  have ha := a.isLt
  simp only [toNat_append_add, BitVec.extractLsb'_toNat, Nat.shiftRight_eq_div_pow, BitVec.toNat_ofNat,
    BitVec.toNat_setWidth, bitsN]
  omega

theorem acc_part_read (acc : BitVec 72) (lo n : Nat) : BitVec.ofNat n (acc.toNat / 2 ^ lo) = acc.extractLsb' lo n := by
  refine BitVec.eq_of_toNat_eq ?_
  rw [BitVec.toNat_ofNat, BitVec.extractLsb'_toNat, Nat.shiftRight_eq_div_pow]

theorem wral_does : Claims.wralDoes := fun _ _ _ h h0 hk h2 => congrArg Host.Outcome.next
  (State.accRun_write h h0 hk rfl (.inr h2) (.inl (by decide)) (congrArg (AccRes.mk · none _) (acc_low_written _ _)))

theorem wrah_does : Claims.wrahDoes := fun _ _ _ h h0 hk h2 => congrArg Host.Outcome.next
  (State.accRun_write h h0 hk rfl (.inr h2) (.inl (by decide)) (congrArg (AccRes.mk · none _) (acc_high_written _ _)))

theorem wrag_does : Claims.wragDoes := fun _ _ _ h h0 hk h2 => congrArg Host.Outcome.next
  (State.accRun_write h h0 hk rfl (.inr h2) (.inl (by decide)) (congrArg (AccRes.mk · none _) (acc_guard_written _ _)))

/-- An accumulator rounded and saturated to n bits, with Z, N and Q, by its exact value. -/
theorem saturated_read {acc : BitVec 72} {f : Flags} {n : Nat} {y x : Int} (h : y = x) :
    (⟨acc, some (wordI (satS n y).1), { f.zn (wordI (satS n y).1) with q := f.q || (satS n y).2 }⟩ : AccRes)
      = ⟨acc, some (asWord (sat n x)),
        ⟨asWord (sat n x) == 0#32, (asWord (sat n x)).msb, f.c, f.v, f.q || decide (sat n x ≠ x), f.d⟩⟩ := by
  rw [h, satS_eq, wordI_eq_asWord]
  rfl

theorem rda_does : Claims.rdaDoes := fun _ _ _ h h4 hk h2 => congrArg Host.Outcome.next
  (State.accRun_read h (decide_eq_false (Nat.not_lt.mpr h4)) hk rfl h2 (saturated_read (by rw [sgn_acc])))

theorem rda16_does : Claims.rda16Does := fun _ _ _ h h4 hk h2 => congrArg Host.Outcome.next
  (State.accRun_read h (decide_eq_false (Nat.not_lt.mpr h4)) hk rfl h2 (saturated_read (by rw [sgn_acc])))

theorem rdal_does : Claims.rdalDoes := fun _ _ s h h0 hk h2 => congrArg Host.Outcome.next
  (State.accRun_read h (by simp [h0]) hk rfl h2 (congrArg (fun w => AccRes.mk _ (some w) s.sv.flags)
    ((congrArg wordOf (Nat.div_one _).symm).trans (acc_part_read _ 0 32))))

theorem rdah_does : Claims.rdahDoes := fun _ _ s h h0 hk h2 => congrArg Host.Outcome.next
  (State.accRun_read h (by simp [h0]) hk rfl h2 (congrArg (fun w => AccRes.mk _ (some w) s.sv.flags) (acc_part_read _ 32 32)))

theorem rdag_does : Claims.rdagDoes := fun _ _ s h h0 hk h2 => congrArg Host.Outcome.next
  (State.accRun_read h (by simp [h0]) hk rfl h2 (congrArg (fun w => AccRes.mk _ (some w) s.sv.flags)
    (by rw [wordI_eq_asWord, sgn_eq_toInt, acc_part_read]; rfl)))

/-- Settles O23: parts written are the accumulator put together again; parts read are its fields, or its rounded value. -/
theorem accumulatorReads : Obligations.AccumulatorReads :=
  ⟨wral_does, wrah_does, wrag_does, rda_does, rda16_does, rdal_does, rdah_does, rdag_does⟩

/-! ### Instructions of major 0x2A (R318, R319) -/

/-- A decimal operation on valid digits that writes a register. -/
theorem State.decRun_put {s : State} {o : OpR} {fn : Nat} {r : Word} {f : Flags} (h : s.svReady o.cond) (h4 : fn ≠ 4)
    (hunary : decUnary fn = false ∨ o.rs2 = 0) (hvalid : decChecked fn (s.sv.gr o.rs1.toNat) (s.sv.gr o.rs2.toNat) = true)
    (hres : decRes fn s.sv.flags (s.sv.gr o.rs1.toNat) (s.sv.gr o.rs2.toNat) = (r, f)) :
    s.decRun o fn = s.svPut o.rd r (some f) := by
  unfold State.decRun
  refine State.svRun_go (sys := false) (u := (s.svBegin.putG o.rd.toNat r).putFlags f) h ?_ nofun ?_
  · rcases hunary with hu | hu <;> simp [h4, hu]
  · simp only [hvalid, Bool.not_true, Bool.false_eq_true, if_false, hres, h4]

/-- DADD to DSUBC judge both sources. -/
theorem decChecked_both {fn : Nat} {a b : Word} (hfn : fn ≤ 4) (ha : bcdValid a = true) (hb : bcdValid b = true) :
    decChecked fn a b = true := by
  rw [decChecked, if_pos hfn, ha, hb]
  rfl

theorem dadd_does : Claims.daddDoes := fun _ _ h ha hb => congrArg Host.Outcome.next
  (State.decRun_put h (by decide) (.inl rfl) (decChecked_both (by decide) ha hb) rfl)

theorem daddc_does : Claims.daddcDoes := fun _ _ h ha hb => congrArg Host.Outcome.next
  (State.decRun_put h (by decide) (.inl rfl) (decChecked_both (by decide) ha hb) rfl)

theorem dsub_does : Claims.dsubDoes := fun _ _ h ha hb => congrArg Host.Outcome.next
  (State.decRun_put h (by decide) (.inl rfl) (decChecked_both (by decide) ha hb) rfl)

theorem dsubc_does : Claims.dsubcDoes := fun _ _ h ha hb => congrArg Host.Outcome.next
  (State.decRun_put h (by decide) (.inl rfl) (decChecked_both (by decide) ha hb) rfl)

theorem dcmp_does : Claims.dcmpDoes := by
  intro o s a b f x y h ha hb hrd
  have hvalid : decChecked 4 a b = true := decChecked_both (by decide) ha hb
  refine congrArg Host.Outcome.next (State.svRun_go (sys := false) (u := s.svBegin.putFlags _) h ?_ nofun ?_)
  · simp [hrd, decUnary]
  · simp only [hvalid, a, b, Bool.not_true, Bool.false_eq_true, if_false, if_true]
    rfl

theorem dadj_does : Claims.dadjDoes := fun _ _ h => congrArg Host.Outcome.next
  (State.decRun_put h (by decide) (.inl rfl) rfl rfl)

theorem bcd2bin_does : Claims.bcd2binDoes := fun _ _ h ha h2 => congrArg Host.Outcome.next
  (State.decRun_put h (by decide) (.inr h2) ha rfl)

theorem bin2bcd_does : Claims.bin2bcdDoes := fun _ _ h h2 => congrArg Host.Outcome.next
  (State.decRun_put h (by decide) (.inr h2) rfl rfl)

/-- Settles O24: on digits that are valid every decimal operation runs to its result. -/
theorem decimalRules : Obligations.DecimalRules :=
  ⟨dadd_does, daddc_does, dsub_does, dsubc_does, dcmp_does, dadj_does, bcd2bin_does, bin2bcd_does⟩

end Sys2Proof.Machine
end

section
/-! PROOF. O27: control transfers. What a taken transfer, a push, a pop and a jump capability need is said once; ERET restores
what the bank in use saved, which the end of a load delay leaves alone. -/
namespace Sys2Proof.Machine

/-! ### Capabilities that carry an access (R368, R374) -/

theorem capCovers_of_le {c : Cap} {a n : Nat} (hn : 0 < n) (hlo : capBase c ≤ a) (hhi : a + n ≤ capBase c + capLength c) :
    capCovers c a n = true := by
  have hlen : capLength c ≠ 0 := by omega
  simp [capCovers, hlo, hhi, hlen]

theorem Cap.carries.capAccess_none {c : Cap} {ps : List Nat} {a n : Nat} (h : c.carries ps a n) (hn : 0 < n) (write : Bool) :
    capAccess c ps a n write = none := by
  obtain ⟨htag, hotype, hperms, halign, hlo, hhi⟩ := h
  have hall : ps.all (capHas c) = true := List.all_eq_true.mpr hperms
  simp [capAccess, htag, hotype, hall, halign, capCovers_of_le hn hlo hhi]

theorem Cap.jumps.jumpFault_none {x : Cap} (h : x.jumps) : jumpFault x = none := by
  obtain ⟨htag, hotype, hperms, halign, hlo, hhi⟩ := h
  have hex : capHas x 0 = true := hperms 0 (by simp)
  simp [jumpFault, jumpReason, htag, hotype, hex, halign, capCovers_of_le (by decide) hlo hhi]

theorem State.svGuard_none {s : State} {kind : AccessKind} {a n : Nat} (h : s.svOpen kind a n) : s.svGuard kind a n = none := by
  rcases h with h | h <;> simp [State.svGuard, h]

/-- A capability store that its authority, the guard and its target take. -/
theorem State.svStoreCap_done {s : State} {auth v : Cap} {a : Nat} (hauth : auth.carries (storePerms v) a 16)
    (hopen : s.svOpen .store a 16) (hwrite : (s.capWrite a v).1 = .none) (k : State → Exe) :
    s.svStoreCap auth a v k = k (s.capWrite a v).2 := by
  simp [State.svStoreCap, hauth.capAccess_none, State.svGuard_none hopen, hwrite]

/-- A capability load that its authority, the guard and its target take. -/
theorem State.svLoadCap_done {s : State} {auth : Cap} {a : Nat} (hauth : auth.carries [1] a 16) (hopen : s.svOpen .load a 16)
    (hread : (s.capRead a).1 = .none) (k : Cap → State → Exe) :
    s.svLoadCap auth a k = k ⟨(s.capRead a).2.1.tag && capHas auth 3, (s.capRead a).2.1.bits⟩ (s.capRead a).2.2 := by
  simp [State.svLoadCap, hauth.capAccess_none, State.svGuard_none hopen, hread]

/-! ### Addresses -/

theorem toNat_cursor (c : Cap) : (c.bits.extractLsb' 0 32).toNat = capCursor c := by
  rw [BitVec.extractLsb'_toNat, Nat.shiftRight_eq_div_pow, capCursor, bitsN]

theorem branchTarget_eq (c : SvCore) (o : OpJ) :
    branchTarget c o = (c.pcc.bits.extractLsb' 0 32 + o.off.signExtend 32 * 4#32).toNat := by
  have hsum : BitVec.ofInt 32 ((c.pc : Int) + 4 * o.off.toInt) = c.pcc.bits.extractLsb' 0 32 + o.off.signExtend 32 * 4#32 := by
    rw [BitVec.ofInt_add, BitVec.ofInt_mul, BitVec.ofInt_natCast, SvCore.pc, ← toNat_cursor, BitVec.ofNat_toNat,
      BitVec.setWidth_eq, BitVec.mul_comm]
    rfl
  rw [← hsum, BitVec.toNat_ofInt, branchTarget, sgn_eq_toInt, BitVec.ofNat_toNat, BitVec.setWidth_eq]
  rfl

/-- The granule below a stack pointer, modulo 2^32. -/
theorem slot_below (c : Cap) : (capCursor c + 2 ^ 32 - 16) % 2 ^ 32 = (c.bits.extractLsb' 0 32 - 16#32).toNat := by
  rw [BitVec.toNat_sub, toNat_cursor]
  congr 1
  simp only [BitVec.toNat_ofNat]
  omega

/-! ### Transfers (R323–R326, R330) -/

theorem State.svRun_jump {s : State} {cond : BitVec 4} (h : s.svStarts cond) {w : Word} {bad leaves : Bool}
    {body : SvCore → State → Exe} {p : Cap} {u : State} (hbad : bad = false) (hbody : body s.sv s.svBegin = .jump leaves p u) :
    s.svRun cond w bad false body = State.svJump u leaves p := by
  rw [State.svRun_body (sys := false) h hbad nofun, hbody]
  rfl

/-- The target of B and CALL, within pcc's bounds. -/
theorem branchTarget_covered {c : SvCore} {o : OpJ} {t : Nat}
    (ht : t = (c.pcc.bits.extractLsb' 0 32 + o.off.signExtend 32 * 4#32).toNat) (hlo : capBase c.pcc ≤ t)
    (hhi : t + 4 ≤ capBase c.pcc + capLength c.pcc) : branchTarget c o = t ∧ capCovers c.pcc t 4 = true :=
  ⟨(branchTarget_eq c o).trans ht.symm, capCovers_of_le (by decide) hlo hhi⟩

theorem b_does : Claims.bDoes := by
  intro o s t h hlo hhi
  obtain ⟨htarget, hcovers⟩ := branchTarget_covered rfl hlo hhi
  refine congrArg Host.Outcome.next (State.svRun_jump h rfl ?_)
  simp only [htarget]
  exact if_pos hcovers

/-- A push of the return capability, and the transfer after it. -/
theorem State.callRun_done {u : State} {c : SvCore} {slot : Nat} (hslot : slot = ((c.cr 15).bits.extractLsb' 0 32 - 16#32).toNat)
    (hauth : (c.cr 15).carries (storePerms (capSetCursor c.pcc (c.pc + 4))) slot 16) (hopen : u.svOpen .store slot 16)
    (hwrite : (u.capWrite slot (capSetCursor c.pcc (c.pc + 4))).1 = .none) (target : Cap) :
    u.callRun c none target = .jump false target
      ((u.capWrite slot (capSetCursor c.pcc (c.pc + 4))).2.putC 15 (capSetCursor (c.cr 15) slot)) := by
  rw [← slot_below] at hslot
  simp only [State.callRun, ← hslot, hauth.capAccess_none (by decide : 0 < 16), State.svStoreCap_done hauth hopen hwrite]

theorem call_does : Claims.callDoes := by
  intro o s t csp slot ret ps u h hlo hhi hauth hopen hwrite
  obtain ⟨htarget, hcovers⟩ := branchTarget_covered rfl hlo hhi
  refine congrArg Host.Outcome.next (State.svRun_jump h rfl ?_)
  simp only [htarget]
  exact (congrArg (s.svBegin.callRun s.sv · _) (if_pos hcovers)).trans (State.callRun_done rfl hauth hopen hwrite _)

theorem noCap_of_lt {r : BitVec 5} (h : r.toNat < 16) : noCap r = false := decide_eq_false (Nat.not_le.mpr h)

theorem jr_does : Claims.jrDoes := by
  intro o s x h hx hrd h2 hjump
  refine congrArg Host.Outcome.next (State.svRun_jump h (by simp [noCap_of_lt hx, hrd, h2]) ?_)
  simp only [hjump.jumpFault_none, x]

theorem callr_does : Claims.callrDoes := by
  intro o s x csp slot ret ps u h hx hrd h2 hjump hauth hopen hwrite
  refine congrArg Host.Outcome.next (State.svRun_jump h (by simp [noCap_of_lt hx, hrd, h2]) ?_)
  exact (congrArg (s.svBegin.callRun s.sv · _) hjump.jumpFault_none).trans (State.callRun_done rfl hauth hopen hwrite _)

theorem anyField_of_zero {o : OpR} (hrd : o.rd = 0) (h1 : o.rs1 = 0) (h2 : o.rs2 = 0) : anyField o = false := by
  simp [anyField, hrd, h1, h2]

theorem ret_does : Claims.retDoes := by
  intro o s
  dsimp only
  intro h hrd h1 h2 hauth hopen hread hjump
  refine congrArg Host.Outcome.next (State.svRun_jump h (anyField_of_zero hrd h1 h2) ?_)
  refine (State.svLoadCap_done hauth hopen hread _).trans ?_
  simp only [hjump.jumpFault_none]

/-! ### ERET (R391, R392) -/

/-- A bank written in its registers keeps what its entry saved. -/
theorem SvCore.saved_setBank (c : SvCore) {b : SvBank} (hepcc : b.epcc = c.bank.epcc) (hestat : b.estat = c.bank.estat) :
    (c.setBank b).bank.epcc = c.bank.epcc ∧ (c.setBank b).bank.estat = c.bank.estat := by
  have hbank : (c.setBank b).bank = b ∨ (c.setBank b).bank = c.bank := by
    cases hb : c.breach with
    | true => exact .inl (by simp [SvCore.setBank, SvCore.bank, hb])
    | false =>
      rcases Nat.lt_or_ge (c.depth % 4) c.banks.length with hk | hk
      · exact .inl (by simp [SvCore.setBank, SvCore.bank, hb, List.getD_eq_getElem?_getD, listSet_getElem? _ hk])
      · exact .inr (by simp [SvCore.setBank, SvCore.bank, hb, listSet_eq_set, List.set_eq_of_length_le hk])
  rcases hbank with h | h <;> rw [h]
  · exact ⟨hepcc, hestat⟩
  · exact ⟨rfl, rfl⟩

theorem State.svBegin_saved (s : State) :
    s.svBegin.sv.bank.epcc = s.sv.bank.epcc ∧ s.svBegin.sv.bank.estat = s.sv.bank.estat := by
  show s.sv.commitLoad.bank.epcc = _ ∧ s.sv.commitLoad.bank.estat = _
  unfold SvCore.commitLoad
  split
  case h_1 => exact ⟨rfl, rfl⟩
  case h_2 r v _ =>
    show (s.sv.setG r v).bank.epcc = _ ∧ (s.sv.setG r v).bank.estat = _
    unfold SvCore.setG
    split
    · exact ⟨rfl, rfl⟩
    · exact s.sv.saved_setBank rfl rfl
  case h_3 r v _ =>
    show (s.sv.setC r v).bank.epcc = _ ∧ (s.sv.setC r v).bank.estat = _
    unfold SvCore.setC
    split
    · exact ⟨rfl, rfl⟩
    · exact s.sv.saved_setBank rfl rfl

/-- What R391 asks of EPCC before ERET. -/
structure Returns (depth : Nat) (e : Cap) : Prop where
  depth : 1 ≤ depth
  tag : e.tag = true
  otype : capOtype e = 0 ∨ capOtype e = 255
  ex : capHas e 0 = true
  align : capCursor e % 4 = 0
  lo : capBase e ≤ capCursor e
  hi : capCursor e + 4 ≤ capBase e + capLength e

theorem SvCore.returnFault_none {c : SvCore} (h : Returns c.depth c.bank.epcc) : c.returnFault = none := by
  have hdepth : c.depth ≠ 0 := Nat.one_le_iff_ne_zero.mp h.depth
  have hsealed : (decide (capOtype c.bank.epcc ≠ 0) && decide (capOtype c.bank.epcc ≠ 255)) = false := by
    rcases h.otype with ho | ho <;> simp [ho]
  simp only [SvCore.returnFault, hdepth, h.tag, hsealed, h.ex, h.align, capCovers_of_le (by decide : 0 < 4) h.lo h.hi,
    decide_false, Bool.not_true, Bool.or_false, Bool.false_eq_true, if_false, ne_eq, not_true_eq_false]

theorem State.svRun_back {s : State} {cond : BitVec 4} (h : s.svStarts cond) {w : Word} {bad sys : Bool}
    {body : SvCore → State → Exe} {t : State} (hbad : bad = false) (hsys : sys = true → capHas s.sv.pcc 5 = true)
    (hbody : body s.sv s.svBegin = .back t) : s.svRun cond w bad sys body = t.svDone := by
  rw [State.svRun_body h hbad hsys, hbody]
  rfl

theorem eret_does : Claims.eretDoes := by
  intro o s e u h hrd h1 h2 hsys hdepth htag hotype hex halign hlo hhi
  have hzero := anyField_of_zero hrd h1 h2
  obtain ⟨hepcc, hestat⟩ := s.svBegin_saved
  have hreturn : s.svBegin.sv.returnFault = none := by
    refine SvCore.returnFault_none ?_
    rw [s.svBegin_depth, hepcc]
    exact ⟨hdepth, htag, hotype, hex, halign, hlo, hhi⟩
  refine ⟨fun hb => ?_, fun hb hd => ?_, fun hb hd hfill => ?_⟩
  · refine congrArg Host.Outcome.next (State.svRun_back h hzero (fun _ => hsys) ?_)
    simp only [hreturn, hepcc, hestat, hb, if_true]
    rfl
  · refine congrArg Host.Outcome.next (State.svRun_back h hzero (fun _ => hsys) ?_)
    simp only [hreturn, hepcc, hestat, hb, Bool.false_eq_true, if_false, hd, if_true]
    rfl
  · have hdeep : ¬ s.sv.depth < 4 := Nat.not_lt.mpr hd
    have hfull : s.svBegin.refillFault (s.sv.cr 15) = none := hfill
    refine congrArg Host.Outcome.next (State.svRun_back h hzero (fun _ => hsys) ?_)
    simp only [hreturn, hepcc, hestat, hb, Bool.false_eq_true, if_false, hdeep, hfull]
    rfl

/-! ### CTXSW, FENCE and WFI (R326, R401) -/

theorem ctxsw_does : Claims.ctxswDoes := by
  intro o s c x h hrd h1 h2 hsys
  have hddc : c.nddc = s.sv.nddc := (congrArg SvCore.nddc s.svBegin_sv :)
  have hcsp : c.ncsp = s.sv.ncsp := (congrArg SvCore.ncsp s.svBegin_sv :)
  refine congrArg Host.Outcome.next (State.svRun_go h (anyField_of_zero hrd h1 h2) (fun _ => hsys) ?_)
  simp only [x, hddc, hcsp]
  rfl

theorem fence_does : Claims.fenceDoes := fun _ _ h hrd h1 h2 =>
  congrArg Host.Outcome.next (State.svRun_go (sys := false) h (anyField_of_zero hrd h1 h2) nofun rfl)

theorem State.irqBest_setSv (s : State) (c : SvCore) (above : Nat) : (s.setSv c).irqBest above = s.irqBest above := rfl

theorem wfi_does : Claims.wfiDoes := by
  intro o s h hrd h1 h2 hsys
  refine congrArg Host.Outcome.next (State.svRun_go h (anyField_of_zero hrd h1 h2) (fun _ => hsys) ?_)
  simp only [State.svBegin, State.irqBest_setSv]

/-! ### TRAP (R381, R386, R387) -/

/-- A TRAP of a level above ML whose entry through its gate succeeds. -/
theorem State.svTrap_enters {s : State} {n level : Nat} {gate pcc : Cap} (hb : s.sv.breach = false)
    (hlevel : s.sv.level 9 = level) (hpcc : s.sv.pcc = pcc) (hl : s.sv.ml < level)
    (he : (s.svEnter (capSetOtype gate 0) level (capSetCursor pcc (capCursor pcc + 4)) pcc).1 = true) :
    s.svTrap n gate = (s.svEnter (capSetOtype gate 0) level (capSetCursor pcc (capCursor pcc + 4)) pcc).2.svCause 9 level true
      false .none n 0 0 := by
  have hnot : ¬ level ≤ s.sv.ml := Nat.not_le.mpr hl
  simp only [State.svTrap, SvCore.pc, hlevel, hpcc, hb, Bool.false_eq_true, if_false, hnot]
  split
  case h_1 heq => rw [heq]
  case h_2 heq => simp [heq] at he

theorem trap_does : Claims.trapDoes := by
  intro cond n s u gate level entry h ha hgate hb hl he
  have hbase : s.svBegin.sv.gateBase = s.sv.gateBase := (congrArg SvCore.gateBase s.svBegin_sv :)
  have hpasses : s.svBegin.gateCheck n.toNat = none := hgate
  have hnone : ¬ s.svBegin.sv.arith.isSome = true := by simp [ha]
  refine congrArg Host.Outcome.next ((State.svRun_body (sys := false) h rfl nofun).trans ?_)
  simp only [hpasses, hbase]
  exact (if_neg hnone).trans (State.svTrap_enters (s.svBegin_breach.trans hb) (s.svBegin_level 9) s.svBegin_pcc
    (s.svBegin_ml.symm ▸ hl) he)

/-! ### LOOP (R327, R332) -/

/-- A LOOP that meets none of the cases of R332. -/
theorem SvCore.loopFault_none {c : SvCore} {k n : Nat} (hend : c.atEnd c.pc = none) (hn : 1 ≤ n)
    (hfree : ∀ j, j < 3 → k ≤ j → c.la j = false)
    (hnest : k = 0 ∨ (c.la (k - 1) = true ∧ c.pc + 4 * n < (c.loop (k - 1)).e.toNat))
    (hlo : capBase c.pcc ≤ c.pc + 4 * n) (hhi : c.pc + 4 * n + 4 ≤ capBase c.pcc + capLength c.pcc) :
    c.loopFault k n = none := by
  have hbody : n ≠ 0 := Nat.one_le_iff_ne_zero.mp hn
  have hany : ((List.range 3).any fun j => decide (k ≤ j) && c.la j) = false := by
    refine List.any_eq_false.mpr fun j hj => ?_
    by_cases hk : k ≤ j
    · simp [hfree j (List.mem_range.mp hj) hk]
    · simp [hk]
  have hcovers : capCovers c.pcc (c.pc + 4 * n) 4 = true := capCovers_of_le (by decide) hlo hhi
  have hinner : (decide (0 < k) && !c.la (k - 1)) = false ∧
      (decide (0 < k) && decide ((c.loop (k - 1)).e.toNat ≤ c.pc + 4 * n)) = false := by
    rcases hnest with h0 | ⟨hla, hle⟩
    · simp [h0]
    · simp [hla, hle]
  simp only [SvCore.loopFault, hend, hbody, hany, hinner.1, hinner.2, hcovers, decide_false, Bool.not_true, Bool.or_false,
    Bool.false_eq_true, if_false]

theorem loop_does : Claims.loopDoes := by
  intro o s k le cnt c h hk hend hn hfree hnest hlo hhi
  have hbad : decide (3 ≤ o.rd.toNat) = false := decide_eq_false (Nat.not_le.mpr hk)
  have hnone : s.sv.loopFault o.rd.toNat o.imm.toNat = none := SvCore.loopFault_none hend hn hfree hnest hlo hhi
  refine ⟨fun hcnt => ?_, fun hcnt => ?_⟩
  · have hready : s.svReady o.cond := by
      obtain ⟨hi, ha, hf, hc, hholds⟩ := h
      have hnotend : s.svBegin.sv.atEnd s.svBegin.sv.pc = none := by
        rw [s.svBegin_atEnd, SvCore.pc, s.svBegin_pcc]
        exact hend
      exact ⟨hi, ha, hf, hc, hholds, by rw [hnotend]; rfl⟩
    refine congrArg Host.Outcome.next (State.svRun_go (sys := false) hready hbad nofun ?_)
    simp only [hnone]
    exact if_neg hcnt
  · refine congrArg Host.Outcome.next (State.svRun_jump h hbad ?_)
    simp only [hnone]
    exact if_pos hcnt

/-- Settles O27: a transfer replaces pcc by a capability that passed its checks; ERET and TRAP take the cases of R391 and R387. -/
theorem controlTransfers : Obligations.ControlTransfers :=
  ⟨b_does, call_does, jr_does, callr_does, ret_does, eret_does, ctxsw_does, fence_does, wfi_does, trap_does, loop_does⟩

end Sys2Proof.Machine
end

section
/-! PROOF. O48 fails for a premise that BUNDLES_READ lacks. It says that a served read answers the count of bundles executed,
without asking that the engine's page runs. A page whose request for the Spring clock the module has still to follow reads
STARTING (R471), and its registers then read 0 (R48). -/
namespace Sys2Proof.Machine

/-- The page of engine 0 requests the Spring clock while the module still changes to it; the engine has executed five bundles. -/
def engineRising : State :=
  { State.reset with
    regs := [(Page.base (.swell 0) + 0x0C, 9), (Page.base (.swell 0) + 0x54, 5)]
    power := .changing true
    domains := [(20, .on)] }

/-- The page of engine 0 is STARTING: the fabric serves a read of its BUNDLES_LO, which holds 5, and answers 0. -/
theorem engineRising_bundles_zero :
    engineRising.pstate (.swell 0) = 1
      ∧ engineRising.serves (readOf .headland (.swell 0) 0x54 false)
      ∧ (engineRising.reg (.swell 0) 0x54).toNat = 5
      ∧ (engineRising.pageRd .headland (.swell 0) 0x54 false).lastResp .headland = ⟨.none, 0⟩ := by
  decide +kernel

/-- Refutes O48: BUNDLES_READ on a page that is still STARTING answers 0, and not the five bundles executed (R48, R471). -/
theorem not_swellEngines : ¬ Obligations.SwellEngines := by
  rintro ⟨-, -, -, -, -, -, -, -, -, -, hread, -⟩
  obtain ⟨-, hserves, hstands, hzero⟩ := engineRising_bundles_zero
  obtain ⟨t, ht, ⟨hanswer, -⟩, -⟩ := hread .headland 0 false engineRising hserves
  obtain rfl : engineRising.pageRd .headland (.swell 0) 0x54 false = t := Host.Outcome.next.inj ht
  rw [hzero, if_neg Bool.false_ne_true, hstands] at hanswer
  cases hanswer

end Sys2Proof.Machine
end

section
/-! PROOF. O49 fails for a premise that RET lacks. It says that PC takes the top of the return stack whatever the stack holds, but
PC is a field of 14 bits (R365), and nothing in the claim says that the entries are program addresses. CALL pushes only such
addresses (R351), so no run reaches the state below; the claim speaks of every state. -/
namespace Sys2Proof.Machine

/-- RET, alone in its bundle (R346, R351). -/
def retBundle : Word := 0xC0100000

/-- Engine 0 runs at 0, where RET lies; its return stack holds 2^14, which is no address of program memory. -/
def farReturn : State :=
  { State.reset with
    mem := [(swProg 0 + 2, 0x10), (swProg 0 + 3, 0xC0)]
    regs := [(Page.base (.swell 0) + 0x0C, 1), (Page.base (.swell 0) + 0x48, 1)]
    swell := [(0, { swellFresh with stack := [2 ^ 14] })]
    domains := [(20, .on)] }

/-- The bundle of RET is due on engine 0, which nothing holds up: it is not in a STEP, owes no halt and is in no pair. -/
theorem farReturn_issues :
    farReturn.swIssues 0 = true
      ∧ (farReturn.sw 0).haltOwed = false
      ∧ (farReturn.sw 0).step = false
      ∧ farReturn.swPaired 0 = false
      ∧ farReturn.bundleAt 0 = ⟨0, 0, [retBundle]⟩ := by
  decide +kernel

/-- RET acts, meets no fault and does not wait. -/
theorem farReturn_acts :
    farReturn.bundleFaults (farReturn.sw 0) 0 (farReturn.swPc 0) [retBundle] = []
      ∧ farReturn.swStalls (farReturn.sw 0) [retBundle] = false
      ∧ (farReturn.sw 0).pr (sylPred retBundle) = true
      ∧ sylSlot retBundle = 4
      ∧ sylOp retBundle = 2 := by
  decide +kernel

/-- PC takes the low 14 bits of the stack's top. -/
theorem farReturn_pc :
    (farReturn.sw 0).stack.head? = some (2 ^ 14) ∧ (farReturn.bundle 0 false).swPc 0 = 0 := by
  decide +kernel

/-- Refutes O49: RET to an entry of 2^14 leaves PC at 0. -/
theorem not_swellBundles : ¬ Obligations.SwellBundles := by
  rintro ⟨-, -, hcontrol, -⟩
  obtain ⟨hissues, howed, hstep, hpair, hbundle⟩ := farReturn_issues
  obtain ⟨hfaults, hstalls, hacts, hslot, hop⟩ := farReturn_acts
  obtain ⟨hhead, hpc⟩ := farReturn_pc
  obtain ⟨-, -, hret, -⟩ :=
    hcontrol 0 false retBundle farReturn (Nat.succ_pos 15) hissues howed hstep hpair hbundle hfaults hstalls
  obtain ⟨t, ht, htop, -⟩ := hret hacts hslot hop
  obtain rfl : farReturn.bundle 0 false = t := Host.Outcome.next.inj ht
  rw [hpc, hhead] at htop
  cases htop

end Sys2Proof.Machine
end

section
/-! SUPPORT. Capabilities field by field (R367): what replacing one field leaves of the 128 bits and of every other field. -/
namespace Sys2Proof.Machine

theorem capHas_eq (c : Cap) (k : Nat) : capHas c k = c.bits.getLsbD (96 + k) := by
  rw [capHas, bitsN, ← BitVec.testBit_toNat, Nat.testBit_eq_decide_div_mod_eq, Nat.pow_one]

theorem capHas_eq_testBit (c : Cap) {k : Nat} (hk : k < 16) : capHas c k = (capPerms c).testBit k := by
  rw [capHas_eq, capPerms, bitsN, Nat.testBit_mod_two_pow, Nat.testBit_div_two_pow, BitVec.testBit_toNat, Nat.add_comm]
  simp [hk]

theorem Cap.eq_of_parts {c : Cap} {tag : Bool} {bits : BitVec 128} (ht : c.tag = tag) (hb : c.bits = bits) :
    c = ⟨tag, bits⟩ := by
  rw [← ht, ← hb]

theorem Cap.tag_mk (tag : Bool) (bits : BitVec 128) : (Cap.mk tag bits).tag = tag := rfl

/-! Stated through `Cap.tag_mk`: a bare `rfl` has the kernel compare the two capabilities' bits first. -/

@[simp] theorem tag_capSetCursor (c : Cap) (x : Nat) : (capSetCursor c x).tag = c.tag :=
  (congrArg Cap.tag (capSetCursor.eq_1 c x)).trans (Cap.tag_mk _ _)
@[simp] theorem tag_capSetBounds (c : Cap) (base length : Nat) : (capSetBounds c base length).tag = c.tag :=
  (congrArg Cap.tag (capSetBounds.eq_1 c base length)).trans (Cap.tag_mk _ _)
@[simp] theorem tag_capSetPerms (c : Cap) (p : Nat) : (capSetPerms c p).tag = c.tag :=
  (congrArg Cap.tag (capSetPerms.eq_1 c p)).trans (Cap.tag_mk _ _)
@[simp] theorem tag_capSetOtype (c : Cap) (t : Nat) : (capSetOtype c t).tag = c.tag :=
  (congrArg Cap.tag (capSetOtype.eq_1 c t)).trans (Cap.tag_mk _ _)

/-! ### The 128 bits -/

theorem toNat_extractLsb' {w : Nat} (b : BitVec w) (lo n : Nat) : (b.extractLsb' lo n).toNat = bitsN b.toNat lo n := by
  rw [BitVec.extractLsb'_toNat, Nat.shiftRight_eq_div_pow, bitsN]

theorem capSetCursor_bits (c : Cap) (x : Nat) :
    (capSetCursor c x).bits = c.bits.extractLsb' 32 96 ++ BitVec.ofNat 32 x := by
  refine BitVec.eq_of_toNat_eq ?_
  have hc := c.bits.isLt
  simp only [capSetCursor, toNat_append_add, toNat_extractLsb', bitsN, BitVec.toNat_ofNat]
  omega

theorem capSetBounds_bits (c : Cap) (base length : Nat) :
    (capSetBounds c base length).bits
      = c.bits.extractLsb' 96 32 ++ BitVec.ofNat 32 length ++ BitVec.ofNat 32 base ++ c.bits.extractLsb' 0 32 := by
  refine BitVec.eq_of_toNat_eq ?_
  have hc := c.bits.isLt
  simp only [capSetBounds, toNat_append_add, toNat_extractLsb', bitsN, BitVec.toNat_ofNat]
  omega

theorem capSetPerms_bits (c : Cap) (p : Nat) :
    (capSetPerms c p).bits = c.bits.extractLsb' 112 16 ++ BitVec.ofNat 16 p ++ c.bits.extractLsb' 0 96 := by
  refine BitVec.eq_of_toNat_eq ?_
  have hc := c.bits.isLt
  simp only [capSetPerms, toNat_append_add, toNat_extractLsb', bitsN, BitVec.toNat_ofNat]
  omega

theorem capSetOtype_bits (c : Cap) (t : Nat) :
    (capSetOtype c t).bits = c.bits.extractLsb' 120 8 ++ BitVec.ofNat 8 t ++ c.bits.extractLsb' 0 112 := by
  refine BitVec.eq_of_toNat_eq ?_
  have hc := c.bits.isLt
  simp only [capSetOtype, toNat_append_add, toNat_extractLsb', bitsN, BitVec.toNat_ofNat]
  omega

/-- A capability with its object type and its permissions replaced. -/
theorem capSetPerms_capSetOtype_bits (c : Cap) (t p : Nat) :
    (capSetPerms (capSetOtype c t) p).bits
      = c.bits.extractLsb' 120 8 ++ BitVec.ofNat 8 t ++ BitVec.ofNat 16 p ++ c.bits.extractLsb' 0 96 := by
  have hhigh : (capSetOtype c t).bits.extractLsb' 112 16 = c.bits.extractLsb' 120 8 ++ BitVec.ofNat 8 t := by
    refine BitVec.eq_of_toNat_eq ?_
    simp only [capSetOtype, toNat_append_add, toNat_extractLsb', bitsN, BitVec.toNat_ofNat]
    omega
  have hlow : (capSetOtype c t).bits.extractLsb' 0 96 = c.bits.extractLsb' 0 96 := by
    refine BitVec.eq_of_toNat_eq ?_
    simp only [capSetOtype, toNat_extractLsb', bitsN, BitVec.toNat_ofNat]
    omega
  rw [capSetPerms_bits, hhigh, hlow]

/-! ### The fields -/

theorem capCursor_lt (c : Cap) : capCursor c < 2 ^ 32 := Nat.mod_lt _ (by decide)
theorem capPerms_lt (c : Cap) : capPerms c < 2 ^ 16 := Nat.mod_lt _ (by decide)

@[simp] theorem capBase_capSetCursor (c : Cap) (x : Nat) : capBase (capSetCursor c x) = capBase c := by
  simp only [capBase, capSetCursor, bitsN, BitVec.toNat_ofNat]
  omega
@[simp] theorem capLength_capSetCursor (c : Cap) (x : Nat) : capLength (capSetCursor c x) = capLength c := by
  simp only [capLength, capSetCursor, bitsN, BitVec.toNat_ofNat]
  omega
@[simp] theorem capPerms_capSetCursor (c : Cap) (x : Nat) : capPerms (capSetCursor c x) = capPerms c := by
  simp only [capPerms, capSetCursor, bitsN, BitVec.toNat_ofNat]
  omega

@[simp] theorem capBase_capSetBounds (c : Cap) (base length : Nat) : capBase (capSetBounds c base length) = base % 2 ^ 32 := by
  simp only [capBase, capSetBounds, bitsN, BitVec.toNat_ofNat]
  omega
@[simp] theorem capLength_capSetBounds (c : Cap) (base length : Nat) :
    capLength (capSetBounds c base length) = length % 2 ^ 32 := by
  simp only [capLength, capSetBounds, bitsN, BitVec.toNat_ofNat]
  omega
@[simp] theorem capPerms_capSetBounds (c : Cap) (base length : Nat) : capPerms (capSetBounds c base length) = capPerms c := by
  simp only [capPerms, capSetBounds, bitsN, BitVec.toNat_ofNat]
  omega

@[simp] theorem capBase_capSetPerms (c : Cap) (p : Nat) : capBase (capSetPerms c p) = capBase c := by
  simp only [capBase, capSetPerms, bitsN, BitVec.toNat_ofNat]
  omega
@[simp] theorem capLength_capSetPerms (c : Cap) (p : Nat) : capLength (capSetPerms c p) = capLength c := by
  simp only [capLength, capSetPerms, bitsN, BitVec.toNat_ofNat]
  omega
@[simp] theorem capPerms_capSetPerms (c : Cap) (p : Nat) : capPerms (capSetPerms c p) = p % 2 ^ 16 := by
  simp only [capPerms, capSetPerms, bitsN, BitVec.toNat_ofNat]
  omega

@[simp] theorem capBase_capSetOtype (c : Cap) (t : Nat) : capBase (capSetOtype c t) = capBase c := by
  simp only [capBase, capSetOtype, bitsN, BitVec.toNat_ofNat]
  omega
@[simp] theorem capLength_capSetOtype (c : Cap) (t : Nat) : capLength (capSetOtype c t) = capLength c := by
  simp only [capLength, capSetOtype, bitsN, BitVec.toNat_ofNat]
  omega
@[simp] theorem capPerms_capSetOtype (c : Cap) (t : Nat) : capPerms (capSetOtype c t) = capPerms c := by
  simp only [capPerms, capSetOtype, bitsN, BitVec.toNat_ofNat]
  omega

/-- Unsealing an unsealed capability changes nothing. -/
theorem capSetOtype_zero {c : Cap} (h : capOtype c = 0) : capSetOtype c 0 = c := by
  have hc := c.bits.isLt
  have hbits : (capSetOtype c 0).bits = c.bits := by
    refine BitVec.eq_of_toNat_eq ?_
    simp only [capOtype, bitsN] at h
    simp only [capSetOtype, BitVec.toNat_ofNat]
    omega
  exact congrArg (Cap.mk c.tag) hbits

end Sys2Proof.Machine
end

section
/-! PROOF. O26: the capability operations. What a run that completes leaves is said once for a result in a general register and
once for one in a capability register; each claim then gives the operation's result bit by bit. -/
namespace Sys2Proof.Machine

/-! ### Runs that complete (R371) -/

section
variable {s : State} {o : OpR} {fn : Nat} {bad : Bool} {body : SvCore → State → Exe}

theorem State.capRun_putG {r : Word} (h : s.svReady o.cond) (hbad : bad = false)
    (hbody : body s.sv s.svBegin = .go (s.svBegin.putG o.rd.toNat r)) : s.capRun o fn bad body = s.svPut o.rd r none :=
  State.svRun_go (sys := false) h hbad nofun hbody

theorem State.capRun_putC {y : Cap} (h : s.svReady o.cond) (hbad : bad = false)
    (hbody : body s.sv s.svBegin = .go (s.svBegin.putC o.rd.toNat y)) :
    s.capRun o fn bad body = s.svSet (s.svBegin.sv.setC o.rd.toNat y) :=
  State.svRun_go (sys := false) h hbad nofun hbody

/-- A derivation from a source that is not sealed while tagged, and that the operation's own check lets pass. -/
theorem State.capDerive_putC {fault : Cap → Word → Bool} {op : Cap → Word → Cap} {bits : BitVec 128}
    (h : s.svReady o.cond) (hrd : o.rd.toNat < 16) (h1 : o.rs1.toNat < 16)
    (hopen : ¬ ((s.sv.cr o.rs1.toNat).tag = true ∧ capOtype (s.sv.cr o.rs1.toNat) ≠ 0))
    (hpass : (s.sv.cr o.rs1.toNat).tag = true → fault (s.sv.cr o.rs1.toNat) (s.sv.gr o.rs2.toNat) = false)
    (htag : (op (s.sv.cr o.rs1.toNat) (s.sv.gr o.rs2.toNat)).tag = (s.sv.cr o.rs1.toNat).tag)
    (hbits : (op (s.sv.cr o.rs1.toNat) (s.sv.gr o.rs2.toNat)).bits = bits) :
    s.capDerive o fn fault op = s.svSet (s.svBegin.sv.setC o.rd.toNat ⟨(s.sv.cr o.rs1.toNat).tag, bits⟩) := by
  have hnofault : ¬ ((s.sv.cr o.rs1.toNat).tag && fault (s.sv.cr o.rs1.toNat) (s.sv.gr o.rs2.toNat)) = true := by
    simpa using hpass
  refine State.capRun_putC h (by simp [noCap_of_lt hrd, noCap_of_lt h1]) ?_
  dsimp only
  rw [if_neg (by simpa using hopen), if_neg hnofault, Cap.eq_of_parts htag hbits]

end

/-! ### Words and permissions -/

theorem wordOf_toNat (w : Word) : wordOf w.toNat = w := by rw [wordOf, BitVec.ofNat_toNat, BitVec.setWidth_eq]

theorem wordOf_capCursor (c : Cap) : wordOf (capCursor c) = c.bits.extractLsb' 0 32 := by
  rw [← toNat_cursor, wordOf_toNat]

/-- A field of a capability as a word. -/
theorem wordOf_bitsN (c : Cap) (lo n : Nat) :
    wordOf (bitsN c.bits.toNat lo n) = (c.bits.extractLsb' lo n).setWidth 32 := by
  refine BitVec.eq_of_toNat_eq ?_
  rw [wordOf, BitVec.toNat_ofNat, BitVec.toNat_setWidth, toNat_extractLsb']

theorem toNat_perms (c : Cap) : (c.bits.extractLsb' 96 16).toNat = capPerms c := toNat_extractLsb' _ _ _

theorem ofNat_capPerms (c : Cap) : BitVec.ofNat 16 (capPerms c) = c.bits.extractLsb' 96 16 := by
  rw [← toNat_perms, BitVec.ofNat_toNat, BitVec.setWidth_eq]

/-! ### Fields and distances -/

theorem capq_does : Claims.capqDoes := by
  intro o s x sel f h h1 hsel
  have hfield : wordOf (capField x sel) = f := by
    have hcases : sel = 0 ∨ sel = 1 ∨ sel = 2 ∨ sel = 3 ∨ sel = 4 ∨ sel = 5 := by
      have : sel < 6 := hsel
      omega
    rcases hcases with hs | hs | hs | hs | hs | hs <;> simp only [f, hs]
    · exact wordOf_bitsN x 32 32
    · exact wordOf_bitsN x 64 32
    · exact wordOf_bitsN x 96 16
    · exact wordOf_bitsN x 112 8
    · cases hx : x.tag <;> simp [capField, hx, wordOf]
    · exact wordOf_capCursor x
  refine congrArg Host.Outcome.next (State.capRun_putG h (by simp [noCap_of_lt h1, Nat.lt_of_lt_of_le hsel]) ?_)
  rw [← hfield]

theorem capdist_does : Claims.capdistDoes := by
  intro o s x y h h1 h2
  refine congrArg Host.Outcome.next (State.capRun_putG h (by simp [noCap_of_lt h1, noCap_of_lt h2]) ?_)
  rw [wordOf_capCursor, wordOf_capCursor]

/-! ### Derivations -/

theorem capptr_does : Claims.capptrDoes := by
  intro o s x v h hrd h1 hopen
  refine congrArg Host.Outcome.next (State.capDerive_putC h hrd h1 hopen (fun _ => rfl) (tag_capSetCursor x _) ?_)
  exact (capSetCursor_bits x _).trans (congrArg (x.bits.extractLsb' 32 96 ++ ·) (wordOf_toNat v))

theorem capadv_does : Claims.capadvDoes := by
  intro o s x v h hrd h1 hopen
  have hsum : BitVec.ofNat 32 (capCursor x + v.toNat) = x.bits.extractLsb' 0 32 + v := by
    rw [BitVec.ofNat_add]
    exact congrArg₂ (· + ·) (wordOf_capCursor x) (wordOf_toNat v)
  refine congrArg Host.Outcome.next (State.capDerive_putC h hrd h1 hopen (fun _ => rfl) (tag_capSetCursor x _) ?_)
  exact (capSetCursor_bits x _).trans (congrArg (x.bits.extractLsb' 32 96 ++ ·) hsum)

theorem capnarrow_does : Claims.capnarrowDoes := by
  intro o s x v h hrd h1 hopen hin
  refine congrArg Host.Outcome.next (State.capDerive_putC h hrd h1 hopen (fun ht => ?_) (tag_capSetBounds x _ _) ?_)
  · obtain ⟨hlo, hhi⟩ := hin ht
    simp [Nat.not_lt.mpr hlo, Nat.not_lt.mpr hhi, x, v]
  · refine (capSetBounds_bits x _ _).trans ?_
    rw [show BitVec.ofNat 32 (capCursor x) = _ from wordOf_capCursor x]
    exact congrArg (x.bits.extractLsb' 96 32 ++ · ++ _ ++ _) (wordOf_toNat v)

theorem capmask_does : Claims.capmaskDoes := by
  intro o s x v h hrd h1 hopen
  have hmask : BitVec.ofNat 16 (capPerms x &&& fld v 0 11) = x.bits.extractLsb' 96 16 &&& (v.extractLsb' 0 11).setWidth 16 := by
    refine BitVec.eq_of_toNat_eq ?_
    rw [BitVec.toNat_ofNat, BitVec.toNat_and, toNat_perms, BitVec.toNat_setWidth, BitVec.extractLsb'_toNat, fld_zero,
      Nat.shiftRight_zero, Nat.and_mod_two_pow, Nat.mod_eq_of_lt (capPerms_lt x)]
  refine congrArg Host.Outcome.next (State.capDerive_putC h hrd h1 hopen (fun _ => rfl) (tag_capSetPerms x _) ?_)
  exact (capSetPerms_bits x _).trans (congrArg (x.bits.extractLsb' 112 16 ++ · ++ x.bits.extractLsb' 0 96) hmask)

theorem capmov_does : Claims.capmovDoes := fun _ _ h hrd h1 h2 =>
  congrArg Host.Outcome.next (State.capRun_putC h (by simp [noCap_of_lt hrd, noCap_of_lt h1, h2]) rfl)

theorem capdrop_does : Claims.capdropDoes := fun _ _ h hrd h1 h2 =>
  congrArg Host.Outcome.next (State.capRun_putC h (by simp [noCap_of_lt hrd, noCap_of_lt h1, h2]) rfl)

/-! ### Sealing (R372) -/

/-- An authority that may seal, or unseal, the object type at its cursor. -/
theorem Cap.carries.sealReason_none {y : Cap} {perm : Nat} (h : y.carries [perm] (capCursor y) 1)
    (hgate : capCursor y = 255 → capHas y 8 = true) : sealReason y perm = none := by
  obtain ⟨htag, hotype, hperms, -, -, -⟩ := h
  have hperm : capHas y perm = true := hperms perm (by simp)
  simpa [sealReason, htag, hotype, hperm] using hgate

theorem Cap.carries.sealOut_false {y : Cap} {ps : List Nat} (h : y.carries ps (capCursor y) 1) (hpos : 1 ≤ capCursor y) :
    sealOut y = false := by
  obtain ⟨-, -, -, -, hlo, hhi⟩ := h
  simp [sealOut, capCovers_of_le (by decide) hlo hhi, Nat.ne_of_gt hpos]

theorem caplock_does : Claims.caplockDoes := by
  intro o s x y t h hrd h1 h2 hopen hauth hpos hle hgate
  refine congrArg Host.Outcome.next
    (State.capRun_putC h (by simp [noCap_of_lt hrd, noCap_of_lt h1, noCap_of_lt h2]) ?_)
  have hreason : sealReason (s.sv.cr o.rs2.toNat) 6 = none := hauth.sealReason_none hgate
  have hout : sealOut (s.sv.cr o.rs2.toNat) = false := hauth.sealOut_false hpos
  simp only [hreason]
  rw [if_neg (by simpa using hopen), if_neg (by simp [hout]), if_pos hle]
  exact congrArg (fun z => Exe.go (s.svBegin.putC o.rd.toNat z))
    (Cap.eq_of_parts (tag_capSetOtype x t) (capSetOtype_bits x t))

/-- Clearing bit 9 of a 16-bit mask takes 2^9 from it where the bit is set. -/
theorem toNat_clearBit9 (p : BitVec 16) :
    (p &&& 0xFDFF#16).toNat = if p.toNat / 2 ^ 9 % 2 = 0 then p.toNat else p.toNat - 2 ^ 9 := by
  have hdisjoint : p &&& 0xFDFF#16 &&& (p &&& 0x200#16) = 0#16 := by
    rw [BitVec.and_comm p 0x200#16, BitVec.and_assoc, ← BitVec.and_assoc 0xFDFF#16]
    simp
  have hsplit : (p &&& 0xFDFF#16) + (p &&& 0x200#16) = p := by
    rw [BitVec.add_eq_or_of_and_eq_zero _ _ hdisjoint, ← BitVec.and_or_distrib_left]
    exact BitVec.and_allOnes
  have hbit : (p &&& 0x200#16).toNat = p.toNat / 2 ^ 9 % 2 * 2 ^ 9 := by
    rw [BitVec.toNat_and, show (0x200#16).toNat = 2 ^ 9 from rfl, Nat.and_two_pow, Nat.testBit_eq_decide_div_mod_eq]
    rcases Nat.mod_two_eq_zero_or_one (p.toNat / 2 ^ 9) with h | h <;> rw [h] <;> rfl
  have hsum := congrArg BitVec.toNat hsplit
  rw [BitVec.toNat_add, hbit] at hsum
  have hp := p.isLt
  have hq := (p &&& 0xFDFF#16).isLt
  split <;> omega

/-- The permissions that CAPOPEN leaves: GLOBAL only where the authority holds it too. -/
theorem openedPerms_eq (x y : Cap) :
    BitVec.ofNat 16 (if capHas y 9 || capPerms x / 2 ^ 9 % 2 = 0 then capPerms x else capPerms x - 2 ^ 9)
      = if capHas y 9 then x.bits.extractLsb' 96 16 else x.bits.extractLsb' 96 16 &&& 0xFDFF#16 := by
  cases hglobal : capHas y 9 with
  | true => simpa using ofNat_capPerms x
  | false =>
    refine BitVec.eq_of_toNat_eq ?_
    have hperms := capPerms_lt x
    simp only [Bool.false_or, decide_eq_true_eq, Bool.false_eq_true, if_false, toNat_clearBit9, toNat_perms, BitVec.toNat_ofNat]
    exact Nat.mod_eq_of_lt (by split <;> omega)

/-- What CAPOPEN makes of a capability. -/
theorem opened_eq (x y : Cap) :
    capSetPerms (capSetOtype x 0) (if capHas y 9 || capPerms x / 2 ^ 9 % 2 = 0 then capPerms x else capPerms x - 2 ^ 9)
      = ⟨x.tag, x.bits.extractLsb' 120 8 ++ 0#8
        ++ (if capHas y 9 then x.bits.extractLsb' 96 16 else x.bits.extractLsb' 96 16 &&& 0xFDFF#16)
        ++ x.bits.extractLsb' 0 96⟩ := by
  rw [← openedPerms_eq]
  exact Cap.eq_of_parts (by rw [tag_capSetPerms, tag_capSetOtype]) (capSetPerms_capSetOtype_bits x 0 _)

theorem capopen_does : Claims.capopenDoes := by
  intro o s x y t p q h hrd h1 h2 hotype hauth hpos hgate
  have hreason : sealReason (s.sv.cr o.rs2.toNat) 7 = none := hauth.sealReason_none hgate
  have hout : sealOut (s.sv.cr o.rs2.toNat) = false := hauth.sealOut_false hpos
  have htype : ¬ (x.tag && (decide (capOtype x = 0) || decide (capOtype x ≠ capCursor y))) = true := by
    simp only [Bool.and_eq_true, Bool.or_eq_true, decide_eq_true_eq, not_and, not_or, not_not]
    exact fun ht => ⟨by rw [hotype ht]; exact Nat.ne_of_gt hpos, hotype ht⟩
  refine congrArg Host.Outcome.next
    (State.capRun_putC h (by simp [noCap_of_lt hrd, noCap_of_lt h1, noCap_of_lt h2]) ?_)
  simp only [hreason]
  rw [if_neg htype, if_neg (by simp [hout])]
  exact congrArg (fun z => Exe.go (s.svBegin.putC o.rd.toNat z)) (opened_eq x y)

/-! ### Comparison -/

/-- Permissions lie within others where none is held that the others lack. -/
theorem perms_within (x y : Cap) :
    capPerms y &&& capPerms x = capPerms y ↔ y.bits.extractLsb' 96 16 &&& ~~~ x.bits.extractLsb' 96 16 = 0 := by
  rw [← toNat_perms, ← toNat_perms, ← BitVec.toNat_and, ← BitVec.toNat_eq]
  generalize x.bits.extractLsb' 96 16 = px
  generalize y.bits.extractLsb' 96 16 = py
  constructor
  · intro h
    rw [← h, BitVec.and_assoc, BitVec.and_not_self]
    exact BitVec.and_zero
  · intro h
    calc py &&& px = (py &&& px) ||| (py &&& ~~~px) := by rw [h]; exact BitVec.or_zero.symm
      _ = py &&& (px ||| ~~~px) := BitVec.and_or_distrib_left.symm
      _ = py := by rw [BitVec.or_not_self, BitVec.and_allOnes]

theorem capwithin_does : Claims.capwithinDoes := by
  intro o s x y px py h h1 h2
  refine congrArg Host.Outcome.next (State.capRun_putG h (by simp [noCap_of_lt h1, noCap_of_lt h2]) ?_)
  have hwithin : (x.tag && y.tag && decide (capBase x ≤ capBase y)
      && decide (capBase y + capLength y ≤ capBase x + capLength x) && capPerms y &&& capPerms x == capPerms y) = true
      ↔ x.tag = true ∧ y.tag = true ∧ capBase x ≤ capBase y ∧ capBase y + capLength y ≤ capBase x + capLength x
        ∧ py &&& ~~~px = 0 := by
    simp only [Bool.and_eq_true, decide_eq_true_eq, beq_iff_eq, perms_within, and_assoc]
    rfl
  simp only [← hwithin]
  rfl

/-- Settles O26: each operation replaces one field of the 128 bits, or reads fields into a word. -/
theorem capabilityRules : Obligations.CapabilityRules :=
  ⟨capq_does, capdist_does, capptr_does, capadv_does, capnarrow_does, capmask_does, capmov_does, capdrop_does, caplock_does,
    capopen_does, capwithin_does⟩

end Sys2Proof.Machine
end

section
/-! PROOF. O11: the operations that derive a capability. A run that ends in an exception shows it in DEPTH, BREACH or the hold;
one that does not leaves the core's capability registers as the body of its instruction does, and no body widens its source. -/
namespace Sys2Proof.Machine

/-! ### Exceptions that are taken (R381, R387, R392, R394) -/

/-- From core `c` to core `d` an exception has been taken: an entry, a Breach, or a hold. -/
def SvCore.Diverted (c d : SvCore) : Prop := d.depth ≠ c.depth ∨ d.breach ≠ c.breach ∨ d.hold = true

theorem SvCore.Diverted.congr {c c' d : SvCore} (h : c.Diverted d) (hdepth : c'.depth = c.depth)
    (hbreach : c'.breach = c.breach) : c'.Diverted d := by
  rwa [SvCore.Diverted, hdepth, hbreach]

theorem SvCore.Diverted.withCause {c d : SvCore} (h : c.Diverted d) (e a : Word) :
    c.Diverted { d with ecause := e, eaddr := a } := h

theorem SvCore.Diverted.svCause {c : SvCore} {s : State} (h : c.Diverted s.sv) (code level : Nat) (precise write : Bool)
    (reason : Reason) (num count addr : Nat) :
    c.Diverted (s.svCause code level precise write reason num count addr).sv := by
  unfold State.svCause
  exact h.withCause _ _

theorem State.raiseFault_sv (s : State) (src unit : Nat) : (s.raiseFault src unit).sv = s.sv := by
  unfold State.raiseFault
  split <;> rfl

theorem State.svHold_diverts (c : SvCore) (s : State) : c.Diverted s.svHold.sv :=
  .inr (.inr (congrArg SvCore.hold (State.raiseFault_sv _ _ _)))

theorem State.svBreach_diverts (s : State) (kind code addr : Nat) (pcc : Cap) :
    s.sv.Diverted (s.svBreach kind code addr pcc).sv := by
  unfold State.svBreach
  dsimp only
  split
  case isTrue => exact s.svHold_diverts _
  case isFalse h =>
    have hb : s.sv.breach = false := by
      simp only [Bool.or_eq_true, not_or, Bool.not_eq_true] at h
      exact h.1
    rw [State.raiseFault_sv]
    exact .inr (.inl (by rw [hb]; exact Bool.noConfusion))

theorem State.writeMem_sv (s : State) (a : Nat) (bs : List Nat) : (s.writeMem a bs).sv = s.sv := by
  unfold State.writeMem
  split <;> rfl

theorem State.putCap_sv (s : State) (a : Nat) (c : Cap) : (s.putCap a c).sv = s.sv := by
  unfold State.putCap
  dsimp only
  split <;> exact s.writeMem_sv _ _

theorem State.putGranules_sv (s : State) (a : Nat) (cs : List Cap) : (s.putGranules a cs).2.sv = s.sv := by
  induction cs generalizing s a with
  | nil => rfl
  | cons c cs ih =>
    rw [State.putGranules]
    split
    · exact (ih _ _).trans (s.putCap_sv a c)
    · rfl

/-- A spill writes memory alone. -/
theorem State.svSpill_sv {s t : State} {csp : Cap} {ok : Bool} (h : s.svSpill csp = some (ok, t)) : t.sv = s.sv := by
  unfold State.svSpill at h
  dsimp only at h
  split at h
  · cases h
  · split at h
    · cases h
    · rw [show t = (s.putGranules _ _).2 from congrArg Prod.snd (Option.some.inj h).symm, State.putGranules_sv]

/-- The address of the frame below csp, as a spill computes it. -/
def spillAddr (csp : Cap) : Nat := (capCursor csp + 2 ^ 32 - 512) % 2 ^ 32

/-- The core after an entry into the next bank with another csp: `SvCore.entered` is the entry that passes on its own. -/
def SvCore.enteredOn (c : SvCore) (csp vec : Cap) (level : Nat) (epcc : Cap) : SvCore :=
  { c.entered vec level epcc with banks := listSet c.banks ((c.depth + 1) % 4) (entryBank c epcc csp) }

section
variable {s : State} (vec : Cap) (level : Nat) (epcc struck : Cap)

theorem State.svEnter_tooDeep (h : s.sv.depth = 65535) :
    s.svEnter vec level epcc struck = (false, s.svBreach 3 0 0 struck) := if_pos h

theorem State.svEnter_unchecked (h : s.sv.depth ≠ 65535) (h3 : ¬ s.sv.depth < 3) (hspill : s.svSpill (s.sv.cr 15) = none) :
    s.svEnter vec level epcc struck = (false, s.svBreach 2 0 (spillAddr (s.sv.cr 15)) struck) := by
  simp only [State.svEnter, h, h3, if_false, hspill, spillAddr]

theorem State.svEnter_unwritten {s1 : State} (h : s.sv.depth ≠ 65535) (h3 : ¬ s.sv.depth < 3)
    (hspill : s.svSpill (s.sv.cr 15) = some (false, s1)) :
    s.svEnter vec level epcc struck = (false, s1.svBreach 2 0 (spillAddr (s.sv.cr 15)) struck) := by
  simp only [State.svEnter, h, h3, if_false, hspill, spillAddr]

theorem State.svEnter_spilled {s1 : State} (h : s.sv.depth ≠ 65535) (h3 : ¬ s.sv.depth < 3)
    (hspill : s.svSpill (s.sv.cr 15) = some (true, s1)) :
    s.svEnter vec level epcc struck
      = (true, s1.setSv (s.sv.enteredOn (capSetCursor (s.sv.cr 15) (spillAddr (s.sv.cr 15))) vec level epcc)) := by
  simp only [State.svEnter, h, h3, if_false, hspill, spillAddr, State.svSpill_sv hspill]
  rfl

theorem State.svEnter_diverts : s.sv.Diverted (s.svEnter vec level epcc struck).2.sv := by
  have hdeeper : ∀ c : SvCore, c.depth = s.sv.depth + 1 → s.sv.Diverted c :=
    fun c h => .inl (h.trans_ne (Nat.succ_ne_self _))
  by_cases h : s.sv.depth = 65535
  · rw [State.svEnter_tooDeep _ _ _ _ h]
    exact s.svBreach_diverts _ _ _ _
  · by_cases h3 : s.sv.depth < 3
    · rw [State.svEnter_shallow h3]
      exact hdeeper _ rfl
    · cases hspill : s.svSpill (s.sv.cr 15) with
      | none =>
        rw [State.svEnter_unchecked _ _ _ _ h h3 hspill]
        exact s.svBreach_diverts _ _ _ _
      | some x =>
        obtain ⟨ok, s1⟩ := x
        cases ok with
        | false =>
          rw [State.svEnter_unwritten _ _ _ _ h h3 hspill, ← State.svSpill_sv hspill]
          exact s1.svBreach_diverts _ _ _ _
        | true =>
          rw [State.svEnter_spilled _ _ _ _ h h3 hspill]
          exact hdeeper _ rfl

end

theorem State.svTake_diverts (s : State) (f : SvFault) (precise : Bool) (count : Nat) (epcc : Cap) :
    s.sv.Diverted (s.svTake f precise count epcc).sv := by
  unfold State.svTake
  dsimp only
  split
  · exact s.svHold_diverts _
  · split
    · exact s.svBreach_diverts _ _ _ _
    · split
      · exact s.svBreach_diverts _ _ _ _
      · have hentry := State.svEnter_diverts (s := s) s.sv.fvec (s.sv.level f.code) epcc epcc
        split
        case h_1 s1 h =>
          rw [h] at hentry
          exact hentry.svCause _ _ _ _ _ _ _ _
        case h_2 s1 h =>
          rw [h] at hentry
          exact hentry

theorem State.svArith_diverts (s : State) : s.sv.Diverted s.svArith.sv :=
  (State.svTake_diverts (s.setSv { s.sv with arith := none }) _ _ _ _).congr rfl rfl

theorem State.svRaise_diverts {s0 s : State} (h : s.sv = s0.sv) (f : SvFault) : s0.sv.Diverted (s0.svRaise s f).sv := by
  unfold State.svRaise
  split
  · exact s0.svArith_diverts
  · exact h ▸ s.svTake_diverts _ _ _ _

theorem State.guardDeny_sv (s : State) (m : Master) (kind : AccessKind) (fault : Nat) :
    (s.guardDeny m kind fault).sv = s.sv := by
  unfold State.guardDeny
  split
  · rfl
  · dsimp only
    simp only [State.irqBit, State.irq, State.setReg_sv, State.satInc_sv]
    split <;> simp only [State.setReg_sv]

/-! ### The ends of a run (R303, R374) -/

/-- The end of a load delay takes no exception. -/
theorem SvCore.Diverted.of_begin {s : State} {d : SvCore} (h : s.svBegin.sv.Diverted d) : s.sv.Diverted d :=
  h.congr s.svBegin_depth.symm s.svBegin_breach.symm

/-- A completed effect ends in the loop-end rule or in an exception. -/
theorem State.svFinish_go_cases (s u : State) :
    s.sv.Diverted (s.svBegin.svFinish (.go u)).sv ∨ s.svBegin.svFinish (.go u) = s.svNext u := by
  simp only [State.svFinish]
  split
  · split
    · exact .inl (State.svRaise_diverts rfl _).of_begin
    · exact .inr rfl
  · exact .inr rfl

/-- A run that issues ends in an exception, does nothing but go on, or ends as its body says. -/
theorem State.svRun_cases {s : State} (hi : s.svIssues = true) (cond : BitVec 4) (w : Word) (bad sys : Bool)
    (body : SvCore → State → Exe) :
    s.sv.Diverted (s.svRun cond w bad sys body).sv ∨ s.svRun cond w bad sys body = s.svNext s.svBegin
      ∨ s.svRun cond w bad sys body = s.svBegin.svFinish (body s.sv s.svBegin) := by
  have hraise : ∀ f, s.sv.Diverted (s.svBegin.svRaise s.svBegin f).sv := fun f => (State.svRaise_diverts rfl f).of_begin
  by_cases ha : s.sv.arith = some 8
  · simp only [State.svRun, hi, ha, Bool.not_true, Bool.false_eq_true, if_false, if_true]
    exact .inl s.svBegin.svArith_diverts.of_begin
  · cases hf : s.svFetchFault with
    | some f =>
      simp only [State.svRun, hi, ha, hf, Bool.not_true, Bool.false_eq_true, if_false]
      refine .inl (State.svRaise_diverts ?_ _).of_begin
      split
      · exact s.svBegin.guardDeny_sv _ _ _
      · rfl
    | none =>
      rw [State.svRun_issued hi ha hf]
      split
      · exact .inl (hraise _)
      · split
        · rcases s.svFinish_go_cases s.svBegin with h | h
          · exact .inl h
          · exact .inr (.inl h)
        · split
          · exact .inl (hraise _)
          · exact .inr (.inr rfl)

theorem State.svNext_cr (s u : State) (r : Nat) : (s.svNext u).sv.cr r = u.sv.cr r := by
  obtain ⟨p, w, l0, l1, l2, hnext, -⟩ := s.svNext_moved u
  rw [hnext]
  rfl

theorem State.svBegin_banks_length (s : State) : s.svBegin.sv.banks.length = s.sv.banks.length := by
  show s.sv.commitLoad.banks.length = _
  unfold SvCore.commitLoad
  split
  case h_1 => rfl
  case h_2 r v _ => exact (s.sv.setG_written r v).length
  case h_3 r v _ => exact (s.sv.setC_written r v).length

/-! ### Narrower capabilities (R372) -/

/-- `y` gives no authority that `x` does not: it is untagged, or lies within the bounds and permissions of a tagged `x`. -/
def Narrows (x y : Cap) : Prop :=
  y.tag = false ∨ (x.tag = true ∧ capBase x ≤ capBase y ∧ capBase y + capLength y ≤ capBase x + capLength x
    ∧ ∀ k, k < 16 → capHas y k = true → capHas x k = true)

theorem Narrows.of_tag {x y : Cap} (htag : y.tag = x.tag) (h : x.tag = true → Narrows x y) : Narrows x y := by
  cases hx : x.tag with
  | false => exact .inl (htag.trans hx)
  | true => exact h hx

/-- The bounds stand and the permissions are a part of the source's. -/
theorem Narrows.of_perms {x y : Cap} (htag : y.tag = x.tag) (hbase : capBase y = capBase x)
    (hlength : capLength y = capLength x) (hperms : ∀ k, k < 16 → (capPerms y).testBit k = true → (capPerms x).testBit k = true) : Narrows x y := by
  refine .of_tag htag fun hx => .inr ⟨hx, hbase.ge, by rw [hbase, hlength], fun k hk h => ?_⟩
  rw [capHas_eq_testBit _ hk] at h ⊢
  exact hperms k hk h

theorem narrows_capSetCursor (x : Cap) (a : Nat) : Narrows x (capSetCursor x a) :=
  .of_perms (tag_capSetCursor x a) (capBase_capSetCursor x a) (capLength_capSetCursor x a)
    fun _ _ h => by rwa [capPerms_capSetCursor] at h

theorem narrows_capSetOtype (x : Cap) (t : Nat) : Narrows x (capSetOtype x t) :=
  .of_perms (tag_capSetOtype x t) (capBase_capSetOtype x t) (capLength_capSetOtype x t)
    fun _ _ h => by rwa [capPerms_capSetOtype] at h

theorem narrows_capSetBounds {x : Cap} {length : Nat}
    (h : x.tag = true → capBase x ≤ capCursor x ∧ capCursor x + length ≤ capBase x + capLength x) :
    Narrows x (capSetBounds x (capCursor x) length) := by
  refine .of_tag (tag_capSetBounds x _ _) fun hx => .inr ⟨hx, ?_⟩
  obtain ⟨hlo, hhi⟩ := h hx
  rw [capBase_capSetBounds, capLength_capSetBounds, Nat.mod_eq_of_lt (capCursor_lt x)]
  refine ⟨hlo, le_trans (Nat.add_le_add_left (Nat.mod_le _ _) _) hhi, fun k hk hhas => ?_⟩
  rwa [capHas_eq_testBit _ hk, capPerms_capSetBounds, ← capHas_eq_testBit _ hk] at hhas

theorem narrows_capSetPerms_and (x : Cap) (m : Nat) : Narrows x (capSetPerms x (capPerms x &&& m)) := by
  refine .of_perms (tag_capSetPerms x _) (capBase_capSetPerms x _) (capLength_capSetPerms x _) fun k hk h => ?_
  rw [capPerms_capSetPerms, Nat.testBit_mod_two_pow, Nat.testBit_and] at h
  simp only [Bool.and_eq_true] at h
  obtain ⟨-, hheld, -⟩ := h
  exact hheld

/-- What CAPOPEN makes holds no permission that its source does not. -/
theorem narrows_opened (x y : Cap) : Narrows x (capSetPerms (capSetOtype x 0)
    (if capHas y 9 || capPerms x / 2 ^ 9 % 2 = 0 then capPerms x else capPerms x - 2 ^ 9)) := by
  refine .of_perms (by rw [tag_capSetPerms, tag_capSetOtype]) (by rw [capBase_capSetPerms, capBase_capSetOtype])
    (by rw [capLength_capSetPerms, capLength_capSetOtype]) fun k _ h => ?_
  rw [capPerms_capSetPerms, ← BitVec.toNat_ofNat, openedPerms_eq] at h
  rw [← toNat_perms]
  split at h
  · exact h
  · rw [BitVec.toNat_and, Nat.testBit_and, Bool.and_eq_true] at h
    exact h.1

/-! ### What the operations derive (R371) -/

/-- An effect that writes one register, to a capability no wider than `x`, or that faults and leaves the state it began in. -/
def Exe.Derives (x : Cap) (rd : Nat) (s : State) : Exe → Prop
  | .go u => ∃ y, u.sv = s.sv.setC rd y ∧ Narrows x y
  | .fault _ u => u = s
  | _ => False

theorem Exe.Derives.putC {x y : Cap} (h : Narrows x y) (rd : Nat) (s : State) : Exe.Derives x rd s (.go (s.putC rd y)) :=
  ⟨y, rfl, h⟩

theorem Exe.Derives.ite {x : Cap} {rd : Nat} {s : State} {p : Prop} [Decidable p] {f : SvFault} {e : Exe}
    (h : ¬ p → e.Derives x rd s) : Exe.Derives x rd s (if p then .fault f s else e) := by
  split
  · exact rfl
  · exact h ‹_›

theorem Exe.Derives.go_or_fault {x : Cap} {rd : Nat} {s : State} {e : Exe} (h : e.Derives x rd s) :
    (∃ u y, e = .go u ∧ u.sv = s.sv.setC rd y ∧ Narrows x y) ∨ ∃ f, e = .fault f s := by
  cases e with
  | go u =>
    obtain ⟨y, hu, hy⟩ := h
    exact .inl ⟨u, y, rfl, hu, hy⟩
  | fault f u => exact .inr ⟨f, congrArg (Exe.fault f) h⟩
  | jump | arith | trap | back => exact h.elim

theorem SvCore.cr_setC_narrows {c : SvCore} (hl : c.banks.length = 4) {x y : Cap} (h : Narrows x y) (rd r : Nat) :
    (c.setC rd y).cr r = c.cr r ∨ Narrows x ((c.setC rd y).cr r) := by
  by_cases hr : r = rd
  · by_cases h0 : rd = 0
    · exact .inl (by rw [h0, SvCore.setC_zero])
    · exact .inr (by rwa [hr, SvCore.cr_setC hl y h0])
  · exact .inl (SvCore.cr_setC_ne hl y hr)

/-- After an operation that only derives, and that ends in no exception, a register stands or is no wider than the source. -/
theorem State.capRun_narrows {s : State} {o : OpR} {fn : Nat} {bad : Bool} {body : SvCore → State → Exe} {x : Cap}
    (hl : s.sv.banks.length = 4) (hi : s.svIssues = true) (hbody : (body s.sv s.svBegin).Derives x o.rd.toNat s.svBegin) :
    s.sv.Diverted (s.capRun o fn bad body).sv
      ∨ ∀ r, (s.capRun o fn bad body).sv.cr r = s.svBegin.sv.cr r ∨ Narrows x ((s.capRun o fn bad body).sv.cr r) := by
  rcases State.svRun_cases hi o.cond (wordR 0x1C fn o) bad false body with h | h | h
  · exact .inl h
  · refine .inr fun r => .inl ?_
    rw [State.capRun, h, State.svNext_cr]
  · rw [State.capRun, h]
    rcases hbody.go_or_fault with ⟨u, y, hgo, hu, hy⟩ | ⟨f, hfault⟩
    · rw [hgo]
      rcases s.svFinish_go_cases u with hd | hn
      · exact .inl hd
      · refine .inr fun r => ?_
        rw [hn, State.svNext_cr, hu]
        exact SvCore.cr_setC_narrows (s.svBegin_banks_length.trans hl) hy o.rd.toNat r
    · rw [hfault]
      exact .inl (State.svRaise_diverts rfl f).of_begin

/-- A command is one run of a capability operation that derives from c[rs1]. -/
def State.DerivesBy (s : State) (o : OpR) (i : Instr) : Prop := ∃ fn bad body,
  exec i s = .next (s.capRun o fn bad body) ∧ (body s.sv s.svBegin).Derives (s.sv.cr o.rs1.toNat) o.rd.toNat s.svBegin

/-- As `State.capDerive` derives: the result is no wider where the operation's own check has passed. -/
theorem State.DerivesBy.derive {s : State} {o : OpR} {i : Instr} {fn : Nat} {fault : Cap → Word → Bool} {op : Cap → Word → Cap}
    (h : exec i s = .next (s.capDerive o fn fault op))
    (hop : ∀ x v, (x.tag = true → fault x v = false) → Narrows x (op x v)) : s.DerivesBy o i := by
  refine ⟨_, _, _, h, Exe.Derives.ite fun _ => Exe.Derives.ite fun hfault => .putC (hop _ _ fun hx => ?_) _ _⟩
  simpa [hx] using hfault

theorem caplock_derives (s : State) (o : OpR) : s.DerivesBy o (.caplock o) := by
  refine ⟨_, _, _, rfl, ?_⟩
  dsimp only
  split
  · exact rfl
  · refine .ite fun _ => .ite fun _ => ?_
    split
    · exact .putC (narrows_capSetOtype _ _) _ _
    · exact ⟨_, rfl, narrows_capSetOtype _ _⟩

theorem capopen_derives (s : State) (o : OpR) : s.DerivesBy o (.capopen o) := by
  refine ⟨_, _, _, rfl, ?_⟩
  dsimp only
  split
  · exact rfl
  · exact .ite fun _ => .ite fun _ => .putC (narrows_opened _ _) _ _

/-- Each of the eight operations derives. -/
theorem capOps_derive (s : State) (o : OpR) :
    ∀ i ∈ [Instr.capptr o, .capadv o, .capnarrow o, .capmask o, .capmov o, .capdrop o, .caplock o, .capopen o],
      s.DerivesBy o i := by
  simp only [List.forall_mem_cons, List.not_mem_nil, false_imp_iff, implies_true, and_true]
  refine ⟨.derive rfl fun x v _ => narrows_capSetCursor x _, .derive rfl fun x v _ => narrows_capSetCursor x _,
    .derive rfl fun x v h => narrows_capSetBounds fun hx => ?_, .derive rfl fun x v _ => narrows_capSetPerms_and x _,
    ⟨_, _, _, rfl, .putC (.of_perms rfl rfl rfl fun _ _ h => h) _ _⟩, ⟨_, _, _, rfl, .putC (.inl rfl) _ _⟩,
    caplock_derives s o, capopen_derives s o⟩
  simpa using h hx

/-- Settles O11: a run without an exception leaves the registers that its body leaves, and no body widens c[rs1]. -/
theorem capabilitiesOnlyNarrow : Obligations.CapabilitiesOnlyNarrow := by
  intro i o s t hmem hl hi hexec hdepth hbreach hhold r
  obtain ⟨fn, bad, body, hrun, hbody⟩ := capOps_derive s o i hmem
  obtain rfl : s.capRun o fn bad body = t := Host.Outcome.next.inj (hrun.symm.trans hexec)
  have hissued : s.sv.hold = false := by
    have hnot := hi
    simp only [State.svIssues, Bool.and_eq_true, Bool.not_eq_true'] at hnot
    obtain ⟨⟨-, hno⟩, -⟩ := hnot
    exact hno
  rcases State.capRun_narrows hl hi hbody with hd | h
  · rcases hd with hd | hd | hd
    · exact absurd hdepth hd
    · exact absurd hbreach hd
    · rw [hhold, hissued] at hd
      cases hd
  · exact h r

end Sys2Proof.Machine
end

section
/-! PROOF. O10: TRAP and the ERET after it. The entry writes the next bank alone and the return steps back to the bank it left,
so what is read after the two is what the TRAP began with. -/
namespace Sys2Proof.Machine

/-! ### Cores that differ in a bank that is not in use -/

theorem SvCore.gr_congr {c d : SvCore} (h : c.bank = d.bank) (r : Nat) : c.gr r = d.gr r := by
  unfold SvCore.gr
  rw [h]

theorem SvCore.cr_congr {c d : SvCore} (h : c.bank = d.bank) (r : Nat) : c.cr r = d.cr r := by
  unfold SvCore.cr
  rw [h]

/-- The bank in use outside Breach does not see a replacement of another bank. -/
theorem SvCore.bank_eq_of_banks {c d : SvCore} {k : Nat} {b : SvBank} (hc : c.breach = false) (hd : d.breach = false)
    (hdepth : c.depth = d.depth) (hbanks : c.banks = listSet d.banks k b) (hk : k ≠ d.depth % 4) : c.bank = d.bank := by
  simp only [SvCore.bank, hc, hd, Bool.false_eq_true, if_false, hdepth, hbanks, List.getD_eq_getElem?_getD,
    listSet_getElem?_ne _ _ hk.symm]

/-! ### The core between TRAP and ERET -/

/-- The core after an entry, with what ECAUSE and EADDR report. -/
def SvCore.trapped (c : SvCore) (vec : Cap) (level : Nat) (epcc : Cap) (cause addr : Word) : SvCore :=
  { c.entered vec level epcc with ecause := cause, eaddr := addr }

/-- The core back at a depth, with the pcc and the CSTAT that an entry saved. -/
def SvCore.backTo (c : SvCore) (depth : Nat) (pcc : Cap) (cstat : Word) : SvCore :=
  { c with depth := depth, pcc := pcc, cstat := cstat }

/-- The core after the ERET that follows: the bank left is in use again. -/
def SvCore.returned (c : SvCore) (vec : Cap) (level : Nat) (epcc : Cap) (cause addr : Word) : SvCore :=
  SvCore.backTo { c.trapped vec level epcc cause addr with wfi := false } c.depth epcc c.cstat

theorem SvCore.bank_returned {c : SvCore} (hb : c.breach = false) (vec : Cap) (level : Nat) (epcc : Cap) (cause addr : Word) :
    (c.returned vec level epcc cause addr).bank = c.bank :=
  SvCore.bank_eq_of_banks (k := (c.depth + 1) % 4) hb hb rfl rfl (by omega)

/-- Where no load is under way, an instruction begins in the state it finds, but that a WFI has ended. -/
theorem State.svBegin_unloaded {s : State} (h : s.sv.load = none) : s.svBegin = s.setSv { s.sv with wfi := false } := by
  simp only [State.svBegin, SvCore.commitLoad, h]

/-- TRAP with a bank free, at a level above ML. -/
theorem execTrap_shallow {cond : BitVec 4} {n : BitVec 8} {s : State} (h : s.svStarts cond) (ha : s.sv.arith = none)
    (hd : s.sv.depth < 3) (hb : s.sv.breach = false) (hml : s.sv.ml < fld s.sv.flvl 24 3)
    (hgate : s.svBegin.gateCheck n.toNat = none) : ∃ vec level cause addr,
      exec (.trap cond 0 n) s = .next (s.svBegin.setSv
        (s.svBegin.sv.trapped vec level (capSetCursor s.sv.pcc (capCursor s.sv.pcc + 4)) cause addr)) := by
  have hentry := State.svEnter_shallow (s := s.svBegin) (s.svBegin_depth ▸ hd)
    (capSetOtype (s.svBegin.memCap (fld s.sv.gateBase 12 20 * 4096 + 16 * n.toNat)) 0) (fld s.sv.flvl 24 3)
    (capSetCursor s.sv.pcc (s.sv.pc + 4)) s.sv.pcc
  have htrap := trap_does cond n s h ha hgate hb hml (congrArg Prod.fst hentry)
  rw [hentry, State.svCause] at htrap
  exact ⟨_, _, _, _, htrap⟩

/-- With no imprecise ARITH pending there is none to count on. -/
theorem State.setSv_svDone (s : State) {c : SvCore} (h : c.arith = none) : (s.setSv c).svDone = s.setSv c := by
  have hcore : { c with arith := c.arith.map (· + 1) } = c := by rw [h, Option.map_none, ← h]
  exact congrArg s.setSv hcore

/-- ERET from a depth below 4, outside Breach and with no load and no ARITH under way (R391). -/
theorem execEret_shallow {o : OpR} {s : State} {e : Cap} {w : Word} (h : s.svStarts o.cond) (hrd : o.rd = 0) (h1 : o.rs1 = 0)
    (h2 : o.rs2 = 0) (hsys : capHas s.sv.pcc 5 = true) (hepcc : s.sv.bank.epcc = e) (hestat : s.sv.bank.estat = w)
    (hjump : e.jumps) (hpos : 1 ≤ s.sv.depth) (hd : s.sv.depth < 4) (hb : s.sv.breach = false) (hload : s.sv.load = none)
    (ha : s.sv.arith = none) :
    exec (.eret o) s = .next (s.setSv (SvCore.backTo { s.sv with wfi := false } (s.sv.depth - 1) e w)) := by
  subst hepcc hestat
  obtain ⟨htag, hotype, hperms, halign, hlo, hhi⟩ := hjump
  obtain ⟨-, hreturn, -⟩ :=
    eret_does o s h hrd h1 h2 hsys hpos htag (.inl hotype) (hperms 0 (by simp)) halign hlo hhi
  have hback : exec (.eret o) s = .next (s.svBegin.setSv
      (s.svBegin.sv.backTo (s.sv.depth - 1) (capSetOtype s.sv.bank.epcc 0) s.sv.bank.estat)).svDone := hreturn hb hd
  have hnone : (s.svBegin.sv.backTo (s.sv.depth - 1) s.sv.bank.epcc s.sv.bank.estat).arith = none := s.svBegin_arith.trans ha
  rw [hback, capSetOtype_zero hotype, State.setSv_svDone _ hnone, State.svBegin_unloaded hload]
  rfl

/-- Settles O10: the entry's bank is not the one that the return comes back to. -/
theorem trapAndReturn : Obligations.TrapAndReturn := by
  intro cond n o s t h ha hl hd hb hml hgate hexec ht hsys hrd h1 h2 hjump
  obtain ⟨vec, level, cause, addr, htrap⟩ := execTrap_shallow h ha hd hb hml hgate
  obtain rfl := Host.Outcome.next.inj (htrap.symm.trans hexec)
  have hlen : s.svBegin.sv.banks.length = 4 := s.svBegin_banks_length.trans hl
  have hout : s.svBegin.sv.breach = false := s.svBegin_breach.trans hb
  have hdepth : s.svBegin.sv.depth < 3 := s.svBegin_depth ▸ hd
  have hentered := SvCore.bank_entered hlen hout vec level (capSetCursor s.sv.pcc (capCursor s.sv.pcc + 4))
  have heret := execEret_shallow ht hrd h1 h2 hsys (congrArg SvBank.epcc hentered) (congrArg SvBank.estat hentered) hjump
    (Nat.succ_pos _) (Nat.succ_lt_succ hdepth) hout rfl rfl
  have hbank := SvCore.bank_returned hout vec level (capSetCursor s.sv.pcc (capCursor s.sv.pcc + 4)) cause addr
  exact ⟨_, heret, rfl, s.svBegin_cstat, s.svBegin_depth, SvCore.gr_congr hbank, SvCore.cr_congr hbank, s.svBegin_a0,
    s.svBegin_a1, (congrArg SvCore.l0 s.svBegin_sv :), (congrArg SvCore.l1 s.svBegin_sv :),
    (congrArg SvCore.l2 s.svBegin_sv :), rfl⟩

end Sys2Proof.Machine
end

section
/-! SUPPORT. Numbers in memory byte by byte, and the granules of 16 bytes that capabilities stand in (R34, R36). -/
namespace Sys2Proof.Machine

/-! ### Parts of a number in memory -/

theorem State.memN_zero (s : State) (a : Nat) : s.memN a 0 = 0 := rfl

theorem State.memN_succ (s : State) (a n : Nat) : s.memN a (n + 1) = (readByte s.mem a).toNat + 256 * s.memN (a + 1) n := by
  have hbytes : readBytes s.mem a (n + 1) = (readByte s.mem a).toNat :: readBytes s.mem (a + 1) n := by
    simp only [readBytes, List.range_succ_eq_map, List.map_cons, List.map_map, Nat.add_zero]
    congr 2
    funext i
    simp [Nat.add_assoc, Nat.add_comm 1]
  have hbyte := (readByte s.mem a).isLt
  rw [State.memN, hbytes, ofBytesLE, Nat.mod_eq_of_lt hbyte, State.memN]

theorem State.memN_lt (s : State) (a n : Nat) : s.memN a n < 256 ^ n := by
  induction n generalizing a with
  | zero => exact Nat.one_pos
  | succ n ih =>
    have hbyte := (readByte s.mem a).isLt
    have htail := ih (a + 1)
    rw [State.memN_succ, Nat.pow_succ]
    omega

theorem State.memN_add (s : State) (a m n : Nat) : s.memN a (m + n) = s.memN a m + 256 ^ m * s.memN (a + m) n := by
  induction m generalizing a with
  | zero => simp [State.memN_zero]
  | succ m ih =>
    rw [Nat.add_right_comm, State.memN_succ, ih, State.memN_succ, Nat.pow_succ, Nat.add_assoc a 1 m, Nat.add_comm 1 m]
    ring

/-- Bytes of a number in memory are a number of their own. -/
theorem State.memN_part (s : State) (a k n r : Nat) : s.memN (a + k) n = s.memN a (k + n + r) / 256 ^ k % 256 ^ n := by
  have hk := s.memN_lt a k
  have hn := s.memN_lt (a + k) n
  have hpos : 0 < 256 ^ k := Nat.pow_pos (by decide)
  rw [Nat.add_assoc, State.memN_add, State.memN_add s (a + k), Nat.add_mul_div_left _ _ hpos, Nat.div_eq_of_lt hk,
    Nat.zero_add, Nat.add_mul_mod_self_left, Nat.mod_eq_of_lt hn]

theorem State.memN_one (s : State) (a : Nat) : s.memN a 1 = (readByte s.mem a).toNat := by
  rw [State.memN_succ, State.memN_zero, Nat.mul_zero, Nat.add_zero]

/-- Bytes that agree spell the same number. -/
theorem State.memN_congr {s t : State} {a n : Nat} (h : ∀ x, a ≤ x → x < a + n → readByte t.mem x = readByte s.mem x) :
    t.memN a n = s.memN a n := by
  induction n generalizing a with
  | zero => rfl
  | succ n ih =>
    rw [State.memN_succ, State.memN_succ, h a le_rfl (by omega), ih fun x hlo hhi => h x (by omega) (by omega)]

/-! ### Granules -/

/-- The granule that holds a capability, read in part. -/
theorem memN_of_memCap {s : State} {a : Nat} {c : Cap} (h : s.memCap a = c) {k n : Nat} (hk : k + n ≤ 16) :
    s.memN (a + k) n = c.bits.toNat / 256 ^ k % 256 ^ n := by
  have hall : s.memN a 16 = c.bits.toNat := by
    rw [← h, State.memCap, BitVec.toNat_ofNat]
    exact (Nat.mod_eq_of_lt (s.memN_lt a 16)).symm
  rw [State.memN_part s a k n (16 - (k + n)), Nat.add_sub_cancel' hk, hall]

theorem mem_insertRising (x : Nat) (l : List Nat) (g : Nat) : g ∈ insertRising x l ↔ g = x ∨ g ∈ l := by
  induction l with
  | nil => simp [insertRising]
  | cons y ys ih =>
    unfold insertRising
    split
    · simp
    · split
      case isTrue h => simp [h]
      case isFalse => simp only [List.mem_cons, ih, or_left_comm]

theorem State.putCap_mem (s : State) (a : Nat) (c : Cap) :
    (s.putCap a c).mem = writeBytes s.mem a (bytesLE 16 c.bits.toNat) := by
  rw [← State.setMem_mem]
  unfold State.putCap
  dsimp only
  split <;> rfl

theorem State.putCap_frame (s : State) (a : Nat) (c : Cap) :
    s.putCap a c = { s with mem := (s.putCap a c).mem, tags := (s.putCap a c).tags } := by
  have hset := s.setMem_frame a 16 c.bits.toNat
  unfold State.setMem at hset
  unfold State.putCap
  dsimp only
  split
  · rw [hset]
  · exact hset

theorem State.putCap_sameBut (s : State) (a : Nat) (c : Cap) : SameMemoryBut a (a + 16) s (s.putCap a c) := by
  intro x hx
  rw [State.putCap_mem, readByte_writeBytes_out _ _ _ _ (by rwa [length_bytesLE])]

/-- A capability stored where memory keeps tags sets its granule's tag to its own, and no other. -/
theorem State.mem_putCap_tags {s : State} {a : Nat} {c : Cap} (ha : a % 16 = 0) (htag : tagMemory a = true) (g : Nat) :
    g ∈ (s.putCap a c).tags ↔ if g = a / 16 then c.tag = true else g ∈ s.tags := by
  have hset : g ∈ (s.writeMem a (bytesLE 16 c.bits.toNat)).tags ↔ g ∈ s.tags ∧ g ≠ a / 16 :=
    State.mem_setMem_tags (by decide) (by omega) g
  unfold State.putCap
  dsimp only
  rw [htag, Bool.and_true]
  split
  case isTrue hc =>
    show g ∈ insertRising (a / 16) (s.writeMem a (bytesLE 16 c.bits.toNat)).tags ↔ _
    rw [mem_insertRising, hset]
    by_cases hg : g = a / 16 <;> simp [hg, hc]
  case isFalse hc =>
    rw [hset]
    by_cases hg : g = a / 16 <;> simp [hg, hc]

theorem State.memCap_putCap {s : State} {a : Nat} {c : Cap} (ha : a % 16 = 0) (htag : tagMemory a = true) :
    (s.putCap a c).memCap a = c := by
  have hbits : BitVec.ofNat 128 ((s.putCap a c).memN a 16) = c.bits := by
    have hmem : (s.putCap a c).memN a 16 = (s.setMem a 16 c.bits.toNat).memN a 16 :=
      State.memN_congr fun x _ _ => by rw [State.putCap_mem, State.setMem_mem]
    rw [hmem, State.memN_setMem, Nat.mod_eq_of_lt c.bits.isLt, BitVec.ofNat_toNat, BitVec.setWidth_eq]
  have hcontains : (s.putCap a c).tags.contains (a / 16) = c.tag := by
    rw [Bool.eq_iff_iff, List.contains_iff_mem, State.mem_putCap_tags ha htag, if_pos rfl]
  rw [State.memCap, hbits, hcontains]

/-- A capability stored in one granule leaves what stands in another. -/
theorem State.memCap_putCap_ne {s : State} {a x : Nat} {c : Cap} (ha : a % 16 = 0) (hx : x % 16 = 0)
    (htag : tagMemory a = true) (hne : x ≠ a) : (s.putCap a c).memCap x = s.memCap x := by
  have hbytes : (s.putCap a c).memN x 16 = s.memN x 16 :=
    State.memN_congr fun y _ _ => s.putCap_sameBut a c y (by omega)
  have hcontains : (s.putCap a c).tags.contains (x / 16) = s.tags.contains (x / 16) := by
    rw [Bool.eq_iff_iff, List.contains_iff_mem, List.contains_iff_mem, State.mem_putCap_tags ha htag,
      if_neg (by omega)]
  rw [State.memCap, State.memCap, hbytes, hcontains]

end Sys2Proof.Machine
end

section
/-! PROOF. O9: the spill of the oldest context. Granules written upward stand where they were written; the frame is 32 of them,
and what R390 lists is read from their parts. -/
namespace Sys2Proof.Machine

/-! ### Granules written upward (R389) -/

/-- Granules stand from `a` upward, and nothing else differs. -/
structure State.GranulesPut (s t : State) (a : Nat) (cs : List Cap) : Prop where
  frame : t = { s with mem := t.mem, tags := t.tags }
  outside : SameMemoryBut a (a + 16 * cs.length) s t
  others : ∀ x, x % 16 = 0 → x < a ∨ a + 16 * cs.length ≤ x → t.memCap x = s.memCap x
  inside : ∀ i c, cs[i]? = some c → t.memCap (a + 16 * i) = c

theorem State.ramAnswers_putCap (s : State) (a : Nat) (c : Cap) (x : Nat) : (s.putCap a c).ramAnswers x = s.ramAnswers x := by
  rw [State.putCap_frame]
  rfl

theorem State.putGranules_done {s : State} {a : Nat} {cs : List Cap} (ha : a % 16 = 0)
    (hram : ∀ i, i < cs.length → s.ramAnswers (a + 16 * i) = true)
    (htag : ∀ i, i < cs.length → tagMemory (a + 16 * i) = true) :
    ∃ t, s.putGranules a cs = (true, t) ∧ s.GranulesPut t a cs := by
  induction cs generalizing s a with
  | nil => exact ⟨s, rfl, rfl, fun _ _ => rfl, fun _ _ _ => rfl, fun _ _ h => by simp at h⟩
  | cons c cs ih =>
    have hnext : ∀ i, a + 16 + 16 * i = a + 16 * (i + 1) := fun i => by omega
    have hhere : tagMemory a = true := htag 0 (Nat.succ_pos _)
    have hanswers : s.ramAnswers a = true := hram 0 (Nat.succ_pos _)
    obtain ⟨t, hput, ht⟩ := ih (s := s.putCap a c) (a := a + 16) (by omega)
      (fun i hi => by rw [State.ramAnswers_putCap, hnext]; exact hram _ (Nat.succ_lt_succ hi))
      (fun i hi => by rw [hnext]; exact htag _ (Nat.succ_lt_succ hi))
    refine ⟨t, by rw [State.putGranules, if_pos hanswers, hput], ?_, fun x hx => ?_, fun x hx h => ?_, ?_⟩
    · rw [ht.frame, State.putCap_frame]
    · rw [List.length_cons] at hx
      rw [ht.outside x (by omega), s.putCap_sameBut a c x (by omega)]
    · rw [List.length_cons] at h
      rw [ht.others x hx (by omega), State.memCap_putCap_ne ha hx hhere (by omega)]
    · intro i d hd
      cases i with
      | zero =>
        obtain rfl : c = d := by simpa using hd
        exact (ht.others a ha (by omega)).trans (State.memCap_putCap ha hhere)
      | succ i => exact hnext i ▸ ht.inside i d (by simpa using hd)

/-! ### The frame's granules (R390) -/

/-- Four words in a granule, without a tag. -/
def wordsCap (ws : List Word) : Cap :=
  ⟨false, BitVec.ofNat 128 (ws.zipIdx.foldl (fun (n : Nat) (x : Word × Nat) => n + x.1.toNat * 2 ^ (32 * x.2)) 0)⟩

/-- Word i of a frame's second half: g1 to g31 and ESTAT. -/
def frameWord (b : SvBank) (i : Nat) : Word := if i = 31 then b.estat else tabGet 0 b.g (i + 1)

/-- FRAME_ID. -/
def frameId (depth : Nat) : Word := wordOf (depth % 2 ^ 16 + 0xF5A1 * 2 ^ 16)

theorem frameGranules_eq (b : SvBank) (depth : Nat) :
    frameGranules b depth = (List.range 15).map (fun i => tabGet nullCap b.c (i + 1)) ++ [b.epcc]
      ++ (List.range 8).map (fun j => wordsCap [frameWord b (4 * j), frameWord b (4 * j + 1), frameWord b (4 * j + 2),
        frameWord b (4 * j + 3)])
      ++ [wordsCap [frameId depth, 0, 0, 0]] ++ List.replicate 7 nullCap := rfl

theorem length_frameGranules (b : SvBank) (depth : Nat) : (frameGranules b depth).length = 32 := by
  simp [frameGranules_eq]

section
variable (b : SvBank) (depth : Nat)

/-- Where an index falls among the parts of a frame. -/
theorem frameGranules_getElem? (i : Nat) : (frameGranules b depth)[i]?
    = if i < 25 then
        if i < 24 then
          if i < 16 then
            if i < 15 then ((List.range 15).map fun i => tabGet nullCap b.c (i + 1))[i]? else [b.epcc][i - 15]?
          else ((List.range 8).map fun j => wordsCap [frameWord b (4 * j), frameWord b (4 * j + 1), frameWord b (4 * j + 2),
            frameWord b (4 * j + 3)])[i - 16]?
        else [wordsCap [frameId depth, 0, 0, 0]][i - 24]?
      else (List.replicate 7 nullCap)[i - 25]? := by
  simp only [frameGranules_eq, List.getElem?_append, List.length_append, List.length_map, List.length_range, List.length_cons,
    List.length_nil, Nat.reduceAdd]

theorem frameGranules_cap {i : Nat} (h : i < 15) : (frameGranules b depth)[i]? = some (tabGet nullCap b.c (i + 1)) := by
  rw [frameGranules_getElem?, if_pos (by omega), if_pos (by omega), if_pos (by omega), if_pos h, List.getElem?_map,
    List.getElem?_range h, Option.map_some]

theorem frameGranules_epcc : (frameGranules b depth)[15]? = some b.epcc := frameGranules_getElem? b depth 15

theorem frameGranules_words {j : Nat} (h : j < 8) : (frameGranules b depth)[16 + j]?
    = some (wordsCap [frameWord b (4 * j), frameWord b (4 * j + 1), frameWord b (4 * j + 2), frameWord b (4 * j + 3)]) := by
  rw [frameGranules_getElem?, if_pos (by omega), if_pos (by omega), if_neg (by omega), Nat.add_sub_cancel_left,
    List.getElem?_map, List.getElem?_range h, Option.map_some]

theorem frameGranules_id : (frameGranules b depth)[24]? = some (wordsCap [frameId depth, 0, 0, 0]) :=
  frameGranules_getElem? b depth 24

theorem frameGranules_rest {i : Nat} (h : 25 ≤ i) (h' : i < 32) : (frameGranules b depth)[i]? = some nullCap := by
  rw [frameGranules_getElem?, if_neg (by omega), List.getElem?_replicate_of_lt (by omega)]

end

/-- Words as one number, lowest first. -/
def wordsNat : List Word → Nat
  | [] => 0
  | w :: ws => w.toNat + 256 ^ 4 * wordsNat ws

theorem wordsNat_lt (ws : List Word) : wordsNat ws < 256 ^ (4 * ws.length) := by
  induction ws with
  | nil => exact Nat.one_pos
  | cons w ws ih =>
    have hw := w.isLt
    rw [wordsNat, List.length_cons, Nat.mul_succ, Nat.pow_add]
    omega

/-- Each word is read from its part of the number. -/
theorem wordsNat_part {ws : List Word} {k : Nat} {w : Word} (h : ws[k]? = some w) :
    wordsNat ws / 256 ^ (4 * k) % 256 ^ 4 = w.toNat := by
  induction ws generalizing k with
  | nil => simp at h
  | cons v ws ih =>
    have hv := v.isLt
    cases k with
    | zero =>
      obtain rfl : v = w := by simpa using h
      rw [wordsNat, Nat.mul_zero, Nat.pow_zero, Nat.div_one]
      omega
    | succ k =>
      have htail : wordsNat (v :: ws) / 256 ^ 4 = wordsNat ws := by
        rw [wordsNat]
        omega
      rw [Nat.mul_succ, Nat.add_comm, Nat.pow_add, ← Nat.div_div_eq_div_mul, htail]
      exact ih (by simpa using h)

theorem foldl_zipIdx_words (ws : List Word) (j n : Nat) :
    (ws.zipIdx j).foldl (fun (n : Nat) (x : Word × Nat) => n + x.1.toNat * 2 ^ (32 * x.2)) n
      = n + 256 ^ (4 * j) * wordsNat ws := by
  induction ws generalizing j n with
  | nil => simp [wordsNat]
  | cons w ws ih =>
    have hpow : 2 ^ (32 * j) = 256 ^ (4 * j) := by
      rw [show 32 * j = 8 * (4 * j) by omega, Nat.pow_mul]
    rw [List.zipIdx_cons, List.foldl_cons, ih, wordsNat, hpow, Nat.mul_succ, Nat.pow_add]
    ring

theorem wordsCap_toNat {ws : List Word} (h : ws.length = 4) : (wordsCap ws).bits.toNat = wordsNat ws := by
  have hlt := wordsNat_lt ws
  rw [h] at hlt
  rw [wordsCap, foldl_zipIdx_words, Nat.mul_zero, Nat.pow_zero, Nat.zero_add, Nat.one_mul, BitVec.toNat_ofNat]
  exact Nat.mod_eq_of_lt hlt

/-- A word of the frame's second half has its place in a granule. -/
theorem frameWord_getElem? (b : SvBank) (j : Nat) {k : Nat} (hk : k < 4) :
    [frameWord b (4 * j), frameWord b (4 * j + 1), frameWord b (4 * j + 2), frameWord b (4 * j + 3)][k]?
      = some (frameWord b (4 * j + k)) := by
  interval_cases k <;> rfl

/-! ### What R390 lists, read from the granules -/

/-- Bytes of a granule above a short number are 0. -/
theorem readByte_above {s : State} {x k m : Nat} {c : Cap} (h : s.memCap x = c) (hc : c.bits.toNat < 256 ^ m) (hm : m ≤ k)
    (hk : k < 16) : readByte s.mem (x + k) = 0 := by
  have hpart := memN_of_memCap h (n := 1) (k := k) hk
  have hshort : c.bits.toNat < 256 ^ k := lt_of_lt_of_le hc (Nat.pow_le_pow_right (by decide) hm)
  rw [State.memN_one, Nat.div_eq_of_lt hshort] at hpart
  exact BitVec.eq_of_toNat_eq hpart

section
variable {s t : State} {a depth : Nat} {b : SvBank}

theorem State.GranulesPut.memN_word (h : s.GranulesPut t a (frameGranules b depth)) {i : Nat} (hi : i < 32) :
    t.memN (a + 0x100 + 4 * i) 4 = (frameWord b i).toNat := by
  have hgranule := h.inside (16 + i / 4) _ (frameGranules_words b depth (by omega))
  have hpart := memN_of_memCap hgranule (k := 4 * (i % 4)) (n := 4) (by omega)
  rw [wordsCap_toNat rfl, wordsNat_part (frameWord_getElem? b (i / 4) (Nat.mod_lt i (by decide))), Nat.div_add_mod] at hpart
  rw [← hpart]
  congr 1
  omega

theorem State.GranulesPut.memN_id (h : s.GranulesPut t a (frameGranules b depth)) (hd : depth < 2 ^ 16) :
    t.memN (a + 0x180) 4 = depth + 0xF5A1 * 2 ^ 16 := by
  have hgranule := h.inside 24 _ (frameGranules_id b depth)
  have hpart := memN_of_memCap hgranule (k := 4 * 0) (n := 4) (by decide)
  rw [wordsCap_toNat rfl, wordsNat_part rfl] at hpart
  refine hpart.trans ?_
  rw [frameId, wordOf, BitVec.toNat_ofNat, Nat.mod_eq_of_lt hd]
  omega

theorem State.GranulesPut.readByte_rest (h : s.GranulesPut t a (frameGranules b depth)) {x : Nat} (hlo : a + 0x184 ≤ x)
    (hhi : x < a + 512) : readByte t.mem x = 0 := by
  rcases Nat.lt_or_ge x (a + 0x190) with hx | hx
  · have hgranule := h.inside 24 _ (frameGranules_id b depth)
    have hshort : (wordsCap [frameId depth, 0, 0, 0]).bits.toNat < 256 ^ 4 := by
      have hid := (frameId depth).isLt
      rw [wordsCap_toNat rfl]
      simpa [wordsNat] using hid
    have hzero := readByte_above hgranule hshort (k := x - (a + 0x180)) (by omega) (by omega)
    rwa [show a + 16 * 24 + (x - (a + 0x180)) = x by omega] at hzero
  · have hgranule := h.inside ((x - a) / 16) _ (frameGranules_rest b depth (by omega) (by omega))
    have hzero := readByte_above hgranule (m := 0) (by decide) (k := (x - a) % 16) (Nat.zero_le _) (Nat.mod_lt _ (by decide))
    rwa [show a + 16 * ((x - a) / 16) + (x - a) % 16 = x by omega] at hzero

end

/-! ### The spill (R389) -/

/-- A csp through which a frame can be spilled, with the memory below it ready (R389). -/
structure State.Spillable (s : State) (csp : Cap) (low : Nat) : Prop where
  tag : csp.tag = true
  otype : capOtype csp = 0
  st : capHas csp 2 = true
  stc : capHas csp 4 = true
  align : capCursor csp % 16 = 0
  cursor : capCursor csp = low + 512
  lo : capBase csp ≤ low
  hi : capCursor csp ≤ capBase csp + capLength csp
  place : framePlace low = true
  guard : s.svOpen .store low 512
  on : 0x20000000 ≤ low → s.sramOn (sramBank low) = true ∧ s.sramOn (sramBank (low + 511)) = true

theorem framePlace_iff (a : Nat) : framePlace a = true ↔
    (0x08100000 ≤ a ∧ a + 512 ≤ 0x08140000) ∨ (0x20000000 ≤ a ∧ a + 512 ≤ 0x20800000) := by
  simp [framePlace]

theorem tagMemory_of_framePlace {a i : Nat} (h : framePlace a = true) (hi : i < 32) : tagMemory (a + 16 * i) = true := by
  rw [framePlace_iff] at h
  simp only [tagMemory, Bool.or_eq_true, Bool.and_eq_true, decide_eq_true_eq]
  omega

section
variable {s : State} {csp : Cap} {low : Nat}

/-- A frame lies in one bank of System SRAM or in two that follow each other. -/
theorem State.Spillable.answers (h : s.Spillable csp low) {i : Nat} (hi : i < 32) : s.ramAnswers (low + 16 * i) = true := by
  have hplace := (framePlace_iff low).mp h.place
  rw [State.ramAnswers, Bool.or_eq_true, decide_eq_true_eq]
  by_cases hsram : 0x20000000 ≤ low
  · obtain ⟨hfirst, hlast⟩ := h.on hsram
    have hbank : sramBank (low + 16 * i) = sramBank low ∨ sramBank (low + 16 * i) = sramBank (low + 511) := by
      simp only [sramBank]
      omega
    rcases hbank with hb | hb <;> rw [hb]
    · exact .inr hfirst
    · exact .inr hlast
  · omega

theorem State.Spillable.svSpill_eq (h : s.Spillable csp low) : s.svSpill csp
    = some (s.putGranules low (frameGranules (s.sv.banks.getD ((s.sv.depth - 3) % 4) svBankFresh) (s.sv.depth - 3))) := by
  have hlow : capCursor csp - 512 = low := by rw [h.cursor, Nat.add_sub_cancel]
  have hcovers : capCovers csp low 512 = true := capCovers_of_le (by decide) h.lo (h.cursor ▸ h.hi)
  have hpos : ¬ capCursor csp < 512 := by rw [h.cursor]; omega
  have hguard : ¬ (!unguarded .headland low && (s.guardFault .headland .store low 512).isSome) = true := by
    rcases h.guard with hg | hg <;> simp [hg]
  simp only [State.svSpill, hlow, h.tag, h.otype, h.st, h.stc, h.align, hcovers, hpos, h.place, hguard, Bool.not_true,
    ne_eq, not_true_eq_false, decide_false, Bool.or_false, Bool.false_eq_true, if_false]

end

theorem SvCore.bank_enteredOn {c : SvCore} (hl : c.banks.length = 4) (hb : c.breach = false) (csp vec : Cap) (level : Nat)
    (epcc : Cap) : (c.enteredOn csp vec level epcc).bank = entryBank c epcc csp := by
  have hk : (c.depth + 1) % 4 < c.banks.length := by omega
  simp [SvCore.enteredOn, SvCore.entered, SvCore.bank, hb, List.getD_eq_getElem?_getD, listSet_getElem? _ hk]

/-- Settles O9: the spill puts the oldest bank's 32 granules below csp, and the entry passes the lowered csp on. -/
theorem spillFrame : Obligations.SpillFrame := by
  intro vec epcc struck level s csp low old _ hl hb h3 hmax htag hotype hst hstc halign hpos hlo hhi hplace hguard hon
  have hcursor : capCursor csp = low + 512 := (Nat.sub_add_cancel hpos).symm
  have hspillable : s.Spillable csp low := ⟨htag, hotype, hst, hstc, halign, hcursor, hlo, hhi, hplace, hguard, hon⟩
  have hold : s.sv.banks.getD ((s.sv.depth - 3) % 4) svBankFresh = old := by
    rw [show (s.sv.depth - 3) % 4 = (s.sv.depth + 1) % 4 by omega]
  obtain ⟨u, hput, hu⟩ := State.putGranules_done (s := s) (a := low) (cs := frameGranules old (s.sv.depth - 3)) (by omega)
    (fun i hi => hspillable.answers (by rwa [length_frameGranules] at hi))
    (fun i hi => tagMemory_of_framePlace hplace (by rwa [length_frameGranules] at hi))
  have hspill : s.svSpill (s.sv.cr 15) = some (true, u) := by rw [hspillable.svSpill_eq, hold, hput]
  have haddr : spillAddr csp = low := by
    have hlt := capCursor_lt csp
    rw [spillAddr]
    omega
  have hbank := SvCore.bank_enteredOn hl hb (capSetCursor csp (spillAddr csp)) vec level epcc
  refine ⟨_, State.svEnter_spilled vec level epcc struck (by omega) (by omega) hspill, rfl, rfl, congrArg SvBank.epcc hbank,
    congrArg SvBank.estat hbank, ?_, ?_, fun i hi => hu.inside i _ (frameGranules_cap old _ hi),
    hu.inside 15 _ (frameGranules_epcc old _), fun i hi => ?_, hu.memN_word (i := 31) (by decide),
    hu.memN_id (by omega), fun a => hu.readByte_rest, ?_⟩
  · rw [SvCore.cr_of_ne _ (by decide)]
    exact (congrArg (tabGet nullCap ·.c 14) hbank).trans (tabGet_entryBank_ddc _ _ _)
  · rw [SvCore.cr_of_ne _ (by decide), ← haddr]
    exact (congrArg (tabGet nullCap ·.c 15) hbank).trans (tabGet_set _ _ _ _)
  · exact (hu.memN_word (i := i) (by omega)).trans (congrArg BitVec.toNat (if_neg (by omega)))
  · have hout := hu.outside
    rwa [length_frameGranules] at hout

end Sys2Proof.Machine
end

section
/-! PROOF. O53 fails for a premise that RESYNC_JOIN_DONE lacks. It says that LS_STAT names the core whose join failed, whatever
number the controller holds for that core, but OUT is a field of two bits (R437). Every command that takes a core out of the
lockstep takes one of cores 0 to 2, so no run reaches the state below; the claim speaks of every state, and does not ask for a core
below 3 as the claims for LOCKSTEP_MISMATCH and ROTATION_START do. -/
namespace Sys2Proof.Machine

/-- As reset leaves the part, but that a core 4, which it does not have, is in the join of its resync. -/
def joinOfCoreFour : State :=
  { State.reset with bw := { State.reset.bw with ls := { State.reset.bw.ls with out := some (4, .join) } } }

/-- The join fails and core 4 is retired: two bits hold no 4, and OUT reads 0. -/
theorem joinOfCoreFour_out :
    joinOfCoreFour.bw.ls.out = some (4, .join)
      ∧ fld ((joinOfCoreFour.resyncJoined false).reg .lks 0x40) 2 2 = 0 := by
  decide +kernel

/-- Refutes O53: after the failed join of core 4, OUT of LS_STAT reads 0. -/
theorem not_lockstepCluster : ¬ Obligations.LockstepCluster := by
  rintro ⟨-, -, hjoin, -⟩
  obtain ⟨hjoining, hout⟩ := joinOfCoreFour_out
  obtain ⟨-, t, ht, -, hnamed, -⟩ := hjoin 4 joinOfCoreFour hjoining
  obtain rfl : joinOfCoreFour.resyncJoined false = t := Host.Outcome.next.inj ht
  exact absurd (hout.symm.trans hnamed) (by decide)

end Sys2Proof.Machine
end

section
/-! PROOF. O54 and O56 fail for a premise that VALID_UNTIL_READ and FC_FIRST_READ lack: they say that a served read answers the
register, without asking that its page runs. The fabric serves a read of a page whose domain is not on, and answers 0 (R48, R58).
Breakwater's domain is always on (R469) and no run turns it off, so no run reaches the state below; the claims speak of every
state. -/
namespace Sys2Proof.Machine

/-- As reset leaves the part, but that the domain of Breakwater's pages is off; VALID_UNTIL and FC_FIRST hold 7 and 5. -/
def breakwaterDark : State :=
  { State.reset with
    regs := [(Page.base .bwFc + 0x4C, 5), (Page.base .slk + 0x54, 7)]
    domains := [(2, .off)] }

/-- The plan page does not run: the fabric serves a read of its VALID_UNTIL_LO, which holds 7, and answers 0. -/
theorem breakwaterDark_validUntil_zero :
    breakwaterDark.pageRuns .slk = false
      ∧ breakwaterDark.serves (readOf .headland .slk 0x54 false)
      ∧ (breakwaterDark.reg .slk 0x54).toNat = 7
      ∧ (breakwaterDark.pageRd .headland .slk 0x54 false).lastResp .headland = ⟨.none, 0⟩ := by
  decide +kernel

/-- The collector's page does not run: the fabric serves a read of its FC_FIRST_LO, which holds 5, and answers 0. -/
theorem breakwaterDark_fcFirst_zero :
    breakwaterDark.pageRuns .bwFc = false
      ∧ breakwaterDark.serves (readOf .headland .bwFc 0x4C false)
      ∧ (breakwaterDark.reg .bwFc 0x4C).toNat = 5
      ∧ (breakwaterDark.pageRd .headland .bwFc 0x4C false).lastResp .headland = ⟨.none, 0⟩ := by
  decide +kernel

/-- Refutes O54: VALID_UNTIL_READ on a plan page that does not run answers 0, and not the 7 that the register holds. -/
theorem not_slackPlan : ¬ Obligations.SlackPlan := by
  rintro ⟨-, -, -, -, -, -, -, -, -, -, hread, -⟩
  obtain ⟨-, hserves, hstands, hzero⟩ := breakwaterDark_validUntil_zero
  obtain ⟨t, ht, ⟨hanswer, -⟩, -⟩ := hread .headland false breakwaterDark hserves
  obtain rfl : breakwaterDark.pageRd .headland .slk 0x54 false = t := Host.Outcome.next.inj ht
  rw [hzero, if_neg Bool.false_ne_true, hstands] at hanswer
  cases hanswer

/-- Refutes O56: FC_FIRST_READ on a collector page that does not run answers 0, and not the 5 that the register holds. -/
theorem not_faultCollection : ¬ Obligations.FaultCollection := by
  rintro ⟨-, -, -, -, hread, -⟩
  obtain ⟨-, hserves, hstands, hzero⟩ := breakwaterDark_fcFirst_zero
  obtain ⟨t, ht, ⟨hanswer, -⟩, -⟩ := hread .headland false breakwaterDark hserves
  obtain rfl : breakwaterDark.pageRd .headland .bwFc 0x4C false = t := Host.Outcome.next.inj ht
  rw [hzero, if_neg Bool.false_ne_true, hstands] at hanswer
  cases hanswer

end Sys2Proof.Machine
end

section
/-! PROOF. O55 fails for a premise that SLACK_REQ lacks. It says that the register then holds PROF as written and nothing else,
but a write takes the writable bits alone (R59): bits that the row reserves stay as the state holds them. They are 0 at reset and no
write sets them (R60), so no run reaches the state below; the claim speaks of every state. -/
namespace Sys2Proof.Machine

/-- As reset leaves the part, but that SLACK_REQ holds its reserved bit 8 and Headland has opened the page's keyed sequence. -/
def reservedBitHeld : State :=
  { State.reset with
    regs := [(Page.base .bwCtl + 0x44, 0x110)]
    fab := { State.reset.fab with keys := [(Page.base .bwCtl, .opened Master.headland.id 0)] } }

/-- A write of PROF = 1 with REQ = 0 passes every check, and bit 8 stands beside it. -/
theorem reservedBitHeld_slackReq :
    reservedBitHeld.accepts (put32 .headland .bwCtl 0x44 2)
      ∧ (reservedBitHeld.pageWr .headland .bwCtl 0x44 2).reg .bwCtl 0x44 = 0x102 := by
  decide +kernel

/-- Refutes O55: SLACK_REQ written with 2 holds 0x102, and not 2. -/
theorem not_stopsAndMonitors : ¬ Obligations.StopsAndMonitors := by
  rintro ⟨hrequest, -⟩
  obtain ⟨haccepts, hheld⟩ := reservedBitHeld_slackReq
  obtain ⟨t, ht, hstored, -⟩ := hrequest .headland 2 reservedBitHeld haccepts
  obtain rfl : reservedBitHeld.pageWr .headland .bwCtl 0x44 2 = t := Host.Outcome.next.inj ht
  exact absurd (hheld.symm.trans hstored) (by decide)

end Sys2Proof.Machine
end

section
/-! PROOF. O50 fails in DMA_TRANSACTION: the claim says that a transfer with bytes left stays in the state that it was in, without
asking what the transaction writes. A channel's destination may be its own DCTRL (R455): the word that it moves then has ABORT set,
which stops the channel as a write of any other master does, with bytes left (R454). -/
namespace Sys2Proof.Machine

/-- The address at which a channel's side goes on: side 0 the source, from DSRC, and side 1 the destination, from DDST (R452). -/
def State.dmaSide (s : State) (c k r : Nat) : Nat :=
  if bit (s.dmaWord c 0xC) k then ((s.dmaWord c r).toNat + fld (s.dmaWord c 0x18) 0 24) % 2 ^ 32 else (s.dmaWord c r).toNat

/-- Channel 0 is ACTIVE: it moves eight bytes from System SRAM, whose first word is 2, to its own DCTRL. The source begins at the
last word of a 64-byte block, so the first transaction is of that word alone. -/
def selfAbort : State :=
  { State.reset with
    mem := [(0x2000003C, 2)]
    regs := [(Page.base (.dma 0) + 0x800, 0x2000003C), (Page.base (.dma 0) + 0x804, 0x40111810),
      (Page.base (.dma 0) + 0x808, 8), (Page.base (.dma 0) + 0x80C, 0x101), (Page.base (.dma 0) + 0x814, 1)] }

/-- The read of the transaction, and the write of the word that it read. -/
def selfAbortRead : Reason × List Nat × State :=
  (selfAbort.dmaServed 0).partsRead .dma (selfAbort.dmaParts 0 0 (selfAbort.dmaSide 0 0 0) (selfAbort.dmaSize 0))
def selfAbortWrite : Reason × State :=
  selfAbortRead.2.2.partsWrite .dma
    (selfAbortRead.2.2.dmaParts 0 1 (selfAbort.dmaSide 0 1 4) (selfAbort.dmaSize 0)) selfAbortRead.2.1

/-- It is channel 0's turn, for one word of the two. -/
theorem selfAbort_turn :
    selfAbort.dmaNext = some 0
      ∧ selfAbort.dmaSize 0 = 4
      ∧ fld (selfAbort.dmaWord 0 0x18) 0 24 = 0
      ∧ fld (selfAbort.dmaWord 0 8) 0 24 = 8 := by
  decide +kernel

/-- The guard permits both sides, and the fabric takes the read and the write. -/
theorem selfAbort_permitted :
    selfAbort.dmaForbidden 0 (selfAbort.dmaSize 0) = none
      ∧ selfAbortRead.1 = .none
      ∧ selfAbortWrite.1 = .none := by
  decide +kernel

/-- The transaction finds the channel ACTIVE and leaves it STOPPED. -/
theorem selfAbort_stopped : selfAbort.dmaState 0 = 1 ∧ selfAbort.dmaTransaction.dmaState 0 = 3 := by
  decide +kernel

/-- Refutes O50: a channel that moves the word 2 to its own DCTRL is STOPPED with a word left. -/
theorem not_timersAndDma : ¬ Obligations.TimersAndDma := by
  rintro ⟨-, -, -, -, -, -, -, -, -, -, htransaction⟩
  obtain ⟨hnext, hsize, hdone, hlength⟩ := selfAbort_turn
  obtain ⟨hguard, hread, hwrite⟩ := selfAbort_permitted
  obtain ⟨hactive, hstopped⟩ := selfAbort_stopped
  obtain ⟨-, hmoved, -⟩ := htransaction 0 (.load, 0) selfAbortRead.2.1 selfAbortRead.2.2 selfAbortWrite.2 selfAbort hnext
    (by decide) (by rw [hdone, hsize]; decide)
  obtain ⟨t, ht, -, -, -, hstays⟩ := hmoved hguard (Prod.ext hread rfl) (Prod.ext hwrite rfl)
  obtain rfl : selfAbort.dmaTransaction = t := Host.Outcome.next.inj ht
  have hkept : selfAbort.dmaTransaction.dmaState 0 = selfAbort.dmaState 0 :=
    hstays (by rw [hdone, hsize, hlength]; decide)
  rw [hstopped, hactive] at hkept
  cases hkept

end Sys2Proof.Machine
end

section
/-! PROOF. O51 fails for a premise that TIMER_COUNT_READ lacks. It says that a served read answers the timer's count, without asking
that the timer's page runs. A page whose request for the Spring clock the module has still to follow reads STARTING (R471), and its
registers then read 0 (R48). -/
namespace Sys2Proof.Machine

/-- The page of timers 0 to 7 requests the Spring clock while the module still changes to it; timer 0 is held at a count of 5. -/
def timerRising : State :=
  { State.reset with
    regs := [(Page.base (.tmr 0) + 0x0C, 9)]
    power := .changing true
    tmr := [(0, { tmrReset with count := 5 })] }

/-- The page of timer 0 is STARTING: the fabric serves a read of its CNT_LO, where the count is 5, and answers 0. -/
theorem timerRising_count_zero :
    timerRising.pstate (.tmr 0) = 1
      ∧ timerRising.serves (readOf .headland (.tmr 0) (tmrOff 0 0) false)
      ∧ timerRising.chainOdd 0 = false
      ∧ timerRising.countAt 0 (timerRising.timer 0) timerRising.now = 5
      ∧ (timerRising.pageRd .headland (.tmr 0) (tmrOff 0 0) false).lastResp .headland = ⟨.none, 0⟩ := by
  decide +kernel

/-- TIMER_COUNT_READ is the read of the timer's CNT_LO. -/
theorem exec_timerCountRead (m : Master) {k : Nat} (wide : Bool) (s : State) (hk : k < 32) :
    exec (.timerCountRead m k wide) s = .next (s.pageRd m (.tmr (k / 8)) (tmrOff k 0) wide) :=
  congrArg Host.Outcome.next (if_pos hk)

/-- Refutes O51: TIMER_COUNT_READ on a page that is still STARTING answers 0, and not the count 5 (R48, R471). -/
theorem not_timerRegisters : ¬ Obligations.TimerRegisters := by
  rintro ⟨-, -, -, -, -, -, hread, -⟩
  obtain ⟨-, hserves, hodd, hcount, hzero⟩ := timerRising_count_zero
  obtain ⟨t, ht, ⟨hanswer, -⟩, -⟩ := hread .headland 0 false timerRising hserves (Nat.succ_pos 31) hodd
  rw [exec_timerCountRead _ _ _ (Nat.succ_pos 31)] at ht
  obtain rfl := Host.Outcome.next.inj ht
  rw [hzero, if_neg Bool.false_ne_true, hcount] at hanswer
  cases hanswer

end Sys2Proof.Machine
end

section
/-! PROOF. O1 and O3: the queue of waiting commands. -/
namespace Sys2Proof.Machine

/-- Settles O1: a step on a queue with a command at its front is that command's meaning. -/
theorem commandsRunInOrder : Obligations.CommandsRunInOrder :=
  fun _ _ _ => step_cons rfl

/-- Settles O3: no command touches the queue's rest, and on an empty queue a cycle of the timebase does not either. -/
theorem oneCommandEachStep : Obligations.OneCommandEachStep :=
  fun s t ht => (step_kept s t ht).queue

end Sys2Proof.Machine
end

section
/-! PROOF. O57 fails in the wakes from DORMANT: the claims say that the module starts up on the state as it slept but for the wake's
own records, and the model drops beside it every fault source that is raised and not yet latched. -/
namespace Sys2Proof.Machine

/-- Asleep in DORMANT with the wake timer enabled, while CF_TMO, which LINK_TIMEOUT raises, waits for the collector. -/
def raisedAsleep : State :=
  { State.reset with
    dormant := .asleep 0 [] 0 0
    raised := [(0x1A, 0)]
    regs := [(Page.base .lee + 0x40, 1)] }

/-- A start-up in which self-test, rails and BIST all pass. -/
def soundStart : StartFacts := ⟨true, true, [], 0, 0, 0⟩

/-- The state from which the claim has the module start up: `raisedAsleep`, awake, with the wake timer recorded as what woke it. -/
def raisedAwake : State :=
  ((({ raisedAsleep with dormant := .awake }.setRegF .pwr 0x48 4 2 1).setReg .lee 0x48 1).setReg .lee 0x4C
    (BitVec.ofNat 32 (min (raisedAsleep.reg .lee 0x44).toNat (2 ^ 32 - 1)))).setReg .sys 0x70 5

/-- The source is still raised after the claim's start-up, and no longer after the model's. -/
theorem raisedAsleep_wake_drops :
    raisedAsleep.isAsleep = true
      ∧ bit (raisedAsleep.reg .lee 0x40) 0 = true
      ∧ (raisedAsleep.wakeTimer soundStart).raised = []
      ∧ (raisedAwake.startUp soundStart raisedAsleep.fuses.wakeBist).raised = [(0x1A, 0)] := by
  decide +kernel

/-- Refutes O57: a wake by the timer drops the source that was raised before it. -/
theorem not_domainsAndDormant : ¬ Obligations.DomainsAndDormant := by
  rintro ⟨-, -, -, -, -, -, hwake, -⟩
  obtain ⟨hasleep, henabled, hdropped, hkept⟩ := raisedAsleep_wake_drops
  obtain ⟨t, ht, hstart⟩ := (hwake soundStart raisedAsleep).1 hasleep henabled
  obtain rfl : raisedAsleep.wakeTimer soundStart = t := Host.Outcome.next.inj ht
  have hstays : (raisedAsleep.wakeTimer soundStart).raised = [(0x1A, 0)] := (congrArg State.raised hstart).trans hkept
  rw [hdropped] at hstays
  cases hstays

end Sys2Proof.Machine
end

section
/-! PROOF. O60 fails in BIST_DOMAIN_STARTUP: the claim says that every register of the domain's pages reads its reset value, and the
Lee page, alone in its domain, keeps its block registers through every reset of the page (R492, R495). -/
namespace Sys2Proof.Machine

/-- As reset leaves the part, but that Lee's WAKE_EN enables the wake pin. -/
def wakePinEnabled : State := { State.reset with regs := [(Page.base .lee + 0x40, 4)] }

/-- Start-up BIST of Lee's domain is accepted outside FIELD, and WAKE_EN stands after it. -/
theorem wakePinEnabled_bist :
    wakePinEnabled.accepts (put32 .headland .bistC 0x44 (0x80 + 1))
      ∧ (wakePinEnabled.pageWr .headland .bistC 0x44 (0x80 + 1)).reg .lee 0x40 = 4
      ∧ resetWord wakePinEnabled.fuses (Page.base .lee + 0x40) = 0 := by
  decide +kernel

/-- Refutes O60: after start-up BIST of domain 1, WAKE_EN holds 4, and not its reset value 0. -/
theorem not_selfTestAndLifeCycle : ¬ Obligations.SelfTestAndLifeCycle := by
  rintro ⟨-, -, -, -, -, -, hdomain, -⟩
  obtain ⟨haccepts, hstands, hreset⟩ := wakePinEnabled_bist
  obtain ⟨-, -, -, t, ht, -, -, hlost, -⟩ := hdomain .headland 1 wakePinEnabled (by decide) (by decide) (by decide) haccepts
  obtain rfl : wakePinEnabled.pageWr .headland .bistC 0x44 (0x80 + 1) = t := Host.Outcome.next.inj ht
  have hzero := hlost .lee (by decide) (by decide) rfl 0x40 (by decide)
  rw [hstands, if_neg (by decide), State.setReg_fuses, hreset] at hzero
  cases hzero

end Sys2Proof.Machine
end

section
/-! PROOF. The boot ROM's own writes on the fabric, and the hand-over to firmware: what O15 and O59 share. The writes root Breach in
Headland's guard and lock Breakwater's pages; whether they are accepted or not, the boot's own facts and BOOT_STAT stand. -/
namespace Sys2Proof.Machine

/-! ### What the boot ROM's writes leave -/

/-- From s to t the boot's facts and BOOT_STAT stand. -/
structure BootKept (s t : State) : Prop where
  boot : t.boot = s.boot
  stat : t.reg .sboot 0x40 = s.reg .sboot 0x40

theorem BootKept.refl (s : State) : BootKept s s := ⟨rfl, rfl⟩

theorem BootKept.trans {s t u : State} (h : BootKept s t) (h' : BootKept t u) : BootKept s u :=
  ⟨h'.boot.trans h.boot, h'.stat.trans h.stat⟩

theorem BootKept.foldl {α : Type} {f : State → α → State} (hf : ∀ s x, BootKept s (f s x)) (l : List α) (s : State) :
    BootKept s (l.foldl f s) := by
  induction l generalizing s with
  | nil => exact .refl s
  | cons x l ih => exact (hf s x).trans (ih (f s x))

/-- A page of the fabric other than the secure boot page, by an address of each. -/
theorem Page.sboot_stat_ne {p : Page} {off : Nat} (hv : p.valid = true) (hp : p ≠ .sboot) (ho : off < 0x1000) :
    Page.base .sboot + 0x40 ≠ p.base + off := by
  intro h
  have h1 := Page.ofAddr_base hv ho
  rw [← h, Page.ofAddr_base (p := .sboot) rfl (by decide)] at h1
  exact hp (Option.some.inj h1).symm

section
variable {p : Page} (hv : p.valid = true) (hp : p ≠ .sboot)
include hv hp

theorem BootKept.setReg (s : State) {off : Nat} (w : Word) (ho : off < 0x1000) : BootKept s (s.setReg p off w) :=
  ⟨State.setReg_boot s p off w, s.rd_setReg_ne w (Page.sboot_stat_ne hv hp ho)⟩

theorem BootKept.pageErr (s : State) (m : Master) (off : Nat) (r : Reason) : BootKept s (s.pageErr m p off r) :=
  .trans (.setReg hv hp s _ (by decide)) ⟨rfl, rfl⟩

theorem BootKept.irqBit (s : State) (k : Nat) : BootKept s (s.irqBit p k) :=
  .trans (.setReg hv hp s _ (by decide)) ⟨rfl, rfl⟩

/-- A field of PAGE_LOCK or PAGE_OWNER is stored, and no block hears of it. -/
theorem BootKept.headerWord (s : State) (w : Wr) {o : Nat} (hw : w.p = p) (ho : o = 0x18 ∨ o = 0x1C) :
    BootKept s (s.headerWord w o) := by
  subst hw
  rcases ho with rfl | rfl
  · simp only [State.headerWord, Nat.reduceEqDiff, if_false, if_true]
    split
    · exact .setReg hv hp s _ (by decide)
    · exact .refl s
  · exact .setReg hv hp s _ (by decide)

end

theorem BootKept.setRegF {p : Page} (hv : p.valid = true) (hp : p ≠ .sboot) (s : State) {off : Nat} (lo n v : Nat)
    (ho : off < 0x1000) : BootKept s (s.setRegF p off lo n v) := .setReg hv hp s _ ho

/-- The state with its fabric or Breakwater replaced. -/
theorem BootKept.setKeys (s : State) (p : Page) (k : Option KeySeq) : BootKept s (s.setKeys p k) := ⟨rfl, rfl⟩
theorem BootKept.answer (s : State) (m : Master) (r : Reason) (d : Nat) : BootKept s (s.answer m r d) := ⟨rfl, rfl⟩
theorem BootKept.arbitrate (s : State) (m : Master) (a n : Nat) : BootKept s (s.arbitrate m a n) := ⟨rfl, rfl⟩
theorem BootKept.setBw (s : State) (b : Breakwater) : BootKept s (s.setBw b) := ⟨rfl, rfl⟩

theorem BootKept.spend (s : State) (w : Wr) : BootKept s (s.spend w) := by
  unfold State.spend
  refine .foldl ?_ _ s
  exact fun _ _ => ⟨rfl, rfl⟩

/-- A step of the plan page's sequence (R423). -/
theorem BootKept.planKeyed (s0 : State) (accepted : Bool) (w : Wr) (s : State) :
    BootKept s (State.planKeyed s0 accepted w s) := by
  unfold State.planKeyed
  split
  · split
    · exact .trans (.setRegF rfl (by decide) s _ _ _ (by decide)) (.setBw _ _)
    · exact .setBw s _
  · split
    · exact .setBw s _
    · exact .refl s

/-- A word that the boot ROM writes while it roots capabilities or locks Breakwater: in the region table of Headland's guard, or a
PAGE_LOCK or PAGE_OWNER (R66, R373). -/
def romWord (p : Page) (off : Nat) : Prop :=
  p.valid = true ∧ p ≠ .sboot ∧ (∀ n, p ≠ .wdt n) ∧ p ≠ .swdt ∧
    (p = .guard 0 ∧ 0x800 ≤ off ∧ off < 0x1000 ∨ off = 0x18 ∨ off = 0x1C)

section
variable {p : Page} {off : Nat} (h : romWord p off)
include h

theorem romWord.off_lt : off < 0x1000 := by
  obtain ⟨-, -, -, -, ⟨-, -, h⟩ | h | h⟩ := h <;> omega

theorem BootKept.pageApply (s : State) (m : Master) (v : Nat) : BootKept s (s.pageApply ⟨m, p, off, false, v⟩) := by
  have hoff := h.off_lt
  obtain ⟨hv, hp, -, -, hword⟩ := h
  refine .trans ?_ (.spend _ _)
  rcases hword with ⟨rfl, hlo, -⟩ | hheader
  · have hclr : (⟨m, .guard 0, off, false, v⟩ : Wr).hits (0x40 + 0x10) = false := by
      simp only [Wr.hits, Bool.false_and, Bool.or_false, beq_eq_false_iff_ne]
      omega
    rw [if_pos (Nat.le_trans (by decide) hlo)]
    simp only [State.pageEff, effGuard, hclr, Bool.false_and, Bool.false_eq_true, if_false]
    exact .setReg (p := .guard 0) rfl (by decide) s _ hoff
  · rw [if_neg (by simp only; omega)]
    exact .headerWord hv hp s _ rfl hheader

theorem BootKept.pageWrite (s : State) (m : Master) (v : Nat) : BootKept s (s.pageWrite ⟨m, p, off, false, v⟩).2 := by
  unfold State.pageWrite
  dsimp only
  split
  case isTrue =>
    refine .trans (.pageApply h s m v) ?_
    split
    · exact .trans (.planKeyed s true _ _) (.setKeys _ _ _)
    · exact .setKeys _ _ _
  case isFalse =>
    obtain ⟨hv, hp, hwdt, hswdt, -⟩ := h
    refine .trans ?_ (.trans (.pageErr hv hp _ m off _) (.setKeys _ _ _))
    unfold State.pageRejected
    split
    case h_1 n hn => exact absurd hn (hwdt n)
    case h_2 hn => exact absurd hn hswdt
    case h_3 => exact .planKeyed s false _ s
    case h_4 => exact .refl s

theorem BootKept.accWrite (s : State) (m : Master) (v : Nat) :
    BootKept s (s.accWrite ⟨m, p.base + off, 4, v, true⟩).2 := by
  have hoff := h.off_lt
  have hreport (t : State) (r : Reason) : BootKept t (t.reportWrite m (p.base + off) r (.page p)) := by
    dsimp only [State.reportWrite]
    split
    · exact .pageErr h.1 h.2.1 t m _ r
    · exact .refl t
  have hregion (t : State) (x : Nat) : BootKept t (t.regionWrite m (p.base + off) 4 x (.page p)).2 := by
    unfold State.regionWrite
    dsimp only
    split
    · rw [Nat.add_sub_cancel_left]
      exact .pageWrite h t m x
    · exact .refl t
  have hdecode : s.decode m (p.base + off) 4 = none ∨ s.decode m (p.base + off) 4 = some (.page p) := by
    simp only [State.decode, regionAt_page s h.1 hoff]
    split
    · exact .inr rfl
    · exact .inl rfl
  unfold State.accWrite
  rcases hdecode with hd | hd
  · simp only [hd]
    exact .refl s
  · simp only [hd, Bool.not_true, Bool.false_eq_true, if_false]
    refine .trans (.arbitrate s m (p.base + off) 4) ?_
    split
    · exact hreport _ _
    · exact hregion _ _

theorem BootKept.romWrite (s : State) (v : Nat) : BootKept s (s.romWrite (p.base + off) v).2 := by
  have hdeny (f : Nat) : BootKept s (s.guardDeny .headland .store f) := by
    have hset {t : State} {o : Nat} {w : Word} (ho : o < 0x1000) : BootKept t (t.setReg (.guard 0) o w) :=
      .setReg rfl (by decide) t w ho
    simp only [State.guardDeny, guardOf]
    refine .trans ?_ (.trans (hset (by decide)) (.irqBit rfl (by decide) _ _))
    split
    · exact hset (by decide)
    · exact .trans (hset (by decide)) (hset (by decide))
  unfold State.romWrite State.fabricWrite
  dsimp only
  split
  · exact .trans (hdeny _) (.answer _ _ _ _)
  · exact .trans (.accWrite h s .headland v) (.answer _ _ _ _)

end

theorem BootKept.romWrites (s : State) (ws : List (Nat × Nat)) (h : ∀ x ∈ ws, ∃ p off, x.1 = p.base + off ∧ romWord p off) :
    BootKept s (s.romWrites ws).2 := by
  induction ws generalizing s with
  | nil => exact .refl s
  | cons x ws ih =>
    obtain ⟨p, off, haddr, hword⟩ := h x (List.mem_cons_self ..)
    obtain ⟨a, v⟩ := x
    obtain rfl : a = p.base + off := haddr
    exact .trans (.romWrite hword s v) (ih _ fun y hy => h y (List.mem_cons_of_mem _ hy))

/-! ### The hand-over -/

theorem BootKept.withSv (s : State) (c : SvCore) : BootKept s { s with sv := c } := ⟨rfl, rfl⟩

theorem BootKept.rootBreach (s : State) : BootKept s s.rootBreach := by
  have hword {k o : Nat} (h : regionOff 0x800 k 31 + o < 0x1000) :
      ∃ p off, Page.base (.guard 0) + regionOff 0x800 k 31 + o = p.base + off ∧ romWord p off :=
    ⟨.guard 0, regionOff 0x800 k 31 + o, Nat.add_assoc .., rfl, nofun, nofun, nofun,
      .inl ⟨rfl, by simp only [regionOff]; omega, h⟩⟩
  unfold State.rootBreach
  dsimp only
  refine .trans (.romWrites s _ ?_) (.withSv _ _)
  simp only [List.forall_mem_cons]
  exact ⟨hword (by decide), hword (by decide), hword (by decide), hword (by decide), hword (by decide), hword (by decide), nofun⟩

theorem BootKept.lockBreakwater (s : State) : BootKept s s.lockBreakwater := by
  refine .romWrites s _ fun x hx => ?_
  obtain ⟨p, hp, hx⟩ := List.mem_flatMap.mp hx
  have hpage : p.valid = true ∧ p ≠ .sboot ∧ (∀ n, p ≠ .wdt n) ∧ p ≠ .swdt := by
    simp only [List.mem_cons, List.not_mem_nil, or_false] at hp
    rcases hp with rfl | rfl | rfl | rfl | rfl | rfl <;> exact ⟨rfl, nofun, nofun, nofun⟩
  obtain ⟨hv, hs, hw, hd⟩ := hpage
  simp only [List.mem_cons, List.not_mem_nil, or_false] at hx
  rcases hx with rfl | rfl
  · exact ⟨p, 0x1C, rfl, hv, hs, hw, hd, .inr (.inr rfl)⟩
  · exact ⟨p, 0x18, rfl, hv, hs, hw, hd, .inr (.inl rfl)⟩

/-- BOOT_STAT as a boot from a source leaves it (R498). -/
def BootTry.stat (t : BootTry) (bs : List Nat) (src : Nat) : Word :=
  wordOf (src * 16 + (if t.unsigned then 64 else 0) + imgN bs 12 1 * 256)

/-- The facts of a booted image recorded, capabilities rooted and Breakwater locked: a boot up to step 10 (R476). -/
def BootTry.locked (t : BootTry) (bs : List Nat) (src : Nat) : State :=
  let s1 := t.loaded.setReg .sboot 0x40 (t.stat bs src)
  let s2 := s1.setReg .sboot 0x44 (wordOf (imgN bs 8 4))
  let s3 := (hashWords (sha256 (bs.take (imgLen bs)))).zipIdx.foldl
    (fun (s : State) (e : Word × Nat) => s.setReg .sboot (0x60 + 4 * e.2) e.1) s2
  let s4 := s3.rootBreach
  if s4.bwLocked then s4 else s4.lockBreakwater

theorem BootTry.locked_kept (t : BootTry) (bs : List Nat) (src : Nat) :
    (t.locked bs src).boot = t.loaded.boot ∧ (t.locked bs src).reg .sboot 0x40 = t.stat bs src := by
  have hfact (s : State) {off : Nat} (w : Word) (h : off ≠ 0x40) : BootKept s (s.setReg .sboot off w) :=
    ⟨s.setReg_boot .., s.rd_setReg_ne w (by omega)⟩
  have hlock (s : State) : BootKept s (if s.bwLocked then s else s.lockBreakwater) := by
    split
    · exact .refl s
    · exact .lockBreakwater s
  have hkept : BootKept (t.loaded.setReg .sboot 0x40 (t.stat bs src)) (t.locked bs src) := by
    refine .trans (hfact _ _ (by decide)) (.trans (.foldl (fun u e => ?_) _ _) (.trans (.rootBreach _) (hlock _)))
    exact hfact u e.1 (by omega)
  exact ⟨hkept.boot.trans (State.setReg_boot ..), hkept.stat.trans (State.reg_setReg ..)⟩

/-- Step 11: what is left of a boot, unless the HOLD latch is set (R476). -/
theorem bootDone_eq (t : BootTry) (bs : List Nat) (src : Nat) :
    State.bootDone t bs src =
      let s := { t.locked bs src with boot := { (t.locked bs src).boot with wait := false, stream := [] } }
      if s.holdLatch then s
      else
        let u := (s.rootFirmware bs).resumeWatchdogs
        { u with boot := { u.boot with firmware := true, released := true, retained := [] } } := rfl

theorem State.rootFirmware_frame (s : State) (bs : List Nat) :
    (s.rootFirmware bs).boot = s.boot ∧ ∀ a, (s.rootFirmware bs).rd a = s.rd a := by
  unfold State.rootFirmware
  split
  · exact ⟨rfl, fun _ => rfl⟩
  · exact ⟨rfl, fun _ => rfl⟩

theorem State.resumeWatchdogs_frame (s : State) :
    s.resumeWatchdogs.boot = { s.boot with held := [] } ∧ ∀ a, s.resumeWatchdogs.rd a = s.rd a := by
  have hfold (l : List (Nat × Nat)) (u : State) (f : State → Nat × Nat → Wdt) :
      (l.foldl (fun s h => s.setWdog h.1 (f s h)) u).boot = u.boot
        ∧ ∀ a, (l.foldl (fun s h => s.setWdog h.1 (f s h)) u).rd a = u.rd a := by
    induction l generalizing u with
    | nil => exact ⟨rfl, fun _ => rfl⟩
    | cons h l ih => exact ih (u.setWdog h.1 (f u h))
  obtain ⟨hboot, hrd⟩ := hfold s.boot.held s fun s h => { s.wdog h.1 with zero := s.now - 8000 * h.2 }
  exact ⟨by rw [State.resumeWatchdogs]; simp only [hboot], hrd⟩

/-- A boot that passed its checks hands over, and BOOT_STAT says from where (R476, R498). -/
theorem bootDone_handsOver (t : BootTry) (bs : List Nat) (src : Nat) :
    HandedOver t.loaded (State.bootDone t bs src) ∧ (State.bootDone t bs src).reg .sboot 0x40 = t.stat bs src := by
  obtain ⟨hboot, hstat⟩ := t.locked_kept bs src
  rw [bootDone_eq]
  generalize t.locked bs src = s at hboot hstat
  dsimp only
  have hlatch : State.holdLatch { s with boot := { s.boot with wait := false, stream := [] } } = s.holdLatch := rfl
  rw [hlatch]
  split
  case isTrue hheld =>
    refine ⟨⟨fun h => ?_, fun _ => ?_, rfl, rfl⟩, hstat⟩
    · exact absurd (hlatch.symm.trans h) (by rw [hheld]; decide)
    · exact ⟨(congrArg Boot.firmware hboot :), (congrArg Boot.released hboot :)⟩
  case isFalse hfree =>
    obtain ⟨hroot, hrootRd⟩ := State.rootFirmware_frame { s with boot := { s.boot with wait := false, stream := [] } } bs
    obtain ⟨hresume, hresumeRd⟩ := (State.rootFirmware { s with boot := { s.boot with wait := false, stream := [] } } bs).resumeWatchdogs_frame
    generalize State.resumeWatchdogs (State.rootFirmware _ bs) = u at hresume hresumeRd
    have hrd (a : Nat) : u.rd a = s.rd a := (hresumeRd a).trans (hrootRd a)
    rw [hroot] at hresume
    refine ⟨⟨fun _ => ⟨rfl, rfl, congrArg Boot.held hresume, rfl⟩, fun h => ?_, congrArg Boot.wait hresume,
      congrArg Boot.stream hresume⟩, (hrd _).trans hstat⟩
    have hsame : s.holdLatch = true := by
      have hbit : bit (u.rd (Page.base .lee + 0x50)) 0 = true := h
      rwa [hrd] at hbit
    exact absurd hsame hfree

end Sys2Proof.Machine
end

section
/-! PROOF. What a reset records of itself, and what a reset of either die leaves: the layer under O15 (R491, R492). -/
namespace Sys2Proof.Machine

/-! ### The cause and the counts of a reset -/

/-- What follows the cause's own register: one of the two counts, or none. -/
theorem State.resetCause_cases (s : State) (cause src : Nat) {P : State → Prop}
    (happ : cause = 4 ∨ cause = 6 → P ((s.setReg .sys 0x70 (wordOf (cause + src * 16))).satIncF .sys 0x74 0 16))
    (hdev : cause = 2 ∨ cause = 3 ∨ cause = 7 → P ((s.setReg .sys 0x70 (wordOf (cause + src * 16))).satIncF .sys 0x74 16 16))
    (hnone : ¬ (cause = 4 ∨ cause = 6) → ¬ (cause = 2 ∨ cause = 3 ∨ cause = 7) →
      P (s.setReg .sys 0x70 (wordOf (cause + src * 16)))) : P (s.resetCause cause src) := by
  unfold State.resetCause
  simp only [Bool.or_eq_true, decide_eq_true_eq]
  split
  case isTrue h => exact happ h
  case isFalse h =>
    split
    case isTrue h' => exact hdev (or_assoc.mp h')
    case isFalse h' => exact hnone h fun h'' => h' (or_assoc.mpr h'')

/-- `t` differs from `s` in registers alone. -/
def RegsOnly (s t : State) : Prop := t = { s with regs := t.regs }

theorem RegsOnly.trans {s t u : State} (h : RegsOnly s t) (h' : RegsOnly t u) : RegsOnly s u := by
  unfold RegsOnly at h
  generalize t.regs = regs at h
  subst h
  exact h'

theorem RegsOnly.setReg (s : State) (p : Page) (off : Nat) (w : Word) : RegsOnly s (s.setReg p off w) := rfl

theorem RegsOnly.satIncF (s : State) (p : Page) (off lo n k : Nat) : RegsOnly s (s.satIncF p off lo n k) :=
  RegsOnly.setReg s p off _

theorem State.resetCause_frame (s : State) (cause src : Nat) : RegsOnly s (s.resetCause cause src) :=
  s.resetCause_cases cause src (fun _ => (RegsOnly.setReg ..).trans (RegsOnly.satIncF ..))
    (fun _ => (RegsOnly.setReg ..).trans (RegsOnly.satIncF ..)) fun _ _ => RegsOnly.setReg ..

theorem State.rd_resetCause_ne (s : State) (cause src : Nat) {a : Nat} (h : a ≠ Page.base .sys + 0x70)
    (h' : a ≠ Page.base .sys + 0x74) : (s.resetCause cause src).rd a = s.rd a := by
  refine s.resetCause_cases cause src (P := fun t => t.rd a = s.rd a) ?_ ?_ ?_ <;> intros
  · rw [State.rd_satIncF_ne _ _ h', State.rd_setReg_ne _ _ h]
  · rw [State.rd_satIncF_ne _ _ h', State.rd_setReg_ne _ _ h]
  · rw [State.rd_setReg_ne _ _ h]

theorem State.reg_resetCause (s : State) (cause src : Nat) :
    (s.resetCause cause src).reg .sys 0x70 = wordOf (cause + src * 16) := by
  refine s.resetCause_cases cause src (P := fun t => t.reg .sys 0x70 = wordOf (cause + src * 16)) ?_ ?_ ?_ <;> intros
  · rw [State.reg, State.rd_satIncF_ne _ _ (by decide)]
    exact s.reg_setReg ..
  · rw [State.reg, State.rd_satIncF_ne _ _ (by decide)]
    exact s.reg_setReg ..
  · exact s.reg_setReg ..

/-- A count that saturates in one half of RST_CNT goes up, and the other half stands. -/
theorem State.regF_satIncF_half (s : State) {lo k : Nat} (hlo : lo ≤ 16) (hk : k ≤ 16) (h : k + 16 ≤ lo ∨ lo + 16 ≤ k) :
    (s.satIncF .sys 0x74 lo 16).regF .sys 0x74 lo 16 = min (s.regF .sys 0x74 lo 16 + 1) 65535
      ∧ (s.satIncF .sys 0x74 lo 16).regF .sys 0x74 k 16 = s.regF .sys 0x74 k 16 := by
  simp only [State.satIncF, State.regF, State.reg_setRegF]
  exact ⟨(fld_setFld _ _ (by omega)).trans (Nat.mod_eq_of_lt (by omega)), fld_setFld_ne _ _ (by omega) h⟩

/-- The cause, the source and the count of a reset on dies that keep RST_CNT (R491, R492). -/
theorem State.resetCause_sets {s u : State} (cause src : Nat) (h : u.reg .sys 0x74 = s.reg .sys 0x74) :
    CauseSet s (u.resetCause cause src) cause src (decide (cause = 4 ∨ cause = 6)) (decide (cause = 2 ∨ cause = 3 ∨ cause = 7)) := by
  have hcnt (w : Word) (k : Nat) : (u.setReg .sys 0x70 w).regF .sys 0x74 k 16 = s.regF .sys 0x74 k 16 := by
    rw [State.regF, State.reg_setReg_ne _ _ (by decide), h]
    rfl
  refine ⟨u.reg_resetCause cause src, ?_⟩
  refine u.resetCause_cases cause src (P := fun t => t.regF .sys 0x74 0 16 = _ ∧ t.regF .sys 0x74 16 16 = _) ?_ ?_ ?_
  · intro hc
    obtain ⟨hself, hother⟩ := (u.setReg .sys 0x70 (wordOf (cause + src * 16))).regF_satIncF_half (lo := 0) (k := 16)
      (by decide) (by decide) (by decide)
    rw [hself, hother, hcnt, hcnt, if_pos (by simpa using hc), if_neg (by simp; omega)]
    exact ⟨rfl, rfl⟩
  · intro hc
    obtain ⟨hself, hother⟩ := (u.setReg .sys 0x70 (wordOf (cause + src * 16))).regF_satIncF_half (lo := 16) (k := 0)
      (by decide) (by decide) (by decide)
    rw [hself, hother, hcnt, hcnt, if_neg (by simp; omega), if_pos (by simpa using hc)]
    exact ⟨rfl, rfl⟩
  · intro hc hd
    rw [hcnt, hcnt, if_neg (by simpa using hc), if_neg (by simpa using hd)]
    exact ⟨rfl, rfl⟩

/-! ### Registers that a reset of the dies keeps -/

theorem tabGet?_filter {α : Type} (f : Nat → Bool) (t : Tab α) (k : Nat) :
    tabGet? (t.filter fun e => f e.1) k = if f k then tabGet? t k else none := by
  induction t with
  | nil => simp [tabGet?]
  | cons e t ih =>
    obtain ⟨a, v⟩ := e
    by_cases ha : f a <;> by_cases hk : k = a <;> simp_all [tabGet?]

/-- RST_CNT resets to 0. -/
theorem resetWord_rstCnt (f : Fuses) : resetWord f (Page.base .sys + 0x74) = 0 := by
  simp only [resetWord, Page.ofAddr_base (p := .sys) (off := 0x74) rfl (by decide), Nat.add_sub_cancel_left]
  rfl

/-- Of the words kept of a register file by their addresses, with RST_CNT: RST_CNT stands, and a word not kept is reset. -/
theorem State.rd_keepWords {s u : State} (f : Nat → Bool)
    (h : u.regs = tabSet 0 (s.regs.filter fun e => f e.1) (Page.base .sys + 0x74) (s.reg .sys 0x74)) :
    u.reg .sys 0x74 = s.reg .sys 0x74
      ∧ ∀ a, a ≠ Page.base .sys + 0x74 → f a = false → u.rd a = resetWord u.fuses a := by
  refine ⟨?_, fun a ha hf => ?_⟩
  · rw [State.reg, State.rd, h, resetWord_rstCnt, tabGet_set]
  · rw [State.rd, h, tabGet_set_ne _ _ _ _ ha, tabGet, tabGet?_filter, if_neg (by simp [hf])]
    rfl

/-! ### Both dies reset -/

theorem State.fullReset_regs (s : State) (now : Nat) (mem : List Host.Cell) : (s.fullReset now mem).regs
    = tabSet 0 (s.regs.filter fun e => leeWord e.1) (Page.base .sys + 0x74) (s.reg .sys 0x74) := rfl

theorem State.fullReset_cnt (s : State) (now : Nat) (mem : List Host.Cell) :
    (s.fullReset now mem).reg .sys 0x74 = s.reg .sys 0x74 := (State.rd_keepWords leeWord (s.fullReset_regs now mem)).1

/-- What a reset of both dies leaves (R491). -/
theorem State.fullReset_fresh (s : State) (now : Nat) : BothFresh s (s.fullReset now s.flash) now :=
  ⟨rfl, rfl, rfl, rfl, rfl, rfl, rfl, rfl, rfl, rfl, rfl, rfl, rfl, rfl, rfl, rfl, rfl, rfl, rfl, rfl, rfl, rfl,
    fun a hlee _ hcnt => (State.rd_keepWords leeWord (s.fullReset_regs now s.flash)).2 a hcnt hlee⟩

theorem BothFresh.resetCause {s u : State} {now : Nat} (h : BothFresh s u now) (cause src : Nat) :
    BothFresh s (u.resetCause cause src) now := by
  have hrd {a : Nat} := @State.rd_resetCause_ne u cause src a
  have hframe := u.resetCause_frame cause src
  unfold RegsOnly at hframe
  generalize u.resetCause cause src = v at hrd hframe
  generalize v.regs = regs at hframe
  subst hframe
  obtain ⟨h1, h2, h3, h4, h5, h6, h7, h8, h9, h10, h11, h12, h13, h14, h15, h16, h17, h18, h19, h20, h21, h22, hregs⟩ := h
  exact ⟨h1, h2, h3, h4, h5, h6, h7, h8, h9, h10, h11, h12, h13, h14, h15, h16, h17, h18, h19, h20, h21, h22,
    fun a hlee hcause hcnt => (hrd hcause hcnt).trans (hregs a hlee hcause hcnt)⟩

/-- The dies that have reset, with the cause recorded: where step 5 of the start-up sequence finds them (R475). -/
def State.resetBy (s : State) (cause src : Nat) : State := (s.fullReset 0 s.flash).resetCause cause src

theorem State.resetBy_fresh (s : State) (cause src : Nat) : BothFresh s (s.resetBy cause src) 0 :=
  (s.fullReset_fresh 0).resetCause cause src

theorem State.resetBy_cause (s : State) (cause src : Nat) :
    CauseSet s (s.resetBy cause src) cause src (decide (cause = 4 ∨ cause = 6)) (decide (cause = 2 ∨ cause = 3 ∨ cause = 7)) :=
  State.resetCause_sets cause src (s.fullReset_cnt 0 s.flash)

/-- A failure of the rails leaves the dies as a reset does, and counts in the supply (R475). -/
theorem State.railDown_eq (s : State) : s.railDown = { s.resetBy 7 0 with supply :=
    { (s.resetBy 7 0).supply with
      rails := false, railFails := s.supply.railFails + 1, railAt := s.now
      railDead := decide (2 ≤ s.supply.railFails + 1) } } := rfl

end Sys2Proof.Machine
end

section
/-! PROOF. O15: start-up's steps 5 to 8, the choice of an image, and the checks that let one boot. -/
namespace Sys2Proof.Machine

/-! ### Start-up -/

/-- From s to t nothing differs but registers, the fabric's records and domains, and Lee's record of HOLD stands. -/
structure BistKept (s t : State) : Prop where
  frame : t = { s with regs := t.regs, fab := t.fab, domains := t.domains }
  hold : t.reg .lee 0x50 = s.reg .lee 0x50

theorem BistKept.refl (s : State) : BistKept s s := ⟨rfl, rfl⟩

theorem BistKept.trans {s t u : State} (h : BistKept s t) (h' : BistKept t u) : BistKept s u := by
  refine ⟨?_, h'.hold.trans h.hold⟩
  obtain ⟨hframe, -⟩ := h
  generalize t.regs = regs, t.fab = fab, t.domains = domains at hframe
  subst hframe
  exact h'.frame

theorem BistKept.fuses {s t : State} (h : BistKept s t) : t.fuses = s.fuses := by rw [h.frame]

theorem BistKept.of_regsFab {s t : State} (h : RegsFab s t) (hold : t.reg .lee 0x50 = s.reg .lee 0x50) : BistKept s t := by
  refine ⟨?_, hold⟩
  unfold RegsFab at h
  generalize t.regs = regs, t.fab = fab at h
  subst h
  rfl

theorem BistKept.setReg (s : State) {p : Page} {off : Nat} (w : Word) (h : Page.base .lee + 0x50 ≠ p.base + off) :
    BistKept s (s.setReg p off w) := .of_regsFab (.setReg s p off w) (s.rd_setReg_ne w h)

theorem BistKept.irqBit (s : State) {p : Page} (k : Nat) (h : Page.base .lee + 0x50 ≠ p.base + 0x20) :
    BistKept s (s.irqBit p k) := .of_regsFab (.irqBit s p k) (s.rd_irqBit_ne k h)

theorem BistKept.setDomain (s : State) (d : Nat) (v : DomState) : BistKept s (s.setDomain d v) := ⟨rfl, rfl⟩

/-- Start-up BIST's record of one domain (R488, R497). -/
def State.bistRecord (f : StartFacts) (s : State) (d : Nat) : State :=
  let (r, n) := s.bistStart f d
  let s2 := s.setReg .bistR (0x800 + 4 * d) (wordOf (r + min n 65535 * 2 ^ 16))
  if r = 3 && !s.bistStrict && !bistVital d then (s2.setDomain d .keptOff).irqBit .pwr 1 else s2

theorem State.bistRecord_kept (f : StartFacts) (s : State) (d : Nat) : BistKept s (s.bistRecord f d) := by
  have hset (w : Word) : BistKept s (s.setReg .bistR (0x800 + 4 * d) w) :=
    .setReg s w (by simp only [Page.base, Page.slot]; omega)
  unfold State.bistRecord
  dsimp only
  split
  · exact (hset _).trans ((BistKept.setDomain _ _ _).trans (.irqBit _ _ (by decide)))
  · exact hset _

theorem State.domain_setReg (s : State) (p : Page) (off : Nat) (w : Word) (d : Nat) :
    (s.setReg p off w).domain d = s.domain d := rfl

theorem State.domain_irqBit (s : State) (p : Page) (k d : Nat) : (s.irqBit p k).domain d = s.domain d := rfl

/-- A record keeps a domain off that was kept off, and its own where the failure is neither repaired nor vital (R488). -/
theorem State.bistRecord_domain (f : StartFacts) (s : State) (k d : Nat)
    (h : s.domain d = .keptOff ∨ k = d ∧ (s.bistStart f d).1 = 3 ∧ s.bistStrict = false ∧ bistVital d = false) :
    (s.bistRecord f k).domain d = .keptOff := by
  have hput (t : State) (j : Nat) (ht : j = d ∨ t.domain d = .keptOff) : (t.setDomain j .keptOff).domain d = .keptOff := by
    by_cases hj : d = j
    · subst hj
      exact tabGet_put _ t.domains d _
    · exact (tabGet_put_ne _ t.domains _ hj).trans (ht.resolve_left (Ne.symm hj))
  unfold State.bistRecord
  dsimp only
  split
  case isTrue =>
    rw [State.domain_irqBit]
    exact hput _ k (by rw [State.domain_setReg]; exact h.symm.imp_left And.left)
  case isFalse hkept =>
    rw [State.domain_setReg]
    refine h.resolve_right fun ⟨hk, hfail, hstrict, hvital⟩ => hkept ?_
    subst hk
    simp only [hfail, hstrict, hvital]
    rfl

theorem State.bistRecords_kept (f : StartFacts) (ds : List Nat) (s : State) : BistKept s (ds.foldl (State.bistRecord f) s) := by
  induction ds generalizing s with
  | nil => exact .refl s
  | cons d ds ih => exact (s.bistRecord_kept f d).trans (ih _)

/-- What BIST found in a domain turns on the part alone. -/
theorem State.bistStart_congr {s t : State} (h : t.fuses = s.fuses) (f : StartFacts) (d : Nat) :
    t.bistStart f d = s.bistStart f d ∧ t.bistStrict = s.bistStrict := by
  unfold State.bistStart State.bistStrict
  rw [h]
  exact ⟨rfl, rfl⟩

theorem State.bistRecords_domain (f : StartFacts) (ds : List Nat) (s : State) (d : Nat)
    (h : s.domain d = .keptOff ∨ d ∈ ds ∧ (s.bistStart f d).1 = 3 ∧ s.bistStrict = false ∧ bistVital d = false) :
    (ds.foldl (State.bistRecord f) s).domain d = .keptOff := by
  induction ds generalizing s with
  | nil => exact h.resolve_right fun ⟨hd, _⟩ => List.not_mem_nil hd
  | cons k ds ih =>
    obtain ⟨hstart, hstrict⟩ := State.bistStart_congr (s.bistRecord_kept f k).fuses f d
    refine ih _ ?_
    rw [hstart, hstrict]
    rcases h with h | ⟨hmem, hfail⟩
    · exact .inl (s.bistRecord_domain f k d (.inl h))
    · rcases List.mem_cons.mp hmem with rfl | hmem
      · exact .inl (s.bistRecord_domain f d d (.inr ⟨rfl, hfail⟩))
      · exact .inr ⟨hmem, hfail⟩

/-- The domains that start-up BIST goes through, 12 to 36 (R484). -/
def bistDomains : List Nat := (List.range 25).map (· + 12)

theorem mem_bistDomains {d : Nat} : d ∈ bistDomains ↔ 12 ≤ d ∧ d < 37 := by
  simp only [bistDomains, List.mem_map, List.mem_range]
  exact ⟨by omega, fun h => ⟨d - 12, by omega, by omega⟩⟩

/-- A domain whose failure start-up BIST takes as one of the whole part (R488). -/
def State.bistHolds (s : State) (f : StartFacts) : Bool :=
  bistDomains.any fun d => (s.bistStart f d).1 = 3 && (s.bistStrict || bistVital d)

/-- Start-up BIST up to the HOLD latch: its results, time, repairs and spares (R488, R497). -/
def State.bistRecorded (s : State) (f : StartFacts) : State :=
  let total := (bistDomains.map fun d => (s.bistStart f d).2).foldl (· + ·) 0
  (((bistDomains.foldl (State.bistRecord f) s).setReg .bistR 0x40 (wordOf (f.bistTime % 65536))).setRegF .rep 0x40 0 16
    (min total 65535)).setReg .rep 0x44 (wordOf (f.spares % 65536))

theorem State.startBist_eq (s : State) (f : StartFacts) :
    s.startBist f = if s.bistHolds f then (s.bistRecorded f).setRegF .lee 0x50 0 1 1 else s.bistRecorded f := rfl

theorem State.bistRecorded_kept (s : State) (f : StartFacts) : BistKept s (s.bistRecorded f) := by
  unfold State.bistRecorded State.setRegF
  exact (State.bistRecords_kept f _ s).trans <| (BistKept.setReg _ _ (by decide)).trans <|
    (BistKept.setReg _ _ (by decide)).trans (BistKept.setReg _ _ (by decide))

theorem State.holdLatch_set (s : State) : (s.setRegF .lee 0x50 0 1 1).holdLatch = true := by
  rw [State.holdLatch, State.reg_setRegF, bit_setFld _ _ (by decide) (by decide) (by decide)]
  rfl

/-- Start-up BIST sets the HOLD latch or leaves it, and changes registers, fabric records and domains alone. -/
theorem State.startBist_does (s : State) (f : StartFacts) :
    s.startBist f = { s with regs := (s.startBist f).regs, fab := (s.startBist f).fab, domains := (s.startBist f).domains }
      ∧ (s.startBist f).domains = (s.bistRecorded f).domains
      ∧ (s.startBist f).holdLatch = (s.bistHolds f || s.holdLatch) := by
  obtain ⟨hframe, hhold⟩ := s.bistRecorded_kept f
  rw [State.startBist_eq]
  split
  case isTrue h =>
    refine ⟨?_, State.setRegF_domains .., by rw [State.holdLatch_set, h, Bool.true_or]⟩
    generalize s.bistRecorded f = u at hframe
    unfold State.setRegF State.setReg State.wr
    rw [hframe]
  case isFalse h =>
    refine ⟨hframe, rfl, ?_⟩
    rw [Bool.not_eq_true] at h
    rw [h, Bool.false_or, State.holdLatch, hhold, State.holdLatch]

theorem State.bistRecorded_domain (s : State) (f : StartFacts) (d : Nat) :
    tabGet (domDefault d) (s.bistRecorded f).domains d = (bistDomains.foldl (State.bistRecord f) s).domain d := by
  simp only [State.bistRecorded, State.setReg_domains, State.setRegF_domains, State.domain]

theorem State.bistStart_fails {s : State} {f : StartFacts} {d : Nat} (h : (f.bist.find? fun x => x.1 = d) = some (d, none)) :
    (s.bistStart f d).1 = 3 := by
  rw [State.bistStart, h]

theorem bistVital_range {d : Nat} (h : bistVital d = true) : d ∈ bistDomains := by
  rw [mem_bistDomains]
  simp only [bistVital, Bool.or_eq_true, Bool.and_eq_true, decide_eq_true_eq] at h
  omega

/-- The state after steps 5 and 6, the self-test and the rails (R475, R476). -/
def State.railsUp (s : State) (f : StartFacts) : State :=
  let s1 := if f.selfTest then s else s.setRegF .lee 0x50 0 1 1
  { s1 with supply := { s1.supply with rails := true, railFails := 0 } }.setRegF .tioc 0x40 0 1 1

theorem State.startUp_boots {f : StartFacts} (h : f.rails = true) (s : State) (bist : Bool) :
    s.startUp f bist = (if bist then (s.railsUp f).startBist f else s.railsUp f).romBoot f.took := by
  unfold State.startUp
  rw [h]
  rfl

theorem State.startUp_fails {f : StartFacts} (h : f.rails = false) (s : State) (bist : Bool) :
    s.startUp f bist = (if f.selfTest then s else s.setRegF .lee 0x50 0 1 1).railDown := by
  unfold State.startUp
  rw [h]
  rfl

/-- A failed self-test sets the HOLD latch, a passed one leaves it; nothing else differs but registers and the supply. -/
theorem State.railsUp_does (s : State) (f : StartFacts) :
    s.railsUp f = { s with regs := (s.railsUp f).regs, supply := { s.supply with rails := true, railFails := 0 } }
      ∧ (s.railsUp f).holdLatch = (!f.selfTest || s.holdLatch) := by
  have hframe (t : State) (p : Page) (off lo n v : Nat) (ht : RegsOnly s t) :
      { t with supply := { t.supply with rails := true, railFails := 0 } }.setRegF p off lo n v
        = { s with
            regs := ({ t with supply := { t.supply with rails := true, railFails := 0 } }.setRegF p off lo n v).regs
            supply := { s.supply with rails := true, railFails := 0 } } := by
    unfold RegsOnly at ht
    generalize t.regs = regs at ht
    subst ht
    rfl
  have hlatch (t : State) : ({ t with supply := { t.supply with rails := true, railFails := 0 } }.setRegF .tioc 0x40 0 1 1).holdLatch
      = t.holdLatch := by
    rw [State.holdLatch, State.reg, State.rd_setRegF_ne _ _ (by decide)]
    rfl
  unfold State.railsUp
  dsimp only
  split
  case isTrue h => exact ⟨hframe s _ _ _ _ _ rfl, by rw [hlatch, h]; rfl⟩
  case isFalse h =>
    rw [Bool.not_eq_true] at h
    exact ⟨hframe _ _ _ _ _ _ (RegsOnly.setReg ..), by rw [hlatch, State.holdLatch_set, h]; rfl⟩

theorem State.reg_withSupply (s : State) (x : Supply) (p : Page) (off : Nat) :
    ({ s with supply := x } : State).reg p off = s.reg p off := rfl

/-- Failed rails: both dies are reset with cause RAIL_FAIL and count one more failure (R475, R491). -/
theorem State.startUp_railFail {f : StartFacts} (h : f.rails = false) (s : State) (bist : Bool) :
    let t := s.startUp f bist
    t.supply.rails = false ∧ t.regF .sys 0x70 0 4 = 7 ∧ t.boot.running = false ∧ t.boot.released = false ∧ t.mem = s.flash
      ∧ t.supply.railFails = s.supply.railFails + 1 ∧ t.supply.railDead = decide (1 ≤ s.supply.railFails) := by
  have hdown (u : State) (hmem : u.flash = s.flash) (hsupply : u.supply = s.supply) :
      u.railDown.supply.rails = false ∧ u.railDown.regF .sys 0x70 0 4 = 7 ∧ u.railDown.boot.running = false
        ∧ u.railDown.boot.released = false ∧ u.railDown.mem = s.flash
        ∧ u.railDown.supply.railFails = s.supply.railFails + 1
        ∧ u.railDown.supply.railDead = decide (1 ≤ s.supply.railFails) := by
    obtain ⟨-, -, hflash, -, -, -, -, -, -, -, -, -, -, -, -, -, -, -, hrun, -, hrel, -⟩ := u.resetBy_fresh 7 0
    obtain ⟨hcause, -⟩ := u.resetBy_cause 7 0
    rw [State.railDown_eq, ← hsupply]
    refine ⟨rfl, ?_, hrun, hrel, hflash.trans hmem, rfl, decide_eq_decide.mpr (by omega)⟩
    rw [State.regF, State.reg_withSupply, hcause]
    decide
  rw [State.startUp_fails h]
  split
  · exact hdown s rfl rfl
  · exact hdown _ (by rw [State.flash, State.setRegF_mem, State.flash]) (State.setRegF_supply ..)

theorem startUp_does : Claims.startUpRuns := by
  intro f bist s
  refine ⟨fun h => ⟨_, rfl, s.startUp_railFail h bist⟩, fun h => ⟨_, s.startUp_boots h bist, ?_⟩⟩
  obtain ⟨hframe, hlatch⟩ := s.railsUp_does f
  generalize s.railsUp f = u at hframe hlatch
  generalize u.regs = regs at hframe
  cases bist
  case false =>
    rw [if_neg Bool.false_ne_true]
    refine ⟨by rw [hframe], fun hself => by rw [hlatch, hself]; rfl, nofun, nofun,
      fun hself _ => by rw [hlatch, hself]; rfl, ?_⟩
    rw [hframe]
    exact ⟨rfl, rfl, rfl, rfl, rfl⟩
  case true =>
    rw [if_pos rfl]
    obtain ⟨hbist, hdomains, hhold⟩ := u.startBist_does f
    have hfuses : u.fuses = s.fuses := by rw [hframe]
    refine ⟨by rw [hbist, hframe], fun hself => ?_, fun _ d hvital hfail => ?_, fun _ hkind d hlo hhi hvital hfail => ?_,
      nofun, ?_⟩
    · rw [hhold, hlatch, hself]
      simp
    · have hholds : u.bistHolds f = true :=
        List.any_eq_true.mpr ⟨d, bistVital_range hvital, by simp [State.bistStart_fails hfail, hvital]⟩
      rw [hhold, hholds, Bool.true_or]
    · have hstrict : u.bistStrict = false := by simp [State.bistStrict, hfuses, hkind]
      rw [State.domain, hdomains, State.bistRecorded_domain]
      exact State.bistRecords_domain f bistDomains u d
        (.inr ⟨mem_bistDomains.mpr ⟨hlo, hhi⟩, State.bistStart_fails hfail, hstrict, hvital⟩)
    · rw [hbist, hframe]
      exact ⟨rfl, rfl, rfl, rfl, rfl⟩

/-! ### The checks of an image -/

/-- Check 1 of R479: MAGIC and LEN, and over the HRP the stream's length. -/
def ImgWhole (bs : List Nat) (hrp : Bool) : Prop := imgMagicOk bs = true ∧ (hrp = true → bs.length = imgLen bs + 64)

/-- The code of checks 3 to 6, which TEST leaves out. -/
def State.imgCode (s : State) (bs : List Nat) : Nat := if s.fuses.lifeCycle = .test then 0 else s.imgSigned bs

/-- How the checks of an image end (R479): the first that fails loads nothing and gives its number, and DEVELOP boots what checks
3 to 6 fail, unsigned; the decode table and the Breakwater block can fail outside TEST. -/
theorem State.bootTry_cases (s : State) (bs : List Nat) (hrp : Bool) :
    (¬ ImgWhole bs hrp ∧ s.bootTry bs hrp = ⟨1, false, s⟩)
      ∨ ImgWhole bs hrp ∧ (imgRulesOk bs hrp = false ∧ s.bootTry bs hrp = ⟨2, false, s⟩
        ∨ imgRulesOk bs hrp = true ∧
          (s.imgCode bs ≠ 0 ∧ s.fuses.lifeCycle ≠ .develop ∧ s.bootTry bs hrp = ⟨s.imgCode bs, false, s⟩
            ∨ (s.imgCode bs = 0 ∨ s.fuses.lifeCycle = .develop) ∧
              (s.fuses.lifeCycle ≠ .test ∧ (s.bootTry bs hrp = ⟨7, false, s⟩ ∨ s.bootTry bs hrp = ⟨8, false, s⟩)
                ∨ (s.bootTry bs hrp).result = 0 ∧ (s.bootTry bs hrp).unsigned = decide (s.imgCode bs ≠ 0)))) := by
  unfold State.bootTry
  extract_lets lc code s1 table _ _ s2
  split
  case isTrue h =>
    refine .inl ⟨fun ⟨hmagic, hlen⟩ => ?_, rfl⟩
    simp only [Bool.or_eq_true, Bool.not_eq_true', Bool.and_eq_true, decide_eq_true_eq, hmagic] at h
    obtain ⟨hhrp, hne⟩ := h.resolve_left nofun
    exact hne (hlen hhrp)
  case isFalse h =>
    simp only [Bool.or_eq_true, Bool.not_eq_true', Bool.and_eq_true, decide_eq_true_eq, not_or, not_and, not_not,
      Bool.not_eq_false] at h
    refine .inr ⟨h, ?_⟩
    split
    case isTrue hrules => exact .inl ⟨by simpa using hrules, rfl⟩
    case isFalse hrules =>
      refine .inr ⟨by simpa using hrules, ?_⟩
      split
      case isTrue hcode =>
        simp only [Bool.and_eq_true, decide_eq_true_eq] at hcode
        exact .inl ⟨hcode.1, hcode.2, rfl⟩
      case isFalse hcode =>
        simp only [Bool.and_eq_true, decide_eq_true_eq, not_and, not_not] at hcode
        refine .inr ⟨or_iff_not_imp_left.mpr hcode, ?_⟩
        split
        case isTrue htable =>
          simp only [Bool.and_eq_true, decide_eq_true_eq] at htable
          exact .inl ⟨htable.2, .inl rfl⟩
        case isFalse =>
          generalize (if s2.bwLocked = true then (true, s2) else s2.blockWrite bs) = written
          obtain ⟨ok, s3⟩ := written
          dsimp only
          split
          case isTrue hblock =>
            simp only [Bool.and_eq_true, decide_eq_true_eq] at hblock
            exact .inl ⟨hblock.2, .inr rfl⟩
          case isFalse => exact .inr ⟨rfl, rfl⟩

theorem State.imgSigned_lt (s : State) (bs : List Nat) : s.imgSigned bs < 16 := by
  unfold State.imgSigned
  dsimp only
  repeat' split
  all_goals decide

/-- RESULT fits its field of BOOT_STAT (R498). -/
theorem State.bootTry_result_lt (s : State) (bs : List Nat) (hrp : Bool) : (s.bootTry bs hrp).result < 16 := by
  have hcode : s.imgCode bs < 16 := by
    unfold State.imgCode
    split
    · decide
    · exact s.imgSigned_lt bs
  rcases s.bootTry_cases bs hrp with ⟨-, h⟩ | ⟨-, ⟨-, h⟩ | ⟨-, ⟨-, -, h⟩ | ⟨-, ⟨-, h | h⟩ | ⟨h, -⟩⟩⟩⟩ <;> rw [h]
  case inr.inr.inl => exact hcode
  all_goals simp

/-! What each way to end says of RESULT, of UNSIGNED, and of what is loaded. -/

theorem State.bootTry_failed {s : State} {bs : List Nat} {hrp : Bool} (h : (s.bootTry bs hrp).result ≠ 0) :
    (s.bootTry bs hrp).loaded = s := by
  rcases s.bootTry_cases bs hrp with ⟨-, ht⟩ | ⟨-, ⟨-, ht⟩ | ⟨-, ⟨-, -, ht⟩ | ⟨-, ⟨-, ht | ht⟩ | ⟨ht, -⟩⟩⟩⟩
  case inr.inr.inr.inr => exact absurd ht h
  all_goals rw [ht]

theorem State.bootTry_passed {s : State} {bs : List Nat} {hrp : Bool} (h : (s.bootTry bs hrp).result = 0) :
    ImgWhole bs hrp ∧ imgRulesOk bs hrp = true ∧ (s.imgCode bs = 0 ∨ s.fuses.lifeCycle = .develop)
      ∧ (s.bootTry bs hrp).unsigned = decide (s.imgCode bs ≠ 0) := by
  rcases s.bootTry_cases bs hrp with ⟨-, ht⟩ | ⟨hwhole, ⟨-, ht⟩ | ⟨hrules, ⟨hbad, -, ht⟩ | ⟨hpass, ⟨-, ht | ht⟩ | ⟨-, hu⟩⟩⟩⟩
  case inr.inr.inr.inr => exact ⟨hwhole, hrules, hpass, hu⟩
  case inr.inr.inl => exact absurd h (by rw [ht]; exact hbad)
  all_goals
    rw [ht] at h
    cases h

theorem State.bootTry_cut {bs : List Nat} {hrp : Bool} (s : State) (h : ¬ ImgWhole bs hrp) : (s.bootTry bs hrp).result = 1 := by
  obtain ⟨-, ht⟩ := (s.bootTry_cases bs hrp).resolve_right fun h' => h h'.1
  rw [ht]

theorem State.bootTry_misruled {bs : List Nat} {hrp : Bool} (s : State) (h : ImgWhole bs hrp) (hr : imgRulesOk bs hrp = false) :
    (s.bootTry bs hrp).result = 2 := by
  obtain ⟨-, hrest⟩ := (s.bootTry_cases bs hrp).resolve_left fun h' => h'.1 h
  obtain ⟨-, ht⟩ := hrest.resolve_right fun h' => Bool.false_ne_true (hr.symm.trans h'.1)
  rw [ht]

theorem State.bootTry_unsigned {bs : List Nat} {hrp : Bool} (s : State) (h : ImgWhole bs hrp) (hr : imgRulesOk bs hrp = true)
    (hbad : s.imgCode bs ≠ 0) (hlc : s.fuses.lifeCycle ≠ .develop) : (s.bootTry bs hrp).result = s.imgCode bs := by
  obtain ⟨-, hrest⟩ := (s.bootTry_cases bs hrp).resolve_left fun h' => h'.1 h
  obtain ⟨-, hrest⟩ := hrest.resolve_left fun h' => Bool.false_ne_true (h'.1.symm.trans hr)
  obtain ⟨-, -, ht⟩ := hrest.resolve_right fun h' => h'.1.elim hbad hlc
  rw [ht]

theorem State.bootTry_test {bs : List Nat} {hrp : Bool} (s : State) (h : ImgWhole bs hrp) (hr : imgRulesOk bs hrp = true)
    (hlc : s.fuses.lifeCycle = .test) : (s.bootTry bs hrp).result = 0 := by
  obtain ⟨-, hrest⟩ := (s.bootTry_cases bs hrp).resolve_left fun h' => h'.1 h
  obtain ⟨-, hrest⟩ := hrest.resolve_left fun h' => Bool.false_ne_true (h'.1.symm.trans hr)
  obtain ⟨-, hrest⟩ := hrest.resolve_left fun h' => h'.1 (if_pos hlc)
  exact (hrest.resolve_left fun h' => h'.1 hlc).1

theorem bootChecks_does : Claims.bootChecks := by
  intro bs hrp s
  have hfield (h : s.fuses.lifeCycle = .field ∨ s.fuses.lifeCycle = .return_) :
      s.imgCode bs = s.imgSigned bs ∧ s.fuses.lifeCycle ≠ .develop := by
    rcases h with h | h <;> exact ⟨if_neg (by rw [h]; decide), by rw [h]; decide⟩
  refine ⟨State.bootTry_failed, fun h => ?_, fun h hlc => ?_, fun h => s.bootTry_cut fun hw => ?_,
    fun hm hl hr => s.bootTry_misruled ⟨hm, hl⟩ hr, fun hm hl hr hbad => ⟨fun hlc => ?_, fun hlc h => ?_⟩,
    fun hm hl hr hlc => ?_⟩
  · obtain ⟨⟨hmagic, hlen⟩, hrules, -⟩ := State.bootTry_passed h
    exact ⟨hmagic, hrules, hlen⟩
  · obtain ⟨-, -, hpass, hu⟩ := State.bootTry_passed h
    obtain ⟨hcode, hdev⟩ := hfield hlc
    have hzero := hpass.resolve_right hdev
    exact ⟨hcode ▸ hzero, by rw [hu, hzero]; rfl⟩
  · exact Bool.false_ne_true (h.symm.trans hw.1)
  · obtain ⟨hcode, hdev⟩ := hfield hlc
    exact (s.bootTry_unsigned ⟨hm, hl⟩ hr (hcode ▸ hbad) hdev).trans hcode
  · obtain ⟨-, -, -, hu⟩ := State.bootTry_passed h
    rw [hu, State.imgCode, if_neg (by rw [hlc]; decide)]
    exact decide_eq_true hbad
  · have h := s.bootTry_test ⟨hm, hl⟩ hr hlc
    obtain ⟨-, -, -, hu⟩ := State.bootTry_passed h
    rw [hu, State.imgCode, if_pos hlc]
    exact ⟨h, rfl⟩

/-! ### The choice of an image -/

/-- The state in which the boot ROM runs, some ticks on (R476). -/
def State.inRom (s : State) (took : Nat) : State :=
  { s with now := (s.now + took) % 2 ^ 64, fieldNow := (s.fieldNow + took) % 2 ^ 64, boot := { s.boot with running := true } }

theorem State.romBoot_eq {s : State} (h : s.fuses.lifeCycle ≠ .return_) (took : Nat) :
    s.romBoot took = (s.inRom took).secureBoot := congrArg State.secureBoot (if_neg h)

theorem State.setReg_withBoot (s : State) (p : Page) (off : Nat) (w : Word) (boot : Boot) :
    { s.setReg p off w with boot := boot } = { s with regs := (s.setReg p off w).regs, boot := boot }
      ∧ { s.setReg p off w with boot := boot }.reg p off = w := ⟨rfl, s.reg_setReg p off w⟩

theorem State.bootFails_does (s : State) (result src : Nat) (wait : Bool) :
    s.bootFails result src wait
        = { s with regs := (s.bootFails result src wait).regs, boot := { s.boot with wait := wait, stream := [] } }
      ∧ (s.bootFails result src wait).reg .sboot 0x40 = wordOf (result + src * 16) := by
  simp only [State.bootFails, State.setReg_boot]
  exact s.setReg_withBoot .sboot 0x40 _ _

/-- SRC and RESULT of BOOT_STAT after a hand-over (R498). -/
theorem BootTry.fld_stat (t : BootTry) (bs : List Nat) {src : Nat} (h : src < 4) :
    fld (t.stat bs src) 4 2 = src ∧ fld (t.stat bs src) 0 4 = 0 := by
  simp only [BootTry.stat, fld, bitsN, wordOf, BitVec.toNat_ofNat]
  constructor <;> split <;> omega

theorem bootRuns_does : Claims.bootRuns := by
  intro took s u a b ta tb t cfg hlc
  have ht : t = u.secureBoot := State.romBoot_eq hlc took
  have hcfg : fld u.fuses.bootCfg 0 2 = cfg := rfl
  have hboots (x : BootTry) (bs : List Nat) (src : Nat) (hsrc : src < 4) (h : t = State.bootDone x bs src) :
      HandedOver x.loaded t ∧ t.regF .sboot 0x40 4 2 = src ∧ t.regF .sboot 0x40 0 4 = 0 := by
    obtain ⟨hover, hstat⟩ := bootDone_handsOver x bs src
    rw [h, State.regF, State.regF, hstat]
    exact ⟨hover, x.fld_stat bs hsrc⟩
  have hslots (h : cfg ≠ 1) : t = if tb.result = 0 ∧ (ta.result ≠ 0 ∨ imgN a 8 4 < imgN b 8 4) then State.bootDone tb b 1
      else if ta.result = 0 then State.bootDone ta a 0 else u.bootFails ta.result 0 (cfg = 2) := by
    rw [ht, State.secureBoot, if_neg h]
    refine ite_congr (by simp [ta, tb, a, b]) (fun _ => rfl) fun _ => rfl
  refine ⟨fun h => ?_, fun h hta htb => ?_, fun h htb hta => ?_, fun h hta htb => ?_⟩
  · have hfails : t = u.bootFails 0 2 true := by rw [ht, State.secureBoot, if_pos h]
    rw [hfails, (u.bootFails_does 0 2 true).1]
    exact ⟨rfl, rfl, rfl, rfl⟩
  · refine hboots ta a 0 (by decide) ?_
    rw [hslots h, if_neg (by omega), if_pos hta]
  · refine hboots tb b 1 (by decide) ?_
    rw [hslots h, if_pos ⟨htb, hta⟩]
  · have hfails : t = u.bootFails ta.result 0 (cfg = 2) := by
      rw [hslots h, if_neg fun h' => htb h'.1, if_neg hta]
    obtain ⟨hframe, hstat⟩ := u.bootFails_does ta.result 0 (cfg = 2)
    have hresult : fld (wordOf (ta.result + 0 * 16)) 0 4 = ta.result := by
      have hlt : ta.result < 16 := State.bootTry_result_lt u a false
      simp only [fld, bitsN, wordOf, BitVec.toNat_ofNat]
      omega
    rw [hfails, State.regF, hstat, hresult, hframe]
    exact ⟨rfl, rfl, rfl, rfl, rfl, rfl⟩

/-- Settles O15: start-up ends in a boot or in failed rails; a boot takes the better of the images that pass; and an image passes
by the checks in their order. -/
theorem startUpAndBoot : Obligations.StartUpAndBoot :=
  ⟨startUp_does, bootRuns_does, bootChecks_does⟩

end Sys2Proof.Machine
end

section
/-! PROOF. O58 fails in DEBUG_RESET, as in APPLICATION_RESET: both clear the four byte addresses of the lockstep register 0x40 from the
sparse register file, and of these four the claim exempts the first alone from the words of the field die that stand (R417, R491). -/
namespace Sys2Proof.Machine

/-- As reset leaves the part, but that its register file lists a word one byte into the lockstep register 0x40. -/
def lockstepByteListed : State := { State.reset with regs := [(Page.base .lks + 0x41, 1)] }

/-- The word is of the field die and none of those that the claim exempts; a debug reset returns it to 0. -/
theorem lockstepByteListed_debugReset :
    lockstepByteListed.computeRuns = true
      ∧ fieldWord (Page.base .lks + 0x41) = true
      ∧ lockstepByteListed.rd (Page.base .lks + 0x41) = 1
      ∧ ((lockstepByteListed.appReset lockstepByteListed.now).resetCause 6 0).rd (Page.base .lks + 0x41) = 0 := by
  decide +kernel

/-- Refutes O58: a debug reset clears a word at the second byte address of the lockstep register 0x40. -/
theorem not_resetCommands : ¬ Obligations.ResetCommands := by
  rintro ⟨-, -, -, hdebug, -⟩
  obtain ⟨hruns, hfield, hlisted, hcleared⟩ := lockstepByteListed_debugReset
  obtain ⟨-, hstands, -⟩ := (hdebug soundStart lockstepByteListed).1 (by decide) hruns
  have hkept := hstands (Page.base .lks + 0x41) hfield (by decide) (by decide)
  rw [hcleared, hlisted] at hkept
  cases hkept

end Sys2Proof.Machine
end

section
/-! PROOF. O59: the frames of the host reporting port, from their answer down to the memory that bursts reach, and the boot stream. -/
namespace Sys2Proof.Machine

/-! ### The answer of a frame -/

theorem Reason.code_lt (r : Reason) : r.code < 2 ^ 8 := by cases r <;> decide

/-- HRP_STAT and HRP_FRAMES after a frame, before its event is raised and the host sees the response. -/
def State.hrpStamped (s : State) (tag : Nat) (r : Reason) : State :=
  ((s.setRegF .hrp 0x40 8 8 tag).setRegF .hrp 0x40 16 8 r.code).wrapInc .hrp 0x44

theorem State.hrpAnswer_eq (s : State) (tag : Nat) (r : Reason) (data : Nat) :
    s.hrpAnswer tag r data = ((s.hrpStamped tag r).irqIf (decide (r ≠ .none)) .hrp 0).answer .host r data := by
  unfold State.hrpAnswer State.irqIf
  by_cases h : r = .none <;> simp [h] <;> rfl

theorem State.reg_hrpStamped (s : State) (tag : Nat) (r : Reason) :
    (s.hrpStamped tag r).reg .hrp 0x40 = setFld (setFld (s.reg .hrp 0x40) 8 8 tag) 16 8 r.code
      ∧ (s.hrpStamped tag r).reg .hrp 0x44 = s.reg .hrp 0x44 + 1 := by
  constructor
  · rw [State.reg, State.hrpStamped, State.rd_wrapInc_ne _ _ (by decide)]
    exact (State.reg_setRegF ..).trans (congrArg (setFld · 16 8 r.code) (State.reg_setRegF ..))
  · rw [State.hrpStamped, State.reg_wrapInc, State.reg, State.rd_setRegF_ne _ _ (by decide), State.rd_setRegF_ne _ _ (by decide)]
    rfl

theorem State.rd_hrpStamped_ne (s : State) (tag : Nat) (r : Reason) {a : Nat} (h : a ≠ Page.base .hrp + 0x40)
    (h' : a ≠ Page.base .hrp + 0x44) : (s.hrpStamped tag r).rd a = s.rd a := by
  rw [State.hrpStamped, State.rd_wrapInc_ne _ _ h', State.rd_setRegF_ne _ _ h, State.rd_setRegF_ne _ _ h]

theorem RegsFab.hrpStamped (s : State) (tag : Nat) (r : Reason) : RegsFab s (s.hrpStamped tag r) :=
  (RegsFab.setReg s .hrp 0x40 _).trans <| (RegsFab.setReg _ .hrp 0x40 _).trans (RegsFab.wrapInc _ .hrp 0x44 1)

theorem State.hrpAnswer_done (s : State) (tag : Nat) (r : Reason) (data : Nat) :
    HrpDone tag r data s (s.hrpAnswer tag r data) := by
  have hreg {o : Nat} (ho : o ≠ 0x20) : (s.hrpAnswer tag r data).reg .hrp o = (s.hrpStamped tag r).reg .hrp o := by
    rw [State.hrpAnswer_eq, State.reg, State.rd_answer, State.rd_irqIf_ne _ _ _ (by omega)]
    rfl
  obtain ⟨hstat, hframes⟩ := s.reg_hrpStamped tag r
  refine ⟨?_, ?_, ?_, ?_, fun h => ?_, fun a ha => ?_, ?_⟩
  · rw [State.hrpAnswer_eq, State.lastResp_answer]
  · rw [State.regF, hreg (by decide), hstat, fld_setFld_ne _ _ (by decide) (by decide)]
    exact fld_setFld _ _ (by decide)
  · rw [State.regF, hreg (by decide), hstat, fld_setFld _ _ (by decide), Nat.mod_eq_of_lt (Reason.code_lt r)]
  · rw [hreg (by decide), hframes]
  · rw [State.hrpAnswer_eq, State.regF, State.reg, State.rd_answer]
    exact State.regF_irqIf _ .hrp (decide_eq_true h) (by decide)
  · simp only [List.mem_cons, List.not_mem_nil, or_false, not_or] at ha
    obtain ⟨hs, hf, hi⟩ := ha
    rw [State.hrpAnswer_eq, State.rd_answer, State.rd_irqIf_ne _ _ _ hi, State.rd_hrpStamped_ne _ _ _ hs hf]
  · rw [State.hrpAnswer_eq]
    exact (RegsFab.hrpStamped s tag r).trans ((RegsFab.irqIf _ _ _ _).trans (RegsFab.answer _ _ _ _))

/-! ### Frames -/

/-! A command that is a frame ends as the frame does. -/

theorem hrpFrame_served {i : Instr} {s u : State} {act : State → Reason × Nat × State} {tag v : Nat} {r : Reason}
    (hi : exec i s = .next (s.hrpFrame tag true act)) (hruns : s.hrpRuns = true) (hact : act s = (r, v, u)) :
    Ends i s fun t => HrpDone tag r v u t := by
  have h : s.hrpFrame tag true act = u.hrpAnswer tag r v := by simp [State.hrpFrame, hruns, hact]
  exact ⟨_, hi.trans (congrArg _ h), u.hrpAnswer_done tag r v⟩

theorem hrpFrame_badCrc {i : Instr} {s : State} {act : State → Reason × Nat × State} {tag : Nat}
    (hi : exec i s = .next (s.hrpFrame tag false act)) (hruns : s.hrpRuns = true) :
    Ends i s fun t => HrpDone tag .e2e 0 (s.satInc .hrp 0x48) t := by
  have h : s.hrpFrame tag false act = (s.satInc .hrp 0x48).hrpAnswer tag .e2e 0 := by simp [State.hrpFrame, hruns]
  exact ⟨_, hi.trans (congrArg _ h), State.hrpAnswer_done _ tag .e2e 0⟩

theorem hrpFrame_stopped {i : Instr} {s : State} {act : State → Reason × Nat × State} {tag : Nat} {crcOk : Bool}
    (hi : exec i s = .next (s.hrpFrame tag crcOk act)) (hruns : s.hrpRuns = false) : Ends i s fun t => t = s :=
  ⟨_, hi, by simp [State.hrpFrame, hruns]⟩

theorem State.hrpRead_permitted {s : State} {a n : Nat} (h : s.guardFault .host .load a n = none) :
    s.hrpRead a n = s.accRead ⟨.host, a, n, 0, true⟩ := by
  simp only [State.hrpRead, h]

theorem hrpRead32_does : Claims.hrpRead32Does := fun _ _ _ _ _ _ =>
  ⟨fun hruns hguard hread => hrpFrame_served rfl hruns ((State.hrpRead_permitted hguard).trans hread), hrpFrame_badCrc rfl,
    hrpFrame_stopped rfl⟩

theorem hrpRead64_does : Claims.hrpRead64Does := fun _ _ _ _ _ _ =>
  ⟨fun hruns hguard hread => hrpFrame_served rfl hruns ((State.hrpRead_permitted hguard).trans hread), hrpFrame_badCrc rfl,
    hrpFrame_stopped rfl⟩

theorem State.hrpWrite_eq {s u : State} {a n v : Nat} (h : u = s.busWrite ⟨.host, a, n, v, true⟩) :
    s.hrpWrite a n v = ((u.lastResp .host).reason, 0, u) := by
  subst h
  rfl

theorem hrpWrite32_does : Claims.hrpWrite32Does := fun _ _ _ _ _ hwrite =>
  ⟨fun hruns => hrpFrame_served rfl hruns (State.hrpWrite_eq hwrite), hrpFrame_badCrc rfl, hrpFrame_stopped rfl⟩

theorem hrpWrite64_does : Claims.hrpWrite64Does := fun _ _ _ _ _ hwrite =>
  ⟨fun hruns => hrpFrame_served rfl hruns (State.hrpWrite_eq hwrite), hrpFrame_badCrc rfl, hrpFrame_stopped rfl⟩

/-- A masked write is one write of the word that the mask makes of the old one and the new. -/
theorem State.hrpRmw_eq (s : State) (a : Nat) (mask v : Word) : s.hrpRmw a mask.toNat v.toNat
    = s.hrpWrite a 4 (((BitVec.ofNat 32 (s.accRead ⟨.host, a, 4, 0, true⟩).2.1 &&& ~~~mask) ||| (v &&& mask)).toNat) := by
  simp only [State.hrpRmw, wordOf, BitVec.ofNat_toNat, BitVec.setWidth_eq]

theorem hrpRmw32_does : Claims.hrpRmw32Does := fun _ a mask v _ s hwrite =>
  ⟨fun hruns => hrpFrame_served rfl hruns ((s.hrpRmw_eq a mask v).trans (State.hrpWrite_eq hwrite)), hrpFrame_badCrc rfl,
    hrpFrame_stopped rfl⟩

theorem hrpStatus_does : Claims.hrpStatusDoes := fun _ _ =>
  ⟨fun hruns => hrpFrame_served rfl hruns rfl, hrpFrame_badCrc rfl, hrpFrame_stopped rfl⟩

theorem toNat_sat32 (n : Nat) : (sat32 n).toNat = min n (2 ^ 32 - 1) := by
  simp only [sat32, wordOf, BitVec.toNat_ofNat]
  omega

theorem hrpFrameAbort_does : Claims.hrpFrameAbortDoes := by
  intro s
  have hexec : exec .hrpFrameAbort s = .next (if s.hrpRuns then (s.satInc .hrp 0x4C).irqBit .hrp 1 else s) := rfl
  refine ⟨fun hruns => ⟨_, hexec.trans (congrArg _ (if_pos hruns)), ?_, State.regF_irqBit_self _ .hrp (by decide), fun a ha => ?_, ?_⟩,
    fun hruns => ⟨_, hexec.trans (congrArg _ (if_neg (by simp [hruns]))), rfl⟩⟩
  · rw [State.reg_irqBit_ne _ 1 (by decide), State.satInc, State.reg_setReg, toNat_sat32]
  · simp only [List.mem_cons, List.not_mem_nil, or_false, not_or] at ha
    obtain ⟨hcount, hirq⟩ := ha
    rw [State.rd_irqBit_ne _ _ hirq, State.rd_satInc_ne _ _ hcount]
  · exact (RegsFab.satInc s .hrp 0x4C 1).trans (RegsFab.irqBit _ .hrp 1)

/-! ### Bytes in runs -/

theorem readBytes_add (m : List Host.Cell) (a n k : Nat) : readBytes m a (n + k) = readBytes m a n ++ readBytes m (a + n) k := by
  simp only [readBytes, List.range_add, List.map_append, List.map_map, Function.comp_def, Nat.add_assoc]

theorem writeBytes_append (m : List Host.Cell) (a : Nat) (bs cs : List Nat) :
    writeBytes m a (bs ++ cs) = writeBytes (writeBytes m a bs) (a + bs.length) cs := by
  induction bs generalizing m a with
  | nil => rfl
  | cons b bs ih => rw [List.cons_append, writeBytes, writeBytes, ih, List.length_cons, Nat.add_right_comm, Nat.add_assoc]

theorem bytesLE_ofBytesLE {bs : List Nat} (h : ∀ b ∈ bs, b < 256) : bytesLE bs.length (ofBytesLE bs) = bs := by
  induction bs with
  | nil => rfl
  | cons b bs ih =>
    obtain ⟨hb, hbs⟩ := List.forall_mem_cons.mp h
    rw [List.length_cons, bytesLE_succ, ofBytesLE]
    rw [show (b % 256 + 256 * ofBytesLE bs) % 256 = b by omega, show (b % 256 + 256 * ofBytesLE bs) / 256 = ofBytesLE bs by omega,
      ih hbs]

theorem readBytes_lt {m : List Host.Cell} {a n b : Nat} (h : b ∈ readBytes m a n) : b < 256 := by
  obtain ⟨i, -, rfl⟩ := List.mem_map.mp h
  exact (readByte m (a + i)).isLt

theorem bytesLE_memN (s : State) (a n : Nat) : bytesLE n (s.memN a n) = readBytes s.mem a n := by
  have h := bytesLE_ofBytesLE (bs := readBytes s.mem a n) fun _ => readBytes_lt
  rwa [readBytes, List.length_map, List.length_range] at h

/-- The words of a run of memory, the first apart. -/
theorem wordParts_succ (a k : Nat) : wordParts a (4 * (k + 1)) = (a, 4) :: wordParts (a + 4) (4 * k) := by
  simp only [wordParts, Nat.mul_div_cancel_left _ (by decide : 0 < 4), List.range_succ_eq_map, List.map_cons, List.map_map]
  refine congrArg _ (List.map_congr_left fun i _ => ?_)
  exact congrArg (·, 4) (by simp only [Nat.succ_eq_add_one]; omega)

/-! ### Bursts of System SRAM's first bank -/

/-- A word of the first bank stands ready for the host. -/
theorem State.sramReady_host (s : State) {a : Nat} (hlo : 0x20000000 ≤ a) (hhi : a < 0x20200000) (ha : a % 4 = 0) :
    s.SramReady .host a 4 where
  decoded := by simp [State.decode, s.regionAt_sram hlo (by omega), State.reaches]
  aligned := fun _ => ha
  width := rfl
  on := by
    have hbank : sramBank a = 0 := Nat.div_eq_of_lt (by omega)
    rw [hbank]
    rfl

theorem State.partsRead_sram (s : State) (k : Nat) {a : Nat} (hlo : 0x20000000 ≤ a) (hhi : a + 4 * k ≤ 0x20200000)
    (ha : a % 4 = 0) : s.partsRead .host (wordParts a (4 * k)) = (.none, readBytes s.mem a (4 * k), s) := by
  induction k generalizing a with
  | zero => rfl
  | succ k ih =>
    rw [wordParts_succ, State.partsRead, (s.sramReady_host hlo (by omega) ha).accRead]
    simp only [ne_eq, not_true_eq_false, if_false, ih (a := a + 4) (by omega) (by omega) (by omega), bytesLE_memN]
    rw [← readBytes_add, Nat.mul_succ, Nat.add_comm]

/-- System SRAM's words are not arbitrated, so a write of one word meets no other. -/
theorem State.collides_sram (s : State) (m : Master) {a : Nat} (hlo : 0x20000000 ≤ a) (hhi : a < 0x20800000) :
    s.collides m a 4 = false := by
  have hword : s.arbitrated (a / 4 * 4) = false := by
    simp only [State.arbitrated, s.regionAt_sram (a := a / 4 * 4) (by omega) (by omega)]
  simp [State.collides, accWords, hword]

theorem State.SramReady.accWrite {s : State} {m : Master} {a n : Nat} (h : s.SramReady m a n) (v : Nat)
    (hmeets : s.collides m a n = false) :
    s.accWrite ⟨m, a, n, v, true⟩ = (.none, (s.arbitrate m a n).setMem a n (v % 2 ^ (8 * n))) := by
  have early : firstReason [(s.collides m a n, .collide), (n ≠ 0 && a % n ≠ 0, .align), (!widthOk .sram n, .width)] = .none := by
    simpa [firstReason_cons_eq_none, h.width, hmeets] using h.aligned
  simp only [State.accWrite, h.decoded, Bool.not_true, Bool.false_eq_true, if_false]
  rw [if_neg (not_not.mpr early), State.regionWrite]
  exact if_pos h.on

/-- A word of the first bank written by the host: memory takes the four bytes. -/
theorem State.accWrite_word (s : State) {a : Nat} {w : List Nat} (hlo : 0x20000000 ≤ a) (hhi : a < 0x20200000) (ha : a % 4 = 0)
    (hlen : w.length = 4) (hw : ∀ b ∈ w, b < 256) :
    ∃ t, s.accWrite ⟨.host, a, 4, ofBytesLE w, true⟩ = (.none, t) ∧ t.mem = writeBytes s.mem a w
      ∧ t = { s with mem := t.mem, tags := t.tags, fab := t.fab } := by
  refine ⟨_, (s.sramReady_host hlo hhi ha).accWrite _ (s.collides_sram .host hlo (by omega)), ?_, ?_⟩
  · have hbytes : bytesLE 4 (ofBytesLE w % 2 ^ (8 * 4)) = w := by
      rw [← ofBytesLE_bytesLE]
      have h := bytesLE_ofBytesLE hw
      rw [hlen] at h
      rw [h, h]
    rw [State.setMem_mem, hbytes]
    rfl
  · rw [State.setMem_frame]
    rfl

theorem State.partsTry_sram (k : Nat) {s : State} {a : Nat} {bs : List Nat} (hlo : 0x20000000 ≤ a)
    (hhi : a + 4 * k ≤ 0x20200000) (ha : a % 4 = 0) (hlen : bs.length = 4 * k) (hbs : ∀ b ∈ bs, b < 256) :
    ∃ t, s.partsTry .host (wordParts a (4 * k)) bs = (.none, 0, 0, t) ∧ t.mem = writeBytes s.mem a bs
      ∧ t = { s with mem := t.mem, tags := t.tags, fab := t.fab } := by
  induction k generalizing s a bs with
  | zero =>
    obtain rfl := List.eq_nil_of_length_eq_zero hlen
    exact ⟨s, rfl, rfl, rfl⟩
  | succ k ih =>
    have hword : (bs.take 4).length = 4 := by rw [List.length_take, hlen]; omega
    obtain ⟨u, hu, humem, huframe⟩ := s.accWrite_word hlo (by omega) ha hword fun b hb => hbs b (List.mem_of_mem_take hb)
    obtain ⟨t, ht, htmem, htframe⟩ := ih (s := u) (a := a + 4) (bs := bs.drop 4) (by omega) (by omega) (by omega)
      (by rw [List.length_drop, hlen]; omega) fun b hb => hbs b (List.mem_of_mem_drop hb)
    refine ⟨t, ?_, ?_, ?_⟩
    · rw [wordParts_succ, State.partsTry, hu]
      exact ht
    · rw [htmem, humem]
      conv_rhs => rw [← List.take_append_drop 4 bs, writeBytes_append, hword]
    · rw [huframe] at htframe
      exact htframe

/-! ### What refuses a burst -/

theorem State.burstReason_length (s : State) (k : AccessKind) (a : Nat) {n : Nat} (h : n < 4 ∨ 256 < n ∨ n % 4 ≠ 0) :
    s.burstReason k a n = (.range, s) := by
  unfold State.burstReason
  rw [if_pos (by simpa [or_assoc] using h)]

theorem State.burstReason_aligned {s : State} {k : AccessKind} {a n : Nat} (hlo : 4 ≤ n) (hhi : n ≤ 256) (hn : n % 4 = 0)
    (hguard : s.guardFault .host k a n = none) (ha : a % 4 = 0)
    (hwords : ∀ i, i < n / 4 → s.decode .host (a + 4 * i) 4 ≠ none ∨ mapRow (a + 4 * i) = 9) :
    s.burstReason k a n = if mapRow a = 9 ∨ mapRow a ≠ mapRow (a + n - 1) then (.width, s) else (.none, s) := by
  have hparts : ((wordParts a n).any fun p => (s.decode .host p.1 4).isNone && mapRow p.1 ≠ 9) = false := by
    simp only [wordParts, List.any_eq_false, List.mem_map, List.mem_range]
    rintro _ ⟨i, hi, rfl⟩
    rcases hwords i hi with h | h <;> simp [h]
  unfold State.burstReason
  rw [if_neg (by simp; omega), hguard]
  simp only [hparts, ha]
  simp

theorem mapRow_sram {a : Nat} (hlo : 0x20000000 ≤ a) (hhi : a < 0x20800000) : mapRow a = 3 := by
  unfold mapRow
  rw [if_neg (by omega), if_neg (by simp; omega), if_neg (by simp; omega), if_pos (by simp; omega)]

theorem mapRow_registers {a : Nat} (hlo : 0x40000000 ≤ a) (hhi : a < 0x41000000) : mapRow a = 9 := by
  unfold mapRow
  repeat rw [if_neg (by simp; omega)]
  rw [if_pos (by simp; omega)]

theorem State.burstReason_sram {s : State} {k : AccessKind} {a n : Nat} (hguard : s.guardFault .host k a n = none)
    (hlo : 0x20000000 ≤ a) (hhi : a + n ≤ 0x20200000) (ha : a % 4 = 0) (hn : 4 ≤ n) (hn' : n ≤ 256) (hw : n % 4 = 0) :
    s.burstReason k a n = (.none, s) := by
  rw [State.burstReason_aligned hn hn' hw hguard ha fun i hi => .inl ?_, mapRow_sram hlo (by omega), mapRow_sram (by omega) (by omega),
    if_neg (by decide)]
  rw [(s.sramReady_host (by omega) (by omega) (by omega)).decoded]
  nofun

theorem State.burstReason_registers {s : State} {k : AccessKind} {a n : Nat} (hguard : s.guardFault .host k a n = none)
    (ha : a % 4 = 0) (hn : 4 ≤ n) (hn' : n ≤ 256) (hw : n % 4 = 0) (hlo : 0x40000000 ≤ a) (hhi : a + n ≤ 0x40001000) :
    s.burstReason k a n = (.width, s) := by
  rw [State.burstReason_aligned hn hn' hw hguard ha fun i hi => .inr (mapRow_registers (by omega) (by omega)),
    if_pos (.inl (mapRow_registers hlo (by omega)))]

/-! ### Burst commands -/

theorem State.hrpBurstRead_refused {s : State} {a n : Nat} {r : Reason} (h : s.burstReason .load a n = (r, s)) (hr : r ≠ .none) :
    s.hrpBurstRead a n = (r, 0, s) := by
  simp only [State.hrpBurstRead, h, if_pos hr]

theorem State.hrpBurstWrite_refused {s : State} {a : Nat} {bs : List Nat} {r : Reason}
    (h : s.burstReason .store a bs.length = (r, s)) (hr : r ≠ .none) : s.hrpBurstWrite a bs = (r, 0, s) := by
  simp only [State.hrpBurstWrite, h, if_pos hr]

theorem State.hrpBurstWrite_taken {s u : State} {a : Nat} {bs : List Nat} (h : s.burstReason .store a bs.length = (.none, s))
    (htry : s.partsTry .host (wordParts a bs.length) bs = (.none, 0, 0, u)) : s.hrpBurstWrite a bs = (.none, 0, u) := by
  simp only [State.hrpBurstWrite, State.partsWrite, h, htry]
  rfl

theorem hrpBurstRead_does : Claims.hrpBurstReadDoes := by
  intro tag a n s
  refine ⟨fun hruns hlen => ?_, fun hruns hguard hlo hhi ha hn hn' hw => ?_, fun hruns hguard ha hn hn' hw hlo hhi => ?_,
    hrpFrame_badCrc rfl, hrpFrame_stopped rfl⟩
  · exact hrpFrame_served rfl hruns (State.hrpBurstRead_refused (s.burstReason_length .load a hlen) nofun)
  · refine hrpFrame_served (act := fun s => s.hrpBurstRead a n) rfl hruns ?_
    obtain ⟨k, rfl⟩ := Nat.dvd_of_mod_eq_zero hw
    simp only [State.hrpBurstRead, State.burstReason_sram hguard hlo hhi ha hn hn' hw, s.partsRead_sram k hlo hhi ha]
    rfl
  · exact hrpFrame_served rfl hruns
      (State.hrpBurstRead_refused (State.burstReason_registers hguard ha hn hn' hw hlo hhi) nofun)

theorem hrpBurstWrite_does : Claims.hrpBurstWriteDoes := by
  intro tag a bs s bad n
  refine ⟨fun hruns hlen => ?_, fun hruns hguard hlo hhi ha hn hn' hw hbytes => ?_, fun hruns hguard ha hn hn' hw hlo hhi => ?_,
    hrpFrame_badCrc rfl, hrpFrame_stopped rfl⟩
  · exact hrpFrame_served rfl hruns (State.hrpBurstWrite_refused (s.burstReason_length .store a hlen) nofun)
  · have hbs : ∀ b ∈ bs, b < 256 := by simpa using hbytes
    obtain ⟨k, hk⟩ : 4 ∣ bs.length := Nat.dvd_of_mod_eq_zero hw
    obtain ⟨u, hu, humem, huframe⟩ := State.partsTry_sram k (s := s) hlo (by omega) ha hk hbs
    rw [← hk] at hu
    have hact : s.hrpBurstWrite a bs = (.none, 0, u) :=
      State.hrpBurstWrite_taken (State.burstReason_sram hguard hlo hhi ha hn hn' hw) hu
    obtain ⟨t, ht, hresp, htag, -, hcount, -, -, hframe⟩ :=
      hrpFrame_served (i := .hrpBurstWrite tag a bs true) (act := fun s => s.hrpBurstWrite a bs) (tag := tag) rfl hruns hact
    have hmem : t.mem = writeBytes s.mem a bs := by rw [hframe, humem]
    refine ⟨t, ht, by rw [hresp], ?_, fun x hx => ?_, htag, ?_⟩
    · rw [hmem]
      exact readBytes_writeBytes s.mem a bs hbs
    · rw [hmem]
      exact readByte_writeBytes_out bs s.mem a x hx
    · rw [hcount, huframe]
      rfl
  · exact hrpFrame_served rfl hruns
      (State.hrpBurstWrite_refused (State.burstReason_registers hguard ha hn hn' hw hlo hhi) nofun)

/-! ### Writes of the HRP page -/

/-- An accepted write leaves what `State.tookPage` says, on the HRP page also, before BOOT_GO's boot. -/
theorem fabricWrite_took {s : State} {m : Master} {p : Page} {off n v : Nat} (hv : p.valid = true) (ho : off < 0x1000)
    (h : s.accepts ⟨m, p.base + off, n, v, true⟩) : s.fabricWrite ⟨m, p.base + off, n, v, true⟩ = s.tookPage m p off n v := by
  obtain ⟨-, hreason, -, -, hwrite⟩ := fabricWrite_page hv ho h
  rw [hwrite]
  unfold State.pageWrite State.tookPage
  simp only [hreason, if_true]
  by_cases hk : p = .slk ∧ m = .headland <;> simp [hk]

theorem State.pageApply_hrpClr (s : State) (m : Master) : s.pageApply ⟨m, .hrp, 0x54, false, 1⟩
    = ((s.setReg .hrp 0x54 (s.reg .hrp 0x54)).setReg .hrp 0x48 0).setReg .hrp 0x4C 0 := by
  have hafter : s.after ⟨m, .hrp, 0x54, false, 1⟩ 0x54 = s.reg .hrp 0x54 :=
    RegDef.merge_writeOnly (d := rg 0x54 (wo := 1)) rfl rfl _ _
  have hcmd : bit (wordOf 1) 0 = true := by decide
  have honce : (regAt .hrp 0x54).any RegDef.once = false := by decide
  have hbreach : breachWord .hrp 0x54 = false := by decide
  simp [State.pageApply, State.pageEff, effHrp, State.store, State.spend, Wr.offs, Wr.hits, Wr.word, hafter, hcmd, honce,
    hbreach]

theorem busWrite_hrpClr {s : State} {m : Master} (h : s.accepts (put32 m .hrp 0x54 1)) :
    s.pageWr m .hrp 0x54 1 = s.tookPage m .hrp 0x54 4 1 := by
  have hwrite : s.pageWr m .hrp 0x54 1 = s.busWrite (put32 m .hrp 0x54 1) := rfl
  have hgo : ¬ (s.boot.wait && (decide (Page.base .hrp + 0x54 = Page.base .hrp + 0x50)
      || decide (Page.base .hrp + 0x54 + 4 = Page.base .hrp + 0x50) && decide (4 = 8))
      && decide (((s.tookPage m .hrp 0x54 4 1).lastResp m).reason = .none)) = true := by
    simp only [Bool.and_eq_true, Bool.or_eq_true, decide_eq_true_eq]
    omega
  rw [hwrite, State.busWrite, h.1, fabricWrite_took rfl (by decide) h]
  exact if_neg hgo

theorem hrpClr_does : Claims.hrpClrDoes := by
  intro m s h
  let s0 := s.arbitrate m (Page.base .hrp + 0x54) 4
  let k := s0.keyAfter ⟨m, .hrp, 0x54, false, 1⟩ true
  let s1 := s0.setReg .hrp 0x54 (s0.reg .hrp 0x54)
  have ht : s.pageWr m .hrp 0x54 1 = (((s1.setReg .hrp 0x48 0).setReg .hrp 0x4C 0).setKeys .hrp k).answer m .none := by
    have happly := s0.pageApply_hrpClr m
    rw [busWrite_hrpClr h, ← happly]
    rfl
  refine ⟨_, rfl, ?_⟩
  rw [ht]
  refine ⟨fun o ho => ?_, fun a ha => ?_, State.written_setKeys (a := Page.base .hrp + 0x54) (n := 4) .hrp k ?_, ?_⟩
  · rw [State.reg, State.rd_answer, State.rd_setKeys]
    rcases List.mem_pair.mp ho with rfl | rfl
    · rw [State.rd_setReg_ne _ _ (by decide)]
      exact State.reg_setReg _ _ _ _
    · exact State.reg_setReg _ _ _ _
  · obtain ⟨hcrc, habort⟩ := not_or.mp (mt List.mem_pair.mpr ha)
    rw [State.rd_answer, State.rd_setKeys, State.rd_setReg_ne _ _ habort, State.rd_setReg_ne _ _ hcrc, State.rd_setReg_self,
      State.rd_arbitrate]
  · rw [State.setReg_fab, State.setReg_fab, State.setReg_fab]
  · exact (RegsFab.arbitrate s m _ 4).trans <| (RegsFab.setReg _ _ _ _).trans <| (RegsFab.setReg _ _ _ _).trans <|
      (RegsFab.setReg _ _ _ _).trans <| (RegsFab.setKeys _ _ _).trans (RegsFab.answer _ _ _ _)

/-! ### Memory cleared -/

theorem readByte_clearMem (s : State) (lo hi a : Nat) :
    readByte (s.clearMem lo hi).mem a = if lo ≤ a ∧ a < hi then 0 else readByte s.mem a := by
  simp only [readByte, State.clearMem, tabGet, tabGet?_clear]
  split <;> rfl

theorem State.clearRam_does (s : State) : RamCleared s.clearRam ∧ SameMemoryBut 0 0x50000000 s s.clearRam := by
  refine ⟨⟨fun a ha => ?_, fun g hg => ?_⟩, fun a ha => ?_⟩
  · simp only [State.clearRam, readByte_clearMem]
    split_ifs
    · rfl
    · rfl
    · rfl
    · omega
  · simp only [State.clearRam, State.clearMem, List.mem_filter, Bool.or_eq_true, decide_eq_true_eq] at hg
    simp only [tagMemory, Bool.or_eq_false_iff, Bool.and_eq_false_iff, decide_eq_false_iff_not]
    omega
  · simp only [State.clearRam, readByte_clearMem]
    rw [if_neg (by omega), if_neg (by omega), if_neg (by omega)]

theorem RamCleared.congr {s t : State} (h : RamCleared s) (hmem : t.mem = s.mem) (htags : t.tags = s.tags) : RamCleared t := by
  unfold RamCleared
  rw [hmem, htags]
  exact h

/-! ### The boot stream -/

theorem State.bootStream_refuses {s : State} {len r : Nat} (hwait : s.boot.wait = true)
    (h : (if s.boot.stream.length = len then s.bootTry s.boot.stream true else ⟨1, false, s⟩).result = r) (hr : r ≠ 0) :
    s.bootStream len = s.clearRam.bootFails r 2 true := by
  unfold State.bootStream
  rw [if_neg (by simp [hwait])]
  simp only [h, if_neg hr]

theorem State.bootStream_boots {s : State} {len : Nat} (hwait : s.boot.wait = true) (hlen : s.boot.stream.length = len)
    (h : (s.bootTry s.boot.stream true).result = 0) :
    s.bootStream len = State.bootDone (s.bootTry s.boot.stream true) s.boot.stream 2 := by
  unfold State.bootStream
  rw [if_neg (by simp [hwait])]
  simp only [if_pos hlen, h, if_true]

/-- What a stream that is refused leaves: RESULT, memory cleared, and a boot ROM that waits on (R483). -/
theorem State.bootFails_stream (s : State) (r : Nat) :
    let t := s.clearRam.bootFails r 2 true
    t.boot.wait = true ∧ t.boot.stream = [] ∧ t.boot.firmware = s.boot.firmware ∧ t.reg .sboot 0x40 = BitVec.ofNat 32 (r + 32)
      ∧ RamCleared t ∧ SameMemoryBut 0 0x50000000 s t := by
  obtain ⟨hframe, hstat⟩ := s.clearRam.bootFails_does r 2 true
  obtain ⟨hcleared, hsame⟩ := s.clearRam_does
  have hboot : (s.clearRam.bootFails r 2 true).boot = _ := congrArg State.boot hframe
  have hmem : (s.clearRam.bootFails r 2 true).mem = s.clearRam.mem := (congrArg State.mem hframe :)
  refine ⟨(congrArg Boot.wait hboot :), (congrArg Boot.stream hboot :), (congrArg Boot.firmware hboot :), by rw [hstat, wordOf],
    hcleared.congr hmem (congrArg State.tags hframe :), fun a ha => ?_⟩
  rw [hmem]
  exact hsame a ha

/-- BOOT_GO is stored, and no block of the page hears of it. -/
theorem State.pageApply_bootGo (s : State) (m : Master) (v : Nat) :
    s.pageApply ⟨m, .hrp, 0x50, false, v⟩ = s.setReg .hrp 0x50 (s.after ⟨m, .hrp, 0x50, false, v⟩ 0x50) := by
  have honce : (regAt .hrp 0x50).any RegDef.once = false := by decide
  have hbreach : breachWord .hrp 0x50 = false := by decide
  simp [State.pageApply, State.pageEff, effHrp, State.store, State.spend, Wr.offs, Wr.hits, honce, hbreach]

/-- An accepted BOOT_GO: the boot ROM waits, and it finds its own facts and memory as they were. -/
theorem bootGo_taken {s : State} {m : Master} {len : Nat} (h : s.accepts (put32 m .hrp 0x50 len)) :
    s.boot.wait = true ∧ RegsFab s (s.fabricWrite (put32 m .hrp 0x50 len))
      ∧ ((s.fabricWrite (put32 m .hrp 0x50 len)).lastResp m).reason = .none := by
  obtain ⟨-, hreason, -⟩ := fabricWrite_page (p := .hrp) rfl (by decide) h
  have hwait : s.boot.wait = true := by
    simp only [State.pageReason, firstReason_cons_eq_none, ne_eq, reduceCtorEq, not_false_eq_true] at hreason
    obtain ⟨-, -, -, -, -, -, -, -, -, -, hstate, -⟩ := hreason
    have hchk := (Bool.or_eq_false_iff.mp hstate).2
    simpa [State.pageChk, chkHrp, Wr.hits] using hchk
  rw [fabricWrite_took (p := .hrp) rfl (by decide) h]
  refine ⟨hwait, ?_, ?_⟩
  · unfold State.tookPage
    dsimp only
    rw [if_neg (by simp), show decide (4 = 8) = false from rfl, State.pageApply_bootGo]
    exact (RegsFab.arbitrate s m _ 4).trans <| (RegsFab.setReg _ _ _ _).trans <|
      (RegsFab.setKeys _ _ _).trans (RegsFab.answer _ _ _ _)
  · rw [State.tookPage, State.lastResp_answer]

theorem bootGo_streams {s : State} {m : Master} {len : Nat} (h : s.accepts (put32 m .hrp 0x50 len)) (hlen : len < 2 ^ 24) :
    s.pageWr m .hrp 0x50 len = (s.fabricWrite (put32 m .hrp 0x50 len)).bootStream len := by
  obtain ⟨hwait, -, hresp⟩ := bootGo_taken h
  have hwrite : s.pageWr m .hrp 0x50 len = s.busWrite (put32 m .hrp 0x50 len) := rfl
  rw [hwrite, State.busWrite, h.1]
  simp only [hwait, hresp]
  simp [Nat.mod_eq_of_lt (by omega : len < 16777216)]

theorem bootGo_does : Claims.bootGoDoes := by
  intro m len s bs u fails h hlen
  obtain ⟨hwait, hframe, -⟩ := bootGo_taken h
  have hgo := bootGo_streams h hlen
  have hexec : exec (.bootGo m len) s = .next (s.pageWr m .hrp 0x50 len) := rfl
  unfold RegsFab at hframe
  have hboot : u.boot = s.boot := (congrArg State.boot hframe :)
  have hmem : u.mem = s.mem := (congrArg State.mem hframe :)
  have huwait : u.boot.wait = true := by rw [hboot, hwait]
  have hstream : u.boot.stream = bs := by rw [hboot]
  have hfails (r : Nat) (ht : u.bootStream len = u.clearRam.bootFails r 2 true) : Ends (.bootGo m len) s fun t => fails r t := by
    obtain ⟨h1, h2, h3, h4, h5, h6⟩ := u.bootFails_stream r
    refine ⟨_, hexec.trans <| congrArg _ (hgo.trans ht), h1, h2, h3.trans (by rw [hboot]), h4, h5, fun a ha => (h6 a ha).trans (by rw [hmem])⟩
  refine ⟨hwait, fun hne => hfails 1 ?_, fun heq hr => hfails _ ?_, fun heq hr => ?_⟩
  · exact State.bootStream_refuses huwait (by rw [hstream, if_neg hne]) (by decide)
  · exact State.bootStream_refuses huwait (by rw [hstream, if_pos heq]) hr
  · refine ⟨_, hexec.trans <| congrArg _ (hgo.trans (State.bootStream_boots huwait (by rw [hstream, heq]) (by rw [hstream]; exact hr))), ?_⟩
    rw [hstream]
    exact (bootDone_handsOver _ bs 2).1

/-- Settles O59: every frame is answered and counted; bursts reach memory alone; and a boot stream boots or is refused. -/
theorem hostPort : Obligations.HostPort :=
  ⟨hrpRead32_does, hrpWrite32_does, hrpRead64_does, hrpWrite64_does, hrpRmw32_does, hrpBurstRead_does, hrpBurstWrite_does,
    hrpStatus_does, hrpFrameAbort_does, hrpClr_does, bootGo_does⟩

end Sys2Proof.Machine
end
